-- ==== Sys2Proof/Word.lean ====
section
/-! DEFINITION. The word types of the device: 32-bit registers, bytes, and the robot and
Easel numbers of Table 0-3. -/

namespace Sys2Proof

/-- A 32-bit register or operand word (R7). -/
abbrev Word := BitVec 32

/-- One byte. -/
abbrev Byte := BitVec 8

/-- A 64-bit register, time or digest. -/
abbrev Word64 := BitVec 64

/-- An Easel lane register: eight 32-bit lanes (R69). -/
abbrev Lanes := Vector Word 8

/-- An accumulator: eight 64-bit lanes (R69). -/
abbrev Accs := Vector Word64 8

end Sys2Proof
end

