-- ==== Sys2Proof/Machine/Bits.lean ====
section
/-! DEFINITION. Bit fields, byte order and saturating counters, as every register table
and record layout of the device uses them (R5 to R8). -/

namespace Sys2Proof.Machine

/-- Field of `width` bits at bit `lsb` of a number. -/
def bitsOf (v lsb width : Nat) : Nat := v / 2 ^ lsb % 2 ^ width

/-- Field of a 32-bit register word. -/
def fieldOf (w : Word) (lsb width : Nat) : Nat := bitsOf w.toNat lsb width

/-- One bit of a register word. -/
def flagOf (w : Word) (lsb : Nat) : Bool := fieldOf w lsb 1 == 1

/-- A flag as a one-bit number. -/
def bit (b : Bool) : Nat := if b then 1 else 0

/-- A number from fields `(lsb, width, value)`; each value is cut to its width, and bits no
field names are 0 (R8). -/
def packNat : List (Nat × Nat × Nat) → Nat
  | [] => 0
  | (l, w, v) :: t => v % 2 ^ w * 2 ^ l + packNat t

/-- A 32-bit register word from its fields. -/
def pack (fs : List (Nat × Nat × Nat)) : Word := BitVec.ofNat 32 (packNat fs)

/-- Two's complement value of the low `w` bits of `n`. -/
def signedOf (w n : Nat) : Int :=
  let m := n % 2 ^ w
  if m < 2 ^ (w - 1) then (m : Int) else (m : Int) - (2 ^ w : Nat)

/-- Two's complement code of an integer in `w` bits. -/
def codeOf (w : Nat) (i : Int) : Nat := (i % ((2 ^ w : Nat) : Int)).toNat

/-- An integer brought into the signed range of `w` bits. -/
def clampS (w : Nat) (i : Int) : Int :=
  max (-((2 ^ (w - 1) : Nat) : Int)) (min i (((2 ^ (w - 1) : Nat) : Int) - 1))

/-- A saturating counter raised by `n`, with greatest value `2^w − 1`. -/
def satAdd (w c n : Nat) : Nat := min (2 ^ w - 1) (c + n)

/-- The two 32-bit halves of a 64-bit value. -/
def lo32 (n : Nat) : Word := BitVec.ofNat 32 n

def hi32 (n : Nat) : Word := BitVec.ofNat 32 (n / 2 ^ 32)

/-- Arithmetic shift right of an integer: division rounding toward minus infinity. -/
def sar (i : Int) (n : Nat) : Int := i / ((2 ^ n : Nat) : Int)

/-- Division rounding to nearest, halves away from zero. -/
def divRound (a b : Int) : Int :=
  if b = 0 then 0
  else if 0 ≤ a then (a + b / 2) / b else -((-a + b / 2) / b)

/-- Division rounding up, of naturals. -/
def ceilDiv (a b : Nat) : Nat := (a + b - 1) / b

/-- Little-endian bytes of a number (R5). -/
def toLE : Nat → Nat → List Byte
  | 0, _ => []
  | k + 1, n => BitVec.ofNat 8 n :: toLE k (n / 256)

/-- Big-endian bytes of a number. -/
def toBE (k n : Nat) : List Byte := (toLE k n).reverse

/-- Number held little-endian in bytes (R5). -/
def ofLE : List Byte → Nat
  | [] => 0
  | b :: t => b.toNat + 256 * ofLE t

/-- Number held big-endian in bytes. -/
def ofBE (l : List Byte) : Nat := ofLE l.reverse

/-- `len` bytes from offset `off`, 0 past the end. -/
def bytesAt (l : List Byte) (off len : Nat) : List Byte :=
  let t := (l.drop off).take len
  t ++ List.replicate (len - t.length) 0

/-- Little-endian field of `len` bytes at `off`. -/
def leAt (l : List Byte) (off len : Nat) : Nat := ofLE (bytesAt l off len)

/-- Signed little-endian field. -/
def sleAt (l : List Byte) (off len : Nat) : Int := signedOf (8 * len) (leAt l off len)

/-- Replace the element at an index, if there is one. -/
def listSet {α : Type} (l : List α) (i : Nat) (v : α) : List α := l.set i v

/-- Apply a function to the element at an index, if there is one. -/
def listMod {α : Type} (l : List α) (i : Nat) (f : α → α) : List α :=
  match l[i]? with
  | some v => l.set i (f v)
  | none => l

/-- Integer square root by Newton steps is not needed by the device's tables; this is the
plain search over `n` candidates from above, `⌊√m⌋`. -/
def isqrtAux (m : Nat) : Nat → Nat → Nat
  | 0, r => r
  | k + 1, r => let c := r + 2 ^ k
                if c * c ≤ m then isqrtAux m k c else isqrtAux m k r

/-- `⌊√m⌋` for `m < 2^128`. -/
def isqrt (m : Nat) : Nat := isqrtAux m 64 0

/-- A list in order by a comparison, by insertion. -/
def insertBy {α : Type} (le : α → α → Bool) (x : α) : List α → List α
  | [] => [x]
  | y :: t => if le x y then x :: y :: t else y :: insertBy le x t

def sortBy {α : Type} (le : α → α → Bool) (l : List α) : List α := l.foldr (insertBy le) []

end Sys2Proof.Machine
end

