-- ==== Sys2Proof/Base.lean ====
section
/-! DEFINITION. The types the operands of commands are made of, and the instructions an Easel
decodes (R98 to R123). -/

namespace Sys2Proof

/-- A general register g0-g31, a vector register v0-v15, an accumulator a0-a3 (R69). -/
abbrev GReg := Fin 32
abbrev VReg := Fin 16
abbrev AReg := Fin 4

/-- What a SECDED memory found when a word was read: nothing, a single-bit error it corrected, or
an uncorrectable error (R75). The world supplies it. -/
inductive Ecc where
  | ok | corrected | uncorrectable
deriving DecidableEq, Repr

/-- The Easel an instruction issues on, and what the fetch of its word found (R75); `second` is what a LOOP's
second word showed. -/
structure At where
  k : Fin 8
  fetch : Ecc
  second : Ecc
deriving DecidableEq, Repr

/-- Register operations of Table 4-3 but CLZ. -/
inductive AluOp where
  | add | sub | and | or | xor | sll | srl | sra | slt | sltu | min | max | adds | subs
deriving DecidableEq, Repr

/-- Immediate operations 0x01 to 0x06 of Table 4-4. -/
inductive ImmOp where
  | addi | andi | ori | xori | slti | sltiu
deriving DecidableEq, Repr

/-- Shifts by an immediate, scalar (op 0x09) and lane (op 0x20). -/
inductive ShOp where
  | sll | srl | sra
deriving DecidableEq, Repr

/-- Field operations of op 0x0A. -/
inductive FieldOp where
  | ext | exts | ins
deriving DecidableEq, Repr

/-- Multiplies and divides of Table 4-5. -/
inductive MulOp where
  | mul | mulh | mulhu
deriving DecidableEq, Repr

inductive DivOp where
  | div | divu | rem | remu
deriving DecidableEq, Repr

/-- Two-source lane operations of Table 4-6. -/
inductive LaneOp where
  | vadd | vsub | vand | vor | vxor | vadds | vsubs | vmin | vmax | vceq | vclt | vcltu
deriving DecidableEq, Repr

inductive VMulOp where
  | vmul | vmulh
deriving DecidableEq, Repr

inductive MacOp where
  | vmac | vmsu
deriving DecidableEq, Repr

/-- Accumulator reads AMOV, AMOVR (with a shift) and AMOVL, AMOVH. -/
inductive AmovOp where
  | amov | amovr
deriving DecidableEq, Repr

inductive AhalfOp where
  | amovl | amovh
deriving DecidableEq, Repr

/-- Conditional branches of Table 4-10. -/
inductive BrOp where
  | beq | bne | blt | bge | bltu | bgeu
deriving DecidableEq, Repr

/-- Asynchronous fabric operations of Table 4-12. -/
inductive AsyncOp where
  | fgrant | fstk | floop | fpput | fpget
deriving DecidableEq, Repr

/-- Kinds FSTOP may raise (R121). -/
inductive StopArg where
  | zone | robot
deriving DecidableEq, Repr

/-- The instructions an Easel decodes, by format (Table 4-2). Field restrictions that the types
do not hold are in `EInstr.wf`. -/
inductive EInstr where
  | alu (op : AluOp) (d a b : GReg)
  | clz (d a : GReg)
  | alui (op : ImmOp) (d a : GReg) (imm : BitVec 16)
  | li (d : GReg) (imm : BitVec 16)
  | lui (d : GReg) (imm : BitVec 16)
  | shi (op : ShOp) (d a : GReg) (n : Fin 32)
  | field (op : FieldOp) (d a : GReg) (pos len1 : Fin 32)
  | mul (op : MulOp) (d a b : GReg)
  | div (op : DivOp) (d a b : GReg)
  | ld (t a : GReg) (post : Bool) (off : BitVec 15)
  | st (t a : GReg) (post : Bool) (off : BitVec 15)
  | vld (v : VReg) (a : GReg) (post : Bool) (off : BitVec 15)
  | vst (v : VReg) (a : GReg) (post : Bool) (off : BitVec 15)
  | lda (t a : GReg) (post : Bool) (off : BitVec 15)
  | sta (t a : GReg) (post : Bool) (off : BitVec 15)
  | vlda (v : VReg) (a : GReg) (post : Bool) (off : BitVec 15)
  | vsta (v : VReg) (a : GReg) (post : Bool) (off : BitVec 15)
  | lane (op : LaneOp) (vd va vb : VReg)
  | vsel (vd va vb vc : VReg)
  | vabs (vd va : VReg)
  | vshi (op : ShOp) (vd va : VReg) (n : Fin 32)
  | vbcast (v : VReg) (g : GReg)
  | vext (g : GReg) (v : VReg) (lane : Fin 8)
  | vins (v : VReg) (g : GReg) (lane : Fin 8)
  | vmul (op : VMulOp) (vd va vb : VReg)
  | vmac (op : MacOp) (acc : AReg) (va vb : VReg)
  | amov (op : AmovOp) (v : VReg) (acc : AReg) (sh : Fin 64)
  | ahalf (op : AhalfOp) (v : VReg) (acc : AReg)
  | aclr (acc : AReg)
  | ald (acc : AReg) (v : VReg) (sh : Fin 32)
  | br (op : BrOp) (a b : GReg) (off : BitVec 14)
  | jmp (off : BitVec 14)
  | call (target : BitVec 14)
  | endTask
  | ret
  | brk
  | lidx (d : GReg)
  | loop (c : GReg) (bound : BitVec 16) (last : BitVec 14)
  | fcprb (d s : GReg)
  | fcprbv (v : VReg) (s : GReg)
  | flock (d : GReg) (n : Fin 32)
  | funlock (d : GReg) (n : Fin 32)
  | fmbs (d s : GReg) (ch : Fin 16)
  | fmbr (d t : GReg) (ch : Fin 16)
  | femit (d s : GReg) (sev : Fin 4) (n : Fin 64)
  | ftime (d t : GReg)
  | fstamp (d : GReg)
  | fstop (d s : GReg) (kind : StopArg)
  | fsrel (d s : GReg)
  | fpcnt (d : GReg) (q : Fin 64)
  | async (op : AsyncOp) (s : GReg) (task : BitVec 11) (slot : Fin 4)
deriving DecidableEq, Repr

/-- What reading a packet out of the Palette finds: its CRC-32 matches, and the link words of its
chain (R377, R380). -/
structure ReadOut where
  crcOk : Bool
  link : Ecc
deriving DecidableEq, Repr

/-- How the arbiter of a lock took an acquiring read (R400): in its turn, or among reads that met
and were not resolved in 6 ns. One read of such a meeting counts it. -/
inductive Arb where
  | chosen | tie | tieCounted
deriving DecidableEq, Repr

/-- The ledger settings registers RFB_LDG_CFG, RFB_LDG_RES and RFB_LDG_RF. -/
inductive LdgReg where
  | cfg | res | rf
deriving DecidableEq, Repr

/-- What reset the PCIe endpoint (R388). -/
inductive PcieReset where
  | flr | conventional | linkLoss
deriving DecidableEq, Repr

/-! ## What the GNSS receiver and the Ethernet ports hear -/

/-- One component of a satellite as an MSM7 cell carries it (R324, R333): the component (0 upper data,
1 upper pilot, 2 lower data, 3 lower pilot), fine pseudorange and phase range, time since the last
cycle slip in ms, half-cycle flag, C/N0 and fine phase-range rate. -/
structure GnssCell where
  comp : Fin 4
  range : BitVec 20
  phase : BitVec 24
  slip : Nat
  half : Bool
  cnr : BitVec 10
  rate : BitVec 15
deriving DecidableEq, Repr

/-- A satellite slot at a measurement epoch: elevation in degrees, tracked at all, C/N0 of the primary
signals (0 untracked); their pseudoranges and carrier phases in 0.1 mm, each less the range, satellite clock and
standard troposphere predicted at `GnssObs.base` (R325); the broadcast ionosphere delay of the upper band in
0.1 mm, the direction from the receiver to the satellite in 10^-6, the zenith wet delay's factor in 10^-3, the
number of the unbroken arc and the pseudorange's standard deviation in mm (R328); and the rough range fields of
MSM7. -/
structure GnssSat where
  slot : Fin 64
  elev : Int
  tracked : Bool
  cn0U : BitVec 8
  cn0L : BitVec 8
  pU : Int
  pL : Int
  lU : Int
  lL : Int
  iono : Int
  dir : Int × Int × Int
  wet : Int
  arc : Nat
  sd : Nat
  ms : BitVec 8
  info : BitVec 4
  frac : BitVec 10
  rate : BitVec 14
  cells : List GnssCell
deriving DecidableEq, Repr

/-- What the receiver measures at a measurement epoch (R324 to R329, R337, R345): the satellites, the position
their predictions are made at in 0.1 mm, the reference's frequency as the servo knows it in 2^-40, the slew it
asks for in ns/s, what constellations' data say of UTC (system, TAI − UTC, leap second announced, the second of
device time it falls at) and new navigation data. -/
structure GnssObs where
  sats : List GnssSat
  base : Int × Int × Int
  freq : Int
  slew : Int
  utc : List (Fin 4 × Nat × Nat × Nat)
  nav : Option (List Byte)
deriving DecidableEq, Repr

/-- A satellite in view that has no slot: system, number, elevation in degrees, and whether its navigation data
mark it healthy (R313). -/
structure SvInView where
  sys : Fin 4
  prn : BitVec 6
  elev : Int
  healthy : Bool
deriving DecidableEq, Repr

/-- What the standby tests find that the unit's other state does not hold (Table 13-9): the patterns of the
Palette cells came back, the last 16 loopback frames of each chain from this unit and from the partner with the
RSSI of those received, newest first, and the partner's tracked satellites with the C/N0 of their primaries, and
its Δ in ns. -/
structure HealthObs where
  cells : Bool
  sent24 : List (Option Int)
  heard24 : List (Option Int)
  sentSub : List (Option Int)
  heardSub : List (Option Int)
  sats : List (Fin 4 × BitVec 6 × BitVec 8 × BitVec 8)
  delta : Int
deriving DecidableEq, Repr

/-- A PTP message as received: domain, sequence, sourcePortIdentity, correctionField in 2^-16 ns, the
timestamp it carries in ns and twoStepFlag (IEEE 1588-2019). -/
structure PtpMsg where
  domain : Nat
  seq : BitVec 16
  source : BitVec 80
  corr : Int
  time : Nat
  twoStep : Bool
deriving DecidableEq, Repr

/-- The dataset of an Announce (R366). -/
structure PtpData where
  prio1 : BitVec 8
  cls : BitVec 8
  accuracy : BitVec 8
  variance : BitVec 16
  prio2 : BitVec 8
  identity : BitVec 64
  steps : BitVec 16
deriving DecidableEq, Repr

/-- What a boot finds (R494, R495, R515 to R517): the straps (high is true), whether the retention area, the
newer and older ledger snapshot, the newer and older saved configuration and both copies of the bank-select
record hold by their CRC, whether each bank passes its check, and the partner's time, where a partner is
active on an up twin link. -/
structure BootObs where
  seatB : Bool
  clkSel : Bool
  recoveryN : Bool
  retOk : Bool
  snaps : Bool × Bool
  configs : Bool × Bool
  recs : Bool × Bool
  banks : Bool × Bool
  partner : Option Nat
deriving DecidableEq, Repr

end Sys2Proof
end

