-- ==== Sys2Proof/Machine/Tbl.lean ====
section
/-! DEFINITION. Sparse memories and tables in one canonical form: keys strictly rising, and no
entry equal to what an unlisted key reads as. Equal contents are then equal data. -/

namespace Sys2Proof.Machine

/-- A sparse table: key and value pairs. -/
abbrev Tbl (α : Type) := List (Nat × α)

/-- The value at a key; an unlisted key reads as the default `d k`. -/
def tblGet {α : Type} (d : Nat → α) : Tbl α → Nat → α
  | [], k => d k
  | (j, v) :: t, k => if k = j then v else tblGet d t k

/-- Remove a key. -/
def tblErase {α : Type} : Tbl α → Nat → Tbl α
  | [], _ => []
  | (j, v) :: t, k => if k = j then t else if k < j then (j, v) :: t else (j, v) :: tblErase t k

/-- Insert or replace an entry, keeping the keys rising. -/
def tblInsert {α : Type} : Tbl α → Nat → α → Tbl α
  | [], k, v => [(k, v)]
  | (j, w) :: t, k, v =>
    if k = j then (k, v) :: t
    else if k < j then (k, v) :: (j, w) :: t
    else (j, w) :: tblInsert t k v

/-- Write a value: writing the default removes the entry. -/
def tblPut {α : Type} [DecidableEq α] (d : Nat → α) (t : Tbl α) (k : Nat) (v : α) : Tbl α :=
  if v = d k then tblErase t k else tblInsert t k v

/-- Apply a function to the value at a key. -/
def tblMod {α : Type} [DecidableEq α] (d : Nat → α) (t : Tbl α) (k : Nat) (f : α → α) : Tbl α :=
  tblPut d t k (f (tblGet d t k))

/-- Apply a function to every listed value; values that become the default are no longer listed. -/
def tblMap {α : Type} [DecidableEq α] (d : Nat → α) (f : α → α) (t : Tbl α) : Tbl α :=
  (t.map fun x => (x.1, f x.2)).filter fun x => x.2 ≠ d x.1

/-- Write a list of values at consecutive keys. -/
def tblPutList {α : Type} [DecidableEq α] (d : Nat → α) : Tbl α → Nat → List α → Tbl α
  | t, _, [] => t
  | t, k, v :: vs => tblPutList d (tblPut d t k v) (k + 1) vs

/-- Keys strictly rising from `lo` on, and no entry equal to the default. -/
def tblWfFrom {α : Type} [DecidableEq α] (d : Nat → α) : Nat → Tbl α → Bool
  | _, [] => true
  | lo, (j, v) :: t => decide (lo ≤ j) && decide (v ≠ d j) && tblWfFrom d (j + 1) t

/-- The canonical form. -/
def tblWf {α : Type} [DecidableEq α] (d : Nat → α) (t : Tbl α) : Bool := tblWfFrom d 0 t

end Sys2Proof.Machine
end

