-- ==== Sys2Proof/Machine/StAir.lean ====
section
/-! DEFINITION. State of the air MAC (R246 to R294). -/

namespace Sys2Proof.Machine

/-- A station entry (Table 8-10), with what the air MAC keeps beside it. -/
structure Station where
  ext : Nat
  /-- 0 EMPTY, 1 NEW, 2 KNOWN, 3 TOMBSTONE. -/
  state : Nat
  provisioned : Bool
  sleepy : Bool
  channel : Nat
  /-- Accepted sequence numbers with the low 8 bits of their superframes, newest first, at
  most four (R274). -/
  hist : List (Nat × Nat)
  rssi : Nat
  age : Nat
  drift : Int
  offset : Int
  lastT : Nat
  /-- A drift sample has been taken; the previous accepted frame was acknowledged (R280). -/
  drifted : Bool
  acked : Bool
  /-- Sequence number of the last new frame sent to the station (R273). -/
  seq : Nat
deriving DecidableEq, Repr

def Station.empty : Station :=
  { ext := 0, state := 0, provisioned := false, sleepy := false, channel := 0, hist := [],
    rssi := 0, age := 0, drift := 0, offset := 0, lastT := 0, drifted := false, acked := false,
    seq := 0 }

/-- What a device frame carried, for its acknowledgement (R272). -/
inductive TxKind where
  | grant (robot gen : Nat)
  | assign (chain station : Nat)
  | other
deriving DecidableEq, Repr

/-- A unicast frame sent in the present radio slot or span, awaiting its Imm-Ack. -/
structure TxFrame where
  chain : Nat
  channel : Nat
  station : Nat
  seq : Nat
  kind : TxKind
  /-- Device time of the frame's end. -/
  endT : Nat
deriving DecidableEq, Repr

/-- An ASSIGN due to a station (R260, R268). -/
structure AssignDue where
  chain : Nat
  station : Nat
  next : Bool
  /-- First superframe it applies from, plan version and bytes 2-18 of the entry. -/
  fromSf : Nat
  version : Nat
  body : List Byte
deriving DecidableEq, Repr

/-- A stop burst (R283). Repetition counts of both chains, first group, start of repetition 1 and
the ends so far, in device time. The burst in progress has its `t0` and `g1`; one that waits for a radio
slot takes them there. -/
structure Burst where
  seq : Nat
  kind : Nat
  frame : List Byte
  /-- Number of the stop among those that sent frames (R251), the sequence number of its frames, and
  their MPDU once repetition 1 of a chain has gone out. -/
  num : Nat
  dsn : Nat
  mpdu : List Byte
  g1 : Nat
  t0 : Nat
  done24 : Nat
  doneSub : Nat
  /-- End of the last 2.4 GHz and of the last sub-GHz repetition. -/
  end24 : Nat
  subEnd : Nat
  /-- How long after the active's repetitions the unit's own 2.4 GHz ones start, in ns (R287). -/
  echo : Nat
deriving DecidableEq, Repr

/-- Position of a chain in the correction stream (R270). -/
structure CorrPos where
  /-- Message under way, as number in the stream, and next fragment. -/
  msg : Nat
  frag : Nat
deriving DecidableEq, Repr

/-- A CORRECTION sent in the present radio slot or span: the position and message it came from, and the
device time of its end. An aborted one counts as not sent (Table 8-16). -/
structure CorrSent where
  chain : Nat
  pos : CorrPos
  msg : List Byte
  endT : Nat
deriving DecidableEq, Repr

/-- A station frame accepted and not yet delivered (R281): REPORT, JOIN or UDATA by its payload. -/
structure Rx where
  chain : Nat
  channel : Nat
  /-- Station index; of a JOIN, not known yet. -/
  station : Nat
  ext : Nat
  seq : Nat
  /-- Device times of the SFD end and of the frame's end, and the signed RSSI. -/
  sfd : Nat
  endT : Nat
  rssi : Nat
  payload : List Byte
  /-- Superframe, and start and end of its radio slot or span. -/
  sf : Nat
  slotStart : Nat
  slotEnd : Nat
  /-- Offset o in ns (R280), and the entry was NEW (Table 8-12a). -/
  offset : Int
  isNew : Bool
  /-- The standby heard it and forwarded it: it gets no Enh-Ack (R289). -/
  forwarded : Bool
deriving DecidableEq, Repr

structure Air where
  kFleet : List Byte
  kField : List Byte
  kLink : Tbl (List Byte)
  keyKind : Nat
  keyRobot : Nat
  keyWords : List Word
  /-- Slot plan in force, and the next with its first superframe: SLOTPLAN bytes. -/
  plan : Option (List Byte)
  nextPlan : Option (Nat × List Byte)
  /-- Device time at which the first plan came into force (R253). -/
  planAt : Nat
  /-- Superframes are being counted: the incarnation has been stored (R253). -/
  counting : Bool
  superframe : Nat
  /-- Present radio slot index, its start in device time, and that of the superframe. -/
  slot : Nat
  slotStart : Nat
  sfStart : Nat
  /-- No radio slot is in progress, from a step to the next boundary (R341). -/
  gap : Bool
  /-- Number of the last radio slot boundary, as a multiple of 2 ms of device time (R253). -/
  boundary : Nat
  /-- Transmissions of each chain of late, first symbol to last, in device time (R296, R301). -/
  spans : Vector (List (Nat × Nat)) 2
  /-- Channel of the next loopback frame, less 11 (Table 13-9). -/
  loopNext : Nat
  tables : Vector (Tbl Station) 2
  /-- Provisioning copy in the configuration area: EXT by chain × 1024 + index. -/
  provCopy : Tbl Nat
  scrubAt : Nat
  selfStopped : Tbl Bool
  /-- Accepted frames not yet delivered. -/
  rx : List Rx
  onAir : List TxFrame
  corrSent : List CorrSent
  assignDues : List AssignDue
  /-- Messages of the correction stream, the number of the first, and each chain's place. -/
  corr : List (List Byte)
  corrFirst : Nat
  corr24 : CorrPos
  corrSub : CorrPos
  burst : Option Burst
  waitingBursts : List Burst
  /-- Device time at which the last repetition of the last burst ends (R284), and a FLEET stop has
  been active in the superframe (R31). -/
  burstEnd : Nat
  stopShown : Bool
  /-- TWIN_PAIR stands until the next superframe after a takeover (R431). -/
  pairShown : Bool
  echo : Bool
  /-- Device time since which the agreement has been within 100 ns. -/
  agreeSince : Option Nat
  dup : Nat
  accepted : Nat
  sec : Nat
  unknown : Nat
  bad : Nat
  late : Nat
deriving DecidableEq, Repr

def zeroKey : List Byte := List.replicate 16 0

def Air.reset : Air :=
  { kFleet := zeroKey, kField := zeroKey, kLink := [], keyKind := 0, keyRobot := 0, keyWords := [],
    plan := none, nextPlan := none, planAt := 0, counting := false, superframe := 0, slot := 0, slotStart := 0,
    sfStart := 0, gap := false, boundary := 0, spans := Vector.replicate 2 [], loopNext := 0, tables := Vector.replicate 2 [], provCopy := [], scrubAt := 0, selfStopped := [],
    rx := [], onAir := [], corrSent := [], assignDues := [], corr := [], corrFirst := 0, corr24 := { msg := 0, frag := 0 },
    corrSub := { msg := 0, frag := 0 }, burst := none, waitingBursts := [], burstEnd := 0, stopShown := false, pairShown := false, echo := false,
    agreeSince := none, dup := 0, accepted := 0, sec := 0, unknown := 0, bad := 0, late := 0 }

end Sys2Proof.Machine
end

