-- ==== Sys2Proof/Machine/StBase.lean ====
section
/-! DEFINITION. Event records (Table 15-3), rate-limit buckets (R475), sessions (R469) and the
Pentimento (R477). -/

namespace Sys2Proof.Machine

/-- An event record before its phase or commit flag is set (Table 15-3). -/
structure Record where
  code : Nat
  severity : Nat
  linkPlane : Bool
  /-- Source unit: 0 unpaired, 1 seat A, 2 seat B. -/
  unit : Nat
  seq : Nat
  time : Nat
  p0 : Word
  p1 : Word
  p2 : Word
  p3 : Word
deriving DecidableEq, Repr

/-- A rate-limit bucket (R475, R476). `upTo` is the time up to which multiples of the period
have been counted; `nextPeriod` and `nextBurst` are the settings as written, which take effect
at the next epoch boundary. -/
structure Bucket where
  period : Nat := 1000
  burst : Nat := 16
  tokens : Nat := 16
  suppressed : Nat := 0
  firstTime : Nat := 0
  lastTime : Nat := 0
  upTo : Nat := 0
  nextPeriod : Nat := 1000
  nextBurst : Nat := 16
  /-- Epoch in which the settings were written, while they wait. -/
  setIn : Option Nat := none
  shown : Nat := 0
deriving DecidableEq, Repr

/-- One session channel (R469 to R471). -/
structure Channel where
  /-- 0 none, 1 OPERATOR, 2 INSTALLER, 3 MAKER. -/
  role : Nat
  /-- Last write that needed the session, in world time. -/
  lastUse : Nat
  /-- Challenge bytes, and whether one is held unused. -/
  challenge : List Byte
  chalHeld : Bool
  chalRole : Nat
  /-- World time of the OPEN that drew the challenge. -/
  chalAt : Nat
  /-- Consecutive failures, kept in CI1 (R470). -/
  fails : Nat
  /-- World time at which OPEN is accepted again, kept in CI1. -/
  lockoutEnd : Nat
  /-- SEC_RESP0-7: response bytes. -/
  response : List Byte
deriving DecidableEq, Repr

/-- A channel after a power-on with no session. -/
def Channel.idle : Channel :=
  { role := 0, lastUse := 0, challenge := [], chalHeld := false, chalRole := 0, chalAt := 0,
    fails := 0, lockoutEnd := 0, response := List.replicate 32 0 }

/-- Roles and keys (R465 to R471). -/
structure Sec where
  /-- Channel 0, PCIe. -/
  pcie : Channel
  /-- Channel 1, the service port. -/
  svc : Channel
  /-- SEC_CFG.IDLE in seconds. -/
  idle : Nat
  /-- Programmed key slots of MAKER, INSTALLER and OPERATOR, each key 32 bytes (R467). -/
  makerKeys : List (List Byte)
  installerKeys : List (List Byte)
  operatorKeys : List (List Byte)
  /-- Words written to SEC_KEY_DATA since the last SEC_KEY_CTL write (R468). -/
  keyWords : List Word
  /-- SEC_KEY_STATUS.RESULT. -/
  keyResult : Nat
deriving DecidableEq, Repr

/-- The Pentimento (R477 to R482). -/
structure Pnt where
  /-- Programmed slots of the flash log by index: the 32 bytes as stored. -/
  slots : Tbl (List Byte)
  gen : Nat
  /-- Next slot, 0 to 65,536. -/
  next : Nat
  full : Bool
  clearing : Bool
  /-- Role that asked for the clear in progress, and records of the old log. -/
  clearRole : Nat
  clearOld : Nat
  /-- The clear in progress was interrupted by a reset and completes at boot (R481). -/
  clearAtBoot : Bool
  clearRefused : Bool
  rlRefused : Bool
  /-- PNT_CFG. -/
  classMask : Nat
  minSev : Nat
  dropped : Nat
  gap : Nat
  /-- Records lost since the last PENTIMENTO_GAP, and the first lost sequence number. -/
  gapPending : Nat
  gapFirst : Nat
  /-- PNT_IDX. -/
  idx : Nat
  /-- Records in the buffer of 4,096, oldest first. -/
  buffer : List Record
deriving DecidableEq, Repr

end Sys2Proof.Machine
end

