-- ==== Sys2Proof/Machine/StEasel.lean ====
section
/-! DEFINITION. State of the Easels (Table 3-1, Tables 3-7 to 3-18) and of the Atelier (R72). -/

namespace Sys2Proof.Machine

/-- A task as the dispatcher hands it to an Easel. `relNo` is its release number where its flow
is ordered (R153). -/
structure TaskCtx where
  task : Nat
  flow : Nat
  urgent : Bool
  level : Nat
  budget : Nat
  /-- Release epoch, and the nominal time of its boundary. -/
  epoch : Nat
  relNo : Option Nat
deriving DecidableEq, Repr

def TaskCtx.none : TaskCtx :=
  { task := 0, flow := 0, urgent := false, level := 0, budget := 0, epoch := 0, relNo := .none }

/-- An open hardware loop (R113). -/
structure LoopE where
  start : Nat
  last : Nat
  count : Nat
  done : Nat
  depth : Nat
deriving DecidableEq, Repr

/-- Registers, stacks, issue timeline and task of one bank, running or shadow. `next` is the
first step at which the next instruction may issue under its predecessor's cost (R78). -/
structure Bank where
  g : Vector Word 32
  v : Vector Lanes 16
  a : Vector Accs 4
  pc : Nat
  /-- Innermost loop first. -/
  loops : List LoopE
  /-- Return indexes, innermost first. -/
  rets : List Nat
  /-- Charged steps as EAS_STEPS shows them. -/
  steps : Nat
  next : Nat
  readyG : Vector Nat 32
  readyV : Vector Nat 16
  readyA : Vector Nat 4
  /-- Step from which a V-MAC may accumulate on from a V-MAC (R78). -/
  chainA : Vector Nat 4
  freeDiv : Nat
  freeAtl : Nat
  task : TaskCtx
  /-- Logged fabric operations the task has issued (R118). -/
  fabIdx : Nat
deriving DecidableEq, Repr

def zeroLanes : Lanes := Vector.replicate 8 0
def zeroAccs : Accs := Vector.replicate 8 0

/-- A bank with every register 0 and empty stacks. -/
def Bank.zero : Bank :=
  { g := Vector.replicate 32 0, v := Vector.replicate 16 zeroLanes,
    a := Vector.replicate 4 zeroAccs, pc := 0, loops := [], rets := [], steps := 0, next := 12,
    readyG := Vector.replicate 32 0, readyV := Vector.replicate 16 0,
    readyA := Vector.replicate 4 0, chainA := Vector.replicate 4 0, freeDiv := 0, freeAtl := 0,
    task := TaskCtx.none, fabIdx := 0 }

/-- EAS_STATUS.STATE but halted, which stands beside it. -/
inductive RunState where
  | idle | running | faultExit
deriving DecidableEq, Repr

/-- A request in the fabric request FIFO (R122). -/
structure FabReq where
  op : AsyncOp
  value : Word
  task : Nat
  slot : Nat
  /-- Flow and index of the issuing task, and the rest of its key of R146. -/
  flow : Nat
  issuer : Nat
  urgent : Bool
  level : Nat
  epoch : Nat
deriving DecidableEq, Repr

/-- One Easel. -/
structure Easel where
  bank : Bank
  run : RunState
  halted : Bool
  shadow : Option Bank
  /-- Instruction memory by index; an unlisted index holds the fill word (R135). -/
  imem : Tbl Word
  /-- Scratch by byte address; an unlisted byte is 0. -/
  scratch : Tbl Byte
  /-- Scratch words with a defined content, of POOLED dispatch: those written since the running task entered, and
  since the one in the shadow bank did (R84); none where every word has one. -/
  scrKnown : Option (Tbl Bool)
  shadowKnown : Option (Tbl Bool)
  /-- Poisoned words: instruction indexes, and scratch word indexes (R76). -/
  imemPoison : Tbl Bool
  scrPoison : Tbl Bool
  fifo : List FabReq
  scrubAt : Nat
  /-- EAS_CTL and breakpoints. -/
  brk0En : Bool
  brk1En : Bool
  brk0 : Nat
  brk1 : Nat
  /-- A breakpoint has just halted the Easel here, so the instruction runs on resume. -/
  brkSkip : Bool
  /-- EAS_CTL.HALT as written, and a STEP under way. -/
  haltBit : Bool
  stepOne : Bool
  memSpace : Bool
  memWord : Nat
  dbgRefused : Bool
  /-- EAS_FAULT, EAS_FAULT_PC, EAS_FAULT_ADDR, EAS_ECC. -/
  faultCount : Nat
  faultCode : Nat
  faultPc : Nat
  faultAddr : Word
  imemCorr : Nat
  scrCorr : Nat
deriving DecidableEq, Repr

/-- The fill word of instruction memory, which faults ILLEGAL (R135). -/
def imemFill : Nat → Word := fun _ => 0xF8000000#32
def zeroByte : Nat → Byte := fun _ => 0#8
def noMark : Nat → Bool := fun _ => false

/-- An Easel after power-on. The spec gives instruction memory no content then: every word reads the fill word
of R135 (DESIGN CHOICE, log entry 5). -/
def Easel.reset : Easel :=
  { bank := Bank.zero, run := .idle, halted := false, shadow := none, imem := [], scratch := [],
    scrKnown := none, shadowKnown := none, imemPoison := [], scrPoison := [], fifo := [], scrubAt := 0, brk0En := false,
    brk1En := false, brk0 := 0, brk1 := 0, brkSkip := false,
    haltBit := false, stepOne := false, memSpace := false, memWord := 0,
    dbgRefused := false, faultCount := 0, faultCode := 0, faultPc := 0, faultAddr := 0,
    imemCorr := 0, scrCorr := 0 }

/-- The Atelier: bytes by offset from 0x0100_0000, poisoned words, and the scrub position. `writers` lists the
words that tasks in service have stored, as Easel, task and word index (Table 3-6). -/
structure Atelier where
  mem : Tbl Byte
  poison : Tbl Bool
  scrubAt : Nat
  writers : List (Nat × Nat × Nat)
deriving DecidableEq, Repr

end Sys2Proof.Machine
end

