-- ==== Sys2Proof/Machine/StStroke.lean ====
section
/-! DEFINITION. State of the stroke generator and of the guidance loop engine (R212 to R245). -/

namespace Sys2Proof.Machine

/-- A segment of constant jerk: its length in ns and its start state. Position, speed and
acceleration count 2^-16 of a unit, unit/s and unit/s²; jerk counts units/s³ (R220). -/
structure Seg where
  dur : Nat
  s : Int
  v : Int
  a : Int
  j : Int
deriving DecidableEq, Repr

/-- STK_CH_STATE.STATE (Table 7-18). -/
inductive StrokeKind where
  | atRest | position | speed | braking | stopped
deriving DecidableEq, Repr

/-- The stroke of a channel: segments from the plan time on; after them the channel goes on at
`endSpeed` from `endPos`. -/
structure Stroke where
  kind : StrokeKind
  /-- Plan time t_p in ns, and the state at it. -/
  t0 : Nat
  segs : List Seg
  endPos : Int
  endSpeed : Int
  reversed : Bool
  /-- Command, argument and profile a GRANT payload carries (Table 8-9). -/
  cmd : Nat
  arg : Nat
  profile : Nat
  /-- Of a reversing stroke: how long after t_p its braking under R222 ends. -/
  turn : Nat
deriving DecidableEq, Repr

/-- At rest at position `p`. -/
def Stroke.restAt (t p : Int) : Stroke :=
  { kind := .atRest, t0 := t.toNat, segs := [], endPos := p, endSpeed := 0, reversed := false,
    cmd := 0, arg := 0, profile := 0, turn := 0 }

/-- A stroke channel (R212). -/
structure Chan where
  stroke : Stroke
  profile : Nat
  route : Option Nat
  /-- Absolute target and remaining distance, in position units; whether the target is kept
  (R223). -/
  target : Int
  kept : Bool
  remain : Int
  /-- The channel is under a stop (R224), until a batch finds it released. -/
  held : Bool
  /-- Last report of the incarnation: s_rep (R216 SYNC). -/
  lastS : Option Int
  /-- Strokes that corridors were computed from, newest first, by the Atelier address of their grant
  descriptor (R266). -/
  corridors : List (Nat × Stroke)
deriving DecidableEq, Repr

def Chan.reset : Chan :=
  { stroke := .restAt 0 0, profile := 0, route := none, target := 0, kept := false,
    remain := 0, held := false, lastS := none, corridors := [] }

def chanDefault : Nat → Chan := fun _ => Chan.reset

/-- An input of the next stroke batch that no Easel requests: a stop that covers a robot (R224),
the STOP of a drive channel (R450), or a robot's report (R216 SYNC). -/
inductive StkInput where
  | stop (robot seq : Nat)
  | drive (d seq : Nat)
  | report (robot : Nat) (s : Int)
deriving DecidableEq, Repr

/-- A request of a stroke batch: an Easel's, or the MOVE_POS of an AUTO gate (R458). -/
inductive StkReq where
  | easel (r : FabReq)
  | gate (d : Nat) (open_ : Bool)
deriving DecidableEq, Repr

/-- The stroke generator. -/
structure Stk where
  chans : Tbl Chan
  /-- Requests of the present epoch, and those whose epoch has ended. -/
  incoming : List FabReq
  due : List FabReq
  /-- Stop changes and reports, and gate requests, with the epoch they belong to. -/
  inputs : List (Nat × StkInput)
  gates : List (Nat × Nat × Bool)
  /-- The batch in progress, and its plan time. -/
  batch : List StkReq
  tp : Nat
  done : Nat
  refused : Nat
  /-- AUTO gates wanted open (R458). -/
  wants : List Nat
deriving DecidableEq, Repr

def Stk.reset : Stk :=
  { chans := [], incoming := [], due := [], inputs := [], gates := [], batch := [], tp := 0,
    done := 0, refused := 0, wants := [] }

/-- A guidance or drive loop. -/
structure LoopSt where
  enabled : Bool
  desc : Nat
  glaze : Nat
  glazeOn : Bool
  learn : Bool
  /-- Enabled under GLAZE_ROUTE_MISMATCH, so that Glaze is not used (R241, R242). -/
  mismatch : Bool
  iS : Int
  iY : Int
  /-- t_rep at which the following-error count started, and the count in ms. -/
  feStart : Option Int
  feMs : Nat
  trips : Nat
  eS : Int
  eY : Int
  trimV : Int
  trimK : Int
deriving DecidableEq, Repr

def LoopSt.reset : LoopSt :=
  { enabled := false, desc := 0, glaze := 0, glazeOn := false, learn := false, mismatch := false,
    iS := 0, iY := 0, feStart := none, feMs := 0, trips := 0, eS := 0, eY := 0, trimV := 0,
    trimK := 0 }

def loopDefault : Nat → LoopSt := fun _ => LoopSt.reset

/-- Trims staged for a robot's DOWNLINK phase (R236). -/
structure Trim where
  robot : Nat
  /-- Device time of the end of the radio slot that carried the report, and of the staging. -/
  slotEnd : Nat
  ready : Nat
  v : Int
  k : Int
deriving DecidableEq, Repr

/-- Report fields for the engine (Table 7-9) with the radio slot's start and end. -/
structure GdlReport where
  robot : Nat
  tRep : Nat
  sRep : Int
  eY : Int
  ePsi : Int
  vRep : Int
  slotStart : Nat
  slotEnd : Nat
deriving DecidableEq, Repr

/-- The guidance loop engine. -/
structure Gdl where
  loops : Tbl LoopSt
  /-- Glaze bins by table × 256 + bin, and the minute of each table's last GLAZE_SATURATED. -/
  glaze : Tbl Int
  satAt : Tbl (Option Nat)
  reports : List GdlReport
  trims : List Trim
  /-- What a phase released for a robot: its start, and the trims or none (R236, R46). -/
  out : Tbl (Option (Nat × Option (Int × Int)))
  incoming : List FabReq
  due : List FabReq
  batch : List FabReq
  stale : Nat
  superseded : Nat
  computed : Nat
deriving DecidableEq, Repr

def Gdl.reset : Gdl :=
  { loops := [], glaze := [], satAt := [], reports := [], trims := [], out := [],
    incoming := [], due := [], batch := [], stale := 0, superseded := 0, computed := 0 }

end Sys2Proof.Machine
end

