-- ==== Sys2Proof/Machine/StCanvas.lean ====
section
/-! DEFINITION. State of the Canvas and of the grant engine (R165 to R211). -/

namespace Sys2Proof.Machine

inductive CellState where
  | free | tentative | held | blocked
deriving DecidableEq, Repr

/-- A cell (Table 6-1). `who` is the robot index or the block reason. -/
structure Cell where
  state : CellState
  halo : Bool
  gen : Nat
  who : Nat
deriving DecidableEq, Repr

def Cell.free : Cell := { state := .free, halo := false, gen := 0, who := 0 }
def Cell.blocked (reason : Nat) : Cell := { state := .blocked, halo := false, gen := 0, who := reason }

/-- An unlisted cell is FREE. -/
def cellDefault : Nat → Cell := fun _ => Cell.free

/-- States of a grant (Table 6-12); an ENDED grant's record is gone. -/
inductive GrantState where
  | queued | sent | delivered | undelivered
deriving DecidableEq, Repr

/-- A delivery outcome waiting for the next epoch boundary (R192). -/
inductive Outcome where
  | delivered
  | undelivered (cause : Nat)
deriving DecidableEq, Repr

/-- A grant (R183, R192). Boundary numbers are those of R171. -/
structure Grant where
  robot : Nat
  gen : Nat
  tag : Nat
  state : GrantState
  voided : Bool
  /-- Canvas boundary at which its last Canvas slot has passed. -/
  ends : Nat
  /-- Device time of deliver-by. -/
  deliverBy : Nat
  frames : Nat
  /-- Outcome due and the epoch of its cause. -/
  due : Option (Outcome × Nat)
deriving DecidableEq, Repr

/-- Owners of squares in the persistent store (R202). -/
inductive HoldOwner where
  | park (robot gen : Nat)
  | lost (robot : Nat)
  | zone (seq : Nat)
  | block (reason : Nat)
deriving DecidableEq, Repr

/-- Squares an owner has in the store, with their HALO mark, and the remainder not applied. -/
structure Hold where
  owner : HoldOwner
  squares : List (Nat × Bool)
  rest : List Nat
  /-- Of a park hold: the boundary at which its owning grant's last Canvas slot has passed. -/
  ends : Nat
  /-- Robot or zone index for records. -/
  index : Nat
deriving DecidableEq, Repr

/-- Standstill releases of a robot's voided grants (R199). -/
inductive Stand where
  | none
  | found (squares : List Nat)
  | parked
deriving DecidableEq, Repr

/-- What the grant engine keeps of a robot. -/
structure CRobot where
  lastGen : Nat
  admitted : Bool
  reported : Bool
  /-- A report of the incarnation has been taken. -/
  joined : Bool
  /-- Device time of the last report. -/
  lastReport : Option Nat
  /-- Last known square, kept across resets (R201). -/
  square : Option Nat
  lost : Bool
  stand : Stand
  /-- Superframe of the live token of its last standstill report (R264). -/
  standToken : Option Nat
deriving DecidableEq, Repr

def CRobot.reset : CRobot :=
  { lastGen := 0, admitted := false, reported := false, joined := false, lastReport := none,
    square := none, lost := false, stand := .none, standToken := none }

def robotDefault : Nat → CRobot := fun _ => CRobot.reset

/-- A report as the air MAC passes it to the Canvas (R265): `token` is the superframe of its
live token, if it is under one. -/
structure CReport where
  robot : Nat
  square : Option Nat
  standstill : Bool
  token : Option Nat
  time : Nat
  /-- Epoch of the input log that holds it. -/
  epoch : Nat
  /-- Superframe it was received in, and its flags: STANDSTILL in bit 0 (Table 8-8). -/
  sf : Nat
  flags : Nat
deriving DecidableEq, Repr

/-- A request of a batch (R177). The internal ones are reports, and losses with the device time at which
LOST_TIME had passed. -/
inductive BatchReq where
  | report (r : CReport)
  | lost (robot moment : Nat)
  | host (desc : List Byte)
  | easel (r : FabReq)
deriving DecidableEq, Repr

/-- One cell mark of Phase 1: index, HALO and entry. -/
structure Mark where
  cell : Nat
  halo : Bool
  entry : Nat
deriving DecidableEq, Repr

/-- A grant in its commit (R182, R183): its descriptor as read, the marks that Phase 1 still has to make or
the cells that Phase 2 still has to turn, and the undo log, newest first. -/
structure Commit where
  desc : List Byte
  todo : List Mark
  undo : List (Nat × Cell)
  second : Bool
deriving DecidableEq, Repr

/-- A sweep in progress: column, nominal time of its boundary, and SWEEP_LATE recorded. -/
structure Sweep where
  column : Nat
  nominal : Nat
  late : Bool
deriving DecidableEq, Repr

structure Canvas where
  cells : Tbl Cell
  /-- CANVAS section of the running Cartoon: PERIOD, LOST_HOPS, PARK_HOPS, LOST_TIME, N and the
  square map's bytes. -/
  period : Nat
  lostHops : Nat
  parkHops : Nat
  lostTime : Nat
  n : Nat
  map : List Byte
  /-- Number of the boundary physically in effect. -/
  k : Nat
  sweeps : List Sweep
  scrubAt : Nat
  grants : List Grant
  holds : List Hold
  robots : Tbl CRobot
  persistFull : Bool
  /-- Reports not yet handled, Easel requests of the present epoch and of those that have ended,
  and the host's request with its epoch. -/
  reports : List CReport
  incoming : List FabReq
  due : List FabReq
  hostReq : Option (Nat × List Byte)
  hostBusy : Bool
  hostResult : Word
  /-- The batch in progress, its reference time, and the now boundary at it. -/
  batch : List BatchReq
  tA : Nat
  kA : Nat
  /-- The grant that is in its commit, for the request at the head of the batch. -/
  commit : Option Commit
  /-- Epoch in which the last batch began, and how many of its requests have been executed (R196). -/
  batchEpoch : Nat
  batchDone : Nat
  lateAck : Nat
  refused : Nat
  accepted : Nat
  /-- CNV_CONFLICT: VALID, and the code and cell of the first conflict or fault of the last such grant. -/
  conflictNew : Bool
  conflict : Nat × Nat
  eccCorr : Nat
  eccUncorr : Nat
  /-- Admission is closed, as the deterministic plane has it (R49, R419). -/
  admitShut : Bool
deriving DecidableEq, Repr

def Canvas.reset : Canvas :=
  { cells := [], period := 0, lostHops := 0, parkHops := 0, lostTime := 0, n := 0, map := [],
    k := 0, sweeps := [], scrubAt := 0, grants := [], holds := [], robots := [],
    persistFull := false, reports := [], incoming := [], due := [], hostReq := none, hostBusy := false,
    hostResult := 0, batch := [], tA := 0, kA := 0, commit := none, batchEpoch := 0, batchDone := 0,
    lateAck := 0, refused := 0, accepted := 0, conflictNew := false, conflict := (0, 0), eccCorr := 0, eccUncorr := 0, admitShut := false }

end Sys2Proof.Machine
end

