-- ==== Sys2Proof/Machine/StDispatch.lean ====
section
/-! DEFINITION. State of the dispatcher and of the epoch (R128 to R163), and a Cartoon image as
the device holds it. -/

namespace Sys2Proof.Machine

/-- A section of an image: type, flags, directory index and bytes (Table 5-3). -/
structure Section where
  type : Nat
  flags : Nat
  entry : Nat
  bytes : List Byte
deriving DecidableEq, Repr

/-- A checked Cartoon: the header fields of Table 5-2 and its sections. -/
structure Cartoon where
  identity : Nat
  version : Nat
  predIdentity : Nat
  predVersion : Nat
  /-- Contract classes SR1 to SR4. -/
  classes : List Nat
  /-- Epoch length code: 0 0.5 ms, 1 1 ms, 2 2 ms. -/
  epochLen : Nat
  pooled : Bool
  robotFlows : Nat
  systemFlows : Nat
  tasks : Nat
  startupEpochs : Nat
  proven : List Nat
  length : Nat
  sections : List Section
deriving DecidableEq, Repr

/-- DSP_STATUS.STATE. -/
inductive DspMode where
  | empty | running | swapPending | test | stopping
deriving DecidableEq, Repr

/-- A task instance in the matching store: the values of its filled slots (R145). -/
structure Instance where
  task : Nat
  slots : List (Nat × Word)
deriving DecidableEq, Repr

/-- A released task waiting for dispatch (R146, R153). -/
structure Released where
  task : Nat
  epoch : Nat
  slots : List (Nat × Word)
  relNo : Option Nat
deriving DecidableEq, Repr

/-- An arrival queue (R148). Items are selector and word, oldest first. -/
structure ArrivalQ where
  items : List (Nat × Word)
  /-- Arrivals of kinds 3 to 5 not yet given, their packets waiting in the Palette (R384). -/
  owed : List (Nat × Word)
  holdSince : Option Nat
  refused : Nat
deriving DecidableEq, Repr

/-- An output held under ordered rules: an asynchronous request or a FEMIT record (R153). -/
inductive HeldOut where
  | request (easel : Nat) (r : FabReq)
  | event (code sev : Nat) (epoch time : Nat) (p0 p1 p2 p3 : Word)
deriving DecidableEq, Repr

/-- The entries of the reorder buffer one task has reserved, and what it holds in them. -/
structure HeldTask where
  flow : Nat
  relNo : Nat
  reserved : Nat
  outs : List HeldOut
  ended : Bool
deriving DecidableEq, Repr

/-- A result word on its way from a stage to the matching store (R88, R147). -/
structure StageResult where
  stage : Nat
  task : Nat
  slot : Nat
  word : Word
deriving DecidableEq, Repr

/-- A trace entry, words W0 to W3 (Table 5-30). -/
structure TraceE where
  w0 : Word
  w1 : Word
  w2 : Word
  w3 : Word
deriving DecidableEq, Repr

def TraceE.zero : TraceE := { w0 := 0, w1 := 0, w2 := 0, w3 := 0 }

/-- A one-time-programmable key slot: 0 empty, 1 programmed, 2 revoked, and the SHA-384 held. -/
structure KeySlot where
  state : Nat
  hash : List Byte
deriving DecidableEq, Repr

def KeySlot.empty : KeySlot := { state := 0, hash := [] }

/-- A checked image in the staging area. -/
structure StagedImage where
  cartoon : Cartoon
  bytes : List Byte
deriving DecidableEq, Repr

/-- The dispatcher. -/
structure Dsp where
  mode : DspMode
  /-- The command that runs while BUSY is 1; 0 none. STOP and TEST_EXIT show in `mode`. -/
  busy : Nat
  /-- DSP_RESULT. -/
  resDetail : Nat
  resCmd : Nat
  resSection : Nat
  resCode : Nat
  autoload : Bool
  loadAddr : Nat
  loadLen : Nat
  swapEpochReg : Nat
  staged : Option StagedImage
  /-- The stored area: its bytes, and whether the commit word stands (R142). -/
  stored : List Byte
  storedValid : Bool
  running : Option Cartoon
  /-- Role under which STOP or the start was asked, for CARTOON_STOPPED. -/
  stopRole : Nat
  /-- Command a stop answers, 0 none, and the epoch it was asked in (R143). -/
  stopCmd : Nat
  stopEpoch : Nat
  /-- Autoload still to be tried after this reset (R141). -/
  autoloadDue : Bool
  /-- A Cartoon has been cold-started, not in test mode, since the reset (R28). -/
  coldStarted : Bool
  swapE : Nat
  deferrals : Nat
  /-- The present epoch is a swap epoch: nothing is released and no arrival drains (R156). -/
  inSwapEpoch : Bool
  /-- Last epoch at whose boundary a pending swap was judged. -/
  swapTried : Option Nat
  instances : List Instance
  high : Nat
  released : List Released
  arrivals : Vector ArrivalQ 6
  dropRadio : Nat
  dropSubg : Nat
  dropUnrouted : Nat
  /-- Quarantined flows, and releases asked for with the role that asked and the epoch (R93). -/
  quarantine : List Nat
  releases : List (Nat × Nat × Nat)
  startup : Bool
  startupLeft : Nat
  /-- Flows under ordered rules after a restart, with the epochs left (R157). -/
  ordered : Tbl Nat
  /-- Next release number of each flow. -/
  relNo : Tbl Nat
  reorder : List HeldTask
  results : List StageResult
  traceOn : Bool
  traceStop : Bool
  traceEasels : Nat
  traceKinds : Nat
  trace : Tbl TraceE
  traceNext : Nat
  traceFull : Bool
  traceLost : Nat
  traceIdx : Nat
  keys : Vector KeySlot 4
  keyWords : List Word
deriving DecidableEq, Repr

/-- The epoch in progress (R144, R43, R44). -/
structure Epoch where
  /-- Epoch number, its length in ns, and the nominal time of its boundary. -/
  n : Nat
  length : Nat
  nominal : Nat
  /-- An epoch has begun since reset. -/
  begun : Bool
  /-- The deadline of the present epoch has been judged, and it was late. -/
  judged : Bool
  late : Bool
  /-- The epoch before was late. -/
  prevLate : Bool
  /-- A phase-bound output was not staged at its phase since the last deadline (R44). -/
  outLate : Bool
  /-- The ticks of the boundary have been given (R149). -/
  ticked : Bool
deriving DecidableEq, Repr

end Sys2Proof.Machine
end

