-- ==== Sys2Proof/Machine/StFleet.lean ====
section
/-! DEFINITION. State of stops and of the fleet incarnation (R14 to R35), and of the CI2 time
counter and its stamps (R349 to R359, R367). -/

namespace Sys2Proof.Machine

/-- Stop kinds (Table 1-3). -/
inductive StopKind where
  | fleet | zone | robot
deriving DecidableEq, Repr

/-- An active stop (R25, R26). -/
structure Stop where
  kind : StopKind
  seq : Nat
  source : Nat
  /-- Robot index or zone descriptor index. -/
  index : Nat
  /-- Squares of a ZONE stop, and the robots in its scope (R198). -/
  squares : List Nat
  robots : List Nat
  /-- For a ROBOT stop from source 4: its robot has reported standstill since. -/
  standstill : Bool
deriving DecidableEq, Repr

/-- Stops, stop inputs and the incarnation. -/
structure Fleet where
  stops : List Stop
  /-- Last stop sequence of the incarnation, and the number of stops that sent frames. -/
  lastSeq : Nat
  framesSent : Nat
  lastSource : Nat
  relResult : Nat
  /-- Filtered level of STOP_A_N and STOP_B_N: true is high. -/
  inputA : Bool
  inputB : Bool
  discrepancy : Bool
  /-- World time since which the inputs have differed, and since which both have been high. -/
  differSince : Option Nat
  highSince : Option Nat
  /-- GCTL_STOP_CFG: DISC_TIME in 10 ms, BOOT_HOLD. -/
  discTime : Nat
  bootHold : Bool
  /-- Incarnation in force, the last one stored in flash, and whether the store of the one in
  force has been done (R14, R15). -/
  incarnation : Nat
  storedIncarnation : Nat
  incStored : Bool
  /-- Device time of that store (R253). -/
  incStoredAt : Nat
  /-- Reset kind, or 5 takeover, that began the incarnation, and the world time it began. -/
  incKind : Nat
  incStart : Nat
  /-- World time of the last failed store (R15). -/
  incFailAt : Option Nat
  restart : Bool
  /-- Superframes begun in the incarnation (R17). -/
  superframes : Nat
  rebuilt : Bool
deriving DecidableEq, Repr

/-- A stamp source of Table 11-1. -/
structure Stamp where
  last : Nat
  overrun : Nat
  /-- An edge the handler has not served: the raw value taken, and its stamp under the values then in force. -/
  latched : Option (Nat × Nat)
  /-- Second of the last STAMP_OVERRUN record, and edges lost since. -/
  recordedSec : Option Nat
  lostInSec : Nat
deriving DecidableEq, Repr

def Stamp.zero : Stamp :=
  { last := 0, overrun := 0, latched := none, recordedSec := none, lostInSec := 0 }

/-- The time counter, its correction and the stamp handler. -/
structure Tmb where
  raw : Nat
  /-- The reference of CI2 is accepted and the counter runs (R531). -/
  running : Bool
  offset : Int
  rateBase : Nat
  rate : Int
  latch : Nat
  /-- TMB_CFG.SRC as written, the source in force, and a change waiting (R357). -/
  src : Nat
  srcUsed : Nat
  ppsEn : Bool
  ppsPol : Bool
  setRefused : Bool
  freeRate : Int
  stampIdx : Nat
  stamps : Vector Stamp 25
  /-- The source the stamp handler serves, and the raw time at which it is done. -/
  handler : Option (Fin 25 × Nat)
  /-- Twin follower: following, since when, θ and ASYM in 0.1 ns, DELAY, agreement flag. -/
  following : Bool
  followSince : Nat
  theta : Int
  delay : Nat
  asym : Int
  beyond20 : Bool
deriving DecidableEq, Repr

def Tmb.reset : Tmb :=
  { raw := 0, running := false, offset := 0, rateBase := 0, rate := 0, latch := 0, src := 0,
    srcUsed := 0, ppsEn := false, ppsPol := false, setRefused := false, freeRate := 0,
    stampIdx := 0, stamps := Vector.replicate 25 Stamp.zero, handler := none,
    following := false, followSince := 0, theta := 0, delay := 0, asym := 0, beyond20 := false }

end Sys2Proof.Machine
end

