-- ==== Sys2Proof/Machine/StPalette.lean ====
section
/-! DEFINITION. State of the Palette (R373 to R385) and of the host interfaces: PCIe, event
queues, ports, direct port, locks and mailboxes (R386 to R411). -/

namespace Sys2Proof.Machine

/-- A packet of the Palette: its priority level and bytes (R374). -/
structure Packet where
  level : Nat
  bytes : List Byte
deriving DecidableEq, Repr

/-- Cells a packet of `n` bytes occupies (R374). -/
def cellsFor (n : Nat) : Nat := (n + 4 + 127) / 128

/-- One queue: packets in put order, its QUEUES settings and its PAL_Q_DROP counters. -/
structure PQueue where
  packets : List Packet
  limit : Nat
  reserve : Nat
  access : Nat
  /-- PAL_Q_DROP: FULL, CRC, BAD, FLUSHED. -/
  full : Nat
  crc : Nat
  bad : Nat
  flushed : Nat
  /-- World times of the CRC drops of the last second (PALETTE_CRC_DROP p3). -/
  crcTimes : List Nat
  /-- World time since which a port without a link has held the head frame (R362). -/
  headSince : Option Nat
deriving DecidableEq, Repr

def PQueue.empty : PQueue :=
  { packets := [], limit := 8192, reserve := 128, access := 0, full := 0, crc := 0, bad := 0,
    flushed := 0, crcTimes := [], headSince := none }

/-- A grant payload in the grant area of Q0 to Q16 (R374): it uses no cells. -/
structure GrantPayload where
  queue : Nat
  robot : Nat
  gen : Nat
  bytes : List Byte
deriving DecidableEq, Repr

/-- A flush asked for and waiting for its packet boundary (R379). -/
structure FlushReq where
  queue : Nat
  role : Nat
deriving DecidableEq, Repr

/-- A put waiting while the free list is rebuilt (R380). -/
structure WaitingPut where
  queue : Nat
  packet : Packet
deriving DecidableEq, Repr

/-- A put from a clocked port that has begun and not ended (R382). -/
structure PartialPut where
  queue : Nat
  cells : Nat
  since : Nat
deriving DecidableEq, Repr

/-- An Easel's put or get request under way: the address of its descriptor, its continuation and
the flow it serves. -/
structure PalJob where
  put : Bool
  addr : Nat
  task : Nat
  slot : Nat
  flow : Nat
deriving DecidableEq, Repr

/-- A host port transfer under way, with the settings in force at its GO (R390): host address,
queue, level, and length or capacity. -/
structure PortJob where
  addr : Nat
  queue : Nat
  level : Nat
  len : Nat
deriving DecidableEq, Repr

/-- The Palette. -/
structure Palette where
  queues : Vector PQueue 64
  grants : List GrantPayload
  /-- PAL_FLUSH.QUEUE, PAL_Q_IDX.QUEUE. -/
  flushQueue : Nat
  idx : Nat
  flushes : List FlushReq
  /-- Link faults whose rebuild of the free list is in progress: queue, packets discarded and
  start (R380). -/
  rebuilds : List (Nat × Nat × Nat)
  waiting : List WaitingPut
  parts : List PartialPut
  /-- Put and get requests of Easels accepted and not completed, oldest first (R124, R125). -/
  jobs : List PalJob
  /-- PAL_LINK_ECC. -/
  linkCorr : Nat
  linkUncorr : Nat
deriving DecidableEq, Repr

/-- One event queue (R391 to R394). Its staged records are the packets of Q24 + n. -/
structure Evq where
  base : Nat
  en : Bool
  log2Size : Nat
  minSev : Nat
  classMask : Nat
  modTime : Nat
  modCount : Nat
  urgent : Bool
  head : Nat
  tail : Nat
  phase : Nat
  /-- Records written since the last signal, and world time of the first of them. -/
  unsignalled : Nat
  firstAt : Nat
  lost : Nat
  /-- Records lost since the last EVQ_RECORDS_LOST, and the first lost sequence number. -/
  lostPending : Nat
  lostFirst : Nat
deriving DecidableEq, Repr

def Evq.reset : Evq :=
  { base := 0, en := false, log2Size := 4, minSev := 0, classMask := 0, modTime := 100,
    modCount := 1, urgent := true, head := 0, tail := 0, phase := 1, unsignalled := 0,
    firstAt := 0, lost := 0, lostPending := 0, lostFirst := 0 }

/-- A word waiting in a mailbox queue. -/
structure MbxWord where
  word : Word
  source : Nat
  sentAt : Nat
deriving DecidableEq, Repr

/-- One direction of a mailbox channel. `timedOut` holds until the queue has been empty. -/
structure MbxQueue where
  words : List MbxWord
  timedOut : Bool
deriving DecidableEq, Repr

/-- A mailbox channel (R403). Ends: 0 none, 1 Easels, 2 PCIe host, 3 direct port,
4 supervisor. `toEnd0` is the queue toward END0. -/
structure Mbx where
  end0 : Nat
  end1 : Nat
  tmo : Nat
  toEnd0 : MbxQueue
  toEnd1 : MbxQueue
  /-- Status of the host end. -/
  hostTimeout : Bool
  hostLastTx : Nat
  hostSrc : Nat
  /-- Status of the direct-port end. -/
  dpTimeout : Bool
  dpLastTx : Nat
deriving DecidableEq, Repr

def MbxQueue.empty : MbxQueue := { words := [], timedOut := false }

/-- An unjoined channel (R383). -/
def Mbx.unjoined : Mbx :=
  { end0 := 0, end1 := 0, tmo := 0, toEnd0 := .empty, toEnd1 := .empty, hostTimeout := false,
    hostLastTx := 7, hostSrc := 15, dpTimeout := false, dpLastTx := 7 }

/-- Channel 15 joins the PCIe host and the supervisor with a time-out of 1 s (R403). -/
def Mbx.supervisor : Mbx := { Mbx.unjoined with end0 := 2, end1 := 4, tmo := 1000000 }

/-- Host interfaces. -/
structure HostIf where
  /-- HST_PCI_STATUS. -/
  linkUp : Bool
  busMaster : Bool
  width : Nat
  speed : Nat
  evq : Vector Evq 8
  /-- Put port: HST_PUT_ADDR, LEVEL, QUEUE, LEN, RESULT. -/
  putAddr : Nat
  putLevel : Nat
  putQueue : Nat
  putLen : Nat
  putResult : Word
  /-- The put under way; PUT_BUSY reads 1 while there is one. -/
  putJob : Option PortJob
  /-- Get port: HST_GET_ADDR, QUEUE, CAP, RESULT. -/
  getAddr : Nat
  getQueue : Nat
  getCap : Nat
  getResult : Word
  getJob : Option PortJob
  /-- HST_DP_CFG.EN, HST_DP_STAT.REFUSED, and world times of the refusals of the last second. -/
  dpEn : Bool
  dpRefused : Nat
  dpTimes : List Nat
  /-- High time word held for direct-port word 7 (R397). -/
  dpHigh : Word
  /-- Direct-port probe counts of word 9: VALID 0 and all. -/
  dpInvalid : Nat
  dpProbes : Nat
  /-- Holder of each lock, 15 when free; TIES and FOREIGN (R399 to R402). -/
  locks : Vector Nat 32
  ties : Nat
  foreign : Nat
  mbx : Vector Mbx 16
  /-- HST_MBX_HOST.UP, and the supervisor out of its reset and boot. -/
  mbxUp : Bool
  supervisorUp : Bool
  /-- Answers the supervisor has still to send on channel 15 (R403, R408). -/
  mbxOwed : Nat
deriving DecidableEq, Repr

end Sys2Proof.Machine
end

