-- ==== Sys2Proof/Machine/StTwin.lean ====
section
/-! DEFINITION. The twin pair: input-log entries (Table 13-5), messages of the link (Table 13-1),
the deterministic plane as a snapshot carries it (Table 13-4), and the state of a unit (R413 to
R440). -/

namespace Sys2Proof.Machine

/-- TWN_STATUS.STATE (Table 13-12). -/
inductive TwinState where
  | solo | active | standbySyncing | standbyInstep | isolated | faulted
deriving DecidableEq, Repr

/-- An input-log entry (Table 13-5). -/
inductive LogEntry where
  | arrival (kind sel : Nat) (word : Word) (packet : Option Packet)
  | ack (frame : TxKind)
  | report (g : Option GdlReport) (c : CReport)
  /-- Result words d and t of a fabric operation, keyed by task, flow and operation index (R118). -/
  | fabric (task flow op : Nat) (d t : Word)
  | admission (closed : Bool)
  /-- A stop, or a subsumed one, and its place in the grant batch: the epoch in which the batch began and the
  requests of it executed before (R196). Its place among the stroke batches is the entry's epoch. -/
  | stop (x : Stop) (subsumed : Bool) (place : Nat × Nat)
  | release (seq role : Nat) (place : Nat × Nat)
  | hostGrant (desc : List Byte)
  | load (image : List Byte)
  /-- 0 cold, 1 autoload, 2 test. -/
  | start (how : Nat)
  | cartoonStop (role : Nat)
  | swap (epoch : Nat)
  | cancelSwap
  | flowRelease (flow role : Nat)
  | correction (msg : List Byte)
  | canvasError (word : Nat)
deriving DecidableEq, Repr

/-- What the air MAC of a standby must share with the active's to send identical frames (R285): plan,
superframe and radio slot, the correction stream, ASSIGNs due and self-stopped robots. -/
structure AirPlane where
  plan : Option (List Byte)
  nextPlan : Option (Nat × List Byte)
  counting : Bool
  superframe : Nat
  slot : Nat
  slotStart : Nat
  sfStart : Nat
  stopShown : Bool
  selfStopped : Tbl Bool
  assignDues : List AssignDue
  corr : List (List Byte)
  corrFirst : Nat
  corr24 : CorrPos
  corrSub : CorrPos
  /-- Sequence number of the last new frame to each station, by chain. -/
  seqs : Vector (Tbl Nat) 2
deriving DecidableEq, Repr

/-- The deterministic plane at an epoch boundary (Table 13-4). -/
structure DetPlane where
  canvas : Canvas
  stk : Stk
  gdl : Gdl
  dsp : Dsp
  easels : Vector Easel 8
  atelier : Atelier
  fleet : Fleet
  air : AirPlane
  epoch : Epoch
  queues : List (Nat × List Packet)
  grants : List GrantPayload
  detSeq : Nat
  buckets : Tbl Bucket
deriving DecidableEq, Repr

/-- What a TRANSFER carries. -/
inductive TransferPart where
  | image (c : Cartoon)
  | snapshot (epoch : Nat) (p : DetPlane)
  /-- A shared Portfolio (R493), and its outcome: 0 stored. -/
  | portfolio (bytes : List Byte)
  | outcome (status : Nat)
deriving DecidableEq, Repr

/-- Results of the standby tests (Table 13-9): PASS bits, lowest CAP, median loopback RSSI and
GNSS difference in ns. -/
structure Health where
  pass : Nat
  cap : Nat
  rssi : Int
  delta : Int
deriving DecidableEq, Repr

/-- What only the standby heard (R289): a station frame, or an Imm-Ack with its first symbol's
time. -/
inductive Heard where
  | frame (x : Rx)
  | immAck (chain channel seq t : Nat)
deriving DecidableEq, Repr

/-- A message of the twin link (Table 13-1). -/
inductive TwinMsg where
  /-- Time marker: departure time, arrival of the partner's last marker, time state and uncertainty
  (R367). -/
  | time (t : Nat) (arrival : Nat) (state : Nat) (u : Nat)
  /-- A stop of the standby's source for the active to raise; or one the active has raised, with its
  burst. -/
  | stop (x : Stop) (subsumed : Bool) (b : Option Burst)
  | release (seq : Nat) (role : Nat)
  | log (epoch : Nat) (e : LogEntry)
  | logClose (epoch : Nat)
  | logAck (epoch : Nat)
  | digest (epoch : Nat) (d : Nat)
  /-- Decision for class 1 and 2 frames of a radio slot (R308). -/
  | ledger (slot : Nat) (allow : Nat)
  | state (st : TwinState) (seatB : Bool) (incarnation : Nat) (run : Nat)
  | resign
  | forward (h : Heard)
  | transfer (p : TransferPart)
  | health (h : Health)
  | reset
deriving DecidableEq, Repr

/-- A logged fabric result the standby has not taken yet (R422). -/
structure FabResult where
  task : Nat
  flow : Nat
  op : Nat
  d : Word
  t : Word
deriving DecidableEq, Repr

/-- The twin pair. -/
structure Twin where
  state : TwinState
  /-- PEER_STATE: as STATE, 7 unknown; the partner's seat and incarnation as it states them. -/
  peer : Nat
  peerSeatB : Bool
  peerInc : Nat
  /-- The SEAT strap as sampled. -/
  seatB : Bool
  blocked : Bool
  /-- LINK: 0 down, 1 one lane, 2 both; HB_IN. -/
  link : Nat
  hbIn : Bool
  cmdResult : Bool
  /-- ISOLATED was entered from STANDBY_INSTEP; CMD ISOLATE holds it until RESYNC. -/
  fromInstep : Bool
  isolateHeld : Bool
  /-- A listening period in progress: superframe count begun, and a valid beacon heard in it. -/
  listenSince : Option Nat
  /-- Input log of the standby: entries by epoch not yet applied, and the last LOG_CLOSE. -/
  entries : List (Nat × LogEntry)
  lastClosed : Option Nat
  /-- Logged fabric results not yet taken (R422). -/
  fabric : List FabResult
  /-- Active: the last LOG_CLOSE sent with its time, and the last LOG_ACK. -/
  closeSent : Option (Nat × Nat)
  lastAck : Option Nat
  ackMax : Nat
  /-- Last decision of the active for a radio slot: its number and the classes allowed (R308). -/
  allow : Nat × Nat
  /-- Entries taken after the deadline, which belong to the next epoch (R420). -/
  closedUpTo : Option Nat
  /-- Own digests and the partner's, by epoch; consecutive mismatches. -/
  own : List (Nat × Nat)
  theirs : List (Nat × Nat)
  misses : Nat
  missEpoch : Nat
  missOwn : Nat
  missPeer : Nat
  mismatchCount : Nat
  matched : Nat
  fails : Nat
  sent : Nat
  transfers : Nat
  takeovers : Nat
  /-- Snapshot epoch named (active) or loaded (standby). -/
  snapshotE : Option Nat
  /-- World time of the last failed transfer, of entry into FAULTED, and whether a third failure
  brought it; RESET has been sent (R438). -/
  failedAt : Option Nat
  faultedAt : Nat
  thirdFail : Bool
  resetSent : Bool
  /-- SWITCH pending: superframe at whose start the roles swap; in the old active it stands until the
  partner is heard to serve. -/
  switchAt : Option Nat
  health : Nat
  healthAt : Nat
  /-- World time at which the scrub last found an uncorrectable Canvas word (Table 13-9). -/
  eccAt : Option Nat
  /-- World time of the last heartbeat service of the last 50 ms, and the level of TWHB_OUT (R415). -/
  hbServedAt : Option Nat
  hbOut : Nat
  /-- DSP_RUN_ID of the partner; a Cartoon received, and a snapshot loaded (R427). -/
  peerRun : Nat
  image : Option Cartoon
  loaded : Bool
  /-- Departure of this unit's last marker, arrival of the partner's, and the join of R368 is done. -/
  markerAt : Nat
  heardAt : Nat
  joined : Bool
  /-- ISOLATED was entered by a reset: six superframes of listening in seat B (R434). -/
  fromReset : Bool
deriving DecidableEq, Repr

def Twin.reset (seatB : Bool) : Twin :=
  { state := .isolated, peer := 7, peerSeatB := !seatB, peerInc := 0, seatB := seatB,
    blocked := false, link := 0, hbIn := false, cmdResult := false, fromInstep := false,
    isolateHeld := false, listenSince := none, entries := [], lastClosed := none, fabric := [],
    closeSent := none, lastAck := none, ackMax := 0, allow := (0, 0), closedUpTo := none, own := [],
    theirs := [], misses := 0, missEpoch := 0, missOwn := 0, missPeer := 0, mismatchCount := 0,
    matched := 0, fails := 0, sent := 0, transfers := 0, takeovers := 0, snapshotE := none,
    failedAt := none, faultedAt := 0, thirdFail := false, resetSent := false,
    switchAt := none, health := 0, healthAt := 0, eccAt := none, hbServedAt := none, hbOut := 0, peerRun := 0, image := none
    loaded := false, markerAt := 0, heardAt := 0, joined := false, fromReset := true }

end Sys2Proof.Machine
end

