-- ==== Sys2Proof/Syntax.lean ====
section
/-! DEFINITION. The commands of the block, one constructor per row of the opcode table. The
operands of a command are what its rule names: the fields of an instruction, the value written to
a register, the content of a received frame or message, and what the world supplies at that event
(log entry 2). -/

namespace Sys2Proof

open Sys2Proof.Machine

/-- The commands: one constructor per row of the opcode table. A docstring gives the row's
mnemonic and rule. -/
inductive Instr where
  /-- STOP_INPUT_FALL (R20). -/
  | stopInputFall (b : Bool)
  /-- FLEET_STOP_WRITE (R22). -/
  | fleetStopWrite (dp : Bool) (w : Word)
  /-- STOP_INPUT_DISCREPANCY (R21). -/
  | stopInputDiscrepancy
  /-- DISCREPANCY_CLEAR (R21). -/
  | discrepancyClear
  /-- STOP_RELEASE_WRITE (R29). -/
  | stopReleaseWrite (w : Word) (bad : List (BitVec 21))
  /-- BOOT_STOP_SELF_RELEASE (R28). -/
  | bootStopSelfRelease
  /-- INCARNATION_STORE (R15). -/
  | incarnationStore (status : BitVec 4)
  /-- INCARNATION_STORE_RETRY (R15). -/
  | incarnationStoreRetry (status : BitVec 4)
  /-- RESTART_END (R17). -/
  | restartEnd
  /-- EPOCH_BOUNDARY (R144). -/
  | epochBoundary
  /-- TASK_TICK (R149). -/
  | taskTick
  /-- EPOCH_DEADLINE (R44). -/
  | epochDeadline
  /-- ADMIT_N_REACHED (R47). -/
  | admitNReached
  /-- STOP_N_REACHED (R47). -/
  | stopNReached
  /-- LATENESS_CLEARED (R47). -/
  | latenessCleared
  /-- OUTPUT_PHASE (R46). -/
  | outputPhase (kind : Fin 3) (index : Nat)
  /-- TFC_POLICY_WRITE (R48). -/
  | tfcPolicyWrite (w : Word)
  /-- MONITOR_WINDOW_END (R51). -/
  | monitorWindowEnd (n : Fin 4) (rates : Vector (BitVec 16) 16) (temps : Vector (BitVec 8) 4) (read : BitVec 12)
  /-- CHAIN_EXCLUDED (R51). -/
  | chainExcluded (n : Fin 4) (j : Fin 16)
  /-- SENSOR_EXCLUDED (R52). -/
  | sensorExcluded (n j : Fin 4)
  /-- READY_SET (R58). -/
  | readySet
  /-- RAIL_LOWER (R58). -/
  | railLower (n : Fin 4)
  /-- AVS_FAULT (R59). -/
  | avsFault (n : Fin 4) (nack : Bool) (status : BitVec 16)
  /-- AVS_RETRY (R59). -/
  | avsRetry (n : Fin 4) (nack : Bool) (read : BitVec 12)
  /-- CONTRACT_AT_RISK (R60). -/
  | contractAtRisk (n : Fin 4)
  /-- CONTRACT_BREACH (R61). -/
  | contractBreach (n : Fin 4)
  /-- CONTRACT_RESTORED (R60). -/
  | contractRestored (n : Fin 4)
  /-- REGION_SKEW (R63). -/
  | regionSkew (p : Fin 4)
  /-- REGION_SKEW_CLEAR (R63). -/
  | regionSkewClear (p : Fin 4)
  /-- SKEW_RESET (R64). -/
  | skewReset (p : Fin 4)
  /-- DAILY_SAMPLE (R55). -/
  | dailySample
  /-- CAP_REFRESH (R56). -/
  | capRefresh
  /-- ADD (R102). -/
  | add (e : At) (d a b : GReg)
  /-- SUB (R102). -/
  | sub (e : At) (d a b : GReg)
  /-- AND (R102). -/
  | and (e : At) (d a b : GReg)
  /-- OR (R102). -/
  | or (e : At) (d a b : GReg)
  /-- XOR (R102). -/
  | xor (e : At) (d a b : GReg)
  /-- SLL (R102). -/
  | sll (e : At) (d a b : GReg)
  /-- SRL (R102). -/
  | srl (e : At) (d a b : GReg)
  /-- SRA (R102). -/
  | sra (e : At) (d a b : GReg)
  /-- SLT (R102). -/
  | slt (e : At) (d a b : GReg)
  /-- SLTU (R102). -/
  | sltu (e : At) (d a b : GReg)
  /-- MIN (R102). -/
  | min (e : At) (d a b : GReg)
  /-- MAX (R102). -/
  | max (e : At) (d a b : GReg)
  /-- ADDS (R102). -/
  | adds (e : At) (d a b : GReg)
  /-- SUBS (R102). -/
  | subs (e : At) (d a b : GReg)
  /-- CLZ (R102). -/
  | clz (e : At) (d a : GReg)
  /-- ADDI (R103). -/
  | addi (e : At) (d a : GReg) (imm : BitVec 16)
  /-- ANDI (R103). -/
  | andi (e : At) (d a : GReg) (imm : BitVec 16)
  /-- ORI (R103). -/
  | ori (e : At) (d a : GReg) (imm : BitVec 16)
  /-- XORI (R103). -/
  | xori (e : At) (d a : GReg) (imm : BitVec 16)
  /-- SLTI (R103). -/
  | slti (e : At) (d a : GReg) (imm : BitVec 16)
  /-- SLTIU (R103). -/
  | sltiu (e : At) (d a : GReg) (imm : BitVec 16)
  /-- LI (R103). -/
  | li (e : At) (d : GReg) (imm : BitVec 16)
  /-- LUI (R103). -/
  | lui (e : At) (d : GReg) (imm : BitVec 16)
  /-- SLLI (R103). -/
  | slli (e : At) (d a : GReg) (n : Fin 32)
  /-- SRLI (R103). -/
  | srli (e : At) (d a : GReg) (n : Fin 32)
  /-- SRAI (R103). -/
  | srai (e : At) (d a : GReg) (n : Fin 32)
  /-- EXT (R103). -/
  | ext (e : At) (d a : GReg) (pos len1 : Fin 32)
  /-- EXTS (R103). -/
  | exts (e : At) (d a : GReg) (pos len1 : Fin 32)
  /-- INS (R103). -/
  | ins (e : At) (d a : GReg) (pos len1 : Fin 32)
  /-- MUL (R104). -/
  | mul (e : At) (d a b : GReg)
  /-- MULH (R104). -/
  | mulh (e : At) (d a b : GReg)
  /-- MULHU (R104). -/
  | mulhu (e : At) (d a b : GReg)
  /-- DIV (R104). -/
  | div (e : At) (d a b : GReg)
  /-- DIVU (R104). -/
  | divu (e : At) (d a b : GReg)
  /-- REM (R104). -/
  | rem (e : At) (d a b : GReg)
  /-- REMU (R104). -/
  | remu (e : At) (d a b : GReg)
  /-- LD (R109). -/
  | ld (e : At) (m : Ecc) (t a : GReg) (post : Bool) (off : BitVec 15)
  /-- ST (R109). -/
  | st (e : At) (m : Ecc) (t a : GReg) (post : Bool) (off : BitVec 15)
  /-- VLD (R109). -/
  | vld (e : At) (m : Vector Ecc 8) (v : VReg) (a : GReg) (post : Bool) (off : BitVec 15)
  /-- VST (R109). -/
  | vst (e : At) (m : Ecc) (v : VReg) (a : GReg) (post : Bool) (off : BitVec 15)
  /-- LDA (R109). -/
  | lda (e : At) (m : Ecc) (t a : GReg) (post : Bool) (off : BitVec 15)
  /-- STA (R109). -/
  | sta (e : At) (m : Ecc) (t a : GReg) (post : Bool) (off : BitVec 15)
  /-- VLDA (R109). -/
  | vlda (e : At) (m : Vector Ecc 8) (v : VReg) (a : GReg) (post : Bool) (off : BitVec 15)
  /-- VSTA (R109). -/
  | vsta (e : At) (m : Ecc) (v : VReg) (a : GReg) (post : Bool) (off : BitVec 15)
  /-- VADD (R105). -/
  | vadd (e : At) (vd va vb : VReg)
  /-- VSUB (R105). -/
  | vsub (e : At) (vd va vb : VReg)
  /-- VAND (R105). -/
  | vand (e : At) (vd va vb : VReg)
  /-- VOR (R105). -/
  | vor (e : At) (vd va vb : VReg)
  /-- VXOR (R105). -/
  | vxor (e : At) (vd va vb : VReg)
  /-- VADDS (R105). -/
  | vadds (e : At) (vd va vb : VReg)
  /-- VSUBS (R105). -/
  | vsubs (e : At) (vd va vb : VReg)
  /-- VMIN (R105). -/
  | vmin (e : At) (vd va vb : VReg)
  /-- VMAX (R105). -/
  | vmax (e : At) (vd va vb : VReg)
  /-- VCEQ (R105). -/
  | vceq (e : At) (vd va vb : VReg)
  /-- VCLT (R105). -/
  | vclt (e : At) (vd va vb : VReg)
  /-- VCLTU (R105). -/
  | vcltu (e : At) (vd va vb : VReg)
  /-- VSEL (R105). -/
  | vsel (e : At) (vd va vb vc : VReg)
  /-- VABS (R105). -/
  | vabs (e : At) (vd va : VReg)
  /-- VSLLI (R105). -/
  | vslli (e : At) (vd va : VReg) (n : Fin 32)
  /-- VSRLI (R105). -/
  | vsrli (e : At) (vd va : VReg) (n : Fin 32)
  /-- VSRAI (R105). -/
  | vsrai (e : At) (vd va : VReg) (n : Fin 32)
  /-- VBCAST (R106). -/
  | vbcast (e : At) (v : VReg) (g : GReg)
  /-- VEXT (R106). -/
  | vext (e : At) (g : GReg) (v : VReg) (lane : Fin 8)
  /-- VINS (R106). -/
  | vins (e : At) (v : VReg) (g : GReg) (lane : Fin 8)
  /-- VMUL (R107). -/
  | vmul (e : At) (vd va vb : VReg)
  /-- VMULH (R107). -/
  | vmulh (e : At) (vd va vb : VReg)
  /-- VMAC (R108). -/
  | vmac (e : At) (acc : AReg) (va vb : VReg)
  /-- VMSU (R108). -/
  | vmsu (e : At) (acc : AReg) (va vb : VReg)
  /-- AMOV (R108). -/
  | amov (e : At) (v : VReg) (acc : AReg) (sh : Fin 64)
  /-- AMOVR (R108). -/
  | amovr (e : At) (v : VReg) (acc : AReg) (sh : Fin 64)
  /-- AMOVL (R108). -/
  | amovl (e : At) (v : VReg) (acc : AReg)
  /-- AMOVH (R108). -/
  | amovh (e : At) (v : VReg) (acc : AReg)
  /-- ACLR (R108). -/
  | aclr (e : At) (acc : AReg)
  /-- ALD (R108). -/
  | ald (e : At) (acc : AReg) (v : VReg) (sh : Fin 32)
  /-- BEQ (R112). -/
  | beq (e : At) (a b : GReg) (off : BitVec 14)
  /-- BNE (R112). -/
  | bne (e : At) (a b : GReg) (off : BitVec 14)
  /-- BLT (R112). -/
  | blt (e : At) (a b : GReg) (off : BitVec 14)
  /-- BGE (R112). -/
  | bge (e : At) (a b : GReg) (off : BitVec 14)
  /-- BLTU (R112). -/
  | bltu (e : At) (a b : GReg) (off : BitVec 14)
  /-- BGEU (R112). -/
  | bgeu (e : At) (a b : GReg) (off : BitVec 14)
  /-- JMP (R112). -/
  | jmp (e : At) (off : BitVec 14)
  /-- CALL (R112). -/
  | call (e : At) (target : BitVec 14)
  /-- END (R83). -/
  | endI (e : At)
  /-- RET (R116). -/
  | ret (e : At)
  /-- BREAK (R112). -/
  | breakI (e : At)
  /-- LIDX (R112). -/
  | lidx (e : At) (d : GReg)
  /-- LOOP (R113). -/
  | loop (e : At) (c : GReg) (bound : BitVec 16) (last : BitVec 14)
  /-- FCPRB (R117). -/
  | fcprb (e : At) (m : Ecc) (d s : GReg)
  /-- FCPRBV (R117). -/
  | fcprbv (e : At) (m : Vector Ecc 8) (v : VReg) (s : GReg)
  /-- FLOCK (R117). -/
  | flock (e : At) (arb : Arb) (d : GReg) (n : Fin 32)
  /-- FUNLOCK (R117). -/
  | funlock (e : At) (d : GReg) (n : Fin 32)
  /-- FMBS (R117). -/
  | fmbs (e : At) (d s : GReg) (ch : Fin 16)
  /-- FMBR (R117). -/
  | fmbr (e : At) (d t : GReg) (ch : Fin 16)
  /-- FEMIT (R120). -/
  | femit (e : At) (d s : GReg) (sev : Fin 4) (n : Fin 64)
  /-- FTIME (R117). -/
  | ftime (e : At) (d t : GReg)
  /-- FSTAMP (R119). -/
  | fstamp (e : At) (d : GReg)
  /-- FSTOP (R121). -/
  | fstop (e : At) (d s : GReg) (kind : StopArg) (bad : List (BitVec 21))
  /-- FSREL (R117). -/
  | fsrel (e : At) (d s : GReg) (bad : List (BitVec 21))
  /-- FPCNT (R117). -/
  | fpcnt (e : At) (d : GReg) (q : Fin 64)
  /-- FGRANT (R123). -/
  | fgrant (e : At) (s : GReg) (task : BitVec 11) (slot : Fin 4)
  /-- FSTK (R123). -/
  | fstk (e : At) (s : GReg) (task : BitVec 11) (slot : Fin 4)
  /-- FLOOP (R123). -/
  | floop (e : At) (s : GReg) (task : BitVec 11) (slot : Fin 4)
  /-- FPPUT (R123). -/
  | fpput (e : At) (s : GReg) (task : BitVec 11) (slot : Fin 4)
  /-- FPGET (R123). -/
  | fpget (e : At) (s : GReg) (task : BitVec 11) (slot : Fin 4)
  /-- FABRIC_REQUEST_DRAIN (R125). -/
  | fabricRequestDrain (k : Fin 8)
  /-- PALETTE_REQUEST_COMPLETE (R124). -/
  | paletteRequestComplete (ro : ReadOut)
  /-- CONTINUATION_RESULT (R147). -/
  | continuationResult
  /-- DISPATCH_DECISION (R152). -/
  | dispatchDecision
  /-- EASEL_SCRUB (R76). -/
  | easelScrub (k : Fin 8) (m : Ecc)
  /-- ATELIER_SCRUB (R76). -/
  | atelierScrub (ms : Vector Ecc 8)
  /-- EAS_HALT (R95). -/
  | easHalt (k : Fin 8) (brk : BitVec 2)
  /-- EAS_RESUME (R95). -/
  | easResume (k : Fin 8) (brk : BitVec 2)
  /-- EAS_STEP (R96). -/
  | easStep (k : Fin 8) (brk : BitVec 2)
  /-- BREAKPOINT_HIT (R96). -/
  | breakpointHit (k : Fin 8)
  /-- EAS_MEM_DATA_READ (R96). -/
  | easMemDataRead (k : Fin 8) (m : Ecc)
  /-- EAS_MEM_DATA_WRITE (R95). -/
  | easMemDataWrite (k : Fin 8) (w : Word)
  /-- LOAD (R138). -/
  | load
  /-- LOAD_COMPLETE (R138). -/
  | loadComplete (data : Option (List Byte))
  /-- START (R140). -/
  | start (stored : Bool)
  /-- STOP (R143). -/
  | stop
  /-- CARTOON_STOP_EFFECT (R143). -/
  | cartoonStopEffect
  /-- SWAP (R155). -/
  | swap
  /-- CANCEL_SWAP (R137). -/
  | cancelSwap
  /-- SWAP_EPOCH (R156). -/
  | swapEpoch
  /-- STORE (R142). -/
  | store
  /-- STORE_COMPLETE (R142). -/
  | storeComplete (status : BitVec 4)
  /-- ERASE_STORED (R137). -/
  | eraseStored (status : BitVec 4)
  /-- TEST_ENTER (R158). -/
  | testEnter
  /-- TEST_EXIT (R143). -/
  | testExit
  /-- AUTOLOAD (R141). -/
  | autoload
  /-- STARTUP_END (R154). -/
  | startupEnd
  /-- ARRIVAL_DRAIN (R148). -/
  | arrivalDrain (k : Fin 6)
  /-- FLOW_RELEASE_WRITE (R93). -/
  | flowReleaseWrite (w : Word)
  /-- FLOW_RESTART (R157). -/
  | flowRestart
  /-- TRACE_CLEAR (R160). -/
  | traceClear (w : Word)
  /-- DSP_KEY_DATA_WRITE (R163). -/
  | dspKeyDataWrite (w : Word)
  /-- DSP_KEY_PROGRAM (R163). -/
  | dspKeyProgram (slot : Fin 4)
  /-- DSP_KEY_REVOKE (R163). -/
  | dspKeyRevoke (slot : Fin 4)
  /-- CANVAS_SLOT_BOUNDARY (R172). -/
  | canvasSlotBoundary
  /-- SWEEP_COMPLETE (R172). -/
  | sweepComplete (bad : List (BitVec 21))
  /-- SWEEP_LATE (R173). -/
  | sweepLate
  /-- GRANT_BATCH (R177). -/
  | grantBatch
  /-- REPORT_HANDLING (R190). -/
  | reportHandling (bad : List (BitVec 21))
  /-- GRANT (R180). -/
  | grant (bad1 bad2 : List (BitVec 21)) (upTo : Option Nat)
  /-- WITHDRAW (R194). -/
  | withdraw (bad : List (BitVec 21))
  /-- BLOCK (R203). -/
  | block (bad : List (BitVec 21))
  /-- UNBLOCK (R203). -/
  | unblock (bad : List (BitVec 21))
  /-- HOST_GRANT_GO (R195). -/
  | hostGrantGo (w : Word) (data : Option (List Byte))
  /-- GRANT_DELIVERED (R192). -/
  | grantDelivered
  /-- GRANT_UNDELIVERED (R192). -/
  | grantUndelivered
  /-- ROBOT_LOST (R200). -/
  | robotLost (r : BitVec 8) (bad : List (BitVec 21))
  /-- PERSIST_REMAINDER_APPLIED (R202). -/
  | persistRemainderApplied
  /-- CANVAS_SCRUB (R207). -/
  | canvasScrub (m : Ecc)
  /-- STROKE_BATCH (R217). -/
  | strokeBatch
  /-- MOVE_POS (R220). -/
  | movePos
  /-- MOVE_SPEED (R221). -/
  | moveSpeed
  /-- STROKE_STOP (R223). -/
  | strokeStop
  /-- RESUME (R223). -/
  | resume
  /-- CORRIDOR (R229). -/
  | corridor
  /-- SET_PROFILE (R216). -/
  | setProfile
  /-- SET_ROUTE (R216). -/
  | setRoute
  /-- SYNC (R216). -/
  | sync
  /-- GUIDANCE_REPORT (R235). -/
  | guidanceReport
  /-- LOOP_ENABLE (R242). -/
  | loopEnable
  /-- LOOP_DISABLE (R242). -/
  | loopDisable
  /-- LOOP_RESET (R242). -/
  | loopReset
  /-- GLAZE_CLEAR (R242). -/
  | glazeClear
  /-- LEARN (R242). -/
  | learn
  /-- DRIVE_LOOP_BLOCK (R238). -/
  | driveLoopBlock
  /-- RADIO_SLOT_BOUNDARY (R255). -/
  | radioSlotBoundary (ros : Vector ReadOut 7) (levels : Vector (BitVec 8) 5)
  /-- SUPERFRAME_BOUNDARY (R253). -/
  | superframeBoundary
  /-- STATION_FRAME_RECEIVED (R248). -/
  | stationFrameReceived (chain : Fin 2) (channel : Fin 16) (rssi : BitVec 8) (mpdu : List Byte)
  /-- REPORT_RECEIVED (R265). -/
  | reportReceived
  /-- JOIN_RECEIVED (R276). -/
  | joinReceived
  /-- UDATA_RECEIVED (R281). -/
  | udataReceived
  /-- IMM_ACK_RECEIVED (R272). -/
  | immAckReceived (chain : Fin 2) (channel : Fin 16) (seq : Byte) (t : Nat)
  /-- STATION_AGED (R276). -/
  | stationAged (chain : Fin 2) (station : Fin 1024)
  /-- PROVISION (R276). -/
  | provision
  /-- STATION_CLEAR (R276). -/
  | stationClear
  /-- TOMBSTONE (R276). -/
  | tombstone
  /-- STATION_SCRUB (R279). -/
  | stationScrub (m24 mSub : Ecc) (ext24 extSub : Bool)
  /-- AIR_KEY_CTL_WRITE (R249). -/
  | airKeyCtlWrite (w : Word)
  /-- AIR_KEY_DATA_WRITE (R249). -/
  | airKeyDataWrite (w : Word)
  /-- PLAN_CHANGE (R260). -/
  | planChange
  /-- STOP_REPETITION (R283). -/
  | stopRepetition (chain : Fin 2)
  /-- ECHO_EXIT (R286). -/
  | echoExit
  /-- LEDGER_BUCKET_BOUNDARY (R301). -/
  | ledgerBucketBoundary (band : Fin 2)
  /-- LEDGER_SNAPSHOT (R307). -/
  | ledgerSnapshot (status : BitVec 4)
  /-- LEDGER_SETTINGS_WRITE (R305). -/
  | ledgerSettingsWrite (reg : LdgReg) (w : Word)
  /-- RFB_PATH_WRITE (R297). -/
  | rfbPathWrite (chain : Fin 2) (w : Word)
  /-- MEASUREMENT_EPOCH (R324). -/
  | measurementEpoch (obs : GnssObs)
  /-- TIME_LOCKED (R338). -/
  | timeLocked
  /-- HOLDOVER_ENTRY (R338). -/
  | holdoverEntry
  /-- HOLDOVER_UPDATE (R339). -/
  | holdoverUpdate
  /-- JUMP_ACCEPTED (R337). -/
  | jumpAccepted
  /-- TIME_STEP (R340). -/
  | timeStep
  /-- MEASUREMENT_RATE_CHANGE (R324). -/
  | measurementRateChange
  /-- RTCM_ARP_SEND (R332). -/
  | rtcmArpSend
  /-- RTCM_DESCRIPTOR_SEND (R332). -/
  | rtcmDescriptorSend
  /-- SPECTRUM_ESTIMATE (R319). -/
  | spectrumEstimate (band : Fin 2) (agc floor : Int) (bins : List Nat)
  /-- NOTCH_RELEASE (R319). -/
  | notchRelease (band : Fin 2) (k : Fin 4)
  /-- ANTENNA_FAULT (R317). -/
  | antennaFault (input : Fin 2) (ma : BitVec 16)
  /-- BIAS_RETRY (R317). -/
  | biasRetry (input : Fin 2) (ma : BitVec 16)
  /-- SURVEY_RESTART (R327). -/
  | surveyRestart (w : Word)
  /-- SURVEY_SLOW (R328). -/
  | surveySlow
  /-- COORD_MISMATCH (R329). -/
  | coordMismatch
  /-- COORD_MISMATCH_CLEAR (R329). -/
  | coordMismatchClear
  /-- FIXED_COORD_WRITE (R330). -/
  | fixedCoordWrite (reg : Fin 4) (v : BitVec 64)
  /-- SV_SLOT_RELEASE (R313). -/
  | svSlotRelease (slot : Fin 64)
  /-- GNSS_DATA_SAVE (R314). -/
  | gnssDataSave
  /-- CAPTURE_GO (R318). -/
  | captureGo (w : Word)
  /-- CAPTURE_COMPLETE (R318). -/
  | captureComplete (samples : List Byte)
  /-- CAP_DATA_READ (R318). -/
  | capDataRead
  /-- TP0_EDGE (R343). -/
  | tp0Edge (staged : Bool)
  /-- AUTOMATIC_COMMIT (R351). -/
  | automaticCommit
  /-- TMB_READ (R353). -/
  | tmbRead (now : Bool) (part : Fin 3)
  /-- STAMP_EDGE (R355). -/
  | stampEdge (source : Fin 25)
  /-- TIME_SOURCE_CHANGE (R357). -/
  | timeSourceChange
  /-- TMB_SET_WRITE (R359). -/
  | tmbSetWrite (v : BitVec 64)
  /-- TMB_FREE_RATE_WRITE (R359). -/
  | tmbFreeRateWrite (w : Word)
  /-- RTC_UPDATE (R358). -/
  | rtcUpdate
  /-- ETH_LINK (R362). -/
  | ethLink (port : Fin 2) (up : Bool) (speed : BitVec 16) (part : Nat)
  /-- ETH_EGRESS_DROP (R362). -/
  | ethEgressDrop (port : Fin 2) (ro : ReadOut)
  /-- ETH_FRAME_RECEIVED (R385). -/
  | ethFrameReceived (port : Fin 2) (frame : List Byte) (fcsOk : Bool)
  /-- ETH_FRAME_SEND (R385). -/
  | ethFrameSend (port : Fin 2) (ro : ReadOut)
  /-- ARP_REQUEST (R361). -/
  | arpRequest (port : Fin 2) (senderMac : BitVec 48) (senderIp targetIp : BitVec 32)
  /-- PTP_SYNC_SEND (R364). -/
  | ptpSyncSend (port : Fin 2)
  /-- PTP_ANNOUNCE_SEND (R365). -/
  | ptpAnnounceSend (port : Fin 2)
  /-- PTP_DELAY_REQ_SEND (R363). -/
  | ptpDelayReqSend (port : Fin 2)
  /-- PTP_SYNC_RECEIVED (R366). -/
  | ptpSyncReceived (port : Fin 2) (m : PtpMsg)
  /-- PTP_FOLLOW_UP_RECEIVED (R363). -/
  | ptpFollowUpReceived (port : Fin 2) (m : PtpMsg)
  /-- PTP_DELAY_REQ_RECEIVED (R363). -/
  | ptpDelayReqReceived (port : Fin 2) (m : PtpMsg)
  /-- PTP_DELAY_RESP_RECEIVED (R366). -/
  | ptpDelayRespReceived (port : Fin 2) (m : PtpMsg) (requester : BitVec 80) (freq slew : Int)
  /-- PTP_ANNOUNCE_RECEIVED (R366). -/
  | ptpAnnounceReceived (port : Fin 2) (m : PtpMsg) (d : PtpData)
  /-- TIME (R367). -/
  | timeMsg (t1 t3 t4 : Nat) (st : Fin 4) (u : BitVec 24) (rate : Int)
  /-- HOST_PUT_GO (R390). -/
  | hostPutGo (w : Word)
  /-- HOST_PUT_DONE (R390). -/
  | hostPutDone (data : Option (List Byte))
  /-- HOST_GET_GO (R390). -/
  | hostGetGo (w : Word)
  /-- HOST_GET_DONE (R390). -/
  | hostGetDone (ro : ReadOut)
  /-- PALETTE_FLUSH_WRITE (R379). -/
  | paletteFlushWrite (w : Word)
  /-- PALETTE_FLUSH (R379). -/
  | paletteFlush (q : Fin 64)
  /-- FREE_LIST_REBUILT (R380). -/
  | freeListRebuilt
  /-- PARTIAL_PACKET_DISCARD (R382). -/
  | partialPacketDiscard (q : Fin 64)
  /-- PCIE_RESET (R388). -/
  | pcieReset (kind : PcieReset)
  /-- PCIE_LINK_RETURN (R388). -/
  | pcieLinkReturn (speed width : Nat) (busMaster : Bool)
  /-- PCIE_CANVAS_READ (R387). -/
  | pcieCanvasRead (addr n : Nat) (ms : List Ecc)
  /-- EVQ_ENABLE (R392). -/
  | evqEnable (n : Fin 8) (w : Word)
  /-- EVQ_RECORD_WRITE (R392). -/
  | evqRecordWrite (n : Fin 8) (ro : ReadOut)
  /-- EVQ_MODERATION_TIMER (R393). -/
  | evqModerationTimer (n : Fin 8)
  /-- EVQ_TAIL_WRITE (R392). -/
  | evqTailWrite (n : Fin 8) (w : Word)
  /-- DP_TIME_READ (R397). -/
  | dpTimeRead
  /-- DP_PROBE_COUNT_READ (R397). -/
  | dpProbeCountRead
  /-- DP_CANVAS_PROBE (R174). -/
  | dpCanvasProbe (cell : BitVec 23) (m : Ecc)
  /-- DP_LOCK_READ (R399). -/
  | dpLockRead (k : Fin 32) (arb : Arb)
  /-- DP_LOCK_WRITE (R401). -/
  | dpLockWrite (k : Fin 32)
  /-- DP_MBX_TAKE (R405). -/
  | dpMbxTake (c : Fin 16)
  /-- DP_MBX_SEND (R404). -/
  | dpMbxSend (c : Fin 16) (w : Word)
  /-- DP_MBX_STATUS_READ (R397). -/
  | dpMbxStatusRead (c : Fin 16)
  /-- DP_WRITE (R398). -/
  | dpWrite (word : BitVec 24) (data : Word)
  /-- DP_EN_WRITE (R398). -/
  | dpEnWrite (en : Bool)
  /-- HOST_LOCK_READ (R399). -/
  | hostLockRead (k : Fin 32) (arb : Arb)
  /-- HOST_LOCK_WRITE (R401). -/
  | hostLockWrite (k : Fin 32)
  /-- LOCK_FREE_WRITE (R401). -/
  | lockFreeWrite (w : Word)
  /-- HOST_MBX_TX (R404). -/
  | hostMbxTx (c : Fin 16) (w : Word)
  /-- HOST_MBX_RX (R405). -/
  | hostMbxRx (c : Fin 16)
  /-- MAILBOX_TIMEOUT (R406). -/
  | mailboxTimeout (c : Fin 16) (toEnd1 : Bool)
  /-- MBX_HOST_UP_WRITE (R407). -/
  | mbxHostUpWrite (up : Bool)
  /-- TWIN_LINK_UP (R414). -/
  | twinLinkUp
  /-- TWIN_LINK_DOWN (R414). -/
  | twinLinkDown
  /-- TWIN_LANE_LOST (R414). -/
  | twinLaneLost
  /-- HEARTBEAT_PRESENT (R415). -/
  | heartbeatPresent
  /-- HEARTBEAT_LOST (R415). -/
  | heartbeatLost
  /-- LOG (R419). -/
  | logMsg (e : Nat) (x : LogEntry)
  /-- LOG_CLOSE (R420). -/
  | logCloseMsg (e : Nat)
  /-- LOG_ACK (R421). -/
  | logAckMsg (e : Nat)
  /-- LOG_ACK_TIMEOUT (R421). -/
  | logAckTimeout
  /-- LOG_CLOSE_TIMEOUT (R421). -/
  | logCloseTimeout
  /-- DIGEST_SEND (R426). -/
  | digestSend
  /-- DIGEST (R426). -/
  | digestMsg (e d : Nat)
  /-- DIGEST_TIMEOUT (R426). -/
  | digestTimeout
  /-- LEDGER (R308). -/
  | ledgerMsg (slot allow : Nat)
  /-- STATE (R417). -/
  | stateMsg (st : TwinState) (seatB : Bool) (inc : BitVec 16) (run : BitVec 64)
  /-- RESIGN (R430). -/
  | resignMsg
  /-- FORWARD (R289). -/
  | forwardMsg (h : Heard)
  /-- TRANSFER (R427). -/
  | transferMsg (p : TransferPart)
  /-- HEALTH (R437). -/
  | healthMsg (h : Health)
  /-- RESET (R438). -/
  | resetMsg
  /-- STOP_RELAY (R24). -/
  | stopRelay (x : Stop) (subsumed : Bool) (b : Option Burst)
  /-- RELEASE_RELAY (R32). -/
  | releaseRelay (seq : BitVec 16) (role : Fin 6)
  /-- TWIN_SNAPSHOT (R427). -/
  | twinSnapshot
  /-- TWIN_CAUGHT_UP (R428). -/
  | twinCaughtUp
  /-- TRANSFER_TIMEOUT (R429). -/
  | transferTimeout (cause : Fin 10)
  /-- TRANSFER_RETRY (R429). -/
  | transferRetry
  /-- FAULTED_TIMEOUT (R417). -/
  | faultedTimeout
  /-- LISTEN_EXPIRY (R432). -/
  | listenExpiry (heard : Bool)
  /-- SWITCH (R436). -/
  | switch
  /-- SWITCHOVER (R436). -/
  | switchover
  /-- RESYNC (R429). -/
  | resync
  /-- ISOLATE (R440). -/
  | isolate
  /-- STANDBY_HEALTH_REPORT (R437). -/
  | standbyHealthReport (o : HealthObs)
  /-- PWM_PERIOD_CENTRE (R443). -/
  | pwmPeriodCentre (samples : Vector (BitVec 12) 16)
  /-- STANDSTILL_ENTER (R452). -/
  | standstillEnter (d : Fin 8)
  /-- STEP_EDGE (R451). -/
  | stepEdge (d : Fin 8) (up : Bool)
  /-- FOLLOW_IDLE (R451). -/
  | followIdle (d : Fin 8)
  /-- LIMIT_INPUT_CHANGE (R454). -/
  | limitInputChange (d : Fin 8) (far level : Bool)
  /-- CHATTER_END (R453). -/
  | chatterEnd (d : Fin 8) (far : Bool)
  /-- HOMING_PHASE_END (R449). -/
  | homingPhaseEnd (d : Fin 8)
  /-- DRIVE_HOME (R457). -/
  | driveHome (ro : ReadOut)
  /-- DRIVE_CLEAR (R457). -/
  | driveClear (ro : ReadOut)
  /-- SET_MODE (R457). -/
  | setMode (ro : ReadOut)
  /-- STALL_DETECTION_START (R461). -/
  | stallDetectionStart
  /-- SESSION_OPEN (R469). -/
  | sessionOpen (role : Fin 4) (chal : Vector Byte 32)
  /-- SESSION_PROVE (R469). -/
  | sessionProve
  /-- SESSION_CLOSE (R471). -/
  | sessionClose
  /-- SESSION_IDLE_TIMEOUT (R471). -/
  | sessionIdleTimeout (svc : Bool)
  /-- CHALLENGE_EXPIRY (R470). -/
  | challengeExpiry (svc : Bool)
  /-- SESSION_LOCKOUT_END (R470). -/
  | sessionLockoutEnd (svc : Bool)
  /-- KEY_DATA_WRITE (R468). -/
  | keyDataWrite (w : Word)
  /-- KEY_COUNT_RESTART (R468). -/
  | keyCountRestart
  /-- KEY_PROGRAM (R468). -/
  | keyProgram (role : Fin 4)
  /-- BUCKET_REFILL (R476). -/
  | bucketRefill (code : BitVec 16)
  /-- PNT_RL_WRITE (R476). -/
  | pntRlWrite (w : Word)
  /-- RL_SETTINGS_APPLY (R476). -/
  | rlSettingsApply
  /-- PENTIMENTO_SLOT_WRITE (R477). -/
  | pentimentoSlotWrite (status : BitVec 4)
  /-- PENTIMENTO_CLEAR (R481). -/
  | pentimentoClear (w : Word)
  /-- PENTIMENTO_CLEAR_DONE (R481). -/
  | pentimentoClearDone
  /-- SVC_READ (R489). -/
  | svcRead
  /-- HELLO (R490). -/
  | hello (seq : BitVec 16)
  /-- SESS_OPEN (R490). -/
  | sessOpen (seq : BitVec 16) (role : Byte) (chal : Vector Byte 32)
  /-- SESS_PROVE (R490). -/
  | sessProve (seq : BitVec 16) (response : Vector Byte 32)
  /-- SESS_CLOSE (R490). -/
  | sessClose (seq : BitVec 16)
  /-- STAGE_BEGIN (R491). -/
  | stageBegin (seq : BitVec 16) (len : BitVec 32) (flash : BitVec 4)
  /-- STAGE_DATA (R492). -/
  | stageData (seq : BitVec 16) (off : BitVec 32) (data : List Byte) (flash : BitVec 4)
  /-- STAGE_END (R492). -/
  | stageEnd (seq : BitVec 16) (flash : BitVec 4)
  /-- STAGE_ABORT (R491). -/
  | stageAbort (seq : BitVec 16)
  /-- STAGING_TIMEOUT (R491). -/
  | stagingTimeout
  /-- CONFIRM (R497). -/
  | confirm (seq : BitVec 16) (flash : BitVec 4)
  /-- REBOOT (R490). -/
  | reboot (seq : BitVec 16)
  /-- PFO_CONFIRM (R497). -/
  | pfoConfirm (flash : BitVec 4)
  /-- SHARE (R493). -/
  | share
  /-- PFO_REBOOT (R500). -/
  | pfoReboot
  /-- PFO_KEY_DATA_WRITE (R488). -/
  | pfoKeyDataWrite (w : Word)
  /-- PFO_KEY_PROGRAM (R488). -/
  | pfoKeyProgram (slot : Fin 4)
  /-- PFO_KEY_REVOKE (R488). -/
  | pfoKeyRevoke (slot : Fin 4)
  /-- PORTFOLIO_EXAMINATION (R495). -/
  | portfolioExamination (fail : Option (Fin 8))
  /-- ATTEMPTS_CLEAR (R496). -/
  | attemptsClear
  /-- PWR_REQ_RUN (R504). -/
  | pwrReqRun
  /-- PWR_REQ_QUIET (R504). -/
  | pwrReqQuiet
  /-- PWR_REQ_SLEEP (R504). -/
  | pwrReqSleep
  /-- PWR_REQ_DEEP (R504). -/
  | pwrReqDeep
  /-- PWR_REQ_INVALID (R504). -/
  | pwrReqInvalid (v : Fin 4)
  /-- PWR_SOFT (R512). -/
  | pwrSoft
  /-- QUIET_ENTRY (R504). -/
  | quietEntry
  /-- QUIET_EXIT (R504). -/
  | quietExit
  /-- SLEEP_ENTRY (R504). -/
  | sleepEntry
  /-- SLEEP_WAKE (R506). -/
  | sleepWake
  /-- DEEP_ENTRY (R507). -/
  | deepEntry
  /-- DEEP_WAKE (R507). -/
  | deepWake (resetN : Bool)
  /-- SUPPLY_DIP_START (R509). -/
  | supplyDipStart
  /-- SUPPLY_DIP_END (R510). -/
  | supplyDipEnd
  /-- CMP1_TRIP (R511). -/
  | cmp1Trip
  /-- TAMPER (R508). -/
  | tamper
  /-- RESET_N_LOW (R512). -/
  | resetNLow
  /-- WATCHDOG_EXPIRY (R513). -/
  | watchdogExpiry
  /-- CI1_POWER_REGAINED (R503). -/
  | ci1PowerRegained
  /-- BOOT (R515). -/
  | boot (x : BootObs)
  /-- REFERENCE_ACCEPTED (R531). -/
  | referenceAccepted
  /-- REFERENCE_LOST (R531). -/
  | referenceLost
  /-- PWR_CMP_CFG_WRITE (R508). -/
  | pwrCmpCfgWrite (w : Word)
  /-- CONFIG_SAVE (R517). -/
  | configSave
  /-- CONFIG_SAVE_DONE (R517). -/
  | configSaveDone (status : BitVec 4)
  /-- FLASH_OPERATION_DONE (R541). -/
  | flashOperationDone (status : BitVec 4)
  /-- REGISTER_WRITE (R6). -/
  | registerWrite (addr : BitVec 24) (len : Fin 9) (v : BitVec 64)
  /-- ILLEGAL_INSTRUCTION (R99). -/
  | illegalInstruction (e : At)
  /-- RC_REGISTER_READ (R6). -/
  | rcRegisterRead (addr : BitVec 24) (len : Fin 9)
  /-- STOP_INPUT_RISE (R21). -/
  | stopInputRise (b : Bool)
  /-- TAMPER_CLEARED (R508). -/
  | tamperCleared
  /-- SV_SLOT_ASSIGNED (R313). -/
  | svSlotAssigned (view : List SvInView)
  /-- WATCHDOG_SERVICE (R513). -/
  | watchdogService
  /-- HEARTBEAT_SERVICE (R415). -/
  | heartbeatService
  /-- HEARTBEAT_OUT_STOPPED (R415). -/
  | heartbeatOutStopped
  /-- SUPERVISOR_MAILBOX_ANSWER (R403). -/
  | supervisorMailboxAnswer
  /-- SVC_REQUEST_INVALID (R490). -/
  | svcRequestInvalid (crcBad : Bool) (seq : BitVec 16) (type : Byte)
  /-- DRIVE_PACKET_INVALID (R457). -/
  | drivePacketInvalid (ro : ReadOut)
deriving DecidableEq, Repr

end Sys2Proof
end

