-- ==== Sys2Proof/Decode.lean ====
section
/-! DEFINITION. The table's words (it gives none of its rows bits), and the instruction words an
Easel fetches: their encoder and decoder, from Tables 4-1 to 4-12. -/

namespace Sys2Proof

open Sys2Proof.Machine

/-- The command a word of the opcode table spells. The table gives no row any bits, so no word
spells a command. -/
def decodeTableWord (_nbits _w : Nat) : Option Instr := none

/-! ## Function codes (Tables 4-3 to 4-12) -/

def aluFunc : AluOp → Nat
  | .add => 0 | .sub => 1 | .and => 2 | .or => 3 | .xor => 4 | .sll => 5 | .srl => 6 | .sra => 7
  | .slt => 8 | .sltu => 9 | .min => 10 | .max => 11 | .adds => 12 | .subs => 13

def aluOfFunc : Nat → Option AluOp
  | 0 => some .add | 1 => some .sub | 2 => some .and | 3 => some .or | 4 => some .xor
  | 5 => some .sll | 6 => some .srl | 7 => some .sra | 8 => some .slt | 9 => some .sltu
  | 10 => some .min | 11 => some .max | 12 => some .adds | 13 => some .subs | _ => none

def immOpcode : ImmOp → Nat
  | .addi => 1 | .andi => 2 | .ori => 3 | .xori => 4 | .slti => 5 | .sltiu => 6

def shCode : ShOp → Nat
  | .sll => 0 | .srl => 1 | .sra => 2

def shOfCode : Nat → Option ShOp
  | 0 => some .sll | 1 => some .srl | 2 => some .sra | _ => none

def fieldCode : FieldOp → Nat
  | .ext => 0 | .exts => 1 | .ins => 2

def fieldOfCode : Nat → Option FieldOp
  | 0 => some .ext | 1 => some .exts | 2 => some .ins | _ => none

def mulFunc : MulOp → Nat
  | .mul => 0 | .mulh => 1 | .mulhu => 2

def mulOfFunc : Nat → Option MulOp
  | 0 => some .mul | 1 => some .mulh | 2 => some .mulhu | _ => none

def divFunc : DivOp → Nat
  | .div => 0 | .divu => 1 | .rem => 2 | .remu => 3

def divOfFunc : Nat → Option DivOp
  | 0 => some .div | 1 => some .divu | 2 => some .rem | 3 => some .remu | _ => none

def laneFunc : LaneOp → Nat
  | .vadd => 0 | .vsub => 1 | .vand => 2 | .vor => 3 | .vxor => 4 | .vadds => 5 | .vsubs => 6
  | .vmin => 7 | .vmax => 8 | .vceq => 9 | .vclt => 10 | .vcltu => 11

def laneOfFunc : Nat → Option LaneOp
  | 0 => some .vadd | 1 => some .vsub | 2 => some .vand | 3 => some .vor | 4 => some .vxor
  | 5 => some .vadds | 6 => some .vsubs | 7 => some .vmin | 8 => some .vmax | 9 => some .vceq
  | 10 => some .vclt | 11 => some .vcltu | _ => none

def vmulFunc : VMulOp → Nat
  | .vmul => 0 | .vmulh => 1

def macFunc : MacOp → Nat
  | .vmac => 0 | .vmsu => 1

def amovFunc : AmovOp → Nat
  | .amov => 0 | .amovr => 1

def ahalfFunc : AhalfOp → Nat
  | .amovl => 2 | .amovh => 3

def brOpcode : BrOp → Nat
  | .beq => 0x28 | .bne => 0x29 | .blt => 0x2A | .bge => 0x2B | .bltu => 0x2C | .bgeu => 0x2D

def asyncSub : AsyncOp → Nat
  | .fgrant => 0 | .fstk => 1 | .floop => 2 | .fpput => 3 | .fpget => 4

def asyncOfSub : Nat → Option AsyncOp
  | 0 => some .fgrant | 1 => some .fstk | 2 => some .floop | 3 => some .fpput | 4 => some .fpget
  | _ => none

def stopCode : StopArg → Nat
  | .zone => 1 | .robot => 2

/-! ## Formats (Table 4-1) -/

def fmtR (op d a b func : Nat) : Nat := op * 2 ^ 26 + d * 2 ^ 21 + a * 2 ^ 16 + b * 2 ^ 11 + func

def fmtI (op d a imm : Nat) : Nat := op * 2 ^ 26 + d * 2 ^ 21 + a * 2 ^ 16 + imm

def fmtM (op t a m off : Nat) : Nat := op * 2 ^ 26 + t * 2 ^ 21 + a * 2 ^ 16 + m * 2 ^ 15 + off

def fmtV (op vd va vb vc func : Nat) : Nat :=
  op * 2 ^ 26 + vd * 2 ^ 22 + va * 2 ^ 18 + vb * 2 ^ 14 + vc * 2 ^ 10 + func

def fmtVL (v g lane kind : Nat) : Nat :=
  0x24 * 2 ^ 26 + v * 2 ^ 22 + g * 2 ^ 17 + lane * 2 ^ 14 + kind * 2 ^ 12

def fmtVM (acc va vb func : Nat) : Nat :=
  0x22 * 2 ^ 26 + acc * 2 ^ 24 + va * 2 ^ 18 + vb * 2 ^ 14 + func

def fmtVA (v acc sh func : Nat) : Nat :=
  0x23 * 2 ^ 26 + v * 2 ^ 22 + acc * 2 ^ 20 + sh * 2 ^ 14 + func

def fmtB (op a b off : Nat) : Nat := op * 2 ^ 26 + a * 2 ^ 21 + b * 2 ^ 16 + off

def fmtJ (op off : Nat) : Nat := op * 2 ^ 26 + off

def fmtX (d func : Nat) : Nat := 0x30 * 2 ^ 26 + d * 2 ^ 21 + func

def fmtFS (sub d s t imm : Nat) : Nat :=
  0x38 * 2 ^ 26 + sub * 2 ^ 22 + d * 2 ^ 17 + s * 2 ^ 12 + t * 2 ^ 7 + imm

def fmtFA (sub s task slot : Nat) : Nat :=
  0x39 * 2 ^ 26 + sub * 2 ^ 22 + s * 2 ^ 17 + task * 2 ^ 6 + slot * 2 ^ 4

/-- The words of an instruction: the second is the LOOP extension word, 0 where the instruction
has one word. -/
def encodeEasel : EInstr → Nat × Nat
  | .alu op d a b => (fmtR 0x00 d a b (aluFunc op), 0)
  | .clz d a => (fmtR 0x00 d a 0 0x00E, 0)
  | .alui op d a imm => (fmtI (immOpcode op) d a imm.toNat, 0)
  | .li d imm => (fmtI 0x07 d 0 imm.toNat, 0)
  | .lui d imm => (fmtI 0x08 d 0 imm.toNat, 0)
  | .shi op d a n => (fmtI 0x09 d a (shCode op * 2 ^ 14 + n), 0)
  | .field op d a pos len1 => (fmtI 0x0A d a (fieldCode op * 2 ^ 14 + pos * 2 ^ 5 + len1), 0)
  | .mul op d a b => (fmtR 0x0B d a b (mulFunc op), 0)
  | .div op d a b => (fmtR 0x0C d a b (divFunc op), 0)
  | .ld t a m off => (fmtM 0x10 t a (bit m) off.toNat, 0)
  | .st t a m off => (fmtM 0x11 t a (bit m) off.toNat, 0)
  | .vld v a m off => (fmtM 0x12 v a (bit m) off.toNat, 0)
  | .vst v a m off => (fmtM 0x13 v a (bit m) off.toNat, 0)
  | .lda t a m off => (fmtM 0x14 t a (bit m) off.toNat, 0)
  | .sta t a m off => (fmtM 0x15 t a (bit m) off.toNat, 0)
  | .vlda v a m off => (fmtM 0x16 v a (bit m) off.toNat, 0)
  | .vsta v a m off => (fmtM 0x17 v a (bit m) off.toNat, 0)
  | .lane op vd va vb => (fmtV 0x20 vd va vb 0 (laneFunc op), 0)
  | .vsel vd va vb vc => (fmtV 0x20 vd va vb vc 0x00C, 0)
  | .vabs vd va => (fmtV 0x20 vd va 0 0 0x00D, 0)
  | .vshi op vd va n => (fmtV 0x20 vd va 0 0 (0x040 + shCode op * 0x20 + n), 0)
  | .vbcast v g => (fmtVL v g 0 0, 0)
  | .vext g v lane => (fmtVL v g lane 1, 0)
  | .vins v g lane => (fmtVL v g lane 2, 0)
  | .vmul op vd va vb => (fmtV 0x21 vd va vb 0 (vmulFunc op), 0)
  | .vmac op acc va vb => (fmtVM acc va vb (macFunc op), 0)
  | .amov op v acc sh => (fmtVA v acc sh (amovFunc op), 0)
  | .ahalf op v acc => (fmtVA v acc 0 (ahalfFunc op), 0)
  | .aclr acc => (fmtVA 0 acc 0 4, 0)
  | .ald acc v sh => (fmtVA v acc sh 5, 0)
  | .br op a b off => (fmtB (brOpcode op) a b off.toNat, 0)
  | .jmp off => (fmtJ 0x2E off.toNat, 0)
  | .call target => (fmtJ 0x2F target.toNat, 0)
  | .endTask => (fmtX 0 1, 0)
  | .ret => (fmtX 0 2, 0)
  | .brk => (fmtX 0 3, 0)
  | .lidx d => (fmtX d 4, 0)
  | .loop c bound last =>
    (0x31 * 2 ^ 26 + c * 2 ^ 21 + last.toNat, 0x3E * 2 ^ 26 + bound.toNat)
  | .fcprb d s => (fmtFS 0x0 d s 0 0, 0)
  | .fcprbv v s => (fmtFS 0x1 v s 0 0, 0)
  | .flock d n => (fmtFS 0x2 d 0 0 n, 0)
  | .funlock d n => (fmtFS 0x3 d 0 0 n, 0)
  | .fmbs d s ch => (fmtFS 0x4 d s 0 ch, 0)
  | .fmbr d t ch => (fmtFS 0x5 d 0 t ch, 0)
  | .femit d s sev n => (fmtFS 0x6 d s sev n, 0)
  | .ftime d t => (fmtFS 0x7 d 0 t 0, 0)
  | .fstamp d => (fmtFS 0x8 d 0 0 0, 0)
  | .fstop d s kind => (fmtFS 0x9 d s 0 (stopCode kind), 0)
  | .fsrel d s => (fmtFS 0xA d s 0 0, 0)
  | .fpcnt d q => (fmtFS 0xB d 0 0 q, 0)
  | .async op s task slot => (fmtFA (asyncSub op) s task.toNat slot, 0)

/-! ## Decoding -/

/-- A field of an instruction word as a register or small number. -/
def fin5 (w lsb : Nat) : Fin 32 := Fin.ofNat 32 (bitsOf w lsb 5)
def fin4 (w lsb : Nat) : Fin 16 := Fin.ofNat 16 (bitsOf w lsb 4)
def fin3 (w lsb : Nat) : Fin 8 := Fin.ofNat 8 (bitsOf w lsb 3)
def fin2 (w lsb : Nat) : Fin 4 := Fin.ofNat 4 (bitsOf w lsb 2)
def fin6 (w lsb : Nat) : Fin 64 := Fin.ofNat 64 (bitsOf w lsb 6)

/-- The instruction, where the field restrictions hold; ILLEGAL otherwise (R99). -/
def onlyIf (ok : Bool) (i : EInstr) : Option EInstr := if ok then some i else none

def decodeAlu (w : Nat) : Option EInstr :=
  match aluOfFunc (bitsOf w 0 11) with
  | some op => some (.alu op (fin5 w 21) (fin5 w 16) (fin5 w 11))
  | none => onlyIf (bitsOf w 0 11 == 0x00E && bitsOf w 11 5 == 0) (.clz (fin5 w 21) (fin5 w 16))

def decodeShift (w : Nat) : Option EInstr :=
  match shOfCode (bitsOf w 14 2) with
  | some op => onlyIf (bitsOf w 5 9 == 0) (.shi op (fin5 w 21) (fin5 w 16) (fin5 w 0))
  | none => none

def decodeField (w : Nat) : Option EInstr :=
  match fieldOfCode (bitsOf w 14 2) with
  | some op =>
    onlyIf (bitsOf w 10 4 == 0 && decide (bitsOf w 5 5 + (bitsOf w 0 5 + 1) ≤ 32))
      (.field op (fin5 w 21) (fin5 w 16) (fin5 w 5) (fin5 w 0))
  | none => none

def decodeMul (w : Nat) : Option EInstr :=
  match mulOfFunc (bitsOf w 0 11) with
  | some op => some (.mul op (fin5 w 21) (fin5 w 16) (fin5 w 11))
  | none => none

def decodeDiv (w : Nat) : Option EInstr :=
  match divOfFunc (bitsOf w 0 11) with
  | some op => some (.div op (fin5 w 21) (fin5 w 16) (fin5 w 11))
  | none => none

/-- m and off of format M. -/
def postOf (w : Nat) : Bool := bitsOf w 15 1 == 1
def offOf (w : Nat) : BitVec 15 := BitVec.ofNat 15 (bitsOf w 0 15)

/-- A post-increment load into its own base is ILLEGAL (R110). -/
def loadOk (w : Nat) : Bool := !(bitsOf w 15 1 == 1 && bitsOf w 21 5 == bitsOf w 16 5)

/-- For vector accesses t[25] is 0. -/
def vecOk (w : Nat) : Bool := bitsOf w 25 1 == 0

def decodeLane (w : Nat) : Option EInstr :=
  match laneOfFunc (bitsOf w 0 10) with
  | some op => onlyIf (bitsOf w 10 4 == 0) (.lane op (fin4 w 22) (fin4 w 18) (fin4 w 14))
  | none =>
    if bitsOf w 0 10 = 0x00C then
      some (.vsel (fin4 w 22) (fin4 w 18) (fin4 w 14) (fin4 w 10))
    else if bitsOf w 0 10 = 0x00D then
      onlyIf (bitsOf w 10 8 == 0) (.vabs (fin4 w 22) (fin4 w 18))
    else if bitsOf w 5 5 = 2 then
      onlyIf (bitsOf w 10 8 == 0) (.vshi .sll (fin4 w 22) (fin4 w 18) (fin5 w 0))
    else if bitsOf w 5 5 = 3 then
      onlyIf (bitsOf w 10 8 == 0) (.vshi .srl (fin4 w 22) (fin4 w 18) (fin5 w 0))
    else if bitsOf w 5 5 = 4 then
      onlyIf (bitsOf w 10 8 == 0) (.vshi .sra (fin4 w 22) (fin4 w 18) (fin5 w 0))
    else none

def decodeVMul (w : Nat) : Option EInstr :=
  if bitsOf w 0 10 = 0 then
    onlyIf (bitsOf w 10 4 == 0) (.vmul .vmul (fin4 w 22) (fin4 w 18) (fin4 w 14))
  else if bitsOf w 0 10 = 1 then
    onlyIf (bitsOf w 10 4 == 0) (.vmul .vmulh (fin4 w 22) (fin4 w 18) (fin4 w 14))
  else none

def decodeMac (w : Nat) : Option EInstr :=
  if bitsOf w 0 14 = 0 then
    onlyIf (bitsOf w 22 2 == 0) (.vmac .vmac (fin2 w 24) (fin4 w 18) (fin4 w 14))
  else if bitsOf w 0 14 = 1 then
    onlyIf (bitsOf w 22 2 == 0) (.vmac .vmsu (fin2 w 24) (fin4 w 18) (fin4 w 14))
  else none

def decodeAmov (w : Nat) : Option EInstr :=
  match bitsOf w 0 14 with
  | 0 => some (.amov .amov (fin4 w 22) (fin2 w 20) (fin6 w 14))
  | 1 => some (.amov .amovr (fin4 w 22) (fin2 w 20) (fin6 w 14))
  | 2 => onlyIf (bitsOf w 14 6 == 0) (.ahalf .amovl (fin4 w 22) (fin2 w 20))
  | 3 => onlyIf (bitsOf w 14 6 == 0) (.ahalf .amovh (fin4 w 22) (fin2 w 20))
  | 4 => onlyIf (bitsOf w 14 6 == 0 && bitsOf w 22 4 == 0) (.aclr (fin2 w 20))
  | 5 => onlyIf (bitsOf w 19 1 == 0) (.ald (fin2 w 20) (fin4 w 22) (fin5 w 14))
  | _ => none

def decodeVL (w : Nat) : Option EInstr :=
  if bitsOf w 0 12 = 0 then
    match bitsOf w 12 2 with
    | 0 => onlyIf (bitsOf w 14 3 == 0) (.vbcast (fin4 w 22) (fin5 w 17))
    | 1 => some (.vext (fin5 w 17) (fin4 w 22) (fin3 w 14))
    | 2 => some (.vins (fin4 w 22) (fin5 w 17) (fin3 w 14))
    | _ => none
  else none

def decodeBr (op : BrOp) (w : Nat) : Option EInstr :=
  onlyIf (bitsOf w 14 2 == 0 && bitsOf w 0 14 != 0)
    (.br op (fin5 w 21) (fin5 w 16) (BitVec.ofNat 14 (bitsOf w 0 14)))

def decodeX (w : Nat) : Option EInstr :=
  if bitsOf w 6 15 = 0 then
    match bitsOf w 0 6 with
    | 1 => onlyIf (bitsOf w 21 5 == 0) .endTask
    | 2 => onlyIf (bitsOf w 21 5 == 0) .ret
    | 3 => onlyIf (bitsOf w 21 5 == 0) .brk
    | 4 => some (.lidx (fin5 w 21))
    | _ => none
  else none

/-- LOOP: bound 0 and a second word that is no extension word are ILLEGAL (R98, R113). -/
def decodeLoop (w w1 : Nat) : Option EInstr :=
  onlyIf (bitsOf w 14 7 == 0 && bitsOf w1 26 6 == 0x3E && bitsOf w1 16 10 == 0
      && bitsOf w1 0 16 != 0)
    (.loop (fin5 w 21) (BitVec.ofNat 16 (bitsOf w1 0 16)) (BitVec.ofNat 14 (bitsOf w 0 14)))

def decodeFS (w : Nat) : Option EInstr :=
  let d := fin5 w 17
  let s := fin5 w 12
  let t := fin5 w 7
  match bitsOf w 22 4 with
  | 0x0 => onlyIf (bitsOf w 0 12 == 0) (.fcprb d s)
  | 0x1 => onlyIf (bitsOf w 0 12 == 0 && bitsOf w 21 1 == 0) (.fcprbv (fin4 w 17) s)
  | 0x2 => onlyIf (bitsOf w 5 12 == 0) (.flock d (fin5 w 0))
  | 0x3 => onlyIf (bitsOf w 5 12 == 0) (.funlock d (fin5 w 0))
  | 0x4 => onlyIf (bitsOf w 4 8 == 0) (.fmbs d s (fin4 w 0))
  | 0x5 => onlyIf (bitsOf w 4 3 == 0 && bitsOf w 12 5 == 0) (.fmbr d t (fin4 w 0))
  | 0x6 => onlyIf (decide (bitsOf w 12 5 ≤ 28) && decide (bitsOf w 7 5 ≤ 3) && bitsOf w 6 1 == 0)
      (.femit d s (fin2 w 7) (fin6 w 0))
  | 0x7 => onlyIf (bitsOf w 0 7 == 0 && bitsOf w 12 5 == 0) (.ftime d t)
  | 0x8 => onlyIf (bitsOf w 0 17 == 0) (.fstamp d)
  | 0x9 =>
    if bitsOf w 0 12 = 1 then some (.fstop d s .zone)
    else if bitsOf w 0 12 = 2 then some (.fstop d s .robot) else none
  | 0xA => onlyIf (bitsOf w 0 12 == 0) (.fsrel d s)
  | 0xB => onlyIf (bitsOf w 6 11 == 0) (.fpcnt d (fin6 w 0))
  | _ => none

def decodeFA (w : Nat) : Option EInstr :=
  match asyncOfSub (bitsOf w 22 4) with
  | some op => onlyIf (bitsOf w 0 4 == 0)
      (.async op (fin5 w 17) (BitVec.ofNat 11 (bitsOf w 6 11)) (fin2 w 4))
  | none => none

/-- The instruction at an index, from its word and the word after it; none where it faults
ILLEGAL whatever the state (R99). -/
def decodeEasel (w w1 : Nat) : Option EInstr :=
  let d := fin5 w 21
  let a := fin5 w 16
  let imm := BitVec.ofNat 16 (bitsOf w 0 16)
  match bitsOf w 26 6 with
  | 0x00 => decodeAlu w
  | 0x01 => some (.alui .addi d a imm)
  | 0x02 => some (.alui .andi d a imm)
  | 0x03 => some (.alui .ori d a imm)
  | 0x04 => some (.alui .xori d a imm)
  | 0x05 => some (.alui .slti d a imm)
  | 0x06 => some (.alui .sltiu d a imm)
  | 0x07 => onlyIf (bitsOf w 16 5 == 0) (.li d imm)
  | 0x08 => onlyIf (bitsOf w 16 5 == 0) (.lui d imm)
  | 0x09 => decodeShift w
  | 0x0A => decodeField w
  | 0x0B => decodeMul w
  | 0x0C => decodeDiv w
  | 0x10 => onlyIf (loadOk w) (.ld d a (postOf w) (offOf w))
  | 0x11 => some (.st d a (postOf w) (offOf w))
  | 0x12 => onlyIf (vecOk w) (.vld (fin4 w 21) a (postOf w) (offOf w))
  | 0x13 => onlyIf (vecOk w) (.vst (fin4 w 21) a (postOf w) (offOf w))
  | 0x14 => onlyIf (loadOk w) (.lda d a (postOf w) (offOf w))
  | 0x15 => some (.sta d a (postOf w) (offOf w))
  | 0x16 => onlyIf (vecOk w) (.vlda (fin4 w 21) a (postOf w) (offOf w))
  | 0x17 => onlyIf (vecOk w) (.vsta (fin4 w 21) a (postOf w) (offOf w))
  | 0x20 => decodeLane w
  | 0x21 => decodeVMul w
  | 0x22 => decodeMac w
  | 0x23 => decodeAmov w
  | 0x24 => decodeVL w
  | 0x28 => decodeBr .beq w
  | 0x29 => decodeBr .bne w
  | 0x2A => decodeBr .blt w
  | 0x2B => decodeBr .bge w
  | 0x2C => decodeBr .bltu w
  | 0x2D => decodeBr .bgeu w
  | 0x2E => onlyIf (bitsOf w 14 12 == 0 && bitsOf w 0 14 != 0)
      (.jmp (BitVec.ofNat 14 (bitsOf w 0 14)))
  | 0x2F => onlyIf (bitsOf w 14 12 == 0) (.call (BitVec.ofNat 14 (bitsOf w 0 14)))
  | 0x30 => decodeX w
  | 0x31 => decodeLoop w w1
  | 0x38 => decodeFS w
  | 0x39 => decodeFA w
  | _ => none

end Sys2Proof
end

