-- ==== Sys2Proof/Config.lean ====
section
/-! DEFINITION. What a unit is made with and the values the spec leaves open. None has a body
unless the spec fixes it, so nothing proved of the model rests on a value of it. -/

namespace Sys2Proof.Config

/-- A value the spec leaves open, drawn fresh: the counter `State.draws` is its argument. -/
opaque freeNat : Nat → Nat

/-- Sequence number of a broadcast, by incarnation, chain, superframe and radio slot; the spec gives it no
rule but that both units of a pair use the same (R285). -/
opaque broadcastSeq (incarnation chain superframe slot : Nat) : Nat

/-- Bytes of a loopback frame after its PAN ID (Table 13-9). -/
opaque loopbackByte : Nat → BitVec 8

/-- The PCIe Device Serial Number (R469). -/
opaque serial : Nat

/-- Ordering variant, 0 PD9640-EU-I and 1 PD9640-NA-I, and the stepping (Table 18-10). -/
opaque variant : Nat
opaque stepping : Nat

/-- The PCIe vendor ID (Table 12-16). -/
opaque vendorId : Nat

/-- MAC address of each Ethernet port as held in one-time-programmable memory (Table 11-9). -/
opaque ethMac : Nat → Nat

/-- Load angle of R455, in degrees, where a vector it is measured between is zero. -/
opaque zeroVectorAngle : Int

/-- The coordinator extended address as held in one-time-programmable memory (Table 8-19). -/
opaque coordExt : Nat

/-- Bits of RTCM 1005, 1006 and 1033, of IPv4 and UDP headers and of PTP headers that the spec leaves open,
and the split of the antenna text between descriptor and serial number. -/
opaque rtcmOpen : Nat
opaque ipOpen : Nat
opaque antSplit : Nat

/-- The firmware version of a set and the unit's serial number as text (Table 10-6). -/
opaque firmwareText : Nat → List Byte
opaque serialText : List Byte

/-- The device-class key of Portfolios, 32 bytes of one-time-programmable memory (R487). -/
opaque classKey : List Byte

/-- Baseline step rate of a region at a rail and temperature of the factory's grid, in 0.1 M steps/s
(R54): rail index 0 to 6 for 0.60 to 0.90 V, temperature index 0 to 4 for -40, 0, 40, 85, 115 °C. -/
opaque baseline (region rail temp : Nat) : Nat

end Sys2Proof.Config
end

