-- ==== Sys2Proof/Machine/Events.lean ====
section
/-! DEFINITION. The event codes of the device with their severity and plane, from the event
tables of chapters 1 to 17 (R10, R35, R68, R97, R127, R164, R211, R245, R294, R311, R348, R372,
R412, R441, R464, R485, R501, R522). -/

namespace Sys2Proof.Machine

/-- An event of the event tables: code, severity, and whether it carries the link-plane flag. -/
structure EvDef where
  code : Nat
  severity : Nat
  linkPlane : Bool
deriving DecidableEq, Repr

/-- STOP_RAISED. -/
def evStopRaised : EvDef := ⟨0x0001, 4, false⟩
/-- STOP_RELEASED. -/
def evStopReleased : EvDef := ⟨0x0002, 1, false⟩
/-- STOP_RELEASE_REFUSED. -/
def evStopReleaseRefused : EvDef := ⟨0x0003, 2, true⟩
/-- STOP_INPUT_DISCREPANCY. -/
def evStopInputDiscrepancy : EvDef := ⟨0x0004, 3, true⟩
/-- INCARNATION_NEW. -/
def evIncarnationNew : EvDef := ⟨0x0010, 1, false⟩
/-- RESTART_END. -/
def evRestartEnd : EvDef := ⟨0x0011, 0, false⟩
/-- ROBOT_REJOINED. -/
def evRobotRejoined : EvDef := ⟨0x0012, 0, false⟩
/-- FLEET_REBUILT. -/
def evFleetRebuilt : EvDef := ⟨0x0013, 1, false⟩
/-- INCARNATION_STORE_FAIL. -/
def evIncarnationStoreFail : EvDef := ⟨0x0014, 3, true⟩
/-- EPOCH_LATE. -/
def evEpochLate : EvDef := ⟨0x1001, 2, true⟩
/-- ADMISSION_CLOSED. -/
def evAdmissionClosed : EvDef := ⟨0x1002, 2, true⟩
/-- ADMISSION_REOPENED. -/
def evAdmissionReopened : EvDef := ⟨0x1003, 1, true⟩
/-- LATE_OUTPUT. -/
def evLateOutput : EvDef := ⟨0x1004, 2, true⟩
/-- CONTRACT_AT_RISK. -/
def evContractAtRisk : EvDef := ⟨0x1010, 2, true⟩
/-- CONTRACT_BREACH. -/
def evContractBreach : EvDef := ⟨0x1011, 3, true⟩
/-- CONTRACT_RESTORED. -/
def evContractRestored : EvDef := ⟨0x1012, 1, true⟩
/-- MARGIN_PLAN. -/
def evMarginPlan : EvDef := ⟨0x1020, 0, true⟩
/-- PLAN_WARN. -/
def evPlanWarn : EvDef := ⟨0x1021, 2, true⟩
/-- REGION_SKEW. -/
def evRegionSkew : EvDef := ⟨0x1030, 3, true⟩
/-- AVS_FAULT. -/
def evAvsFault : EvDef := ⟨0x1031, 3, true⟩
/-- MONITOR_SENSOR_FAULT. -/
def evMonitorSensorFault : EvDef := ⟨0x1032, 2, true⟩
/-- EASEL_FAULT. -/
def evEaselFault : EvDef := ⟨0x2001, 3, true⟩
/-- FLOW_QUARANTINED. -/
def evFlowQuarantined : EvDef := ⟨0x2002, 3, true⟩
/-- FLOW_RELEASED. -/
def evFlowReleased : EvDef := ⟨0x2003, 1, false⟩
/-- CONTINUATION_DISCARDED. -/
def evContinuationDiscarded : EvDef := ⟨0x2004, 1, false⟩
/-- ECC_CORRECTED. -/
def evEccCorrected : EvDef := ⟨0x2010, 0, true⟩
/-- ECC_POISONED. -/
def evEccPoisoned : EvDef := ⟨0x2011, 3, true⟩
/-- EASEL_HALTED. -/
def evEaselHalted : EvDef := ⟨0x2020, 0, true⟩
/-- EASEL_STOP_REFUSED. -/
def evEaselStopRefused : EvDef := ⟨0x2080, 2, false⟩
/-- PALETTE_REQUEST_REFUSED. -/
def evPaletteRequestRefused : EvDef := ⟨0x2081, 2, false⟩
/-- CARTOON_LOADED. -/
def evCartoonLoaded : EvDef := ⟨0x3001, 1, true⟩
/-- CARTOON_REFUSED. -/
def evCartoonRefused : EvDef := ⟨0x3002, 2, true⟩
/-- CARTOON_STARTED. -/
def evCartoonStarted : EvDef := ⟨0x3003, 1, false⟩
/-- CARTOON_STOPPED. -/
def evCartoonStopped : EvDef := ⟨0x3004, 1, false⟩
/-- CARTOON_SWAPPED. -/
def evCartoonSwapped : EvDef := ⟨0x3005, 1, false⟩
/-- CARTOON_SWAP_DEFERRED. -/
def evCartoonSwapDeferred : EvDef := ⟨0x3006, 2, false⟩
/-- CARTOON_SWAP_ABANDONED. -/
def evCartoonSwapAbandoned : EvDef := ⟨0x3007, 3, false⟩
/-- CARTOON_STORED. -/
def evCartoonStored : EvDef := ⟨0x3008, 1, true⟩
/-- AUTOLOAD_FAILED. -/
def evAutoloadFailed : EvDef := ⟨0x3009, 3, true⟩
/-- STARTUP_END. -/
def evStartupEnd : EvDef := ⟨0x300A, 0, false⟩
/-- OPERAND_COLLISION. -/
def evOperandCollision : EvDef := ⟨0x3010, 3, false⟩
/-- MATCH_STORE_EXHAUSTED. -/
def evMatchStoreExhausted : EvDef := ⟨0x3011, 3, false⟩
/-- TICK_OVERRUN. -/
def evTickOverrun : EvDef := ⟨0x3012, 2, false⟩
/-- INTAKE_HELD. -/
def evIntakeHeld : EvDef := ⟨0x3013, 2, true⟩
/-- CARTOON_KEY_REFUSED. -/
def evCartoonKeyRefused : EvDef := ⟨0x3014, 2, true⟩
/-- GRANT_DELIVERED. -/
def evGrantDelivered : EvDef := ⟨0x4001, 0, false⟩
/-- GRANT_UNDELIVERED. -/
def evGrantUndelivered : EvDef := ⟨0x4002, 2, false⟩
/-- GRANT_REFUSED. -/
def evGrantRefused : EvDef := ⟨0x4003, 1, false⟩
/-- GRANT_VOIDED. -/
def evGrantVoided : EvDef := ⟨0x4004, 1, false⟩
/-- CELLS_RELEASED. -/
def evCellsReleased : EvDef := ⟨0x4010, 0, false⟩
/-- ROBOT_LOST. -/
def evRobotLost : EvDef := ⟨0x4020, 3, false⟩
/-- ROBOT_FOUND. -/
def evRobotFound : EvDef := ⟨0x4021, 1, false⟩
/-- CANVAS_ECC_UNCORRECTABLE. -/
def evCanvasEccUncorrectable : EvDef := ⟨0x4030, 3, true⟩
/-- SWEEP_LATE. -/
def evSweepLate : EvDef := ⟨0x4031, 3, true⟩
/-- CANVAS_PERSIST_FULL. -/
def evCanvasPersistFull : EvDef := ⟨0x4032, 3, false⟩
/-- BLOCK_CHANGED. -/
def evBlockChanged : EvDef := ⟨0x4040, 1, false⟩
/-- STROKE_REFUSED. -/
def evStrokeRefused : EvDef := ⟨0x5001, 1, false⟩
/-- TARGET_BEHIND. -/
def evTargetBehind : EvDef := ⟨0x5002, 1, false⟩
/-- STROKE_STOPPED. -/
def evStrokeStopped : EvDef := ⟨0x5003, 0, false⟩
/-- FOLLOWING_ERROR_TRIP. -/
def evFollowingErrorTrip : EvDef := ⟨0x5010, 4, false⟩
/-- REPORT_OFF_ROUTE. -/
def evReportOffRoute : EvDef := ⟨0x5020, 2, false⟩
/-- GLAZE_SATURATED. -/
def evGlazeSaturated : EvDef := ⟨0x5030, 2, true⟩
/-- STATION_LEARNED. -/
def evStationLearned : EvDef := ⟨0x6001, 0, true⟩
/-- STATION_AGED. -/
def evStationAged : EvDef := ⟨0x6002, 0, true⟩
/-- LEARN_FULL. -/
def evLearnFull : EvDef := ⟨0x6003, 2, true⟩
/-- SECURITY_FAIL. -/
def evSecurityFail : EvDef := ⟨0x6004, 2, true⟩
/-- STATION_ECC. -/
def evStationEcc : EvDef := ⟨0x6005, 3, true⟩
/-- STOP_BURST. -/
def evStopBurst : EvDef := ⟨0x6010, 1, false⟩
/-- PLAN_CHANGED. -/
def evPlanChanged : EvDef := ⟨0x6020, 1, false⟩
/-- ROBOT_SELF_STOPPED. -/
def evRobotSelfStopped : EvDef := ⟨0x6021, 3, false⟩
/-- TWIN_ECHO. -/
def evTwinEcho : EvDef := ⟨0x6030, 1, true⟩
/-- LEDGER_HOLD. -/
def evLedgerHold : EvDef := ⟨0x7001, 2, true⟩
/-- LEDGER_RELEASED. -/
def evLedgerReleased : EvDef := ⟨0x7002, 1, true⟩
/-- LEDGER_OVERDRAW. -/
def evLedgerOverdraw : EvDef := ⟨0x7003, 3, true⟩
/-- LEDGER_RESTORED. -/
def evLedgerRestored : EvDef := ⟨0x7004, 1, true⟩
/-- LEDGER_SNAPSHOT_FAIL. -/
def evLedgerSnapshotFail : EvDef := ⟨0x7005, 2, true⟩
/-- EIRP_BLOCK. -/
def evEirpBlock : EvDef := ⟨0x7010, 3, true⟩
/-- ANTENNA_FAULT. -/
def evAntennaFault : EvDef := ⟨0x8001, 3, true⟩
/-- JAMMING. -/
def evJamming : EvDef := ⟨0x8002, 2, true⟩
/-- NOTCH_CHANGED. -/
def evNotchChanged : EvDef := ⟨0x8003, 1, true⟩
/-- SURVEY_STARTED. -/
def evSurveyStarted : EvDef := ⟨0x8010, 1, true⟩
/-- SURVEY_DONE. -/
def evSurveyDone : EvDef := ⟨0x8011, 1, true⟩
/-- SURVEY_SLOW. -/
def evSurveySlow : EvDef := ⟨0x8012, 2, true⟩
/-- COORD_MISMATCH. -/
def evCoordMismatch : EvDef := ⟨0x8013, 3, true⟩
/-- SV_EXCLUDED. -/
def evSvExcluded : EvDef := ⟨0x8014, 1, true⟩
/-- CORRECTIONS_WITHHELD. -/
def evCorrectionsWithheld : EvDef := ⟨0x8020, 2, true⟩
/-- CORRECTIONS_RESUMED. -/
def evCorrectionsResumed : EvDef := ⟨0x8021, 1, true⟩
/-- TIME_STATE. -/
def evTimeState : EvDef := ⟨0x8030, 2, true⟩
/-- TIME_STEP. -/
def evTimeStep : EvDef := ⟨0x8031, 2, true⟩
/-- TIME_STEP_PENDING. -/
def evTimeStepPending : EvDef := ⟨0x8032, 2, true⟩
/-- TIME_JUMP. -/
def evTimeJump : EvDef := ⟨0x8033, 3, true⟩
/-- LEAP_PENDING. -/
def evLeapPending : EvDef := ⟨0x8034, 1, true⟩
/-- STAMP_OVERRUN. -/
def evStampOverrun : EvDef := ⟨0x9001, 2, true⟩
/-- TIME_SOURCE. -/
def evTimeSource : EvDef := ⟨0x9002, 1, true⟩
/-- TIME_SET. -/
def evTimeSet : EvDef := ⟨0x9003, 2, true⟩
/-- ETH_LINK. -/
def evEthLink : EvDef := ⟨0x9010, 1, true⟩
/-- PTP_MASTER. -/
def evPtpMaster : EvDef := ⟨0x9011, 1, true⟩
/-- TWIN_TIME_AGREE. -/
def evTwinTimeAgree : EvDef := ⟨0x9020, 2, true⟩
/-- TWIN_TIME_JOIN. -/
def evTwinTimeJoin : EvDef := ⟨0x9021, 1, true⟩
/-- TWIN_TIME_AHEAD. -/
def evTwinTimeAhead : EvDef := ⟨0x9022, 3, true⟩
/-- PALETTE_CRC_DROP. -/
def evPaletteCrcDrop : EvDef := ⟨0xA001, 2, true⟩
/-- PALETTE_FLUSHED. -/
def evPaletteFlushed : EvDef := ⟨0xA002, 1, true⟩
/-- PALETTE_LINK_FAULT. -/
def evPaletteLinkFault : EvDef := ⟨0xA003, 3, true⟩
/-- EVQ_RECORDS_LOST. -/
def evEvqRecordsLost : EvDef := ⟨0xA010, 2, true⟩
/-- MAILBOX_TIMEOUT. -/
def evMailboxTimeout : EvDef := ⟨0xA020, 2, true⟩
/-- MAILBOX_DEAD_END. -/
def evMailboxDeadEnd : EvDef := ⟨0xA021, 1, true⟩
/-- LOCK_FORCED. -/
def evLockForced : EvDef := ⟨0xA030, 2, true⟩
/-- PCIE_LINK. -/
def evPcieLink : EvDef := ⟨0xA040, 1, true⟩
/-- DP_WRITE_REFUSED. -/
def evDpWriteRefused : EvDef := ⟨0xA041, 1, true⟩
/-- TWIN_STATE. -/
def evTwinState : EvDef := ⟨0xB001, 1, true⟩
/-- DIGEST_MISMATCH. -/
def evDigestMismatch : EvDef := ⟨0xB002, 2, true⟩
/-- TWIN_SYNC_STARTED. -/
def evTwinSyncStarted : EvDef := ⟨0xB003, 1, true⟩
/-- TWIN_INSTEP. -/
def evTwinInstep : EvDef := ⟨0xB004, 1, true⟩
/-- TWIN_SYNC_FAILED. -/
def evTwinSyncFailed : EvDef := ⟨0xB005, 2, true⟩
/-- TWIN_LINK. -/
def evTwinLink : EvDef := ⟨0xB010, 1, true⟩
/-- HEARTBEAT. -/
def evHeartbeat : EvDef := ⟨0xB011, 2, true⟩
/-- TWIN_TAKEOVER. -/
def evTwinTakeover : EvDef := ⟨0xB012, 3, true⟩
/-- TWIN_SPLIT. -/
def evTwinSplit : EvDef := ⟨0xB013, 3, true⟩
/-- LOG_LATE. -/
def evLogLate : EvDef := ⟨0xB014, 2, true⟩
/-- TWIN_HEALTH. -/
def evTwinHealth : EvDef := ⟨0xB020, 1, true⟩
/-- DRIVE_HOMED. -/
def evDriveHomed : EvDef := ⟨0xC001, 1, true⟩
/-- DRIVE_FAULT. -/
def evDriveFault : EvDef := ⟨0xC002, 3, true⟩
/-- DRIVE_FAULT_CLEARED. -/
def evDriveFaultCleared : EvDef := ⟨0xC003, 1, true⟩
/-- DRIVE_LIMIT_CHATTER. -/
def evDriveLimitChatter : EvDef := ⟨0xC004, 2, true⟩
/-- HOMING_FAILED. -/
def evHomingFailed : EvDef := ⟨0xC005, 2, true⟩
/-- DRIVE_COMMAND_REFUSED. -/
def evDriveCommandRefused : EvDef := ⟨0xC006, 1, true⟩
/-- GATE_NOT_OPEN. -/
def evGateNotOpen : EvDef := ⟨0xC010, 3, true⟩
/-- SESSION_OPENED. -/
def evSessionOpened : EvDef := ⟨0xD001, 1, true⟩
/-- SESSION_CLOSED. -/
def evSessionClosed : EvDef := ⟨0xD002, 0, true⟩
/-- SESSION_FAILED. -/
def evSessionFailed : EvDef := ⟨0xD003, 2, true⟩
/-- KEY_SET. -/
def evKeySet : EvDef := ⟨0xD004, 2, true⟩
/-- KEY_REFUSED. -/
def evKeyRefused : EvDef := ⟨0xD005, 2, true⟩
/-- LOG_FULL. -/
def evLogFull : EvDef := ⟨0xD010, 3, true⟩
/-- CLEARED. -/
def evCleared : EvDef := ⟨0xD011, 2, true⟩
/-- EVENTS_SUPPRESSED. -/
def evEventsSuppressed : EvDef := ⟨0xD012, 1, true⟩
/-- PENTIMENTO_GAP. -/
def evPentimentoGap : EvDef := ⟨0xD013, 2, true⟩
/-- PENTIMENTO_WRITE_FAIL. -/
def evPentimentoWriteFail : EvDef := ⟨0xD014, 3, true⟩
/-- PORTFOLIO_STAGED. -/
def evPortfolioStaged : EvDef := ⟨0xE001, 1, true⟩
/-- PORTFOLIO_DISCARDED. -/
def evPortfolioDiscarded : EvDef := ⟨0xE002, 2, true⟩
/-- PORTFOLIO_REFUSED. -/
def evPortfolioRefused : EvDef := ⟨0xE003, 3, true⟩
/-- PORTFOLIO_ACTIVATED. -/
def evPortfolioActivated : EvDef := ⟨0xE004, 2, true⟩
/-- PORTFOLIO_CONFIRMED. -/
def evPortfolioConfirmed : EvDef := ⟨0xE005, 2, true⟩
/-- PORTFOLIO_REVERTED. -/
def evPortfolioReverted : EvDef := ⟨0xE006, 3, true⟩
/-- STAGING_BUSY. -/
def evStagingBusy : EvDef := ⟨0xE007, 2, true⟩
/-- RECOVERY_ENTERED. -/
def evRecoveryEntered : EvDef := ⟨0xE008, 3, true⟩
/-- PORTFOLIO_KEY_REFUSED. -/
def evPortfolioKeyRefused : EvDef := ⟨0xE009, 2, true⟩
/-- RESET_RECORD. -/
def evResetRecord : EvDef := ⟨0xF001, 2, true⟩
/-- SUPPLY_DIP. -/
def evSupplyDip : EvDef := ⟨0xF002, 2, true⟩
/-- POWER_STATE. -/
def evPowerState : EvDef := ⟨0xF003, 1, true⟩
/-- POWER_STATE_REFUSED. -/
def evPowerStateRefused : EvDef := ⟨0xF004, 2, true⟩
/-- WAKE. -/
def evWake : EvDef := ⟨0xF005, 1, true⟩
/-- TAMPER. -/
def evTamper : EvDef := ⟨0xF006, 3, true⟩
/-- RETENTION_LOST. -/
def evRetentionLost : EvDef := ⟨0xF007, 2, true⟩
/-- CONFIG_SAVED. -/
def evConfigSaved : EvDef := ⟨0xF008, 1, true⟩
/-- CONFIG_SAVE_FAIL. -/
def evConfigSaveFail : EvDef := ⟨0xF009, 3, true⟩

/-- Codes of every event that has a rate-limit bucket: all the device can emit but those of class
0xD and of severity 4 (R475). -/
def bucketCodes : List Nat :=
  ([evStopRaised, evStopReleased, evStopReleaseRefused, evStopInputDiscrepancy, evIncarnationNew, evRestartEnd, evRobotRejoined, evFleetRebuilt] ++
   [evIncarnationStoreFail, evEpochLate, evAdmissionClosed, evAdmissionReopened, evLateOutput, evContractAtRisk, evContractBreach, evContractRestored] ++
   [evMarginPlan, evPlanWarn, evRegionSkew, evAvsFault, evMonitorSensorFault, evEaselFault, evFlowQuarantined, evFlowReleased] ++
   [evContinuationDiscarded, evEccCorrected, evEccPoisoned, evEaselHalted, evEaselStopRefused, evPaletteRequestRefused, evCartoonLoaded, evCartoonRefused] ++
   [evCartoonStarted, evCartoonStopped, evCartoonSwapped, evCartoonSwapDeferred, evCartoonSwapAbandoned, evCartoonStored, evAutoloadFailed, evStartupEnd] ++
   [evOperandCollision, evMatchStoreExhausted, evTickOverrun, evIntakeHeld, evCartoonKeyRefused, evGrantDelivered, evGrantUndelivered, evGrantRefused] ++
   [evGrantVoided, evCellsReleased, evRobotLost, evRobotFound, evCanvasEccUncorrectable, evSweepLate, evCanvasPersistFull, evBlockChanged] ++
   [evStrokeRefused, evTargetBehind, evStrokeStopped, evFollowingErrorTrip, evReportOffRoute, evGlazeSaturated, evStationLearned, evStationAged] ++
   [evLearnFull, evSecurityFail, evStationEcc, evStopBurst, evPlanChanged, evRobotSelfStopped, evTwinEcho, evLedgerHold] ++
   [evLedgerReleased, evLedgerOverdraw, evLedgerRestored, evLedgerSnapshotFail, evEirpBlock, evAntennaFault, evJamming, evNotchChanged] ++
   [evSurveyStarted, evSurveyDone, evSurveySlow, evCoordMismatch, evSvExcluded, evCorrectionsWithheld, evCorrectionsResumed, evTimeState] ++
   [evTimeStep, evTimeStepPending, evTimeJump, evLeapPending, evStampOverrun, evTimeSource, evTimeSet, evEthLink] ++
   [evPtpMaster, evTwinTimeAgree, evTwinTimeJoin, evTwinTimeAhead, evPaletteCrcDrop, evPaletteFlushed, evPaletteLinkFault, evEvqRecordsLost] ++
   [evMailboxTimeout, evMailboxDeadEnd, evLockForced, evPcieLink, evDpWriteRefused, evTwinState, evDigestMismatch, evTwinSyncStarted] ++
   [evTwinInstep, evTwinSyncFailed, evTwinLink, evHeartbeat, evTwinTakeover, evTwinSplit, evLogLate, evTwinHealth] ++
   [evDriveHomed, evDriveFault, evDriveFaultCleared, evDriveLimitChatter, evHomingFailed, evDriveCommandRefused, evGateNotOpen, evSessionOpened] ++
   [evSessionClosed, evSessionFailed, evKeySet, evKeyRefused, evLogFull, evCleared, evEventsSuppressed, evPentimentoGap] ++
   [evPentimentoWriteFail, evPortfolioStaged, evPortfolioDiscarded, evPortfolioRefused, evPortfolioActivated, evPortfolioConfirmed, evPortfolioReverted, evStagingBusy] ++
   [evRecoveryEntered, evPortfolioKeyRefused, evResetRecord, evSupplyDip, evPowerState, evPowerStateRefused, evWake, evTamper] ++
   [evRetentionLost, evConfigSaved, evConfigSaveFail]).filterMap (fun e =>
    if e.code / 0x1000 = 0xD ∨ e.severity = 4 then none else some e.code)

/-- A code has a bucket: it is in the tables, or is one of the program events 0x20C0 to 0x20FF. -/
def hasBucket (code : Nat) : Bool :=
  bucketCodes.contains code || (decide (0x20C0 ≤ code) && decide (code ≤ 0x20FF))

/-- Codes numbered by the deterministic plane's counter (R473). -/
def isDetCode (code : Nat) : Bool :=
  (0x20C0 ≤ code && code ≤ 0x20FF) ||
  [0x0001, 0x0002, 0x0010, 0x0011, 0x0012, 0x0013, 0x2003, 0x2004, 0x2080, 0x2081, 0x3003, 0x3004, 0x3005, 0x3006, 0x3007, 0x300A, 0x3010, 0x3011, 0x3012, 0x4001, 0x4002, 0x4003, 0x4004, 0x4010, 0x4020, 0x4021, 0x4032, 0x4040, 0x5001, 0x5002, 0x5003, 0x5010, 0x5020, 0x6010, 0x6020, 0x6021].contains code

end Sys2Proof.Machine
end

