-- ==== Sys2Proof/Machine/StDrive.lean ====
section
/-! DEFINITION. State of the passage drives (R442 to R464). -/

namespace Sys2Proof.Machine

/-- Drive states (Table 14-3). -/
inductive DrvKind where
  | off | unhomed | homing | following | follow | fault
deriving DecidableEq, Repr

/-- A limit input: raw level as sampled, debounced state, and the episode of chatter (R453). -/
structure Limit where
  level : Bool
  active : Bool
  /-- World time of the last raw change, and those of the last 100 ms, newest first. -/
  changed : Nat
  edges : List Nat
  chatter : Bool
deriving DecidableEq, Repr

def Limit.idle : Limit := { level := false, active := false, changed := 0, edges := [], chatter := false }

/-- A homing sequence (R449): its step 1 to 5, the move in progress, where and when it began, and
the failure that follows the braking of a stop. -/
structure Homing where
  step : Nat
  move : Stroke
  startM : Int
  start : Nat
  /-- Full steps that step 1 travelled. -/
  seek : Nat
  failed : Bool
deriving DecidableEq, Repr

/-- A phase's current sample and the one before it, both as converter codes about mid-scale, and
its duty in force (Q1.15). -/
structure PhaseSt where
  i : Int
  iPrev : Int
  duty : Int
  ref : Int
  /-- A duty is due at the next centre, and the duty computed for it with the device time at which it was
  ready. -/
  due : Bool
  staged : Option (Int × Nat)
deriving DecidableEq, Repr

def PhaseSt.zero : PhaseSt := { i := 0, iPrev := 0, duty := 0, ref := 0, due := false, staged := none }

/-- A drive channel. Positions count 2^-16 units and speeds 2^-16 units/s. -/
structure Drv where
  /-- Channel entry in force (Table 14-2), and one that waits for rest (Table 14-6). -/
  entry : List Byte
  next : Option (List Byte)
  mode : Nat
  st : DrvKind
  /-- Microstep counter m, its speed, and the world time of its last change. -/
  m : Int
  v : Int
  moved : Nat
  standstill : Bool
  /-- FOLLOW: target P in units, wanted rate, the rate in force, and device time of the last edge. -/
  p : Int
  rate : Int
  slew : Int
  lastEdge : Option Nat
  offset : Int
  homed : Bool
  homing : Option Homing
  cause : Nat
  open_ : Bool
  /-- Resolution 0 to 4 (Table 14-4). -/
  res : Nat
  home : Limit
  far : Limit
  a : PhaseSt
  b : PhaseSt
  /-- Consecutive periods of each stall condition, and what R455 last found. -/
  overAngle : Nat
  lowEmf : Nat
  delta : Int
  emf : Nat
  /-- Period centre, in 50 µs of device time, up to which duties were released. -/
  centre : Nat
  /-- Bridge inputs A1, A2, B1, B2 as the part of a period they are high, in 2^-15. -/
  bridge : List Nat
deriving DecidableEq, Repr

def Drv.reset : Drv :=
  { entry := [], next := none, mode := 0, st := .off, m := 0, v := 0, moved := 0,
    standstill := true, p := 0, rate := 0, slew := 0, lastEdge := none, offset := 0, homed := false,
    homing := none, cause := 0, open_ := false, res := 0, home := .idle, far := .idle, a := .zero,
    b := .zero, overAngle := 0, lowEmf := 0, delta := 0, emf := 0, centre := 0,
    bridge := [0, 0, 0, 0] }

/-- The passage drives. -/
structure Drives where
  ch : Vector Drv 8
  /-- World time of a takeover, until stall detection starts (R461). -/
  stallWait : Option Nat
  /-- A block of loop computations is due for the last centre's samples (R238). -/
  blockDue : Bool
  stalls : Nat
  trips : Nat
  chatters : Nat
  refused : Nat
deriving DecidableEq, Repr

def Drives.reset : Drives :=
  { ch := Vector.replicate 8 Drv.reset, stallWait := none, blockDue := false, stalls := 0,
    trips := 0, chatters := 0, refused := 0 }

end Sys2Proof.Machine
end

