-- ==== Sys2Proof/Machine/StFabric.lean ====
section
/-! DEFINITION. State of the self-timed fabric, of the late-epoch policy and of admission (R39 to
R68). -/

namespace Sys2Proof.Machine

/-- A temperature sensor: its reading in °C, since when it has differed by more than 10 °C from the
median of the other three, and whether it is excluded (R52). -/
structure Sensor where
  temp : Int
  since : Option Nat
  out : Bool
deriving DecidableEq, Repr

/-- A replica chain: consecutive windows more than 5 % from the median, the last deviation in 0.1 %,
and whether it is excluded (R51). -/
structure ReplicaChain where
  bad : Nat
  dev : Nat
  out : Bool
deriving DecidableEq, Repr

/-- One self-timed region (R36, R51 to R64). Rates are in 0.1 M steps/s, rails in mV. -/
structure Region where
  rate : Nat
  railSet : Nat
  railRead : Nat
  sensors : Vector Sensor 4
  chains : Vector ReplicaChain 16
  /-- The rail changed, or the region was halted, during the window in progress (R53). -/
  disturbed : Bool
  /-- Consecutive kept windows below target, below the contract rate, and at or above target. -/
  lowRun : Nat
  breachRun : Nat
  goodRun : Nat
  /-- World time since which every kept window has been at or above target, and since which every
  one has exceeded target × (1 + HYST). -/
  goodSince : Option Nat
  highSince : Option Nat
  lastRaise : Option Nat
  lastLower : Option Nat
  atRisk : Bool
  breach : Bool
  /-- World time since which readback and value set have differed by more than 20 mV. -/
  avsSince : Option Nat
  avsFault : Bool
  avsRetryAt : Nat
  /-- Smoothed D in units of 2^-40 ppm, which a reset does not clear (R54, R65). -/
  drift : Int
  /-- Σ(x·D) and Σ(x²), x in thousandths and D in ppm (R55). -/
  sumXD : Int
  sumXX : Nat
  /-- TFC_SRn_PLAN. -/
  cap : Nat
  railDesign : Nat
  daysLeft : Nat
deriving DecidableEq, Repr

def Sensor.reset : Sensor := { temp := 0, since := none, out := false }
def ReplicaChain.reset : ReplicaChain := { bad := 0, dev := 0, out := false }

def Region.reset : Region :=
  { rate := 0, railSet := 0, railRead := 0, sensors := Vector.replicate 4 Sensor.reset,
    chains := Vector.replicate 16 ReplicaChain.reset, disturbed := false, lowRun := 0, breachRun := 0,
    goodRun := 0, goodSince := none, highSince := none, lastRaise := none, lastLower := none,
    atRisk := false, breach := false, avsSince := none, avsFault := false, avsRetryAt := 0,
    drift := 0, sumXD := 0, sumXX := 0, cap := 0, railDesign := 0xFFF, daysLeft := 0xFFFF }

/-- A neighbouring pair: since when it has been beyond a limit, or within both, and SKEW (R63). -/
structure SkewPair where
  badSince : Option Nat
  okSince : Option Nat
  skew : Bool
  /-- World time at which SKEW last moved the rails. -/
  driveAt : Nat
deriving DecidableEq, Repr

/-- A late epoch whose work has not ended (Table 2-18): its number, the device time of its boundary, its
consecutive count, the regions with work past the deadline, and the deadline in world time. -/
structure LateEpoch where
  n : Nat
  boundary : Nat
  count : Nat
  regions : Nat
  deadline : Nat
deriving DecidableEq, Repr

/-- The margin plan of a region as flash holds it: CAP, RAIL_DESIGN, DAYS_LEFT and the two sums (R55, R56). -/
structure PlanCopy where
  cap : Nat
  railDesign : Nat
  daysLeft : Nat
  sumXD : Int
  sumXX : Nat
deriving DecidableEq, Repr

/-- The timing fabric. -/
structure Tfc where
  /-- TFC_CTL and TFC_POLICY. -/
  planWarn : Nat
  tdesign : Nat
  hyst : Nat
  guard : Nat
  reopenN : Nat
  stopN : Nat
  admitN : Nat
  cfgErr : Bool
  /-- Consecutive late and on-time epochs, TFC_LATE.TOTAL, the lateness cause, and whether the run of
  late epochs in progress has raised its stop (R47). -/
  consec : Nat
  onTime : Nat
  total : Nat
  lateCause : Bool
  stopRaised : Bool
  lates : List LateEpoch
  /-- Epochs judged since the last late one (Table 1-6). -/
  sinceLate : Nat
  /-- TFC_LATE_OUT (R46). -/
  lateOut : Nat
  ready : Bool
  regions : Vector Region 4
  pairs : Vector SkewPair 4
  /-- TFC_STATUS.ADMIT_CAUSE, the power hold and ADMIT_CLOSED as last judged, and since when
  admission has been closed (R49). -/
  admitCause : Nat
  admitHold : Bool
  admitClosed : Bool
  closedAt : Nat
  /-- Operating hours, and world times of the last daily sample and CAP refresh. -/
  hours : Nat
  dayAt : Nat
  capAt : Nat
  /-- What the configuration area of flash holds: the hours and the plan of each region (R55). -/
  planCopy : Option (Nat × List PlanCopy)
  /-- World time at which SLEEP paused the monitor (R65). -/
  pausedAt : Nat
deriving DecidableEq, Repr

def Tfc.reset : Tfc :=
  { planWarn := 18, tdesign := 105, hyst := 30, guard := 80, reopenN := 100, stopN := 16,
    admitN := 3, cfgErr := false, consec := 0, onTime := 0, total := 0, lateCause := false,
    stopRaised := false, lates := [], sinceLate := 1000, lateOut := 0, ready := false,
    regions := Vector.replicate 4 Region.reset,
    pairs := Vector.replicate 4 { badSince := none, okSince := none, skew := false, driveAt := 0 },
    admitCause := 0, admitHold := false, admitClosed := false, closedAt := 0, hours := 0, dayAt := 0,
    capAt := 0, planCopy := none, pausedAt := 0 }

end Sys2Proof.Machine
end

