-- ==== Sys2Proof/Machine/StGnss.lean ====
section
/-! DEFINITION. State of the GNSS receiver (R312 to R348), of the time servo and time pulse (R337 to
R344), and of the Ethernet ports and PTP (R357 to R371). -/

namespace Sys2Proof.Machine

/-- A satellite slot of four tracking channels (R313); PRN 0 is a free one. -/
structure SvSlot where
  /-- 0 GPS, 1 Galileo, 2 BeiDou, 3 QZSS. -/
  sys : Nat
  prn : Nat
  elev : Nat
  cn0U : Nat
  cn0L : Nat
  tracked : Bool
  /-- Consecutive epochs with a residual above 30 m, and world time until which it is left out (R326). -/
  bad : Nat
  exclUntil : Option Nat
  /-- World time since which it has been 2° below the mask, or untracked. -/
  lowSince : Option Nat
deriving DecidableEq, Repr

def SvSlot.free : SvSlot :=
  { sys := 0, prn := 0, elev := 0, cn0U := 0, cn0L := 0, tracked := false, bad := 0, exclUntil := none
    lowSince := none }

/-- A notch filter: engaged on a bin, and since when its peak has been below the threshold (R319). -/
structure Notch where
  on : Bool
  bin : Nat
  lowSince : Option Nat
deriving DecidableEq, Repr

def Notch.off : Notch := { on := false, bin := 0, lowSince := none }

/-- An antenna input's bias: 0 no fault, 1 OPEN, 2 SHORT, and the last try (R317). -/
structure AntBias where
  fault : Nat
  triedAt : Nat
deriving DecidableEq, Repr

/-- One satellite of a survey epoch (R328): the epoch's number, the slot and unbroken arc, the primary
pseudoranges and phases of both bands less their predictions at `base` in 0.1 mm, the direction in 10^-6, the
wet delay's factor in 10^-3, and the pseudorange's standard deviation in mm. -/
structure SurveyObs where
  epoch : Nat
  arc : Nat × Nat
  pU : Int
  pL : Int
  lU : Int
  lL : Int
  base : Int × Int × Int
  dir : Int × Int × Int
  wet : Int
  sd : Nat
deriving DecidableEq, Repr

/-- The receiver. Positions are ECEF in 0.1 mm. -/
structure Gnss where
  slots : Vector SvSlot 64
  /-- Code of the measurement rate in force, and the second of device time in which RATE was last
  written (R324). -/
  rate : Nat
  rateSetAt : Nat
  /-- Device time of the last measurement epoch, and satellites in its solution. -/
  lastEpoch : Nat
  used : Nat
  /-- Navigation data kept, their copy in flash, and the world time of the last save (R314). -/
  nav : List Byte
  navFlash : List Byte
  navSavedAt : Nat
  ant : Vector AntBias 2
  /-- Jamming indicators, and JAMMING as last recorded (R320, R321). -/
  ji : Vector Nat 2
  /-- The smoothed E of each band, in dB × 2^16. -/
  rise : Vector Nat 2
  jam : Vector Bool 2
  notches : Vector Notch 8
  /-- Capture: its buffer, BUSY, start in device time (R318). -/
  capBuf : Tbl (BitVec 8)
  capBusy : Bool
  capAt : Nat
  capBand : Nat
  capCount : Nat
  /-- Survey: 0 idle, 1 running, 2 complete, 3 slow; began at this world time; sigma in mm; the position mode
  has acted since the reset; what the survey has gathered, and how many epochs (R327, R328). -/
  survey : Nat
  surveyAt : Nat
  sigma : Nat
  surveyed : Bool
  /-- The reset ended a survey (Table 10-8). -/
  again : Bool
  surveyData : List SurveyObs
  surveyEpochs : Nat
  stored : Option (Int × Int × Int)
  /-- ARP coordinates in use. -/
  arp : Option (Int × Int × Int)
  /-- A write of GNS_FIX or GNS_ANT waits for its epoch, and its 1005 or 1006 for the next (R330). -/
  fixDue : Bool
  arpSoon : Bool
  /-- Antenna height for 1006, as in effect. -/
  height : Nat
  /-- Free code solutions of the last 60 s with their world times, the distance of their average in dm,
  MISMATCH, and since when it has been beyond or within the limit (R329). -/
  codeAt : List (Nat × (Int × Int × Int))
  codeDist : Nat
  mismatch : Bool
  farSince : Option Nat
  nearSince : Option Nat
  /-- GNS_ANT_DESC bytes. -/
  antDesc : List (BitVec 8)
  /-- Causes of R334 as last judged; CORRECTIONS_WITHHELD stands, since this world time. -/
  causes : Nat
  withheld : Bool
  withheldAt : Nat
  /-- Messages of the epoch still to place, and its messages for the datagrams, each with the mark that SENT
  has counted it (R332, R335). -/
  arpDue : Bool
  descDue : Bool
  epochMsgs : List (List (BitVec 8) × Bool)
  sent : Nat
  dropped : Nat
  /-- TAI − UTC, leap second announced and its second of device time, as each constellation's data have them,
  and as two that agree do (R345); the event LEAP_PENDING was last recorded for. -/
  utcOf : Vector (Option (Nat × Nat × Nat)) 4
  utcValid : Bool
  leap : Nat
  leapAt : Nat
  taiUtc : Nat
  leapRecorded : Option Nat
deriving DecidableEq, Repr

def Gnss.reset : Gnss :=
  { slots := Vector.replicate 64 SvSlot.free, rate := 0, rateSetAt := 0, lastEpoch := 0, used := 0, nav := []
    navFlash := [], navSavedAt := 0, ant := Vector.replicate 2 { fault := 0, triedAt := 0 }
    ji := Vector.replicate 2 0, rise := Vector.replicate 2 0, jam := Vector.replicate 2 false, notches := Vector.replicate 8 Notch.off
    capBuf := [], capBusy := false, capAt := 0, capBand := 0, capCount := 0, survey := 0, surveyAt := 0
    sigma := 0xFFF, surveyed := false, again := false, surveyData := [], surveyEpochs := 0, stored := none, arp := none, fixDue := true, arpSoon := false, height := 0, codeAt := [], codeDist := 0
    mismatch := false, farSince := none, nearSince := none, antDesc := [], causes := 0, withheld := false
    withheldAt := 0, arpDue := false, descDue := false, epochMsgs := [], sent := 0, dropped := 0
    utcOf := Vector.replicate 4 none, utcValid := false, leap := 0, leapAt := 0, taiUtc := 0
    leapRecorded := none }

/-- Time states (Table 10-7), with the codes of GNS_TIME_STATE. -/
inductive TimeState where
  | untrusted | recovering | locked | holdover
deriving DecidableEq, Repr

/-- A solution as the servo takes it: Δ, what u adds to |Δ|, the reference's frequency as the servo
knows it in 2^-40, and the slew it asks for in ns/s. -/
structure Soln where
  delta : Int
  base : Nat
  freq : Int
  slew : Int
deriving DecidableEq, Repr

/-- The servo in force (R337 to R340). World times but where said. -/
structure Servo where
  ts : TimeState
  /-- Uncertainty in ns; none while it is not defined. -/
  u : Option Nat
  u0 : Nat
  holdAt : Nat
  /-- Last refresh of u in HOLDOVER. -/
  uAt : Nat
  delta : Int
  freq : Int
  lastValid : Nat
  inLockSince : Option Nat
  /-- A valid solution has come since POR. -/
  seen : Bool
  /-- A step waits for this device time (R340), and TIME_STEP_PENDING stands. -/
  stepDue : Option (Int × Nat)
  stepPending : Bool
  jumpSince : Option Nat
  jumpMin : Int
  jumpMax : Int
  jump : Soln
  /-- State and u at the last measurement epoch, its world time, and state and u at the one before it
  (R344). -/
  epState : TimeState
  epU : Option Nat
  epAt : Nat
  oldState : TimeState
  oldU : Option Nat
  /-- Device time of a TMB_CFG.SRC write waiting (R357). -/
  srcAt : Option Nat
deriving DecidableEq, Repr

def Servo.reset : Servo :=
  { ts := .untrusted, u := none, u0 := 0, holdAt := 0, uAt := 0, delta := 0, freq := 0, lastValid := 0
    inLockSince := none, seen := false, stepDue := none, stepPending := false, jumpSince := none, jumpMin := 0
    jumpMax := 0, jump := { delta := 0, base := 0, freq := 0, slew := 0 }, epState := .untrusted, epU := none
    epAt := 0, oldState := .untrusted, oldU := none, srcAt := none }

/-- The time pulse (R343, R344): the last edge, the tag released with it, and TP_SKIPPED. -/
structure Tp where
  lastDue : Nat
  lastRaw : Option Nat
  time : Nat
  valid : Bool
  state : TimeState
  qerr : Int
  u : Option Nat
  skipped : Nat
deriving DecidableEq, Repr

def Tp.reset : Tp :=
  { lastDue := 0, lastRaw := none, time := 0, valid := false, state := .untrusted, qerr := 0, u := none
    skipped := 0 }

/-- A grandmaster a client port hears (R366): its dataset, the port that sent it, and the world time of
the last Announce. -/
structure Master where
  prio1 : Nat
  cls : Nat
  accuracy : Nat
  variance : Nat
  prio2 : Nat
  identity : Nat
  steps : Nat
  sender : Nat
  heardAt : Nat
  /-- World time of the Announce before it. -/
  before : Option Nat
deriving DecidableEq, Repr

/-- A PTP exchange under way: the Sync's sequence, its times t1 and t2, the Delay_Req's sequence and t3;
corrections are already applied. -/
structure PtpEx where
  syncSeq : Nat
  t1 : Option Int
  t2 : Int
  reqSeq : Option Nat
  t3 : Int
deriving DecidableEq, Repr

/-- An Ethernet port (R360 to R366). -/
structure EthPort where
  link : Bool
  speed : Nat
  /-- portState of IEEE 1588; 0 off. -/
  ptpState : Nat
  /-- World times of the last Sync, Announce and Delay_Req, and their next sequence numbers. -/
  syncAt : Option Nat
  annAt : Option Nat
  reqAt : Option Nat
  syncSeq : Nat
  annSeq : Nat
  reqSeq : Nat
  masters : List Master
  best : Option Master
  ex : Option PtpEx
  /-- Last 16 values of Δ, newest first, and the last one. -/
  deltas : List Int
  ofs : Int
  /-- Addresses learned by ARP: IPv4 address to MAC. -/
  arp : Tbl Nat
deriving DecidableEq, Repr

def EthPort.reset : EthPort :=
  { link := false, speed := 0, ptpState := 0, syncAt := none, annAt := none, reqAt := none, syncSeq := 0
    annSeq := 0, reqSeq := 0, masters := [], best := none, ex := none, deltas := [], ofs := 0, arp := [] }

end Sys2Proof.Machine
end

