-- ==== Sys2Proof/Machine/StLedger.lean ====
section
/-! DEFINITION. State of the radio chains' power and of the band ledgers (R295 to R311). -/

namespace Sys2Proof.Machine

/-- A band ledger (R301 to R305). Charges count in ns. -/
structure Ledger where
  lbt : Bool
  power : Bool
  /-- LIMIT, RESERVE and KEEP in 0.01 %, WINDOW in s. -/
  limit : Nat
  window : Nat
  reserve : Nat
  keep : Nat
  ccaThr : Int
  ccaTime : Nat
  eirpMax : Int
  /-- 64 buckets of normal and stop charge, newest first, and the world time the newest began. -/
  buckets : List (Nat × Nat)
  start : Nat
  /-- World time since which classes 1 and 2 are held. -/
  hold1 : Option Nat
  hold2 : Option Nat
  overdraw : Bool
  held1 : Nat
  held2 : Nat
  lbtBusy : Nat
deriving DecidableEq, Repr

/-- Table 9-5, for a band and the unit's variant. -/
def Ledger.default (band : Nat) : Ledger :=
  let eu := Config.variant == 0
  { lbt := false, power := eu && band == 0, limit := if eu then 1000 else 10000
    window := if eu && band == 1 then 3600 else 1, reserve := 100, keep := 100
    ccaThr := if band = 0 then -70 else -85, ccaTime := if band = 0 then 18 else 80
    eirpMax := if eu then (if band = 0 then 20 else 29) else 36
    buckets := List.replicate 64 (0, 0), start := 0, hold1 := none, hold2 := none, overdraw := false
    held1 := 0, held2 := 0, lbtBusy := 0 }

/-- What is left of an external path: gains and loss in 0.25 dB (Table 9-8). -/
structure Path where
  pa : Int
  ant : Int
  loss : Nat
deriving DecidableEq, Repr

/-- A chain's power: in effect, computed for the next radio slot, none where it is silent. -/
structure ChainPower where
  p : Option Int
  next : Option (Option Int)
  blocked : Bool
deriving DecidableEq, Repr

/-- The radio chains and both ledgers. -/
structure Rfb where
  paths : Vector Path 2
  power : Vector ChainPower 2
  /-- RADIO section in force. -/
  radio : Option (List Byte)
  ledgers : Vector Ledger 2
  cfgErr : Bool
  /-- Copy in the retention area, and the two snapshots in flash, newer first (R306, R307). -/
  retained : Option (Vector Ledger 2)
  snaps : List (Vector Ledger 2)
  snapAt : Nat
deriving DecidableEq, Repr

def Rfb.reset : Rfb :=
  { paths := Vector.replicate 2 { pa := 0, ant := 0, loss := 0 }
    power := Vector.replicate 2 { p := some 0, next := none, blocked := false }, radio := none
    ledgers := #v[Ledger.default 0, Ledger.default 1], cfgErr := false, retained := none, snaps := []
    snapAt := 0 }

end Sys2Proof.Machine
end

