-- ==== Sys2Proof/Machine/StOut.lean ====
section
/-! DEFINITION. What leaves the device, and the event logic (R473, R475). -/

namespace Sys2Proof.Machine

/-- What leaves the device at its pins, links and buses. The list of these, newest first, is
the model's own record of its outputs (log entry 3). -/
inductive Out where
  /-- An event record as it leaves the event logic. -/
  | record (r : Record)
  /-- An MSI-X vector is signalled (Table 12-5). -/
  | msix (vector : Nat)
  /-- The answer to a register, window or direct-port read. -/
  | busRead (value : Nat)
  /-- A PCIe read completes with Unsupported Request (R387). -/
  | unsupported
  /-- Bytes written to host memory. -/
  | hostWrite (addr : Nat) (bytes : List Byte)
  /-- An air frame on a chain (0 is 2.4 GHz, 1 sub-GHz) and channel. -/
  | air (chain channel : Nat) (bytes : List Byte)
  /-- A stop preamble starts on every active carrier and on the sub-GHz chain. -/
  | stopPreamble
  /-- An Ethernet frame leaves a port. -/
  | eth (port : Nat) (bytes : List Byte)
  /-- A message leaves on the twin link (Table 13-1). -/
  | twin (m : TwinMsg)
  /-- A service-port response shifts out. -/
  | svc (bytes : List Byte)
  /-- A pin or output changes. -/
  | pin (name : String) (level : Nat)
  /-- A pulse on a pin: its on-time level and length in ns. -/
  | pulse (name : String) (level width : Nat)
  /-- An AVSBus voltage write for a region, in mV. -/
  | avs (region mv : Nat)
deriving DecidableEq, Repr

/-- The output digest of an epoch so far: the sum of its items, and the ordinals used of each kind and
key (R425). -/
structure Digest where
  epoch : Nat
  sum : Nat
  ordinals : Tbl Nat
deriving DecidableEq, Repr

/-- Event logic: the output trace, the two sequence counters and the buckets (R473, R475). -/
structure Ev where
  out : List Out
  detSeq : Nat
  linkSeq : Nat
  /-- Buckets by code; an unlisted code has a full bucket with the default settings. -/
  buckets : Tbl Bucket
  /-- PNT_RL_IDX.CODE. -/
  rlIdx : Nat
  /-- Digest of the epoch in progress, and of those ended whose work is not yet complete or whose
  digest is not yet sent (R426). -/
  digest : Digest
  past : List Digest
  /-- The epoch of the task whose items are made now, where a task makes them. -/
  forEpoch : Option Nat
deriving DecidableEq, Repr

end Sys2Proof.Machine
end

