-- ==== Sys2Proof/Machine/StPortfolio.lean ====
section
/-! DEFINITION. State of Portfolio update, of the bank-select record and of the service port (R486 to
R500). -/

namespace Sys2Proof.Machine

/-- A part of a decrypted set: type, version and contents. -/
structure PfoPart where
  type : Nat
  version : Nat
  bytes : List Byte
deriving DecidableEq, Repr

/-- A bank's set with its manifest. `ok` is what the check of R495 finds. -/
structure PfoBank where
  setVersion : Nat
  svn : Nat
  parts : List PfoPart
  ok : Bool
deriving DecidableEq, Repr

/-- A copy of the bank-select record (Table 16-7). -/
structure BankRec where
  seq : Nat
  bank : Nat
  /-- 1 TRIAL, 2 CONFIRMED. -/
  state : Nat
  attempts : Nat
  svn : Nat
  setVersion : Nat
deriving DecidableEq, Repr

/-- Portfolio and service port. -/
structure Pfo where
  banks : Vector (Option PfoBank) 2
  recs : Vector (Option BankRec) 2
  /-- Bank whose set runs. -/
  running : Nat
  /-- Staging: 0 EMPTY, 1 LOADING, 2 COMPLETE, 3 DONE; owner 0 none, 1 service port, 2 twin link; bytes
  as received, their length, and the world time of the last data (R491, R492). -/
  staging : Nat
  owner : Nat
  length : Nat
  bytes : List Byte
  dataAt : Nat
  fuse : Nat
  keys : Vector KeySlot 4
  keyWords : List Word
  code : Nat
  detail : Nat
  /-- A SHARE is under way (R493), and one from the partner waits for the judgement of claims (R491). -/
  sharing : Bool
  claim : Option (List Byte)
  /-- Service port: the response ready and not read, the last request answered and its response, the
  counters (R490). -/
  ready : Option (List Byte)
  lastSeq : Option Nat
  stored : List Byte
  svcCrc : Nat
  svcFrames : Nat
  /-- World time since which the supervisor has served its heartbeat, and ATTEMPTS cleared since (R496). -/
  upAt : Nat
  /-- Why recovery was entered, until it is recorded: 0 no bank, 1 attempts, 2 RECOVERY_N (R498). -/
  recCause : Option Nat
  /-- What an examination at this boot found, until it is recorded: activated, and p0 to p2 of its event. -/
  exam : Option (Bool × Nat × Nat × Nat)
deriving DecidableEq, Repr

/-- The flash as the device leaves its line (log entry 5): bank A holds a confirmed set. -/
def factoryBank : PfoBank :=
  { setVersion := 1, svn := 0, ok := true
    parts := [{ type := 1, version := 1, bytes := [] }, { type := 2, version := 1, bytes := [] }] }

def factoryRec (seq : Nat) : BankRec :=
  { seq := seq, bank := 0, state := 2, attempts := 0, svn := 0, setVersion := 1 }

def Pfo.reset : Pfo :=
  { banks := #v[some factoryBank, none], recs := #v[some (factoryRec 1), some (factoryRec 1)], running := 0
    staging := 0, owner := 0, length := 0, bytes := [], dataAt := 0, fuse := 0
    keys := Vector.replicate 4 KeySlot.empty, keyWords := [], code := 0, detail := 0, sharing := false, claim := none
    ready := none, lastSeq := none, stored := [], svcCrc := 0, svcFrames := 0, upAt := 0, recCause := none, exam := none }

end Sys2Proof.Machine
end

