-- ==== Sys2Proof/Machine/StPower.lean ====
section
/-! DEFINITION. State of power, reset and retention (R502 to R519, R541). -/

namespace Sys2Proof.Machine

/-- PWR_STATUS.STATE and the states beyond it (Table 17-1). `off` holds from a reset until its boot. -/
inductive PowerState where
  | run | quiet | sleep | deep | off
deriving DecidableEq, Repr

/-- The retention area of CI1 but for the ledgers, which `Rfb.retained` holds (R516). -/
structure Retention where
  detSeq : Nat
  linkSeq : Nat
  squares : List (Nat × Nat)
  pntLost : Nat
  pntFirst : Nat
  /-- Dip in progress at the write: its duration in µs and flash writes deferred. -/
  dip : Option (Nat × Nat)
deriving DecidableEq, Repr

/-- What a 60 s snapshot carries beside the ledgers (R516). -/
structure SnapExtra where
  detSeq : Nat
  linkSeq : Nat
  squares : List (Nat × Nat)
deriving DecidableEq, Repr

/-- A flash write waiting its turn (R541): the GNSS copy, a survey result, or the operating hours with the
margin plans. -/
inductive FlashWrite where
  | plan (hours : Nat) (l : List PlanCopy)
  | nav (bytes : List Byte)
  | survey (x y z : Int)
deriving DecidableEq, Repr

/-- A reset that has taken hold: kind and cause (Table 17-4), what it began from, and the world time. -/
structure ResetInfo where
  kind : Nat
  cause : Nat
  ci1Kept : Bool
  was : Nat
  time : Nat
deriving DecidableEq, Repr

/-- Power. -/
structure Pwr where
  state : PowerState
  /-- State before SLEEP; a change asked for with its role, pending (Table 17-2). -/
  prior : PowerState
  pending : Option (PowerState × Nat)
  /-- Device time at which the pending change was accepted. -/
  pendingAt : Nat
  booted : Bool
  /-- The reset whose boot is to come or was the last. -/
  last : ResetInfo
  resets : Nat
  retValid : Bool
  retUsed : Bool
  ret : Option Retention
  extras : List SnapExtra
  /-- Real-time clock: validity, its value and the world time at which it was set. -/
  rtcValid : Bool
  rtc : Nat
  rtcAt : Nat
  /-- Straps as sampled, and the reference accepted (R525, R531). -/
  clkSel : Bool
  recovery : Bool
  refOk : Bool
  /-- The ROM runs in recovery (R498). -/
  inRecovery : Bool
  /-- A supply dip is in progress (R509): since when, since when VSYS has been back, and flash writes
  deferred. -/
  dip : Bool
  dipAt : Nat
  backSince : Option Nat
  deferred : Nat
  dipCount : Nat
  dipLast : Nat
  vsysLow : Bool
  vsysWarn : Bool
  /-- The power hold closes admission (R504, R509). -/
  hold : Bool
  /-- CMP2 latch of a stop input edge in DEEP (R23), and CMP3. -/
  cmp2 : Bool
  tamper : Bool
  cfgErr : Bool
  /-- World time of the last service of the watchdog (R513). -/
  servedAt : Nat
  /-- A wake source that has come in SLEEP, with the state to wake into (R506): 0 register, 1 stop, 2 CMP3,
  3 alarm; from DEEP until its boot, 4 RESET_N among them (Table 17-15). -/
  wake : Option (Nat × PowerState)
  /-- PWR_CTL's RESIGN went out before SLEEP or DEEP (R504). -/
  resigned : Bool
  /-- PWR_CFG_CTL: BUSY, QUEUED, RESULT, the role of the save, and the saved copies, newer first, as
  register addresses and values (R517). -/
  cfgBusy : Bool
  cfgQueued : Bool
  cfgResult : Nat
  cfgRole : Nat
  saved : List (List (Nat × Nat))
  flash : List FlashWrite
  /-- The write at the head has begun. -/
  flashBegun : Bool
deriving DecidableEq, Repr

def Pwr.reset : Pwr :=
  { state := .off, prior := .run, pending := none, pendingAt := 0, booted := false
    last := { kind := 0, cause := 0, ci1Kept := false, was := 4, time := 0 }, resets := 0, retValid := false
    retUsed := false, ret := none, extras := [], rtcValid := false, rtc := 0, rtcAt := 0
    clkSel := false, recovery := false, refOk := false, inRecovery := false, dip := false, dipAt := 0
    backSince := none, deferred := 0, dipCount := 0, dipLast := 0, vsysLow := false, vsysWarn := false
    hold := false, cmp2 := false, tamper := false, cfgErr := false, servedAt := 0, wake := none, resigned := false
    cfgBusy := false, cfgQueued := false, cfgResult := 0, cfgRole := 0, saved := [], flash := []
    flashBegun := false }

end Sys2Proof.Machine
end

