-- ==== Sys2Proof/Machine/State.lean ====
section
/-! DEFINITION. The state of the device, its reset, and the reasons a step may stop. -/

namespace Sys2Proof.Machine

/-- Faults of a step. No meaning raises one: the spec gives every command of the table an effect
in every state. -/
inductive Fault where
  /-- Raised by no command. It would be safe: the model would stop where the device goes on. -/
  | unspecified
deriving DecidableEq, Repr

/-- Refusals of a step. -/
inductive Refusal where
  /-- Raised by an arm of exec whose command has no meaning yet. Safe: the model stops where the
  device goes on. -/
  | notModelled (mnemonic : String)
deriving DecidableEq, Repr

/-- The state of the device. `pending` is the queue of commands waiting, first in first out;
`now` is world time in ns and `draws` counts free values drawn (log entries 1, 2, 4). -/
structure State where
  pending : List Instr
  now : Nat
  draws : Nat
  ev : Ev
  sec : Sec
  pnt : Pnt
  palette : Palette
  host : HostIf
  tmb : Tmb
  fleet : Fleet
  epoch : Epoch
  dsp : Dsp
  easels : Vector Easel 8
  atelier : Atelier
  canvas : Canvas
  stk : Stk
  gdl : Gdl
  drv : Drives
  air : Air
  rfb : Rfb
  tfc : Tfc
  twin : Twin
  pwr : Pwr
  gnss : Gnss
  servo : Servo
  tp : Tp
  eth : Vector EthPort 2
  pfo : Pfo
  /-- Stored RW registers by address; an unlisted one holds its table's reset value. -/
  regs : Tbl Nat
deriving DecidableEq, Repr

def Sec.reset : Sec :=
  { pcie := .idle, svc := .idle, idle := 600, makerKeys := [], installerKeys := [],
    operatorKeys := [], keyWords := [], keyResult := 0 }

def Pnt.reset : Pnt :=
  { slots := [], gen := 0, next := 0, full := false, clearing := false, clearRole := 0,
    clearOld := 0, clearAtBoot := false, clearRefused := false, rlRefused := false,
    classMask := 0xFFFF, minSev := 1, dropped := 0, gap := 0, gapPending := 0, gapFirst := 0,
    idx := 0, buffer := [] }

def Palette.reset : Palette :=
  { queues := Vector.replicate 64 PQueue.empty, grants := [], flushQueue := 0, idx := 0,
    flushes := [], rebuilds := [], waiting := [], parts := [], jobs := [], linkCorr := 0, linkUncorr := 0 }

def HostIf.reset : HostIf :=
  { linkUp := false, busMaster := false, width := 0, speed := 0,
    evq := Vector.replicate 8 Evq.reset, putAddr := 0, putLevel := 0, putQueue := 23,
    putLen := 0, putResult := 0, putJob := none, getAddr := 0, getQueue := 52, getCap := 0,
    getResult := 0, getJob := none, dpEn := false, dpRefused := 0, dpTimes := [],
    dpHigh := 0, dpInvalid := 0, dpProbes := 0, locks := Vector.replicate 32 15, ties := 0,
    foreign := 0, mbx := (Vector.replicate 16 Mbx.unjoined).set 15 Mbx.supervisor,
    mbxUp := false, supervisorUp := false, mbxOwed := 0 }

/-- The boot stop (R28). -/
def bootStop : Stop :=
  { kind := .fleet, seq := 0, source := 7, index := 0, squares := [], robots := [], standstill := false }

/-- Both stop inputs are taken as high since time 0: Table 1-9 gives them no level at reset (DESIGN CHOICE, log
entry 5). -/
def Fleet.reset : Fleet :=
  { stops := [bootStop], lastSeq := 0, framesSent := 0, lastSource := 7, relResult := 0,
    inputA := true, inputB := true, discrepancy := false, differSince := none,
    highSince := some 0, discTime := 10, bootHold := true, incarnation := 1,
    storedIncarnation := 0, incStored := false, incStoredAt := 0, incKind := 0, incStart := 0, incFailAt := none,
    restart := true, superframes := 0, rebuilt := false }

def ArrivalQ.empty : ArrivalQ := { items := [], owed := [], holdSince := none, refused := 0 }

def Dsp.reset : Dsp :=
  { mode := .empty, busy := 0, resDetail := 0, resCmd := 0, resSection := 0, resCode := 0,
    autoload := false, loadAddr := 0, loadLen := 0, swapEpochReg := 0, staged := none,
    stored := [], storedValid := false, running := none, stopRole := 0, stopCmd := 0, stopEpoch := 0, autoloadDue := false, coldStarted := false,
    swapE := 0, deferrals := 0, inSwapEpoch := false, swapTried := none, instances := [], high := 0,
    released := [], arrivals := Vector.replicate 6 ArrivalQ.empty, dropRadio := 0,
    dropSubg := 0, dropUnrouted := 0, quarantine := [], releases := [], startup := false,
    startupLeft := 0, ordered := [], relNo := [], reorder := [], results := [],
    traceOn := false, traceStop := false, traceEasels := 0xFF, traceKinds := 0xFF, trace := [],
    traceNext := 0, traceFull := false, traceLost := 0, traceIdx := 0,
    keys := Vector.replicate 4 KeySlot.empty, keyWords := [] }

def Epoch.reset : Epoch :=
  { n := 0, length := 1000000, nominal := 0, begun := false, judged := false, late := false,
    prevLate := false, outLate := false, ticked := false }

/-- The device right after the release of a POR reset, as the register tables give it (R9);
where the spec gives no value, log entry 5 names the one taken. -/
def State.reset : State :=
  { pending := [], now := 0, draws := 0,
    ev := { out := [], detSeq := 2 ^ 31, linkSeq := 2 ^ 31, buckets := [], rlIdx := 0, digest := { epoch := 0, sum := 0, ordinals := [] }, past := [],
            forEpoch := none },
    sec := Sec.reset, pnt := Pnt.reset, palette := Palette.reset, host := HostIf.reset,
    tmb := Tmb.reset, fleet := Fleet.reset, epoch := Epoch.reset, dsp := Dsp.reset,
    easels := Vector.replicate 8 Easel.reset,
    atelier := { mem := [], poison := [], scrubAt := 0, writers := [] },
    canvas := Canvas.reset, stk := Stk.reset, gdl := Gdl.reset, drv := Drives.reset, air := Air.reset, rfb := Rfb.reset,
    tfc := Tfc.reset,
    twin := Twin.reset false, pwr := Pwr.reset,
    gnss := Gnss.reset, servo := Servo.reset, tp := Tp.reset, eth := Vector.replicate 2 EthPort.reset, pfo := Pfo.reset,
    regs := [] }

/-! Updates of one part of the state. -/

def State.modEv (s : State) (f : Ev → Ev) : State := { s with ev := f s.ev }
def State.modSec (s : State) (f : Sec → Sec) : State := { s with sec := f s.sec }
def State.modPnt (s : State) (f : Pnt → Pnt) : State := { s with pnt := f s.pnt }
def State.modPalette (s : State) (f : Palette → Palette) : State := { s with palette := f s.palette }
def State.modHost (s : State) (f : HostIf → HostIf) : State := { s with host := f s.host }
def State.modTmb (s : State) (f : Tmb → Tmb) : State := { s with tmb := f s.tmb }
def State.modFleet (s : State) (f : Fleet → Fleet) : State := { s with fleet := f s.fleet }
def State.modEpoch (s : State) (f : Epoch → Epoch) : State := { s with epoch := f s.epoch }
def State.modDsp (s : State) (f : Dsp → Dsp) : State := { s with dsp := f s.dsp }
def State.modAtelier (s : State) (f : Atelier → Atelier) : State := { s with atelier := f s.atelier }
def State.modCanvas (s : State) (f : Canvas → Canvas) : State := { s with canvas := f s.canvas }
def State.modStk (s : State) (f : Stk → Stk) : State := { s with stk := f s.stk }
def State.modGdl (s : State) (f : Gdl → Gdl) : State := { s with gdl := f s.gdl }
def State.modDrv (s : State) (f : Drives → Drives) : State := { s with drv := f s.drv }
def State.modAir (s : State) (f : Air → Air) : State := { s with air := f s.air }
def State.modRfb (s : State) (f : Rfb → Rfb) : State := { s with rfb := f s.rfb }
def State.modTfc (s : State) (f : Tfc → Tfc) : State := { s with tfc := f s.tfc }
def State.modTwin (s : State) (f : Twin → Twin) : State := { s with twin := f s.twin }
def State.modPwr (s : State) (f : Pwr → Pwr) : State := { s with pwr := f s.pwr }
def State.modGnss (s : State) (f : Gnss → Gnss) : State := { s with gnss := f s.gnss }
def State.modServo (s : State) (f : Servo → Servo) : State := { s with servo := f s.servo }
def State.modTp (s : State) (f : Tp → Tp) : State := { s with tp := f s.tp }
def State.modPfo (s : State) (f : Pfo → Pfo) : State := { s with pfo := f s.pfo }
def State.modPort (s : State) (p : Fin 2) (f : EthPort → EthPort) : State := { s with eth := s.eth.set p (f s.eth[p]) }

end Sys2Proof.Machine
end

