-- ==== Sys2Proof/Machine/Regs.lean ====
section
/-! DEFINITION. Registers whose RW fields do nothing but hold what was written (R6 to R8): their
addresses, widths, RW bits, reset values and the least role a write needs. Registers with effects
of their own have typed state in the chapter that owns them. -/

namespace Sys2Proof.Machine

/-- A stored register: address, bytes, RW bits, reset value, least role of a write (0 none,
1 OPERATOR, 2 INSTALLER, 3 MAKER), and the bits whose reset value reads "From flash". -/
structure RegDef where
  addr : Nat
  bytes : Nat
  mask : Nat
  reset : Nat
  role : Nat
  flash : Nat := 0
deriving DecidableEq, Repr

def rCnvGrantAddr : Nat := 0x40010
def rCnvRobotIdx : Nat := 0x40040
def rStkChIdx : Nat := 0x50004
def rGdlLoopIdx : Nat := 0x60008
def rGdlGlazeIdx : Nat := 0x60040
def rPsgChIdx : Nat := 0xF0010
def rTwnCfg : Nat := 0xE0000
def rAirCfg : Nat := 0x70000
def rAirAge : Nat := 0x70004
def rAirCoordExt : Nat := 0x70008
def rAirStIdx : Nat := 0x70040
def rAirStExt : Nat := 0x70050
def rLdgIdx : Nat := 0x80040
def rGnsCfg : Nat := 0x90000
def rGnsSurvey : Nat := 0x90008
def rGnsFix (i : Nat) : Nat := 0x90030 + 8 * i
def rGnsAnt : Nat := 0x90048
def rGnsJam : Nat := 0x90080
def rGnsNotch (b k : Nat) : Nat := 0x90100 + 0x10 * b + 4 * k
def rGnsTime : Nat := 0x90208
def rGnsHold : Nat := 0x9020C
def rGnsTp : Nat := 0x90210
def rGnsSvIdx : Nat := 0x90300
def rGnsCapIdx : Nat := 0x90404
def rEthCfg (p : Nat) : Nat := 0xB0000 + 0x100 * p
def rEthDly (p : Nat) : Nat := 0xB0008 + 0x100 * p
def rEthIp (p : Nat) : Nat := 0xB000C + 0x100 * p
def rEthMac (p : Nat) : Nat := 0xB0010 + 0x100 * p
def rEthPtp (p : Nat) : Nat := 0xB0018 + 0x100 * p
def rPsgCfg : Nat := 0xF0000
def rPfoVerIdx : Nat := 0x120020
def rPwrCmp : Nat := 0x13000C
def rPwrWdt : Nat := 0x130010
def rPwrAlarm : Nat := 0x130028

def notchDefs : List RegDef :=
  (List.range 8).map fun i =>
    { addr := rGnsNotch (i / 4) (i % 4), bytes := 4, mask := 0xFFFFFF0F, reset := 15 * 256 + 1, role := 2 }

def ethDefs (p : Nat) : List RegDef :=
  [{ addr := rEthCfg p, bytes := 4, mask := 0xD, reset := 0, role := 2 },
   { addr := rEthDly p, bytes := 4, mask := 2 ^ 32 - 1, reset := 0, role := 2 },
   { addr := rEthIp p, bytes := 4, mask := 2 ^ 32 - 1, reset := 0, role := 2 },
   { addr := rEthMac p, bytes := 8, mask := 2 ^ 48 - 1, reset := Config.ethMac p % 2 ^ 48, role := 2 },
   { addr := rEthPtp p, bytes := 4, mask := 0xFFFF7FFF, reset := 128 * 2 ^ 24 + 128 * 2 ^ 16 + 64, role := 2 }]

/-- The stored registers. -/
def regDefs : List RegDef :=
  [{ addr := rTwnCfg, bytes := 4, mask := 7, reset := 4, role := 2, flash := 1 },
   { addr := rAirCfg, bytes := 4, mask := 0xFFFF03FF, reset := 0xFFFF0300, role := 2 },
   { addr := rAirAge, bytes := 4, mask := 0xFFFF, reset := 3000, role := 2 },
   { addr := rAirCoordExt, bytes := 8, mask := 2 ^ 64 - 1, reset := Config.coordExt % 2 ^ 64, role := 2 },
   { addr := rAirStIdx, bytes := 4, mask := 0x80001FFF, reset := 0, role := 0 },
   { addr := rAirStExt, bytes := 8, mask := 2 ^ 64 - 1, reset := 0, role := 2 },
   { addr := rLdgIdx, bytes := 4, mask := 1, reset := 0, role := 2 },
   { addr := rGnsCfg, bytes := 4, mask := 0xFFFF07, reset := 0xD78A00, role := 2 },
   { addr := rGnsSurvey, bytes := 4, mask := 2 ^ 31 - 1, reset := 24 * 2 ^ 24 + 10 * 2 ^ 12 + 20, role := 2 },
   { addr := rGnsFix 0, bytes := 8, mask := 2 ^ 64 - 1, reset := 0, role := 2, flash := 2 ^ 64 - 1 },
   { addr := rGnsFix 1, bytes := 8, mask := 2 ^ 64 - 1, reset := 0, role := 2, flash := 2 ^ 64 - 1 },
   { addr := rGnsFix 2, bytes := 8, mask := 2 ^ 64 - 1, reset := 0, role := 2, flash := 2 ^ 64 - 1 },
   { addr := rGnsAnt, bytes := 4, mask := 0xFFFFFF, reset := 3 * 2 ^ 16, role := 2, flash := 0xFFFF },
   { addr := rGnsJam, bytes := 4, mask := 0xFFFF, reset := 200 * 256 + 80, role := 2 },
   { addr := rGnsTime, bytes := 4, mask := 0xFF0FFFFF, reset := 10 * 2 ^ 26 + 2 ^ 25 + 100 * 256 + 10, role := 2 },
   { addr := rGnsHold, bytes := 4, mask := 2 ^ 32 - 1, reset := 100 * 2 ^ 16 + 20 * 256 + 5, role := 2 },
   { addr := rGnsTp, bytes := 4, mask := 0x03FFFFF3, reset := 100000 * 16, role := 2 },
   { addr := rGnsSvIdx, bytes := 4, mask := 0x3F, reset := 0, role := 0 },
   { addr := rGnsCapIdx, bytes := 4, mask := 0x3FFFF, reset := 0, role := 0 },
   { addr := rPsgCfg, bytes := 4, mask := 1, reset := 0, role := 2 },
   { addr := rPfoVerIdx, bytes := 4, mask := 0xF, reset := 1, role := 0 },
   { addr := rPwrCmp, bytes := 4, mask := 0xE1FF01FF, reset := 3 * 2 ^ 30 + 460 * 2 ^ 16 + 420, role := 2 },
   { addr := rPwrWdt, bytes := 4, mask := 0xFFFF, reset := 100, role := 2 },
   { addr := rPwrAlarm, bytes := 8, mask := 2 ^ 64 - 1, reset := 0, role := 2 },
   { addr := rCnvGrantAddr, bytes := 8, mask := 2 ^ 64 - 32, reset := 0, role := 0 },
   { addr := rCnvRobotIdx, bytes := 4, mask := 0xFF, reset := 0, role := 0 },
   { addr := rStkChIdx, bytes := 4, mask := 0x1FF, reset := 0, role := 0 },
   { addr := rGdlLoopIdx, bytes := 4, mask := 0x1FF, reset := 0, role := 0 },
   { addr := rGdlGlazeIdx, bytes := 4, mask := 0x3FFF, reset := 0, role := 0 },
   { addr := rPsgChIdx, bytes := 4, mask := 7, reset := 0, role := 0 }] ++
  notchDefs ++ ethDefs 0 ++ ethDefs 1

def regDef (a : Nat) : Option RegDef := regDefs.find? (·.addr == a)

/-- The reset value of a stored register. -/
def regReset (a : Nat) : Nat :=
  match regDef a with
  | some d => d.reset
  | none => 0

/-- The RW bits of a stored register. -/
def State.reg (s : State) (a : Nat) : Nat := tblGet regReset s.regs a

/-- A field of a stored register. -/
def State.rf (s : State) (a lsb w : Nat) : Nat := bitsOf (s.reg a) lsb w

def State.rbit (s : State) (a lsb : Nat) : Bool := s.rf a lsb 1 == 1

def State.setReg (s : State) (a v : Nat) : State := { s with regs := tblPut regReset s.regs a v }

end Sys2Proof.Machine
end

