-- ==== Sys2Proof/Machine/Ops.lean ====
section
/-! DEFINITION. Operations every family shares: time, free values, sessions, the Palette's
admission test, arrivals at the dispatcher, and the making of event records. -/

namespace Sys2Proof.Machine

/-- The outcome type of a meaning. -/
abbrev Res := Host.Outcome State Fault Refusal

/-! ## Outputs and free values -/

/-- Something leaves the device. -/
def State.put (s : State) (o : Out) : State := s.modEv fun e => { e with out := o :: e.out }

/-- Draw a fresh free value (log entry 4). -/
def State.draw (s : State) : Nat × State := (Config.freeNat s.draws, { s with draws := s.draws + 1 })

/-! ## Time -/

def ms : Nat := 1000000
def us : Nat := 1000
def second : Nat := 1000000000

/-- Corrected time of a raw value under the correction in force (R350). -/
def Tmb.correctedAt (t : Tmb) (r : Nat) : Int :=
  r + t.offset + sar (t.rate * ((r : Int) - t.rateBase)) 40

/-- Corrected device time in ns, modulo 2^64 (R350). -/
def State.time (s : State) : Nat := codeOf 64 (s.tmb.correctedAt s.tmb.raw)

/-- A commit at the present raw value (R351). -/
def Tmb.commit (t : Tmb) (step : Nat) (rate : Int) : Tmb :=
  { t with
    offset := t.offset + sar (t.rate * ((t.raw : Int) - t.rateBase)) 40 + step
    rateBase := t.raw
    rate := max (-(2 ^ 28)) (min rate (2 ^ 28)) }

/-- A stamp's low 32 bits extended against a reference time (R354). -/
def extendStamp (s T : Nat) : Int :=
  let d : Nat := (s + 2 ^ 32 - T % 2 ^ 32) % 2 ^ 32
  if d < 2 ^ 31 then (T : Int) + d else (T : Int) + d - 2 ^ 32

/-- `now` has reached `since` plus `d`. -/
def State.past (s : State) (since d : Nat) : Bool := decide (since + d ≤ s.now)

/-! ## Power states and register access (R506, R514, R515) -/

/-- The device has booted and is neither in SLEEP nor in DEEP. -/
def State.awake (s : State) : Bool := s.pwr.state == .run || s.pwr.state == .quiet

/-- A register write outside GCTL, TMB and PWR: in SLEEP, and until BOOTED, it is ignored. -/
def State.bar (s : State) (f : State → State) : State := if s.awake then f s else s

/-- A read outside those blocks: it then returns 0. -/
def State.barRead (s : State) (f : State → Nat × State) : Res :=
  if s.awake then
    let (v, s) := f s
    .next (s.put (.busRead v))
  else .next (s.put (.busRead 0))

/-- The direct port answers from BOOTED on. -/
def State.dpUp (s : State) : Bool := s.pwr.booted && s.pwr.state != .deep

def State.dpRead (s : State) (f : State → Nat × State) : Res :=
  if s.dpUp then
    let (v, s) := f s
    .next (s.put (.busRead v))
  else .next (s.put (.busRead 0))

/-! ## Sessions (R465, R466, R471) -/

/-- Role in force on a channel: an idle session is over once its time has run out. -/
def State.roleOf (s : State) (c : Channel) : Nat :=
  if s.now < c.lastUse + s.sec.idle * second then c.role else 0

def State.pcieRole (s : State) : Nat := s.roleOf s.sec.pcie
def State.svcRole (s : State) : Nat := s.roleOf s.sec.svc

/-- A write that needs the PCIe session restarts its idle time (R471). -/
def State.touch (s : State) : State :=
  s.modSec fun c => { c with pcie := { c.pcie with lastUse := s.now } }

/-! ## Palette: admission and puts (R374 to R376) -/

def Packet.cells (p : Packet) : Nat := cellsFor p.bytes.length

/-- Cells a queue uses. -/
def PQueue.used (q : PQueue) : Nat := (q.packets.map Packet.cells).sum

/-- Cells in use over all queues, packets still being put included. -/
def Palette.inUse (p : Palette) : Nat :=
  (p.queues.toList.map PQueue.used).sum + (p.parts.map (·.cells)).sum

/-- Cells not in use. -/
def Palette.free (p : Palette) : Nat := 32768 - p.inUse

/-- Reserves of the queues other than `q` that are not used (R375). -/
def Palette.otherReserves (p : Palette) (q : Nat) : Nat :=
  ((List.range 64).map fun i =>
    if i = q then 0 else (p.queues.toList.getD i PQueue.empty).reserve
      - (p.queues.toList.getD i PQueue.empty).used).sum

/-- Queue `q`; a number above 63 names an empty one. -/
def Palette.q (p : Palette) (q : Nat) : PQueue := p.queues.toList.getD q PQueue.empty

def Palette.modQ (p : Palette) (q : Nat) (f : PQueue → PQueue) : Palette :=
  if h : q < 64 then { p with queues := p.queues.set q (f p.queues[q]) } else p

/-- Packets of queue `q`, the grant payloads in it among them (R374, R378). -/
def Palette.count (p : Palette) (q : Nat) : Nat :=
  (p.q q).packets.length + (p.grants.filter (·.queue == q)).length

/-- A put of `c` cells onto `q` is admitted (R375). -/
def Palette.admits (p : Palette) (q c : Nat) : Bool :=
  decide ((p.q q).used + c ≤ (p.q q).limit) &&
  decide (c + p.otherReserves q ≤ p.free)

/-- Store a packet that has been admitted. -/
def Palette.store (p : Palette) (q : Nat) (k : Packet) : Palette :=
  p.modQ q fun x => { x with packets := x.packets ++ [k] }

/-- Put a packet whole, or refuse and count it (R375). -/
def Palette.tryPut (p : Palette) (q : Nat) (k : Packet) : Bool × Palette :=
  if p.admits q k.cells then (true, p.store q k)
  else (false, p.modQ q fun x => { x with full := satAdd 8 x.full 1 })

/-- A put by the hardware: while the free list is rebuilt it waits (R380). The flag is false where
it is refused. -/
def Palette.offer (p : Palette) (q : Nat) (k : Packet) : Bool × Palette :=
  if p.rebuilds ≠ [] then (true, { p with waiting := p.waiting ++ [{ queue := q, packet := k }] })
  else p.tryPut q k

/-- Index in put order of the head: the first packet of the highest non-empty level (R376). -/
def headIndexFrom (ps : List Packet) : Nat → Option Nat
  | 0 => ps.findIdx? (·.level == 0)
  | l + 1 => match ps.findIdx? (·.level == l + 1) with
    | some i => some i
    | none => headIndexFrom ps l

def PQueue.headIndex (q : PQueue) : Option Nat := headIndexFrom q.packets 7

def PQueue.head (q : PQueue) : Option Packet := q.headIndex.bind fun i => q.packets[i]?

def PQueue.dropHead (q : PQueue) : PQueue :=
  match q.headIndex with
  | some i => { q with packets := q.packets.eraseIdx i }
  | none => q

/-! ## Arrivals (R134, R148) -/

/-- Bytes of the first section of a type with given flags. -/
def Cartoon.sec (c : Cartoon) (type flags : Nat) : Option Section :=
  c.sections.find? fun x => x.type == type && x.flags == flags

def Cartoon.secBytes (c : Cartoon) (type : Nat) : List Byte :=
  match c.sec type 0 with
  | some x => x.bytes
  | none => []

/-- A routing entry (Table 5-7). -/
structure Route where
  kind : Nat
  slot : Nat
  selector : Nat
  task : Nat
deriving DecidableEq, Repr

def routeAt (b : List Byte) (i : Nat) : Route :=
  { kind := leAt b (8 * i) 1, slot := leAt b (8 * i + 1) 1, selector := leAt b (8 * i + 2) 2,
    task := leAt b (8 * i + 4) 2 }

def Cartoon.routes (c : Cartoon) : List Route :=
  let b := c.secBytes 0x04
  (List.range (b.length / 8)).map (routeAt b)

/-- The entry an arrival takes: its selector's, else the kind's entry for any selector (R134). -/
def Cartoon.route (c : Cartoon) (kind sel : Nat) : Option Route :=
  match c.routes.find? (fun r => r.kind == kind && r.selector == sel) with
  | some r => some r
  | none => c.routes.find? (fun r => r.kind == kind && r.selector == 0xFFFF)

/-- Depth of each arrival queue, kinds 1 to 6 (Table 5-11). -/
def arrivalDepth (kind : Nat) : Nat := if kind = 1 then 256 else 64

def Dsp.arrivalQ (d : Dsp) (kind : Nat) : ArrivalQ := d.arrivals.toList.getD (kind - 1) ArrivalQ.empty

def Dsp.modArrivalQ (d : Dsp) (kind : Nat) (f : ArrivalQ → ArrivalQ) : Dsp :=
  if h : kind - 1 < 6 then
    { d with arrivals := d.arrivals.set (kind - 1) (f d.arrivals[kind - 1]) }
  else d

def Dsp.unrouted (d : Dsp) : Dsp := { d with dropUnrouted := satAdd 8 d.dropUnrouted 1 }

/-- An arrival queue has room for one more. -/
def Dsp.arrivalRoom (d : Dsp) (kind : Nat) : Bool :=
  decide ((d.arrivalQ kind).items.length < arrivalDepth kind)

/-- An arrival of a kind with its selector and word (R134, R148): it is queued, or discarded and
counted as Table 5-11 says. The flag tells whether it was taken. -/
def Dsp.arrive (d : Dsp) (kind sel : Nat) (word : Word) : Bool × Dsp :=
  match d.running, d.mode with
  | none, _ => (true, d.unrouted)
  | _, .empty => (true, d.unrouted)
  | some c, _ =>
    match c.route kind sel with
    | none => (true, d.unrouted)
    | some _ =>
      if d.arrivalRoom kind then
        (true, d.modArrivalQ kind fun q => { q with items := q.items ++ [(sel, word)] })
      else
        let d := d.modArrivalQ kind fun q => { q with refused := q.refused + 1 }
        match kind with
        | 3 | 4 | 5 => (true, d.modArrivalQ kind fun q => { q with owed := q.owed ++ [(sel, word)] })
        | 1 => (false, { d with dropRadio := satAdd 16 d.dropRadio 1 })
        | 2 => (false, { d with dropSubg := satAdd 8 d.dropSubg 1 })
        | 6 => (false, d.unrouted)
        | _ => (false, d)

/-! ## Event records (R472 to R480, R391, R394) -/

/-- The bytes of a record with byte 3's flags bits [0] and [2] as given (Table 15-3). -/
def Record.bytes (r : Record) (flags : Nat) : List Byte :=
  toLE 2 r.code ++ toLE 1 r.severity ++ toLE 1 (flags + 2 * bit r.linkPlane + 16 * r.unit) ++ toLE 4 r.seq ++
  toLE 8 r.time ++ toLE 4 r.p0.toNat ++ toLE 4 r.p1.toNat ++ toLE 4 r.p2.toNat ++ toLE 4 r.p3.toNat

/-- The next sequence number of a plane, and the counter raised (R473). -/
def Ev.takeSeq (e : Ev) (link : Bool) : Nat × Ev :=
  if link then (e.linkSeq, { e with linkSeq := (e.linkSeq + 1) % 2 ^ 32 })
  else (e.detSeq, { e with detSeq := (e.detSeq + 1) % 2 ^ 32 })

/-- EVQn admits a record (R391). -/
def Evq.admits (q : Evq) (r : Record) : Bool :=
  q.en && bitsOf q.classMask (r.code / 0x1000) 1 == 1 && decide (q.minSev ≤ r.severity)

/-- Event queue `n`. -/
def HostIf.q (h : HostIf) (n : Nat) : Evq := h.evq.toList.getD n Evq.reset

def HostIf.modEvq (h : HostIf) (n : Nat) (f : Evq → Evq) : HostIf :=
  if hn : n < 8 then { h with evq := h.evq.set n (f h.evq[n]) } else h

/-- Room for one more record on a staging queue (R375, R394). -/
def State.stageRoom (s : State) (q : Nat) : Bool := s.palette.rebuilds ≠ [] || s.palette.admits q 1

/-- A record lost to EVQn (R394). -/
def Evq.lose (q : Evq) (seq : Nat) : Evq :=
  { q with lost := satAdd 16 q.lost 1
           lostPending := q.lostPending + 1
           lostFirst := if q.lostPending = 0 then seq else q.lostFirst }

/-- Stage a record on Q24 + n, or count it lost (R394). -/
def State.stageEvq (s : State) (n : Nat) (r : Record) : State :=
  let (ok, p) := s.palette.offer (24 + n) { level := 0, bytes := r.bytes 0 }
  let s := s.modPalette fun _ => p
  if ok then s else s.modHost fun h => h.modEvq n fun q => q.lose r.seq

/-- The log takes no more records: it is full and no clear is in progress (R479, R481). -/
def Pnt.closed (p : Pnt) : Bool := p.full && !p.clearing

/-- Buffer a record for the Pentimento: through Q50 into the buffer of 4,096 (R477, R480). -/
def State.stagePnt (s : State) (r : Record) : State :=
  if s.pnt.closed then s.modPnt fun p => { p with dropped := satAdd 16 p.dropped 1 }
  else if s.stageRoom 50 && decide (s.pnt.buffer.length < 4096) then
    s.modPnt fun p => { p with buffer := p.buffer ++ [r] }
  else s.modPnt fun p =>
    { p with gap := satAdd 16 p.gap 1, gapPending := p.gapPending + 1,
             gapFirst := if p.gapPending = 0 then r.seq else p.gapFirst }

/-- A record enters the Pentimento (R477). -/
def Pnt.admits (p : Pnt) (r : Record) : Bool :=
  decide (p.minSev ≤ r.severity) && bitsOf p.classMask (r.code / 0x1000) 1 == 1

/-- Source unit of a record: 0 unpaired, 1 seat A, 2 seat B (Table 15-3). -/
def State.unit (s : State) : Nat := if s.rbit rTwnCfg 0 then 1 + bit s.twin.seatB else 0

/-! ## Output digest (R425) -/

/-- One bit of CRC-64/ECMA-182. -/
def crc64Bit (c : Nat) : Nat :=
  if c / 2 ^ 63 % 2 = 1 then (c * 2 % 2 ^ 64) ^^^ 0x42F0E1EBA9EA3693 else c * 2 % 2 ^ 64

def crc64Byte (c : Nat) (b : Byte) : Nat := (List.range 8).foldl (fun c _ => crc64Bit c) (c ^^^ (b.toNat * 2 ^ 56))

def crc64 (l : List Byte) : Nat := l.foldl crc64Byte 0

/-- CRC-32 of Ethernet, used of packets (R377). -/
def crc32 (l : List Byte) : Nat :=
  (l.foldl (fun c b => (List.range 8).foldl
      (fun c _ => if c % 2 = 1 then (c / 2) ^^^ 0xEDB88320 else c / 2) (c ^^^ b.toNat)) 0xFFFFFFFF)
    ^^^ 0xFFFFFFFF

/-- Add an item of a kind and key with bytes 8 to 31 to a digest. -/
def Digest.add (d : Digest) (kind key : Nat) (body : List Byte) : Digest :=
  let i := kind * 65536 + key
  let n := tblGet (fun _ => 0) d.ordinals i
  let item := toLE 1 kind ++ [0#8] ++ toLE 2 key ++ toLE 4 n ++ bytesAt body 0 24
  { d with sum := (d.sum + crc64 item) % 2 ^ 64, ordinals := tblPut (fun _ => 0) d.ordinals i (n + 1) }

/-- An item counts for the epoch of the task that makes it, where that epoch has ended, and else for the
epoch in progress. -/
def Ev.item (e : Ev) (kind key : Nat) (body : List Byte) : Ev :=
  if e.past.any fun d => some d.epoch == e.forEpoch then
    { e with past := e.past.map fun d => if some d.epoch = e.forEpoch then d.add kind key body else d }
  else { e with digest := e.digest.add kind key body }

/-- What `f` makes belongs to the work of epoch `n`. -/
def State.inEpoch (s : State) (n : Nat) (f : State → State) : State :=
  (f (s.modEv fun e => { e with forEpoch := some n })).modEv fun e => { e with forEpoch := none }

def State.item (s : State) (kind key : Nat) (body : List Byte) : State :=
  s.modEv fun e => e.item kind key body

/-- The unit follows an active partner: it is STANDBY_SYNCING or STANDBY_INSTEP. -/
def State.standby (s : State) : Bool :=
  s.twin.state == .standbySyncing || s.twin.state == .standbyInstep

/-- The unit serves the fleet: SOLO or ACTIVE (Table 13-2). A request of the host grant port is carried
out only then (check 1 of Table 6-9). -/
def State.serving (s : State) : Bool := s.twin.state == .solo || s.twin.state == .active

/-! ## Input log (R419) -/

/-- The epoch whose log takes an input now: an input after the deadline belongs to the next
(R420). -/
def State.logEpoch (s : State) : Nat :=
  if s.twin.closedUpTo = some s.epoch.n then s.epoch.n + 1 else s.epoch.n

/-- The active sends an input to its partner as it takes it. -/
def State.logInput (s : State) (x : LogEntry) : State :=
  if s.twin.state = .active then s.put (.twin (.log s.logEpoch x)) else s

/-- An input that belongs to epoch `e`. -/
def State.logAt (s : State) (e : Nat) (x : LogEntry) : State :=
  if s.twin.state = .active then s.put (.twin (.log e x)) else s

/-! ## Making a record -/

/-- Number a record and give it to the output trace and to the event logic's users: `lost` names
the event queue that takes it whatever its filter (R394). -/
def State.makeRecord (s : State) (code sev : Nat) (link : Bool) (time : Nat) (p0 p1 p2 p3 : Nat) :
    Record × State :=
  let (n, e) := s.ev.takeSeq link
  let r : Record :=
    { code := code, severity := sev, linkPlane := link, unit := s.unit, seq := n, time := time,
      p0 := BitVec.ofNat 32 p0, p1 := BitVec.ofNat 32 p1, p2 := BitVec.ofNat 32 p2,
      p3 := BitVec.ofNat 32 p3 }
  let e := if link then e else e.item 8 code (toLE 1 sev ++ toLE 4 p0 ++ toLE 4 p1 ++ toLE 4 p2 ++ toLE 4 p3)
  (r, { s with ev := { e with out := .record r :: e.out } })

/-- Time of a record (R474). -/
def State.recTime (s : State) (link : Bool) : Nat := if link then s.time else s.epoch.nominal

/-- The arrival of kind 6 that every record gives (R148). -/
def State.arriveRec (s : State) (r : Record) : State :=
  s.modDsp fun d => (d.arrive 6 r.code (BitVec.ofNat 32 r.seq)).2

/-- Stage a record on every event queue that admits it, and on queue `also` whatever its filter. -/
def State.stageAll (s : State) (r : Record) (also : Nat) : State :=
  (List.range 8).foldl
    (fun s n => if (s.host.q n).admits r || n == also then s.stageEvq n r else s) s

/-- Give a record to the event queues and, as an arrival of kind 6, to the dispatcher. -/
def State.deliverOut (s : State) (r : Record) (also : Nat := 8) : State :=
  (s.stageAll r also).arriveRec r

/-- Give a record to the event queues, the dispatcher and the Pentimento. -/
def State.deliver (s : State) (r : Record) (also : Nat := 8) : State :=
  let s := s.deliverOut r also
  if s.pnt.admits r then s.stagePnt r else s

/-- EVQ_RECORDS_LOST before the next record of EVQn, once one can be staged; it goes to EVQn
whatever the filter says (R394). -/
def State.evqLost (s : State) (n : Nat) : State :=
  let q := s.host.q n
  if q.lostPending ≠ 0 && s.stageRoom (24 + n) then
    let (r, s) := s.makeRecord evEvqRecordsLost.code evEvqRecordsLost.severity true s.time n
      q.lostPending q.lostFirst 0
    (s.modHost fun h => h.modEvq n fun q => { q with lostPending := 0 }).deliver r n
  else s

/-- PENTIMENTO_GAP before the next record is staged (R480). -/
def State.pntGap (s : State) : State :=
  if s.pnt.gapPending ≠ 0 && !s.pnt.closed && s.stageRoom 50
      && decide (s.pnt.buffer.length + 1 < 4096) then
    let (r, s) := s.makeRecord evPentimentoGap.code evPentimentoGap.severity true s.time
      s.pnt.gapPending s.pnt.gapFirst 0 0
    let s := s.modPnt fun p => { p with gapPending := 0 }
    (s.stagePnt r).deliverOut r
  else s

/-- Losses that are reported before a record of this code and severity is staged. -/
def State.beforeRecord (s : State) (code sev : Nat) : State :=
  let p : Record := { code := code, severity := sev, linkPlane := true, unit := 0, seq := 0,
                      time := 0, p0 := 0, p1 := 0, p2 := 0, p3 := 0 }
  let s := (List.range 8).foldl (fun s n => if (s.host.q n).admits p then s.evqLost n else s) s
  if s.pnt.admits p then s.pntGap else s

/-- Make a record that no bucket limits. -/
def State.recordNow (s : State) (code sev : Nat) (link : Bool) (time : Nat)
    (p0 p1 p2 p3 : Nat) : State :=
  let (r, s) := (s.beforeRecord code sev).makeRecord code sev link time p0 p1 p2 p3
  s.deliver r

def bucketDefault : Nat → Bucket := fun _ => {}

def Ev.bucket (e : Ev) (code : Nat) : Bucket := tblGet bucketDefault e.buckets code

def Ev.setBucket (e : Ev) (code : Nat) (b : Bucket) : Ev :=
  { e with buckets := tblPut bucketDefault e.buckets code b }

/-- Tokens due to a bucket at time `t`: one for each multiple of the period after `upTo` and at
or before `t` (R476). -/
def Bucket.due (b : Bucket) (t : Nat) : Nat := t / (b.period * ms) - b.upTo / (b.period * ms)

/-- Refill of the bucket of a code at its plane's time, with EVENTS_SUPPRESSED at the first refill
after a suppression (R476). -/
def State.refill (s : State) (code : Nat) (link : Bool) : State :=
  let t := s.recTime link
  let b := s.ev.bucket code
  if b.due t = 0 then s
  else
    let b' := { b with tokens := min b.burst (b.tokens + b.due t), upTo := t, suppressed := 0 }
    let s := s.modEv fun e => e.setBucket code b'
    if b.suppressed = 0 then s
    else s.recordNow evEventsSuppressed.code evEventsSuppressed.severity link t code b.suppressed
      b.firstTime b.lastTime

/-- An occurrence of a code that has a bucket: it takes a token and becomes a record, or is
suppressed and counted where the bucket is empty (R475). The flag tells whether it became a
record. -/
def State.emitLimited (s : State) (code sev : Nat) (link : Bool) (time : Nat)
    (p0 p1 p2 p3 : Nat) : Bool × State :=
  let s := s.refill code link
  let b := s.ev.bucket code
  if b.tokens = 0 then
    (false, s.modEv fun e => e.setBucket code
      { b with suppressed := b.suppressed + 1
               shown := satAdd 32 b.shown 1
               firstTime := if b.suppressed = 0 then time else b.firstTime
               lastTime := time })
  else
    let s := s.modEv fun e => e.setBucket code
      { b with tokens := b.tokens - 1, upTo := s.recTime link }
    (true, s.recordNow code sev link time p0 p1 p2 p3)

/-- An occurrence of a code (R475). -/
def State.emitAt (s : State) (code sev : Nat) (link : Bool) (time : Nat) (p0 p1 p2 p3 : Nat) :
    Bool × State :=
  if hasBucket code then s.emitLimited code sev link time p0 p1 p2 p3
  else (true, s.recordNow code sev link time p0 p1 p2 p3)

/-- An event of the event tables happens. -/
def State.emit (s : State) (e : EvDef) (p0 p1 p2 p3 : Nat := 0) : State :=
  (s.emitAt e.code e.severity e.linkPlane (s.recTime e.linkPlane) p0 p1 p2 p3).2

/-- A signed parameter as its 32-bit code. -/
def par (i : Int) : Nat := codeOf 32 i

/-! ## Flash writes -/

/-- A change to DEEP has been accepted and has not taken effect (R507). -/
def Pwr.toDeep (p : Pwr) : Bool :=
  match p.pending with
  | some (.deep, _) => true
  | _ => false

/-- No flash write begins in a supply dip, or once DEEP is to be entered (R507, R509). -/
def Pwr.flashHeld (p : Pwr) : Bool := p.dip || p.toDeep

/-- A flash write takes its turn; it begins at once where none is under way and none is held back
(R541). -/
def State.flashWrite (s : State) (w : FlashWrite) : State :=
  s.modPwr fun p =>
    { p with flash := p.flash ++ [w], flashBegun := p.flashBegun || !p.flashHeld
             deferred := if p.dip then p.deferred + 1 else p.deferred }

/-! ## Phase-bound outputs, Easels and results -/

/-- An output not staged at its phase: 0 trim, 1 drive, 2 time-pulse value (R46). -/
def State.lateOutput (s : State) (kind index : Nat) : State :=
  ((s.modTfc fun t => { t with lateOut := satAdd 32 t.lateOut 1 }).modEpoch fun e =>
    { e with outLate := true }).emit evLateOutput kind index

/-- Key of R146 of a request's issuing task: URGENT first, then higher level, earlier release epoch
and lower task index. -/
def FabReq.key (r : FabReq) : List Nat := [bit !r.urgent, 255 - r.level, r.epoch, r.issuer]

def keyLe : List Nat → List Nat → Bool
  | [], _ => true
  | _, [] => false
  | a :: s, b :: t => decide (a < b) || (a == b && keyLe s t)

def insertReq (x : FabReq) : List FabReq → List FabReq
  | [] => [x]
  | y :: t => if keyLe x.key y.key then x :: y :: t else y :: insertReq x t

/-- Requests in the dispatch order of their issuing tasks, in issue order within a task (R177). -/
def sortReqs (l : List FabReq) : List FabReq := l.foldr insertReq []

/-- A batch may run: a partner in step has acknowledged the log of the epoch before (R420). -/
def State.batchReady (s : State) : Bool :=
  s.twin.state != .active || s.twin.peer != 3 ||
  match s.twin.lastAck with
  | some e => decide (s.epoch.n ≤ e + 1)
  | none => false

/-- A result word goes on its way to the matching store (R88). -/
def State.pushResult (s : State) (stage task slot : Nat) (w : Word) : State :=
  s.modDsp fun d =>
    { d with results := d.results ++ [{ stage := stage, task := task, slot := slot, word := w }] }


/-- Update Easel `k`. -/
def State.setEasel (s : State) (k : Fin 8) (e : Easel) : State :=
  { s with easels := s.easels.set k e }

def State.modEasel (s : State) (k : Fin 8) (f : Easel → Easel) : State :=
  s.setEasel k (f s.easels[k])

end Sys2Proof.Machine
end

