-- ==== Sys2Proof/Machine/Crypto.lean ====
section
/-! DEFINITION. The published algorithms the spec names: SHA-256 and HMAC (R469), SHA-384
(R136, R163, R488), AES-128 CCM (R250), AES-256 GCM and ECDSA P-384 (R136, R486). Each follows
its standard; the device's own rules fix only the inputs. -/

namespace Sys2Proof.Machine

/-! ## SHA-2 -/

/-- Round constants of SHA-256 (FIPS 180-4). -/
def sha256K : List (BitVec 32) :=
  [0x428A2F98, 0x71374491, 0xB5C0FBCF, 0xE9B5DBA5, 0x3956C25B, 0x59F111F1,
   0x923F82A4, 0xAB1C5ED5, 0xD807AA98, 0x12835B01, 0x243185BE, 0x550C7DC3,
   0x72BE5D74, 0x80DEB1FE, 0x9BDC06A7, 0xC19BF174, 0xE49B69C1, 0xEFBE4786,
   0x0FC19DC6, 0x240CA1CC, 0x2DE92C6F, 0x4A7484AA, 0x5CB0A9DC, 0x76F988DA,
   0x983E5152, 0xA831C66D, 0xB00327C8, 0xBF597FC7, 0xC6E00BF3, 0xD5A79147,
   0x06CA6351, 0x14292967, 0x27B70A85, 0x2E1B2138, 0x4D2C6DFC, 0x53380D13,
   0x650A7354, 0x766A0ABB, 0x81C2C92E, 0x92722C85, 0xA2BFE8A1, 0xA81A664B,
   0xC24B8B70, 0xC76C51A3, 0xD192E819, 0xD6990624, 0xF40E3585, 0x106AA070,
   0x19A4C116, 0x1E376C08, 0x2748774C, 0x34B0BCB5, 0x391C0CB3, 0x4ED8AA4A,
   0x5B9CCA4F, 0x682E6FF3, 0x748F82EE, 0x78A5636F, 0x84C87814, 0x8CC70208,
   0x90BEFFFA, 0xA4506CEB, 0xBEF9A3F7, 0xC67178F2]

/-- Initial value of SHA-256. -/
def sha256H : List (BitVec 32) :=
  [0x6A09E667, 0xBB67AE85, 0x3C6EF372, 0xA54FF53A, 0x510E527F, 0x9B05688C,
   0x1F83D9AB, 0x5BE0CD19]

/-- Round constants of SHA-384, rounds 0 to 39. -/
def sha512Ka : List (BitVec 64) :=
  [0x428A2F98D728AE22, 0x7137449123EF65CD, 0xB5C0FBCFEC4D3B2F, 0xE9B5DBA58189DBBC,
   0x3956C25BF348B538, 0x59F111F1B605D019, 0x923F82A4AF194F9B, 0xAB1C5ED5DA6D8118,
   0xD807AA98A3030242, 0x12835B0145706FBE, 0x243185BE4EE4B28C, 0x550C7DC3D5FFB4E2,
   0x72BE5D74F27B896F, 0x80DEB1FE3B1696B1, 0x9BDC06A725C71235, 0xC19BF174CF692694,
   0xE49B69C19EF14AD2, 0xEFBE4786384F25E3, 0x0FC19DC68B8CD5B5, 0x240CA1CC77AC9C65,
   0x2DE92C6F592B0275, 0x4A7484AA6EA6E483, 0x5CB0A9DCBD41FBD4, 0x76F988DA831153B5,
   0x983E5152EE66DFAB, 0xA831C66D2DB43210, 0xB00327C898FB213F, 0xBF597FC7BEEF0EE4,
   0xC6E00BF33DA88FC2, 0xD5A79147930AA725, 0x06CA6351E003826F, 0x142929670A0E6E70,
   0x27B70A8546D22FFC, 0x2E1B21385C26C926, 0x4D2C6DFC5AC42AED, 0x53380D139D95B3DF,
   0x650A73548BAF63DE, 0x766A0ABB3C77B2A8, 0x81C2C92E47EDAEE6, 0x92722C851482353B]

/-- Round constants of SHA-384, rounds 40 to 79. -/
def sha512Kb : List (BitVec 64) :=
  [0xA2BFE8A14CF10364, 0xA81A664BBC423001, 0xC24B8B70D0F89791, 0xC76C51A30654BE30,
   0xD192E819D6EF5218, 0xD69906245565A910, 0xF40E35855771202A, 0x106AA07032BBD1B8,
   0x19A4C116B8D2D0C8, 0x1E376C085141AB53, 0x2748774CDF8EEB99, 0x34B0BCB5E19B48A8,
   0x391C0CB3C5C95A63, 0x4ED8AA4AE3418ACB, 0x5B9CCA4F7763E373, 0x682E6FF3D6B2B8A3,
   0x748F82EE5DEFB2FC, 0x78A5636F43172F60, 0x84C87814A1F0AB72, 0x8CC702081A6439EC,
   0x90BEFFFA23631E28, 0xA4506CEBDE82BDE9, 0xBEF9A3F7B2C67915, 0xC67178F2E372532B,
   0xCA273ECEEA26619C, 0xD186B8C721C0C207, 0xEADA7DD6CDE0EB1E, 0xF57D4F7FEE6ED178,
   0x06F067AA72176FBA, 0x0A637DC5A2C898A6, 0x113F9804BEF90DAE, 0x1B710B35131C471B,
   0x28DB77F523047D84, 0x32CAAB7B40C72493, 0x3C9EBE0A15C9BEBC, 0x431D67C49C100D4C,
   0x4CC5D4BECB3E42B6, 0x597F299CFC657E2A, 0x5FCB6FAB3AD6FAEC, 0x6C44198C4A475817]

/-- Initial value of SHA-384. -/
def sha384H : List (BitVec 64) :=
  [0xCBBB9D5DC1059ED8, 0x629A292A367CD507, 0x9159015A3070DD17, 0x152FECD8F70E5939,
   0x67332667FFC00B31, 0x8EB44A8768581511, 0xDB0C2E0D64F98FA7, 0x47B5481DBEFA4FA4]

/-- The sizes and rotations in which SHA-256 and SHA-384 differ. -/
structure ShaParams (w : Nat) where
  /-- Message schedule: rotations and shift of σ0 and σ1. -/
  s0 : Nat × Nat × Nat
  s1 : Nat × Nat × Nat
  /-- Rotations of Σ0 and Σ1. -/
  S0 : Nat × Nat × Nat
  S1 : Nat × Nat × Nat
  k : List (BitVec w)

def sha256P : ShaParams 32 :=
  { s0 := (7, 18, 3), s1 := (17, 19, 10), S0 := (2, 13, 22), S1 := (6, 11, 25), k := sha256K }

def sha384P : ShaParams 64 :=
  { s0 := (1, 8, 7), s1 := (19, 61, 6), S0 := (28, 34, 39), S1 := (14, 18, 41),
    k := sha512Ka ++ sha512Kb }

def shaRot {w : Nat} (r : Nat × Nat × Nat) (x : BitVec w) : BitVec w :=
  x.rotateRight r.1 ^^^ x.rotateRight r.2.1 ^^^ x.rotateRight r.2.2

def shaMix {w : Nat} (r : Nat × Nat × Nat) (x : BitVec w) : BitVec w :=
  x.rotateRight r.1 ^^^ x.rotateRight r.2.1 ^^^ (x >>> r.2.2)

/-- The message schedule, newest word first. -/
def shaExtend {w : Nat} (p : ShaParams w) : Nat → List (BitVec w) → List (BitVec w)
  | 0, ws => ws
  | n + 1, ws =>
    shaExtend p n ((shaMix p.s1 (ws.getD 1 0) + ws.getD 6 0 + shaMix p.s0 (ws.getD 14 0)
      + ws.getD 15 0) :: ws)

/-- One round on the working variables a to h. -/
def shaRound {w : Nat} (p : ShaParams w) (v : List (BitVec w)) (kw : BitVec w × BitVec w) :
    List (BitVec w) :=
  match v with
  | [a, b, c, d, e, f, g, h] =>
    let t1 := h + shaRot p.S1 e + ((e &&& f) ^^^ (~~~e &&& g)) + kw.1 + kw.2
    let t2 := shaRot p.S0 a + ((a &&& b) ^^^ (a &&& c) ^^^ (b &&& c))
    [t1 + t2, a, b, c, d + t1, e, f, g]
  | _ => v

/-- One block of sixteen words. -/
def shaBlock {w : Nat} (p : ShaParams w) (h : List (BitVec w)) (m : List (BitVec w)) :
    List (BitVec w) :=
  let ws := (shaExtend p (p.k.length - 16) m.reverse).reverse
  List.zipWith (· + ·) h ((p.k.zip ws).foldl (shaRound p) h)

/-- Big-endian words of a message. -/
def shaWords (w : Nat) : Nat → List Byte → List (BitVec w)
  | 0, _ => []
  | n + 1, bs => BitVec.ofNat w (ofBE (bs.take (w / 8))) :: shaWords w n (bs.drop (w / 8))

/-- The message, 0x80, zeros to the block size less the length field, and the bit length. -/
def shaPad (block lenBytes : Nat) (m : List Byte) : List Byte :=
  let z := (2 * block - 1 - lenBytes - m.length % block) % block
  m ++ [0x80#8] ++ List.replicate z 0 ++ toBE lenBytes (8 * m.length)

def shaRun {w : Nat} (p : ShaParams w) : Nat → List Byte → List (BitVec w) → List (BitVec w)
  | 0, _, h => h
  | n + 1, bs, h => shaRun p n (bs.drop (2 * w)) (shaBlock p h (shaWords w 16 bs))

/-- SHA-256 of a message. -/
def sha256 (m : List Byte) : List Byte :=
  let b := shaPad 64 8 m
  (shaRun sha256P (b.length / 64) b sha256H).flatMap fun x => toBE 4 x.toNat

/-- SHA-384 of a message. -/
def sha384 (m : List Byte) : List Byte :=
  let b := shaPad 128 16 m
  ((shaRun sha384P (b.length / 128) b sha384H).flatMap fun x => toBE 8 x.toNat).take 48

/-- HMAC-SHA-256 with a key of at most 64 bytes (R469). -/
def hmacSha256 (key m : List Byte) : List Byte :=
  let k := bytesAt key 0 64
  sha256 (k.map (· ^^^ 0x5C#8) ++ sha256 (k.map (· ^^^ 0x36#8) ++ m))

/-! ## AES -/

/-- Multiplication by x in GF(2^8). -/
def gfX (b : Byte) : Byte := (b <<< 1) ^^^ (if b.getLsbD 7 then 0x1B#8 else 0)

/-- Rows of the AES substitution table, the first entry of a row in its highest byte (FIPS 197). -/
def aesRows : List Nat :=
  [0x637C777BF26B6FC53001672BFED7AB76, 0xCA82C97DFA5947F0ADD4A2AF9CA472C0,
   0xB7FD9326363FF7CC34A5E5F171D83115, 0x04C723C31896059A071280E2EB27B275,
   0x09832C1A1B6E5AA0523BD6B329E32F84, 0x53D100ED20FCB15B6ACBBE394A4C58CF,
   0xD0EFAAFB434D338545F9027F503C9FA8, 0x51A3408F929D38F5BCB6DA2110FFF3D2,
   0xCD0C13EC5F974417C4A77E3D645D1973, 0x60814FDC222A908846EEB814DE5E0BDB,
   0xE0323A0A4906245CC2D3AC629195E479, 0xE7C8376D8DD54EA96C56F4EA657AAE08,
   0xBA78252E1CA6B4C6E8DD741F4BBD8B8A, 0x703EB5664803F60E613557B986C11D9E,
   0xE1F8981169D98E949B1E87E9CE5528DF, 0x8CA1890DBFE6426841992D0FB054BB16]

/-- The AES substitution. -/
def aesSub (b : Byte) : Byte :=
  BitVec.ofNat 8 (aesRows.getD (b.toNat / 16) 0 / 2 ^ (8 * (15 - b.toNat % 16)))

/-- Key expansion, newest word first: `nk` key words and `n` words still to make. -/
def aesExpand (nk : Nat) : Nat → Nat → Byte → List (List Byte) → List (List Byte)
  | 0, _, _, ws => ws
  | n + 1, i, rc, ws =>
    let t := ws.headD []
    let back := ws.getD (nk - 1) []
    if i % nk = 0 then
      let r := (t.drop 1 ++ t.take 1).map aesSub
      let r := List.zipWith (· ^^^ ·) r [rc, 0, 0, 0]
      aesExpand nk n (i + 1) (gfX rc) (List.zipWith (· ^^^ ·) back r :: ws)
    else
      let r := if nk = 8 && i % nk == 4 then t.map aesSub else t
      aesExpand nk n (i + 1) rc (List.zipWith (· ^^^ ·) back r :: ws)

def chunks4 : Nat → List Byte → List (List Byte)
  | 0, _ => []
  | n + 1, l => l.take 4 :: chunks4 n (l.drop 4)

/-- Round keys of 16 bytes. -/
def aesKeys (key : List Byte) : List (List Byte) :=
  let nk := key.length / 4
  let ws := (aesExpand nk (4 * (nk + 7) - nk) nk 1 (chunks4 nk key).reverse).reverse
  (List.range (nk + 7)).map fun r => ((ws.drop (4 * r)).take 4).flatten

def aesShiftRows (s : List Byte) : List Byte :=
  (List.range 16).map fun i => s.getD ((i + 4 * (i % 4)) % 16) 0

def aesMixColumn (c : List Byte) : List Byte :=
  (List.range 4).map fun i =>
    gfX (c.getD i 0) ^^^ (gfX (c.getD ((i + 1) % 4) 0) ^^^ c.getD ((i + 1) % 4) 0)
      ^^^ c.getD ((i + 2) % 4) 0 ^^^ c.getD ((i + 3) % 4) 0

def xorBytes (a b : List Byte) : List Byte := List.zipWith (· ^^^ ·) a b

/-- Encrypt one block under expanded keys. -/
def aesRounds : List (List Byte) → List Byte → List Byte
  | [], s => s
  | [k], s => xorBytes (aesShiftRows (s.map aesSub)) k
  | k :: ks, s =>
    aesRounds ks (xorBytes ((chunks4 4 (aesShiftRows (s.map aesSub))).flatMap aesMixColumn) k)

def aesBlock (keys : List (List Byte)) (b : List Byte) : List Byte :=
  match keys with
  | [] => b
  | k :: ks => aesRounds ks (xorBytes b k)

/-- Blocks of 16 bytes, the last padded with zeros. -/
def blocks16 (l : List Byte) : List (List Byte) :=
  (List.range (ceilDiv l.length 16)).map fun i => bytesAt l (16 * i) 16

/-! ## CCM* of IEEE 802.15.4 (AES-128, nonce of 13 bytes, 2-byte length) -/

/-- Key stream for `n` bytes from counter `i`. -/
def ccmStream (keys : List (List Byte)) (nonce : List Byte) (i n : Nat) : List Byte :=
  ((List.range (ceilDiv n 16)).flatMap fun j =>
    aesBlock keys ([0x01#8] ++ nonce ++ toBE 2 (i + j))).take n

/-- The authentication tag of `m` bytes, encrypted. -/
def ccmTag (keys : List (List Byte)) (nonce aad msg : List Byte) (m : Nat) : List Byte :=
  let flags := BitVec.ofNat 8 ((if aad = [] then 0 else 0x40) + (m - 2) / 2 * 8 + 1)
  let b0 := [flags] ++ nonce ++ toBE 2 msg.length
  let a := if aad = [] then [] else blocks16 (toBE 2 aad.length ++ aad)
  let t := (a ++ blocks16 msg).foldl (fun x b => aesBlock keys (xorBytes x b)) (aesBlock keys b0)
  (xorBytes t (aesBlock keys ([0x01#8] ++ nonce ++ toBE 2 0))).take m

/-- Encrypt and authenticate: the ciphertext and the tag. -/
def ccmSeal (key nonce aad msg : List Byte) (m : Nat) : List Byte × List Byte :=
  let ks := aesKeys key
  (xorBytes msg (ccmStream ks nonce 1 msg.length), ccmTag ks nonce aad msg m)

/-- Decrypt and verify. -/
def ccmOpen (key nonce aad ct tag : List Byte) : Option (List Byte) :=
  let ks := aesKeys key
  let msg := xorBytes ct (ccmStream ks nonce 1 ct.length)
  if ccmTag ks nonce aad msg tag.length = tag then some msg else none

/-! ## GCM (AES-256, nonce of 12 bytes, tag of 16) -/

/-- Multiplication in the field of GHASH, bit 0 the most significant bit. -/
def ghashMul (x y : BitVec 128) : BitVec 128 :=
  ((List.range 128).foldl (fun (s : BitVec 128 × BitVec 128) i =>
    (if x.getLsbD (127 - i) then s.1 ^^^ s.2 else s.1,
     (s.2 >>> 1) ^^^ (if s.2.getLsbD 0 then BitVec.ofNat 128 (0xE1 * 2 ^ 120) else 0)))
    (0, y)).1

def ghash (h : BitVec 128) (bs : List (List Byte)) : BitVec 128 :=
  bs.foldl (fun x b => ghashMul (x ^^^ BitVec.ofNat 128 (ofBE b)) h) 0

/-- Decrypt and verify a GCM message. -/
def gcmOpen (key nonce aad ct tag : List Byte) : Option (List Byte) :=
  let ks := aesKeys key
  let h := BitVec.ofNat 128 (ofBE (aesBlock ks (List.replicate 16 0)))
  let g := ghash h (blocks16 aad ++ blocks16 ct ++ [toBE 8 (8 * aad.length) ++ toBE 8 (8 * ct.length)])
  let t := xorBytes (toBE 16 g.toNat) (aesBlock ks (nonce ++ toBE 4 1))
  if t = tag then
    some (xorBytes ct ((List.range (ceilDiv ct.length 16)).flatMap fun j =>
      aesBlock ks (nonce ++ toBE 4 (j + 2))))
  else none

/-! ## ECDSA on P-384 -/

/-- The field prime, the order of the group and the base point (FIPS 186-4). -/
def p384P : Nat := 2 ^ 384 - 2 ^ 128 - 2 ^ 96 + 2 ^ 32 - 1
def p384N : Nat :=
  0xFFFFFFFFFFFFFFFFFFFFFFFFFFFFFFFFFFFFFFFFFFFFFFFFC7634D81F4372DDF581A0DB248B0A77AECEC196ACCC52973
def p384B : Nat :=
  0xB3312FA7E23EE7E4988E056BE3F82D19181D9C6EFE8141120314088F5013875AC656398D8A2ED19D2A85C8EDD3EC2AEF
def p384G : Nat × Nat :=
  (0xAA87CA22BE8B05378EB1C71EF320AD746E1D3B628BA79B9859F741E082542A385502F25DBF55296C3A545E3872760AB7,
   0x3617DE4A96262C6F5D9E98BF9292DC29F8F41DBD289A147CE9DA3113B5F0B8C00A60B1CE1D7E819D7A431D7C90EA0E5F)

/-- `a^e` modulo `m`, over the low 384 bits of `e`. -/
def powMod (m a e : Nat) : Nat :=
  ((List.range 384).foldl (fun (s : Nat × Nat) i =>
    (if bitsOf e i 1 = 1 then s.1 * s.2 % m else s.1, s.2 * s.2 % m)) (1 % m, a % m)).1

/-- A point of the curve; none is the point at infinity. -/
abbrev Point := Option (Nat × Nat)

def ecAdd (a b : Point) : Point :=
  match a, b with
  | none, q => q
  | p, none => p
  | some (x1, y1), some (x2, y2) =>
    if x1 = x2 ∧ (y1 + y2) % p384P = 0 then none
    else
      let l := if x1 = x2 then
          (3 * x1 * x1 + p384P - 3) * powMod p384P (2 * y1) (p384P - 2) % p384P
        else
          (y2 + p384P - y1) * powMod p384P (x2 + p384P - x1) (p384P - 2) % p384P
      let x3 := (l * l + 2 * p384P - x1 - x2) % p384P
      some (x3, (l * (x1 + p384P - x3) + p384P - y1) % p384P)

/-- Scalar multiple, over the low 384 bits. -/
def ecMul (k : Nat) (q : Point) : Point :=
  ((List.range 384).foldl (fun (s : Point × Point) i =>
    (if bitsOf k i 1 = 1 then ecAdd s.1 s.2 else s.1, ecAdd s.2 s.2)) (none, q)).1

/-- Verification of a signature `r ‖ s` under a public key `x ‖ y`, each number 48 bytes big-endian,
over a SHA-384 digest (R136, R486). -/
def ecdsaVerify (key digest sig : List Byte) : Bool :=
  let x := ofBE (bytesAt key 0 48)
  let y := ofBE (bytesAt key 48 48)
  let r := ofBE (bytesAt sig 0 48)
  let s := ofBE (bytesAt sig 48 48)
  if x < p384P ∧ y < p384P ∧ y * y % p384P = (x * x * x + (p384P - 3) * x + p384B) % p384P
      ∧ 0 < r ∧ r < p384N ∧ 0 < s ∧ s < p384N then
    let w := powMod p384N s (p384N - 2)
    let e := ofBE digest
    match ecAdd (ecMul (e * w % p384N) (some p384G)) (ecMul (r * w % p384N) (some (x, y))) with
    | none => false
    | some (u, _) => u % p384N == r
  else false

end Sys2Proof.Machine
end

