-- ==== Sys2Proof/Machine/Session.lean ====
section
/-! DEFINITION. Sessions and role keys (R465 to R471), rate-limit settings (R476) and the
Pentimento (R477 to R481). -/

namespace Sys2Proof.Machine

/-! ## Sessions -/

/-- A channel: the service port where `svc`, PCIe otherwise (R466). -/
def State.chan (s : State) (svc : Bool) : Channel := if svc then s.sec.svc else s.sec.pcie

def State.modChan (s : State) (svc : Bool) (f : Channel → Channel) : State :=
  s.modSec fun c => if svc then { c with svc := f c.svc } else { c with pcie := f c.pcie }

/-- A write on the PCIe channel that needs a session of rank `r` or above: it takes effect and
restarts the idle time, or is ignored (R465, R471). -/
def State.asRoleAny (s : State) (r : Nat) (f : State → State) : State :=
  if r ≤ s.pcieRole then f s.touch else s

/-- The same of a register outside GCTL, TMB and PWR. -/
def State.asRole (s : State) (r : Nat) (f : State → State) : State := s.bar fun s => s.asRoleAny r f

/-- A download that is not complete is given up and the bank becomes EMPTY (R491). Cause: 0 power, 1 abort,
2 timeout, 3 session. -/
def State.dropStaging (s : State) (cause : Nat) : State :=
  let n := s.pfo.bytes.length
  (s.modPfo fun p => { p with staging := 0, owner := 0, length := 0, bytes := [] }).emit evPortfolioDiscarded n cause

/-- The owner's session has closed. -/
def State.ownerGone (s : State) (svc : Bool) : State :=
  if svc && s.pfo.owner == 1 then s.dropStaging 3 else s

/-- A session closes and SESSION_CLOSED is recorded. A session whose idle time has run out closed
then, with cause 1 (R471). -/
def State.closeSession (s : State) (svc : Bool) (cause : Nat) : State :=
  let c := s.chan svc
  if c.role = 0 then s
  else
    ((s.modChan svc fun c => { c with role := 0 }).emit evSessionClosed (bit svc) c.role
      (if s.roleOf c = 0 then 1 else cause)).ownerGone svc

/-- The key in force for a role: its highest programmed slot (R467). -/
def Sec.key (c : Sec) (role : Nat) : Option (List Byte) :=
  match role with
  | 1 => c.operatorKeys.getLast?
  | 2 => c.installerKeys.getLast?
  | 3 => c.makerKeys.getLast?
  | _ => none

/-- The response that proves a role (R469). -/
def proofOf (key challenge : List Byte) (role : Nat) (svc : Bool) : List Byte :=
  hmacSha256 key (challenge ++ toLE 1 role ++ toLE 1 (bit svc) ++ toLE 8 Config.serial)

/-- OPEN of a role on a channel, with the challenge the random source gives (R469, R470). -/
def State.openSession (s : State) (svc : Bool) (role : Nat) (chal : List Byte) : State :=
  if role = 0 ∨ s.now < (s.chan svc).lockoutEnd then s
  else (s.closeSession svc 2).modChan svc fun c =>
    { c with challenge := chal, chalHeld := true, chalRole := role, chalAt := s.now }

/-- Seconds for which OPEN is refused after the given consecutive failures (R470). -/
def lockoutOf (fails : Nat) : Nat := if fails < 4 then 0 else min 640 (10 * 2 ^ (fails - 4))

/-- A challenge is held, unused and not expired (R470). -/
def State.chalValid (s : State) (c : Channel) : Bool :=
  c.chalHeld && decide (s.now < c.chalAt + 10 * second)

/-- PROVE with a response; the flag tells whether the session opened (R469, R470). -/
def State.proveSession (s : State) (svc : Bool) (response : List Byte) : Bool × State :=
  let c := s.chan svc
  let good := s.chalValid c && match s.sec.key c.chalRole with
    | some k => proofOf k c.challenge c.chalRole svc == response
    | none => false
  if good then
    (true, (s.modChan svc fun c =>
        { c with chalHeld := false, role := c.chalRole, lastUse := s.now, fails := 0 }).emit
      evSessionOpened (bit svc) c.chalRole)
  else
    let n := c.fails + 1
    (false, (s.modChan svc fun c =>
        { c with chalHeld := false, fails := n
                 lockoutEnd := if n < 4 then c.lockoutEnd else s.now + lockoutOf n * second }).emit
      evSessionFailed (bit svc) c.chalRole n (lockoutOf n))

/-- SESSION_OPEN (R469). -/
def execSessionOpen (role : Fin 4) (chal : Vector Byte 32) (s : State) : Res :=
  .next (s.bar fun s => s.openSession false role chal.toList)

/-- SESSION_PROVE (R469). -/
def execSessionProve (s : State) : Res := .next (s.bar fun s => (s.proveSession false s.sec.pcie.response).2)

/-- SESSION_CLOSE (R471). -/
def execSessionClose (s : State) : Res := .next (s.bar fun s => s.closeSession false 0)

/-- SESSION_IDLE_TIMEOUT (R471). -/
def execSessionIdleTimeout (svc : Bool) (s : State) : Res :=
  .next (if s.roleOf (s.chan svc) = 0 then s.closeSession svc 1 else s)

/-- CHALLENGE_EXPIRY (R470). -/
def execChallengeExpiry (svc : Bool) (s : State) : Res :=
  .next (if s.chalValid (s.chan svc) then s
    else s.modChan svc fun c => { c with chalHeld := false })

/-- SESSION_LOCKOUT_END (R470). -/
def execSessionLockoutEnd (svc : Bool) (s : State) : Res :=
  .next (if s.now < (s.chan svc).lockoutEnd then s
    else s.modChan svc fun c => { c with lockoutEnd := 0 })

/-! ## Role keys -/

def Sec.slots (c : Sec) (role : Nat) : List (List Byte) :=
  match role with
  | 1 => c.operatorKeys
  | 2 => c.installerKeys
  | 3 => c.makerKeys
  | _ => []

/-- Slots of a role (Table 15-2). -/
def slotsOf (role : Nat) : Nat :=
  match role with
  | 1 => 16
  | 2 => 8
  | 3 => 4
  | _ => 0

def Sec.addKey (c : Sec) (role : Nat) (k : List Byte) : Sec :=
  match role with
  | 1 => { c with operatorKeys := c.operatorKeys ++ [k] }
  | 2 => { c with installerKeys := c.installerKeys ++ [k] }
  | 3 => { c with makerKeys := c.makerKeys ++ [k] }
  | _ => c

/-- The session meets Table 15-2 for programming a key of a role. -/
def State.mayProgram (s : State) (role : Nat) : Bool :=
  match role with
  | 1 => decide (2 ≤ s.pcieRole)
  | 2 => decide (3 ≤ s.pcieRole)
  | 3 => s.sec.makerKeys.isEmpty || decide (3 ≤ s.pcieRole)
  | _ => false

/-- Bytes of the words written, the first word's byte 0 first (R468). -/
def wordBytes (ws : List Word) : List Byte := ws.flatMap fun w => toLE 4 w.toNat

/-- RESULT of a key program, in the order of R468. -/
def State.keyVerdict (s : State) (role : Nat) : Nat :=
  if role = 0 then 5
  else if !s.mayProgram role then 1
  else if slotsOf role ≤ (s.sec.slots role).length then 2
  else if s.sec.keyWords.length ≠ 8 then 4
  else if s.sec.keyWords.all (· == 0) || s.sec.keyWords.all (· == 0xFFFFFFFF#32) then 3
  else 0

/-- A word of a key; a ninth and later one only counts as too many (R468). -/
def keepWord (n : Nat) (ws : List Word) (w : Word) : List Word :=
  if ws.length ≤ n then ws ++ [w] else ws

/-- KEY_DATA_WRITE (R468). -/
def execKeyDataWrite (w : Word) (s : State) : Res :=
  .next (s.bar fun s => s.modSec fun c => { c with keyWords := keepWord 8 c.keyWords w })

/-- KEY_COUNT_RESTART (R468). -/
def execKeyCountRestart (s : State) : Res := .next (s.bar fun s => s.modSec fun c => { c with keyWords := [] })

/-- Every open session of a role closes, on both channels (R468). -/
def State.closeRole (s : State) (role : Nat) : State :=
  let s := if s.sec.pcie.role = role then s.closeSession false 5 else s
  if s.sec.svc.role = role then s.closeSession true 5 else s

/-- KEY_PROGRAM (R468). -/
def execKeyProgram (role : Fin 4) (s : State) : Res :=
  if !s.awake then .next s else
  let v := s.keyVerdict role
  let who := s.pcieRole
  let slot := (s.sec.slots role).length
  let k := wordBytes s.sec.keyWords
  let s := if who = 0 then s else s.touch
  let s := s.modSec fun c => { c with keyWords := [], keyResult := v }
  .next (if v = 0 then
      ((s.modSec fun c => c.addKey role k).closeRole role).emit evKeySet role slot who
    else s.emit evKeyRefused role v)

/-! ## Rate limits -/

/-- Codes whose bucket belongs to the deterministic plane refill at its time (R476). -/
def State.refillCode (s : State) (code : Nat) : State := s.refill code (!isDetCode code)

/-- BUCKET_REFILL (R476). -/
def execBucketRefill (code : BitVec 16) (s : State) : Res :=
  .next (if hasBucket code.toNat then s.refillCode code.toNat else s)

/-- PNT_RL_WRITE (R476, R484). -/
def execPntRlWrite (w : Word) (s : State) : Res :=
  .next (s.asRole 2 fun s =>
    let p := fieldOf w 16 16
    let b := fieldOf w 8 8
    if p = 0 ∨ b = 0 then s.modPnt fun x => { x with rlRefused := true }
    else if hasBucket s.ev.rlIdx then
      s.modEv fun e => e.setBucket e.rlIdx
        { e.bucket e.rlIdx with nextPeriod := p, nextBurst := b, setIn := some s.epoch.n }
    else s)

/-- The settings of a bucket written before this epoch's boundary take effect (R476). -/
def Bucket.apply (b : Bucket) (epoch time : Nat) : Bucket :=
  match b.setIn with
  | some n =>
    if n < epoch then
      { b with period := b.nextPeriod, burst := b.nextBurst, tokens := min b.tokens b.nextBurst
               upTo := time, setIn := none }
    else b
  | none => b

/-- RL_SETTINGS_APPLY (R476). -/
def execRlSettingsApply (s : State) : Res :=
  .next ((s.ev.buckets.map (·.1)).foldl (fun s code =>
    let s := if (s.ev.bucket code).setIn.isSome then s.refillCode code else s
    s.modEv fun e =>
      e.setBucket code ((e.bucket code).apply s.epoch.n (s.recTime (!isDetCode code)))) s)

/-! ## The Pentimento -/

/-- An erased slot. -/
def pntErased : Nat → List Byte := fun _ => List.replicate 32 0xFF#8

/-- A slot as stored. -/
def Pnt.slot (p : Pnt) (i : Nat) : List Byte := tblGet pntErased p.slots i

/-- A slot counts as committed exactly when (byte 3 and 0x05) = 0x04 (R477). -/
def slotCommitted (b : List Byte) : Bool := (b.getD 3 0xFF#8) &&& 5#8 == 4#8

/-- Committed records of the log. -/
def Pnt.committed (p : Pnt) : Nat := (p.slots.filter fun e => slotCommitted e.2).length

def Pnt.writeSlot (p : Pnt) (b : List Byte) : Pnt :=
  { p with slots := tblPut pntErased p.slots p.next b, next := p.next + 1 }

/-- LOG_FULL goes to slot 65,535 once the slots before it have been used, and what is buffered is
lost to the log (R479). -/
def State.logFull (s : State) : State :=
  if s.pnt.next = 65535 then
    let (r, s) := s.makeRecord evLogFull.code evLogFull.severity true s.time s.pnt.gen 65536 0 0
    let s := s.modPnt fun p =>
      { p.writeSlot (r.bytes 4) with full := true, buffer := []
                                     dropped := satAdd 16 p.dropped p.buffer.length }
    s.deliverOut r
  else s

/-- PENTIMENTO_SLOT_WRITE: the flash status of the program, 0 where it verified (R477 to R480).
No slot is written during a clear or a supply dip. -/
def execPentimentoSlotWrite (status : BitVec 4) (s : State) : Res :=
  .next (if s.pnt.full || s.pnt.clearing || s.pwr.dip then s
    else match s.pnt.buffer with
    | [] => s
    | r :: rest =>
      let slot := s.pnt.next
      if status = 0 then
        (s.modPnt fun p => { p.writeSlot (r.bytes 4) with buffer := rest }).logFull
      else
        (s.modPnt fun p => p.writeSlot ((r.bytes 4).set 3 0)).logFull.emit evPentimentoWriteFail
          slot status.toNat)

/-- PENTIMENTO_CLEAR (R481). -/
def execPentimentoClear (w : Word) (s : State) : Res :=
  .next (s.bar fun s => if 2 ≤ s.pcieRole ∧ flagOf w 31 ∧ fieldOf w 0 16 = s.pnt.gen % 2 ^ 16
      ∧ !s.pnt.clearing then
      s.touch.modPnt fun p =>
        { p with gen := (p.gen + 1) % 2 ^ 32, clearing := true, clearRole := s.pcieRole
                 clearOld := p.committed, clearAtBoot := false }
    else s.modPnt fun p => { p with clearRefused := true })

/-- PENTIMENTO_CLEAR_DONE (R481). -/
def execPentimentoClearDone (s : State) : Res :=
  .next (if !s.pnt.clearing then s
    else
      let p := s.pnt
      let (r, s) := s.makeRecord evCleared.code evCleared.severity true s.time p.gen p.clearRole
        p.clearOld (bit p.clearAtBoot * 2 ^ 31)
      (s.modPnt fun p =>
        { { p with slots := [], next := 0, clearing := false, full := false }.writeSlot (r.bytes 4)
          with clearAtBoot := false }).deliverOut r)

end Sys2Proof.Machine
end

