-- ==== Sys2Proof/Machine/SlotPlan.lean ====
section
/-! DEFINITION. The SLOTPLAN section and what a slot plan gives a station (R254 to R258,
Tables 8-3, 8-5, 8-12). -/

namespace Sys2Proof.Machine

def planLen (p : List Byte) : Nat := leAt p 0 1
def planVersion (p : List Byte) : Nat := leAt p 1 1
def planRate (p : List Byte) : Nat := leAt p 2 1
def planSubChan (p : List Byte) : Nat := leAt p 3 1
def planCount (p : List Byte) : Nat := leAt p 4 2

/-- Radio slots of a sub-GHz span (R256). -/
def spanSlots (rate : Nat) : Nat :=
  match rate with
  | 1 => 8
  | 2 => 4
  | 3 => 2
  | _ => 1

/-- 2.4 GHz type, group and sub-GHz type of radio slot `k` (Table 8-5). -/
def slotType (p : List Byte) (k : Nat) : Nat := leAt p (32 + 2 * k) 1 % 8
def slotGroup (p : List Byte) (k : Nat) : Nat := leAt p (32 + 2 * k) 1 / 16 % 4
def subType (p : List Byte) (k : Nat) : Nat := leAt p (33 + 2 * k) 1 % 8

def assignOff (p : List Byte) (i : Nat) : Nat := (32 + 2 * planLen p + 31) / 32 * 32 + 32 * i

/-- An UL or DL entry: radio slot, period exponent and phase (Table 8-12). -/
structure SlotE where
  slot : Nat
  p : Nat
  phase : Nat
deriving DecidableEq, Repr

def slotEAt (b : List Byte) (o : Nat) : SlotE :=
  let w := leAt b o 3
  { slot := bitsOf w 0 8, p := bitsOf w 8 3, phase := bitsOf w 11 7 }

/-- The entry falls in superframe `n`. -/
def SlotE.falls (e : SlotE) (n : Nat) : Bool := n % 2 ^ e.p == e.phase

/-- An assignment entry (Table 8-12). `chain` is 0 for 2.4 GHz and 1 for sub-GHz. -/
structure Assign where
  station : Nat
  channel : Nat
  ul : List SlotE
  dl : List SlotE
  sleepy : Bool
  body : List Byte
deriving DecidableEq, Repr

def Assign.chain (a : Assign) : Nat := if a.channel = 0 then 1 else 0

def assignAt (b : List Byte) (o : Nat) : Assign :=
  let c := leAt b (o + 3) 1
  { station := leAt b o 2, channel := leAt b (o + 2) 1
    ul := (List.range (min 3 (c % 4))).map fun i => slotEAt b (o + 4 + 3 * i)
    dl := (List.range (min 2 (c / 16 % 4))).map fun i => slotEAt b (o + 13 + 3 * i)
    sleepy := c / 64 % 2 == 1, body := bytesAt b (o + 2) 17 }

def assigns (p : List Byte) : List Assign :=
  (List.range (planCount p)).map fun i => assignAt p (assignOff p i)

/-- A station is sleeping: SLEEPY, or an UL period above one superframe (R280). -/
def Assign.sleeping (a : Assign) : Bool := a.sleepy || a.ul.any fun e => decide (0 < e.p)

/-- Entry of a station on a chain, in the plan in force. -/
def Air.assign (a : Air) (chain station : Nat) : Option Assign :=
  match a.plan with
  | none => none
  | some p => (assigns p).find? fun x => x.station == station && x.chain == chain

/-- Entries of a station on both chains. -/
def Air.assignsOf (a : Air) (station : Nat) : List Assign :=
  match a.plan with
  | none => []
  | some p => (assigns p).filter fun x => x.station == station

def slotNs : Nat := 2000000

/-- Starts and ends, in device time, of the DL entries of a station from the present superframe
on, within `n` superframes. -/
def Air.dlTimes (a : Air) (station n : Nat) : List (Nat × Nat) :=
  match a.plan with
  | none => []
  | some p =>
    if !a.counting then []
    else (a.assignsOf station).flatMap fun x =>
      let span := if x.chain = 1 then spanSlots (planRate p) else 1
      (List.range n).flatMap fun m => x.dl.filterMap fun e =>
        if e.falls (a.superframe + m) then
          let t := a.sfStart + (m * planLen p + e.slot) * slotNs
          some (t, t + span * slotNs)
        else none

/-- Superframes that reach from the present one to a device time. -/
def Air.sfsTo (a : Air) (t : Nat) : Nat :=
  match a.plan with
  | none => 0
  | some p => (t - a.sfStart) / (max 1 (planLen p) * slotNs) + 1

/-- DOWNLINK radio slots of a station that start at or after `t0` and end at or before `t1`
(R188). -/
def Air.dlCount (a : Air) (station t0 t1 : Nat) : Nat :=
  ((a.dlTimes station (a.sfsTo t1)).filter fun x => decide (t0 ≤ x.1) && decide (x.2 ≤ t1)).length

/-- A DOWNLINK opportunity of a station starts at or after `t` and before `t1` (R191), or is not
yet over at `t`. -/
def Air.dlLeft (a : Air) (station t t1 : Nat) : Bool :=
  (a.dlTimes station (a.sfsTo t1)).any fun x => decide (t < x.2) && decide (x.1 < t1)

/-- Downlink queue of a robot: by channel of its entry, Q16 on sub-GHz (R191, Table 12-1). -/
def Air.dlQueue (a : Air) (station : Nat) : Nat :=
  match a.assignsOf station with
  | x :: _ => if x.channel = 0 then 16 else x.channel - 11
  | [] => 0

/-- The station is PROVISIONED in either chain's table (R17, R201). -/
def Air.provisioned (a : Air) (i : Nat) : Bool :=
  a.tables.toList.any fun t => (tblGet (fun _ => Station.empty) t i).provisioned

end Sys2Proof.Machine
end

