-- ==== Sys2Proof/Machine/Cells.lean ====
section
/-! DEFINITION. Squares, cells, probes and the persistent store of the Canvas (R165 to R175,
R189, R202, R206). -/

namespace Sys2Proof.Machine

/-! ## Squares (Table 6-3) -/

structure SquareDef where
  prev : Nat
  next : Nat
  side : Nat
  flags : Nat
deriving DecidableEq, Repr

def squareAt (map : List Byte) (s : Nat) : SquareDef :=
  let e := bytesAt map (16 * s) 16
  { prev := leAt e 8 2, next := leAt e 10 2, side := leAt e 12 2, flags := leAt e 14 1 }

/-- The square is below N and USED (R168). -/
def Canvas.used (c : Canvas) (s : Nat) : Bool :=
  decide (s < c.n) && (squareAt c.map s).flags % 2 == 1

/-- Squares one PREV, NEXT or SIDE link away. -/
def Canvas.links (c : Canvas) (s : Nat) : List Nat :=
  let q := squareAt c.map s
  [q.prev, q.next, q.side].filter fun t => t ≠ 0xFFFF && c.used t

/-- Insert into a rising list without repeats. -/
def insertNat (x : Nat) : List Nat → List Nat
  | [] => [x]
  | y :: t => if x = y then y :: t else if x < y then x :: y :: t else y :: insertNat x t

def sortNat (l : List Nat) : List Nat := l.foldr insertNat []

/-- Squares by hop distance up to `h` more hops, each ring in ascending order. -/
def hopRings (c : Canvas) : Nat → List Nat → List Nat → List Nat
  | 0, _, _ => []
  | h + 1, seen, ring =>
    let next := sortNat ((ring.flatMap c.links).filter fun t => !seen.contains t)
    next ++ hopRings c h (seen ++ next) next

/-- Every square reachable by at most `h` links, nearest first (R185, R199, R200). -/
def Canvas.within (c : Canvas) (s h : Nat) : List Nat := s :: hopRings c h [s] [s]

/-! ## Cells -/

/-- The cell at an index: unmapped squares are BLOCKED UNMAPPED at all times (R168). -/
def Canvas.cell (c : Canvas) (i : Nat) : Cell :=
  if c.used (i / 128) then tblGet cellDefault c.cells i else Cell.blocked 4

def Canvas.setCell (c : Canvas) (i : Nat) (v : Cell) : Canvas :=
  if c.used (i / 128) then { c with cells := tblPut cellDefault c.cells i v } else c

/-- The 16 bits of a cell (Table 6-1). -/
def Cell.word (x : Cell) : Nat :=
  let st := match x.state with
    | .free => 0
    | .tentative => 1
    | .held => 2
    | .blocked => 3
  packNat [(14, 2, st), (13, 1, bit x.halo), (9, 4, x.gen), (0, 8, x.who)]

/-- The cell is HELD by the robot under a generation with these low bits. -/
def Cell.heldBy (x : Cell) (r g : Nat) : Bool := x.state == .held && x.who == r && x.gen == g % 16

def Cell.robotHeld (x : Cell) (r : Nat) : Bool := x.state == .held && x.who == r

/-- Now column and age of a slot (R171). -/
def Canvas.now (c : Canvas) : Nat := c.k % 128

def ageOf (now slot : Nat) : Nat := (slot + 128 - now % 128) % 128

/-- Canvas slot period in ns. -/
def Canvas.periodNs (c : Canvas) : Nat := c.period * 62500000

/-- The presented word of a cell (Table 6-5). -/
def presented (valid corr : Bool) (age cell : Nat) : Word :=
  pack [(31, 1, bit valid), (30, 1, bit corr), (23, 7, age), (0, 16, cell)]

/-! ## Uncorrectable words (R206) -/

/-- Robots with a HELD cell among the four of a word, without repeats. -/
def Canvas.wordRobots (c : Canvas) (w : Nat) : List Nat :=
  sortNat ((List.range 4).filterMap fun j =>
    let x := c.cell (4 * w + j)
    if x.state == .held then some x.who else none)

/-- The four cells of a word become BLOCKED ECC. -/
def Canvas.blockWord (c : Canvas) (w : Nat) : Canvas :=
  (List.range 4).foldl (fun c j => c.setCell (4 * w + j) (Cell.blocked 3)) c

/-- An uncorrectable word is found. Bank, word index (cell index ÷ 4) and robots are recorded. -/
def State.canvasEcc (s : State) (w : Nat) : State :=
  let rs := s.canvas.wordRobots w
  let s := s.logInput (.canvasError w)
  (s.modCanvas fun c => { c.blockWord w with eccUncorr := satAdd 16 c.eccUncorr 1 }).emit
    evCanvasEccUncorrectable (w / 32 % 4) w (rs.headD 0) rs.length

/-- Uncorrectable words an operation of the engine, the sweep or the scrub finds. -/
def State.canvasEccs (s : State) (ws : List Nat) : State := ws.foldl State.canvasEcc s

/-- Of the words the world names, those that the operation at hand reads. -/
def State.eccWhere (s : State) (bad : List (BitVec 21)) (p : Nat → Bool) : State :=
  s.canvasEccs ((bad.map (·.toNat)).filter p)

/-- A word that lies in one of these squares. -/
def inSquares (qs : List Nat) (w : Nat) : Bool := qs.contains (w / 32)

/-- A word with a cell that satisfies a test. -/
def Canvas.wordHas (c : Canvas) (p : Cell → Bool) (w : Nat) : Bool :=
  (List.range 4).any fun j => p (c.cell (4 * w + j))

/-- A probe of one cell (R174, R206). -/
def State.probe (s : State) (i : Nat) (m : Ecc) : Word × State :=
  let age := ageOf s.canvas.now (i % 128)
  match m with
  | .uncorrectable => (presented false false age 0xC003, s.canvasEcc (i / 4))
  | _ => (presented true (m == .corrected) age (s.canvas.cell i).word, s)

/-- What the reads of one instant find in a word: the cells of a word share one code (R167). -/
def wordFind (l : List (Nat × Ecc)) (w : Nat) : Ecc :=
  if l.any fun x => x.1 / 4 == w && x.2 == .uncorrectable then .uncorrectable
  else if l.any fun x => x.1 / 4 == w && x.2 == .corrected then .corrected
  else .ok

/-- A probe of several cells at one instant: each reads as it stands then, an uncorrectable word is found
once, and every cell of it shows VALID 0 (R126, R175, R206). -/
def State.probes (s : State) (l : List (Nat × Ecc)) : List Word × State :=
  let show' := fun (x : Nat × Ecc) =>
    let age := ageOf s.canvas.now (x.1 % 128)
    match wordFind l (x.1 / 4) with
    | .uncorrectable => presented false false age 0xC003
    | m => presented true (m == .corrected) age (s.canvas.cell x.1).word
  let bad := (l.map fun x => x.1 / 4).filter fun w => wordFind l w == .uncorrectable
  (l.map show', s.canvasEccs (sortNat bad))

/-! ## The persistent store (R202) -/

/-- Places a store has. -/
def storeSize : Nat := 16384

/-- Squares in the store, each once. -/
def Canvas.stored (c : Canvas) : List Nat := sortNat (c.holds.flatMap fun h => h.squares.map (·.1))

/-- Take squares in order as far as places go, and the rest. -/
def takeFit (stored : List Nat) : List (Nat × Bool) → List (Nat × Bool) × List Nat
  | [] => ([], [])
  | (q, h) :: t =>
    if stored.contains q || decide (stored.length < storeSize) then
      let (a, r) := takeFit (insertNat q stored) t
      ((q, h) :: a, r)
    else
      let (a, r) := takeFit stored t
      (a, q :: r)

/-- New squares all fit. -/
def Canvas.fits (c : Canvas) (qs : List Nat) : Bool :=
  (takeFit c.stored (qs.map fun q => (q, false))).2 == []

/-- A square lies in an active ZONE stop's applied squares (R204). -/
def Canvas.zoned (c : Canvas) (q : Nat) : Bool :=
  c.holds.any fun h => match h.owner with
    | .zone _ => h.squares.any (·.1 == q)
    | _ => false

/-- What a cell of a square becomes when it is freed: FREE, or ZONE_STOP under a ZONE stop. -/
def Canvas.freed (c : Canvas) (q : Nat) : Cell := if c.zoned q then Cell.blocked 2 else Cell.free

/-- Free the cells with these indices that satisfy a test; how many there were. -/
def Canvas.freeIf (c : Canvas) (p : Cell → Bool) (is : List Nat) : Nat × Canvas :=
  is.foldl (fun x i =>
    if p (x.2.cell i) then (x.1 + 1, x.2.setCell i (x.2.freed (i / 128))) else x) (0, c)

/-- Set the FREE cells with these indices; how many there were. -/
def Canvas.setFree (c : Canvas) (v : Nat → Cell) (is : List Nat) : Nat × Canvas :=
  is.foldl (fun x i =>
    if (x.2.cell i).state == .free then (x.1 + 1, x.2.setCell i (v i)) else x) (0, c)

/-- Every cell of these squares. -/
def cellsOf (qs : List Nat) : List Nat := qs.flatMap fun q => (List.range 128).map fun j => q * 128 + j

/-- The owner of a hold is this one. -/
def Canvas.hold? (c : Canvas) (o : HoldOwner) : Option Hold := c.holds.find? (·.owner == o)

def Canvas.dropHold (c : Canvas) (o : HoldOwner) : Canvas :=
  { c with holds := c.holds.filter (·.owner != o) }

/-- Age of a slot at the batch's reference time (R178). -/
def Canvas.ageA (c : Canvas) (slot : Nat) : Nat := ageOf c.kA slot

/-- A cell that a batch may touch: its column is not the one of age 0 (R178). -/
def Canvas.mine (c : Canvas) (i : Nat) : Bool := c.ageA (i % 128) != 0

/-- The host's and the Easels' requests among those of the batch (Table 6-16). -/
def Canvas.requests (c : Canvas) : Nat :=
  (c.batch.filter fun q => match q with
    | .host _ | .easel _ => true
    | _ => false).length

/-- Enter squares for a lost region or a ZONE stop, in order, as many as fit, and block their FREE cells that
pass a test: the cells blocked and the squares that did not fit. -/
def Canvas.blockSquares (c : Canvas) (o : HoldOwner) (reason index : Nat) (qs : List Nat) (p : Nat → Bool) :
    Nat × Nat × Canvas :=
  let (ok, rest) := takeFit c.stored (qs.map fun q => (q, false))
  let old := match c.hold? o with
    | some h => h.squares
    | none => []
  let h : Hold := { owner := o, squares := old ++ ok.filter (fun x => !old.contains x), rest := rest,
                    ends := 0, index := index }
  let c := { c.dropHold o with holds := (c.dropHold o).holds ++ [h] }
  let (n, c) := c.setFree (fun _ => Cell.blocked reason) ((cellsOf (ok.map (·.1))).filter p)
  (n, rest.length, c)

/-- A set that did not fit is recorded, and grants are refused until it is applied (R202). -/
def State.persistCheck (s : State) (left cause index : Nat) : State :=
  if left = 0 then s
  else (s.modCanvas fun c => { c with persistFull := true }).emit evCanvasPersistFull left cause index

/-- The value the persistent owners give a square's cell in a new far column (R189, R200 to R204):
a park hold, else a ZONE stop, else a lost region, else a persistent block. -/
def Canvas.background (c : Canvas) (q : Nat) : Cell :=
  let own := c.holds.reverse.filterMap fun h =>
    match h.squares.find? (·.1 == q) with
    | some x => some (h.owner, x.2)
    | none => none
  match own.findSome? (fun x => match x.1 with
      | .park r g => some ({ state := .held, halo := x.2, gen := g % 16, who := r } : Cell)
      | _ => none) with
  | some v => v
  | none =>
    if c.zoned q then Cell.blocked 2
    else if own.any fun x => match x.1 with | .lost _ => true | _ => false then Cell.blocked 1
    else match own.findSome? (fun x => match x.1 with | .block n => some n | _ => none) with
      | some n => Cell.blocked n
      | none => Cell.free

/-- The sweep of a column: FREE, but for the squares of the store (R172). A block set while it ran stays
(Table 6-15). -/
def Canvas.sweepColumn (c : Canvas) (col : Nat) : Canvas :=
  let cleared := { c with cells := c.cells.filter fun x =>
    x.1 % 128 ≠ col || (x.2.state == .blocked && decide (0x80 ≤ x.2.who)) }
  c.stored.foldl (fun d q => d.setCell (q * 128 + col) (c.background q)) cleared

/-! ## Robots -/

def Canvas.robot (c : Canvas) (r : Nat) : CRobot := tblGet robotDefault c.robots r

def Canvas.modRobot (c : Canvas) (r : Nat) (f : CRobot → CRobot) : Canvas :=
  { c with robots := tblMod robotDefault c.robots r f }

/-- A lost region: the squares within LOST_HOPS of the last known square, for a provisioned robot
whose square is recorded, below N and used (R201). -/
def State.lostSquares (s : State) (r : Nat) : List Nat :=
  match (s.canvas.robot r).square with
  | some q =>
    if s.air.provisioned r && s.canvas.used q then s.canvas.within q s.canvas.lostHops else []
  | none => []

/-- A robot's region is blocked (R200, R202) where a cell passes a test; the cells blocked. -/
def State.setLost (s : State) (r : Nat) (p : Nat → Bool) : Nat × State :=
  match s.lostSquares r with
  | [] => (0, s)
  | qs =>
    let (n, left, c) := s.canvas.blockSquares (.lost r) 1 r qs p
    (n, (s.modCanvas fun _ => c).persistCheck left 0 r)

/-- Squares of lost regions other than the robot's. -/
def Canvas.lostElsewhere (c : Canvas) (r q : Nat) : Bool :=
  c.holds.any fun h => match h.owner with
    | .lost r' => r' != r && (h.squares.any (·.1 == q) || h.rest.contains q)
    | _ => false

/-- The robot has a lost region. -/
def Canvas.hasLost (c : Canvas) (r : Nat) : Bool := (c.hold? (.lost r)).isSome

/-- A robot's region is cleared (R201). -/
def Canvas.clearLost (c : Canvas) (r : Nat) : Canvas :=
  match c.hold? (.lost r) with
  | none => c
  | some h =>
    let qs := (h.squares.map (·.1)).filter fun q => !c.lostElsewhere r q
    ((c.dropHold (.lost r)).freeIf (· == Cell.blocked 1) ((cellsOf qs).filter c.mine)).2

/-- The Canvas as it begins at a cold start and at the start of each incarnation (R201): no grant,
no hold, and the lost regions of the robots whose last known square is recorded. -/
def State.canvasStart (s : State) : State :=
  let s := s.modCanvas fun c =>
    { c with cells := [], sweeps := [], grants := [], holds := [], persistFull := false,
             reports := [], incoming := [], due := [], hostReq := none, hostBusy := false, batch := [], commit := none }
  (List.range 256).foldl (fun s r => (s.setLost r fun _ => true).2) s

end Sys2Proof.Machine
end

