-- ==== Sys2Proof/Machine/StrokePlan.lean ====
section
/-! DEFINITION. Profiles, routes and the planning of strokes (R213 to R229): what the stroke
generator computes, apart from the requests that ask for it. Fixed point and rounding that the
spec leaves open are log entry 20. -/

namespace Sys2Proof.Machine

/-! ## The LOOPS section (Table 7-1) -/

structure LoopsHdr where
  pc : Nat
  rc : Nat
  gc : Nat
  dc : Nat
  zc : Nat
  re : Nat
deriving DecidableEq, Repr

def loopsHdr (b : List Byte) : LoopsHdr :=
  { pc := leAt b 0 2, rc := leAt b 2 2, gc := leAt b 4 2, dc := leAt b 6 2, zc := leAt b 8 2,
    re := leAt b 12 4 }

/-- Offsets of parts 1 to 6. -/
def profOff (i : Nat) : Nat := 32 + 32 * i
def routeOff (h : LoopsHdr) (i : Nat) : Nat := profOff h.pc + 16 * i
def rentryOff (h : LoopsHdr) (i : Nat) : Nat := routeOff h h.rc + 8 * i
def gdescOff (h : LoopsHdr) (i : Nat) : Nat := rentryOff h h.re + 64 * i
def ddescOff (h : LoopsHdr) (i : Nat) : Nat := gdescOff h h.gc + 32 * i
def glazeOff (h : LoopsHdr) (i : Nat) : Nat := ddescOff h h.dc + 16 * i

/-- A profile (Table 7-2). -/
structure Profile where
  v : Nat
  a : Nat
  j : Nat
  aStop : Nat
  jStop : Nat
  tReact : Nat
  tHold : Nat
  front : Nat
  rear : Nat
  mPos : Nat
  reverse : Bool
  drive : Bool
  revPct : Nat
deriving DecidableEq, Repr

def profileAt (b : List Byte) (i : Nat) : Profile :=
  let o := profOff i
  { v := leAt b o 4, a := leAt b (o + 4) 4, j := leAt b (o + 8) 4, aStop := leAt b (o + 12) 4,
    jStop := leAt b (o + 16) 4, tReact := leAt b (o + 20) 2, tHold := leAt b (o + 22) 2,
    front := leAt b (o + 24) 2, rear := leAt b (o + 26) 2, mPos := leAt b (o + 28) 2,
    reverse := leAt b (o + 30) 1 % 2 == 1, drive := leAt b (o + 30) 1 / 2 % 2 == 1,
    revPct := leAt b (o + 31) 1 }

/-- A route (Table 7-3): its length, LOOP, and its squares with their start distances. -/
structure RouteDef where
  length : Nat
  loop : Bool
  squares : List (Nat × Nat)
deriving DecidableEq, Repr

def routeDefAt (b : List Byte) (i : Nat) : RouteDef :=
  let h := loopsHdr b
  let o := routeOff h i
  let first := leAt b o 4
  { length := leAt b (o + 4) 4, loop := leAt b (o + 10) 1 % 2 == 1
    squares := (List.range (leAt b (o + 8) 2)).map fun k =>
      let e := rentryOff h (first + k)
      (leAt b e 2, leAt b (e + 4) 4) }

/-- Interval of each square of a route: square, start, end (R215). -/
def RouteDef.intervals (r : RouteDef) : List (Nat × Nat × Nat) :=
  (r.squares.zip ((r.squares.drop 1).map (·.2) ++ [r.length])).map fun x => (x.1.1, x.1.2, x.2)

/-- A position brought onto the route: modulo its length where LOOP is set (R215). -/
def RouteDef.norm (r : RouteDef) (p : Int) : Int := if r.loop then p % (r.length : Int) else p

/-- Route square covering a position. -/
def RouteDef.squareAt (r : RouteDef) (p : Int) : Option Nat :=
  let q := r.norm p
  (r.intervals.find? fun x => decide ((x.2.1 : Int) ≤ q) && decide (q < (x.2.2 : Int))).map (·.1)

/-- The position lies on the route. -/
def RouteDef.covers (r : RouteDef) (p : Int) : Bool :=
  r.loop || (decide (0 ≤ p) && decide (p ≤ (r.length : Int)))

/-! ## Segments -/

def fx : Int := 65536
def nsPerS : Int := 1000000000

/-- State of a segment at `τ` ns after its start. -/
def Seg.at (g : Seg) (τ : Int) : Int × Int × Int :=
  (g.s + divRound (g.v * τ) nsPerS + divRound (g.a * τ * τ) (2 * nsPerS * nsPerS)
     + divRound (g.j * fx * τ * τ * τ) (6 * nsPerS * nsPerS * nsPerS),
   g.v + divRound (g.a * τ) nsPerS + divRound (g.j * fx * τ * τ) (2 * nsPerS * nsPerS),
   g.a + divRound (g.j * fx * τ) nsPerS)

/-- Length of a chain of segments in ns. -/
def segsDur (l : List Seg) : Nat := (l.map (·.dur)).sum

/-- State of a chain of segments at `τ`, none past its end. -/
def segsAt : List Seg → Nat → Option (Int × Int × Int)
  | [], _ => none
  | g :: t, τ => if τ < g.dur then some (g.at τ) else segsAt t (τ - g.dur)

/-- State of a stroke at a device time: position, speed, acceleration. Before its plan time the
start state is carried back without jerk (log entry 20). -/
def Stroke.at (k : Stroke) (t : Int) : Int × Int × Int :=
  if t < k.t0 then
    match k.segs with
    | g :: _ => { g with j := 0 }.at (t - k.t0)
    | [] => (k.endPos + divRound (k.endSpeed * (t - k.t0)) nsPerS, k.endSpeed, 0)
  else
    match segsAt k.segs (t - k.t0).toNat with
    | some x => x
    | none =>
      (k.endPos + divRound (k.endSpeed * (t - k.t0 - segsDur k.segs)) nsPerS, k.endSpeed, 0)

/-- End of a stroke's segments, in device time. -/
def Stroke.tEnd (k : Stroke) : Nat := k.t0 + segsDur k.segs

/-- A duration of `n ÷ d` s rounded up to a whole µs, in ns (R220). -/
def upUs (n d : Int) : Nat := ((n * 1000000 + d - 1) / d).toNat * 1000

/-- One planned phase: duration, jerk, and the speed and acceleration it ends with. -/
structure Phase where
  dur : Nat
  j : Int
  v : Int
  a : Int
deriving DecidableEq, Repr

def sgn (i : Int) : Int := if 0 < i then 1 else if i < 0 then -1 else 0

/-- Speed reached when the acceleration is brought to 0 at full jerk. -/
def vNeutral (v a J : Int) : Int := v + divRound (a * (if a < 0 then -a else a)) (2 * J * fx)

/-- Least-time phases from speed `v`, acceleration `a` to speed `vt` with a = 0, under
acceleration limit `A` and jerk `J` (R221). -/
def speedPhases (v a vt A J : Int) : List Phase :=
  let d := sgn (vt - vNeutral v a J)
  let sq := J * fx * (d * (vt - v)) + a * a / 2
  let ap := min ((isqrt sq.toNat : Nat) : Int) (A * fx)
  let b := d * ap
  let σ := sgn (b - a)
  let dv1 := divRound (σ * (b * b - a * a)) (2 * J * fx)
  let dv3 := divRound (b * ap) (2 * J * fx)
  let mid := vt - v - dv1 - dv3
  [{ dur := upUs (σ * (b - a)) (J * fx), j := σ * J, v := v + dv1, a := b },
   { dur := if ap = 0 then 0 else upUs (max 0 (d * mid)) ap, j := 0, v := vt - dv3, a := b },
   { dur := upUs (if b < 0 then -b else b) (J * fx), j := -d * J, v := vt, a := 0 }].filter fun p => p.dur ≠ 0

/-- Lay phases out as segments from a start state; the end position is answered too. -/
def layPhases : Int → Int → Int → List Phase → List Seg × Int
  | s, _, _, [] => ([], s)
  | s, v, a, p :: t =>
    let g : Seg := { dur := p.dur, s := s, v := v, a := a, j := p.j }
    let (gs, e) := layPhases (g.at p.dur).1 p.v p.a t
    (g :: gs, e)

/-- Braking to rest. -/
def brakePhases (v a A J : Int) : List Phase := speedPhases v a 0 A J

/-- A cruise at speed `v` of `d` 2^-16 units. -/
def cruise (v d : Int) : List Phase :=
  if v ≤ 0 ∨ d ≤ 0 then [] else [{ dur := (d * nsPerS / v).toNat, j := 0, v := v, a := 0 }]

/-- Greatest `x` in `lo..lo + 2^n - 1` with `p x`, where `p lo` holds and `p` falls once. -/
def bisect (p : Int → Bool) : Nat → Int → Int
  | 0, lo => lo
  | n + 1, lo => if p (lo + 2 ^ n) then bisect p n (lo + 2 ^ n) else bisect p n lo

/-- Phases through the peak speed `vp`: to it, and from it to rest. -/
def peakPhases (v a vp A J : Int) : List Phase × List Phase :=
  (speedPhases v a vp A J, speedPhases vp 0 0 A J)

/-- Position plan in the increasing direction from `(s, v, a)` to `T`, which does not lie behind
the rest position of braking (R220). -/
def posPhasesUp (s v a T V A J : Int) : List Phase :=
  let endOf := fun ps => (layPhases s v a ps).2
  let whole := fun vp => (peakPhases v a vp A J).1 ++ (peakPhases v a vp A J).2
  let fits := fun vp => decide (vp ≤ V * fx) && decide (endOf (whole vp) ≤ T)
  let vn := max 0 (min (vNeutral v a J) (V * fx))
  let withCruise := fun vp =>
    let (p, q) := peakPhases v a vp A J
    p ++ cruise vp (T - endOf (p ++ q)) ++ q
  if fits vn then withCruise (bisect fits 48 vn)
  else if a < 0 then
    -- the deceleration is relaxed to `a1` before braking; what rounding leaves is passed at `a1`
    let ease := fun a1 : Int => ({ dur := upUs (a1 - a) (J * fx), j := J, a := a1
                                   v := v + divRound (a1 * a1 - a * a) (2 * J * fx) } : Phase)
    let relaxed := fun (hold : Int) (a1 : Int) =>
      let p := ease a1
      [p, { dur := hold.toNat, j := 0, v := p.v, a := a1 }].filter (fun (q : Phase) => q.dur ≠ 0) ++
        brakePhases p.v p.a A J
    let a1 := bisect (fun a1 => decide (a1 ≤ 0) && decide (endOf (relaxed 0 a1) ≤ T)) 48 a
    relaxed ((T - endOf (relaxed 0 a1)) * nsPerS / max 1 (ease a1).v) a1
  else withCruise (bisect fits 48 0)

def Phase.neg (p : Phase) : Phase := { p with j := -p.j, v := -p.v, a := -p.a }

/-- Position plan in either direction. -/
def posPhases (s v a T V A J : Int) : List Phase :=
  if s ≤ T then posPhasesUp s v a T V A J
  else (posPhasesUp (-s) (-v) (-a) (-T) V A J).map Phase.neg

/-- Rest position of braking from a state. -/
def restPos (s v a A J : Int) : Int := (layPhases s v a (brakePhases v a A J)).2

/-- Direction of travel of a state: increasing at rest (R222). -/
def dirOf (v a : Int) : Int := if v < 0 ∨ (v = 0 ∧ a < 0) then -1 else 1

/-- What a move plans. -/
structure Plan where
  segs : List Seg
  endPos : Int
  reversed : Bool
  behind : Bool
  /-- Length of the braking that comes before a reversal, in ns (R222). -/
  turn : Nat
deriving DecidableEq, Repr

/-- MOVE_POS from a state to a target (R220, R222). -/
def planPos (p : Profile) (s v a T : Int) : Plan :=
  let A : Int := p.a
  let J : Int := p.j
  let sb := restPos s v a A J
  if dirOf v a * (T - sb) < 0 then
    let (g1, e) := layPhases s v a (brakePhases v a A J)
    if p.reverse then
      let (g2, _) := layPhases e 0 0 (posPhases e 0 0 T (p.v * p.revPct / 100 : Nat) A J)
      { segs := g1 ++ g2, endPos := T, reversed := true, behind := false, turn := segsDur g1 }
    else { segs := g1, endPos := e, reversed := false, behind := true, turn := 0 }
  else
    let ph := if dirOf v a = 1 then posPhasesUp s v a T p.v A J
      else (posPhasesUp (-s) (-v) (-a) (-T) p.v A J).map Phase.neg
    { segs := (layPhases s v a ph).1, endPos := T, reversed := false, behind := false, turn := 0 }

/-- MOVE_SPEED from a state to a speed in 2^-16 units/s (R221): a speed against the present motion
is reached through standstill, or is a target behind where REVERSE is 0. -/
def planSpeed (p : Profile) (s v a vt : Int) : Plan :=
  let A : Int := p.a
  let J : Int := p.j
  let w := max (-(p.v * fx)) (min vt (p.v * fx))
  if w * dirOf v a < 0 then
    let (g1, e) := layPhases s v a (brakePhases v a A J)
    if p.reverse then
      let l : Int := (p.v * p.revPct / 100 : Nat) * fx
      let (g2, e2) := layPhases e 0 0 (speedPhases 0 0 (max (-l) (min w l)) A J)
      { segs := g1 ++ g2, endPos := e2, reversed := true, behind := false, turn := segsDur g1 }
    else { segs := g1, endPos := e, reversed := false, behind := true, turn := 0 }
  else
    let (g, e) := layPhases s v a (speedPhases v a w A J)
    { segs := g, endPos := e, reversed := false, behind := false, turn := 0 }

/-- Braking to rest under given limits (R223, R224). -/
def planBrake (A J : Nat) (s v a : Int) : List Seg × Int := layPhases s v a (brakePhases v a A J)

/-! ## Corridors (R225 to R228) -/

/-- Length of a grid interval (R227). -/
def gridNs : Nat := 10000000

/-- The stop path from `t` (ns after t_p): its braking segments and when braking begins. -/
def stopPath (p : Profile) (k : Stroke) (t : Nat) : Nat × List Seg × Int :=
  let tb := min (t + p.tReact * 1000000) (max t (segsDur k.segs))
  let (s, v, a) := k.at ((k.t0 + tb : Nat) : Int)
  let (g, e) := planBrake p.aStop p.jStop s v a
  (tb, g, e)

/-- Position of a stop path at `τ`. -/
def stopPosAt (k : Stroke) (sp : Nat × List Seg × Int) (τ : Nat) : Int :=
  if τ ≤ sp.1 then (k.at ((k.t0 + τ : Nat) : Int)).1
  else match segsAt sp.2.1 (τ - sp.1) with
    | some x => x.1
    | none => sp.2.2

/-- When a stop path is over: standstill and T_HOLD. -/
def stopLasts (p : Profile) (sp : Nat × List Seg × Int) : Nat :=
  sp.1 + segsDur sp.2.1 + p.tHold * 10000000

/-- Instants of an interval at which positions are taken: its ends and those of a list that fall in it. -/
def samplesIn (cuts : List Nat) (lo hi : Nat) : List Nat :=
  lo :: hi :: cuts.filter fun c => decide (lo < c) && decide (c < hi)

/-- Instants of a segment next to which its speed passes through 0, so that its position turns there. -/
def Seg.turns (g : Seg) : List Nat :=
  let v := fun (τ : Int) => sgn (g.at τ).2.1
  let flat : Int := if g.j = 0 then 0 else -g.a * nsPerS / (g.j * fx)
  let ends : List (Int × Int) :=
    if 0 < flat ∧ flat < g.dur then [(0, flat), (flat, g.dur)] else [(0, g.dur)]
  ends.flatMap fun x =>
    if v x.1 * v x.2 < 0 then
      let t := (bisect (fun τ => decide (τ < x.2) && v τ == v x.1) 44 x.1).toNat
      [t, t + 1]
    else []

/-- Ends of a chain's segments and turns of its position, from an offset on. -/
def instantsOf : Nat → List Seg → List Nat
  | _, [] => []
  | o, g :: t => g.turns.map (o + ·) ++ (o + g.dur) :: instantsOf (o + g.dur) t

/-- Grid on which the turn of a stop path's end or duration over its start is found. -/
def turnGrid : Nat := 100000

/-- Instants next to which a function turns between two others, where it does. -/
def turnsIn (f : Nat → Int) (lo hi : Nat) : List Nat :=
  if hi < lo + 2 * turnGrid then []
  else
    let rise := fun (t : Nat) => sgn (f (t + turnGrid) - f t)
    if rise lo * rise (hi - turnGrid) < 0 then
      let x := (bisect (fun x => decide (lo + (x.toNat + 1) * turnGrid ≤ hi) &&
        rise (lo + x.toNat * turnGrid) == rise lo) 7 0).toNat
      [lo + (x + 1) * turnGrid, min hi (lo + (x + 2) * turnGrid)]
    else []

def minOf : List Int → Int
  | [] => 0
  | [x] => x
  | x :: t => min x (minOf t)

def maxOf : List Int → Int
  | [] => 0
  | [x] => x
  | x :: t => max x (maxOf t)

/-- A range of positions required during grid interval `m`. -/
structure Req where
  m : Nat
  lo : Int
  hi : Int
deriving DecidableEq, Repr

/-- Ranges that the stop paths starting in interval `i` cover, interval by interval. In interval
`i` itself the full range of each path counts (R227). Paths are taken from the interval's ends, from the
instants at which the plan changes at their start or at the end of their reaction, and from where their end
or their duration turns. -/
def stopReqs (p : Profile) (k : Stroke) (i : Nat) : List Req :=
  let cuts := instantsOf 0 k.segs
  let pts := sortBy (fun a b => decide (a ≤ b))
    (samplesIn (cuts ++ cuts.map (· - p.tReact * 1000000)) (i * gridNs) ((i + 1) * gridNs))
  let ends := fun t => (stopPath p k t).2.2
  let lasts := fun t => (stopLasts p (stopPath p k t) : Int)
  let starts := pts ++ (pts.zip (pts.drop 1)).flatMap fun x => turnsIn ends x.1 x.2 ++ turnsIn lasts x.1 x.2
  let paths := starts.map (stopPath p k)
  let last := (paths.map (stopLasts p)).foldl max 0
  (List.range (last / gridNs + 1 - i)).map fun n =>
    let m := i + n
    let hi := if n = 0 then last else (m + 1) * gridNs
    let pos := paths.flatMap fun sp =>
      (samplesIn (cuts ++ instantsOf sp.1 sp.2.1) (m * gridNs) hi).map (stopPosAt k sp)
    { m := m, lo := minOf pos, hi := maxOf pos }

/-- All ranges of a position stroke (R226, R227). -/
def strokeReqs (p : Profile) (k : Stroke) : List Req :=
  (List.range (segsDur k.segs / gridNs + 1)).flatMap fun i =>
    let pos := (samplesIn (instantsOf 0 k.segs) (i * gridNs) ((i + 1) * gridNs)).map
      fun t => (k.at ((k.t0 + t : Nat) : Int)).1
    { m := i, lo := minOf pos, hi := maxOf pos } :: stopReqs p k i

/-- A body extent over a range of positions meets a route interval over more than a point
(R225); on a LOOP route in any turn of it. -/
def meets (p : Profile) (r : RouteDef) (lo hi : Int) (a b : Nat) : Bool :=
  let x := lo - (p.rear + p.mPos : Nat) * fx
  let y := hi + (p.front + p.mPos : Nat) * fx
  if r.loop then
    let n := (r.length : Int) * fx
    let a' := (a : Int) * fx - (((a : Int) * fx - x) / n) * n
    -- the first copy of the interval's start at or after `x`, and the copy before it
    (decide (a' < y) || decide (x < a' - n + ((b : Int) - a) * fx)) && decide (x < y)
  else decide (x < b * fx) && decide ((a : Int) * fx < y)

/-- What CORRIDOR finds for one square: first and last grid interval, and park. -/
structure SqReq where
  square : Nat
  first : Nat
  last : Nat
  park : Bool
deriving DecidableEq, Repr

def minNat : List Nat → Nat
  | [] => 0
  | [x] => x
  | x :: t => min x (minNat t)

def corridorReqs (p : Profile) (r : RouteDef) (k : Stroke) : List SqReq :=
  let reqs := strokeReqs p k
  r.intervals.filterMap fun x =>
    let ms := (reqs.filter fun q => meets p r q.lo q.hi x.2.1 x.2.2).map (·.m)
    let park := meets p r k.endPos k.endPos x.2.1 x.2.2
    match ms with
    | [] => none
    | _ => some { square := x.1, first := minNat ms, last := ms.foldl max 0, park := park }

/-- Result of CORRIDOR before it is written: its entries, or status 3 or 4 (R228, R229). `P` is
the Canvas slot period in ns. -/
def corridor (p : Profile) (r : RouteDef) (k : Stroke) (P : Nat) : Nat × List Nat :=
  let c := k.t0 / P
  let slotOf := fun t => (k.t0 + t) / P
  let live := (corridorReqs p r k).filter fun q =>
    q.park || decide (c + 2 ≤ slotOf ((q.last + 1) * gridNs - 1))
  if live.any fun q => !q.park && decide (c + 125 < slotOf ((q.last + 1) * gridNs - 1)) then (3, [])
  else if 256 < live.length then (4, [])
  else
    (0, live.map fun q =>
      let enter := max (c + 2) (slotOf (q.first * gridNs)) % 128
      let exit := if q.park then (c + 126) % 128 else slotOf ((q.last + 1) * gridNs - 1) % 128
      packNat [(0, 16, q.square), (16, 7, enter), (23, 7, exit), (30, 1, bit q.park)])

end Sys2Proof.Machine
end

