-- ==== Sys2Proof/Machine/DriveBase.lean ====
section
/-! DEFINITION. Drive channel entries and the arithmetic of the drives: angles, references,
resolution, induced voltage (R443 to R456). Its rounding is log entry 22. -/

namespace Sys2Proof.Machine

/-! ## Channel entry (Table 14-2) -/

def Drv.fld (d : Drv) (o len : Nat) : Nat := leAt d.entry o len

def Drv.auto (d : Drv) : Bool := d.fld 0 1 / 4 % 2 == 1
def Drv.stopBrake (d : Drv) : Bool := d.fld 0 1 / 8 % 2 == 1

/-- Standstill mode: 0 HOLD, 1 OFF, 2 SHORTED. -/
def Drv.stillMode (d : Drv) : Nat := d.fld 0 1 / 16 % 4

/-- Direction toward HOME. -/
def Drv.homeDir (d : Drv) : Int := if d.fld 0 1 / 64 % 2 = 1 then 1 else -1

def Drv.profileIdx (d : Drv) : Nat := d.fld 1 1
def Drv.iFs (d : Drv) : Nat := d.fld 8 2
def Drv.ke (d : Drv) : Nat := d.fld 18 2

/-- Position of an AUTO gate. -/
def Drv.gatePos (d : Drv) (open_ : Bool) : Nat := d.fld (if open_ then 40 else 44) 4

/-- The bridges are not driven: OFF, or standstill in OFF or SHORTED (R452). -/
def Drv.suspended (d : Drv) : Bool := d.st == .off || (d.standstill && d.stillMode != 0)

/-- m in whole units. -/
def Drv.mUnits (d : Drv) : Int := d.m / fx

/-- Speed of m in full steps/s. -/
def Drv.speed (d : Drv) : Nat := (|d.v| / (256 * fx)).toNat

/-- One in 2^-40. -/
def one40 : Int := 2 ^ 40

/-- Sine of `n ÷ d` of a right angle, 0 ≤ n ≤ d, in 2^-40. -/
def sinQuarter (n d : Nat) : Int :=
  let x : Int := 1727108826179 * n / d
  let t := x * x / one40
  let h := fun (k : Int) (y : Int) => one40 - t * y / one40 / k
  x * h 6 (h 20 (h 42 (h 72 (h 110 (h 156 one40))))) / one40

/-- Sine of q ÷ 1,024 of a turn, in 2^-40. -/
def sinTurn (q : Nat) : Int :=
  let r := q % 256
  match q / 256 % 4 with
  | 0 => sinQuarter r 256
  | 1 => sinQuarter (256 - r) 256
  | 2 => -sinQuarter r 256
  | _ => -sinQuarter (256 - r) 256

/-- Units a resolution rounds m down to a multiple of (R447). -/
def resUnits (r : Nat) : Nat :=
  match r with
  | 0 => 1
  | 1 => 8
  | 2 => 32
  | 3 => 128
  | _ => 256

/-- Current references of both phases in converter codes. -/
def Drv.refs (d : Drv) : Int × Int :=
  let u : Int := resUnits d.res
  let q := (d.mUnits / u * u % 1024).toNat
  let amp : Int := if d.standstill then d.fld 4 2 * d.fld 6 1 / 100 else d.fld 4 2
  let code := fun (x : Int) => divRound (amp * x * 2048) (d.iFs * one40)
  (code (sinTurn (q + 256)), code (sinTurn q))

/-- Lower speed of each resolution tier but the finest, in full steps/s (Table 14-4). -/
def tierSpeed (r : Nat) : Nat :=
  match r with
  | 0 => 0
  | 1 => 120
  | 2 => 600
  | 3 => 1500
  | _ => 3000

/-- Tier for a speed in 2^-16 units/s: coarser at its threshold, finer below 0.9 of it. -/
def tierFor (v : Int) : Nat → Nat → Nat
  | 0, r => r
  | n + 1, r =>
    if r < 4 ∧ (tierSpeed (r + 1) : Int) * 256 * fx ≤ |v| then tierFor v n (r + 1)
    else if 0 < r ∧ |v| * 10 < (tierSpeed r : Int) * 256 * fx * 9 then tierFor v n (r - 1)
    else r

/-- Induced voltage of a phase, in 2^-15 µV: applied voltage, winding drop, change of current
(R455). -/
def Drv.emfOf (d : Drv) (p : PhaseSt) : Int :=
  p.duty * d.fld 16 2 * 10000 - 16 * (d.fld 12 2 * p.i + 20 * d.fld 14 2 * (p.i - p.iPrev)) * d.iFs

/-- Magnitude of the induced voltage in µV. -/
def emfMag (a b : Int) : Nat := isqrt (a * a + b * b).toNat / 32768

/-- Load angle in degrees: 90° minus the angle between the vectors, as the nearest degree. -/
def loadAngle (ea eb ra rb : Int) : Int :=
  let n := isqrt ((ea * ea + eb * eb) * (ra * ra + rb * rb)).toNat
  if n = 0 then Config.zeroVectorAngle
  else
    let dot := ea * ra + eb * rb
    -- degrees whose sine, half a degree up, is not above |sin δ|
    let k := ((List.range 90).filter fun k =>
      decide (sinQuarter (2 * k + 1) 180 * n ≤ |dot| * one40)).length
    if dot < 0 then -(k : Int) else k

/-! ## Limits (R453) -/

/-- A raw sample of a limit input at world time `t`: `deb` in 0.1 ms, `n` changes within 100 ms make
chatter. The flags tell that it became active and that an episode began. -/
def Limit.sample (l : Limit) (raw : Bool) (t deb n : Nat) : Bool × Bool × Limit :=
  if raw ≠ l.level then
    let es := t :: l.edges.filter fun e => decide (t ≤ e + 100000000)
    let l' := { l with level := raw, changed := t, edges := es }
    if !l.chatter && decide (n ≤ es.length) then
      (!l.active, true, { l' with chatter := true, active := true })
    else (false, false, l')
  else if !l.chatter && l.active != raw && decide (l.changed + deb * 100000 ≤ t) then
    (raw, false, { l with active := raw })
  else (false, false, l)

end Sys2Proof.Machine
end

