-- ==== Sys2Proof/Machine/Fleet.lean ====
section
/-! DEFINITION. Stops, their release, and the fleet incarnation (R14 to R35, R197, R198). -/

namespace Sys2Proof.Machine

/-! ## Zones (Table 6-13) -/

def zoneCount (b : List Byte) : Nat := leAt b 0 2

/-- Squares of zone `z`, in the order of its ranges. -/
def zoneSquares (b : List Byte) (z : Nat) : List Nat :=
  let w := leAt b (32 + 4 * z) 4
  (List.range (w / 65536)).flatMap fun i =>
    let r := leAt b (32 + 4 * zoneCount b + 4 * (w % 65536 + i)) 4
    (List.range (r / 65536 + 1 - r % 65536)).map fun k => r % 65536 + k

/-- A section of the running Cartoon, empty where there is none. -/
def State.section (s : State) (type : Nat) : List Byte :=
  match s.dsp.running with
  | some c => c.secBytes type
  | none => []

/-! ## Scope (R13, R198) -/

def StopKind.code : StopKind → Nat
  | .fleet => 0
  | .zone => 1
  | .robot => 2

/-- A stop covers a robot. -/
def Stop.covers (x : Stop) (r : Nat) : Bool :=
  match x.kind with
  | .fleet => true
  | .zone => x.robots.contains r
  | .robot => x.index == r

def Fleet.covered (f : Fleet) (r : Nat) : Bool := f.stops.any (·.covers r)

def Fleet.fleetActive (f : Fleet) : Bool := f.stops.any (·.kind == .fleet)

/-- Robots that hold a cell in the squares, in any Canvas slot (R198). -/
def Canvas.holders (c : Canvas) (qs : List Nat) : List Nat :=
  sortNat ((cellsOf (qs.filter c.used)).filterMap fun i =>
    if (c.cell i).state == .held then some (c.cell i).who else none)

/-- The stop is subsumed under Table 1-5. -/
def Fleet.subsumes (f : Fleet) (x : Stop) : Bool :=
  f.fleetActive || f.stops.any fun y =>
    match x.kind with
    | .fleet => false
    | .robot => y.kind == .robot && y.index == x.index
    | .zone => y.kind == .zone && sortNat y.squares == sortNat x.squares

/-- The sequence after this one, 0x0000 left out (R25). -/
def nextSeq (n : Nat) : Nat := if n = 0xFFFF then 1 else n + 1

/-! ## Voiding (R27, R197) -/

/-- One grant under a new stop: a QUEUED or SENT one is due GRANT_UNDELIVERED, before any
acknowledgement of the epoch (Table 6-15); the flag tells that such an acknowledgement is late. -/
def Grant.void (g : Grant) (epoch : Nat) : Bool × Grant :=
  match g.state with
  | .queued | .sent =>
    match g.due with
    | some (.undelivered _, _) => (false, { g with voided := true })
    | some (.delivered, _) => (true, { g with voided := true, due := some (.undelivered 1, epoch) })
    | none => (false, { g with voided := true, due := some (.undelivered 1, epoch) })
  | _ => (false, { g with voided := true })

/-- Void the grants of the robots in scope, purge their payloads, and record GRANT_VOIDED for
those delivered. -/
def State.voidGrants (s : State) (mine : Nat → Bool) (seq : Nat) : State :=
  let hit := s.canvas.grants.filter fun g => mine g.robot && !g.voided
  let late := (hit.filter fun g => (g.void s.epoch.n).1).length
  let s := s.modCanvas fun c =>
    { c with
      grants := c.grants.map fun g => if mine g.robot && !g.voided then (g.void s.epoch.n).2 else g
      lateAck := satAdd 12 c.lateAck late
      robots := (sortNat (c.grants.map (·.robot))).foldl
        (fun t r => if mine r then tblMod robotDefault t r fun x => { x with stand := .none } else t)
        c.robots }
  let s := s.modPalette fun p => { p with grants := p.grants.filter fun g => !mine g.robot }
  hit.foldl (fun s g =>
    if g.state = .delivered then s.emit evGrantVoided g.robot g.gen g.tag seq else s) s

/-- A grant is live at boundary `k`: its last Canvas slot has not passed or a park hold of it
remains (Table 6-12). A voided or withdrawn grant is live until then. -/
def Canvas.liveAt (c : Canvas) (k : Nat) (g : Grant) : Bool :=
  decide (k < g.ends) || (c.hold? (.park g.robot g.gen)).isSome

/-- A grant is live. -/
def State.grantLive (s : State) : Bool := s.canvas.grants.any (s.canvas.liveAt s.canvas.k)

/-! ## Places in a batch (R196, Table 13-5) -/

/-- The present place: the last batch, and the requests of it that have been executed, the one in execution
among them. -/
def Canvas.place (c : Canvas) : Nat × Nat := (c.batchEpoch, c.batchDone + bit c.commit.isSome)

/-- The unit's own batch has come to a place. -/
def Canvas.reached (c : Canvas) (p : Nat × Nat) : Bool :=
  decide (p.1 < c.batchEpoch) || (p.1 == c.batchEpoch && decide (p.2 ≤ c.batchDone))

/-- A stop or release stands at a place; every other input acts where it is taken. -/
def LogEntry.place? : LogEntry → Option (Nat × Nat)
  | .stop _ _ p => some p
  | .release _ _ p => some p
  | _ => none

/-- A logged stop or release whose place is still ahead waits. -/
def State.placed (s : State) (x : LogEntry) : Bool :=
  match x.place? with
  | some p => s.canvas.reached p
  | none => true

/-! ## Raising (R19 to R26) -/

/-- A ZONE stop's squares are blocked (R204). -/
def State.blockZone (s : State) (x : Stop) : State :=
  let (_, left, c) :=
    s.canvas.blockSquares (.zone x.seq) 2 x.index (x.squares.filter s.canvas.used) fun _ => true
  (s.modCanvas fun _ => c).persistCheck left 1 x.index

/-- Robots in scope. -/
def Stop.robotList (x : Stop) : List Nat :=
  match x.kind with
  | .fleet => List.range 256
  | .zone => x.robots
  | .robot => [x.index]

/-- A FLEET stop acts on a PROFILE channel that is not AUTO and brakes on stops: its stroke channel
takes a STOP, and homing in progress brakes and then fails (R450). -/
def Drv.stopped (d : Drv) : Bool := d.mode == 1 && !d.auto && d.stopBrake

def Drv.brakeHoming (d : Drv) (p : Profile) (t : Nat) : Drv :=
  match d.homing with
  | none => d
  | some h =>
    let (x, v, a) := h.move.at t
    let (g, e) := planBrake p.a p.j x v a
    { d with homing := some { h with
        failed := true
        move := { Stroke.restAt t e with kind := .braking, segs := g } } }

def State.stopDrive (seq : Nat) (s : State) (d : Fin 8) : State :=
  let x := s.drv.ch[d]
  if !x.stopped then s
  else
    let p := profileAt (s.section 0x13) x.profileIdx
    let e := s.logEpoch
    let s := s.modStk fun k => { k with inputs := k.inputs ++ [(e, StkInput.drive d.val seq)] }
    s.modDrv fun y => { y with ch := y.ch.set d (x.brakeHoming p s.time) }

/-- Following-error counts of the robots in a stop's scope are 0 from then on (R237). -/
def State.clearErrors (s : State) (x : Stop) : State :=
  let hit := (s.gdl.loops.map (·.1)).filter fun i => decide (i < 256) && x.covers i
  s.modGdl fun g => { g with loops := hit.foldl (fun (t : Tbl LoopSt) (i : Nat) =>
    tblMod loopDefault t i fun l => { l with feStart := none, feMs := 0 }) g.loops }

/-- What a stop that sends frames does to grants, strokes and zones; the same in both units of a
pair. -/
def State.stopEffects (s : State) (x : Stop) : State :=
  let s := s.modFleet fun f =>
    { f with stops := f.stops ++ [x], lastSeq := x.seq, framesSent := f.framesSent + 1 }
  let s := (s.voidGrants x.covers x.seq).clearErrors x
  let e := s.logEpoch
  let s := s.modStk fun k =>
    { k with inputs := k.inputs ++ (x.robotList.map fun r => (e, StkInput.stop r x.seq)) }
  match x.kind with
  | .fleet =>
    (List.finRange 8).foldl (State.stopDrive x.seq) (s.modAir fun a => { a with stopShown := true })
  | .zone => s.blockZone x
  | .robot => s

/-- ROBOTS of a STOP frame: bit r set for each robot in scope (Table 8-13). -/
def robotBits (rs : List Nat) : List Byte :=
  (List.range 32).map fun b =>
    BitVec.ofNat 8 (((List.range 8).map fun j => if rs.contains (8 * b + j) then 2 ^ j else 0).sum)

/-- Payload of a stop's frame (Table 8-13). -/
def State.stopPayload (s : State) (x : Stop) : List Byte :=
  let scope := if x.kind = .fleet then 0xFFFF else x.index
  toLE 1 (9 + 16 * x.kind.code) ++ toLE 2 x.seq ++ toLE 2 s.fleet.incarnation ++
  toLE 4 s.air.superframe ++ toLE 2 scope ++ (if x.kind = .zone then robotBits x.robots else [])

/-- The air MAC is set up: a slot plan is in force, superframes are counted and PAN_ID is set
(Tables 8-17 and 8-20, R253). -/
def State.airSet (s : State) : Bool :=
  s.air.plan.isSome && s.air.counting && s.rf rAirCfg 16 16 != 0xFFFF

/-- The chains are on as well (R504). -/
def State.airOn (s : State) : Bool := s.airSet && s.pwr.state == .run

/-- Carrier group of the radio slot that holds a device time from the present slot on (R254). -/
def Air.groupAt (a : Air) (t : Nat) : Nat :=
  match a.plan with
  | some p => slotGroup p ((a.slot + (t - a.slotStart) / slotNs) % max 1 (planLen p))
  | none => 0

/-- A stop burst may begin: CI2 runs (R531), the unit transmits (R285, Table 13-2), and the chains are on, or the stop
path powers them for a hard-wired source (R23). -/
def State.burstOn (s : State) (hard : Bool) : Bool :=
  s.airSet && s.tmb.running && (s.serving || s.twin.state == .standbyInstep) &&
  (s.pwr.state == .run || (hard && (s.pwr.state == .quiet || s.pwr.state == .sleep)))

/-- The sub-GHz chain sends no repetitions: it is off, or the unit is a standby in echo mode (R288). -/
def State.subSilent (s : State) : Bool :=
  (match s.air.plan with
   | some p => planRate p == 0
   | none => true) || (s.standby && s.air.echo)

/-- The last repetition of a burst has ended by a device time. -/
def Burst.over (b : Burst) (silent : Bool) (t : Nat) : Bool :=
  decide (8 ≤ b.done24) && decide (b.end24 ≤ t) && decide (b.subEnd ≤ t) && (silent || decide (8 ≤ b.doneSub))

/-- The burst in progress is complete once its last repetition has ended (R284, R294). -/
def State.endBurst (s : State) : State :=
  match s.air.burst with
  | none => s
  | some b =>
    if !b.over s.subSilent s.time then s
    else (s.modAir fun a => { a with burst := none }).emit evStopBurst b.seq b.kind b.g1 0

/-- One aborted grant frame counts as not sent. -/
def Grant.unsend (g : Grant) : Grant :=
  { g with frames := g.frames - 1, state := if g.state = .sent ∧ g.frames ≤ 1 then .queued else g.state }

def Air.setCorrPos (a : Air) (chain : Nat) (p : CorrPos) : Air :=
  if chain = 0 then { a with corr24 := p } else { a with corrSub := p }

/-- An aborted CORRECTION counts as not sent: its fragment is the chain's next again. -/
def Air.unsend (a : Air) (c : CorrSent) : Air :=
  let a := if c.pos.msg < a.corrFirst then
      { a with corr := c.msg :: a.corr, corrFirst := c.pos.msg } else a
  a.setCorrPos c.chain c.pos

/-- Frames in transmission at device time `t` are aborted: they are not acknowledged and count as not sent
(R23, Table 8-16). -/
def State.abortFrames (s : State) (t : Nat) : State :=
  let cut := s.air.onAir.filter fun f => decide (t < f.endT)
  let back := s.air.corrSent.filter fun c => decide (t < c.endT)
  let s := s.modAir fun a =>
    (back.foldl Air.unsend a : Air)
  let s := s.modAir fun a =>
    { a with onAir := a.onAir.filter fun f => !decide (t < f.endT)
             corrSent := a.corrSent.filter fun c => !decide (t < c.endT) }
  let aborted := fun (g : Grant) => cut.any fun f => f.kind == .grant g.robot g.gen
  s.modCanvas fun c => { c with grants := c.grants.map fun g => if aborted g then g.unsend else g }

/-- The burst of a stop as it stands at its raising, from the present instant on the present group.
`num` is the stop's number among those that sent frames, `dsn` the sequence number of its frames. -/
def State.burstOf (s : State) (x : Stop) (num dsn : Nat) : Burst :=
  { seq := x.seq, kind := x.kind.code, frame := s.stopPayload x, num := num, dsn := dsn
    mpdu := [], g1 := s.air.groupAt s.time, t0 := s.time, done24 := 0, doneSub := 0, end24 := 0, subEnd := 0
    echo := 0 }

/-- A burst begins (R22, R23, R283). Repetitions that the burst in progress still has are dropped, once its
current frame is complete (Table 1-5). -/
def State.beginBurst (s : State) (b : Burst) : State :=
  let (b, s) := match s.air.burst with
    | some o => ({ b with subEnd := o.subEnd }, s.emit evStopBurst o.seq o.kind o.g1 1)
    | none => (b, s)
  let b := { b with echo := if s.standby then 2500000 else 0 }
  ((s.abortFrames b.t0).modAir fun a => { a with burst := some b }).put .stopPreamble

/-- A burst begun in the middle of another starts when the 2.4 GHz frame on the air is complete. -/
def State.placeBurst (s : State) (b : Burst) : Burst :=
  let t := match s.air.burst with
    | some o => max s.time (o.end24 - o.echo)
    | none => s.time
  { b with t0 := t, g1 := s.air.groupAt t }

/-- A burst whose stop is raised now begins at once where its source is hard-wired or it has a higher scope
than the burst in progress; any other waits for a radio slot start (R22, R23, R283, Table 1-5). That one of
equal or lower scope waits for the burst in progress to end is log entry 55. `placed` tells that t0 and the
group are those of the active. -/
def State.startBurst (s : State) (b : Burst) (hard placed : Bool) : State :=
  let s := s.endBurst
  if !s.burstOn hard then s
  else
    let cuts : Bool := match s.air.burst with
      | some o => decide (b.kind < o.kind)
      | none => false
    if hard || cuts then s.beginBurst (if placed then b else s.placeBurst b)
    else s.modAir fun a => { a with waitingBursts := a.waitingBursts ++ [b] }

/-- Sources whose path is hard-wired: the stop inputs, the register by either port, and the
partner's relay (Table 1-4). -/
def hardSource (source : Nat) : Bool := decide (source ≤ 2) || source == 6

/-- A stop is raised and sequenced in this unit (R25, R26), and relayed with its burst (R24). The flag tells
whether it was subsumed; the number is its sequence. p1 of a subsumed stop shows bit 31 alone
(log entry 54). -/
def State.raiseStop (s : State) (kind : StopKind) (source index : Nat) (squares : List Nat) :
    Bool × Nat × State :=
  let x : Stop :=
    { kind := kind, seq := nextSeq s.fleet.lastSeq, source := source, index := index,
      squares := squares, robots := s.canvas.holders squares, standstill := false }
  let s := s.modFleet fun f => { f with lastSource := source }
  if s.fleet.subsumes x then
    (true, 0, (s.logInput (.stop { x with seq := 0 } true s.canvas.place)).emit evStopRaised kind.code (2 ^ 31) source index)
  else
    let s := s.logInput (.stop x false s.canvas.place)
    let s := s.emit evStopRaised kind.code x.seq source index
    let s := s.stopEffects x
    let (dsn, s) := s.draw
    let b := s.burstOf x s.fleet.framesSent (dsn % 256)
    let s := s.startBurst b (hardSource source) false
    let placed := match s.air.burst with
      | some o => if o.num = b.num then o else b
      | none => b
    (false, x.seq, if s.twin.state = .active then s.put (.twin (.stop x false (some placed))) else s)

/-- The partner sequences this unit's stops (R424): the unit follows an active, has failed to, or is kept
out of the pair beside one that serves. -/
def State.follows (s : State) : Bool :=
  s.standby || s.twin.state == .faulted ||
  (s.twin.state == .isolated && s.twin.link != 0 && (s.twin.peer == 0 || s.twin.peer == 1))

/-- A stop from this unit's own source 0, 1, 2 or 5: where the partner sequences stops, it is relayed, or
only recorded where the link is down (R424); what STOP_RAISED then shows is log entry 54. In SLEEP a source
0, 1 or 2 wakes the device (R505). -/
def State.raiseOwn (s : State) (source : Nat) : State :=
  let s := if s.pwr.state = .sleep ∧ source ≤ 2 then s.modPwr fun p => { p with wake := some (1, p.prior) } else s
  if s.follows then
    if s.twin.link = 0 then s.emit evStopRaised 0 0 source 0
    else s.put (.twin (.stop { bootStop with source := source } false none))
  else (s.raiseStop .fleet source 0 []).2.2

/-! ## Stop inputs (R19 to R23) -/

/-- A stop input takes a level, and the discrepancy and high-time counts follow (R21). -/
def Fleet.setInput (f : Fleet) (b high : Bool) (now : Nat) : Fleet :=
  let f := if b then { f with inputB := high } else { f with inputA := high }
  { f with
    highSince := if f.inputA && f.inputB then some (f.highSince.getD now) else none
    differSince := if f.inputA != f.inputB then some (f.differSince.getD now) else none }

def Fleet.input (f : Fleet) (b : Bool) : Bool := if b then f.inputB else f.inputA

/-- STOP_INPUT_FALL: STOP_B_N where `b`. In DEEP, and while it is entered, the edge is latched by CMP2 (R23,
R507), and so it is while CI2 is halted (Table 18-12). During a reset the boot stop covers it. -/
def execStopInputFall (b : Bool) (s : State) : Res :=
  .next (if !s.fleet.input b then s
    else
      let s := s.modFleet fun f => f.setInput b false s.now
      let latched := s.pwr.state = .deep || s.pwr.toDeep || (s.pwr.booted && !s.tmb.running)
      let s := if latched then s.modPwr fun p => { p with cmp2 := true } else s
      if s.pwr.state = .deep then s
      else if s.pwr.state = .off ∨ !s.tmb.running then s
      else s.raiseOwn 0)

/-- STOP_INPUT_RISE (R21). -/
def execStopInputRise (b : Bool) (s : State) : Res :=
  .next (if s.fleet.input b then s else s.modFleet fun f => f.setInput b true s.now)

/-- FLEET_STOP_WRITE over PCIe, or over the direct port where `dp` (R22). -/
def execFleetStopWrite (dp : Bool) (w : Word) (s : State) : Res :=
  .next (if flagOf w 0 && (!dp || s.dpUp) then s.raiseOwn (if dp then 2 else 1) else s)

/-- STOP_INPUT_DISCREPANCY (R21). -/
def execStopInputDiscrepancy (s : State) : Res :=
  .next (match s.fleet.differSince with
    | some t =>
      if !s.fleet.discrepancy && decide (t + s.fleet.discTime * 10 * ms < s.now) then
        (s.modFleet fun f => { f with discrepancy := true }).emit evStopInputDiscrepancy
          (bit s.fleet.inputA) ((s.now - t) / ms)
      else s
    | none => s)

/-- Both stop inputs have been high together for 100 ms. -/
def State.inputsHigh (s : State) : Bool :=
  match s.fleet.highSince with
  | some t => s.past t (100 * ms)
  | none => false

/-- DISCREPANCY_CLEAR (R21). -/
def execDiscrepancyClear (s : State) : Res :=
  .next (if s.fleet.discrepancy && s.inputsHigh then
      s.modFleet fun f => { f with discrepancy := false } else s)

/-! ## Release (R28 to R32) -/

/-- Condition codes 2 to 7 of Table 1-9 that fail for a stop, lowest first; 0 where none does. -/
def State.releaseCode (s : State) (seq : Nat) : Nat :=
  match s.fleet.stops.find? (·.seq == seq) with
  | none => 2
  | some x =>
    if x.kind = .fleet ∧ !s.inputsHigh then 3
    else if x.kind = .fleet ∧ x.source = 5 ∧ s.tfc.sinceLate < 1000 then 4
    else if x.kind = .fleet ∧ s.fleet.discrepancy then 5
    else if s.twin.state ≠ .solo ∧ s.twin.state ≠ .active then 6
    else if x.kind ≠ .fleet ∧
        (s.fleet.fleetActive ∨ (x.kind = .robot ∧ x.source = 4 ∧ !x.standstill)) then 7
    else 0

/-- A ZONE stop's squares are freed, except where another active ZONE stop covers them (R204). -/
def Canvas.unblockZone (c : Canvas) (seq : Nat) : Canvas :=
  match c.hold? (.zone seq) with
  | none => c
  | some h =>
    let d := c.dropHold (.zone seq)
    (d.freeIf (· == Cell.blocked 2) (cellsOf ((h.squares.map (·.1)).filter fun q => !d.zoned q))).2

/-- A stop is over in this unit's deterministic plane. A Cartoon in test mode ends with the FLEET
release (R158). -/
def State.endStop (s : State) (x : Stop) (role : Nat) : State :=
  let s := s.modFleet fun f => { f with stops := f.stops.filter (·.seq != x.seq) }
  let s := s.emit evStopReleased x.kind.code x.seq role
  let s := if x.kind = .zone then s.modCanvas fun c => c.unblockZone x.seq else s
  if x.kind = .fleet ∧ s.dsp.mode = .test then
    s.modDsp fun d => { d with mode := .stopping, stopRole := role, stopCmd := 0, stopEpoch := s.epoch.n }
  else s

/-- The release of an active stop, relayed to the partner (R31, R32). -/
def State.releaseStop (s : State) (x : Stop) (role : Nat) : State :=
  let s := s.logInput (.release x.seq role s.canvas.place)
  let s := if s.twin.state = .active then s.put (.twin (.release x.seq role)) else s
  (s.modFleet fun f => { f with relResult := 0 }).endStop x role

/-- A release is judged and carried out or refused; `code1` is 1 where no session allows it. The
result is REL_RESULT. `bad` are the words that the freeing of a zone finds uncorrectable (R206). -/
def State.judgeRelease (s : State) (seq role : Nat) (code1 : Bool) (bad : List (BitVec 21)) : Nat × State :=
  let code := if code1 then 1 else s.releaseCode seq
  match s.fleet.stops.find? (·.seq == seq), code with
  | some x, 0 => (0, (s.eccWhere bad (inSquares x.squares)).releaseStop x role)
  | _, _ =>
    (code, (s.modFleet fun f => { f with relResult := code }).emit evStopReleaseRefused seq code role)

/-- STOP_RELEASE_WRITE (R29). Without a session the role recorded is 5. -/
def execStopReleaseWrite (w : Word) (bad : List (BitVec 21)) (s : State) : Res :=
  .next (if !flagOf w 0 then s
    else if s.pcieRole = 0 then (s.judgeRelease (fieldOf w 16 16) 5 true bad).2
    else (s.touch.judgeRelease (fieldOf w 16 16) s.pcieRole false bad).2)

/-- BOOT_STOP_SELF_RELEASE (R28). -/
def execBootStopSelfRelease (s : State) : Res :=
  .next (match s.fleet.stops with
    | [x] =>
      if x.seq == 0 && !s.fleet.bootHold && s.inputsHigh && s.dsp.coldStarted &&
          (s.dsp.mode == .running || s.dsp.mode == .swapPending) && !s.standby then
        s.releaseStop x 4
      else s
    | _ => s)

/-! ## Logged stops and releases of a standby (R196, R424) -/

def State.applyStop (s : State) (x : Stop) (subsumed : Bool) : State :=
  let s := s.modFleet fun f => { f with lastSource := x.source }
  if subsumed then s.emit evStopRaised x.kind.code (2 ^ 31) x.source x.index
  else (s.emit evStopRaised x.kind.code x.seq x.source x.index).stopEffects x

def State.applyRelease (s : State) (seq role : Nat) : State :=
  match s.fleet.stops.find? (·.seq == seq) with
  | some x => s.endStop x role
  | none => s

/-- Stops and releases that waited for their place in the batch act once the batch has come to it. -/
def State.takePlaced (s : State) : State :=
  if !s.standby then s
  else
    let go := fun (x : Nat × LogEntry) => decide (x.1 ≤ s.epoch.n) && x.2.place?.isSome && s.placed x.2
    (s.twin.entries.filter go).foldl (fun s x =>
      match x.2 with
      | .stop y sub _ => s.applyStop y sub
      | .release seq role _ => s.applyRelease seq role
      | _ => s) (s.modTwin fun t => { t with entries := t.entries.filter fun x => !go x })

/-! ## Incarnation (R14 to R17) -/

/-- A write of the incarnation ends with a flash status, 0 where it succeeded (R15). INCARNATION_NEW comes
with that success and shows the value last held in this unit's flash (log entry 56). -/
def State.storeIncarnation (s : State) (status : Nat) : State :=
  if status = 0 then
    let prev := s.fleet.storedIncarnation
    (s.modFleet fun f =>
      { f with storedIncarnation := f.incarnation, incStored := true, incStoredAt := s.time
               incFailAt := none }).emit
      evIncarnationNew s.fleet.incarnation prev s.fleet.incKind
  else
    (s.modFleet fun f => { f with incFailAt := some s.now }).emit evIncarnationStoreFail
      s.fleet.incarnation status

/-- INCARNATION_STORE (R15). -/
def execIncarnationStore (status : BitVec 4) (s : State) : Res :=
  .next (if s.pwr.booted && !s.fleet.incStored && s.fleet.incFailAt == none then
      s.storeIncarnation status.toNat else s)

/-- INCARNATION_STORE_RETRY: one second after a failure (R15). -/
def execIncarnationStoreRetry (status : BitVec 4) (s : State) : Res :=
  .next (match s.fleet.incFailAt with
    | some t => if !s.fleet.incStored && s.past t second then s.storeIncarnation status.toNat else s
    | none => s)

/-- RESTART_END: 16 superframes of the incarnation have passed (R17). -/
def execRestartEnd (s : State) : Res :=
  .next (if s.fleet.restart && decide (17 ≤ s.fleet.superframes) then
      (s.modFleet fun f => { f with restart := false }).emit evRestartEnd s.fleet.incarnation
    else s)

/-- A new incarnation begins (R14, R17, R25, R27, R28): RESTART and the boot stop, no stop sequence taken,
no grant payload left, and the Canvas with its lost regions only. The boot stop holds the strokes of every
robot (R224). -/
def State.newIncarnation (s : State) (kind : Nat) : State :=
  let s := s.modFleet fun f =>
    { f with incarnation := nextSeq f.storedIncarnation, incStored := false, incFailAt := none,
             incKind := kind, incStart := s.now, restart := true, superframes := 0, rebuilt := false,
             stops := [bootStop], lastSeq := 0, framesSent := 0, lastSource := 7 }
  let s := s.modCanvas fun c =>
    { c with robots := c.robots.foldl (fun t x =>
        tblPut robotDefault t x.1 { CRobot.reset with square := x.2.square }) [] }
  let s := s.modStk fun k => { k with chans := tblMap chanDefault (fun c => { c with lastS := none }) k.chans }
  let s := s.modAir fun a => { a with counting := false, superframe := 0 }
  let s := s.modPalette fun p => { p with grants := [] }
  let e := s.logEpoch
  let s := s.modStk fun k =>
    { k with inputs := k.inputs ++ (bootStop.robotList.map fun r => (e, StkInput.stop r 0)) }
  let s := (List.finRange 8).foldl (State.stopDrive 0) (s.clearErrors bootStop)
  s.canvasStart

/-! ## Trims that are still to be staged (R46, R231, R236, R237) -/

def State.loops (s : State) : List Byte := s.section 0x13

def State.routeOf (s : State) (i : Nat) : Option RouteDef :=
  if i < (loopsHdr s.loops).rc then some (routeDefAt s.loops i) else none

def Gdl.loop (g : Gdl) (i : Nat) : LoopSt := tblGet loopDefault g.loops i

/-- Time of a report, and whether it is stale (R231). -/
def GdlReport.at (x : GdlReport) : Int := extendStamp x.tRep x.slotStart

def GdlReport.stale (x : GdlReport) : Bool :=
  decide (x.at + 500 * ms < x.slotStart) || decide ((x.slotEnd : Int) < x.at)

/-- The report lies on its channel's route. -/
def State.onRoute (s : State) (x : GdlReport) : Bool :=
  match (tblGet chanDefault s.stk.chans x.robot).route.bind s.routeOf with
  | some r => r.covers x.sRep
  | none => false

/-- A report that has not been computed will yield a trim. -/
def State.trimDue (s : State) (x : GdlReport) : Bool :=
  let l := s.gdl.loop x.robot
  l.enabled && !x.stale && !s.fleet.covered x.robot && s.onRoute x && decide (l.desc < (loopsHdr s.loops).gc)

/-- A trim of the epoch begun at a boundary is not staged: its report came before the boundary (R43, R44). -/
def State.trimsOwed (s : State) (boundary : Nat) : Bool :=
  s.gdl.reports.any fun x => decide (x.slotEnd ≤ boundary) && s.trimDue x

end Sys2Proof.Machine
end

