-- ==== Sys2Proof/Machine/Mem.lean ====
section
/-! DEFINITION. Bytes of scratch and of the Atelier, and their poisoned words (R70 to R76). -/

namespace Sys2Proof.Machine

/-- The canonical form of a byte memory: addresses strictly rising, and no byte listed that is 0, which is what an
unlisted address reads as (log entry 5). -/
def Memory.wf (m : Tbl Byte) : Bool := tblWf zeroByte m

/-- Bytes `a` to `a + len - 1` of a memory. -/
def memBytes (m : Tbl Byte) (a len : Nat) : List Byte :=
  (List.range len).map fun i => tblGet zeroByte m (a + i)

def memWord (m : Tbl Byte) (a : Nat) : Word := BitVec.ofNat 32 (ofLE (memBytes m a 4))

def memWrite (m : Tbl Byte) (a : Nat) (bs : List Byte) : Tbl Byte := tblPutList zeroByte m a bs

/-- A write clears the poison of each word it writes (R76). -/
def clearPoison (p : Tbl Bool) (a len : Nat) : Tbl Bool :=
  (List.range (len / 4)).foldl (fun p i => tblPut noMark p (a / 4 + i) false) p

/-- First Atelier address, and its size (Table 3-2). -/
def atlBase : Nat := 0x01000000
def atlSize : Nat := 0x400000

def inAtelier (a len : Nat) : Bool := decide (atlBase ≤ a) && decide (a + len ≤ atlBase + atlSize)

/-- Bytes of the Atelier by address. -/
def Atelier.bytes (t : Atelier) (a len : Nat) : List Byte := memBytes t.mem (a - atlBase) len

def Atelier.word (t : Atelier) (a : Nat) : Word := memWord t.mem (a - atlBase)

/-- A write of bytes; it clears the poison of the words it covers whole. -/
def Atelier.write (t : Atelier) (a : Nat) (bs : List Byte) : Atelier :=
  { t with mem := memWrite t.mem (a - atlBase) bs
           poison := clearPoison t.poison (a - atlBase) bs.length }

end Sys2Proof.Machine
end

