-- ==== Sys2Proof/Machine/Operands.lean ====
section
/-! DEFINITION. What the local instructions of an Easel compute (R101 to R113): scalar, lane and
accumulator values, effective addresses, and the registers each instruction reads and writes with
its cost (Tables 3-3 and 4-3 to 4-12). -/

namespace Sys2Proof.Machine

/-! ## Values -/

/-- `sat32` and `sat64` of an exact result. -/
def sat32 (i : Int) : Word := BitVec.ofInt 32 (clampS 32 i)
def sat64 (i : Int) : Word64 := BitVec.ofInt 64 (clampS 64 i)

def ofFlag (b : Bool) : Word := if b then 1 else 0

/-- Table 4-3. -/
def aluVal (op : AluOp) (a b : Word) : Word :=
  match op with
  | .add => a + b
  | .sub => a - b
  | .and => a &&& b
  | .or => a ||| b
  | .xor => a ^^^ b
  | .sll => a <<< (b.toNat % 32)
  | .srl => a >>> (b.toNat % 32)
  | .sra => a.sshiftRight (b.toNat % 32)
  | .slt => ofFlag (a.slt b)
  | .sltu => ofFlag (a.ult b)
  | .min => if a.slt b then a else b
  | .max => if a.slt b then b else a
  | .adds => sat32 (a.toInt + b.toInt)
  | .subs => sat32 (a.toInt - b.toInt)

/-- Leading zeros of a word, 0 to 32. -/
def clzVal (a : Word) : Word := BitVec.ofNat 32 (if a = 0 then 32 else 31 - Nat.log2 a.toNat)

def sextImm (imm : BitVec 16) : Word := imm.signExtend 32
def zextImm (imm : BitVec 16) : Word := imm.zeroExtend 32

/-- Table 4-4, op 0x01 to 0x06. -/
def immVal (op : ImmOp) (a : Word) (imm : BitVec 16) : Word :=
  match op with
  | .addi => a + sextImm imm
  | .andi => a &&& zextImm imm
  | .ori => a ||| zextImm imm
  | .xori => a ^^^ zextImm imm
  | .slti => ofFlag (a.slt (sextImm imm))
  | .sltiu => ofFlag (a.ult (sextImm imm))

def shVal (op : ShOp) (a : Word) (n : Nat) : Word :=
  match op with
  | .sll => a <<< n
  | .srl => a >>> n
  | .sra => a.sshiftRight n

/-- Ones in the low `len` bits. -/
def maskOf (len : Nat) : Word := BitVec.ofNat 32 (2 ^ len - 1)

/-- EXT, EXTS and INS (Table 4-4): `d` is the old destination. -/
def fieldVal (op : FieldOp) (d a : Word) (pos len : Nat) : Word :=
  match op with
  | .ext => (a >>> pos) &&& maskOf len
  | .exts => BitVec.ofInt 32 (signedOf len ((a >>> pos).toNat))
  | .ins => (d &&& ~~~(maskOf len <<< pos)) ||| ((a <<< pos) &&& (maskOf len <<< pos))

/-- Table 4-5, multiplies. -/
def mulVal (op : MulOp) (a b : Word) : Word :=
  match op with
  | .mul => a * b
  | .mulh => BitVec.ofInt 32 (sar (a.toInt * b.toInt) 32)
  | .mulhu => BitVec.ofNat 32 (a.toNat * b.toNat / 2 ^ 32)

/-- Table 4-5, divides: division by zero gives all ones, and a remainder by zero the dividend. -/
def divVal (op : DivOp) (a b : Word) : Word :=
  match op with
  | .div => if b = 0 then 0xFFFFFFFF#32 else BitVec.ofInt 32 (a.toInt.tdiv b.toInt)
  | .divu => if b = 0 then 0xFFFFFFFF#32 else BitVec.ofNat 32 (a.toNat / b.toNat)
  | .rem => if b = 0 then a else BitVec.ofInt 32 (a.toInt.tmod b.toInt)
  | .remu => if b = 0 then a else BitVec.ofNat 32 (a.toNat % b.toNat)

def ones (b : Bool) : Word := if b then 0xFFFFFFFF#32 else 0

/-- Table 4-6 on one lane. -/
def laneVal (op : LaneOp) (a b : Word) : Word :=
  match op with
  | .vadd => a + b
  | .vsub => a - b
  | .vand => a &&& b
  | .vor => a ||| b
  | .vxor => a ^^^ b
  | .vadds => sat32 (a.toInt + b.toInt)
  | .vsubs => sat32 (a.toInt - b.toInt)
  | .vmin => if a.slt b then a else b
  | .vmax => if a.slt b then b else a
  | .vceq => ones (a == b)
  | .vclt => ones (a.slt b)
  | .vcltu => ones (a.ult b)

def vmulVal (op : VMulOp) (a b : Word) : Word :=
  match op with
  | .vmul => a * b
  | .vmulh => BitVec.ofInt 32 (sar (a.toInt * b.toInt) 32)

/-- Accumulation, saturating at 64 bits (R108). -/
def macVal (op : MacOp) (acc : Word64) (a b : Word) : Word64 :=
  match op with
  | .vmac => sat64 (acc.toInt + a.toInt * b.toInt)
  | .vmsu => sat64 (acc.toInt - a.toInt * b.toInt)

/-- AMOV rounds toward minus infinity, AMOVR half upward (R108). -/
def amovVal (op : AmovOp) (acc : Word64) (sh : Nat) : Word :=
  match op with
  | .amov => sat32 (sar acc.toInt sh)
  | .amovr =>
    if sh = 0 then sat32 acc.toInt
    else sat32 (sar (clampS 64 (acc.toInt + ((2 ^ (sh - 1) : Nat) : Int))) sh)

def ahalfVal (op : AhalfOp) (acc : Word64) : Word :=
  match op with
  | .amovl => acc.setWidth 32
  | .amovh => (acc >>> 32).setWidth 32

def aldVal (a : Word) (sh : Nat) : Word64 := a.signExtend 64 <<< sh

/-- Conditions of Table 4-10. -/
def brTaken (op : BrOp) (a b : Word) : Bool :=
  match op with
  | .beq => a == b
  | .bne => a != b
  | .blt => a.slt b
  | .bge => !a.slt b
  | .bltu => a.ult b
  | .bgeu => !a.ult b

def lanes2 {α β γ : Type} (f : α → β → γ) (x : Vector α 8) (y : Vector β 8) : Vector γ 8 :=
  Vector.ofFn fun i => f x[i] y[i]

/-! ## Registers -/

/-- g0 reads 0; writes to it are discarded (Table 3-1). -/
def Bank.rg (b : Bank) (r : GReg) : Word := if r = 0 then 0 else b.g[r]
def Bank.wg (b : Bank) (r : GReg) (w : Word) : Bank := if r = 0 then b else { b with g := b.g.set r w }
def Bank.rv (b : Bank) (r : VReg) : Lanes := b.v[r]
def Bank.wv (b : Bank) (r : VReg) (x : Lanes) : Bank := { b with v := b.v.set r x }
def Bank.ra (b : Bank) (r : AReg) : Accs := b.a[r]
def Bank.wa (b : Bank) (r : AReg) (x : Accs) : Bank := { b with a := b.a.set r x }

/-! ## Memory operands -/

/-- Sign-extended offset of format M. -/
def sextOff (off : BitVec 15) : Word := off.signExtend 32

/-- The effective address (R109). -/
def Bank.ea (b : Bank) (a : GReg) (post : Bool) (off : BitVec 15) : Nat :=
  (if post then b.rg a else b.rg a + sextOff off).toNat

/-- The base update of the post-increment form (R110). -/
def Bank.postInc (b : Bank) (a : GReg) (post : Bool) (off : BitVec 15) : Bank :=
  if post then b.wg a (b.rg a + sextOff off) else b

/-- Words of a 256-bit unit, lane 0 at the lowest address (R71). -/
def lanesOfBytes (bs : List Byte) : Lanes := Vector.ofFn fun i => BitVec.ofNat 32 (leAt bs (4 * i) 4)

def bytesOfLanes (x : Lanes) : List Byte := x.toList.flatMap fun w => toLE 4 w.toNat

/-! ## Issue: registers read and written, units and costs (R77, R78) -/

/-- A unit an instruction may hold. -/
inductive EUnit where
  | none | divider | atelier
deriving DecidableEq, Repr

/-- What R78 needs to know of an instruction. Writes carry their latency; `mac` is the accumulator
a V-MAC adds to, which it reads with the chain latency. -/
structure Usage where
  c : Nat
  rg : List GReg := []
  rv : List VReg := []
  ra : List AReg := []
  mac : Option AReg := Option.none
  wg : List (GReg × Nat) := []
  wv : List (VReg × Nat) := []
  wa : List (AReg × Nat) := []
  unit : EUnit := .none
  busy : Nat := 0

/-- The base register's update of a post-increment access. -/
def baseWrite (a : GReg) (post : Bool) : List (GReg × Nat) := if post then [(a, 1)] else []

/-- Registers, units and cost of each instruction (Tables 3-3 and 4-3 to 4-12). The cost of a
conditional branch is the not-taken one. -/
def usage : EInstr → Usage
  | .alu _ d a b => { c := 1, rg := [a, b], wg := [(d, 1)] }
  | .clz d a => { c := 1, rg := [a], wg := [(d, 1)] }
  | .alui _ d a _ => { c := 1, rg := [a], wg := [(d, 1)] }
  | .li d _ => { c := 1, wg := [(d, 1)] }
  | .lui d _ => { c := 1, wg := [(d, 1)] }
  | .shi _ d a _ => { c := 1, rg := [a], wg := [(d, 1)] }
  | .field op d a _ _ => { c := 1, rg := if op = .ins then [a, d] else [a], wg := [(d, 1)] }
  | .mul _ d a b => { c := 1, rg := [a, b], wg := [(d, 3)] }
  | .div _ d a b => { c := 2, rg := [a, b], wg := [(d, 18)], unit := .divider, busy := 18 }
  | .ld t a post _ => { c := 1, rg := [a], wg := baseWrite a post ++ [(t, 3)] }
  | .st t a post _ => { c := 1, rg := [a, t], wg := baseWrite a post }
  | .vld v a post _ => { c := 2, rg := [a], wg := baseWrite a post, wv := [(v, 4)] }
  | .vst v a post _ => { c := 2, rg := [a], rv := [v], wg := baseWrite a post }
  | .lda t a post _ =>
    { c := 2, rg := [a], wg := baseWrite a post ++ [(t, 44)], unit := .atelier, busy := 44 }
  | .sta t a post _ => { c := 2, rg := [a, t], wg := baseWrite a post, unit := .atelier, busy := 40 }
  | .vlda v a post _ =>
    { c := 2, rg := [a], wg := baseWrite a post, wv := [(v, 44)], unit := .atelier, busy := 44 }
  | .vsta v a post _ =>
    { c := 2, rg := [a], rv := [v], wg := baseWrite a post, unit := .atelier, busy := 40 }
  | .lane _ vd va vb => { c := 1, rv := [va, vb], wv := [(vd, 2)] }
  | .vsel vd va vb vc => { c := 1, rv := [va, vb, vc], wv := [(vd, 2)] }
  | .vabs vd va => { c := 1, rv := [va], wv := [(vd, 2)] }
  | .vshi _ vd va _ => { c := 1, rv := [va], wv := [(vd, 2)] }
  | .vbcast v g => { c := 1, rg := [g], wv := [(v, 2)] }
  | .vext g v _ => { c := 1, rv := [v], wg := [(g, 2)] }
  | .vins v g _ => { c := 1, rg := [g], rv := [v], wv := [(v, 2)] }
  | .vmul _ vd va vb => { c := 1, rv := [va, vb], wv := [(vd, 4)] }
  | .vmac _ acc va vb => { c := 2, rv := [va, vb], mac := some acc, wa := [(acc, 4)] }
  | .amov _ v acc _ => { c := 1, ra := [acc], wv := [(v, 3)] }
  | .ahalf _ v acc => { c := 1, ra := [acc], wv := [(v, 3)] }
  | .aclr acc => { c := 1, wa := [(acc, 3)] }
  | .ald acc v _ => { c := 1, rv := [v], wa := [(acc, 3)] }
  | .br _ a b _ => { c := 1, rg := [a, b] }
  | .jmp _ => { c := 3 }
  | .call _ => { c := 3 }
  | .endTask => { c := 4 }
  | .ret => { c := 3 }
  | .brk => { c := 1 }
  | .lidx d => { c := 1, wg := [(d, 1)] }
  | .loop c _ _ => { c := 2, rg := [c] }
  | .fcprb d s => { c := 24, rg := [s], wg := [(d, 24)] }
  | .fcprbv v s => { c := 40, rg := [s], wv := [(v, 40)] }
  | .flock d _ => { c := 12, wg := [(d, 12)] }
  | .funlock d _ => { c := 8, wg := [(d, 8)] }
  | .fmbs d s _ => { c := 10, rg := [s], wg := [(d, 10)] }
  | .fmbr d t _ => { c := 10, wg := [(d, 10), (t, 10)] }
  | .femit d s _ _ => { c := 16, rg := [s, s + 1, s + 2, s + 3], wg := [(d, 16)] }
  | .ftime d t => { c := 6, wg := [(d, 6), (t, 6)] }
  | .fstamp d => { c := 8, wg := [(d, 8)] }
  | .fstop d s _ => { c := 8, rg := [s], wg := [(d, 8)] }
  | .fsrel d s => { c := 8, rg := [s], wg := [(d, 8)] }
  | .fpcnt d _ => { c := 6, wg := [(d, 6)] }
  | .async _ s _ _ => { c := 6, rg := [s] }

/-- g0 has no writer, so it is always ready. -/
def Bank.rdyG (b : Bank) (r : GReg) : Nat := if r = 0 then 0 else b.readyG[r]

def maxStep (l : List Nat) : Nat := l.foldl max 0

/-- Issue step of an instruction (R78). -/
def Bank.issueAt (b : Bank) (u : Usage) : Nat :=
  maxStep ([b.next] ++ u.rg.map b.rdyG ++ u.rv.map (fun r => b.readyV[r]) ++
    u.ra.map (fun r => b.readyA[r]) ++ u.mac.toList.map (fun r => b.chainA[r]) ++
    u.wg.map (fun x => b.rdyG x.1) ++ u.wv.map (fun x => b.readyV[x.1]) ++
    u.wa.map (fun x => b.readyA[x.1]) ++
    [match u.unit with
     | .none => 0
     | .divider => b.freeDiv
     | .atelier => b.freeAtl])

/-- The timeline after an instruction issued at `t` with issue cost `c` (R78). A V-MAC may
accumulate on from a V-MAC after 2 steps. `steps` is what EAS_STEPS shows until the next issue (DESIGN CHOICE,
log entry 60). -/
def Bank.advance (b : Bank) (u : Usage) (t c : Nat) : Bank :=
  let b := u.wg.foldl (fun b x => if x.1 = 0 then b else { b with readyG := b.readyG.set x.1 (t + x.2) }) b
  let b := u.wv.foldl (fun b x => { b with readyV := b.readyV.set x.1 (t + x.2) }) b
  let b := u.wa.foldl (fun b x =>
    { b with readyA := b.readyA.set x.1 (t + x.2)
             chainA := b.chainA.set x.1 (t + if u.mac = some x.1 then 2 else x.2) }) b
  { b with next := t + c, steps := t + c
           freeDiv := if u.unit = .divider then t + u.busy else b.freeDiv
           freeAtl := if u.unit = .atelier then t + u.busy else b.freeAtl }

/-! ## Loops and calls (R113 to R116) -/

/-- Loops opened at the present call depth, innermost first. -/
def Bank.loopsHere (b : Bank) : List LoopE := b.loops.filter (·.depth == b.rets.length)

/-- The innermost open loop ends at this index and was opened at the present depth (R114). -/
def Bank.atLoopEnd (b : Bank) : Bool :=
  match b.loops with
  | l :: _ => l.last == b.pc && l.depth == b.rets.length
  | [] => false

/-- The loop-end step (R114). -/
def Bank.loopEnd (b : Bank) (e : Nat) : Bank :=
  match b.loops with
  | l :: rest =>
    if l.done + 1 < l.count then
      { b with loops := { l with done := l.done + 1 } :: rest, pc := l.start }
    else { b with loops := rest, pc := e + 1 }
  | [] => b

/-- A transfer to `x` closes the loops of the present depth whose end is less (R115). -/
def Bank.jumpTo (b : Bank) (x : Nat) : Bank :=
  { b with pc := x
           loops := b.loops.filter fun l => !(l.depth == b.rets.length && decide (l.last < x)) }

/-- Instructions that may not stand at a loop's end (R114). -/
def isControl : EInstr → Bool
  | .br .. => true
  | .jmp _ => true
  | .call _ => true
  | .ret => true
  | .endTask => true
  | .brk => true
  | .loop .. => true
  | _ => false

end Sys2Proof.Machine
end

