-- ==== Sys2Proof/Machine/Palette.lean ====
section
/-! DEFINITION. The Palette: read-out, refusals, flush, link faults, and the put and get requests
of Easels (R373 to R385, R124). -/

namespace Sys2Proof.Machine

/-- Times within the last second. -/
def recentTimes (l : List Nat) (now : Nat) : List Nat := l.filter fun t => decide (now < t + second)

/-- What a read-out gives. -/
inductive Got where
  | nothing
  | crc
  | link
  | packet (k : Packet)
deriving DecidableEq, Repr

/-- Every packet of a queue is discarded and counted in FLUSHED; the count and the cells freed. -/
def State.discardQueue (s : State) (q : Nat) : Nat × Nat × State :=
  let x := s.palette.q q
  let n := x.packets.length
  (n, x.used, s.modPalette fun p =>
    p.modQ q fun x => { x with packets := [], flushed := satAdd 8 x.flushed n, headSince := none })

/-- An uncorrectable link word: the queue's packets go and the free list is rebuilt (R380). -/
def State.linkFault (s : State) (q : Nat) : State :=
  let (n, _, s) := s.discardQueue q
  s.modPalette fun p =>
    { p with linkUncorr := satAdd 16 p.linkUncorr 1, rebuilds := p.rebuilds ++ [(q, n, s.now)] }

/-- A packet read out fails its CRC: it is dropped and recorded (R377). Readers: 0 Easel, 1 air
MAC, 2 Ethernet, 3 twin link, 4 host, 5 other. -/
def State.crcDrop (s : State) (q len reader : Nat) : State :=
  let ts := s.now :: recentTimes (s.palette.q q).crcTimes s.now
  (s.modPalette fun p => p.modQ q fun x =>
    { x with crc := satAdd 8 x.crc 1, crcTimes := ts }).emit evPaletteCrcDrop q len reader ts.length

/-- Read the packet at index `i` of queue `q` out: it leaves the queue (R376, R377). -/
def State.readOut (s : State) (q i reader : Nat) (ro : ReadOut) : Got × State :=
  match (s.palette.q q).packets[i]? with
  | none => (.nothing, s)
  | some k =>
    match ro.link with
    | .uncorrectable => (.link, s.linkFault q)
    | link =>
      let s := s.modPalette fun p =>
        { p.modQ q (fun x => { x with packets := x.packets.eraseIdx i, headSince := none }) with
          linkCorr := if link = .corrected then satAdd 16 p.linkCorr 1 else p.linkCorr }
      if ro.crcOk then (.packet k, s) else (.crc, s.crcDrop q k.bytes.length reader)

/-- Read the head packet out. -/
def State.readHead (s : State) (q reader : Nat) (ro : ReadOut) : Got × State :=
  match (s.palette.q q).headIndex with
  | some i => s.readOut q i reader ro
  | none => (.nothing, s)

/-- An unusable packet at the head is dropped and counted in BAD (R385). -/
def State.countBad (s : State) (q : Nat) : State :=
  s.modPalette fun p => p.modQ q fun x => { x with bad := satAdd 8 x.bad 1 }

/-- Kind of arrival a put on a queue gives: 3 for Q23, 4 and 5 for Q19 and Q20 (R384). -/
def arrivalKindOf (q : Nat) : Option Nat :=
  match q with
  | 23 => some 3
  | 19 => some 4
  | 20 => some 5
  | _ => none

/-- EtherType after at most one IEEE 802.1Q tag. -/
def etherType (frame : List Byte) : Nat :=
  let t := ofBE (bytesAt frame 12 2)
  if t = 0x8100 then ofBE (bytesAt frame 16 2) else t

/-- Selector and word of the arrival a packet gives (Table 12-3). -/
def arrivalOf (kind : Nat) (k : Packet) : Nat × Word :=
  let sel := if kind = 3 then leAt k.bytes 0 2 else etherType (k.bytes.drop 8)
  (sel, pack [(28, 3, if kind = 3 then k.level else 0), (16, 12, k.bytes.length), (0, 16, sel)])

/-- A packet put on a queue gives its arrival (R384). -/
def State.arrivalFor (s : State) (q : Nat) (k : Packet) : State :=
  match arrivalKindOf q with
  | some kind =>
    let (sel, w) := arrivalOf kind k
    s.modDsp fun d => (d.arrive kind sel w).2
  | none => s

/-- A put judged at once; the flag tells whether it was queued (R375). -/
def State.putPacket (s : State) (q : Nat) (k : Packet) : Bool × State :=
  let (ok, p) := s.palette.tryPut q k
  let s := s.modPalette fun _ => p
  (ok, if ok then s.arrivalFor q k else s)

/-- A put by the hardware, which waits while the free list is rebuilt (R380). -/
def State.offerPacket (s : State) (q : Nat) (k : Packet) : Bool × State :=
  if s.palette.rebuilds ≠ [] then
    let (ok, p) := s.palette.offer q k
    (ok, s.modPalette fun _ => p)
  else s.putPacket q k

/-! ## Flush (R379) -/

/-- A read of the queue has begun and not finished: only a host get lasts from its GO to its end
(log entry 11). -/
def State.readBegun (s : State) (q : Nat) : Bool :=
  match s.host.getJob with
  | some j => j.queue == q
  | none => false

/-- The flush at the packet boundary. -/
def State.flushNow (s : State) (q role : Nat) : State :=
  let (n, cells, s) := s.discardQueue q
  s.emit evPaletteFlushed q n cells role

/-- PALETTE_FLUSH_WRITE (R379, Table 12-13). -/
def execPaletteFlushWrite (w : Word) (s : State) : Res :=
  .next (s.asRole 1 fun s =>
    let q := fieldOf w 0 6
    let s := s.modPalette fun p => { p with flushQueue := q }
    if !flagOf w 31 then s
    else if s.readBegun q then
      s.modPalette fun p => { p with flushes := p.flushes ++ [{ queue := q, role := s.pcieRole }] }
    else s.flushNow q s.pcieRole)

/-- PALETTE_FLUSH (R379). -/
def execPaletteFlush (q : Fin 64) (s : State) : Res :=
  .next (match s.palette.flushes.find? (·.queue == q.val) with
    | some f =>
      if s.readBegun q then s
      else (s.modPalette fun p => { p with flushes := p.flushes.erase f }).flushNow q f.role
    | none => s)

/-! ## Link faults and partial packets -/

/-- A put that waited for the rebuild is judged now (R380). -/
def State.putWaited (s : State) (w : WaitingPut) : State :=
  let (ok, s) := s.putPacket w.queue w.packet
  if ok then s
  else if 24 ≤ w.queue ∧ w.queue < 32 then
    s.modHost fun h => h.modEvq (w.queue - 24) fun e => e.lose (leAt w.packet.bytes 4 4)
  else s

/-- FREE_LIST_REBUILT (R380). -/
def execFreeListRebuilt (s : State) : Res :=
  let done := s.palette.rebuilds
  let ws := s.palette.waiting
  let s := s.modPalette fun p => { p with rebuilds := [], waiting := [] }
  let s := ws.foldl State.putWaited s
  .next (done.foldl (fun s r =>
    s.emit evPaletteLinkFault r.1 r.2.1 ((s.now - r.2.2) / us)) s)

/-- PARTIAL_PACKET_DISCARD (R382). -/
def execPartialPacketDiscard (q : Fin 64) (s : State) : Res :=
  .next (match s.palette.parts.find? (fun x => x.queue == q.val && s.past x.since ms) with
    | some x => s.modPalette fun p => { p with parts := p.parts.erase x }
    | none => s)

/-! ## Put and get requests of Easels (R124, R125) -/

/-- A result word of Table 4-14. -/
def palWord (status level low : Nat) : Word := pack [(28, 4, status), (24, 3, level), (0, 16, low)]

/-- Queues open to Easels for puts and gets (Tables 12-1 and 12-2). -/
def Palette.easelPut (p : Palette) (q : Nat) : Bool :=
  decide (q ≤ 18) || q == 51 || (decide (52 ≤ q) && bitsOf (p.q q).access 0 1 == 1)

def Palette.easelGet (p : Palette) (q : Nat) : Bool :=
  q == 19 || q == 20 || q == 23 || (decide (32 ≤ q) && decide (q ≤ 48)) ||
  (decide (52 ≤ q) && bitsOf (p.q q).access 1 1 == 1)

/-- Queues open to the host. -/
def Palette.hostPut (p : Palette) (q : Nat) : Bool :=
  q == 23 || (decide (52 ≤ q) && bitsOf (p.q q).access 2 1 == 1)

def Palette.hostGet (p : Palette) (q : Nat) : Bool :=
  decide (52 ≤ q) && bitsOf (p.q q).access 3 1 == 1

/-- A descriptor's reserved bits are 0 and its data area lies in the Atelier (R124). -/
def State.palDescOk (s : State) (put : Bool) (a : Nat) : Bool :=
  let w := s.atelier.word a
  let n := fieldOf w 16 16
  fieldOf w 11 5 == 0 && fieldOf w 6 2 == 0 && (put || fieldOf w 8 3 == 0) &&
  (s.atelier.bytes (a + 4) 28).all (· == 0) && decide (1 ≤ n) && decide (n ≤ 2048) &&
  inAtelier (a + 32) n

/-- A put from a descriptor (Tables 4-13 and 4-14): the status and the result word. -/
def State.easelPut (s : State) (a : Nat) : Nat × Word × State :=
  let w := s.atelier.word a
  let q := fieldOf w 0 6
  if !s.palDescOk true a then (3, palWord 3 0 0, s)
  else if !s.palette.easelPut q then (2, palWord 2 0 0, s)
  else
    let k : Packet := { level := fieldOf w 8 3, bytes := s.atelier.bytes (a + 32) (fieldOf w 16 16) }
    let (ok, s) := s.putPacket q k
    if ok then (0, palWord 0 0 k.cells, s) else (1, palWord 1 0 0, s)

/-- A get by a reader who accepts at most `cap` bytes: the status, level and length, and the bytes
received (Table 4-14). -/
def State.getPacket (s : State) (q cap reader : Nat) (ro : ReadOut) :
    Word × List Byte × State :=
  match (s.palette.q q).head with
  | none => (palWord 1 0 0, [], s)
  | some k =>
    if cap < k.bytes.length then (palWord 4 0 k.bytes.length, [], s)
    else
      match s.readHead q reader ro with
      | (.packet k, s) => (palWord 0 k.level k.bytes.length, k.bytes, s)
      | (.crc, s) => (palWord 5 0 0, [], s)
      | (_, s) => (palWord 1 0 0, [], s)

def State.easelGet (s : State) (a : Nat) (ro : ReadOut) : Nat × Word × State :=
  let w := s.atelier.word a
  let q := fieldOf w 0 6
  if !s.palDescOk false a then (3, palWord 3 0 0, s)
  else if !s.palette.easelGet q then (2, palWord 2 0 0, s)
  else
    let (r, bs, s) := s.getPacket q (fieldOf w 16 16) 0 ro
    (fieldOf r 28 4, r, s.modAtelier fun t => if bs = [] then t else t.write (a + 32) bs)

/-- Bytes 8 to 31 of the digest item of a put: level, length, CRC-32 and status (Table 13-7). -/
def State.putItem (s : State) (a st : Nat) : List Byte :=
  let d := s.atelier.word a
  toLE 1 (fieldOf d 8 3) ++ toLE 2 (fieldOf d 16 16) ++
  toLE 4 (crc32 (s.atelier.bytes (a + 32) (fieldOf d 16 16))) ++ toLE 1 st

/-- PALETTE_REQUEST_COMPLETE (R124). A put waits while the free list is rebuilt (R380). The result
names its stage by the sub-op of Table 4-12. -/
def execPaletteRequestComplete (ro : ReadOut) (s : State) : Res :=
  .next (match s.palette.jobs with
    | [] => s
    | j :: rest =>
      if j.put && s.palette.rebuilds ≠ [] then s
      else
        let q := fieldOf (s.atelier.word j.addr) 0 6
        let s := s.modPalette fun p => { p with jobs := rest }
        let (st, w, s) := if j.put then s.easelPut j.addr else s.easelGet j.addr ro
        let s := if st = 2 ∨ st = 3 then
            s.emit evPaletteRequestRefused j.flow q st (bit (!j.put)) else s
        let k := s.atelier.bytes (j.addr + 32) (fieldOf w 0 16)
        let s := s.item (if j.put then 5 else 6) q
          (if j.put then s.putItem j.addr st else toLE 4 w.toNat ++ toLE 4 (crc32 k))
        s.pushResult (if j.put then 3 else 4) j.task j.slot w)

end Sys2Proof.Machine
end

