-- ==== Sys2Proof/Machine/EaselBase.lean ====
section
/-! DEFINITION. What every instruction of an Easel shares: fetch, issue, faults, quarantine, the end
of a task, and the outputs held under ordered flows (R75 to R93, R99, R100, R153, R160). -/

namespace Sys2Proof.Machine

/-! ## The scheduling trace (R160, Table 5-13) -/

/-- An entry passes the masks: RELEASE and SWAP pass the Easel mask always, and so does an entry
that names no Easel. -/
def Dsp.tracePasses (d : Dsp) (kind easel : Nat) : Bool :=
  d.traceOn && bitsOf d.traceKinds kind 1 == 1 &&
  (decide (6 ≤ kind) || decide (8 ≤ easel) || bitsOf d.traceEasels easel 1 == 1)

def traceDefault : Nat → TraceE := fun _ => TraceE.zero

/-- Words W0 to W3 of an entry (Table 5-30). -/
def traceWords (time kind easel : Nat) (t : TaskCtx) (epoch data : Nat) : TraceE :=
  { w0 := lo32 time
    w1 := pack [(28, 4, kind), (24, 4, easel), (13, 11, t.task), (4, 9, t.flow),
      (3, 1, bit t.urgent), (0, 3, t.level)]
    w2 := lo32 epoch, w3 := lo32 data }

/-- Write a trace entry. In MODE 1 a full trace takes no more and counts what it loses. -/
def State.trace (s : State) (kind easel : Nat) (t : TaskCtx) (data : Nat) : State :=
  if !s.dsp.tracePasses kind easel then s
  else if s.dsp.traceStop && s.dsp.traceFull then
    s.modDsp fun d => { d with traceLost := satAdd 16 d.traceLost 1 }
  else
    let e := traceWords s.time kind easel t s.epoch.n data
    s.modDsp fun d =>
      { d with trace := tblPut traceDefault d.trace d.traceNext e
               traceNext := (d.traceNext + 1) % 4096
               traceFull := d.traceFull || d.traceNext == 4095 }

/-! ## Tasks in service (R150) -/

/-- Tasks an Easel has in service: the running one and the one in its shadow bank. -/
def Easel.inService (x : Easel) : List TaskCtx :=
  (if x.run = .running then [x.bank.task] else []) ++
  (match x.shadow with
   | some b => [b.task]
   | none => [])

def State.inService (s : State) : List TaskCtx := s.easels.toList.flatMap Easel.inService

/-! ## Late epochs (R44, Table 2-18) -/

/-- A task of epoch `n` has not ended. -/
def State.workOf (s : State) (n : Nat) : Bool :=
  s.inService.any (·.epoch == n) || s.dsp.released.any (·.epoch == n)

/-- EPOCH_LATE for each late epoch whose work is complete. -/
def State.lateCheck (s : State) : State :=
  let (left, done) := s.tfc.lates.partition fun l => s.workOf l.n || s.trimsOwed l.boundary
  done.foldl (fun s l => s.emit evEpochLate l.n l.count l.regions (s.now - l.deadline))
    (s.modTfc fun t => { t with lates := left })

/-- Region bit of an Easel: 0 SR1, 1 SR2. -/
def regionBit (k : Nat) : Nat := if k < 4 then 1 else 2

/-- A task of an epoch past its deadline names the region of its Easel (Table 2-18). -/
def State.pastIn (s : State) (k : Fin 8) (t : TaskCtx) : State :=
  s.modTfc fun x =>
    { x with lates := x.lates.map fun l => if l.n = t.epoch then { l with regions := l.regions ||| regionBit k } else l }

/-- The work of a task ends on an Easel. -/
def State.workEnds (s : State) (k : Fin 8) (t : TaskCtx) : State :=
  let s := s.modAtelier fun x =>
    { x with writers := x.writers.filter fun w => !(w.1 == k.val && w.2.1 == t.task) }
  (s.pastIn k t).lateCheck

/-! ## Outputs held under ordered flows (R153) -/

/-- Flow of a task of the running Cartoon (Table 5-5). -/
def State.flowOf (s : State) (task : Nat) : Nat := leAt (s.section 0x01) (32 * task) 2

/-- Easel of a flow in BOUND dispatch (Table 5-6). -/
def State.flowEasel (s : State) (flow : Nat) : Nat := leAt (s.section 0x02) (16 * flow + 1) 1

/-- Every task of a flow with a lower release number has ended. -/
def State.firstOf (s : State) (flow n : Nat) : Bool :=
  !(s.dsp.released.any fun r => s.flowOf r.task == flow && match r.relNo with
    | some m => decide (m < n)
    | none => false) &&
  !(s.dsp.reorder.any fun h => h.flow == flow && decide (h.relNo < n) && (!h.ended || h.outs ≠ []))

/-- A FEMIT record as it is made (R120). The flag tells whether it was suppressed. -/
def State.programEvent (s : State) (code sev time : Nat) (p0 p1 p2 p3 : Nat) : Bool × State :=
  let (made, s) := s.emitAt code sev false time p0 p1 p2 p3
  (!made, s)

/-- Put a request in an Easel's FIFO. -/
def State.pushReq (s : State) (k : Fin 8) (r : FabReq) : State :=
  s.modEasel k fun x => { x with fifo := x.fifo ++ [r] }

/-- The outputs of one task leave, as far as the FIFOs have room: what is left. -/
def State.leave : List HeldOut → State → List HeldOut × State
  | [], s => ([], s)
  | .event code sev n t a b c d :: rest, s =>
    State.leave rest (s.inEpoch n fun s => (s.programEvent code sev t a.toNat b.toNat c.toNat d.toNat).2)
  | .request k r :: rest, s =>
    let k : Fin 8 := Fin.ofNat 8 k
    if s.easels[k].fifo.length < 8 then State.leave rest (s.pushReq k r)
    else (.request k r :: rest, s)

/-- Held outputs leave in release-number order; a task that has ended and holds nothing gives its
entries back. `n` bounds the tasks gone through. -/
def State.drainFlow (flow : Nat) : Nat → State → State
  | 0, s => s
  | n + 1, s =>
    match s.dsp.reorder.find? (fun h => h.flow == flow && s.firstOf flow h.relNo) with
    | none => s
    | some h =>
      let (outs, s) := State.leave h.outs s
      let done := h.ended && outs.isEmpty
      let s := s.modDsp fun d =>
        { d with reorder := d.reorder.filterMap fun g =>
            if g.flow = h.flow ∧ g.relNo = h.relNo then
              if done then none else some { g with outs := outs }
            else some g }
      if done then s.drainFlow flow n else s

def State.drainHeld (s : State) (flow : Nat) : State := s.drainFlow flow (s.dsp.reorder.length + 1)

/-- A task of a POOLED Cartoon that took a release number holds its outputs while a task of its flow
with a lower number has not ended (R153). -/
def State.holding (s : State) (t : TaskCtx) : Bool :=
  match t.relNo, s.dsp.running with
  | some n, some c => c.pooled && !s.firstOf t.flow n
  | _, _ => false

def State.hold (s : State) (t : TaskCtx) (o : HeldOut) : State :=
  s.modDsp fun d =>
    { d with reorder := d.reorder.map fun h =>
        if h.flow = t.flow ∧ some h.relNo = t.relNo then { h with outs := h.outs ++ [o] } else h }

/-- A task of an ordered flow has ended (R153). -/
def State.endHeld (s : State) (t : TaskCtx) : State :=
  (s.modDsp fun d =>
    { d with reorder := d.reorder.map fun h =>
        if h.flow = t.flow ∧ some h.relNo = t.relNo then { h with ended := true } else h }).drainHeld t.flow

/-! ## Quarantine (R91) -/

/-- Operand slots declared by a task (Table 5-5), and how many. -/
def slotMask (tasks : List Byte) (t : Nat) : Nat := leAt tasks (32 * t + 5) 1 % 16

def slotCount (m : Nat) : Nat := bitsOf m 0 1 + bitsOf m 1 1 + bitsOf m 2 1 + bitsOf m 3 1

/-- A flow is quarantined: its waiting tasks are discarded, and FLOW_QUARANTINED is recorded. -/
def State.quarantine (s : State) (flow easel code : Nat) : State :=
  if s.dsp.quarantine.contains flow then s
  else
    let mine (t : Nat) : Bool := s.flowOf t == flow
    let n := (s.dsp.instances.filter fun i => mine i.task).length +
      (s.dsp.released.filter fun r => mine r.task).length
    let s := s.modDsp fun d =>
      { d with quarantine := d.quarantine ++ [flow]
               instances := d.instances.filter fun i => !mine i.task
               released := d.released.filter fun r => !mine r.task }
    ((s.drainHeld flow).emit evFlowQuarantined flow n easel code).lateCheck

/-! ## Faults and the end of a task (R83, R85, R90, R91) -/

/-- EASEL_HALTED, and the Easel stands still (R97). -/
def State.haltEasel (s : State) (k : Fin 8) (cause : Nat) : State :=
  (s.modEasel k fun x => { x with halted := true, stepOne := false }).emit evEaselHalted k
    s.easels[k].bank.pc cause

/-- A fault at the present instruction, which has no effect. -/
def State.easelFault (s : State) (k : Fin 8) (code : Nat) (addr : Word) : State :=
  let x := s.easels[k]
  let t := x.bank.task
  let s := s.emit evEaselFault k code (65536 * t.task + t.flow) x.bank.pc
  let s := s.modEasel k fun x =>
    { x with run := .faultExit, brkSkip := false, faultCount := satAdd 8 x.faultCount 1, faultCode := code
             faultPc := x.bank.pc, faultAddr := addr
             bank := { x.bank with loops := [], rets := [] } }
  let s := ((s.trace 5 k t code).endHeld t).pastIn k t
  let s := (s.quarantine t.flow k code).workEnds k t
  if x.stepOne then s.haltEasel k 1 else s

/-- The defined scratch words of a task that had been pre-empted: what the other wrote is defined too. -/
def Easel.knownBack (x : Easel) : Option (Tbl Bool) :=
  match x.shadowKnown, x.scrKnown with
  | some a, some b => some (b.foldl (fun t w => tblPut noMark t w.1 w.2) a)
  | a, _ => a

/-- After END or fault exit: the shadow bank is restored, or the Easel idles (R85). -/
def State.settle (s : State) (k : Fin 8) : State :=
  match s.easels[k].shadow with
  | some b =>
    (s.modEasel k fun x =>
      { x with run := .running, shadow := none, bank := b
               scrKnown := x.knownBack, shadowKnown := none }).trace 3 k b.task 0
  | none => s.modEasel k fun x => { x with run := .idle }

/-- END (R83, R116). -/
def State.endTask (s : State) (k : Fin 8) : State :=
  let b := s.easels[k].bank
  let s := s.modEasel k fun x =>
    { x with run := .idle, bank := { x.bank with loops := [], rets := [] } }
  (((s.trace 1 k b.task b.steps).endHeld b.task).workEnds k b.task).settle k

/-! ## Issue (R75 to R79, R99, R114) -/

/-- Halting belongs to test mode (R95): outside it nothing is halted. -/
def State.halted (s : State) (k : Fin 8) : Bool := s.easels[k].halted && s.dsp.mode == .test

/-- Cause of a halt before the instruction at the pc: 2 or 3 for an enabled breakpoint (R96). -/
def State.breakHere (s : State) (k : Fin 8) : Option Nat :=
  let x := s.easels[k]
  if s.dsp.mode ≠ .test ∨ x.brkSkip then none
  else if x.brk0En && x.brk0 == x.bank.pc then some 2
  else if x.brk1En && x.brk1 == x.bank.pc then some 3
  else none

/-- The Easel issues an instruction. -/
def State.issues (s : State) (k : Fin 8) : Bool :=
  s.awake && s.easels[k].run == .running && !s.halted k && (s.breakHere k).isNone

def Easel.word (x : Easel) (i : Nat) : Nat := (tblGet imemFill x.imem (i % 16384)).toNat

/-- The instruction at the pc, where its words are one. -/
def Easel.insn (x : Easel) : Option EInstr := decodeEasel (x.word x.bank.pc) (x.word (x.bank.pc + 1))

/-- The word at the pc is the first of a LOOP. -/
def Easel.twoWords (x : Easel) : Bool := bitsOf (x.word x.bank.pc) 26 6 == 0x31

/-- The fetch finds a word uncorrectable or poisoned. LOOP has two words. -/
def Easel.fetchBad (x : Easel) (e : At) : Bool :=
  e.fetch == .uncorrectable || tblGet noMark x.imemPoison x.bank.pc ||
  (x.twoWords && (e.second == .uncorrectable || tblGet noMark x.imemPoison ((x.bank.pc + 1) % 16384)))

/-- ILLEGAL where the state makes it so: a target above 16,383, a LOOP that does not nest, or a
control instruction at a loop's end (R112 to R114). -/
def Bank.illegal (b : Bank) (i : EInstr) : Bool :=
  (b.atLoopEnd && isControl i) ||
  match i with
  | .br _ _ _ off => decide (16383 < b.pc + off.toNat)
  | .jmp off => decide (16383 < b.pc + off.toNat)
  | .loop _ _ last =>
    decide (last.toNat < b.pc + 2) || b.loopsHere.any fun l => decide (l.last ≤ last.toNat)
  | _ => false

/-- A corrected instruction word is counted and recorded (R75). Its address is the word's byte address. -/
def State.imemCorrected (s : State) (k : Fin 8) (m : Ecc) (i : Nat) : State :=
  if m = .corrected then
    (s.modEasel k fun x => { x with imemCorr := satAdd 16 x.imemCorr 1 }).emit evEccCorrected k 0 (4 * i)
  else s

/-- The words of a fetch, one by one. -/
def State.fetchCorrected (s : State) (e : At) (x : Easel) : State :=
  let s := s.imemCorrected e.k e.fetch x.bank.pc
  if x.twoWords then s.imemCorrected e.k e.second ((x.bank.pc + 1) % 16384) else s

/-- Issue cost of an instruction (R78, R114). -/
def Bank.cost (b : Bank) (i : EInstr) (taken : Bool) : Nat :=
  (if taken then 3 else (usage i).c) + bit b.atLoopEnd

/-- The fault of an instruction, in the order of Table 3-5: the codes that depend on the state, its
own faults, and BUDGET, whose address is the charged steps at its issue. -/
def Bank.faultOf (b : Bank) (i : EInstr) (own : Option (Nat × Word)) (taken : Bool) :
    Option (Nat × Word) :=
  if b.illegal i then some (2, 0)
  else match own with
    | some f => some f
    | none =>
      let t := b.issueAt (usage i)
      if b.task.budget < t + b.cost i taken then some (11, lo32 t) else none

/-- The bank after an instruction's own effect: its timeline, the next index, and the loop-end step
(R78, R114). -/
def Bank.finish (old new : Bank) (i : EInstr) (taken : Bool) : Bank :=
  let e := old.pc
  let b := if old.atLoopEnd then new.loopEnd e else new
  { b.advance (usage i) (old.issueAt (usage i)) (old.cost i taken) with pc := b.pc % 16384 }

/-- What an instruction of its own does: its faults, whether it takes a branch, its effect on the
bank and the rest of the state (none where it waits for a logged result, R422), and what follows its
issue. -/
structure EAct where
  fault : State → Bank → Option (Nat × Word) := fun _ _ => none
  taken : Bank → Bool := fun _ => false
  act : State → Bank → Option (Bank × State)
  after : State → State := id

/-- What follows the issue of an instruction that was stepped: the Easel halts again (R96). -/
def State.stepped (s : State) (k : Fin 8) (step : Bool) : State :=
  if step && !s.easels[k].halted then s.haltEasel k 1
  else s.modEasel k fun x => { x with stepOne := false }

/-- An instruction command: it acts where its Easel issues and holds this instruction at the pc;
otherwise nothing happens (log entry 2). -/
def State.runOn (s : State) (e : At) (i : EInstr) (x : EAct) : State :=
  let el := s.easels[e.k]
  let b := el.bank
  if !s.issues e.k then s
  else if el.fetchBad e then s.easelFault e.k 1 0
  else if el.insn ≠ some i then s
  else
    match b.faultOf i (x.fault s b) (x.taken b) with
    | some (code, addr) => (s.fetchCorrected e el).easelFault e.k code addr
    | none =>
      match x.act s b with
      | none => s
      | some (b', s') =>
        let s' := s'.fetchCorrected e el
        let s' := s'.modEasel e.k fun y =>
          { y with bank := b.finish b' i (x.taken b), brkSkip := false }
        (x.after s').stepped e.k el.stepOne

/-- An instruction that changes its bank only, and goes on at the next index. -/
def State.runLocal (s : State) (e : At) (i : EInstr) (f : Bank → Bank) : Res :=
  .next (s.runOn e i { act := fun s b => some ({ f b with pc := b.pc + 1 }, s) })

end Sys2Proof.Machine
end

