-- ==== Sys2Proof/Machine/GnssSolve.lean ====
section
/-! DEFINITION. What the GNSS receiver computes from its measurements: ionosphere-free combinations, time
solution, residuals, free code position and self-survey (R325, R326, R328, R329). Positions and lengths are in
0.1 mm, computed exactly. What the spec leaves open of the estimators is log entry 63's. -/

namespace Sys2Proof.Machine

abbrev Pos := Int × Int × Int

/-! ## Least squares -/

/-- One elimination step on the diagonal; a normal matrix with a 0 there does not determine that unknown. -/
def gaussStep (m : List (List ℚ)) (j : Nat) : Option (List (List ℚ)) :=
  let r := m.getD j []
  let p := r.getD j 0
  if p = 0 then none
  else
    let r := r.map (· / p)
    some (m.mapIdx fun i x => if i = j then r else List.zipWith (fun a b => a - x.getD j 0 * b) x r)

/-- An observation equation: its design row, the value observed and its weight. -/
structure ObsRow where
  design : List ℚ
  value : ℚ
  weight : ℚ
deriving DecidableEq, Repr

/-- Weighted least squares in `n` unknowns: their values and their covariance matrix, where the rows determine
them. -/
def leastSquares (n : Nat) (rows : List ObsRow) : Option (List ℚ × List (List ℚ)) :=
  let sum := fun (f : ObsRow → ℚ) => (rows.map fun r => r.weight * f r).sum
  let m := (List.range n).map fun i =>
    ((List.range n).map fun j => sum fun r => r.design.getD i 0 * r.design.getD j 0) ++
    [sum fun r => r.design.getD i 0 * r.value] ++
    (List.range n).map fun j => if i = j then 1 else 0
  ((List.range n).foldlM gaussStep m).map fun m => (m.map (·.getD n 0), m.map (·.drop (n + 1)))

/-- The nearest whole number. -/
def roundQ (x : ℚ) : Int := (x + 1 / 2).floor

/-- The root of a number that is not negative, rounded up to a whole number. -/
def rootUp (x : ℚ) : Nat :=
  let n := (-((-x).floor)).toNat
  let r := isqrt n
  if r * r = n then r else r + 1

/-! ## Combinations (R325) -/

/-- The ionosphere-free combination of an upper and a lower range: f1 and f2 are 154 and 115 times
10.23 MHz. -/
def ionoFree (u l : Int) : ℚ := (23716 * u - 13225 * l) / 10491

/-- Both primary signals are tracked. -/
def dualBand (o : GnssSat) : Bool := o.cn0U != 0 && o.cn0L != 0

/-- The pseudorange the time solution uses, less its prediction: the combination where both bands are tracked,
else the upper primary with the broadcast ionosphere. -/
def codeRange (o : GnssSat) : Option ℚ :=
  if o.cn0U = 0 then none
  else if o.cn0L = 0 then some ((o.pU - o.iono : Int) : ℚ)
  else some (ionoFree o.pU o.pL)

def weightOf (sd : Nat) : ℚ := 1 / ((max 1 sd : Nat) : ℚ) ^ 2

/-- Product of a direction in 10^-6 and a difference of positions. -/
def along (d a b : Pos) : ℚ :=
  ((d.1 * (a.1 - b.1) + d.2.1 * (a.2.1 - b.2.1) + d.2.2 * (a.2.2 - b.2.2) : Int) : ℚ) / 1000000

def designOf (d : Pos) : List ℚ := [-(d.1 : ℚ) / 1000000, -(d.2.1 : ℚ) / 1000000, -(d.2.2 : ℚ) / 1000000]

/-! ## Time solution and residuals (R326, R337) -/

/-- Clock terms that satellites show at a position, with their slots and weights. -/
def clockTerms (base p : Pos) (sats : List GnssSat) : List (Fin 64 × ℚ × ℚ) :=
  sats.filterMap fun o => (codeRange o).map fun x => (o.slot, x + along o.dir p base, weightOf o.sd)

/-- Position and clock term from code: offsets from `base` with their covariance. -/
def codeFit (sats : List GnssSat) : Option (List ℚ × List (List ℚ)) :=
  leastSquares 4 (sats.filterMap fun o => (codeRange o).map fun x =>
    { design := designOf o.dir ++ [1], value := x, weight := weightOf o.sd })

def shift (base : Pos) (x : List ℚ) : Pos :=
  (base.1 + roundQ (x.getD 0 0), base.2.1 + roundQ (x.getD 1 0), base.2.2 + roundQ (x.getD 2 0))

/-- Clock term and its variance in mm²: the weighted mean at a known position, else the fit's. -/
def clockFit (arp : Option Pos) (base : Pos) (sats : List GnssSat) : Option (ℚ × ℚ) :=
  match arp with
  | some p =>
    let l := clockTerms base p sats
    let w := (l.map fun x => x.2.2).sum
    if w = 0 then none else some ((l.map fun x => x.2.1 * x.2.2).sum / w, 1 / w)
  | none => (codeFit sats).map fun f => (f.1.getD 3 0, (f.2.getD 3 []).getD 3 0)

/-- Δ in ns of a clock term: device time ahead gives a negative Δ. -/
def deltaOf (b : ℚ) : Int := roundQ (-b * 100000 / 299792458)

/-- 2 σ_t in ns of a clock term's variance in mm². -/
def twoSigma (v : ℚ) : Nat := rootUp (4 * v * (1000000 / 299792458) ^ 2)

/-- The median: the mean of the middle two of an even number. -/
def medianQ (l : List ℚ) : ℚ :=
  let m := sortBy (fun a b => decide (a ≤ b)) l
  (m.getD ((m.length - 1) / 2) 0 + m.getD (m.length / 2) 0) / 2

/-- Residuals in 0.1 mm by slot: beside the common clock term at a known position, else inside the position
solution of 5 or more satellites. -/
def residuals (arp : Option Pos) (base : Pos) (sats : List GnssSat) : List (Fin 64 × ℚ) :=
  match arp with
  | some p =>
    let l := clockTerms base p sats
    let b := medianQ (l.map fun x => x.2.1)
    l.map fun x => (x.1, x.2.1 - b)
  | none =>
    let l := clockTerms base base sats
    if l.length < 5 then []
    else match codeFit sats with
      | none => []
      | some f => sats.filterMap fun o => (codeRange o).map fun x =>
          (o.slot, x - ((List.zipWith (· * ·) (designOf o.dir ++ [1]) f.1).sum))

/-! ## Self-survey (R328) -/

/-- The equations of one satellite in one epoch, from an origin: code, and phase with 10,000 times its weight
and the ambiguity of its arc. Unknowns: position, zenith wet delay, ambiguities. -/
def SurveyObs.rows (origin : Pos) (arcs : List (Nat × Nat)) (o : SurveyObs) : List ObsRow :=
  let d := designOf o.dir ++ [(o.wet : ℚ) / 1000]
  let at' := along o.dir origin o.base
  [{ design := d ++ arcs.map fun _ => 0, value := ionoFree o.pU o.pL + at', weight := weightOf o.sd },
   { design := d ++ arcs.map fun a => if a = o.arc then 1 else 0
     value := ionoFree o.lU o.lL + at'
     weight := 10000 * weightOf o.sd }]

/-- The clock term of an epoch leaves its equations: each less their weighted mean. -/
def lessMean (rows : List ObsRow) : List ObsRow :=
  let w := (rows.map (·.weight)).sum
  let mean := fun (f : ObsRow → ℚ) => (rows.map fun r => r.weight * f r).sum / w
  rows.map fun r =>
    { r with
      design := r.design.mapIdx fun i x => x - mean fun q => q.design.getD i 0
      value := r.value - mean (·.value) }

/-- Position of what a survey has gathered and its 3-D standard deviation in mm, rounded up. -/
def surveyFit (l : List SurveyObs) : Option (Pos × Nat) :=
  let origin := match l with
    | o :: _ => o.base
    | [] => (0, 0, 0)
  let arcs := (l.map (·.arc)).eraseDups
  let rows := (l.map (·.epoch)).eraseDups.flatMap fun e =>
    lessMean ((l.filter (·.epoch == e)).flatMap (SurveyObs.rows origin arcs))
  (leastSquares (4 + arcs.length) rows).map fun f =>
    (shift origin f.1, rootUp ((List.range 3).map fun i => (f.2.getD i []).getD i 0).sum)

/-- The mean of positions. -/
def meanPos (l : List Pos) : Pos :=
  let n : Int := max 1 l.length
  let m := fun (f : Pos → Int) => roundQ (((l.map f).sum : Int) / (n : ℚ))
  (m (·.1), m (·.2.1), m (·.2.2))

end Sys2Proof.Machine
end

