-- ==== Sys2Proof/Machine/Rtcm.lean ====
section
/-! DEFINITION. The RTCM 3.3 messages of the correction stream (R332, R333). The bit layouts are the
standard's (log entry 40). -/

namespace Sys2Proof.Machine

/-- Fields of widths, most significant bit first, as one number and its length. -/
def bitsBE (fs : List (Nat × Nat)) : Nat × Nat :=
  fs.foldl (fun a f => (a.1 * 2 ^ f.1 + f.2 % 2 ^ f.1, a.2 + f.1)) (0, 0)

/-- The fields in bytes, the last filled with 0 bits. -/
def packBE (fs : List (Nat × Nat)) : List Byte :=
  let (v, n) := bitsBE fs
  let k := ceilDiv n 8
  toBE k (v * 2 ^ (8 * k - n))

/-- CRC-24Q. -/
def crc24q (l : List Byte) : Nat :=
  l.foldl (fun c b => (List.range 8).foldl
    (fun c _ => if c / 2 ^ 23 % 2 = 1 then (c * 2 % 2 ^ 24) ^^^ 0x864CFB else c * 2 % 2 ^ 24)
    (c ^^^ (b.toNat * 2 ^ 16))) 0

/-- A complete frame: preamble, 10-bit length, payload and CRC. -/
def rtcmFrame (payload : List Byte) : List Byte :=
  let f := 0xD3#8 :: toBE 2 payload.length ++ payload
  f ++ toBE 3 (crc24q f)

/-! ## MSM7 -/

/-- Constellations in the order of the section and of Table 10-6, as systems of Table 10-21. -/
def msmSys (c : Nat) : Nat := [0, 1, 3, 2].getD c 0

def msmNumber (c : Nat) : Nat := [1077, 1097, 1117, 1127].getD c 1077

/-- MSM signal number of a component of a system. -/
def signalId (sys comp : Nat) : Nat :=
  let upper := match sys with
    | 1 => [4, 2]
    | 2 => [30, 31]
    | _ => [2, 31]
  (upper ++ [22, 23]).getD comp 0

/-- The component is the primary signal of its band (Table 10-1). -/
def isPrimary (sys comp : Nat) : Bool :=
  comp == 3 || comp == (if sys = 1 ∨ sys = 2 then 1 else 0)

/-- Lock time indicator of 10 bits for a time since the last slip in ms. -/
def lockInd (t : Nat) : Nat :=
  if t < 64 then t
  else
    let k := Nat.log2 t - 5
    min 704 (32 * (k + 1) + (t - 2 ^ (k + 5)) / 2 ^ k)

/-- Epoch time in ms of the week: TAI − 33 s for BeiDou, TAI − 19 s for the others (R333). -/
def msmEpoch (sys t : Nat) : Nat :=
  let off : Int := if sys = 2 then 33000 else 19000
  (((t / 1000000 : Nat) : Int) - off - 259200000).emod 604800000 |>.toNat

/-- A satellite of a message: its number and observations. -/
structure MsmSat where
  prn : Nat
  x : GnssSat
deriving DecidableEq, Repr

def insertSat (y : MsmSat) : List MsmSat → List MsmSat
  | [] => [y]
  | z :: t => if y.prn ≤ z.prn then y :: z :: t else z :: insertSat y t

/-- Signals of a message in rising order. -/
def msmSignals (sys : Nat) (sats : List MsmSat) : List Nat :=
  (List.range 33).filter fun g => sats.any fun y => y.x.cells.any fun c => signalId sys c.comp == g

def cellOf (sys : Nat) (y : MsmSat) (g : Nat) : Option GnssCell :=
  y.x.cells.find? fun c => signalId sys c.comp == g

/-- MSM7 payload. -/
def msm7 (c station t : Nat) (more ext : Bool) (sats : List MsmSat) : List Byte :=
  let sys := msmSys c
  let sats := sats.foldr insertSat []
  let sigs := msmSignals sys sats
  let grid := sats.flatMap fun y => sigs.map fun g => cellOf sys y g
  let cells := grid.filterMap id
  let satBits := (List.range 64).map fun i => (1, bit (sats.any fun y => y.prn == i + 1))
  let sigBits := (List.range 32).map fun i => (1, bit (sigs.contains (i + 1)))
  packBE <|
    [(12, msmNumber c), (12, station), (30, msmEpoch sys t), (1, bit more), (3, 0), (7, 0), (2, 1),
     (2, bit ext), (1, 0), (3, 0)] ++ satBits ++ sigBits ++ grid.map (fun x => (1, bit x.isSome)) ++
    sats.map (fun y => (8, y.x.ms.toNat)) ++ sats.map (fun y => (4, y.x.info.toNat)) ++
    sats.map (fun y => (10, y.x.frac.toNat)) ++ sats.map (fun y => (14, y.x.rate.toNat)) ++
    cells.map (fun z => (20, z.range.toNat)) ++ cells.map (fun z => (24, z.phase.toNat)) ++
    cells.map (fun z => (10, lockInd z.slip)) ++ cells.map (fun z => (1, bit z.half)) ++
    cells.map (fun z => (10, z.cnr.toNat)) ++ cells.map (fun z => (15, z.rate.toNat))

/-! ## 1005, 1006 and 1033 -/

/-- Payload of 1005, or of 1006 with a height in 0.1 mm. -/
def arpMsg (station : Nat) (p : Int × Int × Int) (height : Option Nat) : List Byte :=
  let o := Config.rtcmOpen
  packBE <|
    [(12, if height.isSome then 1006 else 1005), (12, station), (6, bitsOf o 0 6), (4, bitsOf o 6 4),
     (38, codeOf 38 p.1), (1, bitsOf o 10 1), (1, 0), (38, codeOf 38 p.2.1), (2, bitsOf o 11 2),
     (38, codeOf 38 p.2.2)] ++
    match height with
    | some h => [(16, h)]
    | none => []

/-- Payload of 1033: texts with their lengths before them. -/
def descMsg (station : Nat) (antenna : List Byte) (setVersion : Nat) : List Byte :=
  let n := min Config.antSplit antenna.length
  let text := fun (l : List Byte) => toLE 1 l.length ++ l
  let head := packBE [(12, 1033), (12, station)]
  head ++ text (antenna.take n) ++ toLE 1 (bitsOf Config.rtcmOpen 13 8) ++ text (antenna.drop n) ++
  text [0x53#8, 0x4B#8, 0x45#8, 0x4C#8, 0x52#8, 0x59#8, 0x4E#8, 0x20#8, 0x50#8, 0x44#8, 0x39#8, 0x36#8, 0x34#8, 0x30#8] ++
  text (Config.firmwareText setVersion) ++ text Config.serialText

end Sys2Proof.Machine
end

