-- ==== Sys2Proof/Machine/Gates.lean ====
section
/-! DEFINITION. Gates in the Canvas (R458, R459). -/

namespace Sys2Proof.Machine

/-- Gate channel of a square, where its FLAGS name one (Table 6-3). -/
def Canvas.gateOf (c : Canvas) (q : Nat) : Option Nat :=
  let f := (squareAt c.map q).flags
  if c.used q && f / 4 % 2 == 1 then some (f / 8 % 8) else none

/-- Squares of a channel's gate with a cell HELD with HALO 0 at an age up to `l`, and the robots. -/
def Canvas.gateHeld (c : Canvas) (d now l : Nat) : List (Nat × Nat) :=
  c.cells.filterMap fun x =>
    if x.2.state == .held && !x.2.halo && decide (ageOf now (x.1 % 128) ≤ l)
        && c.gateOf (x.1 / 128) == some d then some (x.1 / 128, x.2.who) else none

/-- Canvas slots ahead at which a gate is wanted open: OPEN_TIME in slots, and one. -/
def Drv.gateSlots (d : Drv) (periodNs : Nat) : Nat := ceilDiv (d.fld 48 2 * 1000000) periodNs + 1

/-- The wants are judged with a now column; a change issues MOVE_POS in an epoch. Of two changes for
one stroke batch only the last one's request stays (Table 14-6). -/
def State.judgeWant (now epoch : Nat) (s : State) (d : Fin 8) : State :=
  let x := s.drv.ch[d]
  if !x.auto then s
  else
    let want := s.canvas.gateHeld d.val now (x.gateSlots s.canvas.periodNs) != []
    if want == s.stk.wants.contains d.val then s
    else s.modStk fun k =>
      { k with
        wants := if want then k.wants ++ [d.val] else k.wants.filter (· != d.val)
        gates := (k.gates.filter fun g => !(g.1 == epoch && g.2.1 == d.val)) ++ [(epoch, d.val, want)] }

def State.judgeWants (s : State) (now epoch : Nat) : State :=
  (List.finRange 8).foldl (State.judgeWant now epoch) s

/-- PSG_CH_STATE.STATE. -/
def DrvKind.code : DrvKind → Nat
  | .off => 0
  | .unhomed => 1
  | .homing => 2
  | .following => 3
  | .follow => 4
  | .fault => 5

/-- GATE_NOT_OPEN for each robot with path cells at ages 0 to 2 in a gate square whose gate is not
confirmed open (R459). -/
def State.gateNotOpen (s : State) (now : Nat) (d : Fin 8) : State :=
  let x := s.drv.ch[d]
  if x.open_ then s
  else (s.canvas.gateHeld d.val now 2).eraseDups.foldl
    (fun s p => s.emit evGateNotOpen d.val p.1 p.2 x.st.code) s

def State.gatesNotOpen (s : State) (now : Nat) : State :=
  (List.finRange 8).foldl (fun s d => s.gateNotOpen now d) s

/-- Epoch that holds a device time (R458). -/
def Epoch.holding (e : Epoch) (t : Nat) : Nat :=
  ((e.n : Int) + ((t : Int) - e.nominal) / (max 1 e.length : Nat)).toNat

/-- Canvas slot boundaries up to number `k` take effect: each old now column reads as FREE and its sweep begins,
from device time `t`; the gates are judged at the last (R171, R172, R458, R459). -/
def State.passColumns (s : State) (k t : Nat) : State :=
  let c := s.canvas
  let cols := (List.range (min 128 (k - c.k))).map fun i => (c.k + i) % 128
  let new := cols.map fun col => ({ column := col, nominal := t, late := false } : Sweep)
  let s := s.modCanvas fun c =>
    { c with
      k := max c.k k
      cells := c.cells.filter fun x => !cols.contains (x.1 % 128)
      sweeps := (c.sweeps.filter fun w => !cols.contains w.column) ++ new }
  if cols = [] then s
  else
    let s := s.judgeWants s.canvas.now (s.epoch.holding t)
    s.gatesNotOpen s.canvas.now

end Sys2Proof.Machine
end

