-- ==== Sys2Proof/Machine/Servo.lean ====
section
/-! DEFINITION. The time servo and its states (R337 to R340), the time pulse (R343, R344), the counter and
its registers (R349 to R353), stamps (R355, R356) and time sources (R357 to R359). -/

namespace Sys2Proof.Machine

/-! ## Settings -/

def TimeState.code : TimeState → Nat
  | .untrusted => 0
  | .recovering => 1
  | .locked => 2
  | .holdover => 3

def TimeState.ofCode (n : Nat) : TimeState :=
  match n with
  | 0 => .untrusted
  | 1 => .recovering
  | 2 => .locked
  | _ => .holdover

/-- JUMP_THR, LOCK_THR and HOLD_LIMIT in ns, SLEW_MAX in ns/s. -/
def State.jumpThr (s : State) : Nat := s.rf rGnsTime 26 6 * 100
def State.lockThr (s : State) : Nat := s.rf rGnsTime 0 8 * 10
def State.slewMax (s : State) : Nat := s.rf rGnsTime 8 12 * 10
def State.holdLimit (s : State) : Nat := s.rf rGnsHold 16 16 * 100

/-- u as a 32-bit event parameter and as a 24-bit field (R339). -/
def uPar : Option Nat → Nat
  | none => 0xFFFFFF
  | some u => min u (2 ^ 32 - 1)

def uField : Option Nat → Nat
  | none => 0xFFFFFF
  | some u => min u 0xFFFFFF

/-! ## Correction stream: causes of withholding (R334, R348) -/

/-- A band's JI is above HOLD (R321). -/
def State.jammed (s : State) : Bool := s.gnss.ji.any fun j => decide (s.rf rGnsJam 8 8 < j)

/-- WITHHELD of GNS_STATUS. -/
def State.withheldCauses (s : State) : Nat :=
  packNat [(0, 1, bit s.gnss.arp.isNone), (1, 1, bit (s.servo.ts != .locked && s.servo.ts != .recovering)),
    (2, 1, bit s.jammed), (3, 1, bit s.gnss.mismatch)]

/-- The GNSS section of the last Cartoon started (Table 10-5); its set-up stays after a stop (R143). -/
def State.gnssSection (s : State) : Option (List Byte) :=
  match s.dsp.running with
  | some c => (c.sec 0x12 0).map (·.bytes)
  | none => none

/-- CORRECTIONS_WITHHELD and CORRECTIONS_RESUMED follow the causes in the unit whose stream is on the
air. -/
def State.restream (s : State) : State :=
  let c := s.withheldCauses
  let s := s.modGnss fun g => { g with causes := c }
  if s.gnssSection.isNone || !s.serving then s.modGnss fun g => { g with withheld := false }
  else if c ≠ 0 && !s.gnss.withheld then
    (s.modGnss fun g => { g with withheld := true, withheldAt := s.now }).emit evCorrectionsWithheld c
  else if c = 0 && s.gnss.withheld then
    (s.modGnss fun g => { g with withheld := false }).emit evCorrectionsResumed ((s.now - s.gnss.withheldAt) / ms)
  else s

/-! ## Time states (Table 10-7) -/

/-- The state and u change; a change of state records TIME_STATE (R338). -/
def State.setTime (s : State) (new : TimeState) (u : Option Nat) : State :=
  let old := s.servo.ts
  let s := s.modServo fun v => { v with ts := new, u := u }
  if new = old then s
  else (s.emit evTimeState new.code old.code (uPar u) (par s.servo.delta)).restream

/-- Entry into HOLDOVER with the present u. -/
def State.enterHoldover (s : State) : State :=
  let u := s.servo.u.getD 0
  (s.modServo fun v => { v with u0 := u, holdAt := s.now, uAt := s.now, inLockSince := none }).setTime .holdover (some u)

/-- u in HOLDOVER, rounded to the nearest ns: t counts ns (R339). -/
def State.holdU (s : State) : Nat :=
  let t := s.now - s.servo.holdAt
  let a := s.rf rGnsHold 0 8
  let b := s.rf rGnsHold 8 8
  s.servo.u0 + (a * t * 2000 * second + b * t * t + 1000 * second * second) / (2000 * second * second)

/-- u is refreshed in HOLDOVER; above HOLD_LIMIT the state is UNTRUSTED. -/
def State.refreshHold (s : State) : State :=
  let u := s.holdU
  let s := s.modServo fun v => { v with uAt := s.now, u := some u }
  if s.holdLimit < u then s.setTime .untrusted none else s

/-- HOLDOVER_UPDATE. -/
def execHoldoverUpdate (s : State) : Res :=
  .next (if s.servo.ts = .holdover && s.past s.servo.uAt (100 * ms) && !s.tmb.following then s.refreshHold else s)

/-- Longest time without a valid solution: 1 s, of a PTP client the longer of that and three Sync
intervals (R366). -/
def State.lossTime (s : State) : Nat :=
  if s.tmb.srcUsed = 1 then
    let p := if s.rf (rEthPtp 0) 0 2 = 2 then 0 else 1
    max second (3 * (second / 2 ^ s.rf (rEthPtp p) 3 3))
  else second

/-- HOLDOVER_ENTRY. -/
def execHoldoverEntry (s : State) : Res :=
  .next (if (s.servo.ts = .locked ∨ s.servo.ts = .recovering) ∧ s.past s.servo.lastValid s.lossTime ∧ !s.tmb.following then
      s.enterHoldover else s)

/-- TIME_LOCKED. -/
def execTimeLocked (s : State) : Res :=
  .next (match s.servo.ts, s.servo.inLockSince with
    | .recovering, some t => if s.past t (10 * second) && !s.tmb.following then s.setTime .locked s.servo.u else s
    | _, _ => s)

/-! ## Steps (R340, R341) -/

/-- A superframe boundary is due: the last radio slot of the superframe has ended. -/
def Air.sfDue (a : Air) (t : Nat) : Bool :=
  match a.plan with
  | none => false
  | some p => a.counting && decide (planLen p ≤ a.slot + 1) && decide (a.slotStart + 2000000 ≤ t)

/-- The next superframe or, without superframes, radio slot boundary after device time `since` has come
(R357). -/
def State.boundaryDue (s : State) (since : Nat) : Bool :=
  if s.air.counting && s.air.plan.isSome then
    s.air.sfDue s.time || decide (since < s.air.sfStart)
  else decide (since / 2000000 < s.time / 2000000)

/-- Why a step that rule 2 allows is not made: none where it may be (Table 10-22). -/
def State.stepBar (s : State) (d : Int) : Option Nat :=
  if d ≤ 0 then some 0
  else if !s.fleet.stops.any (·.kind == .fleet) then some 1
  else if s.grantLive then some 2
  else if !s.serving then some 3
  else none

/-- TIME_STEP_PENDING is recorded once. -/
def State.pendStep (s : State) (d : Int) (reason : Nat) : State :=
  let c := codeOf 64 d
  let s := if s.servo.stepPending then s else s.emit evTimeStepPending (c % 2 ^ 32) (c / 2 ^ 32) reason
  s.modServo fun v => { v with stepPending := true, stepDue := none }

/-- Superframes go on from the next radio slot boundary; until then no radio slot is in progress (R341). -/
def Air.rejoin (a : Air) (t : Nat) : Air :=
  let b := ceilDiv t 2000000 * 2000000
  match a.plan with
  | some p =>
    if a.counting then
      { a with gap := true, slotStart := b - 2000000, slot := planLen p - 1, sfStart := min a.sfStart (b - 2000000) }
    else a
  | none => a

/-- Time moves forward: the radio slot in progress ends, the next superframe starts at the first radio slot
boundary of the stepped time, and the Canvas columns passed over retire (R341). -/
def State.stepTime (s : State) (d : Nat) : State :=
  let s := { s with tmb := s.tmb.commit d s.tmb.rate }
  let s := s.modAir fun a => a.rejoin s.time
  if s.canvas.period = 0 then s else s.passColumns (s.time / s.canvas.periodNs) s.time

/-- TIME_STEP (R340, Table 10-8). -/
def execTimeStep (s : State) : Res :=
  .next (match s.servo.stepDue with
    | none => s
    | some (d, at_) =>
      if !s.boundaryDue at_ then s
      else match s.stepBar d with
        | some r => (s.modServo fun v => { v with stepPending := false }).pendStep d r
        | none =>
          let s := s.modServo fun v => { v with stepDue := none, stepPending := false }
          let c := codeOf 64 d
          (s.stepTime d.toNat).emit evTimeStep (c % 2 ^ 32) (c / 2 ^ 32))

/-! ## Solutions (R337 to R340) -/

/-- Rule 2 of R340. -/
def State.stepAllowed (s : State) (first : Bool) : Bool :=
  (s.servo.ts == .untrusted && s.rbit rGnsTime 25 && (first || s.servo.stepPending || s.servo.stepDue.isSome)) ||
  (s.servo.ts == .recovering && s.rbit rGnsTime 24)

/-- The servo commits its rate: the reference's frequency and a slew within SLEW_MAX. -/
def State.slew (s : State) (x : Soln) : State :=
  let m : Int := s.slewMax
  let v := max (-m) (min x.slew m)
  { s with tmb := s.tmb.commit 0 (x.freq + Int.tdiv (v * 2 ^ 40) 1000000000) }

/-- The states after an accepted solution. -/
def State.afterSolution (s : State) (x : Soln) : State :=
  let u := x.base + x.delta.natAbs
  let near := decide (x.delta.natAbs ≤ s.lockThr)
  let lock := fun (s : State) =>
    s.modServo fun v => { v with inLockSince := if near then some (v.inLockSince.getD s.now) else none }
  match s.servo.ts with
  | .untrusted =>
    if x.delta.natAbs ≤ 1000000 && s.servo.stepDue.isNone then lock (s.setTime .recovering (some u)) else s
  | .holdover => lock (s.setTime .recovering (some u))
  | .recovering => lock (s.modServo fun v => { v with u := some u })
  | .locked => s.modServo fun v => { v with u := some u }

/-- A valid solution drives the servo. -/
def State.acceptSoln (s : State) (x : Soln) : State :=
  let first := !s.servo.seen
  let allowed := s.stepAllowed first
  let s := s.modServo fun v =>
    { v with seen := true, delta := x.delta, freq := x.freq, lastValid := s.now, jumpSince := none }
  let s :=
    if !allowed then s.modServo fun v => { v with stepPending := false, stepDue := none }
    else match s.stepBar x.delta with
      | some r => s.pendStep x.delta r
      | none => s.modServo fun v =>
          { v with stepDue := some (x.delta, (v.stepDue.map (·.2)).getD s.time) }
  let s := if s.servo.stepDue.isSome then s else s.slew x
  s.afterSolution x

/-- A jump: recorded, and kept with the spread of the jumps since the first (R337). -/
def State.jumpSoln (s : State) (x : Soln) : State :=
  let v := s.servo
  let lo := if v.jumpSince.isSome then min v.jumpMin x.delta else x.delta
  let hi := if v.jumpSince.isSome then max v.jumpMax x.delta else x.delta
  let wide := decide ((10 * s.lockThr : Nat) < hi - lo)
  (s.modServo fun v =>
    { v with
      delta := x.delta
      jump := x
      inLockSince := none
      jumpSince := some (if wide then s.now else v.jumpSince.getD s.now)
      jumpMin := if wide then x.delta else lo
      jumpMax := if wide then x.delta else hi }).emit evTimeJump (par x.delta) (uPar v.u)

/-- A solution that meets the conditions of validity is accepted, or is a jump. -/
def State.takeSoln (s : State) (x : Soln) : State :=
  if s.servo.ts ≠ .untrusted ∧ s.servo.u.getD 0 + s.jumpThr < x.delta.natAbs then s.jumpSoln x
  else s.acceptSoln x

/-- No valid solution at a measurement epoch. -/
def State.noSoln (s : State) : State :=
  s.modServo fun v => { v with inLockSince := none, jumpSince := none }

/-- JUMP_ACCEPTED. -/
def execJumpAccepted (s : State) : Res :=
  .next (match s.servo.jumpSince with
    | some t => if s.past t (60 * second) && !s.tmb.following then s.acceptSoln s.servo.jump else s
    | none => s)

/-! ## Time pulse (R343, R344) -/

/-- Period and pulse width in ns (Table 10-19). -/
def State.tpPeriod (s : State) : Nat := second / 10 ^ s.rf rGnsTp 0 2
def State.tpWidth (s : State) : Nat := min (s.rf rGnsTp 4 20 * us) (s.tpPeriod / 2)

/-- Days from now to the announced leap second, at most what its field holds (Table 10-20). -/
def State.leapDays (s : State) : Nat := min 8191 ((s.gnss.leapAt - s.time / second) / 86400)

/-- A leap second whose moment has come is in TAI − UTC (R346). -/
def State.pastLeap (s : State) : State :=
  if s.gnss.leap = 0 ∨ s.time / second < s.gnss.leapAt then s
  else s.modGnss fun g =>
    { g with taiUtc := if g.leap = 1 then (g.taiUtc + 1) % 256 else (g.taiUtc + 255) % 256, leap := 0, leapAt := 0 }

/-- State and u of the last measurement epoch before the tag of an edge was staged, 200 ns ahead of it (R39,
R344). -/
def Servo.tagOf (v : Servo) (now : Nat) : TimeState × Option Nat :=
  if v.epAt + 200 ≤ now then (v.epState, v.epU) else (v.oldState, v.oldU)

/-- TP0_EDGE at the tick nearest a multiple of PERIOD; `staged` tells whether its tag was staged in
time. -/
def execTp0Edge (staged : Bool) (s : State) : Res :=
  .next (
    let p := s.tpPeriod
    let ideal := (s.time + 1) / p * p
    if ideal ≤ s.tp.lastDue ∨ !s.pwr.booted then s
    else
      let early := match s.tp.lastRaw with
        | some r => decide (2 * (s.tmb.raw - r) < p)
        | none => false
      let s := (s.modTp fun t => { t with lastDue := ideal }).pastLeap
      if s.servo.ts = .untrusted ∧ !s.rbit rGnsTp 25 then s
      else if early then s.modTp fun t => { t with skipped := satAdd 8 t.skipped 1 }
      else
        let s := (s.modTp fun t => { t with lastRaw := some s.tmb.raw }).put
          (.pulse "TP0" (if s.rbit rGnsTp 24 then 0 else 1) s.tpWidth)
        if staged then s.modTp fun t =>
          { t with time := ideal, valid := true, state := (s.servo.tagOf s.now).1, u := (s.servo.tagOf s.now).2
                   qerr := max (-1) (min ((s.time : Int) - ideal) 1) }
        else (s.modTp fun t => { t with valid := false }).lateOutput 2 0)

/-! ## The counter (R349 to R353) -/

/-- AUTOMATIC_COMMIT. -/
def execAutomaticCommit (s : State) : Res :=
  .next (if s.tmb.rateBase + 2 ^ 34 ≤ s.tmb.raw then { s with tmb := s.tmb.commit 0 s.tmb.rate } else s)

/-- TMB_READ of TMB_NOW or TMB_RAW: the whole register, its low half or its high half (R7, R353). -/
def execTmbRead (now : Bool) (part : Fin 3) (s : State) : Res :=
  let v := if now then s.time else s.tmb.raw
  let shown := match part with
    | 0 => v
    | 1 => v % 2 ^ 32
    | 2 => v / 2 ^ 32
  .next ((s.modTmb fun t => { t with latch := v }).put (.busRead shown))

/-! ## Stamps (R355, R356) -/

/-- Sub-GHz symbol rate code of the plan in force: 0 off. -/
def Air.rate (a : Air) : Nat :=
  match a.plan with
  | some p => planRate p
  | none => 0

/-- Latency subtracted, in ns (Table 11-1). -/
def State.stampLatency (s : State) (i : Nat) : Nat :=
  if i ≤ 2 then 14
  else if i ≤ 18 then 5216
  else if i = 19 then (if s.air.rate = 0 then 0 else 163840 / 2 ^ (s.air.rate - 1))
  else if i = 20 ∨ i = 22 then (if s.rf (rEthCfg ((i - 20) / 2)) 2 2 = 2 then 72 else 56)
  else if i = 24 then 38 else 48

/-- Delay of the PHY (R360). -/
def State.stampDelay (s : State) (i : Nat) : Int :=
  match i with
  | 20 => -s.rf (rEthDly 0) 0 16
  | 22 => -s.rf (rEthDly 1) 0 16
  | 21 => s.rf (rEthDly 0) 16 16
  | 23 => s.rf (rEthDly 1) 16 16
  | _ => 0

/-- The source takes stamps: PPS_IN only with PPS_EN, source 19 only with the sub-GHz chain on. -/
def State.stampOn (s : State) (i : Nat) : Bool :=
  (i != 0 || s.tmb.ppsEn) && (i != 19 || s.air.rate != 0)

/-- A lost edge: counted, and recorded at most once per second per source. -/
def State.stampLost (s : State) (i : Fin 25) : State :=
  let x := s.tmb.stamps[i]
  let n := x.lostInSec + 1
  let report := match x.recordedSec with
    | some t => s.past t second
    | none => true
  let x := { x with
    overrun := satAdd 8 x.overrun 1
    lostInSec := if report then 0 else n
    recordedSec := if report then some s.now else x.recordedSec }
  let s := s.modTmb fun t => { t with stamps := t.stamps.set i x }
  if report then s.emit evStampOverrun i n else s

/-- The stamp of an edge that a source's latch takes at this tick (Table 11-1). -/
def State.stampNow (s : State) (i : Nat) : Nat :=
  codeOf 64 (s.tmb.correctedAt s.tmb.raw - s.stampLatency i + s.stampDelay i)

/-- STAMP_EDGE: the latch takes the edge, and the handler serves it as ticks pass. -/
def execStampEdge (source : Fin 25) (s : State) : Res :=
  .next (if !s.stampOn source then s
    else if s.tmb.stamps[source].latched.isSome then s.stampLost source
    else
      let x := { s.tmb.stamps[source] with latched := some (s.tmb.raw, s.stampNow source) }
      s.modTmb fun t => { t with stamps := t.stamps.set source x })

/-- The pending latch of the lowest index, 3 ticks after its edge. -/
def Tmb.nextLatch (t : Tmb) : Option (Fin 25) :=
  (List.finRange 25).find? fun (i : Fin 25) => match t.stamps[i].latched with
    | some (r, _) => decide (r + 6 ≤ t.raw)
    | none => false

/-- A source has been served: its stamp is delivered. -/
def Tmb.deliver (t : Tmb) (i : Fin 25) : Tmb :=
  let x := t.stamps[i]
  { t with
    handler := none
    stamps := t.stamps.set i { x with latched := none, last := match x.latched with
      | some (_, v) => v
      | none => x.last } }

/-- The stamp handler at a tick: 10 ticks for each latch, the next at once (R355). -/
def Tmb.serve (t : Tmb) : Tmb :=
  let t := match t.handler with
    | some (i, d) => if d ≤ t.raw then t.deliver i else t
    | none => t
  if t.handler.isSome then t
  else match t.nextLatch with
    | some i => { t with handler := some (i, t.raw + 20) }
    | none => t

/-! ## Time sources (R357 to R359) -/

/-- A write of TMB_CFG.SRC waits for the boundary. -/
def State.writeSrc (s : State) (src : Nat) : State :=
  (s.modTmb fun t => { t with src := if src = 3 then 0 else src }).modServo fun v =>
    { v with srcAt := some s.time, stepDue := none, stepPending := false }

/-- TIME_SOURCE_CHANGE (R357, R359). -/
def execTimeSourceChange (s : State) : Res :=
  .next (match s.servo.srcAt with
    | none => s
    | some t =>
      if !s.boundaryDue t || s.tmb.following then s
      else
        let s := s.modServo fun v => { v with srcAt := none }
        if s.tmb.src = s.tmb.srcUsed then s
        else
          let old := s.tmb.srcUsed
          let s := s.modTmb fun t => { t with srcUsed := t.src }
          let s := s.noSoln
          let s := if s.servo.ts = .untrusted then s else s.enterHoldover
          let s := if s.tmb.srcUsed = 2 then { s with tmb := s.tmb.commit 0 s.tmb.freeRate } else s
          s.emit evTimeSource s.tmb.srcUsed old s.servo.ts.code (uPar s.servo.u))

/-- FREE is in force in this unit. -/
def State.free (s : State) : Bool := s.tmb.srcUsed == 2 && !s.tmb.following

/-- TMB_SET_WRITE. -/
def execTmbSetWrite (v : BitVec 64) (s : State) : Res :=
  .next (s.asRoleAny 2 fun s =>
    if s.free && decide (s.time < v.toNat) then
      let d := v.toNat - s.time
      (s.stepTime d).emit evTimeSet (d % 2 ^ 32) (d / 2 ^ 32)
    else s.modTmb fun t => { t with setRefused := true })

/-- TMB_FREE_RATE_WRITE. -/
def execTmbFreeRateWrite (w : Word) (s : State) : Res :=
  .next (s.asRoleAny 2 fun s =>
    let r := if w.toInt.natAbs ≤ 2 ^ 28 then w.toInt else 0
    let s := s.modTmb fun t => { t with freeRate := r }
    if s.free then { s with tmb := s.tmb.commit 0 r } else s)

/-- Value of the real-time clock (Table 17-14). -/
def State.rtcNow (s : State) : Nat := s.pwr.rtc + (s.now - s.pwr.rtcAt)

/-- RTC_UPDATE (R358). -/
def execRtcUpdate (s : State) : Res :=
  .next (if s.servo.ts = .locked ∧ s.past s.pwr.rtcAt second then
      s.modPwr fun p => { p with rtc := s.time, rtcAt := s.now, rtcValid := true }
    else s)

/-- First setting of corrected time after a reset (R358): to the partner's time, to the real-time clock
where it is valid, else to OFFSET 0. -/
def State.firstTime (s : State) (partner : Option Nat) : State :=
  let t := match partner with
    | some t => t
    | none => if s.pwr.rtcValid then s.rtcNow else s.tmb.raw
  (s.modTmb fun x => { x with offset := (t : Int) - x.raw, rateBase := x.raw, rate := 0 }).modServo fun v =>
    { v with ts := .untrusted, u := none }

end Sys2Proof.Machine
end

