-- ==== Sys2Proof/Machine/Gnss.lean ====
section
/-! DEFINITION. The GNSS receiver: satellite slots, notch filters and jamming, antenna bias, survey,
correction stream and measurement epochs (R312 to R336, R345). -/

namespace Sys2Proof.Machine

/-! ## Satellite slots (R313, R326) -/

/-- CONST enables a system (Table 10-9). -/
def State.sysOn (s : State) (sys : Nat) : Bool := s.rbit rGnsCfg ([15, 16, 18, 17].getD sys 15)

def State.elevMask (s : State) : Nat := s.rf rGnsCfg 8 7

/-- The first free slot. -/
def Gnss.freeSlot (g : Gnss) : Option (Fin 64) := (List.finRange 64).find? fun (k : Fin 64) => g.slots[k].prn == 0

/-- A satellite in view qualifies for a free slot. -/
def State.qualifies (s : State) (v : SvInView) : Bool :=
  v.prn != 0 && !(s.gnss.slots.any fun x => x.sys == v.sys.val && x.prn == v.prn.toNat) && s.sysOn v.sys &&
    decide ((s.elevMask : Int) < v.elev) && (v.healthy || s.rbit rGnsCfg 19)

/-- The highest in elevation, the first in the list among equals. -/
def highest : List SvInView → Option SvInView
  | [] => none
  | v :: t => match highest t with
    | some w => some (if v.elev < w.elev then w else v)
    | none => some v

/-- SV_SLOT_ASSIGNED: of the satellites in view, the highest that qualifies takes the first free slot. -/
def execSvSlotAssigned (view : List SvInView) (s : State) : Res :=
  .next (match s.gnss.freeSlot, highest (view.filter s.qualifies) with
    | some k, some v =>
      let x := { SvSlot.free with sys := v.sys, prn := v.prn.toNat, elev := min v.elev.toNat 127, tracked := true }
      s.modGnss fun g => { g with slots := g.slots.set k x }
    | _, _ => s)

/-- SV_SLOT_RELEASE. -/
def execSvSlotRelease (slot : Fin 64) (s : State) : Res :=
  .next (match s.gnss.slots[slot].lowSince with
    | some t => if s.past t (60 * second) then
        s.modGnss fun g => { g with slots := g.slots.set slot SvSlot.free } else s
    | none => s)

/-- A satellite passes R326. -/
def SvSlot.passes (x : SvSlot) (now : Nat) : Bool :=
  match x.exclUntil with
  | some t => decide (t ≤ now)
  | none => true

/-- One satellite at a measurement epoch, with the residuals of the satellites tested. -/
def State.observe (s : State) (res : List (Fin 64 × ℚ)) (o : GnssSat) : State :=
  let x := s.gnss.slots[o.slot]
  if x.prn = 0 then s
  else
    let low := decide (o.elev + 2 ≤ s.elevMask) || !o.tracked
    let r := match res.find? (·.1 == o.slot) with
      | some y => (roundQ y.2).natAbs
      | none => 0
    let far := o.tracked && decide (300000 < r)
    let bad := if far then x.bad + 1 else 0
    let out := decide (3 ≤ bad) && x.passes s.now
    let y := { x with
      elev := min o.elev.toNat 127
      tracked := o.tracked
      cn0U := o.cn0U.toNat
      cn0L := o.cn0L.toNat
      bad := if out then 0 else bad
      exclUntil := if out then some (s.now + 300 * second) else if x.passes s.now then none else x.exclUntil
      lowSince := if low then some (x.lowSince.getD s.now) else none }
    let s := s.modGnss fun g => { g with slots := g.slots.set o.slot y }
    if out then s.emit evSvExcluded x.sys x.prn (r / 1000) else s

/-- Observations of satellites that are tracked and pass R326. -/
def State.usable (s : State) (o : GnssObs) : List GnssSat :=
  o.sats.filter fun x => x.tracked && s.gnss.slots[x.slot].prn != 0 && s.gnss.slots[x.slot].passes s.now

/-! ## Notch filters and jamming (R319 to R321) -/

def notchIx (band : Fin 2) (k : Fin 4) : Fin 8 := ⟨4 * band.val + k.val, by omega⟩

/-- MODE and NOTCH_THR of a filter, in dB. -/
def State.notchMode (s : State) (b : Fin 2) (k : Fin 4) : Nat := s.rf (rGnsNotch b k) 0 2
def State.notchThr (s : State) (b : Fin 2) (k : Fin 4) : Nat := s.rf (rGnsNotch b k) 8 8

/-- Offset of a bin from the band centre in kHz. -/
def binKhz (bin : Nat) : Int := 30 * ((bin : Int) - 1024)

def insertBin (x : Nat) : List Nat → List Nat
  | [] => [x]
  | y :: t => if x ≤ y then x :: y :: t else y :: insertBin x t

/-- Median bin: the mean of the middle two, rounded down. -/
def medianBin (l : List Nat) : Nat :=
  let m := l.foldr insertBin []
  (m.getD (m.length / 2 - 1) 0 + m.getD (m.length / 2) 0) / 2

/-- The strongest bin that no filter of the band holds. -/
def strongest (bins : List Nat) (held : List Nat) : Option Nat :=
  (List.range 2048).foldl (fun b i =>
    if held.contains i then b
    else match b with
      | none => some i
      | some j => if bins.getD j 0 < bins.getD i 0 then some i else some j) none

/-- Bin of a fixed filter's FREQ. -/
def State.fixedBin (s : State) (b : Fin 2) (k : Fin 4) : Nat :=
  ((signedOf 16 (s.rf (rGnsNotch b k) 16 16) + 15) / 30 + 1024).toNat

/-- Bins the filters of a band hold: an engaged adaptive one its peak, a fixed one FREQ. -/
def State.heldBins (s : State) (b : Fin 2) : List Nat :=
  (List.finRange 4).filterMap fun (k : Fin 4) =>
    let n := s.gnss.notches[notchIx b k]
    if s.notchMode b k = 2 then some (s.fixedBin b k) else if n.on then some n.bin else none

/-- Bins on each side of its centre that a filter's WIDTH takes in. -/
def State.notchReach (s : State) (b : Fin 2) (k : Fin 4) : Nat := [1, 4, 16].getD (s.rf (rGnsNotch b k) 2 2) 1

/-- The peak a filter follows: the strongest bin within its width that no other filter holds (log
entry 63). -/
def State.followed (s : State) (b : Fin 2) (bins : List Nat) (k : Fin 4) : Nat :=
  let n := s.gnss.notches[notchIx b k].bin
  let r := s.notchReach b k
  let held := s.heldBins b
  ((List.range 2048).filter fun i => decide (n ≤ i + r) && decide (i ≤ n + r) && !held.contains i).foldl
    (fun m i => if bins.getD m 0 < bins.getD i 0 then i else m) n

def State.setNotch (s : State) (b : Fin 2) (k : Fin 4) (n : Notch) : State :=
  s.modGnss fun g => { g with notches := g.notches.set (notchIx b k) n }

/-- A filter lets its peak go. -/
def State.dropNotch (s : State) (b : Fin 2) (k : Fin 4) : State :=
  let n := s.gnss.notches[notchIx b k]
  (s.setNotch b k Notch.off).emit evNotchChanged b k (par (binKhz n.bin)) 0

/-- One filter at a spectrum estimate. -/
def State.runNotch (s : State) (b : Fin 2) (bins : List Nat) (median : Nat) (k : Fin 4) : State :=
  let n := s.gnss.notches[notchIx b k]
  let above := fun (i : Nat) => decide (median + s.notchThr b k < bins.getD i 0)
  if s.notchMode b k ≠ 1 then (if n.on then s.dropNotch b k else s)
  else if n.on then
    let p := s.followed b bins k
    s.setNotch b k { n with bin := p, lowSince := if above p then none else some (n.lowSince.getD s.now) }
  else match strongest bins (s.heldBins b) with
    | some i =>
      if above i then (s.setNotch b k { on := true, bin := i, lowSince := none }).emit evNotchChanged b k (par (binKhz i)) 1
      else s
    | none => s

/-- JAMMING follows JI and WARN. -/
def State.judgeJam (s : State) (b : Fin 2) : State :=
  let j := s.gnss.ji[b]
  let warn := s.rf rGnsJam 0 8
  let set := fun (x : Bool) (s : State) => s.modGnss fun g => { g with jam := g.jam.set b x }
  if !s.gnss.jam[b] && decide (warn < j) then (set true s).emit evJamming b j 1
  else if s.gnss.jam[b] && decide (j + 8 ≤ warn) then (set false s).emit evJamming b j 0
  else s

/-- E in dB × 2^16, from the AGC gain reduction and the noise floor's rise in dB × 2^8. -/
def jamRise (agc floor : Int) : Nat := (max 0 (max agc floor)).toNat * 256

/-- One step of 10 ms of a time constant of 100 ms: the part 1 − e^(−0.1) of the difference. -/
def smoothed (old new : Nat) : Nat := (old * 904837418 + new * 95162582) / 1000000000

/-- SPECTRUM_ESTIMATE of a band: AGC gain reduction and noise floor's rise in dB × 2^8 (R320), and powers of the
bins in dB. -/
def execSpectrumEstimate (band : Fin 2) (agc floor : Int) (bins : List Nat) (s : State) : Res :=
  .next (if !s.awake then s
    else
      let e := smoothed s.gnss.rise[band] (jamRise agc floor)
      let s := s.modGnss fun g => { g with rise := g.rise.set band e, ji := g.ji.set band (min 255 (e * 8 / 65536)) }
      let s := (s.judgeJam band).restream
      (List.finRange 4).foldl (fun s k => s.runNotch band bins (medianBin bins) k) s)

/-- NOTCH_RELEASE. -/
def execNotchRelease (band : Fin 2) (k : Fin 4) (s : State) : Res :=
  .next (
    let n := s.gnss.notches[notchIx band k]
    match n.lowSince with
    | some t => if n.on && s.past t second then s.dropNotch band k else s
    | none => s)

/-! ## Antenna bias (R317) -/

/-- Fault a bias current shows: 1 OPEN below 3 mA, 2 SHORT above 60 mA. -/
def biasFault (ma : Nat) : Nat := if ma < 3 then 1 else if 60 < ma then 2 else 0

/-- The bias of an input is switched on in GNS_CFG. -/
def State.biasSet (s : State) (i : Fin 2) : Bool := s.rbit rGnsCfg (22 + i)

/-- The bias of an input is on: a SHORT has turned it off until a retry is clean. -/
def State.biasOn (s : State) (i : Fin 2) : Bool := s.biasSet i && s.gnss.ant[i].fault != 2

/-- The bias output of an input follows. -/
def State.putBias (s : State) (i : Fin 2) : State :=
  s.put (.pin (if i.val = 0 then "GNSS_U" else "GNSS_L") (bit (s.biasOn i)))

/-- A fault of an input stands, and is recorded; a SHORT turns the bias off. -/
def State.faultBias (s : State) (input : Fin 2) (f ma : Nat) : State :=
  ((s.modGnss fun g => { g with ant := g.ant.set input { fault := f, triedAt := s.now } }).emit
    evAntennaFault input (f - 1) ma).putBias input

/-- ANTENNA_FAULT: a fault current has lasted 100 ms. -/
def execAntennaFault (input : Fin 2) (ma : BitVec 16) (s : State) : Res :=
  .next (
    let f := biasFault ma.toNat
    if !s.biasOn input ∨ f = 0 ∨ s.gnss.ant[input].fault = f then s else s.faultBias input f ma.toNat)

/-- BIAS_RETRY. -/
def execBiasRetry (input : Fin 2) (ma : BitVec 16) (s : State) : Res :=
  .next (
    let a := s.gnss.ant[input]
    if a.fault = 0 ∨ !s.past a.triedAt (10 * second) ∨ !s.biasSet input then s
    else
      let f := biasFault ma.toNat
      if f ≠ 0 ∧ f ≠ a.fault then s.faultBias input f ma.toNat
      else
        let s := s.modGnss fun g => { g with ant := g.ant.set input { fault := f, triedAt := s.now } }
        if f = 0 then (s.emit evAntennaFault input 2 ma.toNat).putBias input else s)

/-! ## Survey and position (R327 to R330) -/

def State.posMode (s : State) : Nat := s.rf rGnsCfg 20 2

/-- A survey begins. -/
def State.startSurvey (s : State) : State :=
  (s.modGnss fun g =>
    { g with survey := 1, surveyAt := s.now, sigma := 0xFFF, surveyData := [], surveyEpochs := 0 }).emit evSurveyStarted s.posMode

/-- SURVEY_RESTART: a write of GNS_SURVEY_CFG. -/
def execSurveyRestart (w : Word) (s : State) : Res :=
  .next (s.asRole 2 fun s =>
    let s := s.setReg rGnsSurvey (w.toNat % 2 ^ 31)
    if flagOf w 31 && s.posMode != 2 then s.startSurvey else s)

/-- SURVEY_SLOW. -/
def execSurveySlow (s : State) : Res :=
  .next (if s.gnss.survey = 1 ∧ s.past s.gnss.surveyAt (s.rf rGnsSurvey 24 7 * 3600 * second) then
      (s.modGnss fun g => { g with survey := 3 }).emit evSurveySlow s.gnss.sigma ((s.now - s.gnss.surveyAt) / second)
    else s)

/-- FIXED_COORD_WRITE: GNS_FIX_X, _Y, _Z, or GNS_ANT. -/
def execFixedCoordWrite (reg : Fin 4) (v : BitVec 64) (s : State) : Res :=
  .next (s.asRole 2 fun s =>
    (if reg.val = 3 then s.setReg rGnsAnt (v.toNat % 2 ^ 24) else s.setReg (rGnsFix reg) v.toNat).modGnss fun g =>
      { g with fixDue := true })

/-- Coordinates of GNS_FIX. -/
def State.fixed (s : State) : Int × Int × Int :=
  (signedOf 64 (s.reg (rGnsFix 0)), signedOf 64 (s.reg (rGnsFix 1)), signedOf 64 (s.reg (rGnsFix 2)))

/-- Distance of two positions in 0.1 mm. -/
def distOf (a b : Int × Int × Int) : Nat :=
  isqrt (((a.1 - b.1) ^ 2 + (a.2.1 - b.2.1) ^ 2 + (a.2.2 - b.2.2) ^ 2).toNat)

/-- The position mode acts, and a write of coordinates takes effect (Table 10-4). In SURVEY a survey begins at
the first epoch after the reset alone; in KEEP also where the reset ended one (Table 10-8). -/
def State.positionEpoch (s : State) : State :=
  let s := if s.gnss.fixDue then
      s.modGnss fun g => { g with fixDue := false, arpSoon := true, height := s.rf rGnsAnt 0 16 }
    else s
  let first := !s.gnss.surveyed
  let s := s.modGnss fun g => { g with surveyed := true }
  match s.posMode with
  | 2 => s.modGnss fun g => { g with survey := 0, arp := some s.fixed }
  | 0 => if first then s.startSurvey else s
  | _ =>
    let again := (first && s.gnss.again) || (s.gnss.stored.isNone && s.gnss.survey == 0)
    let s := s.modGnss fun g =>
      { g with arp := if g.survey = 2 then g.arp else if g.survey = 0 || g.stored.isSome then g.stored else g.arp }
    if again then s.startSurvey else s

/-- What a satellite tracked in both bands gives the survey. -/
def surveyObs (epoch : Nat) (base : Pos) (o : GnssSat) : SurveyObs :=
  { epoch := epoch
    arc := (o.slot.val, o.arc)
    pU := o.pU
    pL := o.pL
    lU := o.lU
    lL := o.lL
    base := base
    dir := o.dir
    wet := o.wet
    sd := o.sd }

/-- The survey is complete: its result is used and written to flash, with the navigation data (R314, R328). -/
def State.endSurvey (s : State) (p : Pos) (sigma : Nat) : State :=
  let d := match s.gnss.stored with
    | some q => distOf q p / 10
    | none => 0xFFFFFFFF
  let s := s.modGnss fun g => { g with survey := 2, arp := some p, surveyData := [] }
  let s := (s.flashWrite (.survey p.1 p.2.1 p.2.2)).flashWrite (.nav s.gnss.nav)
  s.emit evSurveyDone sigma ((s.now - s.gnss.surveyAt) / second) d

/-- The survey at an epoch: epochs with fewer than 4 dual-band satellites add nothing (R328). -/
def State.surveyEpoch (s : State) (o : GnssObs) : State :=
  let dual := (s.usable o).filter dualBand
  if (s.gnss.survey ≠ 1 ∧ s.gnss.survey ≠ 3) ∨ dual.length < 4 then s
  else
    let s := s.modGnss fun g =>
      { g with
        surveyEpochs := g.surveyEpochs + 1
        surveyData := g.surveyData ++ dual.map (surveyObs g.surveyEpochs o.base) }
    match surveyFit s.gnss.surveyData with
    | none => s
    | some (p, sigma) =>
      let s := s.modGnss fun g => { g with sigma := min 0xFFF sigma }
      if s.rf rGnsSurvey 0 12 < sigma ∨ !s.past s.gnss.surveyAt (s.rf rGnsSurvey 12 12 * 60 * second) then s
      else s.endSurvey p sigma

/-- The free code solution, averaged over the last 60 s, beside the position in use (R329). -/
def State.checkCoords (s : State) (o : GnssObs) : State :=
  let new := match codeFit (s.usable o) with
    | some f => [(s.now, shift o.base f.1)]
    | none => []
  let s := s.modGnss fun g =>
    { g with codeAt := (g.codeAt.filter fun x => decide (s.now < x.1 + 60 * second)) ++ new }
  match s.gnss.arp, s.gnss.codeAt with
  | some p, x :: t =>
    let d := distOf p (meanPos ((x :: t).map (·.2)))
    let far := decide (10000 * s.rf rGnsAnt 16 8 < d)
    s.modGnss fun g =>
      { g with codeDist := d / 1000
               farSince := if far then some (g.farSince.getD s.now) else none
               nearSince := if far then none else some (g.nearSince.getD s.now) }
  | _, _ => s.modGnss fun g => { g with farSince := none, nearSince := none }

/-- COORD_MISMATCH. -/
def execCoordMismatch (s : State) : Res :=
  .next (match s.gnss.farSince with
    | some t =>
      if s.gnss.mismatch ∨ !s.past t (60 * second) then s
      else ((s.modGnss fun g => { g with mismatch := true }).emit evCoordMismatch s.gnss.codeDist 1).restream
    | none => s)

/-- COORD_MISMATCH_CLEAR. -/
def execCoordMismatchClear (s : State) : Res :=
  .next (match s.gnss.nearSince with
    | some t =>
      if !s.gnss.mismatch ∨ !s.past t (60 * second) then s
      else ((s.modGnss fun g => { g with mismatch := false }).emit evCoordMismatch s.gnss.codeDist 0).restream
    | none => s)

/-! ## Correction stream (R331 to R336) -/

/-- A put of a packet with `n` messages on a queue; a refusal counts them. -/
def State.putMsg (s : State) (q n : Nat) (m : List Byte) : Bool × State :=
  let (ok, s) := s.offerPacket q { level := 0, bytes := m }
  (ok, if ok then s else s.modGnss fun g => { g with dropped := satAdd 8 g.dropped n })

/-- SENT counts messages as placed once a path has taken them. -/
def State.countSent (s : State) (n : Nat) : State := s.modGnss fun g => { g with sent := satAdd 16 g.sent n }

/-- A message on Q49 and HOST_Q; the standby places the logged bytes on the same two (R336). The flag tells
that one of them took it. -/
def State.placeQueues (s : State) (x m : List Byte) : Bool × State :=
  let (a, s) := if bitsOf (leAt x 6 1) 0 1 = 1 then s.putMsg 49 1 m else (false, s)
  let (h, s) := if bitsOf (leAt x 6 1) 3 1 = 1 ∧ 52 ≤ leAt x 10 1 then s.putMsg (leAt x 10 1) 1 m else (false, s)
  (a || h, if a || h then s.countSent 1 else s)

/-- A message of the stream is placed on its paths (R335). -/
def State.placeMsg (s : State) (x payload : List Byte) : State :=
  let m := rtcmFrame payload
  let (ok, s) := (s.logInput (.correction m)).placeQueues x m
  s.modGnss fun g => { g with epochMsgs := g.epochMsgs ++ [(m, ok)] }

/-- The messages of an epoch's datagrams, up to 1,472 bytes each (R335). -/
def datagrams : List (List Byte × Bool) → List (List Byte × Bool) → List (List (List Byte × Bool))
  | [], b => if b = [] then [] else [b]
  | m :: t, b =>
    if b ≠ [] ∧ 1472 < ((b ++ [m]).flatMap (·.1)).length then b :: datagrams t [m] else datagrams t (b ++ [m])

/-- Ones' complement sum of 16-bit words, inverted. -/
def inetSum (l : List Byte) : Nat :=
  let rec go : List Byte → Nat
    | a :: b :: t => 256 * a.toNat + b.toNat + go t
    | [a] => 256 * a.toNat
    | [] => 0
  let n := go l
  let n := n % 65536 + n / 65536
  65535 - (n % 65536 + n / 65536)

/-- An Ethernet frame with an IPv4 UDP datagram (R361); fields the spec leaves open are
Config.ipOpen's (log entry 41). -/
def udpFrame (dstMac srcMac srcIp dstIp port : Nat) (id : Nat) (b : List Byte) : List Byte :=
  let o := Config.ipOpen
  let head := fun (sum : Nat) =>
    [0x45#8] ++ toBE 1 (bitsOf o 0 8) ++ toBE 2 (28 + b.length) ++ toBE 2 id ++ toBE 2 (bitsOf o 8 2 * 0x2000 % 0x6000) ++
    toBE 1 (bitsOf o 10 8) ++ [0x11#8] ++ toBE 2 sum ++ toBE 4 srcIp ++ toBE 4 dstIp
  let udp := fun (sum : Nat) => toBE 2 (bitsOf o 18 16) ++ toBE 2 port ++ toBE 2 (8 + b.length) ++ toBE 2 sum ++ b
  let pseudo := toBE 4 srcIp ++ toBE 4 dstIp ++ [0#8, 0x11#8] ++ toBE 2 (8 + b.length)
  let u := if bitsOf o 34 1 = 1 then udp (inetSum (pseudo ++ udp 0)) else udp 0
  toBE 6 dstMac ++ toBE 6 srcMac ++ [0x08#8, 0x00#8] ++ head (inetSum (head 0)) ++ u

/-- An ARP packet: operation 1 request, 2 reply. -/
def arpFrame (op dst srcMac srcIp tgtMac tgtIp : Nat) : List Byte :=
  toBE 6 dst ++ toBE 6 srcMac ++ toBE 2 0x0806 ++ toBE 2 1 ++ toBE 2 0x0800 ++ [6#8, 4#8] ++ toBE 2 op ++
  toBE 6 srcMac ++ toBE 4 srcIp ++ toBE 6 tgtMac ++ toBE 4 tgtIp

def noMac : Nat → Nat := fun _ => 2 ^ 48

/-- One datagram of `n` messages of the stream on a port: from the port's own address, to the MAC learned for
UDP_DST. Without one, an ARP request goes in its place (log entry 42). The flag tells that it was placed. -/
def State.sendDatagram (s : State) (x : List Byte) (p : Fin 2) (n : Nat) (b : List Byte) : Bool × State :=
  let ip := s.reg (rEthIp p)
  let mac := s.reg (rEthMac p)
  let dst := ofBE (bytesAt x 12 4)
  if ip = 0 ∨ !s.rbit (rEthCfg p) 0 then (false, s)
  else
    let d := tblGet noMac s.eth[p].arp dst
    if d = 2 ^ 48 then (false, (s.offerPacket (17 + p) { level := 0, bytes := arpFrame 1 (2 ^ 48 - 1) mac ip 0 dst }).2)
    else
      let (id, s) := s.draw
      s.putMsg (17 + p) n (udpFrame d mac ip dst (leAt x 16 2) (id % 65536) b)

/-- One datagram on the ports of PATHS; its messages that no queue had taken are placed with it. -/
def State.sendDatagrams (s : State) (x : List Byte) (ms : List (List Byte × Bool)) : State :=
  let r := (List.finRange 2).foldl (fun (r : Bool × State) (p : Fin 2) =>
    if bitsOf (leAt x 6 1) (1 + p) 1 = 1 then
      let (ok, s) := r.2.sendDatagram x p ms.length (ms.flatMap (·.1))
      (r.1 || ok, s)
    else r) (false, s)
  if r.1 then r.2.countSent (ms.filter fun m => !m.2).length else r.2

/-- The epoch's messages leave by Ethernet once none of them is still to come. -/
def State.flushUdp (s : State) : State :=
  match s.gnssSection with
  | none => s.modGnss fun g => { g with epochMsgs := [], arpDue := false, descDue := false }
  | some x =>
    if s.gnss.arpDue || s.gnss.descDue then s
    else
      let ds := datagrams s.gnss.epochMsgs []
      let s := s.modGnss fun g => { g with epochMsgs := [] }
      ds.foldl (fun s d => s.sendDatagrams x d) s

/-- A multiple of a period lies after `last` and at or before `t`. -/
def crossed (period last t : Nat) : Bool := period != 0 && decide (last / period < t / period)

/-- Station ID of the section. -/
def stationId (x : List Byte) : Nat := leAt x 18 2

/-- MSM7 of every constellation of the section (R332, R333). -/
def State.msmEpoch (s : State) (x : List Byte) (o : GnssObs) (t : Nat) : State :=
  let cs := (List.range 4).filter fun c => bitsOf (leAt x 7 1) c 1 == 1
  cs.foldl (fun s c =>
    let sys := msmSys c
    let sats : List MsmSat := (s.usable o).filterMap fun (y : GnssSat) =>
      let v := s.gnss.slots[y.slot]
      let cells := y.cells.filter fun z => leAt x 8 1 == 1 || isPrimary sys z.comp
      if v.sys = sys ∧ cells ≠ [] then some { prn := v.prn, x := { y with cells := cells } } else none
    let more := cs.getLast? != some c
    s.placeMsg x (msm7 c (stationId x) t more s.pwr.clkSel sats)) s

/-- The stream at a measurement epoch of device time `t`, the last having been at `last`. -/
def State.streamEpoch (s : State) (o : GnssObs) (last t : Nat) : State :=
  match s.gnssSection with
  | none => s
  | some x =>
    if !s.serving then s
    else
      let shut := decide (s.withheldCauses ≠ 0)
      let arp := (crossed (leAt x 2 2 * second) last t || s.gnss.arpSoon) && !shut
      let s := s.modGnss fun g =>
        { g with arpDue := arp, descDue := crossed (leAt x 4 2 * second) last t, epochMsgs := [] }
      let s := if crossed (leAt x 0 2 * ms) last t && !shut then s.msmEpoch x o t else s
      s.flushUdp

/-- RTCM_ARP_SEND: a 1005 or 1006 that is due at the epoch; a cause of R334 that holds by now withholds it, and a
unit whose stream is not on the air sends none. -/
def execRtcmArpSend (s : State) : Res :=
  .next (match s.gnssSection, s.gnss.arp with
    | some x, some p =>
      if !s.gnss.arpDue then s
      else if !s.serving || s.withheldCauses ≠ 0 then (s.modGnss fun g => { g with arpDue := false }).flushUdp
      else
        let h := if leAt x 9 1 = 1 then some s.gnss.height else none
        let s := s.placeMsg x (arpMsg (stationId x) p h)
        (s.modGnss fun g => { g with arpDue := false }).flushUdp
    | _, _ => s)

/-- SET_VERSION of the running set. -/
def State.setVersion (s : State) : Nat :=
  match s.pfo.banks.toList.getD s.pfo.running none with
  | some b => b.setVersion
  | none => 0

/-- RTCM_DESCRIPTOR_SEND: a 1033 that is due, after the epoch's other messages. -/
def execRtcmDescriptorSend (s : State) : Res :=
  .next (match s.gnssSection with
    | some x =>
      if !s.gnss.descDue || s.gnss.arpDue then s
      else if !s.serving then (s.modGnss fun g => { g with descDue := false }).flushUdp
      else
        let s := s.placeMsg x (descMsg (stationId x) s.gnss.antDesc s.setVersion)
        (s.modGnss fun g => { g with descDue := false }).flushUdp
    | none => s)

/-! ## Measurement epochs (R324, R337, R345) -/

/-- Measurement period in ns (Table 10-9). -/
def ratePeriod (rate : Nat) : Nat := [1000, 500, 250, 200, 100, 50].getD rate 1000 * ms

/-- What two constellations' data agree on: the first that another says as well. -/
def agreedUtc (l : List (Option (Nat × Nat × Nat))) : Option (Nat × Nat × Nat) :=
  (l.filterMap id).find? fun u => decide (2 ≤ (l.filter (· == some u)).length)

/-- TAI − UTC and a leap second announced, as two constellations agree; LEAP_PENDING once per announcement. -/
def State.showUtc (s : State) (u : Nat × Nat × Nat) : State :=
  let (tai, leap, at') := u
  let s := (s.modGnss fun g =>
    { g with utcValid := true, taiUtc := tai % 256, leap := leap % 4, leapAt := at' }).pastLeap
  if leap % 4 = 0 then s.modGnss fun g => { g with leapRecorded := none }
  else if s.gnss.leapRecorded = some at' || s.gnss.leap = 0 then s
  else (s.modGnss fun g => { g with leapRecorded := some at' }).emit evLeapPending
    (if leap % 4 = 1 then tai + 1 else tai - 1) s.leapDays

/-- UTC data of constellations, and what is shown of them (R345). -/
def State.takeUtc (s : State) (l : List (Fin 4 × Nat × Nat × Nat)) : State :=
  let s := l.foldl (fun s x => s.modGnss fun g => { g with utcOf := g.utcOf.set x.1 (some x.2) }) s
  if l = [] then s
  else match agreedUtc s.gnss.utcOf.toList with
    | some u => s.showUtc u
    | none => s

/-- The time solution of an epoch, where it is valid (R337): the satellites that pass R326 and show a
pseudorange, MIN_SV of them or more. -/
def State.timeSoln (s : State) (o : GnssObs) : Option Soln :=
  let l := (s.usable o).filter fun x => (codeRange x).isSome
  if s.jammed || decide (l.length < if s.gnss.arp.isSome then 1 else 4) then none
  else (clockFit s.gnss.arp o.base l).map fun f =>
    { delta := deltaOf f.1, base := twoSigma f.2, freq := o.freq, slew := o.slew }

/-- The servo at a measurement epoch: HOLDOVER's u, and with GNSS in force the solution (R337, R339, R342). -/
def State.servoEpoch (s : State) (o : GnssObs) : State :=
  let soln := s.timeSoln o
  let n := ((s.usable o).filter fun x => (codeRange x).isSome).length
  let s := s.modGnss fun g => { g with used := if soln.isSome then n else g.used }
  if s.tmb.following then
    match soln with
    | some x => s.modServo fun v => { v with delta := x.delta }
    | none => s
  else
    let s := if s.servo.ts = .holdover then s.refreshHold else s
    if s.tmb.srcUsed ≠ 0 then s
    else match soln with
      | some x => s.takeSoln x
      | none => s.noSoln

/-- MEASUREMENT_EPOCH: at a whole multiple of the measurement period. -/
def execMeasurementEpoch (obs : GnssObs) (s : State) : Res :=
  .next (
    let p := ratePeriod s.gnss.rate
    let t := s.time / p * p
    if !s.awake || !s.pwr.booted || decide (t ≤ s.gnss.lastEpoch) then s
    else
      let last := s.gnss.lastEpoch
      let s := s.modGnss fun g => { g with lastEpoch := t, nav := obs.nav.getD g.nav }
      let res := residuals s.gnss.arp obs.base (s.usable obs)
      let s := obs.sats.foldl (State.observe · res ·) s
      let soon := s.gnss.arpSoon
      let due := s.gnss.fixDue
      let s := ((s.positionEpoch).surveyEpoch obs).checkCoords obs
      let s := ((s.takeUtc obs.utc).servoEpoch obs).restream
      let s := s.modServo fun v =>
        { v with epState := v.ts, epU := v.u, epAt := s.now, oldState := v.epState, oldU := v.epU }
      let s := (s.modGnss fun g => { g with arpSoon := soon }).streamEpoch obs last t
      s.modGnss fun g => { g with arpSoon := due })

/-- MEASUREMENT_RATE_CHANGE: RATE as written takes effect at the next whole second of device time. -/
def execMeasurementRateChange (s : State) : Res :=
  .next (if s.gnss.rateSetAt < s.time / second then
      s.modGnss fun g => { g with rate := s.rf rGnsCfg 0 3 } else s)

/-! ## Saved data and capture (R314, R318) -/

/-- GNSS_DATA_SAVE. -/
def execGnssDataSave (s : State) : Res :=
  .next (if s.past s.gnss.navSavedAt (3600 * second) then
      (s.modGnss fun g => { g with navSavedAt := s.now }).flashWrite (.nav s.gnss.nav)
    else s)

/-- CAPTURE_GO: a write of GNS_CAP_CTL. -/
def execCaptureGo (w : Word) (s : State) : Res :=
  let n := fieldOf w 0 21
  .next (s.bar fun s => 
    let busy := s.gnss.capBusy
    let s := if busy then s else s.modGnss fun g => { g with capBand := fieldOf w 29 1, capCount := n }
    if !flagOf w 31 ∨ busy ∨ n = 0 ∨ 2 ^ 20 < n then s
    else s.asRole 2 fun s => s.modGnss fun g => { g with capBusy := true, capAt := (s.time / ms + 1) * ms })

def zeroSample : Nat → Byte := fun _ => 0#8

/-- CAPTURE_COMPLETE: the samples fill the buffer from its start; 61.44 samples come in each µs. -/
def execCaptureComplete (samples : List Byte) (s : State) : Res :=
  .next (if !s.gnss.capBusy ∨ s.time < s.gnss.capAt + s.gnss.capCount * 100000 / 6144 then s
    else s.modGnss fun g =>
      { g with capBusy := false, capBuf := tblPutList zeroSample g.capBuf 0 (bytesAt samples 0 g.capCount) })

/-- CAP_DATA_READ. -/
def execCapDataRead (s : State) : Res :=
  s.barRead fun s =>
    let i := s.reg rGnsCapIdx
    let v := ofLE ((List.range 4).map fun k => tblGet zeroSample s.gnss.capBuf (4 * i + k))
    (v, s.setReg rGnsCapIdx ((i + 1) % 2 ^ 18))

end Sys2Proof.Machine
end

