-- ==== Sys2Proof/Machine/Network.lean ====
section
/-! DEFINITION. The Ethernet ports and PTP (R360 to R366, R385). Frame layouts are those of IEEE 802.3,
ARP, IPv4 and IEEE 1588-2019 (log entry 43). -/

namespace Sys2Proof.Machine

/-! ## Ports (R360 to R362, R385) -/

def State.ethOn (s : State) (p : Fin 2) : Bool := s.rbit (rEthCfg p) 0
def State.ethMac (s : State) (p : Fin 2) : Nat := s.reg (rEthMac p)
def State.ethIp (s : State) (p : Fin 2) : Nat := s.reg (rEthIp p)

/-- Receive time of the last frame of a port: the stamp of its SFD, less RX_DLY (R360, Table 11-1). -/
def State.rxTime (s : State) (p : Fin 2) : Int := signedOf 64 s.tmb.stamps[20 + 2 * p.val].last

/-- Departure time of a frame whose SFD the latch takes now: its stamp, with TX_DLY added. -/
def State.txTime (s : State) (p : Fin 2) : Int := signedOf 64 (s.stampNow (21 + 2 * p.val))

/-- A frame breaks off after `n` bytes: its put has been tested with its first unit, and its cells stay in use
until the partial packet is discarded (R382). -/
def State.breakOff (s : State) (port : Fin 2) (n : Nat) : State :=
  let c := cellsFor (8 + n)
  if n = 0 then s
  else s.modPalette fun p =>
    if p.admits (19 + port) c then
      { p with parts := p.parts ++ [{ queue := 19 + port, cells := c, since := s.now }] }
    else p.modQ (19 + port) fun x => { x with full := satAdd 8 x.full 1 }

/-- ETH_LINK: `part` are the bytes received of a frame that a falling link breaks off. -/
def execEthLink (port : Fin 2) (up : Bool) (speed : BitVec 16) (part : Nat) (s : State) : Res :=
  .next (if s.eth[port].link = up then s
    else
      let s := if up then s else s.breakOff port part
      (s.modPort port fun e => { e with link := up, speed := speed.toNat }).emit evEthLink port (bit up) speed.toNat)

/-- Length of an egress frame is allowed (R385). -/
def egressOk (b : List Byte) : Bool :=
  let tag := ofBE (bytesAt b 12 2) == 0x8100
  if tag then decide (18 ≤ b.length) && decide (b.length ≤ 1518)
  else decide (14 ≤ b.length) && decide (b.length ≤ 1514)

/-- A frame as the MAC sends it: padded to 60 bytes, with FCS. -/
def macFrame (b : List Byte) : List Byte :=
  let f := bytesAt b 0 (max 60 b.length)
  f ++ toLE 4 (crc32 f)

/-- ETH_FRAME_SEND: the head of Q17 or Q18. -/
def execEthFrameSend (port : Fin 2) (ro : ReadOut) (s : State) : Res :=
  .next (if !s.ethOn port ∨ !s.eth[port].link then s
    else match s.readHead (17 + port) 2 ro with
      | (.packet k, s) => if egressOk k.bytes then s.put (.eth port (macFrame k.bytes)) else s.countBad (17 + port)
      | (_, s) => s)

/-- ETH_EGRESS_DROP: a port without a link has held its head frame for 10 ms. -/
def execEthEgressDrop (port : Fin 2) (ro : ReadOut) (s : State) : Res :=
  .next (match (s.palette.q (17 + port)).headSince with
    | some t =>
      if s.eth[port].link ∨ !s.past t (10 * ms) then s
      else match s.readHead (17 + port) 2 ro with
        | (.packet _, s) => s.countBad (17 + port)
        | (_, s) => s
    | none => s)

/-- The MAC takes a frame to this address: its own, broadcast or multicast. -/
def State.forUs (s : State) (p : Fin 2) (f : List Byte) : Bool :=
  let d := ofBE (bytesAt f 0 6)
  d == s.ethMac p || (leAt f 0 1) % 2 == 1

/-- PTP of a port that runs PTP, by its transport (Table 11-2). -/
def State.isPtp (s : State) (p : Fin 2) (f : List Byte) : Bool :=
  s.rf (rEthPtp p) 0 2 != 0 &&
  if s.rbit (rEthPtp p) 2 then
    let port := ofBE (bytesAt f 36 2)
    etherType f == 0x0800 && leAt f 23 1 == 17 && (port == 319 || port == 320)
  else etherType f == 0x88F7

/-- An ARP packet whose target address is the port's. -/
def State.isArp (s : State) (p : Fin 2) (f : List Byte) : Bool :=
  etherType f == 0x0806 && s.ethIp p != 0 && ofBE (bytesAt f 38 4) == s.ethIp p

def State.learnArp (s : State) (p : Fin 2) (ip mac : Nat) : State :=
  s.modPort p fun e => { e with arp := tblPut noMac e.arp ip mac }

/-- ETH_FRAME_RECEIVED: the frame is taken by the supervisor, put on Q19 or Q20 behind its receive time, or
dropped (R360, R385, R423). -/
def execEthFrameReceived (port : Fin 2) (frame : List Byte) (fcsOk : Bool) (s : State) : Res :=
  .next (if !s.ethOn port ∨ !s.eth[port].link then s
    else if !fcsOk || decide (frame.length < 14) || decide (1514 < frame.length) || !s.forUs port frame then
      s.countBad (19 + port)
    else if s.isPtp port frame then s
    else if s.isArp port frame then s.learnArp port (ofBE (bytesAt frame 28 4)) (ofBE (bytesAt frame 22 6))
    else if s.standby then s.countBad (19 + port)
    else (s.offerPacket (19 + port) { level := 0, bytes := toLE 8 (codeOf 64 (s.rxTime port)) ++ frame }).2)

/-- ARP_REQUEST (R361): the answer goes through Q17 or Q18. -/
def execArpRequest (port : Fin 2) (senderMac : BitVec 48) (senderIp targetIp : BitVec 32) (s : State) : Res :=
  .next (if !s.ethOn port ∨ !s.eth[port].link ∨ s.ethIp port = 0 ∨ targetIp.toNat ≠ s.ethIp port then s
    else
      let s := s.learnArp port senderIp.toNat senderMac.toNat
      (s.offerPacket (17 + port)
        { level := 0
          bytes := arpFrame 2 senderMac.toNat (s.ethMac port) (s.ethIp port) senderMac.toNat senderIp.toNat }).2)

/-! ## PTP messages (R363 to R365) -/

/-- EUI-64 of a MAC address, and the port identity (Table 11-3). -/
def eui64 (mac : Nat) : Nat := mac / 2 ^ 24 * 2 ^ 40 + 0xFFFE * 2 ^ 24 + mac % 2 ^ 24

def State.portId (s : State) (p : Fin 2) : Nat := eui64 (s.ethMac p) * 2 ^ 16 + 1

/-- A timestamp: 48 bits of seconds and 32 of nanoseconds. -/
def ptpStamp (t : Int) : List Byte :=
  let n := codeOf 64 t
  toBE 6 (n / second) ++ toBE 4 (n % second)

/-- A message of a type with its flags, correctionField, sequence number, interval code and body. -/
def State.ptpMessage (s : State) (p : Fin 2) (type flags : Nat) (corr : Int) (seq interval : Nat) (body : List Byte) :
    List Byte :=
  let control := [0, 1, 5, 5, 5, 5, 5, 5, 2, 3].getD type 5
  [BitVec.ofNat 8 type, 0x12#8] ++ toBE 2 (34 + body.length) ++ toBE 1 (s.rf (rEthPtp p) 8 7) ++ [0#8] ++ toBE 2 flags ++
  toBE 8 (codeOf 64 corr) ++ toBE 4 0 ++ toBE 10 (s.portId p) ++ toBE 2 seq ++ toBE 1 control ++ toBE 1 interval ++ body

/-- A UDP frame of PTP to 224.0.1.129. -/
def State.ptpUdp (s : State) (p : Fin 2) (event : Bool) (id : Nat) (m : List Byte) : List Byte :=
  udpFrame 0x01005E000181 (s.ethMac p) (s.ethIp p) 0xE0000181 (if event then 319 else 320) (id % 65536) m

/-- A UDP frame with its payload's bytes from 34 on, the originTimestamp, replaced by `stamp` and the two appended
bytes rewritten, so that the UDP checksum it carries stays valid (R364). -/
def restamp (f stamp : List Byte) : List Byte :=
  let f' := f.take 76 ++ stamp ++ f.drop 86
  if ofBE (bytesAt f 40 2) = 0 then f'
  else
    let pseudo := bytesAt f 26 8 ++ [0#8, 0x11#8] ++ bytesAt f 38 2
    let x := f'.take (f'.length - 2)
    x ++ toBE 2 (inetSum (pseudo ++ x.drop 34))

/-- A message leaves on its transport; event messages use UDP port 319, the others 320. A port without an IPv4
address originates no UDP (R361). -/
def State.sendPtp (s : State) (p : Fin 2) (event : Bool) (m : List Byte) : State :=
  if s.rbit (rEthPtp p) 2 then
    if s.ethIp p = 0 then s
    else
      let (id, s) := s.draw
      s.put (.eth p (macFrame (s.ptpUdp p event id m)))
  else s.put (.eth p (macFrame (toBE 6 0x011B19000000 ++ toBE 6 (s.ethMac p) ++ toBE 2 0x88F7 ++ m)))

/-- The port runs PTP in a role: 1 grandmaster, 2 client. -/
def State.ptpRole (s : State) (p : Fin 2) (r : Nat) : Bool :=
  s.ethOn p && s.eth[p].link && s.rf (rEthPtp p) 0 2 == r && s.pwr.booted

/-- portState as shown: a client without a grandmaster listens, a grandmaster's port is master (IEEE 1588-2019). -/
def State.portState (s : State) (p : Fin 2) : Nat :=
  match s.rf (rEthPtp p) 0 2 with
  | 1 => 6
  | 2 => if s.eth[p].ptpState = 0 then 4 else s.eth[p].ptpState
  | _ => 0

def State.syncPeriod (s : State) (p : Fin 2) : Nat := second / 2 ^ s.rf (rEthPtp p) 3 3
def State.annPeriod (s : State) (p : Fin 2) : Nat := second * 2 ^ s.rf (rEthPtp p) 6 2

/-- logSyncInterval as a byte. -/
def State.logSync (s : State) (p : Fin 2) : Nat := codeOf 8 (-(s.rf (rEthPtp p) 3 3 : Nat) : Int)

def State.elapsed (s : State) (last : Option Nat) (d : Nat) : Bool :=
  match last with
  | some t => s.past t d
  | none => true

/-- A Sync leaves with its departure time written into it. Over UDP the supervisor's frame has two bytes appended,
and a timestamp of its own, which the spec leaves open. -/
def State.sendSync (s : State) (p : Fin 2) : State :=
  let m := fun (body : List Byte) => s.ptpMessage p 0 0 0 s.eth[p].syncSeq (s.logSync p) body
  let stamp := ptpStamp (s.txTime p)
  if s.rbit (rEthPtp p) 2 then
    if s.ethIp p = 0 then s
    else
      let (id, s) := s.draw
      let (own, s) := s.draw
      s.put (.eth p (macFrame (restamp (s.ptpUdp p true id (m (toBE 10 (own % 2 ^ 80)) ++ [0#8, 0#8])) stamp)))
  else s.sendPtp p true (m stamp)

/-- PTP_SYNC_SEND (R364). -/
def execPtpSyncSend (port : Fin 2) (s : State) : Res :=
  .next (if !s.ptpRole port 1 || !s.elapsed s.eth[port].syncAt (s.syncPeriod port) then s
    else
      let e := s.eth[port]
      let s := s.sendSync port
      s.modPort port fun e => { e with syncAt := some s.now, syncSeq := (e.syncSeq + 1) % 65536, ptpState := 6 })

/-- Bounds of clockAccuracy codes 0x20 to 0x30 in ns. -/
def accuracyBounds : List Nat :=
  [25, 100, 250, 1000, 2500, 10000, 25000, 100000, 250000, 1000000, 2500000, 10000000, 25000000, 100000000, 250000000,
   1000000000, 10000000000]

/-- clockAccuracy (Table 11-3). -/
def State.clockAccuracy (s : State) : Nat :=
  match s.servo.ts, s.servo.u with
  | .untrusted, _ => 0xFE
  | _, none => 0xFE
  | _, some u => 0x20 + (accuracyBounds.findIdx? fun b => decide (u ≤ b)).getD 17

def State.clockClass (s : State) : Nat :=
  match s.servo.ts with
  | .locked => 6
  | .untrusted => 248
  | _ => 7

/-- timeSource by the source in force; a unit that follows its twin serves the active's GNSS time. -/
def State.timeSource (s : State) : Nat :=
  match s.tmb.srcUsed with
  | 1 => 0x40
  | 2 => 0xA0
  | _ => 0x20

/-- Flags of an Announce: leap second, UTC offset valid, PTP timescale, traceability. -/
def State.annFlags (s : State) : Nat :=
  let trace := s.servo.ts == .locked || s.servo.ts == .recovering
  let today := s.leapDays == 0
  packNat [(0, 1, bit (today && s.gnss.leap == 1)), (1, 1, bit (today && s.gnss.leap == 2)),
    (2, 1, bit s.gnss.utcValid), (3, 1, 1), (4, 1, bit trace), (5, 1, bit (trace || s.servo.ts == .holdover))]

/-- PTP_ANNOUNCE_SEND (R365). -/
def execPtpAnnounceSend (port : Fin 2) (s : State) : Res :=
  .next (if !s.ptpRole port 1 || !s.elapsed s.eth[port].annAt (s.annPeriod port) then s
    else
      let e := s.eth[port]
      let body := ptpStamp s.time ++ toBE 2 s.gnss.taiUtc ++ [0#8] ++ toBE 1 (s.rf (rEthPtp port) 24 8) ++
        toBE 1 s.clockClass ++ toBE 1 s.clockAccuracy ++ toBE 2 0xFFFF ++ toBE 1 (s.rf (rEthPtp port) 16 8) ++
        toBE 8 (eui64 (s.ethMac port)) ++ toBE 2 0 ++ toBE 1 s.timeSource
      let s := s.sendPtp port false (s.ptpMessage port 11 s.annFlags 0 e.annSeq (s.rf (rEthPtp port) 6 2) body)
      s.modPort port fun e => { e with annAt := some s.now, annSeq := (e.annSeq + 1) % 65536, ptpState := 6 })

/-- The message belongs to the port's domain. -/
def State.inDomain (s : State) (p : Fin 2) (m : PtpMsg) : Bool := m.domain == s.rf (rEthPtp p) 8 7

/-- PTP_DELAY_REQ_RECEIVED: a grandmaster answers, with the profile's default Delay_Req interval of 1 s, code 0
(Table 11-2, log entry 64). -/
def execPtpDelayReqReceived (port : Fin 2) (m : PtpMsg) (s : State) : Res :=
  .next (if !s.ptpRole port 1 || !s.inDomain port m then s
    else s.sendPtp port false (s.ptpMessage port 9 0 m.corr m.seq.toNat 0
      (ptpStamp (s.rxTime port) ++ toBE 10 m.source.toNat)))

/-! ## Client (R366) -/

/-- Order of the best master clock algorithm. -/
def Master.key (m : Master) : List Nat :=
  [m.prio1, m.cls, m.accuracy, m.variance, m.prio2, m.identity, m.steps, m.sender]

def bestOf : List Master → Option Master
  | [] => none
  | m :: t => match bestOf t with
    | none => some m
    | some b => if keyLe m.key b.key then some m else some b

/-- A foreign master is qualified: two Announces within four announce intervals, and fewer than 255 steps away
(IEEE 1588-2019, log entry 64). -/
def Master.qualified (m : Master) (now period : Nat) : Bool :=
  decide (m.steps < 255) && match m.before with
    | some t => decide (now < t + 4 * period)
    | none => false

/-- Grandmasters unheard for three announce intervals are dropped, and the best of those qualified is followed;
where it is another than before, PTP_MASTER is recorded. -/
def State.judgeMaster (s : State) (port : Fin 2) : State :=
  let period := s.annPeriod port
  let live := s.eth[port].masters.filter fun y => !s.past y.heardAt (3 * period)
  let best := bestOf (live.filter (·.qualified s.now period))
  let same := s.eth[port].best.map (·.identity) == best.map (·.identity)
  let s := s.modPort port fun e =>
    { e with
      masters := live
      best := best
      ex := if same then e.ex else none
      ptpState := if best.isNone then 4 else if same && e.ptpState == 9 then 9 else 8 }
  match best with
  | some b => if same then s else s.emit evPtpMaster port (b.identity % 2 ^ 32) (b.identity / 2 ^ 32) b.cls
  | none => s

/-- Client ports at a tick. -/
def State.judgeMasters (s : State) : State :=
  (List.finRange 2).foldl (fun s (p : Fin 2) => if s.ptpRole p 2 then s.judgeMaster p else s) s

/-- PTP_ANNOUNCE_RECEIVED: a change of grandmaster records PTP_MASTER. -/
def execPtpAnnounceReceived (port : Fin 2) (m : PtpMsg) (d : PtpData) (s : State) : Res :=
  .next (if !s.ptpRole port 2 || !s.inDomain port m then s
    else
      let old := s.eth[port].masters.find? (·.sender == m.source.toNat)
      let x : Master :=
        { prio1 := d.prio1.toNat, cls := d.cls.toNat, accuracy := d.accuracy.toNat, variance := d.variance.toNat
          prio2 := d.prio2.toNat, identity := d.identity.toNat, steps := d.steps.toNat, sender := m.source.toNat
          heardAt := s.now, before := old.map (·.heardAt) }
      (s.modPort port fun e =>
        { e with masters := x :: e.masters.filter (·.sender != x.sender) }).judgeMaster port)

/-- The message comes from the grandmaster the client follows. -/
def State.fromBest (s : State) (p : Fin 2) (m : PtpMsg) : Bool :=
  s.ptpRole p 2 && s.inDomain p m && match (s.judgeMaster p).eth[p].best with
    | some b => b.sender == m.source.toNat
    | none => false

/-- PTP_SYNC_RECEIVED. Times of an exchange count 2^-16 ns. A Delay_Req still without its answer stays. -/
def execPtpSyncReceived (port : Fin 2) (m : PtpMsg) (s : State) : Res :=
  .next (if !s.fromBest port m then s
    else
      let old := s.eth[port].ex
      let x : PtpEx :=
        { syncSeq := m.seq.toNat
          t1 := if m.twoStep then none else some ((m.time : Int) * 65536)
          t2 := s.rxTime port * 65536 - m.corr
          reqSeq := old.bind (·.reqSeq)
          t3 := (old.map (·.t3)).getD 0 }
      s.modPort port fun e => { e with ex := some x })

/-- PTP_FOLLOW_UP_RECEIVED. -/
def execPtpFollowUpReceived (port : Fin 2) (m : PtpMsg) (s : State) : Res :=
  .next (match s.eth[port].ex with
    | some x =>
      if s.fromBest port m && x.syncSeq == m.seq.toNat && x.t1.isNone then
        s.modPort port fun e => { e with ex := some { x with t1 := some ((m.time : Int) * 65536 + m.corr) } }
      else s
    | none => s)

/-- PTP_DELAY_REQ_SEND: a client that has t1 and t2, once per Delay_Req interval. -/
def execPtpDelayReqSend (port : Fin 2) (s : State) : Res :=
  .next (match s.eth[port].ex with
    | some x =>
      if !s.ptpRole port 2 || x.t1.isNone || !s.elapsed s.eth[port].reqAt second then s
      else
        let q := s.eth[port].reqSeq
        let s := s.sendPtp port true (s.ptpMessage port 1 0 0 q 0x7F (ptpStamp (s.txTime port)))
        s.modPort port fun e =>
          { e with ex := some { x with reqSeq := some q, t3 := s.txTime port * 65536 }
                   reqAt := some s.now, reqSeq := (q + 1) % 65536 }
    | none => s)

/-- Standard deviation of a list of values, rounded down. -/
def stdDev (l : List Int) : Nat :=
  let n : Int := l.length
  if n = 0 then 0
  else
    let sum := l.foldl (· + ·) 0
    let sq := l.foldl (fun a x => a + x * x) 0
    isqrt ((n * sq - sum * sum) / (n * n)).toNat

/-- The grandmaster's clockAccuracy bound in ns; of a code without a bound, a free value. -/
def State.masterBound (s : State) (p : Fin 2) : Nat × State :=
  match s.eth[p].best with
  | some b => match accuracyBounds[b.accuracy - 0x20]? with
    | some n => if 0x20 ≤ b.accuracy then (n, s) else s.draw
    | none => s.draw
  | none => s.draw

/-- PTP_DELAY_RESP_RECEIVED: the exchange is complete and gives Δ, which drives the servo with SRC
PTP. -/
def execPtpDelayRespReceived (port : Fin 2) (m : PtpMsg) (requester : BitVec 80) (freq slew : Int) (s : State) : Res :=
  .next (match s.eth[port].ex with
    | some x =>
      match x.t1, x.reqSeq with
      | some t1, some q =>
        if !s.fromBest port m || requester.toNat != s.portId port || q != m.seq.toNat then s
        else
          let t4 := (m.time : Int) * 65536 - m.corr
          let d := divRound (-((x.t2 - t1) - (t4 - x.t3))) (2 * 65536)
          let s := s.modPort port fun e =>
            { e with ex := none, ofs := clampS 32 d, deltas := (d :: e.deltas).take 16, ptpState := 9 }
          if s.tmb.srcUsed ≠ 1 ∨ s.tmb.following then s
          else
            let (b, s) := s.masterBound port
            s.takeSoln { delta := d, base := b + 2 * stdDev s.eth[port].deltas, freq := freq, slew := slew }
      | _, _ => s
    | none => s)

end Sys2Proof.Machine
end

