-- ==== Sys2Proof/Machine/Canvas.lean ====
section
/-! DEFINITION. The grant engine: reports, grants, withdrawals, blocks, sweeps, lost robots and
probes (R172 to R207). -/

namespace Sys2Proof.Machine

/-! ## Live grants and holds -/

/-- Holds of a robot's park sets. -/
def Canvas.parksOf (c : Canvas) (r : Nat) : List Hold :=
  c.holds.filter fun h => match h.owner with
    | .park r' _ => r' == r
    | _ => false

/-- Generation of a park hold. -/
def Hold.gen (h : Hold) : Nat :=
  match h.owner with
  | .park _ g => g
  | _ => 0

def Canvas.liveOf (c : Canvas) (k r : Nat) : List Grant :=
  c.grants.filter fun g => g.robot == r && c.liveAt k g

/-- Records of grants that have ended at the batch's boundary with their outcome recorded are freed
(Table 6-12). -/
def Canvas.retire (c : Canvas) : Canvas :=
  { c with grants := c.grants.filter fun g => c.liveAt c.kA g || g.due.isSome
      || g.state == .queued || g.state == .sent }

/-- Indices of the cells HELD by a robot that satisfy a test, those of age 0 left out (R178). -/
def Canvas.cellsHeld (c : Canvas) (r : Nat) (p : Nat → Cell → Bool) : List Nat :=
  (c.cells.filter fun x => c.mine x.1 && x.2.robotHeld r && p x.1 x.2).map (·.1)

/-- Free every cell that carries a robot and generation (R186); how many there were. -/
def Canvas.freeGen (c : Canvas) (r g : Nat) : Nat × Canvas :=
  c.freeIf (·.heldBy r g) (c.cellsHeld r fun _ x => x.gen == g % 16)

/-! ## Reports (R190, R199, R201) -/

/-- Numbers of CELLS_RELEASED. -/
def State.released (s : State) (r n why gen : Nat) : State := s.emit evCellsReleased r n why gen

/-- The grant of this generation is voided and not yet released by its robot's standstill (R197, R199). -/
def Canvas.keepsVoided (c : Canvas) (r gen : Nat) : Bool :=
  (c.robot r).stand != .parked && c.grants.any fun g => g.robot == r && g.gen == gen && g.voided

/-- A park hold ends at a report from outside it, after its owner's last Canvas slot, while the
robot has another live grant or park hold (R190). One of a voided grant stays until the releases of its
robot's standstill (R197). -/
def State.endParks (s : State) (r : CReport) (q : Nat) : State :=
  (s.canvas.parksOf r.robot).foldl (fun s h =>
    let c := s.canvas
    let others := (c.liveOf c.kA r.robot).any (·.gen != h.gen) || (c.parksOf r.robot).any (·.owner != h.owner)
    if !c.keepsVoided r.robot h.gen && h.squares.all (·.1 != q) && decide (h.ends * c.periodNs ≤ r.time) && others then
      let (n, c) := (c.dropHold h.owner).freeGen r.robot h.gen
      (s.modCanvas fun _ => c.retire).released r.robot n 2 h.gen
    else s) s

/-- The token of a standstill report belongs to a later superframe than the one before (R264). -/
def laterToken (new old : Option Nat) : Bool :=
  match new, old with
  | some n, some o => decide (o < n)
  | some _, none => true
  | none, _ => false

/-- A park hold of a robot cut to the squares of a set; none where nothing is left. -/
def Hold.keepIn (r : Nat) (set : List Nat) (h : Hold) : Option Hold :=
  match h.owner with
  | .park r' _ =>
    if r' ≠ r then some h
    else
      let qs := h.squares.filter fun x => set.contains x.1
      if qs = [] then none else some { h with squares := qs }
  | _ => some h

/-- First standstill report after a stop: cells beyond the standstill set are freed (R199). -/
def State.releaseBeyond (s : State) (r gen : Nat) (gens : List Nat) (set : List Nat) : State :=
  let c := s.canvas
  let c := { c with holds := c.holds.filterMap (Hold.keepIn r set) }
  let (n, c) := c.freeIf (·.robotHeld r)
    (c.cellsHeld r fun i x => gens.contains x.gen && !set.contains (i / 128))
  (s.modCanvas fun _ => c.modRobot r fun x => { x with stand := .found set }).released r n 0 gen

/-- Next standstill report under a later live token: the cells in the standstill set become a park
hold of the robot (R199). -/
def State.parkEnvelope (s : State) (r : Nat) (g : Grant) (gens : List Nat) (set : List Nat) : State :=
  let c := s.canvas
  let mine := c.cellsHeld r fun i x => gens.contains x.gen && set.contains (i / 128)
  let qs := set.filter fun q => mine.any fun i => i / 128 == q
  let v : Cell := { state := .held, halo := false, gen := g.gen % 16, who := r }
  let c := mine.foldl (fun c i => c.setCell i v) c
  let c := (c.setFree (fun _ => v) ((cellsOf qs).filter c.mine)).2
  let c := { c with holds := c.holds.filter fun h => !(c.parksOf r).contains h }
  let (ok, rest) := takeFit c.stored (qs.map fun q => (q, false))
  let h : Hold := { owner := .park r g.gen, squares := ok, rest := rest, ends := g.ends, index := r }
  let c := { c with holds := c.holds ++ [h] }
  (s.modCanvas fun _ => c.modRobot r fun x => { x with stand := .parked }).released r mine.length 1 g.gen

/-- A standstill report of a robot with voided grants (R199). -/
def State.standstill (s : State) (r : CReport) (prev : Option Nat) (q : Nat) : State :=
  let c := s.canvas
  let vs := (c.liveOf c.kA r.robot).filter (·.voided)
  match vs.getLast? with
  | none => s
  | some g =>
    let gens := (vs.map (·.gen % 16)) ++ (c.parksOf r.robot).map (·.gen % 16)
    match (c.robot r.robot).stand with
    | .none => s.releaseBeyond r.robot g.gen gens (c.within q c.parkHops)
    | .found set => if laterToken r.token prev then s.parkEnvelope r.robot g gens set else s
    | .parked => s

/-- FLEET_REBUILT, once every provisioned robot has reported in the incarnation (R35); judged at each report
(log entry 56). -/
def State.rebuiltCheck (s : State) : State :=
  let joined := fun r => (s.canvas.robot r).joined
  if !s.fleet.rebuilt && (List.range 256).all fun r => !s.air.provisioned r || joined r then
    (s.modFleet fun f => { f with rebuilt := true }).emit evFleetRebuilt s.fleet.incarnation
      ((List.range 256).filter joined).length ((s.now - s.fleet.incStart) / ms)
  else s

/-- A report is applied to the Canvas (R190, R199, R201). What ROBOT_REJOINED shows without a square is log
entry 56. -/
def State.applyReport (s : State) (r : CReport) : State :=
  let x := s.canvas.robot r.robot
  let silence := match x.lastReport with
    | some t => (r.time - t) / ms
    | none => 0
  let found := x.lost || s.canvas.hasLost r.robot
  let s := s.modCanvas fun c => (c.clearLost r.robot).modRobot r.robot fun x =>
    { x with lost := false, lastReport := some r.time, reported := true, joined := true,
             square := match r.square with
               | some q => some q
               | none => x.square,
             standToken := if r.standstill then r.token else x.standToken }
  let sq := (s.canvas.robot r.robot).square.getD 0xFFFF
  let s := if !x.joined then s.emit evRobotRejoined r.robot sq
    else if found then s.emit evRobotFound r.robot sq silence else s
  let s := s.rebuiltCheck
  let s := if r.standstill then
      s.modFleet fun f => { f with stops := f.stops.map fun y =>
        if y.kind == .robot && y.index == r.robot then { y with standstill := true } else y }
    else s
  match r.square with
  | none => s
  | some q =>
    let s := if r.standstill then s.standstill r x.standToken q else s
    s.endParks r q

/-! ## Requests (R176, R187) -/

/-- A descriptor's bytes, none where it lies outside the Atelier or was not read. -/
def State.descBytes (s : State) : BatchReq → Option (List Byte)
  | .report _ | .lost _ _ => none
  | .host d => if 32 ≤ d.length then some d else none
  | .easel r =>
    let a := r.value.toNat
    let n := 32 + 4 * leAt (s.atelier.bytes a 32) 4 2
    if inAtelier a n then some (s.atelier.bytes a n) else none

/-- OP of the request at hand, 4 where there is none or its header cannot be read, and 5 for an internal
operation. A grant in its commit is a GRANT. -/
def State.headOp (s : State) : Nat :=
  if s.canvas.commit.isSome then 0
  else match s.canvas.batch with
  | [] => 4
  | .report _ :: _ | .lost _ _ :: _ => 5
  | .host d :: _ => min 4 (leAt d 0 1)
  | .easel r :: _ => if inAtelier r.value.toNat 32 then min 4 (leAt (s.atelier.bytes r.value.toNat 32) 0 1) else 4

/-- A descriptor entry (Table 6-8). -/
structure Entry where
  square : Nat
  enter : Nat
  exit : Nat
  park : Bool
  top : Bool
deriving DecidableEq, Repr

def entryAt (d : List Byte) (i : Nat) : Entry :=
  let w := leAt d (32 + 4 * i) 4
  { square := bitsOf w 0 16, enter := bitsOf w 16 7, exit := bitsOf w 23 7,
    park := bitsOf w 30 1 == 1, top := bitsOf w 31 1 == 1 }

/-- A descriptor header (Table 6-7). -/
structure Desc where
  op : Nat
  who : Nat
  gen : Nat
  count : Nat
  halo : Nat
  deliver : Nat
  tag : Nat
  entries : List Entry
deriving DecidableEq, Repr

def descOf (d : List Byte) : Desc :=
  let n := leAt d 4 2
  { op := leAt d 0 1, who := leAt d 1 1, gen := leAt d 2 2, count := n, halo := leAt d 6 1,
    deliver := leAt d 8 2, tag := leAt d 12 4, entries := (List.range n).map (entryAt d) }

/-- Reserved bytes are 0 and the header's fields are in range (R176). -/
def descForm (d : List Byte) : Bool :=
  let h := descOf d
  (d.drop 10).take 2 == [0, 0] && ((d.drop 16).take 16).all (· == 0) && leAt d 7 1 == 0 &&
  match h.op with
  | 0 => decide (1 ≤ h.count) && decide (h.count ≤ 256) && decide (h.halo < 4) &&
      decide (20 ≤ h.deliver) && decide (h.deliver ≤ 30000)
  | 1 => h.count == 0 && h.halo == 0 && h.deliver == 0
  | 2 | 3 => decide (0x80 ≤ h.who) && h.gen == 0 && decide (1 ≤ h.count) && decide (h.count ≤ 256) &&
      h.halo % 128 == 0 && h.deliver == 0
  | _ => false

/-- First entry at fault, none where every one is well formed (R176, step 2 of Table 6-9). -/
def badEntry (c : Canvas) (h : Desc) : Option Nat :=
  h.entries.findIdx? fun e => e.top || decide (c.n ≤ e.square) ||
    (h.op != 0 && (e.park || (h.halo == 128 && (e.enter != 0 || e.exit != 0))))

/-- The result word (Table 6-10). -/
def resultWord (code bank state detail gen : Nat) : Word :=
  pack [(28, 4, code), (26, 2, bank), (24, 2, state), (16, 8, detail), (0, 16, gen)]

/-- A refusal: code, bank, state, detail, and the cell of a conflict or fault (R187). -/
structure Refused where
  code : Nat
  bank : Nat := 0
  state : Nat := 0
  detail : Nat := 0
  cell : Option Nat := none
deriving DecidableEq, Repr

/-- The request at the head leaves the batch; it counts for the places of stops (R196). -/
def Canvas.popReq (c : Canvas) : Canvas :=
  { c with batch := c.batch.drop 1, batchDone := c.batchDone + 1, commit := none }

/-- The request at the head leaves the batch with its result word (R195, R88, Table 13-7). -/
def State.finishReq (s : State) (q : BatchReq) (h : Desc) (w : Word) : State :=
  let s := s.item 1 h.who (toLE 4 w.toNat ++ toLE 4 h.tag ++ toLE 2 h.gen)
  let s := s.modCanvas fun c =>
    { c.popReq with
             accepted := if fieldOf w 28 4 = 0 then satAdd 10 c.accepted 1 else c.accepted
             refused := if fieldOf w 28 4 = 0 then c.refused else satAdd 10 c.refused 1 }
  match q with
  | .host _ => s.modCanvas fun c => if c.hostBusy then { c with hostResult := w, hostBusy := false } else c
  | .easel r => s.pushResult 0 r.task r.slot w
  | .report _ | .lost _ _ => s

/-- The request is refused and GRANT_REFUSED is recorded (R187). -/
def State.refuseReq (s : State) (q : BatchReq) (h : Desc) (r : Refused) : State :=
  let w := resultWord r.code r.bank r.state r.detail h.gen
  let s := match r.cell with
    | some i => s.modCanvas fun c => { c with conflictNew := true, conflict := (r.code, i) }
    | none => s
  (s.finishReq q h w).emit evGrantRefused h.who h.gen h.tag w.toNat

/-- A descriptor that names no operation or cannot be read: code 12 (R176). -/
def State.refuseForm (s : State) (q : BatchReq) : State :=
  let d := match q with
    | .host d => d
    | .easel r => if inAtelier r.value.toNat 32 then s.atelier.bytes r.value.toNat 32 else []
    | .report _ | .lost _ _ => []
  s.refuseReq q { descOf d with entries := [] } { code := 12 }

/-- Requests at the head that no operation takes are refused in their turn. -/
def State.dropInvalid : Nat → State → State
  | 0, s => s
  | n + 1, s =>
    if s.headOp = 4 then
      match s.canvas.batch with
      | q :: _ => (s.refuseForm q).dropInvalid n
      | [] => s
    else s

/-- Between two requests: logged stops that stand at this place act (R196), then requests that cannot be
read are refused; at the end of the batch the wants of gates are judged (R458). -/
def State.nextReq (s : State) : State :=
  if s.canvas.commit.isSome then s
  else
  let s := s.takePlaced
  let s := s.dropInvalid s.canvas.batch.length
  if s.canvas.batch = [] then s.judgeWants (s.canvas.kA % 128) s.epoch.n else s

/-! ## GRANT (R180 to R192) -/

/-- 16-bit serial order: later by 1 to 32,767. -/
def laterGen (new old : Nat) : Bool :=
  let d := (new + 65536 - old) % 65536
  decide (1 ≤ d) && decide (d ≤ 32767)

/-- The far column of the batch is ready (R181). -/
def Canvas.farReady (c : Canvas) : Bool :=
  decide (c.kA * c.periodNs + 8 * ms ≤ c.tA) &&
  c.sweeps.all fun x => x.column != (c.kA + 127) % 128

/-- Park set of a grant with its halo, path squares marked as path (R189). -/
def Canvas.parkSet (c : Canvas) (h : Desc) : List (Nat × Bool) :=
  let own := sortNat ((h.entries.filter (·.park)).map (·.square))
  let all := sortNat ((h.entries.filter (·.park)).flatMap fun e => c.within e.square (h.halo % 4))
  all.map fun q => (q, !own.contains q)

/-- Entry at which the park set passes 64 squares. -/
def Canvas.parkOver (c : Canvas) (h : Desc) : Option Nat :=
  (List.range h.entries.length).find? fun i =>
    decide (64 < (c.parkSet { h with entries := h.entries.take (i + 1) }).length)

/-- An entry needs a column of age 126 or less whose late sweep is still pending (R173). -/
def Canvas.needsPending (c : Canvas) (e : Entry) : Bool :=
  c.sweeps.any fun x =>
    let a := c.ageA x.column
    decide (c.ageA e.enter ≤ a) && decide (a ≤ 126) && (e.park || decide (a ≤ c.ageA e.exit))

/-- Checks 3 to 11 of Table 6-9. -/
def State.grantChecks (s : State) (h : Desc) : Option Refused :=
  let c := s.canvas
  let x := c.robot h.who
  let live := c.liveOf c.kA h.who
  let parks := c.parksOf h.who
  let lows := live.map (·.gen % 16) ++ parks.map (·.gen % 16)
  let set := c.parkSet h
  if s.canvas.admitShut then some { code := 4 }
  else if s.fleet.covered h.who then some { code := 5 }
  else if !x.reported then some { code := 6 }
  else if (x.admitted && !laterGen h.gen x.lastGen) || lows.contains (h.gen % 16) then some { code := 7 }
  else if 4 ≤ live.length ∨ (set ≠ [] ∧ 2 ≤ parks.length) then some { code := 8 }
  else match h.entries.findIdx? fun e =>
      !(decide (1 ≤ c.ageA e.enter) && decide (c.ageA e.enter ≤ c.ageA e.exit)) with
    | some i => some { code := 10, detail := i }
    | none => match h.entries.findIdx? fun e =>
        (!e.park && c.ageA e.exit == 127 && !c.farReady) || c.needsPending e with
      | some i => some { code := 11, detail := i }
      | none => match c.parkOver h with
        | some i => some { code := 9, detail := i }
        | none => if c.persistFull || !c.fits (set.map (·.1)) then some { code := 13 } else none

/-- Last age that a PARK entry is marked to (R189). -/
def Canvas.parkEnd (c : Canvas) : Nat := if c.farReady then 127 else 126

/-- Marks of an entry: its square, then its halo, nearest first, slots by rising age (R182, R185,
R189). -/
def Canvas.marksOf (c : Canvas) (h : Desc) (i : Nat) (e : Entry) : List Mark :=
  let a := c.ageA e.enter
  let b := if e.park then c.parkEnd else c.ageA e.exit
  (c.within e.square (h.halo % 4)).flatMap fun q =>
    (List.range (b + 1 - a)).map fun n =>
      { cell := q * 128 + (c.kA + a + n) % 128, halo := q != e.square, entry := i }

def Canvas.marks (c : Canvas) (h : Desc) : List Mark :=
  (h.entries.zipIdx).flatMap fun x => c.marksOf h x.2 x.1

/-- Test and mark one cell TENTATIVE (R182, R185). `bad` are words found uncorrectable. -/
def Canvas.markCell (c : Canvas) (r gen : Nat) (bad : List Nat) (m : Mark) : Refused ⊕ Canvas :=
  let x := c.cell m.cell
  let bank := m.cell / 128 % 4
  let own := (x.state == .held || x.state == .tentative) && x.who == r
  let ownLost := x == Cell.blocked 1 && match c.hold? (.lost r) with
    | some l => l.squares.any (·.1 == m.cell / 128)
    | none => false
  if bad.contains (m.cell / 4) then .inl { code := 2, bank := bank, cell := some m.cell }
  else if x.state == .free || own || ownLost then
    .inr (c.setCell m.cell
      { state := .tentative, halo := m.halo && !(own && !x.halo), gen := gen % 16, who := r })
  else .inl { code := 1, bank := bank, state := x.word / 2 ^ 14, detail := x.who, cell := some m.cell }

/-- What a phase of a commit leaves: the Canvas, the undo log, the marks that are not done, and why the grant
ends there, if it does. -/
structure CommitRun where
  canvas : Canvas
  undo : List (Nat × Cell)
  todo : List Mark
  fail : Option Refused
deriving DecidableEq, Repr

/-- Phase 1 over at most `n` marks; a grant marks at most 4,096 cells (R182, R184). -/
def Canvas.phase1 (r gen : Nat) (bad : List Nat) : Nat → List Mark → List (Nat × Cell) → Canvas → CommitRun
  | 0, ms, u, c => { canvas := c, undo := u, todo := ms, fail := none }
  | _ + 1, [], u, c => { canvas := c, undo := u, todo := [], fail := none }
  | n + 1, m :: t, u, c =>
    if 4096 ≤ u.length then
      { canvas := c, undo := u, todo := m :: t, fail := some { code := 9, detail := m.entry } }
    else match c.markCell r gen bad m with
      | .inl e => { canvas := c, undo := u, todo := m :: t, fail := some e }
      | .inr d => Canvas.phase1 r gen bad n t ((m.cell, c.cell m.cell) :: u) d

/-- Phase 2 over at most `n` marks: every TENTATIVE cell of the grant becomes HELD (R183). -/
def Canvas.phase2 (bad : List Nat) : Nat → List Mark → List (Nat × Cell) → Canvas → CommitRun
  | 0, ms, u, c => { canvas := c, undo := u, todo := ms, fail := none }
  | _ + 1, [], u, c => { canvas := c, undo := u, todo := [], fail := none }
  | n + 1, m :: t, u, c =>
    if bad.contains (m.cell / 4) then
      { canvas := c, undo := u, todo := m :: t,
        fail := some { code := 2, bank := m.cell / 128 % 4, cell := some m.cell } }
    else Canvas.phase2 bad n t u (c.setCell m.cell { c.cell m.cell with state := .held })

/-- Every cell of the undo log, newest first, takes back its value (R182, R183). A cell whose word was found
uncorrectable meanwhile stays BLOCKED ECC; one that was FREE becomes what a freed cell is (R204, R206). -/
def Canvas.rollback (c : Canvas) (u : List (Nat × Cell)) : Canvas :=
  u.foldl (fun c x =>
    if c.cell x.1 = Cell.blocked 3 then c
    else c.setCell x.1 (if x.2 = Cell.free then c.freed (x.1 / 128) else x.2)) c

def Stk.chan (k : Stk) (c : Nat) : Chan := tblGet chanDefault k.chans c

/-- The stroke that the corridor of a grant's descriptor was computed from: that of its own CORRIDOR, else of
the channel's last one, else the present stroke (R266, log entry 62). -/
def Chan.granted (c : Chan) (q : BatchReq) : Stroke :=
  let own : Option (Nat × Stroke) := match q with
    | .easel r => c.corridors.find? fun (x : Nat × Stroke) => x.1 == r.value.toNat
    | _ => none
  match own, c.corridors with
  | some x, _ => x.2
  | none, x :: _ => x.2
  | none, [] => c.stroke

/-- The GRANT payload (Table 8-9). -/
def State.grantPayload (s : State) (q : BatchReq) (h : Desc) (ends : Nat) : List Byte :=
  let k := (s.stk.chan h.who).granted q
  let t := k.t0
  let (p, v, a) := k.at t
  let arg := k.cmd * 2 ^ 20 + k.arg % 2 ^ 19
  let valid := (ends * s.canvas.periodNs - t) / 4000000
  toLE 1 2 ++ toLE 2 h.gen ++ toLE 3 (t / 500000) ++ toLE 4 (codeOf 32 (sar p 16)) ++
  toLE 2 (codeOf 16 (clampS 16 (sar v 16))) ++ toLE 2 (codeOf 16 (clampS 16 (sar a 16))) ++
  toLE 3 arg ++ toLE 1 k.profile ++ toLE 2 (min 65535 valid)

/-- The park set with HALO as its cells were marked, path kept from an earlier grant among it (R185, R189). -/
def Canvas.parkMarked (c : Canvas) (h : Desc) : List (Nat × Bool) :=
  (c.parkSet h).map fun x =>
    let v := c.cell (x.1 * 128 + (c.kA + c.parkEnd) % 128)
    (x.1, if v.heldBy h.who h.gen then v.halo else x.2)

/-- The grant is accepted: it becomes live, its park set a hold, its payload is queued (R183,
R189, R191). A stop raised while it was in its commit voids it at once (R196, R197). -/
def State.acceptGrant (s : State) (q : BatchReq) (h : Desc) (c : Canvas) : State :=
  let set := c.parkMarked h
  let ends := c.kA + (h.entries.map fun e => c.ageA e.exit).foldl max 0 + 1
  let g : Grant :=
    { robot := h.who, gen := h.gen, tag := h.tag, state := .queued, voided := false, ends := ends,
      deliverBy := c.tA + h.deliver * ms, frames := 0, due := none }
  let hold : Hold :=
    { owner := .park h.who h.gen, squares := set, rest := [], ends := ends, index := h.who }
  let c := { c with grants := c.grants ++ [g], holds := if set = [] then c.holds else c.holds ++ [hold] }
  let c := c.modRobot h.who fun x => { x with lastGen := h.gen, admitted := true }
  let pay := s.grantPayload q h ends
  let queue := s.air.dlQueue h.who
  let s := s.modCanvas fun _ => c
  let s := s.modPalette fun p =>
    { p with grants := p.grants ++ [{ queue := queue, robot := h.who, gen := h.gen, bytes := pay }] }
  let s := s.item 5 queue (toLE 1 0 ++ toLE 2 pay.length ++ toLE 4 (crc32 pay) ++ toLE 1 0)
  let s := s.finishReq q h (resultWord 0 0 0 0 h.gen)
  if s.fleet.covered h.who then s.voidGrants (· == h.who) s.fleet.lastSeq else s

/-- A commit that fails: every cell of the grant is restored; words found uncorrectable are rewritten
after that (R182, R183, R206). Marks made by the command at hand are not in `s`; those of an earlier one are
in the commit. -/
def State.failCommit (s : State) (q : BatchReq) (h : Desc) (k : Commit) (r : Refused) (found : Bool) : State :=
  let s := s.modCanvas fun c => c.rollback k.undo
  let s := match r.cell with
    | some i => if found then s.canvasEcc (i / 4) else s
    | none => s
  s.refuseReq q h r

/-- At most `n` cells of Phase 2. -/
def State.runPhase2 (s : State) (q : BatchReq) (h : Desc) (k0 k : Commit) (bad : List Nat) (n : Nat)
    (c : Canvas) : State :=
  let p := c.phase2 bad n k.todo k.undo
  match p.fail with
  | some r => s.failCommit q h k0 r true
  | none =>
    if p.todo = [] then s.acceptGrant q h p.canvas
    else s.modCanvas fun _ => { p.canvas with commit := some { k with todo := p.todo } }

/-- A commit goes on by at most `n` cells: Phase 1, the downlink check, Phase 2 (R182, R183). A word of its
cells that a probe has found uncorrectable meanwhile ends it with code 2 (Table 6-15). -/
def State.runCommit (s : State) (q : BatchReq) (k : Commit) (bad1 bad2 : List Nat) (n : Nat) : State :=
  let h := descOf k.desc
  let c := s.canvas
  match k.undo.find? fun x => c.cell x.1 == Cell.blocked 3 with
  | some x => s.failCommit q h k { code := 2, bank := x.1 / 128 % 4, cell := some x.1 } false
  | none =>
    if k.second then s.runPhase2 q h k k bad2 n c
    else
      let p := c.phase1 h.who h.gen bad1 n k.todo k.undo
      match p.fail with
      | some r => s.failCommit q h k r (r.code == 2)
      | none =>
        let k' : Commit := { k with todo := p.todo, undo := p.undo }
        if p.todo ≠ [] then s.modCanvas fun _ => { p.canvas with commit := some k' }
        else if s.air.dlCount h.who (c.tA + 1000000) (c.tA + h.deliver * 1000000) < 2 then
          s.failCommit q h k { code := 3 } false
        else
          s.runPhase2 q h k { k' with todo := p.undo.reverse.map fun x => { cell := x.1, halo := false, entry := 0 }, second := true } bad2
            (n - k.todo.length) p.canvas

/-- Cells that one command takes where nothing interrupts it: both phases whole. -/
def commitCells (upTo : Option Nat) : Nat := upTo.getD 8194

/-- The GRANT operation on a descriptor. `bad1` and `bad2` are the words each phase finds
uncorrectable (R180, R206). -/
def State.runGrant (s : State) (q : BatchReq) (h : Desc) (d : List Byte) (bad1 bad2 : List Nat) (n : Nat) : State :=
  match s.grantChecks h with
  | some r => s.refuseReq q h r
  | none => s.runCommit q { desc := d, todo := s.canvas.marks h, undo := [], second := false } bad1 bad2 n

/-- The request at the head with its descriptor, where it is well formed and the unit serves; else
it is refused (steps 1 and 2 of Table 6-9). -/
def State.withDesc (s : State) (op : Nat) (f : State → BatchReq → Desc → State) : State :=
  match s.canvas.batch with
  | [] => s
  | q :: _ =>
    if s.headOp ≠ op then s
    else match s.descBytes q with
      | none => (s.refuseForm q).nextReq
      | some d =>
        let h := descOf d
        if !descForm d then (s.refuseReq q h { code := 12 }).nextReq
        else match badEntry s.canvas h with
          | some i => (s.refuseReq q h { code := 12, detail := i }).nextReq
          | none => (f s q h).nextReq

/-- GRANT (R180): to its end, or by the cells of `upTo`, the next GRANT command then going on with the
commit, so that what happens meanwhile finds it under way (R172, R175). -/
def execGrant (bad1 bad2 : List (BitVec 21)) (upTo : Option Nat) (s : State) : Res :=
  let b1 := bad1.map (·.toNat)
  let b2 := bad2.map (·.toNat)
  .next (match s.canvas.commit, s.canvas.batch with
    | some k, q :: _ => (s.runCommit q k b1 b2 (commitCells upTo)).nextReq
    | _, _ => s.withDesc 0 fun s q h => s.runGrant q h ((s.descBytes q).getD []) b1 b2 (commitCells upTo))

/-- A word holds a cell that WITHDRAW frees, or one that is uncorrectable (R206). -/
def Canvas.freesGen (c : Canvas) (r g w : Nat) : Bool := c.wordHas (·.heldBy r g) w

/-- WITHDRAW (R194): `bad` are the words it finds uncorrectable. -/
def execWithdraw (bad : List (BitVec 21)) (s : State) : Res :=
  .next (s.withDesc 1 fun s q h =>
    match (s.canvas.liveOf s.canvas.kA h.who).find? (fun g =>
      g.gen == h.gen && g.state == .queued && !g.voided && g.due.isNone) with
    | none => s.refuseReq q h { code := 14 }
    | some g =>
      let s := s.eccWhere bad (s.canvas.freesGen h.who h.gen)
      let (n, c) := (s.canvas.dropHold (.park h.who h.gen)).freeGen h.who h.gen
      let c := { c with grants := c.grants.map fun y =>
        if y = g then { y with due := some (.undelivered 2, s.epoch.n) } else y }
      let s := s.modCanvas fun _ => c
      let s := s.modPalette fun p =>
        { p with grants := p.grants.filter fun y => !(y.robot == h.who && y.gen == h.gen) }
      (s.finishReq q h (resultWord 0 0 0 0 h.gen)).released h.who n 3 h.gen)

/-! ## BLOCK and UNBLOCK (R203) -/

/-- Cells of a block request: whole squares where it is persistent, else its slot ranges; the
column of age 0 is left alone (R176, R178). -/
def Canvas.blockCells (c : Canvas) (h : Desc) : List Nat :=
  (if h.halo = 128 then cellsOf (sortNat (h.entries.map (·.square)))
   else h.entries.flatMap fun e =>
     (List.range ((e.exit + 128 - e.enter) % 128 + 1)).map fun n => e.square * 128 + (e.enter + n) % 128).filter
    fun i => c.ageA (i % 128) != 0

/-- Words a block request reads that are uncorrectable (R206). -/
def State.blockEccs (s : State) (h : Desc) (bad : List (BitVec 21)) : State :=
  let ws := (s.canvas.blockCells h).map (· / 4)
  s.canvasEccs ((bad.map (·.toNat)).filter ws.contains)

def State.blockDone (s : State) (q : BatchReq) (h : Desc) (cleared : Nat) : State :=
  (s.finishReq q h (resultWord 0 0 0 0 h.gen)).emit evBlockChanged h.who
    (sortNat (h.entries.map (·.square))).length cleared (h.halo / 128)

/-- BLOCK: `bad` are the words it finds uncorrectable. -/
def execBlock (bad : List (BitVec 21)) (s : State) : Res :=
  .next (s.withDesc 2 fun s q h =>
    let qs := sortNat (h.entries.map (·.square))
    if h.halo = 128 ∧ !s.canvas.fits qs then s.refuseReq q h { code := 13 }
    else
      let s := s.blockEccs h bad
      let c := (s.canvas.setFree (fun _ => Cell.blocked h.who) (s.canvas.blockCells h)).2
      let old := match c.hold? (.block h.who) with
        | some x => x.squares
        | none => []
      let new := (qs.map fun q => (q, false)).filter fun x => !old.contains x
      let c := if h.halo = 128 then
          let x : Hold :=
            { owner := .block h.who, squares := old ++ new, rest := [], ends := 0, index := h.who }
          let d := c.dropHold (.block h.who)
          { d with holds := d.holds ++ [x] }
        else c
      (s.modCanvas fun _ => c).blockDone q h 0)

/-- UNBLOCK. -/
def execUnblock (bad : List (BitVec 21)) (s : State) : Res :=
  .next (s.withDesc 3 fun s q h =>
    let s := s.blockEccs h bad
    let qs := h.entries.map (·.square)
    let c := s.canvas
    let c := if h.halo = 128 then
        { c with holds := c.holds.filterMap fun x =>
          if x.owner = .block h.who then
            let l := x.squares.filter fun y => !qs.contains y.1
            if l = [] then none else some { x with squares := l }
          else some x }
      else c
    let c := (c.freeIf (· == Cell.blocked h.who) (c.blockCells h)).2
    (s.modCanvas fun _ => c).blockDone q h 1)

/-! ## Batch entries, host port and outcomes -/

/-- Robots that LOST_TIME leaves lost before the batch's reference time, with the moments, earliest first and
by index at one moment (R200). -/
def Canvas.losses (c : Canvas) : List (Nat × Nat) :=
  sortBy (fun a b => decide (a.1 < b.1) || (a.1 == b.1 && decide (a.2 ≤ b.2))) (c.robots.filterMap fun x =>
    match x.2.lastReport with
    | some t =>
      let m := t + c.lostTime * 10 * ms
      if !x.2.lost && c.period ≠ 0 && decide (m < c.tA) then some (m, x.1) else none
    | none => none)

/-- A loss stands among the reports where its moment has it (R177). -/
def insertLoss (x : Nat × Nat) : List BatchReq → List BatchReq
  | .report r :: t => if r.time ≤ x.1 then .report r :: insertLoss x t else .lost x.2 x.1 :: .report r :: t
  | q :: t => q :: insertLoss x t
  | [] => [.lost x.2 x.1]

/-- GRANT_BATCH: from the boundary, once the batch before is done (R177, R178). -/
def execGrantBatch (s : State) : Res :=
  .next (if s.canvas.batch ≠ [] || !s.batchReady then s
    else
      let n := s.epoch.n
      let c := s.canvas
      let host := match c.hostReq with
        | some (e, d) => if e < n then [BatchReq.host d] else []
        | none => []
      let c := { c with
        tA := s.epoch.nominal
        kA := if c.period = 0 then c.k else s.epoch.nominal / c.periodNs }
      let reports := (c.reports.filter fun r => decide (r.epoch < n)).map BatchReq.report
      let c := { c with
        batch := c.losses.foldl (fun l x => insertLoss x l) reports ++ host ++ (sortReqs c.due).map BatchReq.easel
        reports := c.reports.filter fun r => !decide (r.epoch < n)
        due := []
        hostReq := if host = [] then c.hostReq else none
        batchEpoch := n
        batchDone := 0 }
      (s.modCanvas fun _ => c.retire).nextReq)

/-- CANVAS_SLOT_BOUNDARY: the next boundary takes effect once no grant is in its commit; the old now column
reads as FREE and its sweep begins (R171, R172); gates are judged (R458, R459). Grants end with the next batch
(R178). -/
def execCanvasSlotBoundary (s : State) : Res :=
  .next (
    let c := s.canvas
    let nominal := (c.k + 1) * c.periodNs
    if c.period = 0 ∨ s.time < nominal ∨ c.commit.isSome then s else s.passColumns (c.k + 1) nominal)

/-- Words that the handling of a report reads: cells of the robot, and those of its lost region. -/
def Canvas.reportReads (c : Canvas) (r w : Nat) : Bool :=
  c.wordHas (·.robotHeld r) w || match c.hold? (.lost r) with
    | some x => inSquares (x.squares.map (·.1)) w
    | none => false

/-- REPORT_HANDLING: the report at the head of the batch (R177). `bad` are the words it finds
uncorrectable. -/
def execReportHandling (bad : List (BitVec 21)) (s : State) : Res :=
  .next (match s.canvas.batch with
    | .report r :: _ =>
      let s := s.modCanvas (·.popReq)
      ((s.eccWhere bad (s.canvas.reportReads r.robot)).applyReport r).nextReq
    | _ => s)

/-- HOST_GRANT_GO: the descriptor as read, none where the read failed (R195, R423). It belongs to the next
epoch where the engine has 128 requests of the present one (R179). -/
def execHostGrantGo (w : Word) (data : Option (List Byte)) (s : State) : Res :=
  .next (s.asRole 1 fun s =>
    if !flagOf w 0 || s.canvas.hostBusy then s
    else
      let d := data.getD []
      if !s.serving then
        s.modCanvas fun c => { c with hostResult := resultWord 15 0 0 0 (leAt d 2 2)
                                      refused := satAdd 10 c.refused 1 }
      else
        let e := s.logEpoch + bit (decide (128 ≤ s.canvas.incoming.length))
        (s.logAt e (.hostGrant d)).modCanvas fun c => { c with hostReq := some (e, d), hostBusy := true })

/-- GRANT_DELIVERED: at the epoch boundary after the acknowledgement (R192). -/
def execGrantDelivered (s : State) : Res :=
  .next (match s.canvas.grants.find? (fun g => match g.due with
      | some (.delivered, e) => decide (e < s.epoch.n)
      | _ => false) with
    | some g =>
      let s := s.modCanvas fun c => { c with grants := c.grants.map fun y =>
        if y = g then { y with state := .delivered, due := none } else y }
      (s.modCanvas (·.retire)).emit evGrantDelivered g.robot g.gen g.tag g.frames
    | none => s)

/-- GRANT_UNDELIVERED: at the epoch boundary after its cause (R192). -/
def execGrantUndelivered (s : State) : Res :=
  .next (match s.canvas.grants.findSome? (fun g => match g.due with
      | some (.undelivered c, e) => if e < s.epoch.n then some (g, c) else none
      | _ => none) with
    | some (g, cause) =>
      let s := s.modCanvas fun c => { c with grants := c.grants.map fun y =>
        if y = g then { y with state := .undelivered, due := none } else y }
      (s.modCanvas (·.retire)).emit evGrantUndelivered g.robot g.gen g.tag cause
    | none => s)

/-- An acknowledgement of a GRANT frame (R192, R272): it counts as late once the outcome is
decided otherwise. -/
def State.ackGrant (s : State) (robot gen : Nat) : State :=
  match s.canvas.grants.find? (fun g => g.robot == robot && g.gen == gen) with
  | none => s.modCanvas fun c => { c with lateAck := satAdd 12 c.lateAck 1 }
  | some g =>
    match g.due, g.state with
    | none, .queued | none, .sent =>
      let s := s.modCanvas fun c => { c with grants := c.grants.map fun y =>
        if y = g then { y with due := some (.delivered, s.epoch.n) } else y }
      s.modPalette fun p => { p with grants := p.grants.filter fun y => !(y.robot == robot && y.gen == gen) }
    | some (.delivered, _), _ => s
    | none, .delivered => s
    | _, _ => s.modCanvas fun c => { c with lateAck := satAdd 12 c.lateAck 1 }

/-! ## Sweep, lost robots, remainder, scrub, probes -/

/-- SWEEP_COMPLETE: the oldest sweep in progress; `bad` are the words of its column it finds
uncorrectable (R172, R189, R206). -/
def execSweepComplete (bad : List (BitVec 21)) (s : State) : Res :=
  .next (match s.canvas.sweeps with
    | [] => s
    | x :: rest =>
      let s := s.canvasEccs ((bad.map (·.toNat)).filter fun w => w % 32 == x.column / 4)
      s.modCanvas fun c => { c with sweeps := rest }.sweepColumn x.column)

/-- SWEEP_LATE (R173). -/
def execSweepLate (s : State) : Res :=
  .next (match s.canvas.sweeps.find? (fun x => !x.late && decide (x.nominal + 8 * ms ≤ s.time)) with
    | some x =>
      (s.modCanvas fun c => { c with sweeps := c.sweeps.map fun y => if y = x then { y with late := true } else y }).emit
        evSweepLate x.column ((s.time - x.nominal) / ms)
    | none => s)

/-- ROBOT_LOST: the loss of robot `r` at the head of the batch, where no report came before it (R177, R200).
`bad` are the words of its region that are found uncorrectable. -/
def execRobotLost (r : BitVec 8) (bad : List (BitVec 21)) (s : State) : Res :=
  .next (match s.canvas.batch with
    | .lost i m :: _ =>
      if i ≠ r.toNat then s
      else
        let x := s.canvas.robot i
        let s := s.modCanvas (·.popReq)
        match x.lastReport with
        | some t =>
          if x.lost || t + s.canvas.lostTime * 10 * ms != m then s.nextReq
          else
            let s := s.eccWhere bad (inSquares (s.lostSquares i))
            let s := s.modCanvas fun c => c.modRobot i fun x => { x with lost := true }
            let (n, s) := s.setLost i s.canvas.mine
            (s.emit evRobotLost i (x.square.getD 0xFFFF) ((s.canvas.tA - t) / ms) n).nextReq
        | none => s.nextReq
    | _ => s)

/-- Apply remainders in the order of their holds as places allow (R202). -/
def Canvas.applyRest (c : Canvas) : Canvas :=
  let c := c.holds.foldl (fun (c : Canvas) (h : Hold) =>
    let (ok, rest) := takeFit c.stored (h.rest.map fun q => (q, false))
    let c := { c with holds := c.holds.map fun (y : Hold) =>
      if y.owner = h.owner then { y with squares := y.squares ++ ok, rest := rest } else y }
    let v : Cell := match h.owner with
      | .lost _ => Cell.blocked 1
      | .zone _ => Cell.blocked 2
      | .block n => Cell.blocked n
      | .park r g => { state := .held, halo := false, gen := g % 16, who := r }
    (c.setFree (fun _ => v) (cellsOf (ok.map (·.1)))).2) c
  { c with persistFull := c.holds.any fun h => h.rest != [] }

/-- PERSIST_REMAINDER_APPLIED (R202). -/
def execPersistRemainderApplied (s : State) : Res := .next (s.modCanvas (·.applyRest))

/-- CANVAS_SCRUB: the next word in turn (R207). -/
def execCanvasScrub (m : Ecc) (s : State) : Res :=
  let w := s.canvas.scrubAt
  let s := s.modCanvas fun c => { c with scrubAt := (w + 1) % 2 ^ 21 }
  .next (match m with
    | .ok => s
    | .corrected => s.modCanvas fun c => { c with eccCorr := satAdd 16 c.eccCorr 1 }
    | .uncorrectable => (s.canvasEcc w).modTwin fun t => { t with eccAt := some s.now })

/-- DP_CANVAS_PROBE (R174, Table 12-9): the probe counts follow. -/
def execDpCanvasProbe (cell : BitVec 23) (m : Ecc) (s : State) : Res :=
  s.dpRead fun s =>
    let (w, s) := s.probe cell.toNat m
    (w.toNat, s.modHost fun h =>
      { h with dpProbes := satAdd 16 h.dpProbes 1
               dpInvalid := if flagOf w 31 then h.dpInvalid else satAdd 16 h.dpInvalid 1 })

/-- Cells a PCIe read covers, each a presented word (R174). -/
def probeRun : List (Nat × Ecc) → State → State
  | [], s => s
  | (i, m) :: t, s =>
    let (w, s) := s.probe i m
    probeRun t (s.put (.busRead w.toNat))

/-- PCIE_CANVAS_READ of `n` words from BAR0 offset `addr`; one find for each cell, `ok` past the
list (R174, Table 12-15). -/
def execPcieCanvasRead (addr n : Nat) (ms : List Ecc) (s : State) : Res :=
  .next (if 16 < n then s.put .unsupported
    else if s.dpUp then probeRun ((List.range n).map fun j => ((addr - 0x2000000) / 4 + j, ms.getD j .ok)) s
    else (List.range n).foldl (fun s _ => s.put (.busRead 0)) s)

end Sys2Proof.Machine
end

