-- ==== Sys2Proof/Machine/Strokes.lean ====
section
/-! DEFINITION. Stroke batches and requests (R212 to R229). -/

namespace Sys2Proof.Machine

/-! ## Channels -/

/-- Profile of a channel, where it exists and is of the channel's kind (R214). -/
def State.profileOf (s : State) (ch i : Nat) : Option Profile :=
  let b := s.loops
  let p := profileAt b i
  if i < (loopsHdr b).pc ∧ p.drive = decide (256 ≤ ch) then some p else none

def State.modStkChan (s : State) (ch : Nat) (f : Chan → Chan) : State :=
  s.modStk fun k => { k with chans := tblMod chanDefault k.chans ch f }

/-- The channel is still moving at a device time. -/
def Stroke.moving (k : Stroke) (t : Nat) : Bool := k.endSpeed != 0 || decide (t < k.tEnd)

/-- A position in whole units, rounded to nearest (log entry 20). -/
def unitsOf (x : Int) : Int := divRound x fx

/-- The stroke from a later plan time on: what is left of its segments. -/
def dropSegs : Nat → List Seg → List Seg
  | _, [] => []
  | τ, g :: t =>
    if τ < g.dur then
      let (x, v, a) := g.at τ
      { dur := g.dur - τ, s := x, v := v, a := a, j := g.j } :: t
    else dropSegs (τ - g.dur) t

def Stroke.from (k : Stroke) (t : Nat) : Stroke :=
  if t ≤ k.t0 then k else { k with t0 := t, segs := dropSegs (t - k.t0) k.segs }

/-! ## Plans as strokes -/

/-- What a request does: status, REVERSED, DETAIL and the state after it. -/
structure StkDone where
  status : Nat
  reversed : Bool := false
  detail : Nat := 0
  s : State

/-- Stroke duration in 10 ms. -/
def detailOf (segs : List Seg) : Nat := min 0xFFFF (segsDur segs / 10000000)

/-- REMAIN after braking to rest at `e` (2^-16 units): the kept target minus the rest position,
0 on a speed stroke (R223). -/
def Chan.remainAt (c : Chan) (e : Int) : Int :=
  if c.kept && c.stroke.kind != .speed then c.target - unitsOf e else 0

/-- Braking from the state at the plan time under given limits, as a stroke of a kind. -/
def Chan.brake (c : Chan) (A J tp : Nat) (kind : StrokeKind) : Chan :=
  let (p, v, a) := c.stroke.at tp
  let (segs, e) := planBrake A J p v a
  { c with
    stroke := { kind := kind, t0 := tp, segs := segs, endPos := e, endSpeed := 0, reversed := false,
                cmd := 0, arg := codeOf 19 (max 0 (unitsOf e) / 8), profile := c.profile, turn := 0 }
    remain := c.remainAt e }

/-- A planned move becomes the channel's stroke; a target behind is recorded (R220 to R222). -/
def State.commitPlan (s : State) (ch : Nat) (pl : Plan) (kind : StrokeKind) (endSpeed : Int)
    (cmd arg : Nat) (target : Int) : StkDone :=
  let tp := s.stk.tp
  if pl.behind then
    let s := s.modStkChan ch fun c =>
      { c with
        stroke := { kind := .braking, t0 := tp, segs := pl.segs, endPos := pl.endPos, endSpeed := 0,
                    reversed := false, cmd := 0, arg := codeOf 19 (max 0 (unitsOf pl.endPos) / 8)
                    profile := c.profile, turn := 0 }
        kept := false, remain := 0 }
    let p := (tblGet chanDefault s.stk.chans ch).profile
    { status := 1, detail := detailOf pl.segs
      s := s.emit evTargetBehind ch (par target) (par (unitsOf pl.endPos)) p }
  else
    { status := 0, reversed := pl.reversed, detail := detailOf pl.segs
      s := s.modStkChan ch fun c =>
        { c with stroke := { kind := kind, t0 := tp, segs := pl.segs, endPos := pl.endPos,
                             endSpeed := endSpeed, reversed := pl.reversed, cmd := cmd, arg := arg
                             profile := c.profile, turn := pl.turn } } }

/-- MOVE_POS to an absolute target in units (R220, R222). -/
def State.movePos (s : State) (ch : Nat) (p : Profile) (target : Int) (cmd arg : Nat) : StkDone :=
  let c := tblGet chanDefault s.stk.chans ch
  let (x, v, a) := c.stroke.at s.stk.tp
  s.commitPlan ch (planPos p x v a (target * fx)) .position 0 cmd arg target

/-- MOVE_SPEED to a speed in units/s (R221). -/
def State.moveSpeed (s : State) (ch : Nat) (p : Profile) (speed : Int) (arg : Nat) : StkDone :=
  let c := tblGet chanDefault s.stk.chans ch
  let (x, v, a) := c.stroke.at s.stk.tp
  let w := max (-(p.v * fx)) (min (speed * fx) (p.v * fx))
  let pl := planSpeed p x v a w
  let l : Int := (p.v * p.revPct / 100 : Nat) * fx
  s.commitPlan ch pl .speed (if pl.reversed then max (-l) (min w l) else w) 1 arg speed

/-! ## The batch (R217, R224, R450) -/

/-- A stop that covers a robot: its channel brakes under A_STOP and J_STOP, and refuses moves until
the release (R224). The record is made for the robots that are provisioned, and for any channel in motion
(log entry 62). -/
def State.stopChange (s : State) (r seq : Nat) : State :=
  let c := tblGet chanDefault s.stk.chans r
  if c.held then s
  else
    let s := s.modStkChan r fun c =>
      { (match s.profileOf r c.profile with
        | some p => c.brake p.aStop p.jStop s.stk.tp .stopped
        | none => { c with remain := c.remainAt (c.stroke.at s.stk.tp).1 }) with held := true }
    if s.air.provisioned r || c.stroke.moving s.stk.tp then
      s.emit evStrokeStopped r (par (tblGet chanDefault s.stk.chans r).remain) 1 seq
    else s

/-- Segments up to a plan time. -/
def takeSegs : Nat → List Seg → List Seg
  | _, [] => []
  | τ, g :: t => if τ = 0 then [] else { g with dur := min τ g.dur } :: takeSegs (τ - g.dur) t

/-- The stroke is in the braking that comes before its reversal (R222). -/
def Stroke.turning (k : Stroke) (t : Nat) : Bool := k.reversed && decide (t < k.t0 + k.turn)

/-- A reversing stroke ends where its first braking comes to rest; nothing of it remains (Table 7-15). -/
def Chan.endAtTurn (c : Chan) : Chan :=
  let k := c.stroke
  let e := (k.at ((k.t0 + k.turn : Nat) : Int)).1
  { c with
    stroke := { k with
      kind := .braking
      segs := takeSegs k.turn k.segs
      endPos := e
      endSpeed := 0
      reversed := false
      turn := 0
      cmd := 0
      arg := codeOf 19 (max 0 (unitsOf e) / 8) }
    kept := false
    remain := 0 }

/-- STOP on a channel (R223). Braking under R222 goes on, and so does the braking of a stop
(Table 7-15). -/
def State.stopStroke (s : State) (ch : Nat) (p : Profile) (seq : Nat) : State :=
  let c := tblGet chanDefault s.stk.chans ch
  let keeps := c.held || (c.stroke.kind == .braking && !c.kept && c.stroke.moving s.stk.tp)
  let s := if keeps then s
    else if c.stroke.turning s.stk.tp then s.modStkChan ch Chan.endAtTurn
    else s.modStkChan ch fun c => c.brake p.a p.j s.stk.tp .braking
  s.emit evStrokeStopped ch (par (tblGet chanDefault s.stk.chans ch).remain) 0 seq

/-- An input of the batch. -/
def State.stkInput (s : State) (x : StkInput) : State :=
  match x with
  | .stop r seq => s.stopChange r seq
  | .drive d seq =>
    let ch := 256 + d
    match s.profileOf ch (tblGet chanDefault s.stk.chans ch).profile with
    | some p => s.stopStroke ch p seq
    | none => s
  | .report r v => s.modStkChan r fun c => { c with lastS := some v }

/-- Channel and command of a request. -/
def StkReq.cmd : StkReq → Nat
  | .easel r => fieldOf r.value 28 4
  | .gate _ _ => 0

def StkReq.chan : StkReq → Nat
  | .easel r => fieldOf r.value 19 9
  | .gate d _ => 256 + d

def StkReq.arg : StkReq → Nat
  | .easel r => fieldOf r.value 0 19
  | .gate _ _ => 0

/-- The request at the head ends with its status (R88, R219, Table 13-7). -/
def State.finishStk (q : StkReq) (x : StkDone) : State :=
  let w := pack [(28, 4, x.status), (19, 9, q.chan), (18, 1, bit x.reversed), (0, 16, x.detail)]
  let ok := decide (x.status ≤ 1)
  let s := x.s.item 2 q.chan (toLE 4 w.toNat)
  let s := s.modStk fun k =>
    { k with batch := k.batch.drop 1
             done := if ok then satAdd 16 k.done 1 else k.done
             refused := if ok then k.refused else satAdd 16 k.refused 1 }
  let s := match q with
    | .easel r => s.pushResult 1 r.task r.slot w
    | .gate _ _ => s
  if ok then s else s.emit evStrokeRefused q.chan q.cmd x.status q.arg

/-- A request that names no command ends with BAD_REQUEST in its turn (Table 7-5). -/
def State.dropStk : Nat → State → State
  | 0, s => s
  | n + 1, s =>
    match s.stk.batch with
    | q :: _ => if 8 ≤ q.cmd then (State.finishStk q { status := 6, s := s }).dropStk n else s
    | [] => s

def State.nextStk (s : State) : State := s.dropStk s.stk.batch.length

/-! ## Loop submissions that name no command (R242) -/

def loopWord (st loop : Nat) : Word := pack [(28, 4, st), (19, 9, loop)]

/-- The submission at the head ends with its status. -/
def State.finishLoop (r : FabReq) (st : Nat) (s : State) : State :=
  let loop := fieldOf r.value 19 9
  let w := loopWord st loop
  ((s.modGdl fun g => { g with batch := g.batch.drop 1 }).item 3 loop (toLE 4 w.toNat)).pushResult 2
    r.task r.slot w

/-- Submissions that name no command, or a loop above 271, end in their turn with BAD_REQUEST. -/
def State.dropLoop : Nat → State → State
  | 0, s => s
  | n + 1, s =>
    match s.gdl.batch with
    | r :: _ => if 5 ≤ fieldOf r.value 28 4 then (State.finishLoop r 1 s).dropLoop n else s
    | [] => s

/-- STROKE_BATCH: from the boundary, once the batch before is done: the plan time, the channels
released, the inputs of ended epochs and the requests in order (R217). The guidance engine's
submissions are taken up with it (R242). -/
def execStrokeBatch (s : State) : Res :=
  .next (if s.stk.batch ≠ [] || !s.batchReady then s
    else
      let n := s.epoch.n
      let inputs := (s.stk.inputs.filter fun x => decide (x.1 < n)).map (·.2)
      let gates := (s.stk.gates.filter fun x => decide (x.1 < n)).map fun x => StkReq.gate x.2.1 x.2.2
      let s := s.modStk fun k =>
        { k with
          tp := s.epoch.nominal
          due := []
          inputs := k.inputs.filter fun x => !decide (x.1 < n)
          gates := k.gates.filter fun x => !decide (x.1 < n)
          batch := (sortReqs k.due).map StkReq.easel ++ gates }
      let s := s.modGdl fun g => { g with batch := g.batch ++ sortReqs g.due, due := [] }
      let f := s.fleet
      let free := fun (t : Tbl Chan) r =>
        if f.covered r then t else tblMod chanDefault t r fun c => { c with held := false }
      let s := s.modStk fun k => { k with chans := (List.range 256).foldl free k.chans }
      let s := (inputs.foldl State.stkInput s).nextStk
      s.dropLoop s.gdl.batch.length)

/-! ## Requests -/

/-- Mode and AUTO of a drive channel let an Easel's request through (R448). -/
def State.driveTakes (s : State) (ch : Nat) : Bool :=
  match s.drv.ch[ch - 256]? with
  | some d => d.mode == 1 && !d.auto
  | none => false

/-- The channel accepts the command: channels 0 to 263, and on drive channels commands 0 to 3
and 5, the moves only where R448 lets them through. -/
def State.accepts (s : State) (q : StkReq) : Bool :=
  let ch := q.chan
  match q with
  | .gate _ _ => true
  | .easel _ =>
    decide (ch < 256) ||
    (decide (ch < 264) && (q.cmd == 5 || (decide (q.cmd ≤ 3) && s.driveTakes ch)))

/-- The request at the head, where it is this command: `f` gives what it does. -/
def State.withStk (s : State) (cmd : Nat) (f : State → StkReq → Chan → StkDone) : Res :=
  .next (match s.stk.batch with
    | [] => s
    | q :: _ =>
      if q.cmd ≠ cmd then s
      else
        let x := if s.accepts q then f s q (tblGet chanDefault s.stk.chans q.chan) else { status := 6, s := s }
        (State.finishStk q x).nextStk)

/-- Checks of a move on a channel, in the order of log entry 21: its profile, a stop, its route. -/
def State.withMove (s : State) (ch : Nat) (c : Chan) (f : Profile → RouteDef → StkDone) : StkDone :=
  match s.profileOf ch c.profile with
  | none => { status := 6, s := s }
  | some p =>
    if c.held then { status := 8, s := s }
    else if 256 ≤ ch then f p { length := 0, loop := true, squares := [] }
    else match c.route.bind s.routeOf with
      | none => { status := 5, s := s }
      | some r => f p r

/-- MOVE_POS (R216, R220, R222). -/
def execMovePos (s : State) : Res :=
  s.withStk 0 fun s q c =>
    let ch := q.chan
    let target : Nat := match q with
      | .gate d o => match s.drv.ch[d]? with
        | some x => x.gatePos o
        | none => 0
      | .easel _ => if ch < 256 then q.arg * 8 else q.arg * 16
    s.withMove ch c fun p r =>
      if !r.covers target then { status := 5, s := s }
      else
        let s := s.modStkChan ch fun c => { c with target := target, kept := true, remain := 0 }
        s.movePos ch p target 0 (if ch < 256 then target / 8 else target / 16)

/-- MOVE_SPEED (R221). -/
def execMoveSpeed (s : State) : Res :=
  s.withStk 1 fun s q c =>
    let v := signedOf 19 q.arg * (if q.chan < 256 then 1 else 64)
    s.withMove q.chan c fun p _ =>
      let s := s.modStkChan q.chan fun c => { c with kept := false, remain := 0 }
      s.moveSpeed q.chan p v q.arg

/-- STROKE_STOP: the command STOP (R223). -/
def execStrokeStop (s : State) : Res :=
  s.withStk 2 fun s q c =>
    match s.profileOf q.chan c.profile with
    | some p =>
      if q.arg ≠ 0 then { status := 6, s := s }
      else
        { status := 0, s := s.stopStroke q.chan p 0 }
    | none => { status := 6, s := s }

/-- RESUME (R223). -/
def execResume (s : State) : Res :=
  s.withStk 3 fun s q c =>
    if q.arg ≠ 0 then { status := 6, s := s }
    else s.withMove q.chan c fun p r =>
      if c.remain = 0 then { status := 7, s := s }
      else if !r.covers c.target then { status := 5, s := s }
      else
        let s := s.modStkChan q.chan fun c => { c with remain := 0 }
        let u : Int := if q.chan < 256 then 8 else 16
        s.movePos q.chan p c.target 3 (codeOf 19 (c.target / u))

/-- The stroke that a descriptor's corridor is computed from (R266). -/
def Chan.corridorAt (a : Nat) (c : Chan) : Chan :=
  { c with corridors := (a, c.stroke) :: c.corridors.filter (·.1 != a) }

/-- CORRIDOR (R228, R229): COUNT and the entries are written, or nothing is. -/
def execCorridor (s : State) : Res :=
  s.withStk 4 fun s q c =>
    if 2 ^ 17 ≤ q.arg then { status := 6, s := s }
    else s.withMove q.chan c fun p r =>
      if c.stroke.kind = .speed then { status := 2, s := s }
      else
        let (st, es) := corridor p r (c.stroke.from s.stk.tp) s.canvas.periodNs
        let a := atlBase + 32 * q.arg
        if st ≠ 0 then { status := st, s := s }
        else if !inAtelier a (32 + 4 * es.length) then { status := 6, s := s }
        else
          { status := 0, detail := es.length
            s := (s.modStkChan q.chan (·.corridorAt a)).modAtelier fun t =>
              (t.write (a + 4) (toLE 2 es.length)).write (a + 32) (es.flatMap (toLE 4)) }

/-- SET_PROFILE (R216). -/
def execSetProfile (s : State) : Res :=
  s.withStk 5 fun s q _ =>
    match s.profileOf q.chan q.arg with
    | none => { status := 6, s := s }
    | some _ => { status := 0, s := s.modStkChan q.chan fun c => { c with profile := q.arg } }

/-- SET_ROUTE: only where the reference speed is 0. The position is undefined until SYNC, so a free value stands in
its place (R216). -/
def execSetRoute (s : State) : Res :=
  s.withStk 6 fun s q c =>
    if 256 ≤ q.arg ∨ (s.routeOf q.arg).isNone then { status := 6, s := s }
    else if (c.stroke.at s.stk.tp).2.1 ≠ 0 then { status := 9, s := s }
    else
      let (n, s) := s.draw
      let x : Int := signedOf 32 (n % 2 ^ 32) * fx
      { status := 0
        s := s.modStkChan q.chan fun c =>
          { c with route := some q.arg
                   stroke := { Stroke.restAt s.stk.tp x with arg := codeOf 19 (max 0 (unitsOf x) / 8) } } }

/-- SYNC: the reference takes the robot's last report, and REMAIN follows the kept target
(R216, R223). -/
def execSync (s : State) : Res :=
  s.withStk 7 fun s q c =>
    if q.arg ≠ 0 then { status := 6, s := s }
    else match c.lastS with
      | none => { status := 10, s := s }
      | some x =>
        { status := 0
          s := s.modStkChan q.chan fun c =>
            { c with stroke := { Stroke.restAt s.stk.tp (x * fx) with arg := codeOf 19 (max 0 x / 8) }
                     remain := if c.kept then c.target - x else 0 } }

end Sys2Proof.Machine
end

