-- ==== Sys2Proof/Machine/Guidance.lean ====
section
/-! DEFINITION. The guidance loop engine (R230 to R243). -/

namespace Sys2Proof.Machine

/-! ## Arithmetic (R233, R234) -/

/-- A sum that saturates at every addition. -/
def satSum (w : Nat) (l : List Int) : Int := l.foldl (fun a x => clampS w (a + x)) 0

def clampTo (l : Nat) (x : Int) : Int := max (-(l : Int)) (min x l)

/-- A path of a guidance computation: inputs with their coefficients and product shifts, and the
output shift. `q15` is the format. -/
def pathOut (q15 : Bool) (osh : Nat) (l : List (Int × Int × Nat)) : Int :=
  if q15 then
    clampS 16 (sar (satSum 40 (l.map fun x => clampS 16 x.1 * signedOf 16 (codeOf 16 x.2.1))) osh)
  else clampS 32 (sar (satSum 64 (l.map fun x => sar (x.1 * x.2.1) x.2.2)) osh)

/-- An integrator (R233): in Q15 its input and itself are saturated to 16 bits (R234). -/
def integrate (q15 : Bool) (i e : Int) (l : Nat) : Int :=
  if q15 then clampS 16 (clampTo l (i + clampS 16 e)) else clampTo l (i + e)

/-- A guidance descriptor (Table 7-10). -/
structure GDesc where
  q15 : Bool
  oshV : Nat
  oshK : Nat
  c : List Int
  sh : List Nat
  iMaxS : Nat
  iMaxY : Nat
  trimV : Nat
  trimK : Nat
  feLimit : Nat
  feTime : Nat
deriving DecidableEq, Repr

def gdescAt (b : List Byte) (i : Nat) : GDesc :=
  let o := gdescOff (loopsHdr b) i
  { q15 := leAt b o 1 == 1, oshV := leAt b (o + 1) 1, oshK := leAt b (o + 2) 1
    c := (List.range 6).map fun k => sleAt b (o + 4 + 4 * k) 4
    sh := (List.range 6).map fun k => leAt b (o + 28 + k) 1
    iMaxS := leAt b (o + 36) 4, iMaxY := leAt b (o + 40) 4, trimV := leAt b (o + 44) 4
    trimK := leAt b (o + 48) 4, feLimit := leAt b (o + 52) 2, feTime := leAt b (o + 54) 2 }

def State.gdesc (s : State) (i : Nat) : Option GDesc :=
  if i < (loopsHdr s.loops).gc then some (gdescAt s.loops i) else none

/-- A Glaze configuration (Table 7-12). -/
structure GlazeCfg where
  binLen : Nat
  route : Nat
  fsh : Nat
  lead : Nat
  gamma : Nat
  curv : Bool
  gMax : Nat
deriving DecidableEq, Repr

def glazeAt (b : List Byte) (z : Nat) : GlazeCfg :=
  let o := glazeOff (loopsHdr b) z
  { binLen := leAt b o 4, route := leAt b (o + 4) 2, fsh := leAt b (o + 6) 1,
    lead := leAt b (o + 7) 1, gamma := leAt b (o + 8) 2, curv := leAt b (o + 10) 1 == 1,
    gMax := leAt b (o + 12) 4 }

def State.glazeCfg (s : State) (z : Nat) : Option GlazeCfg :=
  if z < (loopsHdr s.loops).zc then some (glazeAt s.loops z) else none

def zeroInt : Nat → Int := fun _ => 0

def Gdl.bin (g : Gdl) (z b : Nat) : Int := tblGet zeroInt g.glaze (z * 256 + b)

def State.modLoop (s : State) (i : Nat) (f : LoopSt → LoopSt) : State :=
  s.modGdl fun g => { g with loops := tblMod loopDefault g.loops i f }

/-! ## Glaze (R241) -/

/-- The table a loop uses: it exists, it is the channel's route's, and the loop was not enabled
under a mismatch. -/
def State.glazeOf (s : State) (r : Nat) (l : LoopSt) : Option GlazeCfg :=
  match s.glazeCfg l.glaze with
  | some z =>
    if (tblGet chanDefault s.stk.chans r).route = some z.route ∧ !l.mismatch then some z else none
  | none => none

def GlazeCfg.bin (z : GlazeCfg) (s : Int) : Nat := (s / (z.binLen : Int) % 256).toNat

/-- Feed-forward read of a report: speed and curvature path. -/
def State.glazeRead (s : State) (r : Nat) (l : LoopSt) (sRep vRep : Int) : Int × Int :=
  match s.glazeOf r l with
  | some z =>
    if l.glazeOn && decide (0 ≤ vRep) then
      let ff := sar (s.gdl.bin l.glaze ((z.bin sRep + z.lead) % 256)) 8
      if z.curv then (0, ff) else (ff, 0)
    else (0, 0)
  | none => (0, 0)

/-- The bin after learning from a feedback value. -/
def GlazeCfg.learn (z : GlazeCfg) (g fb : Int) : Int :=
  let f := if z.fsh = 0 then 0 else sar g z.fsh
  clampTo z.gMax (g - f + sar ((z.gamma : Int) * fb) 7)

/-- Learning from a report, with GLAZE_SATURATED at most once a minute. -/
def State.glazeLearn (s : State) (r : Nat) (l : LoopSt) (sRep vRep fbV fbK : Int) : State :=
  match s.glazeOf r l with
  | some z =>
    if l.learn && decide (0 ≤ vRep) then
      let b := z.bin sRep
      let g := z.learn (s.gdl.bin l.glaze b) (if z.curv then fbK else fbV)
      let s := s.modGdl fun y => { y with glaze := tblPut zeroInt y.glaze (l.glaze * 256 + b) g }
      let due : Bool := match tblGet (fun _ => none) s.gdl.satAt l.glaze with
        | some t => s.past t (60 * second)
        | none => true
      if (g = z.gMax ∨ g = -(z.gMax : Int)) ∧ due then
        (s.modGdl fun y => { y with satAt := tblPut (fun _ => none) y.satAt l.glaze (some s.now) }).emit
          evGlazeSaturated l.glaze b r (par g)
      else s
    else s
  | none => s

/-! ## Following error (R239) -/

/-- Supervision at a report taken at `t`: beyond the limit or not. -/
def State.followErr (s : State) (r : Nat) (g : GDesc) (beyond : Bool) (t eS eY : Int) : State :=
  if !beyond then s.modLoop r fun l => { l with feStart := none, feMs := 0 }
  else
    let t0 := (s.gdl.loop r).feStart.getD t
    let dur := ((t - t0) / 1000000).toNat
    if t - t0 < (g.feTime : Int) * 1000000 then
      s.modLoop r fun l => { l with feStart := some t0, feMs := min 0xFFFF dur }
    else
      let s := s.modLoop r fun l => { l with feStart := none, feMs := 0, trips := satAdd 16 l.trips 1 }
      let x := { bootStop with kind := .robot, source := 4, index := r }
      let (sub, s) := if s.standby then (s.fleet.subsumes x, s)
        else
          let (b, _, s) := s.raiseStop .robot 4 r []
          (b, s)
      s.emit evFollowingErrorTrip r (par eS) (par eY) (dur + 2 ^ 31 * bit sub)

/-! ## Reports (R230, R231, R233 to R237) -/

/-- The along-track error, on a LOOP route the one of least size (R215, R231). -/
def errS (rt : Option RouteDef) (e : Int) : Int :=
  match rt with
  | some r => if r.loop then (e + r.length / 2) % (r.length : Int) - r.length / 2 else e
  | none => e

/-- The phase of a report's trim has been served, so that the trim has no phase any more (R46). -/
def State.phasePassed (s : State) (x : GdlReport) : Bool :=
  match tblGet (fun _ => none) s.gdl.out x.robot with
  | some (p, _) => decide (x.slotEnd + 400000 ≤ p)
  | none => false

/-- A report of an enabled loop that is not stale. While a stop covers the robot (`held`) its errors are formed,
but no trim, the integrators are held, and learning and supervision are suspended (R231, R237). -/
def State.computeReport (s : State) (x : GdlReport) (t : Int) (l : LoopSt) (g : GDesc) (held : Bool) : State :=
  let c := tblGet chanDefault s.stk.chans x.robot
  let rt := c.route.bind s.routeOf
  let (p, v, _) := c.stroke.at t
  let eS := errS rt (unitsOf p - x.sRep)
  let eV := unitsOf v - x.vRep
  let off := !s.onRoute x
  let iS := integrate g.q15 l.iS eS g.iMaxS
  let iY := integrate g.q15 l.iY x.eY g.iMaxY
  let k := fun (n : Nat) (y : Int) => (y, g.c.getD n 0, g.sh.getD n 0)
  let fbV := pathOut g.q15 g.oshV [k 0 eS, k 1 iS, k 2 eV]
  let fbK := pathOut g.q15 g.oshK [k 3 x.eY, k 4 iY, k 5 x.ePsi]
  let ff := s.glazeRead x.robot l x.sRep x.vRep
  let tv := clampTo g.trimV (fbV + ff.1)
  let tk := clampTo g.trimK (fbK + ff.2)
  let s := if held then s else s.glazeLearn x.robot l x.sRep x.vRep fbV fbK
  let s := s.modLoop x.robot fun l =>
    { l with
      iS := if held then l.iS else iS
      iY := if held then l.iY else iY
      eS := eS
      eY := x.eY
      trimV := if off || held then l.trimV else tv
      trimK := if off || held then l.trimK else tk }
  let s := s.modGdl fun y => { y with computed := satAdd 10 y.computed 1 }
  let s := if off then s.emit evReportOffRoute x.robot (par x.sRep) (c.route.getD 0xFF)
    else if held || s.phasePassed x then s
    else
      let tr : Trim := { robot := x.robot, slotEnd := x.slotEnd, ready := s.time, v := tv, k := tk }
      (s.modGdl fun y => { y with trims := y.trims ++ [tr] }).item 4 x.robot
        (toLE 4 (par tv) ++ toLE 4 (par tk) ++ [0])
  if held then s.modLoop x.robot fun l => { l with feStart := none, feMs := 0 }
  else s.followErr x.robot g (off || decide ((g.feLimit : Int) < max |eS| |x.eY|)) t eS x.eY

/-- What becomes of a report whose turn it is. -/
def State.takeReportIn (s : State) (x : GdlReport) : State :=
  let l := s.gdl.loop x.robot
  if !l.enabled then s
  else if x.stale then s.modGdl fun y => { y with stale := satAdd 12 y.stale 1 }
  else match s.gdesc l.desc with
    | none => s
    | some g => s.computeReport x x.at l g (s.fleet.covered x.robot)

/-- A GLAZE_CLEAR of the report's table waits in the batch: it comes first (Table 7-15). -/
def State.clearsFirst (s : State) (x : GdlReport) : Bool :=
  let l := s.gdl.loop x.robot
  l.enabled && (s.gdl.batch ++ s.gdl.due).any fun r =>
    fieldOf r.value 28 4 == 3 && fieldOf r.value 0 19 == l.glaze

/-- GUIDANCE_REPORT: the next report whose radio slot has ended (R235), after a GLAZE_CLEAR of its table. -/
def execGuidanceReport (s : State) : Res :=
  .next (match s.gdl.reports with
    | [] => s
    | x :: rest =>
      if s.time < x.slotEnd || s.clearsFirst x then s
      else
        let s := s.modGdl fun y => { y with reports := rest }
        (s.takeReportIn x).lateCheck)

/-! ## Release of trims (R236, R46) -/

/-- Trims of a robot at a phase: the last one staged in time for the slot, none for the no-update
marker. `sent` is false where GRANT or ASSIGN takes the slot, and all of them are superseded. A phase
is served once. Where the newest report of the phase has no trim staged in time, the output is late and the
marker goes out, an earlier trim that was staged being superseded (log entry 59). -/
def State.releaseTrim (s : State) (r phase : Nat) (sent : Bool) : Option (Int × Int) × State :=
  match tblGet (fun _ => none) s.gdl.out r with
  | some (p, x) => if p = phase then (x, s) else go s
  | none => go s
where
  go (s : State) : Option (Int × Int) × State :=
    let elig := s.gdl.trims.filter fun x => x.robot == r && decide (x.slotEnd + 400000 ≤ phase)
    let live := (s.gdl.loop r).enabled && !s.fleet.covered r
    let owed := s.gdl.reports.any fun x => x.robot == r && decide (x.slotEnd + 400000 ≤ phase) && s.trimDue x
    let n := elig.length - bit (sent && !owed)
    let done := fun (x : Option (Int × Int)) (s : State) =>
      (x, s.modGdl fun g => { g with out := tblPut (fun _ => none) g.out r (some (phase, x)) })
    let s := s.modGdl fun g =>
      { g with
        trims := g.trims.filter fun x => !(x.robot == r && decide (x.slotEnd + 400000 ≤ phase))
        superseded := if live then satAdd 10 g.superseded n else g.superseded }
    if live && sent && owed then done none (s.lateOutput 0 r)
    else match elig.getLast? with
    | some x =>
      if !live || !sent then done none s
      else if phase < x.ready + 200 then done none (s.lateOutput 0 r)
      else done (some (x.v, x.k)) s
    | none => done none s

/-! ## Loop submissions (R242) -/

/-- The submission at the head, where it is this command: `f` gives its status and effect, for its
loop and argument. -/
def State.withLoop (s : State) (cmd : Nat) (f : State → Nat → Nat → Nat × State) : Res :=
  .next (match s.gdl.batch with
    | [] => s
    | r :: _ =>
      if fieldOf r.value 28 4 ≠ cmd then s
      else
        let loop := fieldOf r.value 19 9
        let (st, s) := if 271 < loop then (1, s) else f s loop (fieldOf r.value 0 19)
        let s := State.finishLoop r st s
        s.dropLoop s.gdl.batch.length)

/-- LOOP_ENABLE. -/
def execLoopEnable (s : State) : Res :=
  s.withLoop 0 fun s loop arg =>
    let desc := bitsOf arg 0 6
    let z := bitsOf arg 8 6
    let on := bitsOf arg 14 1 == 1
    let learn := bitsOf arg 15 1 == 1
    let h := loopsHdr s.loops
    if bitsOf arg 6 2 ≠ 0 ∨ 2 ^ 16 ≤ arg ∨ ((on || learn) ∧ h.zc ≤ z) then (1, s)
    else if (if loop < 256 then h.gc else h.dc) ≤ desc then (2, s)
    else
      let route := if loop < 256 then (tblGet chanDefault s.stk.chans loop).route else none
      let mis := (on || learn) && route != some (glazeAt s.loops z).route
      (if mis then 3 else 0,
       s.modLoop loop fun l =>
         { l with enabled := true, desc := desc, glaze := z, glazeOn := on && !mis, learn := learn,
                  mismatch := mis, iS := 0, iY := 0, feStart := none, feMs := 0 })

/-- A command on an enabled loop. -/
def State.onLoop (s : State) (loop : Nat) (ok : Bool) (f : LoopSt → LoopSt) : Nat × State :=
  if !ok then (1, s)
  else if !(s.gdl.loop loop).enabled then (4, s)
  else (0, s.modLoop loop f)

/-- LOOP_DISABLE. Trims staged for the loop are dropped. -/
def execLoopDisable (s : State) : Res :=
  s.withLoop 1 fun s loop arg =>
    let (st, s) := s.onLoop loop (arg == 0) fun l => { l with enabled := false }
    (st, if st = 0 then s.modGdl fun g => { g with trims := g.trims.filter (·.robot != loop) } else s)

/-- LOOP_RESET: the integrators. -/
def execLoopReset (s : State) : Res :=
  s.withLoop 2 fun s loop arg => s.onLoop loop (arg == 0) fun l => { l with iS := 0, iY := 0 }

/-- GLAZE_CLEAR. -/
def execGlazeClear (s : State) : Res :=
  s.withLoop 3 fun s loop arg =>
    if loop ≠ 0 ∨ (loopsHdr s.loops).zc ≤ arg then (1, s)
    else (0, s.modGdl fun g => { g with glaze := g.glaze.filter fun x => x.1 / 256 ≠ arg })

/-- LEARN. -/
def execLearn (s : State) : Res :=
  s.withLoop 4 fun s loop arg => s.onLoop loop (decide (arg < 2)) fun l => { l with learn := arg == 1 }

/-! ## Drive loops (R238) -/

/-- A drive loop descriptor (Table 7-11). -/
structure DDesc where
  q15 : Bool
  osh : Nat
  kp : Int
  ki : Int
  shP : Nat
  shI : Nat
  iMax : Nat
  dutyMax : Nat
deriving DecidableEq, Repr

def ddescAt (b : List Byte) (i : Nat) : DDesc :=
  let o := ddescOff (loopsHdr b) i
  { q15 := leAt b o 1 == 1, osh := leAt b (o + 1) 1, kp := sleAt b (o + 4) 4, ki := sleAt b (o + 8) 4,
    shP := leAt b (o + 12) 1, shI := leAt b (o + 13) 1, iMax := leAt b (o + 16) 4,
    dutyMax := leAt b (o + 20) 4 }

/-- One computation: integrator and duty. -/
def DDesc.compute (g : DDesc) (i e : Int) : Int × Int :=
  if g.q15 then
    let e := clampS 16 e
    let i := clampS 16 (clampTo g.iMax (satSum 40 [i, e * signedOf 16 (codeOf 16 g.ki)]))
    (i, clampTo g.dutyMax (clampS 16 (sar (satSum 40 [e * signedOf 16 (codeOf 16 g.kp), i]) g.osh)))
  else
    let i := clampTo g.iMax (satSum 64 [i, sar (e * g.ki) g.shI])
    (i, clampTo g.dutyMax (clampS 32 (sar (satSum 64 [sar (e * g.kp) g.shP, i]) g.osh)))

/-- One loop of a channel: phase A where `b` is false. -/
def State.driveLoop (s : State) (d : Fin 8) (b : Bool) : State :=
  let i := 256 + 2 * d.val + bit b
  let x := s.drv.ch[d]
  let ph := if b then x.b else x.a
  let l := s.gdl.loop i
  if !l.enabled || x.suspended || decide ((loopsHdr s.loops).dc ≤ l.desc) then s
  else
    let (iS, u) := (ddescAt s.loops l.desc).compute l.iS (ph.ref - ph.i)
    let ph := { ph with staged := some (u, s.time) }
    let s := s.modLoop i fun l => { l with iS := iS, trimV := u }
    s.modDrv fun y => { y with ch := y.ch.set d (if b then { x with b := ph } else { x with a := ph }) }

/-- DRIVE_LOOP_BLOCK: the 16 computations of a period. -/
def execDriveLoopBlock (s : State) : Res :=
  .next (if !s.drv.blockDue then s
    else
      let s := s.modDrv fun y => { y with blockDue := false }
      (List.finRange 8).foldl (fun s d => (s.driveLoop d false).driveLoop d true) s)

end Sys2Proof.Machine
end

