-- ==== Sys2Proof/Machine/Ledger.lean ====
section
/-! DEFINITION. Output power and the band ledgers (R297 to R310). Rounding of powers and charges is
log entry 23. -/

namespace Sys2Proof.Machine

/-! ## Power (R297) -/

def Path.gain (p : Path) : Int := p.pa + p.ant - p.loss

/-- Requested power, and the least power of Table 9-1. -/
def Rfb.txDbm (r : Rfb) (chain : Nat) : Int :=
  match r.radio with
  | some b => sleAt b (8 + chain) 1
  | none => if chain = 0 then 10 else 14

def leastDbm (chain : Nat) : Int := if chain = 0 then -20 else -10

/-- p of a chain: 10 log10 4 is 6.02 dB, so four carriers take off a little over 24 quarter dB. -/
def Rfb.compute (r : Rfb) (chain : Fin 2) : Int :=
  let room := 4 * r.ledgers[chain].eirpMax - r.paths[chain].gain
  min (r.txDbm chain.val) ((if chain.val = 0 then room - 25 else room) / 4)

/-- The power of a chain is recomputed for the next radio slot. -/
def State.recompute (s : State) (chain : Fin 2) : State :=
  let p := s.rfb.compute chain
  let block := decide (p < leastDbm chain.val)
  let f := fun (c : ChainPower) => { c with next := some (if block then none else some p), blocked := block }
  let s := s.modRfb fun r => { r with power := r.power.set chain (f r.power[chain]) }
  if block then
    s.emit evEirpBlock chain.val (par p) (par s.rfb.ledgers[chain].eirpMax) (par s.rfb.paths[chain].gain)
  else s

def State.recomputeBoth (s : State) : State := (s.recompute 0).recompute 1

/-- Values computed take effect at a radio slot boundary. -/
def ChainPower.take (c : ChainPower) : ChainPower :=
  match c.next with
  | some p => { c with p := p, next := none }
  | none => c

/-- A RADIO section comes into force, or its absence (R297). -/
def State.setRadio (s : State) (b : Option (List Byte)) : State :=
  (s.modRfb fun r => { r with radio := b }).recomputeBoth

/-! ## The retention area (R516) -/

/-- Last known squares that are recorded. -/
def Canvas.squares (c : Canvas) : List (Nat × Nat) :=
  c.robots.filterMap fun x => x.2.square.map fun q => (x.1, q)

/-- Pentimento records that a reset loses now: those buffered and those already counted as a gap. -/
def Pnt.losing (p : Pnt) : Nat × Nat :=
  (p.buffer.length + p.gapPending, match p.buffer with
    | r :: _ => r.seq
    | [] => p.gapFirst)

/-- Flash writes that wait for the dip to end: those queued, a STORE and a configuration save. The
Pentimento's records wait in its buffer (log entry 44). -/
def State.deferredWrites (s : State) : Nat := s.pwr.deferred + bit (s.dsp.busy == 6) + bit s.pwr.cfgBusy

/-- The retention area is written, both ledgers included. -/
def State.retain (s : State) : State :=
  let (n, first) := s.pnt.losing
  let r : Retention :=
    { detSeq := s.ev.detSeq
      linkSeq := s.ev.linkSeq
      squares := s.canvas.squares
      pntLost := n
      pntFirst := first
      dip := if s.pwr.dip then some ((s.now - s.pwr.dipAt) / us, s.deferredWrites) else none }
  (s.modRfb fun x => { x with retained := some x.ledgers }).modPwr fun p => { p with ret := some r }

/-! ## The window (R301 to R303) -/

def Ledger.n (l : Ledger) : Nat := (l.buckets.map (·.1)).sum
def Ledger.sSum (l : Ledger) : Nat := (l.buckets.map (·.2)).sum

/-- One 0.01 % of the window, in ns. -/
def Ledger.unit (l : Ledger) : Nat := l.window * 100000

def Ledger.cap (l : Ledger) : Nat := l.limit * l.unit

/-- N'. -/
def Ledger.n' (l : Ledger) : Nat := l.n + (l.sSum - l.reserve * l.unit)

/-- Threshold of class 1 or 2. -/
def Ledger.threshold (l : Ledger) (cls : Nat) : Nat :=
  l.cap - l.reserve * l.unit - (if cls = 2 then l.keep * l.unit else 0)

/-- Test of a class with a charge (Table 9-4). -/
def Ledger.allows (l : Ledger) (cls charge : Nat) : Bool :=
  cls == 0 || decide (l.n' + charge ≤ l.threshold cls)

def Ledger.hold (l : Ledger) (cls : Nat) : Option Nat := if cls = 1 then l.hold1 else l.hold2

def Ledger.setHold (l : Ledger) (cls : Nat) (h : Option Nat) : Ledger :=
  if cls = 1 then { l with hold1 := h } else { l with hold2 := h }

def State.modLedger (s : State) (band : Fin 2) (f : Ledger → Ledger) : State :=
  s.modRfb fun r => { r with ledgers := r.ledgers.set band (f r.ledgers[band]) }

/-- A test of class 1 or 2 begins or ends its hold (R302). -/
def State.judgeClass (s : State) (band : Fin 2) (cls charge : Nat) : State :=
  let l := s.rfb.ledgers[band]
  match l.allows cls charge, l.hold cls with
  | true, some t =>
    (s.modLedger band fun l => l.setHold cls none).emit evLedgerReleased band.val cls ((s.now - t) / ms)
  | false, none =>
    (s.modLedger band fun l => l.setHold cls (some s.now)).emit evLedgerHold band.val cls (l.n' / ms)
      (l.threshold cls / ms)
  | _, _ => s

/-- OVERDRAW follows N + S; it is recorded as it is set (R303). -/
def State.judgeOver (s : State) (band : Fin 2) : State :=
  let l := s.rfb.ledgers[band]
  let above := decide (l.cap < l.n + l.sSum)
  let s' := s.modLedger band fun l => { l with overdraw := above }
  if above && !l.overdraw then
    s'.emit evLedgerOverdraw band.val s.fleet.lastSeq ((l.n + l.sSum) / ms) (l.cap / ms)
  else s'

/-- Both classes are tested with a charge of 0 (R302). -/
def State.judgeBoth (s : State) (band : Fin 2) : State :=
  ((s.judgeClass band 1 0).judgeClass band 2 0).judgeOver band

/-- Add to the newest bucket. -/
def addCharge (cls c : Nat) : List (Nat × Nat) → List (Nat × Nat)
  | [] => []
  | (a, b) :: t => if cls = 0 then (a, b + c) :: t else (a + c, b) :: t

/-- 10^(q ÷ 40) in 2^-40, from the power of its quarter-decibel steps. -/
def pow10q (q : Int) : Nat :=
  let up := (List.range q.natAbs).foldl (fun a _ => a * 1164661787597 / 2 ^ 40) (2 ^ 40)
  if 0 ≤ q then up else 2 ^ 80 / up

/-- Parts of an interval outside a span. -/
def cutSpan (x : Nat × Nat) (l : List (Nat × Nat)) : List (Nat × Nat) :=
  l.flatMap fun y =>
    [(y.1, min y.2 x.1), (max y.1 x.2, y.2)].filter fun z => decide (z.1 < z.2)

/-- Time of an interval outside all the spans of a list. -/
def freshTime (spans : List (Nat × Nat)) (a b : Nat) : Nat :=
  ((spans.foldl (fun l x => cutSpan x l) [(a, b)]).map fun y => y.2 - y.1).sum

/-- Charge of `dur` ns from device time `at'` on a number of carriers at `dbm`: EIRP in mW ÷ 100 mW in
POWER; in TIME the time in which no other carrier of the chain transmits (R301). -/
def State.charge (s : State) (band : Fin 2) (at' dur carriers : Nat) (dbm : Int) : Nat :=
  if s.rfb.ledgers[band].power then
    dur * carriers * pow10q (4 * dbm + s.rfb.paths[band].gain) / (100 * 2 ^ 40)
  else freshTime s.air.spans[band] at' (at' + dur)

def Ledger.bucketNs (l : Ledger) : Nat := l.window * 15625000

/-- The bucket boundary, where its time has come: the oldest bucket drops, the classes are tested and the
retention copy is made (R301, R302, R306). -/
def State.bucketBoundary (s : State) (band : Fin 2) : State :=
  let l := s.rfb.ledgers[band]
  if !s.past l.start l.bucketNs ∨ s.pwr.state = .deep ∨ s.pwr.state = .off then s
  else
    let s := s.modLedger band fun l =>
      { l with buckets := (0, 0) :: l.buckets.take 63, start := l.start + l.bucketNs }
    (s.judgeBoth band).retain

/-- PA_LEAD of Table 9-3, in ns. -/
def Rfb.paLead (r : Rfb) : Nat :=
  match r.radio with
  | some b => leAt b 10 1 * us
  | none => 8 * us

/-- A chain transmits: its transmit-enable output is high from PA_LEAD before the first symbol to 2 µs
after the last (R298), and its receiver is blanked (R296). -/
def State.radiate (s : State) (band : Fin 2) (at' dur : Nat) : State :=
  (s.modAir fun a => { a with spans := a.spans.set band ((at', at' + dur) :: a.spans[band]) }).put
    (.pulse (if band.val = 0 then "PA24_EN" else "PASG_EN") 1 (s.rfb.paLead + dur + 2 * us))

/-- A frame at a power is committed for device time `at'`: a class 1 or 2 frame only if its test holds; a
silent chain sends none. The flag tells that it goes out. A bucket boundary of the same instant comes
first (Table 9-6). -/
def State.commitAt (s : State) (band : Fin 2) (cls at' dur carriers : Nat) (dbm : Int) : Bool × State :=
  if s.rfb.power[band].p.isNone then (false, s)
  else
    let s := s.bucketBoundary band
    let c := s.charge band at' dur carriers dbm
    let ok := s.rfb.ledgers[band].allows cls c
    let s := if cls = 0 then s else s.judgeClass band cls c
    if ok then
      let s := s.modLedger band fun l => { l with buckets := addCharge cls c l.buckets }
      (true, (s.judgeOver band).radiate band at' dur)
    else
      (false, s.modLedger band fun l =>
        if cls = 1 then { l with held1 := satAdd 8 l.held1 1 } else { l with held2 := satAdd 16 l.held2 1 })

/-- A frame at the chain's power in effect. -/
def State.commitFrame (s : State) (band : Fin 2) (cls at' dur carriers : Nat) : Bool × State :=
  s.commitAt band cls at' dur carriers (s.rfb.power[band].p.getD 0)

/-- A frame withheld by listen before talk (R300). -/
def State.lbtHold (s : State) (band : Fin 2) : State :=
  s.modLedger band fun l => { l with lbtBusy := satAdd 8 l.lbtBusy 1 }

/-! ## Boundaries, settings, snapshots (R301, R305 to R307) -/

/-- LEDGER_BUCKET_BOUNDARY: the oldest bucket drops, and the retention area is written. -/
def execLedgerBucketBoundary (band : Fin 2) (s : State) : Res := .next (s.bucketBoundary band)

/-- LEDGER_SNAPSHOT, while the supervisor runs: the write ends with a flash status; a supply dip skips it
until the next 60 s. -/
def execLedgerSnapshot (status : BitVec 4) (s : State) : Res :=
  .next (if !s.past s.rfb.snapAt (60 * second) || !s.awake then s
    else
      let s := s.modRfb fun r => { r with snapAt := s.now }
      if s.pwr.dip then s
      else
      if status = 0 then
        let x : SnapExtra := { detSeq := s.ev.detSeq, linkSeq := s.ev.linkSeq, squares := s.canvas.squares }
        (s.modRfb fun r => { r with snaps := (r.ledgers :: r.snaps).take 2 }).modPwr fun p =>
          { p with extras := (x :: p.extras).take 2 }
      else s.emit evLedgerSnapshotFail status.toNat)

/-- Settings with a register written. -/
def Ledger.write (l : Ledger) (reg : LdgReg) (w : Word) : Ledger :=
  match reg with
  | .cfg => { l with lbt := flagOf w 31, power := flagOf w 30, limit := fieldOf w 16 14, window := fieldOf w 0 12 }
  | .res => { l with reserve := fieldOf w 16 16, keep := fieldOf w 0 16 }
  | .rf => { l with ccaThr := signedOf 8 (fieldOf w 16 8), ccaTime := fieldOf w 8 8, eirpMax := signedOf 8 (fieldOf w 0 8) }

/-- Ranges of Tables 9-9 and 9-10, and RESERVE + KEEP below LIMIT. -/
def Ledger.valid (l : Ledger) : Bool :=
  decide (1 ≤ l.limit) && decide (l.limit ≤ 10000) && decide (1 ≤ l.window) && decide (l.window ≤ 3600) &&
  decide (16 ≤ l.ccaTime) && decide (l.ccaTime ≤ 80) && decide (l.reserve + l.keep < l.limit)

/-- A change of WINDOW keeps N and S in the newest bucket and restarts the timing (R305). -/
def Ledger.rewindow (l : Ledger) (old now : Nat) : Ledger :=
  if l.window = old then l
  else { l with buckets := (l.n, l.sSum) :: List.replicate 63 (0, 0), start := now }

/-- LEDGER_SETTINGS_WRITE (R305). -/
def execLedgerSettingsWrite (reg : LdgReg) (w : Word) (s : State) : Res :=
  .next (s.asRole 2 fun s =>
    let band : Fin 2 := if s.rf rLdgIdx 0 1 = 1 then 1 else 0
    let l := s.rfb.ledgers[band]
    let l' := l.write reg w
    if !l'.valid then s.modRfb fun r => { r with cfgErr := true }
    else
      let s := s.modLedger band fun _ => l'.rewindow l.window s.now
      let s := if l'.eirpMax = l.eirpMax then s else s.recompute band
      s.judgeBoth band)

/-- RFB_PATH_WRITE (R297). -/
def execRfbPathWrite (chain : Fin 2) (w : Word) (s : State) : Res :=
  .next (s.asRole 2 fun s =>
    let p : Path := { pa := signedOf 8 (fieldOf w 0 8), ant := signedOf 8 (fieldOf w 8 8), loss := fieldOf w 16 8 }
    (s.modRfb fun r => { r with paths := r.paths.set chain p }).recompute chain)

/-- Full-rate charge of a second (R307). -/
def State.fullRate (s : State) (band : Fin 2) : Nat :=
  if s.rfb.ledgers[band].power then
    let q := 4 * s.rfb.compute band + s.rfb.paths[band].gain
    second * (if band.val = 0 then 4 else 1) * pow10q q / (100 * 2 ^ 40)
  else second

/-- Buckets aged by whole bucket times gone by (R306). -/
def Ledger.age (l : Ledger) (now : Nat) : Ledger :=
  let k := (now - l.start) / l.bucketNs
  { l with buckets := (List.replicate (min k 64) (0, 0) ++ l.buckets).take 64, start := l.start + k * l.bucketNs }

/-- A ledger after a reset: 0 from retention, aged; 1 from the newer snapshot, 2 empty, both with a
penalty of 60 s of full-rate charge (R306, R307). -/
def State.restoreLedger (s : State) (band : Fin 2) : State :=
  let clear := fun (l : Ledger) => { l with hold1 := none, hold2 := none, overdraw := false, held1 := 0, held2 := 0, lbtBusy := 0 }
  let (src, l) := match s.rfb.retained with
    | some v => (0, v[band].age s.now)
    | none => match s.rfb.snaps with
      | v :: _ => (1, { v[band] with start := s.now })
      | [] => (2, { s.rfb.ledgers[band] with buckets := List.replicate 64 (0, 0), start := s.now })
  let s := s.modLedger band fun _ => clear l
  let pen := if src = 0 then 0 else s.fullRate band * min 60 l.window
  let s := s.modLedger band fun l => { l with buckets := addCharge 1 pen l.buckets }
  let s := s.recompute band
  let s := s.emit evLedgerRestored band.val src (s.rfb.ledgers[band].n / ms) (pen / ms)
  s.judgeBoth band

/-- Both ledgers at boot. -/
def State.restoreLedgers (s : State) : State := (s.restoreLedger 0).restoreLedger 1

end Sys2Proof.Machine
end

