-- ==== Sys2Proof/Machine/AirFrames.lean ====
section
/-! DEFINITION. Frames of the air protocol: keys, nonces, framing and what the transmitter sends
(R246 to R252, R261 to R273, R285). The bits of the frame control field and the byte order of the
nonce are log entry 24. -/

namespace Sys2Proof.Machine

/-! ## Keys (R249 to R252) -/

def zeroKeyAt : Nat → List Byte := fun _ => zeroKey

/-- An operational key: the root key over D (Table 8-2). -/
def opKey (root : List Byte) (purpose incarnation period : Nat) : List Byte :=
  aesBlock (aesKeys root)
    (toLE 1 purpose ++ toLE 2 incarnation ++ toLE 2 period ++ List.replicate 11 0)

/-- P of a superframe. -/
def keyPeriod (sf : Nat) : Nat := sf / 2 ^ 22 % 65536

def State.keyB (s : State) (chain sf : Nat) : List Byte :=
  opKey s.air.kFleet (1 + 16 * chain) s.fleet.incarnation (keyPeriod sf)

def State.keyS (s : State) : List Byte := opKey s.air.kFleet 2 s.fleet.incarnation 0

/-- K_u of a robot, K_f of a field node (R247, Table 8-2). -/
def State.keyOf (s : State) (chain station : Nat) : List Byte :=
  if station < 256 then
    opKey (tblGet zeroKeyAt s.air.kLink station) (3 + 16 * chain) s.fleet.incarnation (keyPeriod s.air.superframe)
  else opKey s.air.kField (4 + 16 * chain) s.fleet.incarnation (keyPeriod s.air.superframe)

/-- The live token of a superframe (R252). -/
def State.token (s : State) (sf : Nat) : Nat :=
  leAt (aesBlock (aesKeys (s.keyB 0 sf)) ([0x0B#8] ++ toLE 4 sf ++ List.replicate 11 0)) 0 4

/-- Frame counter of a nonce (R250). -/
def frameCounter (sf slot carrier : Nat) : Nat := sf % 2 ^ 22 * 2 ^ 10 + slot * 4 + carrier

def nonceOf (ext fc level : Nat) : List Byte := toBE 8 ext ++ toBE 4 fc ++ toLE 1 level

/-- Level 2: the header and payload with their MIC-64. -/
def sealMic (key nonce hdr payload : List Byte) : List Byte :=
  hdr ++ payload ++ ccmTag (aesKeys key) nonce (hdr ++ payload) [] 8

/-- Level 6: the header, the payload encrypted, and the MIC-64. -/
def sealEnc (key nonce hdr payload : List Byte) : List Byte :=
  let r := ccmSeal key nonce hdr payload 8
  hdr ++ r.1 ++ r.2

/-! ## Timing (R255 to R257) -/

/-- Octet time of a chain in ns. -/
def Air.octet (a : Air) (chain : Nat) : Nat :=
  if chain = 0 then 32000
  else match a.plan.map planRate with
    | some 1 => 160000
    | some 2 => 80000
    | _ => 40000

/-- Octets before the MPDU: SHR and PHR. -/
def phyOctets (chain : Nat) : Nat := if chain = 0 then 6 else 8

/-- On-air time of an MPDU held without its FCS. -/
def Air.airTime (a : Air) (chain len : Nat) : Nat := (phyOctets chain + len + 2) * a.octet chain

/-- Octets from the first symbol to the SFD end. -/
def Air.sfdTime (a : Air) (chain : Nat) : Nat := (if chain = 0 then 5 else 6) * a.octet chain

/-- Radio slots of a chain's slot or span. -/
def Air.spanLen (a : Air) (chain : Nat) : Nat :=
  if chain = 0 then 1
  else match a.plan with
    | some p => spanSlots (planRate p)
    | none => 1

/-- First radio slot of the present slot or span, its start and its end. -/
def Air.spanSlot (a : Air) (chain : Nat) : Nat := a.slot / a.spanLen chain * a.spanLen chain
def Air.spanStart (a : Air) (chain : Nat) : Nat := a.slotStart - a.slot % a.spanLen chain * slotNs
def Air.spanEnd (a : Air) (chain : Nat) : Nat := a.spanStart chain + a.spanLen chain * slotNs

/-- Nominal SFD end of a frame at the nominal start (Table 8-4, R257). -/
def Air.nominalSfd (a : Air) (chain : Nat) : Nat := a.spanStart chain + 40000 + a.sfdTime chain

/-- Type of the present slot or span. -/
def Air.typeNow (a : Air) (chain : Nat) : Nat :=
  match a.plan with
  | none => 0
  | some p => if a.gap then 0 else if chain = 0 then slotType p a.slot else if planRate p = 0 then 0 else subType p (a.spanSlot 1)

/-! ## Bursts (R284) -/

/-- A burst is on the air at a device time: it has begun, or its last repetition has not ended. -/
def Air.bursting (a : Air) (t : Nat) : Bool :=
  (match a.burst with
   | some b => decide (b.t0 ≤ t)
   | none => false) || decide (t < a.burstEnd)

/-! ## Station entries (Table 8-10) -/

def stationDefault : Nat → Station := fun _ => Station.empty

def Air.station (a : Air) (chain : Fin 2) (i : Nat) : Station := tblGet stationDefault a.tables[chain] i

def State.modStation (s : State) (chain : Fin 2) (i : Nat) (f : Station → Station) : State :=
  s.modAir fun a => { a with tables := a.tables.set chain (tblMod stationDefault a.tables[chain] i f) }

/-- Station a packet of Q0 to Q16 names (R269). -/
def Packet.station (p : Packet) : Nat := leAt p.bytes 0 2 % 1024

/-- PENDING of a station: packets of Q0 to Q16, undelivered grants and due ASSIGN (R271). -/
def State.pendingOf (s : State) (chain : Fin 2) (i : Nat) : Nat :=
  let packets := ((List.range 17).map fun q => ((s.palette.q q).packets.filter (·.station == i)).length).sum
  let grants := (s.palette.grants.filter (·.robot == i)).length
  let dues := (s.air.assignDues.filter fun d => d.chain == chain.val && d.station == i).length
  min 255 (packets + grants + dues)

/-! ## Frames of the device -/

def State.panId (s : State) : Nat := s.rf rAirCfg 16 16
def State.coordExt (s : State) : Nat := s.reg rAirCoordExt

/-- A unicast frame (Table 8-6). -/
def State.unicast (s : State) (chain station carrier seq : Nat) (payload : List Byte) : List Byte :=
  let hdr := toLE 2 0x2869 ++ toLE 1 seq ++ toLE 2 (0x100 + station) ++ [0x26#8]
  sealEnc (s.keyOf chain station)
    (nonceOf s.coordExt (frameCounter s.air.superframe (s.air.spanSlot chain) carrier) 6) hdr payload

/-- A broadcast under K_b. -/
def State.broadcast (s : State) (chain carrier seq : Nat) (payload : List Byte) : List Byte :=
  let hdr := toLE 2 0x2049 ++ toLE 1 seq ++ toLE 2 s.panId ++ [0x22#8]
  sealMic (s.keyB chain s.air.superframe)
    (nonceOf s.coordExt (frameCounter s.air.superframe (s.air.spanSlot chain) carrier) 2) hdr payload

/-- The MPDU of a stop (R251). -/
def State.stopMpdu (s : State) (seq num : Nat) (payload : List Byte) : List Byte :=
  let hdr := toLE 2 0x2049 ++ toLE 1 seq ++ toLE 2 s.panId ++ [0x02#8] ++ toLE 4 num
  sealMic s.keyS (nonceOf s.coordExt num 2) hdr payload

/-- An Enh-Ack: sequence number, frame-pending bit and Time Correction IE (R271, R280). -/
def enhAck (seq : Nat) (pending : Bool) (correction : Int) : List Byte :=
  toLE 2 (0x2202 + 0x10 * bit pending) ++ toLE 1 seq ++ toLE 2 0x0F02 ++ toLE 2 (codeOf 12 correction)

/-- A standby of the pair transmits, which TWIN_PAIR shows (R285, R287, R290). -/
def State.pairing (s : State) : Bool :=
  (s.twin.state == .active && s.twin.peer == 3) || s.twin.state == .standbyInstep

/-- BEACON (Table 8-7). -/
def State.beacon (s : State) (chain group : Nat) : List Byte :=
  let a := s.air
  let p := a.plan.getD []
  let flags := 16 * bit (decide (s.fleet.superframes ≤ 16) && s.fleet.restart)
    + 32 * bit (s.fleet.fleetActive || a.stopShown)
    + 64 * bit (s.pairing || a.pairShown)
  let quarter := if chain = 0 then group else a.superframe % 4
  let waits := fun (r : Nat) => ([0, 1] : List (Fin 2)).any fun c =>
    match a.assign c.val r with
    | some x => x.sleeping && decide (0 < s.pendingOf c r)
    | none => false
  let pending := (List.range 8).map fun k =>
    BitVec.ofNat 8 (((List.range 8).map fun j =>
      if waits (64 * quarter + 8 * k + j) then 2 ^ j else 0).sum)
  toLE 1 (8 + flags) ++ toLE 2 s.fleet.incarnation ++ toLE 4 a.superframe ++ toLE 4 (s.token a.superframe) ++
  toLE 8 (a.nominalSfd chain) ++ toLE 1 (planVersion p) ++ toLE 1 (planLen p) ++ pending

/-! ## Sending in a slot (R269 to R273, R285, R300, R302, R308) -/

/-- The unit radiates slotted frames: it serves, or is an aligned standby (R285). -/
def State.radiates (s : State) : Bool :=
  s.serving || (s.twin.state == .standbyInstep && !s.air.echo && s.twin.link != 0)

/-- The unit goes through the frames of its radio slots: it radiates them, or, a standby that does not, keeps
its queues and sequence numbers as the active's are, so that its frames are the same when it does
(log entry 57). -/
def State.sends (s : State) : Bool :=
  s.airOn && !s.air.bursting (s.air.slotStart + 40000) && (s.serving || (s.standby && s.twin.loaded))

/-- A standby's frame of a class follows the active's decision for the present radio slot, where the active
makes one (R308). -/
def State.pairAllows (s : State) (chain : Fin 2) (cls : Nat) : Bool :=
  !s.radiates || s.serving || (s.twin.allow.1 == s.air.slotStart / slotNs &&
    bitsOf s.twin.allow.2 (2 * chain.val + cls - 1) 1 == 1)

/-- A carrier whose channel reads a level above CCA_THR withholds its frame while LBT is on (R300). -/
def State.lbtBlocks (s : State) (chain : Fin 2) (level : Int) : Bool :=
  s.rfb.ledgers[chain].lbt && decide (s.rfb.ledgers[chain].ccaThr < level)

/-- A frame of class 1 or 2 of `len` bytes at the nominal start is committed on a number of carriers. The
first flag tells that the pair sends it, the second that this unit does. -/
def State.commitSlot (s : State) (chain : Fin 2) (cls len carriers : Nat) : Bool × Bool × State :=
  if !s.pairAllows chain cls then (false, false, s)
  else if !s.radiates then (true, false, s)
  else
    let (ok, s) := s.commitFrame chain cls (s.air.spanStart chain + 40000) (s.air.airTime chain len) carriers
    (ok || !s.serving, ok, s)

/-- The frame's bytes leave on a channel number, 0 on sub-GHz. -/
def State.onAirAt (s : State) (chain channel : Nat) (bytes : List Byte) : State := s.put (.air chain channel bytes)

/-- A broadcast of the present slot: on the four channels of its group, or on the sub-GHz channel. -/
def State.sendBroadcast (s : State) (chain : Fin 2) (cls : Nat) (group : Nat) (level : Nat → Int)
    (payload : List Byte) : State :=
  let a := s.air
  let seq := Config.broadcastSeq s.fleet.incarnation chain.val a.superframe (a.spanSlot chain.val)
  let len := payload.length + 14
  let carriers := if chain.val = 0 then [0, 1, 2, 3] else [0]
  let blocked := fun (c : Nat) => s.radiates && s.lbtBlocks chain (level c)
  let free := carriers.filter fun c => !blocked c
  let s := (carriers.filter blocked).foldl (fun s _ => s.lbtHold chain) s
  if free = [] then s
  else
    let (_, ok, s) := s.commitSlot chain cls len free.length
    if !ok then s
    else free.foldl (fun s c =>
      s.onAirAt chain.val (if chain.val = 0 then 11 + 4 * group + c else 0)
        (s.broadcast chain.val c (seq % 256) payload)) s

/-- A loopback frame of 20 octets at −20 dBm in the first QUIET radio slot or span, of the standby in
superframes 0 modulo 4 and of the active in those 2 modulo 4, on the next channel in turn (Table 13-9). It
is class 2 traffic (R302). -/
def State.sendLoopback (s : State) (chain : Fin 2) (level : Nat → Int) : State :=
  let a := s.air
  let p := a.plan.getD []
  let span := a.spanLen chain.val
  let quiet := fun (k : Nat) => (if chain.val = 0 then slotType p k else subType p k) == 0
  let first := (List.range (a.spanSlot chain.val)).all fun k => k % span != 0 || !quiet k
  let turn := (s.twin.state == .standbyInstep && a.superframe % 4 == 0) ||
    (s.twin.state == .active && s.twin.peer == 3 && a.superframe % 4 == 2)
  if !s.airOn || !first || !turn || a.bursting (a.slotStart + 40000) || (chain.val == 1 && planRate p == 0) then s
  else
    let n := a.loopNext
    let s := if chain.val = 0 then s.modAir fun a => { a with loopNext := (n + 1) % 16 } else s
    if s.lbtBlocks chain (level (n % 4)) then s.lbtHold chain
    else
      let (ok, s) := s.commitAt chain 2 (a.spanStart chain.val + 40000) (20 * a.octet chain.val) 1 (-20)
      if !ok then s
      else
        s.onAirAt chain.val (if chain.val = 0 then 11 + n else 0)
          (toLE 2 0x2049 ++ [Config.loopbackByte 0] ++ toLE 2 (s.panId ^^^ 0x8000) ++
            (List.range (12 - 5)).map fun k => Config.loopbackByte (k + 1))

/-! ## Downlink (R269) -/

/-- Index of the head packet for a station: the first of the highest level that names it (R376). -/
def headForAux (ps : List Packet) (i : Nat) : Nat → Option Nat
  | 0 => ps.findIdx? fun p => p.level == 0 && p.station == i
  | l + 1 => match ps.findIdx? fun p => p.level == l + 1 && p.station == i with
    | some k => some k
    | none => headForAux ps i l

def PQueue.headFor (q : PQueue) (i : Nat) : Option Nat := headForAux q.packets i 7

/-- Data bytes of a packet: what follows its station header. -/
def Packet.data (p : Packet) : List Byte := p.bytes.drop 2

/-- Packets of more than 20 bytes are dropped at the head and counted in BAD. -/
def State.dropLong (q i : Nat) : Nat → State → State
  | 0, s => s
  | n + 1, s =>
    match (s.palette.q q).headFor i with
    | none => s
    | some k =>
      match (s.palette.q q).packets[k]? with
      | none => s
      | some p =>
        if 20 < p.data.length then
          State.dropLong q i n ((s.modPalette fun x => x.modQ q fun y => { y with packets := y.packets.eraseIdx k }).modAir
            fun a => { a with bad := satAdd 8 a.bad 1 })
        else s

/-- The queue of a chain and channel. -/
def downQueue (chain channel : Nat) : Nat := if chain = 0 then channel - 11 else 16

/-- What is sent to a station: its kind and payload. -/
inductive DownKind where
  | grant (gen : Nat)
  | assign (d : AssignDue)
  | guide (packet : Option Nat)
  | data (packet : Nat)
deriving DecidableEq, Repr

/-- ASSIGN (R268). -/
def AssignDue.payload (d : AssignDue) : List Byte :=
  toLE 1 (3 + 16 * bit d.next) ++ toLE 2 d.fromSf ++ toLE 1 d.version ++ bytesAt d.body 0 17

/-- The choice of R269 for a station whose long packets have been dropped. -/
def State.chooseDown (s : State) (chain : Fin 2) (i q : Nat) : Option DownKind :=
  match s.palette.grants.find? (·.robot == i) with
  | some g => some (.grant g.gen)
  | none =>
    match s.air.assignDues.find? fun d => d.chain == chain.val && d.station == i with
    | some d => some (.assign d)
    | none =>
      let k := (s.palette.q q).headFor i
      let len := match k.bind fun k => (s.palette.q q).packets[k]? with
        | some p => some p.data.length
        | none => none
      let short : Bool := match len with
        | some n => decide (n ≤ 16)
        | none => false
      if i < 256 ∧ ((s.gdl.loop i).enabled ∨ short) then some (.guide (if short then k else none))
      else match k, len with
        | some k, some n => if n = 0 then none else some (.data k)
        | _, _ => none

/-- Take a packet for a frame; none where its CRC or link fails (R377, R380). -/
def State.takeDown (s : State) (q k : Nat) (ro : ReadOut) : Option (List Byte) × State :=
  match s.readOut q k 1 ro with
  | (.packet p, s) => (some p.data, s)
  | (_, s) => (none, s)

/-- GUIDE (R267): the trims or the no-update marker, and Cartoon data. -/
def guidePayload (trim : Option (Int × Int)) (data : List Byte) : List Byte :=
  match trim with
  | some (v, k) => toLE 1 1 ++ toLE 2 (codeOf 16 (clampS 16 v)) ++ toLE 2 (codeOf 16 (clampS 16 k)) ++ data
  | none => toLE 1 0x11 ++ toLE 4 0 ++ data

/-- Length of the payload a choice gives, which its charge is taken from. -/
def State.downLen (s : State) (q : Nat) : DownKind → Nat
  | .grant _ => 20
  | .assign _ => 21
  | .guide k => 5 + match k.bind fun k => (s.palette.q q).packets[k]? with
    | some p => p.data.length
    | none => 0
  | .data k => 1 + match (s.palette.q q).packets[k]? with
    | some p => p.data.length
    | none => 0

/-- A frame to a station is sent by the pair: it takes a new sequence number (R273) and awaits its Imm-Ack.
`air` tells that this unit radiates it. -/
def State.sendDown (s : State) (chain : Fin 2) (channel i carrier : Nat) (kind : TxKind) (air : Bool)
    (payload : List Byte) : State :=
  let seq := ((s.air.station chain i).seq + 1) % 256
  let s := s.modStation chain i fun x => { x with seq := seq }
  let f := s.unicast chain.val i carrier seq payload
  let tx : TxFrame :=
    { chain := chain.val, channel := channel, station := i, seq := seq, kind := kind
      endT := s.air.spanStart chain + 40000 + s.air.airTime chain f.length }
  let s := s.modAir fun a => { a with onAir := a.onAir ++ [tx] }
  if air then s.onAirAt chain.val channel f else s

/-- A grant payload that fails its CRC is removed and its grant has no further opportunity (R377). -/
def State.grantCrc (s : State) (q robot gen len : Nat) : State :=
  let s := s.modPalette fun p => { p with grants := p.grants.filter fun g => !(g.robot == robot && g.gen == gen) }
  let s := s.modCanvas fun c => { c with grants := c.grants.map fun g =>
    if g.robot = robot ∧ g.gen = gen ∧ g.due = none ∧ (g.state = .queued ∨ g.state = .sent) then
      { g with due := some (.undelivered 0, s.epoch.n) } else g }
  s.crcDrop q len 1

/-- What is read for a choice is checked as the frame is built. A grant payload that fails its CRC is removed
with its opportunities; a packet that fails leaves GUIDE without it, and DATA unsent (R377, R380). -/
def State.readChoice (s : State) (i q : Nat) (ro : ReadOut) (d : DownKind) : Option DownKind × State :=
  let bad := !ro.crcOk || ro.link == .uncorrectable
  match d with
  | .grant gen =>
    if ro.crcOk then (some d, s)
    else
      let len := match s.palette.grants.find? fun g => g.robot == i && g.gen == gen with
        | some g => g.bytes.length
        | none => 0
      (none, s.grantCrc q i gen len)
  | .guide (some k) =>
    if !bad then (some d, s)
    else ((if (s.gdl.loop i).enabled then some (.guide none) else none), (s.takeDown q k ro).2)
  | .data k => if !bad then (some d, s) else (none, (s.takeDown q k ro).2)
  | _ => (some d, s)

/-- The committed frame of a choice. `phase` is the start of the DOWNLINK radio slot, none in a SHARED
one; `air` tells that this unit radiates it. -/
def State.sendChoice (s : State) (chain : Fin 2) (channel i carrier q : Nat) (phase : Option Nat) (ro : ReadOut)
    (air : Bool) (d : DownKind) : State :=
  let supersede := fun (s : State) => match phase with
    | some t => if i < 256 then (s.releaseTrim i t false).2 else s
    | none => s
  match d with
  | .grant gen =>
    match s.palette.grants.find? fun g => g.robot == i && g.gen == gen with
    | none => s
    | some g =>
      let s := supersede s
      let s := s.modCanvas fun c => { c with grants := c.grants.map fun x =>
        if x.robot = i ∧ x.gen = gen then { x with state := .sent, frames := x.frames + 1 } else x }
      s.sendDown chain channel i carrier (.grant i gen) air g.bytes
  | .assign d => (supersede s).sendDown chain channel i carrier (.assign chain.val i) air d.payload
  | .guide k =>
    let (data, s) := match k with
      | some k => let (x, s) := s.takeDown q k ro; (x.getD [], s)
      | none => ([], s)
    let (trim, s) := match phase with
      | some t => s.releaseTrim i t true
      | none => (none, s)
    s.sendDown chain channel i carrier .other air (guidePayload trim data)
  | .data k =>
    let (x, s) := s.takeDown q k ro
    s.sendDown chain channel i carrier .other air (toLE 1 4 ++ x.getD [])

/-- A DL opportunity, or the device frame of a SHARED radio slot, of a station on a channel: the frame
is chosen and sent, or the opportunity and the trims of its phase are lost (R269, R284, R300, R302). The flag
is false where there was nothing to send. -/
def State.downlink (s : State) (chain : Fin 2) (channel i carrier : Nat) (phase : Option Nat) (level : Int)
    (ro : ReadOut) : Bool × State :=
  let q := downQueue chain.val channel
  let lost := fun (s : State) => match phase with
    | some t => if i < 256 then (s.releaseTrim i t true).2 else s
    | none => s
  if !s.sends then (true, lost s)
  else
    let s := s.dropLong q i (s.palette.q q).packets.length
    let (d, s) := match s.chooseDown chain i q with
      | some d => s.readChoice i q ro d
      | none => (none, s)
    match d with
    | none => (false, lost s)
    | some d =>
      let held := s.radiates && s.lbtBlocks chain level
      let s := if held then s.lbtHold chain else s
      if held && s.serving then (true, lost s)
      else
        let (ok, air, s) := if held then (s.pairAllows chain 2, false, s)
          else s.commitSlot chain 2 (14 + s.downLen q d) 1
        (true, if !ok then lost s else s.sendChoice chain channel i carrier q phase ro air d)

end Sys2Proof.Machine
end

