-- ==== Sys2Proof/Machine/Drives.lean ====
section
/-! DEFINITION. The passage drives (R442 to R462). -/

namespace Sys2Proof.Machine

def State.modDrvCh (s : State) (d : Fin 8) (f : Drv → Drv) : State :=
  s.modDrv fun y => { y with ch := y.ch.set d (f y.ch[d]) }

/-! ## States (R446) -/

/-- Integrators of a channel's loops are set to 0 where its bridges are not driven (R452). -/
def State.calmLoops (s : State) (d : Fin 8) : State :=
  if s.drv.ch[d].suspended then
    (s.modLoop (256 + 2 * d.val) fun l => { l with iS := 0 }).modLoop (257 + 2 * d.val) fun l => { l with iS := 0 }
  else s

/-- A channel comes to rest in a state that always stands still, or in OFF. -/
def State.rest (s : State) (d : Fin 8) (st : DrvKind) : State :=
  (s.modDrvCh d fun x =>
    { x with st := st, v := 0, standstill := true, homing := none, overAngle := 0, lowEmf := 0 }).calmLoops d

/-- A channel enters FAULT: m is held and HOMED cleared (R451, R454, R456, R461). -/
def State.driveFault (s : State) (d : Fin 8) (cause : Nat) : State :=
  let x := s.drv.ch[d]
  let s := s.modDrvCh d fun x => { x with cause := cause, homed := false }
  (s.rest d .fault).emit evDriveFault d.val cause (par x.mUnits) x.speed

/-- Homing fails: 0 HOME_MAX, 1 FAR, 2 stall, 3 stop (R449). -/
def State.homingFail (s : State) (d : Fin 8) (why : Nat) : State :=
  let x := s.drv.ch[d]
  let travel := match x.homing with
    | some h => (|x.mUnits - h.startM| / 256).toNat
    | none => 0
  (s.rest d .unhomed).emit evHomingFailed d.val why travel

/-- The entry state of a mode (Table 14-3). -/
def State.enterMode (s : State) (d : Fin 8) (mode : Nat) : State :=
  let s := s.modDrvCh d fun x => { x with mode := mode, homed := false, lastEdge := none, rate := 0, slew := 0 }
  match mode with
  | 1 => s.rest d .unhomed
  | 2 => (s.rest d .follow).modDrvCh d fun x => { x with p := x.mUnits, standstill := true }
  | _ => s.rest d .off

/-- A channel takes an entry: where its MODE changes it enters OFF and then the new mode's entry
state (Table 14-6). -/
def State.takeEntry (s : State) (d : Fin 8) (e : List Byte) : State :=
  let mode := leAt e 0 1 % 4
  let same := s.drv.ch[d].mode == mode
  let s := s.modDrvCh d fun x => { x with entry := e, next := none }
  if same then s else s.enterMode d mode

/-- Drive set-up of a Cartoon that starts (R445, Table 14-6), and of one that is swapped in. -/
def State.startDrives (s : State) (b : List Byte) : State :=
  (List.finRange 8).foldl (fun s d =>
    let e := bytesAt b (64 * d.val) 64
    (s.modDrvCh d fun x => { x with entry := e, next := none }).enterMode d (leAt e 0 1 % 4)) s

def State.swapDrives (s : State) (b : List Byte) : State :=
  (List.finRange 8).foldl (fun s d =>
    let e := bytesAt b (64 * d.val) 64
    if s.drv.ch[d].v = 0 then s.takeEntry d e else s.modDrvCh d fun x => { x with next := some e }) s

/-- The new active drives from its own drive state; stalls wait 100 ms, and with TAKEOVER_REHOME
every PROFILE channel enters FAULT (R461). -/
def State.takeoverDrives (s : State) (rehome : Bool) : State :=
  let s := s.modDrv fun y => { y with stallWait := some s.now }
  if rehome then
    (List.finRange 8).foldl (fun s d => if s.drv.ch[d].mode = 1 then s.driveFault d 6 else s) s
  else s

/-- STALL_DETECTION_START (R461). -/
def execStallDetectionStart (s : State) : Res :=
  .next (match s.drv.stallWait with
    | some t => if s.past t (100 * ms) then s.modDrv fun y => { y with stallWait := none } else s
    | none => s)

/-! ## Period centre (R443, R444, R447, R448, R452, R455, R456, R459) -/

/-- The duty of a phase that is staged 200 ns before a centre (R39). -/
def PhaseSt.readyAt (p : PhaseSt) (centre : Nat) : Option Int :=
  match p.staged with
  | some (u, t) => if t + 200 ≤ centre * 50000 then some u else none
  | none => none

/-- A duty is released, repeated where its computation is late, and 0 without a loop (R46, R238). -/
def State.releasePhase (s : State) (centre : Nat) (d : Fin 8) (b : Bool) : State :=
  let x := s.drv.ch[d]
  let ph := if b then x.b else x.a
  let on := (s.gdl.loop (256 + 2 * d.val + bit b)).enabled && !x.suspended
  let duty := if on then (ph.readyAt centre).getD ph.duty else 0
  let late := on && ph.due && (ph.readyAt centre).isNone
  let ph := { ph with duty := duty, staged := none, due := on }
  let s := s.modDrvCh d fun x => if b then { x with b := ph } else { x with a := ph }
  if late then s.lateOutput 1 d.val else s

/-- The phase outputs of a drive at a period centre, once. -/
def State.releaseDuty (s : State) (centre : Nat) (d : Fin 8) : State :=
  if s.drv.ch[d].centre < centre then
    ((s.releasePhase centre d false).releasePhase centre d true).modDrvCh d fun x => { x with centre := centre }
  else s

/-- A change of m toward a limit that is active is not made, but for the braking of homing
(R454, log entry 22). -/
def Drv.barred (x : Drv) (m : Int) : Bool :=
  let braking := match x.homing with
    | some h => h.step == 2
    | none => false
  (x.home.active && !braking && decide (0 < (m - x.m) * x.homeDir)) ||
  (x.far.active && decide ((m - x.m) * x.homeDir < 0))

/-- The rate of a FOLLOW channel moves to the wanted one by at most A_MAX (R451). -/
def State.slewNow (s : State) (x : Drv) : Int :=
  let dv : Int := (profileAt s.loops x.profileIdx).a * fx * 50 / 1000000
  max (x.slew - dv) (min x.rate (x.slew + dv))

/-- Position and speed m takes at a period centre `t`. -/
def State.mTarget (s : State) (d : Fin 8) (t : Nat) : Int × Int :=
  let x := s.drv.ch[d]
  match x.st with
  | .following =>
    let (p, v, _) := (tblGet chanDefault s.stk.chans (256 + d.val)).stroke.at t
    ((p / fx + x.offset) * fx, v)
  | .homing =>
    match x.homing with
    | some h => let (p, v, _) := h.move.at t; (p / fx * fx, v)
    | none => (x.m, 0)
  | .follow =>
    let m := x.m + s.slewNow x * 50 / 1000000
    let p := x.p * fx
    let m := if (x.m ≤ p ∧ p < m) ∨ (m < p ∧ p ≤ x.m) then p else m
    (m, (m - x.m) * 20000)
  | _ => (x.m, 0)

/-- m moves, or is barred; its first change ends standstill. -/
def State.moveDrive (s : State) (t : Nat) (d : Fin 8) : State :=
  let (m, v) := s.mTarget d t
  let x := s.drv.ch[d]
  if x.barred m then s.modDrvCh d fun x => { x with v := 0, slew := 0 }
  else
    let moved := m / fx != x.mUnits
    s.modDrvCh d fun x =>
      { x with m := m, v := v, slew := s.slewNow x, moved := if moved then s.now else x.moved
               standstill := x.standstill && !moved }

/-- Resolution: by speed in PROFILE, changed only at a full-step boundary; 256 in FOLLOW (R447). -/
def Drv.withRes (x : Drv) (before : Int) : Drv :=
  match x.st with
  | .follow => { x with res := 0 }
  | .following | .homing =>
    if before / 256 ≠ x.mUnits / 256 ∨ x.mUnits % 256 = 0 then { x with res := tierFor x.v 5 x.res } else x
  | _ => x

/-- Samples, induced voltage and load angle at a centre, before the new duty takes hold (R455). -/
def Drv.measure (x : Drv) (ia ib : Int) : Drv :=
  let a := { x.a with iPrev := x.a.i, i := ia }
  let b := { x.b with iPrev := x.b.i, i := ib }
  let ea := x.emfOf a
  let eb := x.emfOf b
  { x with a := a, b := b, delta := loadAngle ea eb a.ref b.ref, emf := emfMag ea eb }

/-- Consecutive periods of each stall condition (R456). -/
def Drv.stallCount (x : Drv) : Drv :=
  if x.speed < x.fld 22 2 then { x with overAngle := 0, lowEmf := 0 }
  else
    { x with
      overAngle := if (x.fld 20 1 : Int) < x.delta then x.overAngle + 1 else 0
      lowEmf := if x.emf * 4 * (256 * 65536) < x.ke * x.v.natAbs then x.lowEmf + 1 else 0 }

/-- A stall is detected by a unit that drives the bridges (R456, R460, R461). -/
def State.stallCheck (s : State) (d : Fin 8) : State :=
  let x := s.drv.ch[d]
  let runs := x.st == .homing || x.st == .following || x.st == .follow
  if !runs || !s.serving || s.drv.stallWait.isSome then s
  else
    let x := x.stallCount
    let s := s.modDrvCh d fun _ => x
    if x.fld 21 1 ≤ x.overAngle ∨ x.fld 21 1 ≤ x.lowEmf then
      let s := s.modDrv fun y => { y with stalls := satAdd 8 y.stalls 1 }
      if x.st = .homing then s.homingFail d 2 else s.driveFault d 1
    else s

/-- Confirmed open (R459). -/
def State.confirmOpen (s : State) (t : Nat) (d : Fin 8) : State :=
  let x := s.drv.ch[d]
  let k := (tblGet chanDefault s.stk.chans (256 + d.val)).stroke
  let pos : Int := x.gatePos true
  let o := x.auto && x.st == .following && !k.moving t && k.endPos == pos * fx &&
    decide (|x.mUnits - (pos + x.offset)| ≤ (x.fld 50 2 : Int))
  s.modDrvCh d fun x => { x with open_ := o }

/-- Bridge inputs of a phase for a duty (R443). -/
def bridgeOf (u : Int) : List Nat := if 0 < u then [u.toNat, 0] else [0, (-u).toNat]

def Drv.bridgeNow (x : Drv) : List Nat :=
  if x.st = .off then [0, 0, 0, 0]
  else if x.standstill && x.stillMode == 1 then [0, 0, 0, 0]
  else if x.standstill && x.stillMode == 2 then [32768, 32768, 32768, 32768]
  else bridgeOf x.a.duty ++ bridgeOf x.b.duty

/-- Bridge inputs that change leave the device. -/
def State.putBridge (s : State) (d : Fin 8) : State :=
  let x := s.drv.ch[d]
  let new := x.bridgeNow
  let s := ((["_A1", "_A2", "_B1", "_B2"].zip (x.bridge.zip new)).foldl (fun (s : State) p =>
    if p.2.1 = p.2.2 then s else s.put (.pin ("PSG" ++ toString d.val ++ p.1) p.2.2)) s)
  s.modDrvCh d fun x => { x with bridge := new }

/-- One channel at a period centre. -/
def State.driveCentre (s : State) (centre : Nat) (ia ib : Int) (d : Fin 8) : State :=
  let t := centre * 50000
  let s := s.modDrvCh d fun x => x.measure ia ib
  let s := s.releaseDuty centre d
  let s := match s.drv.ch[d].next with
    | some e => if s.drv.ch[d].v = 0 then s.takeEntry d e else s
    | none => s
  let before := s.drv.ch[d].mUnits
  let still := s.drv.ch[d].standstill
  let s := s.moveDrive t d
  let s := s.modDrvCh d fun x => x.withRes before
  let s := s.modDrvCh d fun x =>
    let (ra, rb) := x.refs
    { x with a := { x.a with ref := ra }, b := { x.b with ref := rb } }
  let s := if still && !s.drv.ch[d].standstill then
      (s.modLoop (256 + 2 * d.val) fun l => if s.drv.ch[d].stillMode = 0 then l else { l with iS := 0 }).modLoop
        (257 + 2 * d.val) fun l => if s.drv.ch[d].stillMode = 0 then l else { l with iS := 0 }
    else s
  let s := s.stallCheck d
  let x := s.drv.ch[d]
  let lag := x.st == .follow && decide ((x.fld 30 2 : Int) * 256 * fx < |x.p * fx - x.m|)
  let s := if lag then s.driveFault d 5 else s
  (s.confirmOpen t d).putBridge d

/-- PWM_PERIOD_CENTRE, at the last multiple of 50 µs of device time (R443, R444). -/
def execPwmPeriodCentre (samples : Vector (BitVec 12) 16) (s : State) : Res :=
  let centre := s.time / 50000
  let code := fun (i : Nat) => ((samples.toList.getD i 2048#12).toNat : Int) - 2048
  .next (
    let s := (List.finRange 8).foldl (fun s d => s.driveCentre centre (code (2 * d.val)) (code (2 * d.val + 1)) d) s
    s.modDrv fun y => { y with blockDue := true })

/-- STANDSTILL_ENTER (R452). -/
def execStandstillEnter (d : Fin 8) (s : State) : Res :=
  let x := s.drv.ch[d]
  .next (if !x.standstill && s.past x.moved (x.fld 10 2 * ms) then
      (s.modDrvCh d fun x => { x with standstill := true }).calmLoops d else s)

/-! ## FOLLOW (R451) -/

/-- Rate and lag of a FOLLOW channel. -/
def clampRate (v : Nat) (r : Int) : Int := max (-(v * fx)) (min r (v * fx))

/-- STEP_EDGE: `up` is PSGd_DIR as sampled 100 ns before the edge. -/
def execStepEdge (d : Fin 8) (up : Bool) (s : State) : Res :=
  let x := s.drv.ch[d]
  .next (if x.st ≠ .follow then s
    else
      let t := s.time
      let step : Int := 256 / 2 ^ x.fld 2 1
      let p := x.p + (if up then step else -step)
      let dt := max 1 (min 20000000 (match x.lastEdge with
        | some t0 => t - t0
        | none => 20000000))
      let rate := clampRate (profileAt s.loops x.profileIdx).v ((p * fx - x.m) * nsPerS / dt)
      let s := s.modDrvCh d fun x => { x with p := p, rate := rate, lastEdge := some t }
      if (x.fld 30 2 : Int) * 256 * fx < |p * fx - x.m| then s.driveFault d 5 else s)

/-- FOLLOW_IDLE: no edge for 20 ms (R451). -/
def execFollowIdle (d : Fin 8) (s : State) : Res :=
  let x := s.drv.ch[d]
  let idle : Bool := match x.lastEdge with
    | some t => decide (t + 20 * ms ≤ s.time)
    | none => true
  .next (if x.st = .follow ∧ idle then
      let r := (x.p * fx - x.m) * 20000
      s.modDrvCh d fun x => { x with rate := r, slew := r }
    else s)

/-! ## Limits (R453, R454) -/

/-- A limit input has become active: 2 LIMIT_HOME, 3 LIMIT_FAR or 4 CHATTER. In HOMING, HOME is part
of the sequence, and FAR or chatter fails it. Which number HOMING_FAILED carries for a chattering
HOME the spec does not say. -/
def State.limitTrip (s : State) (d : Fin 8) (far chatter : Bool) : State :=
  let x := s.drv.ch[d]
  match x.st with
  | .off => s
  | .homing =>
    if far then s.homingFail d 1
    else if chatter then
      let (n, s) := s.draw
      s.homingFail d n
    else s
  | _ =>
    (s.modDrv fun y => { y with trips := satAdd 8 y.trips 1 }).driveFault d
      (if chatter then 4 else if far then 3 else 2)

/-- LIMIT_INPUT_CHANGE: the input is sampled at a level. -/
def execLimitInputChange (d : Fin 8) (far level : Bool) (s : State) : Res :=
  let x := s.drv.ch[d]
  let high := x.fld 3 1 / (if far then 2 else 1) % 2 == 1
  let (act, ep, l) := (if far then x.far else x.home).sample (level == high) s.now (x.fld 7 1) (x.fld 24 1)
  .next (
    let s := s.modDrvCh d fun x => if far then { x with far := l } else { x with home := l }
    let s := if ep then
        (s.modDrv fun y => { y with chatters := satAdd 8 y.chatters 1 }).emit evDriveLimitChatter d.val
          (bit far) l.edges.length
      else s
    if act then s.limitTrip d far ep
    else if ep && x.st == .homing then s.limitTrip d far true
    else s)

/-- CHATTER_END (R453). -/
def execChatterEnd (d : Fin 8) (far : Bool) (s : State) : Res :=
  let x := s.drv.ch[d]
  let l := if far then x.far else x.home
  .next (if l.chatter && !l.level && s.past l.changed second then
      let l := { l with chatter := false, active := false }
      s.modDrvCh d fun x => if far then { x with far := l } else { x with home := l }
    else s)

/-! ## Homing (R449) -/

/-- The profile of a channel with another speed limit, in full steps/s. -/
def State.homeProfile (s : State) (x : Drv) (speed : Nat) : Profile :=
  { profileAt s.loops x.profileIdx with v := speed * 256, reverse := true, revPct := 100 }

/-- A move at a speed from a state of motion at device time `t`. -/
def speedMove (p : Profile) (x v a : Int) (t : Nat) (dir : Int) : Stroke :=
  let w := dir * p.v * fx
  let pl := planSpeed p x v a w
  { kind := .speed, t0 := t, segs := pl.segs, endPos := pl.endPos, endSpeed := w, reversed := false, profile := 0, turn := 0,
    cmd := 0, arg := 0 }

def brakeMove (p : Profile) (x v a : Int) (t : Nat) : Stroke :=
  let (g, e) := planBrake p.a p.j x v a
  { Stroke.restAt t e with kind := .braking, segs := g }

def posMove (p : Profile) (x v a : Int) (t : Nat) (target : Int) : Stroke :=
  let pl := planPos p x v a target
  { Stroke.restAt t pl.endPos with kind := .position, segs := pl.segs }

/-- Step 1, or step 3 where HOME is already active. -/
def State.startHoming (s : State) (d : Fin 8) : State :=
  let x := s.drv.ch[d]
  let t := s.time
  let a := if x.st = .following then ((tblGet chanDefault s.stk.chans (256 + d.val)).stroke.at t).2.2 else 0
  let h : Homing :=
    if x.home.active then
      { step := 3, move := speedMove (s.homeProfile x (x.fld 28 2)) x.m x.v a t (-x.homeDir),
        startM := x.mUnits, start := s.now, seek := 0, failed := false }
    else
      { step := 1, move := speedMove (s.homeProfile x (x.fld 26 2)) x.m x.v a t x.homeDir,
        startM := x.mUnits, start := s.now, seek := 0, failed := false }
  s.modDrvCh d fun x => { x with st := .homing, homing := some h, homed := false }

/-- The next step with its move. -/
def State.homeStep (s : State) (d : Fin 8) (n : Nat) (k : Stroke) : State :=
  s.modDrvCh d fun x => { x with homing := x.homing.map fun h => { h with step := n, move := k } }

/-- HOMING_PHASE_END. -/
def execHomingPhaseEnd (d : Fin 8) (s : State) : Res :=
  .next (
    let x := s.drv.ch[d]
    match x.homing with
    | none => s
    | some h =>
      let t := s.time
      let (p, v, a) := h.move.at t
      let rest := !h.move.moving t
      let pr := profileAt s.loops x.profileIdx
      if h.failed then (if rest then s.homingFail d 3 else s)
      else match h.step with
        | 1 =>
          if x.home.active then
            let seek := (|x.mUnits - h.startM| / 256).toNat
            (s.homeStep d 2 (brakeMove pr p v a t)).modDrvCh d fun x =>
              { x with homing := x.homing.map fun h => { h with seek := seek } }
          else if (x.fld 36 4 : Int) * 256 ≤ |x.mUnits - h.startM| then s.homingFail d 0
          else s
        | 2 =>
          if rest then s.homeStep d 3 (speedMove (s.homeProfile x (x.fld 28 2)) p 0 0 t (-x.homeDir))
          else s
        | 3 =>
          if x.home.active then s
          else
            let s := s.modDrvCh d fun x => { x with offset := x.mUnits - signedOf 32 (x.fld 32 4) }
            s.homeStep d 4 (brakeMove pr p v a t)
        | 4 =>
          if rest then
            let ref := (tblGet chanDefault s.stk.chans (256 + d.val)).stroke.at t
            s.homeStep d 5 (posMove (s.homeProfile x (x.fld 26 2)) p 0 0 t (ref.1 + x.offset * fx))
          else s
        | _ =>
          if rest then
            let s := s.modDrvCh d fun x => { x with st := .following, homing := none, homed := true }
            s.emit evDriveHomed d.val (par x.offset) h.seek ((s.now - h.start) / ms)
          else s)

/-! ## Commands from Q51 (R457) -/

/-- The head of Q51 leaves the queue; a packet read out whole is taken by `f`. -/
def State.takeQ51 (s : State) (ro : ReadOut) (f : State → List Byte → State) : State :=
  match s.readHead 51 5 ro with
  | (.packet k, s) => f s k.bytes
  | (_, s) => s

/-- A packet that Table 14-5 gives a command: 8 bytes, CMD 1 to 3, a channel. -/
def drvPacket (b : List Byte) : Option (Nat × Fin 8) :=
  let c := leAt b 0 1
  let d := leAt b 1 1
  if h : b.length = 8 ∧ 1 ≤ c ∧ c ≤ 3 ∧ d < 8 then some (c, ⟨d, h.2.2.2⟩) else none

def State.refuseDrive (s : State) (b : List Byte) : State :=
  let d := leAt b 1 1
  let st := match s.drv.ch[d]? with
    | some x => x.st.code
    | none => 0
  (s.modDrv fun y => { y with refused := satAdd 8 y.refused 1 }).emit evDriveCommandRefused d
    (leAt b 0 1) (leAt b 2 1) st

/-- A command on its channel, where the head of Q51 is this command. -/
def State.driveCmd (s : State) (cmd : Nat) (ro : ReadOut) (refused : State → Drv → Nat → Bool)
    (f : State → Fin 8 → Nat → State) : State :=
  match (s.palette.q 51).head with
  | none => s
  | some k =>
    match drvPacket k.bytes with
    | none => s
    | some (c, d) =>
      if c ≠ cmd then s
      else s.takeQ51 ro fun s b =>
        if refused s s.drv.ch[d] (leAt b 2 1) then s.refuseDrive b else f s d (leAt b 2 1)

/-- DRIVE_HOME. -/
def execDriveHome (ro : ReadOut) (s : State) : Res :=
  .next (s.driveCmd 1 ro (fun _ x _ => x.mode != 1 || x.st == .homing || x.st == .fault)
    fun s d _ => s.startHoming d)

/-- DRIVE_CLEAR. -/
def execDriveClear (ro : ReadOut) (s : State) : Res :=
  .next (s.driveCmd 2 ro (fun _ x _ => x.st != .fault) fun s d _ =>
    let x := s.drv.ch[d]
    let s := if x.mode = 2 then (s.rest d .follow).modDrvCh d fun x =>
        { x with p := x.mUnits, rate := 0, slew := 0, lastEdge := none } else s.rest d .unhomed
    s.emit evDriveFaultCleared d.val x.cause)

/-- SET_MODE. -/
def execSetMode (ro : ReadOut) (s : State) : Res :=
  .next (s.driveCmd 3 ro
    (fun s x a => x.auto || x.st == .homing || !s.past x.moved (100 * ms) || decide (2 < a))
    fun s d a => s.enterMode d a)

/-- DRIVE_PACKET_INVALID. -/
def execDrivePacketInvalid (ro : ReadOut) (s : State) : Res :=
  .next (match (s.palette.q 51).head with
    | none => s
    | some k =>
      match drvPacket k.bytes with
      | some _ => s
      | none => s.takeQ51 ro State.refuseDrive)

end Sys2Proof.Machine
end

