-- ==== Sys2Proof/Machine/Air.lean ====
section
/-! DEFINITION. The air MAC: radio slots and superframes, station frames, acknowledgements, station
tables, keys, plan changes, stop bursts and twin echo (R248 to R290). -/

namespace Sys2Proof.Machine

/-! ## Plans (R253, R260) -/

/-- The entry of a station and chain among a plan's. -/
def assignIn (p : List Byte) (chain station : Nat) : Option Assign :=
  (assigns p).find? fun x => x.station == station && x.chain == chain

/-- Stations of a plan with their chains. -/
def planKeys (p : List Byte) : List (Nat × Nat) := (assigns p).map fun x => (x.chain, x.station)

/-- ASSIGN with NEXT to every station whose assignment changes or that has none in the new plan. -/
def nextDues (old new : List Byte) (first : Nat) : List AssignDue :=
  let keys := planKeys old ++ (planKeys new).filter fun k => !(planKeys old).contains k
  keys.filterMap fun k =>
    let a := assignIn old k.1 k.2
    let b := assignIn new k.1 k.2
    if a.map (·.body) = b.map (·.body) then none
    else
      let body := match b, a with
        | some x, _ => x.body
        | none, some x => toLE 1 x.channel ++ List.replicate 16 0
        | none, none => List.replicate 17 0
      some { chain := k.1, station := k.2, next := true, fromSf := first % 65536, version := planVersion new, body := body }

/-- A plan comes with a cold start: at once where none is in force, else from the next superframe. -/
def State.startPlan (s : State) (p : List Byte) : State :=
  s.modAir fun a =>
    if a.plan.isNone || !a.counting then
      { a with plan := some p, nextPlan := none, assignDues := [], planAt := s.time }
    else { a with nextPlan := some (a.superframe + 1, p) }

/-- A plan comes with a live swap: from the first superframe that begins at least 16 superframes after
the swap epoch (R260). -/
def State.swapPlan (s : State) (p : List Byte) : State :=
  match s.air.plan with
  | none => s.startPlan p
  | some old =>
    let first := s.air.superframe + 16 + bit (decide (s.air.sfStart < s.epoch.nominal))
    s.modAir fun a =>
      { a with nextPlan := some (first, p)
               assignDues := a.assignDues.filter (!·.next) ++ nextDues old p first }

/-- The waiting plan takes effect at the start of its first superframe. -/
def State.planChange (s : State) : State :=
  match s.air.nextPlan with
  | none => s
  | some (first, p) =>
    if !s.air.counting || decide (s.air.superframe < first) then s
    else
      let old := planVersion (s.air.plan.getD [])
      (s.modAir fun a =>
        { a with plan := some p, nextPlan := none, assignDues := a.assignDues.filter (!·.next) }).emit
        evPlanChanged old (planVersion p) s.air.superframe

/-- PLAN_CHANGE (R260). -/
def execPlanChange (s : State) : Res := .next s.planChange

/-! ## Superframes and radio slots (R253, R255) -/

/-- A superframe begins: its number, AGE of every entry, and what beacons show of FLEET stops. -/
def State.beginSuperframe (s : State) (start : Nat) : State :=
  let age := fun (x : Station) => if x.state = 0 then x else { x with age := satAdd 16 x.age 1 }
  (s.modAir fun a =>
    { a with sfStart := start, stopShown := s.fleet.fleetActive, pairShown := false
             tables := a.tables.map fun t => tblMap stationDefault age t }).modFleet
    fun f => { f with superframes := f.superframes + 1 }

/-- SUPERFRAME_BOUNDARY (R253, R277). Superframe 0 begins at the first radio slot boundary after the
incarnation is stored and a plan has come into force. -/
def execSuperframeBoundary (s : State) : Res :=
  .next (
    let a := s.air
    match a.plan with
    | none => s
    | some p =>
      if !a.counting then
        if !s.fleet.incStored then s
        else
          let t := s.time / slotNs * slotNs
          if t ≤ s.fleet.incStoredAt ∨ t ≤ a.planAt then s
          else
            (s.modAir fun a =>
              { a with counting := true, superframe := 0, slotStart := t - slotNs
                       slot := planLen p - 1 }).beginSuperframe t
      else if a.sfStart ≤ a.slotStart ∧ planLen p ≤ a.slot + 1 ∧ a.slotStart + slotNs ≤ s.time then
        (s.modAir fun a => { a with superframe := a.superframe + 1 }).beginSuperframe (a.slotStart + slotNs)
      else s)

/-- The next radio slot, where its boundary has come: slot 0 follows the superframe boundary. -/
def Air.advance (a : Air) (t : Nat) : Option Air :=
  match a.plan with
  | none => none
  | some p =>
    if !a.counting || decide (t < a.slotStart + slotNs) then none
    else if a.slotStart < a.sfStart then some { a with slot := 0, slotStart := a.sfStart, gap := false }
    else if a.slot + 1 < planLen p then some { a with slot := a.slot + 1, slotStart := a.slotStart + slotNs }
    else none

/-- The burst that waits with the highest scope, the first raised among equals. -/
def firstBurst : List Burst → Option Burst
  | [] => none
  | b :: t => match firstBurst t with
    | some c => some (if c.kind < b.kind then c else b)
    | none => some b

/-- A burst that waits begins at the start of a radio slot, once none is in progress (R22, R283). -/
def State.slotBurst (s : State) : State :=
  let s := s.endBurst
  match s.air.burst, firstBurst s.air.waitingBursts with
  | none, some b =>
    let t := s.air.slotStart
    (s.modAir fun a => { a with waitingBursts := a.waitingBursts.erase b }).beginBurst
      { b with t0 := t, g1 := s.air.groupAt t }
  | _, _ => s

/-- A grant whose last opportunity before deliver-by has passed ends undelivered (R191, R192). -/
def State.endOpportunities (s : State) : State :=
  let ended := fun (g : Grant) => !g.voided && g.due == none &&
    (g.state == .queued || g.state == .sent) && !s.air.dlLeft g.robot s.air.slotStart g.deliverBy
  let gone := s.canvas.grants.filter ended
  let close := fun (g : Grant) => if ended g then { g with due := some (.undelivered 0, s.epoch.n) } else g
  let s := s.modCanvas fun c => { c with grants := c.grants.map close }
  s.modPalette fun p =>
    { p with grants := p.grants.filter fun y => !gone.any fun g => g.robot == y.robot && g.gen == y.gen }

/-! ## Corrections (R270) -/

def Air.corrPos (a : Air) (chain : Fin 2) : CorrPos := if chain.val = 0 then a.corr24 else a.corrSub

/-- RTCM message number of a frame. -/
def rtcmType (m : List Byte) : Nat := ofBE (bytesAt m 3 2) / 16

/-- A newer message of the same number has been placed (R270). -/
def State.hasSuccessor (s : State) (n : Nat) : Bool :=
  match s.air.corr[n - s.air.corrFirst]? with
  | none => false
  | some m =>
    (s.air.corr.drop (n - s.air.corrFirst + 1)).any (fun x => rtcmType x == rtcmType m) ||
    (s.palette.q 49).packets.any fun x => rtcmType x.bytes == rtcmType m

/-- The chain needs a message that has not been taken from Q49 yet. -/
def State.feedCorr (s : State) (chain : Fin 2) (ro : ReadOut) : State :=
  if s.air.corrFirst + s.air.corr.length ≤ (s.air.corrPos chain).msg then
    match s.readHead 49 1 ro with
    | (.packet k, s) => s.modAir fun a => { a with corr := a.corr ++ [k.bytes] }
    | (_, s) => s
  else s

/-- Messages both chains have passed are let go; a chain that is off passes all. -/
def Air.trimCorr (a : Air) : Air :=
  let off := match a.plan with
    | some p => planRate p == 0
    | none => true
  let a := if off then { a with corrSub := a.corr24 } else a
  let low := min a.corr24.msg a.corrSub.msg
  { a with corr := a.corr.drop (low - a.corrFirst), corrFirst := max a.corrFirst low }

/-- Fragments of a message. -/
def fragments (m : List Byte) : Nat := ceilDiv m.length 35

/-- Messages that are not complete and whose successor is due are abandoned, begun or not, up to `n` of them
(R270). -/
def State.skipCorr (chain : Fin 2) (ro : ReadOut) : Nat → State → State
  | 0, s => s
  | n + 1, s =>
    let s := s.feedCorr chain ro
    let p := s.air.corrPos chain
    if s.hasSuccessor p.msg then
      State.skipCorr chain ro n (s.modAir fun a => a.setCorrPos chain.val { msg := p.msg + 1, frag := 0 })
    else s

/-- CORRECTION (R270): the next fragment on the channels of the slot. -/
def State.sendCorrection (s : State) (chain : Fin 2) (group : Nat) (level : Nat → Int) (ro : ReadOut) : State :=
  let s := State.skipCorr chain ro (s.air.corr.length + (s.palette.q 49).packets.length + 1) s
  let p := s.air.corrPos chain
  match s.air.corr[p.msg - s.air.corrFirst]? with
  | none => s
  | some m =>
    let last := decide (fragments m ≤ p.frag + 1)
    let f := toLE 1 0xA ++ toLE 1 p.msg ++ toLE 1 (p.frag + 128 * bit last) ++ (m.drop (35 * p.frag)).take 35
    let s := s.sendBroadcast chain 2 group level f
    let endT := s.air.spanStart chain.val + 40000 + s.air.airTime chain.val (f.length + 14)
    s.modAir fun a =>
      (({ a with corrSent := a.corrSent ++ [{ chain := chain.val, pos := p, msg := m, endT := endT }] } : Air).setCorrPos
        chain.val (if last then { msg := p.msg + 1, frag := 0 } else { p with frag := p.frag + 1 })).trimCorr

/-! ## The slot's frames -/

/-- Stations whose DL entry falls in the present slot or span, with their channel (R258). -/
def Air.downNow (a : Air) (chain : Fin 2) : List Assign :=
  match a.plan with
  | none => []
  | some p => (assigns p).filter fun x => x.chain == chain.val &&
      x.dl.any fun e => e.slot == a.spanSlot chain.val && e.falls a.superframe

/-- Channel on which a station without a DL entry is reached. -/
def Air.channelOf (a : Air) (chain : Fin 2) (i : Nat) : Nat :=
  match a.assign chain.val i with
  | some x => x.channel
  | none => (a.station chain i).channel

/-- Stations with a due frame for a SHARED radio slot: ASSIGN first, then packets in put order
(R259). -/
def State.sharedDue (s : State) (chain : Fin 2) (group : Nat) : List Nat :=
  let a := s.air
  let mine := fun (i : Nat) =>
    let none_ := match a.assign chain.val i with
      | some x => x.dl.isEmpty
      | none => true
    let ch := a.channelOf chain i
    none_ && (if chain.val = 0 then decide (11 + 4 * group ≤ ch) && decide (ch ≤ 14 + 4 * group) else true)
  let dues := (a.assignDues.filter (·.chain == chain.val)).map (·.station)
  let qs := if chain.val = 0 then (List.range 4).map fun c => 4 * group + c else [16]
  let packets := qs.flatMap fun q => ((s.palette.q q).packets.filter fun p =>
    chain.val != 0 || a.channelOf chain p.station == 11 + q).map (·.station)
  (dues ++ packets).filter mine

/-- The device frame of a SHARED slot or span goes to the first station that has one due (R259). -/
def State.sendShared (chain : Fin 2) (group : Nat) (level : Nat → Int) (ros : Nat → ReadOut) :
    List Nat → State → State
  | [], s => s
  | i :: t, s =>
    let ch := s.air.channelOf chain i
    let c := if chain.val = 0 then ch - 11 - 4 * group else 0
    match s.downlink chain ch i c none (level c) (ros c) with
    | (true, s) => s
    | (false, s) => State.sendShared chain group level ros t s

/-- What a chain sends in its present slot or span. -/
def State.slotFrames (s : State) (chain : Fin 2) (group : Nat) (level : Nat → Int) (ros : Nat → ReadOut) : State :=
  match s.air.typeNow chain.val with
  | 0 => s.sendLoopback chain level
  | 1 => if s.sends then s.sendBroadcast chain 1 group level (s.beacon chain.val group) else s
  | 3 => (s.air.downNow chain).foldl (fun s x =>
      let c := if chain.val = 0 then x.channel - 11 - 4 * group else 0
      (s.downlink chain x.channel x.station c (some (s.air.spanStart chain.val)) (level c) (ros c)).2) s
  | 4 => if s.sends then State.sendShared chain group level ros (s.sharedDue chain group) s else s
  | 5 => if s.sends then s.sendCorrection chain group level (ros 4) else s
  | _ => s

/-- The active's decision for the radio slot after this one (R308). -/
def State.sendDecision (s : State) : State :=
  if s.twin.state = .active ∧ s.twin.link ≠ 0 ∧ !s.air.echo then
    let ok := fun (b : Fin 2) (c : Nat) => bit (s.rfb.ledgers[b].allows c 0)
    s.put (.twin (.ledger (s.air.slotStart / slotNs + 1) (ok 0 1 + 2 * ok 0 2 + 4 * ok 1 1 + 8 * ok 1 2)))
  else s

/-- A multiple of 2 ms of device time has been reached that has had no boundary yet: powers computed since
take effect, and transmissions long past are let go (R253, R297). -/
def State.crossBoundary (s : State) : State :=
  if s.time / slotNs ≤ s.air.boundary then s
  else
    let recent := fun (l : List (Nat × Nat)) => l.filter fun x => decide (s.time < x.2 + 20 * ms)
    (s.modAir fun a => { a with boundary := s.time / slotNs, spans := a.spans.map recent }).modRfb fun r =>
      { r with power := r.power.map (·.take) }

/-- RADIO_SLOT_BOUNDARY: `ros` are the read-outs of carriers 0 to 3, of the corrections of both chains
and of the sub-GHz chain; `levels` are the energies in dBm that the assessments of CCA_TIME read on carriers
0 to 3 and on the sub-GHz channel (R300). -/
def execRadioSlotBoundary (ros : Vector ReadOut 7) (levels : Vector (BitVec 8) 5) (s : State) : Res :=
  .next (
    let s := if s.awake then s.crossBoundary else s
    match s.air.advance s.time with
    | none => s
    | some a =>
      let start := decide (a.slot % a.spanLen 1 = 0)
      let a := { a with
        onAir := a.onAir.filter fun f => f.chain == 1 && !start
        corrSent := a.corrSent.filter fun f => f.chain == 1 && !start }
      let s := s.modAir fun _ => a
      let s := s.planChange.slotBurst
      let g := match s.air.plan with
        | some p => slotGroup p s.air.slot
        | none => 0
      let r := fun (n : Nat) => ros.toList.getD n { crcOk := true, link := .ok }
      let level := fun (n : Nat) => (levels.toList.getD n 0).toInt
      let s := s.slotFrames 0 g level r
      let s := if start then s.slotFrames 1 0 (fun _ => level 4) (fun n => if n = 4 then r 5 else r 6) else s
      s.endOpportunities.sendDecision)

/-! ## Station frames (R248, R265, R271, R274, R280, R281) -/

/-- A received MPDU without its FCS (Tables 8-1 and 8-6). -/
structure Mpdu where
  seq : Nat
  /-- Short source address, or the extended one of a JOIN. -/
  short : Option Nat
  ext : Nat
  level : Nat
  hdr : List Byte
  body : List Byte
  mic : List Byte
deriving DecidableEq, Repr

/-- Hardware filters of R248 and R246: type Data, version 2, PAN ID compression, PAN ID and destination;
none where one fails. -/
def parseMpdu (pan : Nat) (b : List Byte) : Option Mpdu :=
  let f := leAt b 0 2
  let dst := bitsOf f 10 2
  let src := bitsOf f 14 2
  let d := if dst = 2 then 4 else 0
  let n := if src = 2 then 2 else 8
  let n0 := 3 + d + n
  if f % 8 ≠ 1 ∨ bitsOf f 3 1 = 0 ∨ bitsOf f 4 1 = 1 ∨ bitsOf f 6 1 = 0 ∨ bitsOf f 7 1 = 1 ∨ bitsOf f 8 2 ≠ 0 ∨
      bitsOf f 12 2 ≠ 2 ∨ (dst ≠ 0 ∧ dst ≠ 2) ∨ src < 2 ∨ b.length < n0 + 10 then none
  else if dst = 2 ∧ (leAt b 3 2 ≠ pan ∨ (leAt b 5 2 ≠ 0 ∧ leAt b 5 2 ≠ 0xFFFF)) then none
  else
    let c := leAt b n0 1
    if c / 8 ≠ 4 then none
    else
      let body := (b.drop (n0 + 1)).take (b.length - n0 - 9)
      some
        { seq := leAt b 2 1, short := if src = 2 then some (leAt b (3 + d) 2) else none
          ext := if src = 2 then 0 else leAt b (3 + d) 8, level := c % 8, hdr := b.take (n0 + 1)
          body := body, mic := b.drop (b.length - 8) }

/-- Lengths of the payloads a station sends (Table 8-6). -/
def stationPayloadOk (joins : Bool) (robot : Bool) (b : List Byte) : Bool :=
  match leAt b 0 1 % 16 with
  | 1 => !joins && robot && b.length == 17
  | 5 => joins && b.length == 3 && leAt b 0 1 == 5
  | 6 => !joins && decide (2 ≤ b.length) && decide (b.length ≤ 17) && leAt b 0 1 == 6
  | _ => false

/-- Index of the station entry that holds an extended address, with a test of its state (R276). -/
def Air.byExt (a : Air) (chain : Fin 2) (ext : Nat) (p : Station → Bool) : Option Nat :=
  (a.tables[chain].find? fun x => x.2.ext == ext && x.2.state != 0 && p x.2).map (·.1)

/-- The present slot or span holds an UL entry of the station (R258). -/
def Air.inUl (a : Air) (chain : Fin 2) (i : Nat) : Bool :=
  match a.assign chain.val i with
  | some x => !a.gap && x.ul.any fun e => e.slot == a.spanSlot chain.val && e.falls a.superframe
  | none => false

/-- Contention positions of a SHARED slot or span (R257, R259). -/
def Air.contention (a : Air) (chain : Fin 2) : List Nat :=
  (List.range 4).map fun k =>
    if chain.val = 0 then a.slotStart + 360000 + 32000 * k
    else a.spanStart 1 + 40000 + 2 * a.sfdTime 1 + 2 * a.octet 1 * k

/-- Offset o of an SFD end from the nominal position of R280; none where there is no such position. -/
def Air.offsetOf (a : Air) (chain : Fin 2) (i : Nat) (sfd : Nat) : Option Int :=
  if a.inUl chain i then some ((sfd : Int) - a.nominalSfd chain.val)
  else if a.typeNow chain.val = 4 then
    match (a.contention chain).map fun n => (sfd : Int) - n with
    | x :: t => some (t.foldl (fun b y => if |y| < |b| then y else b) x)
    | [] => none
  else none

/-- W of R280 in ns. -/
def Air.window (a : Air) (chain : Fin 2) (i : Nat) (x : Station) (o : Int) (sfd : Nat) : Nat :=
  let w0 := if chain.val = 0 then 16000 else 40000
  let sleeping := match a.assign chain.val i with
    | some y => y.sleeping
    | none => false
  if sleeping && a.inUl chain i then
    min 240000 (w0 + x.drift.natAbs * (((sfd : Int) - o - x.lastT).toNat) / 100000000)
  else w0

/-- DRIFT after a frame (R280). -/
def Air.driftOf (a : Air) (chain : Fin 2) (i : Nat) (x : Station) (o : Int) (sfd : Nat) : Bool × Int :=
  let sleeping := match a.assign chain.val i with
    | some y => y.sleeping
    | none => false
  if sleeping && a.inUl chain i && x.acked && decide (x.lastT < sfd) then
    let d := Int.tdiv (o * 100000000) ((sfd : Int) - x.lastT)
    (true, clampS 16 (if x.drifted then x.drift + Int.tdiv (d - x.drift) 4 else d))
  else (x.drifted, x.drift)

/-- A frame is a duplicate of a kept one (R274). -/
def Station.isDup (x : Station) (seq sf : Nat) : Bool :=
  x.hist.any fun h => h.1 == seq && decide ((sf % 256 + 256 - h.2) % 256 ≤ 3)

/-- The entry after a frame accepted from it; a new frame enters the history. -/
def State.heardFrom (s : State) (chain : Fin 2) (i : Nat) (x : Rx) (new : Bool) : State :=
  let sleepy := match s.air.assign chain.val i with
    | some y => y.sleepy
    | none => false
  s.modStation chain i fun e =>
    let (sampled, drift) := s.air.driftOf chain i e x.offset x.sfd
    { e with
      channel := if chain.val = 0 then x.channel else 0
      hist := if new then ((x.seq, x.sf % 256) :: e.hist).take 4 else e.hist
      rssi := x.rssi, age := 0, offset := x.offset, lastT := x.sfd, drift := drift, drifted := sampled
      sleepy := sleepy }

/-- A frame accepted without an Enh-Ack (R271, R284, R289). -/
def State.unacked (s : State) (chain : Fin 2) (i : Nat) : State :=
  (s.modAir fun a => { a with late := satAdd 8 a.late 1 }).modStation chain i fun e => { e with acked := false }

/-- The Enh-Ack of a frame, where the unit serves, no burst runs, it ends in time and its class allows;
else the frame is counted LATE (R271, R284, R289). -/
def State.acknowledge (s : State) (chain : Fin 2) (i : Nat) (x : Rx) : State :=
  if !s.serving then s
  else
    let start := x.endT + (if chain.val = 0 then 192000 else 1000000)
    let fin := start + s.air.airTime chain.val 7
    let limit := if chain.val = 0 then x.slotStart + 1960000 else x.slotEnd
    if limit < fin || s.air.bursting start then s.unacked chain i
    else
      let (ok, s) := s.commitFrame chain 1 start (s.air.airTime chain.val 7) 1
      if !ok then s.unacked chain i
      else
        let c := clampTo 2047 (-(Int.tdiv x.offset 1000))
        (s.modStation chain i fun e => { e with acked := true }).onAirAt chain.val x.channel
          (enhAck x.seq (decide (0 < s.pendingOf chain i)) c)

/-- Source kind and uplink queue of a frame (R281). -/
def rxKind (chain : Fin 2) : Nat := 1 + chain.val
def rxQueue (chain : Fin 2) (channel : Nat) : Nat := if chain.val = 0 then 32 + (channel - 11) else 48

/-- The packet of a frame: its descriptor and payload (Table 8-12a). -/
def Rx.packet (x : Rx) : Packet :=
  { level := 0
    bytes := toLE 8 x.ext ++ toLE 4 x.sfd ++ toLE 2 x.station ++ toLE 1 x.rssi ++ toLE 1 x.seq ++ x.payload }

def Rx.word (x : Rx) : Word :=
  pack [(0, 10, x.station), (16, 5, if x.chain = 0 then x.channel - 11 else 16), (21, 1, bit x.isNew),
        (24, 8, leAt x.payload 0 1)]

/-- A frame has a route to the dispatcher. -/
def State.rxRouted (s : State) (x : Rx) : Bool :=
  match s.dsp.running with
  | some c => (c.route (1 + x.chain) x.station).isSome
  | none => false

/-- The arrival queue and the uplink queue take the frame, after those accepted before it and not yet
delivered (R281, Tables 5-11 and 12-1). -/
def State.rxRoom (s : State) (chain : Fin 2) (x : Rx) : Bool :=
  let before := s.air.rx.filter fun y => leAt y.payload 0 1 % 16 != 5
  let ahead := (before.filter fun y => y.chain == x.chain && s.rxRouted y).length
  let queue := fun (y : Rx) => rxQueue (if y.chain = 0 then 0 else 1) y.channel
  let p := before.foldl (fun p y => (Palette.tryPut p (queue y) y.packet).2) s.palette
  (!s.rxRouted x || decide ((s.dsp.arrivalQ (rxKind chain)).items.length + ahead < arrivalDepth (rxKind chain))) &&
  p.admits (rxQueue chain x.channel) x.packet.cells

/-- The packet and the arrival of a frame. -/
def State.deliverRx (s : State) (chain : Fin 2) (x : Rx) : State :=
  let (_, s) := s.putPacket (rxQueue chain x.channel) x.packet
  let s := s.modDsp fun d => (d.arrive (rxKind chain) x.station x.word).2
  s.modAir fun a => { a with accepted := satAdd 16 a.accepted 1 }

/-- A full arrival queue, or else a full uplink queue, counts the frame it refuses (Table 5-11, R375). -/
def State.refuseRx (s : State) (chain : Fin 2) (x : Rx) : State :=
  let q := rxQueue chain x.channel
  if s.rxRouted x && !s.dsp.arrivalRoom (rxKind chain) then
    s.modDsp fun d => (d.arrive (rxKind chain) x.station x.word).2
  else s.modPalette fun p => p.modQ q fun y => { y with full := satAdd 8 y.full 1 }

/-- The first frame accepted from a NEW station's short address makes it KNOWN (Table 8-11). -/
def State.makeKnown (s : State) (chain : Fin 2) (i : Nat) : State :=
  s.modStation chain i fun e => if e.state = 1 then { e with state := 2 } else e

/-- A verified frame of a station entry: duplicate, refused, or accepted. A standby only forwards it
(R274, R281, R289). -/
def State.acceptRx (s : State) (chain : Fin 2) (x : Rx) : State :=
  let e := s.air.station chain x.station
  if e.isDup x.seq x.sf then
    if !s.serving then s
    else
      let s := s.modAir fun a => { a with dup := satAdd 16 a.dup 1 }
      (s.heardFrom chain x.station x false).acknowledge chain x.station x
  else if s.standby then
    ((s.heardFrom chain x.station x true).makeKnown chain x.station).put (.twin (.forward (.frame x)))
  else if !s.serving then s
  else if !s.rxRoom chain x then s.refuseRx chain x
  else
    let s := s.heardFrom chain x.station x true
    let s := s.acknowledge chain x.station x
    (s.makeKnown chain x.station).modAir fun a => { a with rx := a.rx ++ [x] }

/-- Counts of frames dropped. -/
def State.dropBad (s : State) : State := s.modAir fun a => { a with bad := satAdd 8 a.bad 1 }
def State.dropUnknown (s : State) : State := s.modAir fun a => { a with unknown := satAdd 8 a.unknown 1 }

/-- A MIC failure (R294). The payload type is not known under a wrong key: a free value. -/
def State.dropSec (s : State) (chain : Fin 2) (channel i : Nat) : State :=
  let (t, s) := s.draw
  (s.modAir fun a => { a with sec := satAdd 8 a.sec 1 }).emit evSecurityFail chain.val channel i (t % 256)

/-- A frame whose source resolved: verified, checked and accepted. `i` is its index, none of a JOIN
whose address no entry holds. -/
def State.takeFrame (s : State) (chain : Fin 2) (channel sfd rssi : Nat) (len : Nat) (m : Mpdu) (i : Option Nat)
    (ext : Nat) : State :=
  let a := s.air
  let st := i.getD 0xFFFF
  let joins := m.short.isNone
  let fc := frameCounter a.superframe (a.spanSlot chain.val) 0
  match ccmOpen (s.keyOf chain.val st) (nonceOf ext fc 6) m.hdr m.body m.mic with
  | none => s.dropSec chain channel st
  | some b =>
    if !stationPayloadOk joins (decide (st < 256)) b then s.dropBad
    else
      let o := if joins then (if a.typeNow chain.val = 4 then a.offsetOf chain 0xFFFF sfd else none)
        else a.offsetOf chain st sfd
      match o with
      | none => s
      | some o =>
        let e := a.station chain st
        if a.window chain st e o sfd < o.natAbs then s
        else
          let x : Rx :=
            { chain := chain.val, channel := channel, station := st, ext := ext, seq := m.seq, sfd := sfd
              endT := sfd + (phyOctets chain.val + len + 2) * a.octet chain.val - a.sfdTime chain.val
              rssi := rssi, payload := b, sf := a.superframe, slotStart := a.spanStart chain.val
              slotEnd := a.spanEnd chain.val, offset := o, isNew := e.state == 1, forwarded := false }
          if joins then s.modAir fun a => { a with rx := a.rx ++ [x] } else s.acceptRx chain x

/-- A frame of `len` octets whose SFD ended at `sfd` overlaps the blanking of the chain's receiver, from
PA_LEAD before an own transmission to 6 µs after it (R296, Table 9-2). -/
def State.blanked (s : State) (chain : Fin 2) (sfd len : Nat) : Bool :=
  let from' := sfd - s.air.sfdTime chain.val
  let upto := from' + s.air.airTime chain.val len
  s.air.spans[chain].any fun x => decide (x.1 < upto + s.rfb.paLead) && decide (from' < x.2 + 6 * us)

/-- The stamp of the last SFD on a channel of a chain (Table 11-1). -/
def State.sfdStamp (s : State) (chain : Fin 2) (channel : Fin 16) : Nat :=
  if chain.val = 0 then s.tmb.stamps[3 + channel.val].last else s.tmb.stamps[19].last

/-- STATION_FRAME_RECEIVED (R248): the frame of the last SFD stamped on its channel (R355). -/
def execStationFrameReceived (chain : Fin 2) (channel : Fin 16) (rssi : BitVec 8) (mpdu : List Byte) (s : State) :
    Res :=
  let sfd := s.sfdStamp chain channel
  .next (if !s.airOn || s.blanked chain sfd mpdu.length then s
    else
      let ch := if chain.val = 0 then 11 + channel.val else 0
      match parseMpdu s.panId mpdu with
      | none => s.dropBad
      | some m =>
        if m.level ≠ 6 then s.dropBad
        else match m.short with
          | some a =>
            let i := a - 0x100
            let e := s.air.station chain i
            if a < 0x100 ∨ 1024 ≤ i ∨ e.state = 0 ∨ e.state = 3 then s.dropUnknown
            else s.takeFrame chain ch sfd rssi.toNat mpdu.length m (some i) e.ext
          | none =>
            s.takeFrame chain ch sfd rssi.toNat mpdu.length m (s.air.byExt chain m.ext fun _ => true) m.ext)

/-- The first frame of a payload type leaves the list. -/
def State.popRx (s : State) (type : Nat) : Option Rx × State :=
  match s.air.rx.find? fun x => leAt x.payload 0 1 % 16 == type with
  | some x => (some x, s.modAir fun a => { a with rx := a.rx.erase x })
  | none => (none, s)

def chainOf (x : Rx) : Fin 2 := if x.chain = 0 then 0 else 1

/-! ## Reports (R263 to R265) -/

/-- Superframe of the live token a report is under. -/
def State.tokenSf (s : State) (x : Rx) : Option Nat :=
  let tag := leAt x.payload 1 1
  if s.token x.sf % 256 = tag then some x.sf
  else if 0 < x.sf ∧ s.token (x.sf - 1) % 256 = tag then some (x.sf - 1)
  else none

/-- Reports in order of the end of their slot and of the station index (R235). -/
def insertReport (g : GdlReport) : List GdlReport → List GdlReport
  | [] => [g]
  | x :: t =>
    if g.slotEnd < x.slotEnd ∨ (g.slotEnd = x.slotEnd ∧ g.robot < x.robot) then g :: x :: t
    else x :: insertReport g t

/-- The engine's fields of a report (Tables 7-9 and 8-8). -/
def Rx.gdl (x : Rx) : GdlReport :=
  let b := x.payload
  { robot := x.station, tRep := leAt b 2 4, sRep := sleAt b 6 4, eY := sleAt b 10 2, ePsi := sleAt b 12 2
    vRep := sleAt b 14 2, slotStart := x.slotStart, slotEnd := x.slotEnd }

/-- ROBOT_SELF_STOPPED at the first report with the flag after one without it (R294). -/
def State.selfStopped (s : State) (c : CReport) : State :=
  let now := bitsOf c.flags 2 1 == 1
  let was := tblGet (fun _ => false) s.air.selfStopped c.robot
  let s := s.modAir fun a => { a with selfStopped := tblPut (fun _ => false) a.selfStopped c.robot now }
  if now && !was then s.emit evRobotSelfStopped c.robot c.sf c.flags else s

/-- A report and its place on the route go to the engine, the stroke generator and the Canvas; the same in
both units of a pair. -/
def State.takeReport (s : State) (g : Option GdlReport) (c : CReport) : State :=
  let s := s.selfStopped c
  let s := s.modCanvas fun y => { y with reports := y.reports ++ [c] }
  match g with
  | none => s
  | some g =>
    let e := c.epoch
    let s := s.modGdl fun y => { y with reports := insertReport g y.reports }
    s.modStk fun y => { y with inputs := y.inputs ++ [(e, StkInput.report g.robot g.sRep)] }

/-- Square of a position on a robot's route. -/
def State.routeSquare (s : State) (robot : Nat) (pos : Int) : Option Nat :=
  ((tblGet chanDefault s.stk.chans robot).route.bind s.routeOf).bind fun r => r.squareAt pos

/-- REPORT_RECEIVED (R265). -/
def execReportReceived (s : State) : Res :=
  .next (match s.popRx 1 with
    | (none, s) => s
    | (some x, s) =>
      let s := s.deliverRx (chainOf x) x
      match s.air.assign x.chain x.station with
      | none => s
      | some a =>
        let g := x.gdl
        let sq := s.routeSquare x.station g.sRep
        let routed := (tblGet chanDefault s.stk.chans x.station).route.isSome
        let used := bitsOf (leAt x.payload 0 1) 7 1 == 0 && routed
        let c : CReport :=
          { robot := x.station, square := if used then sq else none
            standstill := bitsOf (leAt x.payload 0 1) 4 1 == 1, token := s.tokenSf x, time := s.time
            epoch := s.logEpoch, sf := x.sf, flags := leAt x.payload 0 1 / 16 }
        let g := if used && a.channel == x.channel then some g else none
        (s.logInput (.report g c)).takeReport g c)

/-- UDATA_RECEIVED (R281). -/
def execUdataReceived (s : State) : Res :=
  .next (match s.popRx 6 with
    | (none, s) => s
    | (some x, s) => s.deliverRx (chainOf x) x)

/-! ## JOIN (R276) -/

/-- First index of the learn range. -/
def State.learnBase (s : State) : Nat := s.rf rAirCfg 0 10

/-- Index a JOIN takes and how: 0 held, 1 regained from its tombstone, 2 new; none where the learn
range is full. -/
def State.joinIndex (s : State) (chain : Fin 2) (ext : Nat) : Option (Nat × Nat) :=
  let a := s.air
  match a.byExt chain ext (·.state != 3) with
  | some i => some (i, 0)
  | none => match a.byExt chain ext (·.state == 3) with
    | some i => some (i, 1)
    | none =>
      let range := (List.range 1024).filter fun i => decide (s.learnBase ≤ i)
      match range.find? fun i => (a.station chain i).state == 0 with
      | some i => some (i, 2)
      | none =>
        let old := range.filter fun i => (a.station chain i).state == 3
        match old with
        | [] => none
        | i :: t => some (t.foldl (fun b j =>
            if (a.station chain b).age < (a.station chain j).age then j else b) i, 2)

/-- ASSIGN due to a station that joins, where the plan holds an entry for it (R259). -/
def State.assignDue (s : State) (chain : Fin 2) (i : Nat) : State :=
  match s.air.assign chain.val i, s.air.plan with
  | some x, some p => s.modAir fun a =>
      { a with assignDues := (a.assignDues.filter fun d => !(d.chain == chain.val && d.station == i && !d.next)) ++
        [{ chain := chain.val, station := i, next := false, fromSf := a.superframe % 65536
           version := planVersion p, body := x.body }] }
  | _, _ => s

/-- JOIN_RECEIVED (R276): a JOIN that has been verified. -/
def execJoinReceived (s : State) : Res :=
  .next (match s.popRx 5 with
    | (none, s) => s
    | (some x, s) =>
      let chain := chainOf x
      match s.joinIndex chain x.ext with
      | none => if x.forwarded then s else s.emit evLearnFull x.chain x.channel (x.ext % 2 ^ 32) (x.ext / 2 ^ 32)
      | some (i, how) =>
        let x := { x with station := i }
        let e := s.air.station chain i
        if how = 0 && e.isDup x.seq x.sf then
          if !s.serving || x.forwarded then s
          else
            let s := s.modAir fun a => { a with dup := satAdd 16 a.dup 1 }
            (s.heardFrom chain i x false).acknowledge chain i x
        else
          let x := { x with isNew := decide (how ≠ 0 ∨ e.state = 1) }
          let learn := fun (s : State) =>
            if how = 0 then s
            else
              (s.modStation chain i fun _ => { Station.empty with ext := x.ext, state := 1 }).emit evStationLearned
                (x.chain + 2 ^ 31 * bit (how = 1)) i (x.ext % 2 ^ 32) (x.ext / 2 ^ 32)
          if s.standby then
            ((learn s).heardFrom chain i x true).put (.twin (.forward (.frame x)))
          else if !s.serving then s
          else if !s.rxRoom chain x then s.refuseRx chain x
          else
            let s := (learn s).heardFrom chain i x true
            let s := if x.forwarded then s.unacked chain i else s.acknowledge chain i x
            (s.deliverRx chain x).assignDue chain i)

/-! ## Imm-Acks (R272) -/

/-- An Imm-Ack within the turnaround window of a frame. -/
def TxFrame.acked (f : TxFrame) (chain channel seq t : Nat) : Bool :=
  let n : Int := f.endT + (if chain = 0 then 192000 else 1000000)
  f.chain == chain && f.channel == channel && f.seq == seq &&
  decide (|(t : Int) - n| ≤ (if chain = 0 then 16000 else 40000))

/-- What an acknowledged device frame carried is delivered; the same in both units of a pair (R420). -/
def State.ackFrame (s : State) : TxKind → State
  | .grant r g => s.ackGrant r g
  | .assign c i => s.modAir fun a =>
    { a with assignDues := a.assignDues.eraseP fun d => d.chain == c && d.station == i }
  | .other => s

/-- A frame counts as acknowledged. -/
def State.immAck (s : State) (chain channel seq t : Nat) : State :=
  match s.air.onAir.find? fun f => f.acked chain channel seq t with
  | none => s
  | some f =>
    let s := s.modAir fun a => { a with onAir := a.onAir.erase f }
    (s.logInput (.ack f.kind)).ackFrame f.kind

/-- IMM_ACK_RECEIVED: a standby forwards it (R289). -/
def execImmAckReceived (chain : Fin 2) (channel : Fin 16) (seq : Byte) (t : Nat) (s : State) : Res :=
  .next (
    let ch := if chain.val = 0 then 11 + channel.val else 0
    if !s.airOn then s
    else if s.standby then s.put (.twin (.forward (.immAck chain.val ch seq.toNat t)))
    else s.immAck chain.val ch seq.toNat t)

/-- A frame or Imm-Ack the standby heard: the active takes it as received now, without Enh-Ack; one it
has heard itself is discarded (R289, R292). A JOIN finds its index when it is taken (R276). -/
def State.takeForward (s : State) (h : Heard) : State :=
  if !s.serving then s
  else match h with
    | .immAck c ch q t => s.immAck c ch q t
    | .frame x =>
      let chain := chainOf x
      let a := s.air
      let x := { x with
        sf := a.superframe, slotStart := a.spanStart x.chain, slotEnd := a.spanEnd x.chain, forwarded := true }
      let e := a.station chain x.station
      if leAt x.payload 0 1 % 16 = 5 then s.modAir fun a => { a with rx := a.rx ++ [x] }
      else if e.isDup x.seq x.sf || !s.rxRoom chain x then s
      else
        let x := { x with isNew := e.state == 1 }
        let s := s.modStation chain x.station fun e =>
          { e with hist := ((x.seq, x.sf % 256) :: e.hist).take 4, age := 0 }
        ((s.unacked chain x.station).makeKnown chain x.station).modAir fun a => { a with rx := a.rx ++ [x] }

/-! ## Station tables (R276, R277, R279) -/

/-- STATION_AGED: an unprovisioned entry has reached AGE LIMIT. -/
def execStationAged (chain : Fin 2) (station : Fin 1024) (s : State) : Res :=
  .next (
    let e := s.air.station chain station
    if (e.state = 1 ∨ e.state = 2) ∧ !e.provisioned ∧ s.rf rAirAge 0 16 ≤ e.age then
      (s.modStation chain station fun e => { Station.empty with ext := e.ext, state := 3 }).emit evStationAged
        chain.val station.val (e.ext % 2 ^ 32) (e.ext / 2 ^ 32)
    else s)

/-- The entry AIR_ST_IDX selects. -/
def State.stIdx (s : State) : Fin 2 × Nat := (if s.rbit rAirStIdx 31 then 1 else 0, s.rf rAirStIdx 3 10)

/-- PROVISION: the entry and its copy in the configuration area (R276, R279). -/
def execProvision (s : State) : Res :=
  .next (s.asRole 2 fun s =>
    let (chain, i) := s.stIdx
    let ext := s.reg rAirStExt
    (s.modStation chain i fun e => { e with ext := ext, state := 2, provisioned := true }).modAir fun a =>
      { a with provCopy := tblPut (fun _ => 0) a.provCopy (chain.val * 1024 + i) ext })

/-- STATION_CLEAR. -/
def execStationClear (s : State) : Res :=
  .next (s.asRole 2 fun s =>
    let (chain, i) := s.stIdx
    (s.modStation chain i fun _ => Station.empty).modAir fun a =>
      { a with provCopy := tblPut (fun _ => 0) a.provCopy (chain.val * 1024 + i) 0 })

/-- TOMBSTONE. -/
def execTombstone (s : State) : Res :=
  .next (s.asRole 2 fun s =>
    let (chain, i) := s.stIdx
    s.modStation chain i fun e =>
      if (e.state = 1 ∨ e.state = 2) ∧ !e.provisioned then { Station.empty with ext := e.ext, state := 3 } else e)

/-- An entry with an uncorrectable word is rebuilt (R279). -/
def State.scrubEntry (s : State) (chain : Fin 2) (i : Nat) (m : Ecc) (extOk : Bool) : State :=
  if m ≠ .uncorrectable then s
  else
    let e := s.air.station chain i
    let (new, how) : Station × Nat :=
      if e.provisioned then
        ({ Station.empty with ext := tblGet (fun _ => 0) s.air.provCopy (chain.val * 1024 + i)
                              state := 2, provisioned := true }, 0)
      else if extOk then ({ Station.empty with ext := e.ext, state := 3 }, 1)
      else (Station.empty, 2)
    (s.modStation chain i fun _ => new).emit evStationEcc chain.val i how

/-- STATION_SCRUB: the next entry of each chain. -/
def execStationScrub (m24 mSub : Ecc) (ext24 extSub : Bool) (s : State) : Res :=
  let i := s.air.scrubAt
  let s := s.modAir fun a => { a with scrubAt := (i + 1) % 1024 }
  .next ((s.scrubEntry 0 i m24 ext24).scrubEntry 1 i mSub extSub)

/-! ## Keys (R249) -/

/-- AIR_KEY_CTL_WRITE. -/
def execAirKeyCtlWrite (w : Word) (s : State) : Res :=
  .next (s.asRole 2 fun s => s.modAir fun a =>
    { a with keyKind := fieldOf w 8 2, keyRobot := fieldOf w 0 8, keyWords := [] })

/-- The key AIR_KEY_CTL selects. -/
def Air.storeKey (a : Air) (k : List Byte) : Air :=
  match a.keyKind with
  | 0 => { a with kFleet := k }
  | 1 => { a with kField := k }
  | 2 => { a with kLink := tblPut zeroKeyAt a.kLink a.keyRobot k }
  | _ => a

/-- AIR_KEY_DATA_WRITE: words after the fourth wait for a new AIR_KEY_CTL write. -/
def execAirKeyDataWrite (w : Word) (s : State) : Res :=
  .next (s.asRole 2 fun s => s.modAir fun a =>
    if 4 ≤ a.keyWords.length then a
    else
      let a := { a with keyWords := a.keyWords ++ [w] }
      if a.keyWords.length = 4 then a.storeKey (wordBytes a.keyWords) else a)

/-! ## Stop bursts (R283, R284, R287, R288) -/

/-- Start of the next repetition of a chain: none where the burst sends no more there. -/
def Burst.next (b : Burst) (chain : Fin 2) : Option Nat :=
  if chain.val = 0 then
    if 8 ≤ b.done24 then none else some (b.t0 + 5 * ms * b.done24 + b.echo)
  else
    if 8 ≤ b.doneSub then none
    else some (max (b.t0 + 5 * ms * b.doneSub) (if b.doneSub = 0 then b.subEnd else b.subEnd + 200000))

/-- One repetition goes out on a chain from time `t`; a silent chain sends none (R297). -/
def State.repeatStop (s : State) (chain : Fin 2) (b : Burst) (t : Nat) : State :=
  let mpdu := if b.mpdu = [] then s.stopMpdu b.dsn b.num b.frame else b.mpdu
  let dur := s.air.airTime chain.val mpdu.length
  let (ok, s) := s.commitFrame chain 0 t dur (if chain.val = 0 then 4 else 1)
  let g := (b.g1 + b.done24) % 4
  let s := if !ok then s
    else if chain.val = 0 then [0, 1, 2, 3].foldl (fun s c => s.onAirAt 0 (11 + 4 * g + c) mpdu) s
    else s.onAirAt 1 0 mpdu
  let b := if chain.val = 0 then { b with mpdu := mpdu, done24 := b.done24 + 1, end24 := t + dur }
    else { b with mpdu := mpdu, doneSub := b.doneSub + 1, subEnd := t + dur }
  s.modAir fun a => { a with burst := some b, burstEnd := max a.burstEnd (t + dur) }

/-- STOP_REPETITION: the next repetition of a chain, once its time has come. -/
def execStopRepetition (chain : Fin 2) (s : State) : Res :=
  .next (match s.air.burst with
    | none => s
    | some b =>
      if chain.val == 1 && s.subSilent then s.endBurst
      else match b.next chain with
        | none => s.endBurst
        | some t => if s.time < t then s else s.repeatStop chain b t)

/-! ## Twin echo (R285, R286) -/

/-- The pair enters echo mode, where it was aligned. -/
def State.enterEcho (s : State) : State :=
  if s.air.echo then s.modAir fun a => { a with agreeSince := none }
  else (s.modAir fun a => { a with echo := true, agreeSince := none }).emit evTwinEcho 1 (s.tmb.theta.natAbs / 10)

/-- ECHO_EXIT: the agreement has held within 100 ns for 10 s. -/
def execEchoExit (s : State) : Res :=
  .next (match s.air.agreeSince with
    | some t =>
      if s.air.echo && s.twin.link != 0 && decide (t + 10 * second ≤ s.time) then
        (s.modAir fun a => { a with echo := false }).emit evTwinEcho 0 (s.tmb.theta.natAbs / 10)
      else s
    | none => s)

end Sys2Proof.Machine
end

