-- ==== Sys2Proof/Machine/Fabric.lean ====
section
/-! DEFINITION. The timing fabric: late-epoch policy, admission, the Craquelure monitor, adaptive rails
and skew (R39 to R68). -/

namespace Sys2Proof.Machine

/-! ## Speed classes (R40, R42) -/

/-- Contract rate of a class code 1 to 4, in 0.1 M steps/s (Table 2-2). -/
def contractRate (cls : Nat) : Nat := (250 + 50 * cls) * 10

/-- A Cartoon runs. -/
def Dsp.active (d : Dsp) : Bool := d.mode != .empty

/-- Target class of a region: the running Cartoon's, S400 with none running. -/
def State.classOf (s : State) (n : Fin 4) : Nat :=
  match s.dsp.running with
  | some c => if s.dsp.active then c.classes.getD n 3 else 3
  | none => 3

/-- Target rate (R42), rounded down to 0.1 M steps/s where GUARD makes it no whole number of them: DESIGN
CHOICE, log entry 59; the same rounding holds for CAP. -/
def State.target (s : State) (n : Fin 4) : Nat := contractRate (s.classOf n) * (1000 + s.tfc.guard) / 1000

def State.region (s : State) (n : Fin 4) : Region := s.tfc.regions[n]

def State.modRegion (s : State) (n : Fin 4) (f : Region → Region) : State :=
  s.modTfc fun t => { t with regions := t.regions.set n (f t.regions[n]) }

/-! ## Admission (R49) -/

/-- Bits of ADMIT_CAUSE: 0 LATE, 1 BREACH, 2 SKEW, 3 AVS_FAULT. -/
def Tfc.causes (t : Tfc) : Nat :=
  packNat [(0, 1, bit t.lateCause), (1, 1, bit (t.regions.any (·.breach))),
    (2, 1, bit (t.pairs.any (·.skew))), (3, 1, bit (t.regions.any (·.avsFault)))]

/-- Number of the cause that cleared last: the bit of TFC_STATUS, or 16 the power hold. -/
def lastCause (causes : Nat) (hold : Bool) : Nat := if hold then 16 else 12 + Nat.log2 causes

/-- A change of admission enters the input log of an active, and its own deterministic plane; a
standby's plane takes the logged one (R419). -/
def State.setAdmission (s : State) (closed : Bool) : State :=
  let s := s.logInput (.admission closed)
  if s.standby then s else s.modCanvas fun c => { c with admitShut := closed }

/-- A cause or the hold has set or cleared: ADMIT_CLOSED follows, and a change is recorded. -/
def State.recause (s : State) : State :=
  let t := s.tfc
  let c := t.causes
  let closed := c != 0 || s.pwr.hold
  let s := s.modTfc fun t =>
    { t with admitCause := c, admitHold := s.pwr.hold, admitClosed := closed
             closedAt := if closed && !t.admitClosed then s.now else t.closedAt }
  if closed && !t.admitClosed then (s.setAdmission true).emit evAdmissionClosed c (bit s.pwr.hold)
  else if t.admitClosed && !closed then
    (s.setAdmission false).emit evAdmissionReopened ((s.now - t.closedAt) / ms)
      (lastCause t.admitCause t.admitHold)
  else s

/-! ## The epoch's deadline and the late-epoch policy (R43 to R50) -/

/-- Corrected time of the deadline; a standby judges 20 µs later (R43, R422). -/
def State.deadline (s : State) : Nat :=
  s.epoch.nominal + 9 * s.epoch.length / 10 + (if s.standby then 20 * us else 0)

/-- The active closes the log of the epoch (R420). -/
def State.closeLog (s : State) : State :=
  if s.twin.state = .active then
    (s.modTwin fun t => { t with closeSent := some (s.epoch.n, s.now), closedUpTo := some s.epoch.n }).put
      (.twin (.logClose s.epoch.n))
  else if s.standby then s
  else s.modTwin fun t => { t with closedUpTo := some s.epoch.n }

/-- Regions with work past the deadline: those of the Easels that have a task of the epoch in service or
waiting, and SR4 for an output. A waiting task of a POOLED Cartoon is in no region yet. -/
def State.pastRegions (s : State) : Nat :=
  let mine := fun (t : TaskCtx) => t.epoch == s.epoch.n
  let busy := (List.finRange 8).foldl (fun m (k : Fin 8) =>
    if s.easels[k].inService.any mine then m ||| regionBit k else m) 0
  let waiting := match s.dsp.running with
    | some c =>
      if c.pooled then 0
      else s.dsp.released.foldl (fun m r =>
        if r.epoch = s.epoch.n then m ||| regionBit (s.flowEasel (s.flowOf r.task)) else m) 0
    | none => 0
  busy ||| waiting ||| (if s.epoch.outLate || s.trimsOwed s.epoch.nominal then 8 else 0)

/-- The count of an epoch judged late: the answers of the policy are withheld in test mode. -/
def State.judgedLate (s : State) : State :=
  let s := s.modTfc fun t =>
    let c := satAdd 7 t.consec 1
    { t with consec := c, total := satAdd 24 t.total 1, onTime := 0, sinceLate := 0
             lates := t.lates ++ [{ n := s.epoch.n, boundary := s.epoch.nominal, count := c, deadline := s.now,
                                    regions := s.pastRegions }] }
  s.lateCheck

def State.judgedOnTime (s : State) : State :=
  s.modTfc fun t => { t with consec := 0, onTime := t.onTime + 1, sinceLate := t.sinceLate + 1
                             stopRaised := false }

/-- EPOCH_DEADLINE (R43, R44). The epoch's work is what its operands came before its boundary for: its tasks,
the trims of the reports before it, and the outputs whose phase has come. A swap epoch is never late
(R156). -/
def execEpochDeadline (s : State) : Res :=
  .next (if !s.awake || !s.epoch.begun || s.epoch.judged || decide (s.time < s.deadline) then s
    else
      let late := !s.dsp.inSwapEpoch &&
        (s.workOf s.epoch.n || s.epoch.outLate || s.trimsOwed s.epoch.nominal)
      let s := (s.modEpoch fun e => { e with judged := true, late := late }).closeLog
      let s := if late then s.judgedLate else s.judgedOnTime
      s.modEpoch fun e => { e with outLate := false })

/-- ADMIT_N_REACHED. -/
def execAdmitNReached (s : State) : Res :=
  .next (if s.dsp.mode = .test ∨ s.tfc.lateCause ∨ s.tfc.consec < s.tfc.admitN then s
    else (s.modTfc fun t => { t with lateCause := true }).recause)

/-- STOP_N_REACHED: once in a run of late epochs. -/
def execStopNReached (s : State) : Res :=
  .next (if s.dsp.mode = .test ∨ s.tfc.stopRaised ∨ s.tfc.consec < s.tfc.stopN then s
    else (s.modTfc fun t => { t with stopRaised := true }).raiseOwn 5)

/-- LATENESS_CLEARED. -/
def execLatenessCleared (s : State) : Res :=
  .next (if s.tfc.lateCause && decide (s.tfc.reopenN ≤ s.tfc.onTime) then
      (s.modTfc fun t => { t with lateCause := false }).recause
    else s)

/-- TFC_POLICY is in range (R48). -/
def policyOk (reopen stop lo : Nat) : Bool :=
  decide (10 ≤ reopen) && decide (reopen ≤ 1000) && decide (4 ≤ stop) && decide (stop ≤ 64) &&
  decide (1 ≤ lo) && decide (lo ≤ 8) && decide (lo < stop)

/-- TFC_POLICY_WRITE. -/
def execTfcPolicyWrite (w : Word) (s : State) : Res :=
  let r := fieldOf w 16 16
  let p := fieldOf w 8 7
  let a := fieldOf w 0 4
  .next (s.asRole 2 fun s =>
    if policyOk r p a then s.modTfc fun t => { t with reopenN := r, stopN := p, admitN := a }
    else s.modTfc fun t => { t with cfgErr := true })

/-! ## The baseline and the margin plan (R54 to R57) -/

/-- Junction temperatures of the grid in °C. -/
def gridTemp (j : Nat) : Int := [-40, 0, 40, 85, 115].getD j 115

/-- The grid interval that holds a temperature. -/
def tempIdx (t : Int) : Nat := if t < 0 then 0 else if t < 40 then 1 else if t < 85 then 2 else 3

/-- R_base(V, T), interpolated bilinearly and rounded down, with V and T brought into the grid. -/
def baseRate (n : Nat) (mv : Nat) (temp : Int) : Nat :=
  let v := max 600 (min mv 900)
  let t := max (-40) (min temp 115)
  let i := min 5 ((v - 600) / 50)
  let j := tempIdx t
  let fv := v - 600 - 50 * i
  let ft := (t - gridTemp j).toNat
  let wt := (gridTemp (j + 1) - gridTemp j).toNat
  let at_ (j : Nat) : Nat := Config.baseline n i j * (50 - fv) + Config.baseline n (i + 1) j * fv
  (at_ j * (wt - ft) + at_ (j + 1) * ft) / (50 * wt)

/-- Smoothed drift in ppm. -/
def Region.ppm (r : Region) : Int := sar r.drift 40

/-- R_base(V, TDESIGN) × (1 − D) reaches a rate. -/
def reaches (base rate : Nat) (ppm : Int) : Bool := decide ((rate : Int) * 1000000 ≤ base * (1000000 - ppm))

/-- RAIL_DESIGN. -/
def railDesignOf (n : Nat) (tdesign target : Nat) (ppm : Int) : Nat :=
  match (List.range 301).find? fun i => reaches (baseRate n (600 + i) tdesign) target ppm with
  | some i => 600 + i
  | none => 0xFFF

/-- DAYS_LEFT: x_c = (1 − target ÷ R_base) ÷ c in thousandths, h_c its fourth power. -/
def daysLeftOf (base target hours : Nat) (sumXD : Int) (sumXX : Nat) : Nat :=
  let d : Int := 1000000 - ((target * 1000000 / base : Nat) : Int)
  if sumXD ≤ 0 then 0xFFFF
  else if d ≤ 0 then 0
  else
    let x := (d * sumXX / sumXD).toNat
    let h := x ^ 4 / 10 ^ 12
    if h ≤ hours then 0
    else if 65534 < (h - hours) / 24 then 0xFFFF else (h - hours) / 24

/-- CAP: none with 4 or more chains excluded (R51, R56). -/
def Region.capOf (r : Region) (n : Nat) (tdesign guard : Nat) : Nat :=
  if 4 ≤ (r.chains.toList.filter (·.out)).length then 0
  else ([4, 3, 2, 1].find? fun c =>
    reaches (baseRate n 900 tdesign) (contractRate c * (1000 + guard) / 1000) r.ppm).getD 0

/-- h^0.25 in thousandths, rounded down. -/
def rootHours (h : Nat) : Nat := isqrt (isqrt (h * 10 ^ 12))

/-- The daily sample of one region enters the sums of R55. -/
def Region.sample (r : Region) (hours : Nat) : Region :=
  let x := rootHours hours
  { r with sumXD := r.sumXD + x * r.ppm, sumXX := r.sumXX + x * x }

def Region.plan (r : Region) (n : Nat) (t : Tfc) (target : Nat) : Region :=
  { r with cap := r.capOf n t.tdesign t.guard
           railDesign := railDesignOf n t.tdesign target r.ppm
           daysLeft := daysLeftOf (baseRate n 900 t.tdesign) target t.hours r.sumXD r.sumXX }

/-- The margin plan of a region is made and recorded; PLAN_WARN follows once per plan. -/
def State.marginPlan (s : State) (n : Fin 4) : State :=
  let s := s.modRegion n fun r => (r.sample s.tfc.hours).plan n s.tfc (s.target n)
  let r := s.region n
  let s := s.emit evMarginPlan (n + 1) r.daysLeft r.railDesign (codeOf 24 r.ppm)
  if r.daysLeft < 10 * s.tfc.planWarn then s.emit evPlanWarn (n + 1) r.daysLeft r.cap else s

def Region.planCopy (r : Region) : PlanCopy :=
  { cap := r.cap, railDesign := r.railDesign, daysLeft := r.daysLeft, sumXD := r.sumXD, sumXX := r.sumXX }

/-- DAILY_SAMPLE, after 24 h awake since the last one or since the boot (log entry 59). The hours, the sums and
the plans take their turn for flash. -/
def execDailySample (s : State) : Res :=
  .next (if !s.awake || !s.past s.tfc.dayAt (86400 * second) then s
    else
      let s := s.modTfc fun t => { t with dayAt := s.now, hours := t.hours + 24 }
      let s := (List.finRange 4).foldl State.marginPlan s
      s.flashWrite (.plan s.tfc.hours (s.tfc.regions.toList.map Region.planCopy)))

/-- CAP_REFRESH. -/
def execCapRefresh (s : State) : Res :=
  .next (if !s.awake || !s.past s.tfc.capAt second then s
    else
      let s := s.modTfc fun t => { t with capAt := s.now }
      (List.finRange 4).foldl
        (fun s n => s.modRegion n fun r => { r with cap := r.capOf n s.tfc.tdesign s.tfc.guard }) s)

/-! ## Measurement (R51 to R53) -/

def insertN (x : Nat) : List Nat → List Nat
  | [] => [x]
  | y :: t => if x ≤ y then x :: y :: t else y :: insertN x t

/-- Median: of an even number of values, the mean of the middle two, rounded down. -/
def medianN (l : List Nat) : Nat :=
  let m := l.foldr insertN []
  if m.length % 2 = 1 then m.getD (m.length / 2) 0
  else (m.getD (m.length / 2 - 1) 0 + m.getD (m.length / 2) 0) / 2

/-- Rates of the chains in use. -/
def Region.inUse (r : Region) (rates : Vector Nat 16) : List Nat :=
  (List.finRange 16).filterMap fun (i : Fin 16) => if r.chains[i].out then none else some rates[i]

/-- Deviation of a chain in 0.1 %. -/
def devOf (rate median : Nat) : Nat :=
  (if rate ≤ median then median - rate else rate - median) * 1000 / max 1 median

def Region.watchChains (r : Region) (rates : Vector Nat 16) (m : Nat) : Region :=
  { r with chains := Vector.ofFn fun (i : Fin 16) =>
      let c := r.chains[i]
      let far : Bool := decide (5 * m < 100 * (if rates[i] ≤ m then m - rates[i] else rates[i] - m))
      { c with dev := devOf rates[i] m, bad := if far then c.bad + 1 else 0 } }

/-- Median of the other three sensors. -/
def otherMedian (l : List Int) : Int :=
  match l with
  | [a, b, c] => max (min a b) (min (max a b) c)
  | _ => 0

def Region.others (r : Region) (i : Fin 4) : List Int :=
  (List.finRange 4).filterMap fun (j : Fin 4) => if j = i then none else some r.sensors[j].temp

def Region.sensorDev (r : Region) (i : Fin 4) : Nat := (r.sensors[i].temp - otherMedian (r.others i)).natAbs

/-- New readings; a sensor beyond 10 °C is timed (R52). -/
def Region.readTemps (r : Region) (temps : Vector (BitVec 8) 4) (now : Nat) : Region :=
  let r := { r with sensors := Vector.ofFn fun (i : Fin 4) => { r.sensors[i] with temp := temps[i].toInt } }
  { r with sensors := Vector.ofFn fun (i : Fin 4) =>
      let x := r.sensors[i]
      { x with since := if 10 < r.sensorDev i then some (x.since.getD now) else none } }

/-- Temperature of a region (R52). -/
def Region.temp (r : Region) (tdesign : Nat) : Int :=
  let on := r.sensors.toList.filter fun x => !x.out
  if on.length ≤ 2 then tdesign else (on.map (·.temp)).foldl max (-128)

/-- The readback, and since when it has been off by more than 20 mV (R59). -/
def Region.readRail (r : Region) (mv now : Nat) : Region :=
  let off := r.railSet != 0 && decide (20 < max mv r.railSet - min mv r.railSet)
  { r with railRead := mv, avsSince := if off then some (r.avsSince.getD now) else none }

/-- The rail: during an AVS fault, and until a value has been written, the last readback (R58, R59). -/
def Region.rail (r : Region) : Nat := if r.avsFault || r.railSet == 0 then r.railRead else r.railSet

/-! ## Neighbours (R62, R63) -/

/-- Regions of a pair: SR1–SR2, SR1–SR3, SR2–SR3, SR3–SR4. -/
def pairOf (p : Fin 4) : Fin 4 × Fin 4 :=
  match p with
  | 0 => (0, 1)
  | 1 => (0, 2)
  | 2 => (1, 2)
  | 3 => (2, 3)

def State.railDiff (s : State) (p : Fin 4) : Nat :=
  let a := (s.region (pairOf p).1).railRead
  let b := (s.region (pairOf p).2).railRead
  max a b - min a b

def State.tempDiff (s : State) (p : Fin 4) : Nat :=
  ((s.region (pairOf p).1).temp s.tfc.tdesign - (s.region (pairOf p).2).temp s.tfc.tdesign).natAbs

/-- Times beyond and within the limits of a pair (R63). -/
def State.watchPair (s : State) (p : Fin 4) : State :=
  let bad := decide (150 < s.railDiff p) || decide (30 < s.tempDiff p)
  s.modTfc fun t =>
    let x := t.pairs[p]
    { t with pairs := t.pairs.set p { x with
        badSince := if bad then some (x.badSince.getD s.now) else none
        okSince := if bad then none else some (x.okSince.getD s.now) } }

def State.watchPairs (s : State) : State := (List.finRange 4).foldl State.watchPair s

/-! ## Rails (R58, R62, R63) -/

/-- A Voltage write: the window in progress is disturbed (R53). -/
def State.setRail (s : State) (n : Fin 4) (mv : Nat) : State :=
  if (s.region n).railSet = mv then s
  else (s.modRegion n fun r => { r with railSet := mv, disturbed := true }).put (.avs (n + 1) mv)

/-- The lower rail of a pair more than 140 mV apart is raised by the difference, once all the rails
are as `goal` has them. -/
def closeUp (goal : Vector Nat 4) (p : Fin 4) : Vector Nat 4 :=
  let a := goal[(pairOf p).1]
  let b := goal[(pairOf p).2]
  if a + 140 < b then goal.set (pairOf p).1 (b - 140)
  else if b + 140 < a then goal.set (pairOf p).2 (a - 140)
  else goal

def closeAll (goal : Vector Nat 4) : Vector Nat 4 :=
  (List.range 4).foldl (fun g _ => (List.finRange 4).foldl closeUp g) goal

def State.rails (s : State) : Vector Nat 4 := Vector.ofFn fun (n : Fin 4) => (s.region n).rail

/-- Regions in ascending order of their rails. -/
def insertRail (rails : Vector Nat 4) (n : Fin 4) : List (Fin 4) → List (Fin 4)
  | [] => [n]
  | m :: t => if rails[n] ≤ rails[m] then n :: m :: t else m :: insertRail rails n t

def railOrder (rails : Vector Nat 4) : List (Fin 4) := (List.finRange 4).foldr (insertRail rails) []

/-- The rails move to `goal`, the lowest first, so that a lower neighbour is raised before the higher
one (R62). -/
def State.setRails (s : State) (goal : Vector Nat 4) : State :=
  (railOrder s.rails).foldl (fun s n => if (s.region n).rail = goal[n] then s else s.setRail n goal[n]) s

/-- Raise a rail by 10 mV, at most once per 100 µs, its neighbours first (R58, R62). -/
def State.raiseRail (s : State) (n : Fin 4) : State :=
  let r := s.region n
  let free := match r.lastRaise with
    | some t => s.past t (100 * us)
    | none => true
  if !free || decide (900 ≤ r.rail) then s
  else
    let goal := closeAll (s.rails.set n (min 900 (max 600 (r.rail + 10))))
    (s.setRails goal).modRegion n fun r => { r with lastRaise := some s.now }

/-- A rail 10 mV nearer to a mean, inside the floor and the ceiling. -/
def railToward (mean v : Nat) : Nat :=
  max 600 (min 900 (if v < mean then min mean (v + 10) else max mean (v - 10)))

/-- SKEW of a pair drives both rails to their mean, 10 mV per 100 µs (R63). The limit of R62 holds: a third
neighbour more than 140 mV away holds a rail back (log entry 59). -/
def State.driveSkew (s : State) (p : Fin 4) : State :=
  let x := s.tfc.pairs[p]
  if !s.awake || !x.skew || !s.past x.driveAt (100 * us) then s
  else
    let (a, b) := pairOf p
    let va := (s.region a).rail
    let vb := (s.region b).rail
    let mean := (va + vb) / 2
    let goal := closeAll ((s.rails.set a (railToward mean va)).set b (railToward mean vb))
    (s.setRails goal).modTfc fun t => { t with pairs := t.pairs.set p { t.pairs[p] with driveAt := s.now } }

/-- Every skewed pair, from the clock. -/
def State.driveSkews (s : State) : State := (List.finRange 4).foldl State.driveSkew s

def State.inSkew (s : State) (n : Fin 4) : Bool :=
  (List.finRange 4).any fun (p : Fin 4) => s.tfc.pairs[p].skew && (n = (pairOf p).1 || n = (pairOf p).2)

/-! ## Windows (R51, R53, R58) -/

/-- The drift filter: time constant 1 h, one window's step (R54). -/
def Region.smooth (r : Region) (rate base : Nat) : Region :=
  if base = 0 then r
  else
    let d : Int := (1000000 - ((rate * 1000000 / base : Nat) : Int)) * 2 ^ 40
    { r with drift := r.drift + divRound ((d - r.drift) * 131072) (3600 * second) }

/-- What a kept window shows. -/
def Region.kept (r : Region) (rate target contract hyst now : Nat) : Region :=
  let ok := decide (target ≤ rate)
  let high := decide (target * (1000 + hyst) < 1000 * rate)
  { r with rate := rate
           lowRun := if ok then 0 else r.lowRun + 1
           breachRun := if rate < contract then r.breachRun + 1 else 0
           goodRun := if ok then r.goodRun + 1 else 0
           goodSince := if ok then some (r.goodSince.getD now) else none
           highSince := if high then some (r.highSince.getD now) else none }

/-- MONITOR_WINDOW_END of a region: scaled chain rates, sensors and readback are read. A disturbed
window is discarded. While SKEW of a pair drives the rail, a kept window below target raises it not: the
spec does not say which rule wins (DESIGN CHOICE, log entry 59). -/
def execMonitorWindowEnd (n : Fin 4) (rates : Vector (BitVec 16) 16) (temps : Vector (BitVec 8) 4)
    (read : BitVec 12) (s : State) : Res :=
  let rs : Vector Nat 16 := rates.map (·.toNat)
  .next (if !s.awake then s
    else
      let s := s.modRegion n fun r => (r.readTemps temps s.now).readRail read.toNat s.now
      let s := s.watchPairs
      let r := s.region n
      if r.disturbed then s.modRegion n fun r => { r with disturbed := false }
      else
        let m := medianN (r.inUse rs)
        let s := s.modRegion n fun r =>
          ((r.watchChains rs m).kept m (s.target n) (contractRate (s.classOf n)) s.tfc.hyst s.now).smooth m
            (baseRate n r.railRead (r.temp s.tfc.tdesign))
        if m < s.target n ∧ !s.inSkew n then s.raiseRail n else s)

/-- CHAIN_EXCLUDED. -/
def execChainExcluded (n : Fin 4) (i : Fin 16) (s : State) : Res :=
  let c := (s.region n).chains[i]
  .next (if !s.awake ∨ c.out ∨ c.bad < 8 then s
    else (s.modRegion n fun r =>
        let r := { r with chains := r.chains.set i { c with out := true } }
        { r with cap := if 4 ≤ (r.chains.toList.filter (·.out)).length then 0 else r.cap }).emit
      evMonitorSensorFault (n + 1) 0 i c.dev)

/-- SENSOR_EXCLUDED. -/
def execSensorExcluded (n i : Fin 4) (s : State) : Res :=
  let x := (s.region n).sensors[i]
  .next (match x.since with
    | some t =>
      if s.awake && !x.out && s.past t second then
        (s.modRegion n fun r => { r with sensors := r.sensors.set i { x with out := true } }).emit
          evMonitorSensorFault (n + 1) 1 i ((s.region n).sensorDev i)
      else s
    | none => s)

/-- READY_SET. -/
def execReadySet (s : State) : Res :=
  .next (if s.awake && s.tfc.regions.all fun r => decide (10 ≤ r.goodRun) then
      s.modTfc fun t => { t with ready := true } else s)

/-- RAIL_LOWER: not below the floor, nor more than 140 mV below a neighbour, nor while SKEW drives
the rail. -/
def execRailLower (n : Fin 4) (s : State) : Res :=
  let r := s.region n
  let free := match r.lastLower with
    | some t => s.past t second
    | none => true
  let due := match r.highSince with
    | some t => s.past t second
    | none => false
  let goal := s.rails.set n (r.rail - 5)
  .next (if s.awake && free && due && decide (605 ≤ r.rail) && closeAll goal == goal && !s.inSkew n then
      (s.setRail n (r.rail - 5)).modRegion n fun r => { r with lastLower := some s.now }
    else s)

/-! ## AVSBus faults (R59) -/

/-- AVS_FAULT: a write not acknowledged, or a readback off for 1 ms. -/
def execAvsFault (n : Fin 4) (nack : Bool) (status : BitVec 16) (s : State) : Res :=
  let r := s.region n
  let off := match r.avsSince with
    | some t => s.past t ms
    | none => false
  .next (if !s.awake || r.avsFault || !(nack || off) then s
    else ((s.modRegion n fun r => { r with avsFault := true, avsRetryAt := s.now }).emit evAvsFault (n + 1)
        r.railSet r.railRead status.toNat).recause)

/-- AVS_RETRY: the write is repeated every 1 ms; an acknowledged one moves the rail, and so disturbs the
window (R53); one whose readback agrees ends the fault. -/
def execAvsRetry (n : Fin 4) (nack : Bool) (read : BitVec 12) (s : State) : Res :=
  let r := s.region n
  .next (if !s.awake || !r.avsFault || !s.past r.avsRetryAt ms then s
    else
      let s := (s.modRegion n fun r =>
        { r.readRail read.toNat s.now with avsRetryAt := s.now, disturbed := r.disturbed || !nack }).put
        (.avs (n + 1) r.railSet)
      if nack || (s.region n).avsSince.isSome then s
      else (s.modRegion n fun r => { r with avsFault := false }).recause)

/-! ## The contract (R60, R61) -/

/-- CONTRACT_AT_RISK. -/
def execContractAtRisk (n : Fin 4) (s : State) : Res :=
  let r := s.region n
  .next (if !s.awake ∨ r.atRisk ∨ r.rail < 900 ∨ r.lowRun < 10 then s
    else (s.modRegion n fun r => { r with atRisk := true }).emit evContractAtRisk (n + 1) r.rate r.railRead
      (par (r.temp s.tfc.tdesign)))

/-- CONTRACT_BREACH. -/
def execContractBreach (n : Fin 4) (s : State) : Res :=
  let r := s.region n
  .next (if !s.awake ∨ r.breach ∨ r.breachRun < 2 then s
    else ((s.modRegion n fun r => { r with breach := true }).emit evContractBreach (n + 1) r.rate r.railRead
      (par (r.temp s.tfc.tdesign))).recause)

/-- CONTRACT_RESTORED: each flag that clears is recorded. -/
def execContractRestored (n : Fin 4) (s : State) : Res :=
  let r := s.region n
  let due := match r.goodSince with
    | some t => s.past t second
    | none => false
  .next (if !s.awake || !due then s
    else
      let s := if r.atRisk then
          (s.modRegion n fun r => { r with atRisk := false }).emit evContractRestored (n + 1) r.rate else s
      if r.breach then
        ((s.modRegion n fun r => { r with breach := false }).emit evContractRestored (n + 1) r.rate).recause
      else s)

/-! ## Skew (R63) -/

def State.setSkew (s : State) (p : Fin 4) (b : Bool) : State :=
  s.modTfc fun t => { t with pairs := t.pairs.set p { t.pairs[p] with skew := b, driveAt := s.now } }

/-- REGION_SKEW. -/
def execRegionSkew (p : Fin 4) (s : State) : Res :=
  .next (match s.tfc.pairs[p].badSince with
    | some t =>
      if s.awake && !s.tfc.pairs[p].skew && s.past t ms then
        ((s.setSkew p true).emit evRegionSkew p (s.railDiff p) (s.tempDiff p) 1).recause
      else s
    | none => s)

/-- REGION_SKEW_CLEAR. -/
def execRegionSkewClear (p : Fin 4) (s : State) : Res :=
  .next (match s.tfc.pairs[p].okSince with
    | some t =>
      if s.awake && s.tfc.pairs[p].skew && s.past t second then
        ((s.setSkew p false).emit evRegionSkew p (s.railDiff p) (s.tempDiff p) 0).recause
      else s
    | none => s)

/-! ## SLEEP (R65) -/

/-- The monitor and rail control pause in SLEEP: `d` ns do not count in what they time. -/
def laterBy (d : Nat) (t : Option Nat) : Option Nat := t.map (· + d)

def Region.shift (d : Nat) (r : Region) : Region :=
  { r with
    sensors := r.sensors.map fun x => { x with since := laterBy d x.since }
    goodSince := laterBy d r.goodSince
    highSince := laterBy d r.highSince
    lastLower := laterBy d r.lastLower
    avsSince := laterBy d r.avsSince
    avsRetryAt := r.avsRetryAt + d
    disturbed := true }

def SkewPair.shift (d : Nat) (x : SkewPair) : SkewPair :=
  { x with badSince := laterBy d x.badSince, okSince := laterBy d x.okSince, driveAt := x.driveAt + d }

/-- The monitor goes on after SLEEP; the windows in progress are discarded. -/
def Tfc.resume (t : Tfc) (now : Nat) : Tfc :=
  let d := now - t.pausedAt
  { t with
    regions := t.regions.map (·.shift d)
    pairs := t.pairs.map (·.shift d)
    dayAt := t.dayAt + d
    capAt := t.capAt + d }

/-- SKEW calls for a reset (R64). -/
def State.skewReset (s : State) (p : Fin 4) : Bool :=
  decide (45 < s.tempDiff p) || match s.tfc.pairs[p].badSince with
    | some t => s.past t (100 * ms)
    | none => false

end Sys2Proof.Machine
end

