-- ==== Sys2Proof/Machine/ImageCheck.lean ====
section
/-! DEFINITION. The checks a Cartoon image passes at load (R128 to R139, Table 5-10), with the
stage sections' own rules (R169, R170, R205, R213, R258, R299, R331, R383, R445). -/

namespace Sys2Proof.Machine

/-- A refusal (Table 5-10). No detail: no single entry is at fault, and DETAIL reads 0xFFFF. -/
structure Verdict where
  code : Nat
  detail : Option Nat
  section_ : Nat
deriving DecidableEq, Repr

/-! ## Fields -/

/-- The offset beside the first check that fails. -/
def firstBad (l : List (Bool × Nat)) : Option Nat := (l.find? fun x => !x.1).map (·.2)

/-- A little-endian field in its range. -/
def inR (b : List Byte) (off len lo hi : Nat) : Bool := decide (lo ≤ leAt b off len) && decide (leAt b off len ≤ hi)

def zeros (b : List Byte) (off len : Nat) : Bool := (bytesAt b off len).all (· == 0)

/-- Reserved bytes, each with its offset. -/
def reserved (b : List Byte) (off len : Nat) : List (Bool × Nat) :=
  (List.range len).map fun i => (zeros b (off + i) 1, off + i)

/-- A field's range and its offset. -/
def ranged (b : List Byte) (off len lo hi : Nat) : Bool × Nat := (inR b off len lo hi, off)

/-! ## Header and directory (R129 to R131) -/

/-- First byte of the header at fault (Table 5-2). -/
def headerBad (b : List Byte) : Option Nat :=
  firstBad ([ranged b 6 2 1 32, (inR b 8 4 1024 8388608 && leAt b 8 4 % 32 == 0, 8), (leAt b 12 4 != 0, 12)] ++
    (List.range 4).map (fun i => ranged b (32 + i) 1 1 4) ++
    [ranged b 36 1 0 2, ranged b 37 1 0 1, ranged b 38 2 1 256, ranged b 40 2 0 64, ranged b 42 2 1 2048,
      ranged b 44 2 1 65535] ++ reserved b 46 2 ++ reserved b 64 64)

/-- A directory entry (Table 5-3). -/
structure DirE where
  type : Nat
  flags : Nat
  off : Nat
  len : Nat
  crc : Nat
deriving DecidableEq, Repr

def dirAt (b : List Byte) (i : Nat) : DirE :=
  let o := 128 + 16 * i
  { type := leAt b o 2, flags := leAt b (o + 2) 2, off := leAt b (o + 4) 4, len := leAt b (o + 8) 4,
    crc := leAt b (o + 12) 4 }

def directory (b : List Byte) : List DirE := (List.range (leAt b 6 2)).map (dirAt b)

/-- Least and greatest count of each section type (Table 5-4). -/
def sectionCounts : List (Nat × Nat × Nat) :=
  [(0x01, 1, 1), (0x02, 1, 1), (0x03, 0, 8), (0x04, 1, 1), (0x05, 0, 1), (0x06, 0, 8), (0x10, 1, 1), (0x11, 1, 1),
   (0x12, 0, 1), (0x13, 0, 1), (0x14, 0, 1), (0x15, 0, 1), (0x16, 0, 1), (0x17, 0, 1)]

/-- An entry meets R130 and R131, given the entries before it. -/
def DirE.ok (e : DirE) (dirEnd trailer : Nat) (before : List DirE) : Bool :=
  match sectionCounts.find? (·.1 == e.type) with
  | none => false
  | some (_, _, hi) =>
    (if e.type = 3 ∨ e.type = 6 then decide (e.flags ≤ 7) else e.flags == 0) &&
    decide (dirEnd ≤ e.off) && decide (e.off + e.len ≤ trailer) && e.off % 32 == 0 &&
    decide ((before.filter (·.type == e.type)).length < hi) &&
    before.all fun d =>
      !(d.type == e.type && d.flags == e.flags) && (decide (d.off + d.len ≤ e.off) || decide (e.off + e.len ≤ d.off))

def dirBadFrom (dirEnd trailer : Nat) : Nat → List DirE → List DirE → Option Nat
  | _, _, [] => none
  | i, before, e :: t =>
    if e.ok dirEnd trailer before then dirBadFrom dirEnd trailer (i + 1) (before ++ [e]) t else some i

/-- DETAIL of code 5. -/
def dirBad (b : List Byte) : Option Nat :=
  let es := directory b
  match dirBadFrom (128 + 16 * es.length) (b.length - 192) 0 [] es with
  | some i => some i
  | none => (sectionCounts.find? fun c => decide (1 ≤ c.2.1) && !es.any (·.type == c.1)).map fun c => 0x8000 + c.1

def DirE.bytes (e : DirE) (b : List Byte) : List Byte := bytesAt b e.off e.len

/-- First entry whose CRC does not match. -/
def crcBad (b : List Byte) : Option Nat := (directory b).findIdx? fun e => crc32 (e.bytes b) != e.crc

/-- The header and sections of an image. -/
def cartoonOf (b : List Byte) : Cartoon :=
  { identity := leAt b 12 4, version := leAt b 16 4, predIdentity := leAt b 20 4, predVersion := leAt b 24 4
    classes := (List.range 4).map fun i => leAt b (32 + i) 1, epochLen := leAt b 36 1, pooled := leAt b 37 1 == 1
    robotFlows := leAt b 38 2, systemFlows := leAt b 40 2, tasks := leAt b 42 2, startupEpochs := leAt b 44 2
    proven := (List.range 4).map fun i => leAt b (48 + 4 * i) 4, length := leAt b 8 4
    sections := (directory b).mapIdx fun i e => { type := e.type, flags := e.flags, entry := i, bytes := e.bytes b } }

/-! ## Contract (R139) -/

/-- Steps per engine before the deadline (Table 2-3). -/
def stepBudget (cls epochLen : Nat) : Nat := (250 + 50 * cls) * 450 * 2 ^ epochLen

/-- Codes 9 to 12, given CAP of each region. -/
def contractBad (c : Cartoon) (caps : List Nat) : Option Verdict :=
  let cls (n : Nat) : Nat := c.classes.getD n 0
  match (List.range 4).find? fun n => decide (caps.getD n 0 < cls n) with
  | some n => some { code := 9, detail := some (n + 1), section_ := 0 }
  | none =>
    if cls 2 < cls 0 ∨ cls 2 < cls 1 then some { code := 10, detail := some 0, section_ := 0 }
    else match (List.range 4).find? fun n => decide (stepBudget (cls n) c.epochLen < c.proven.getD n 0) with
    | some n => some { code := 11, detail := some (n + 1), section_ := 0 }
    | none =>
      if c.pooled = decide (96 < c.robotFlows) then none else some { code := 12, detail := some 0, section_ := 0 }

/-! ## FLOWS, TASKS and ROUTING (R132 to R134)

Each gives none where the section is valid, else the entry at fault, if one is. -/

/-- A check of the entries of a section in turn. -/
def entriesBad (n : Nat) (ok : Nat → Bool) : Option (Option Nat) :=
  ((List.range n).find? fun i => !ok i).map some

/-- A failure that names no entry. -/
def noEntry (ok : Bool) : Option (Option Nat) := if ok then none else some none

def flowUsed (f : List Byte) (i : Nat) : Bool := leAt f (16 * i) 1 % 2 == 1

/-- Target, base and end of a flow's state. -/
def flowRange (f : List Byte) (i : Nat) : Nat × Nat × Nat :=
  (leAt f (16 * i + 1) 1, leAt f (16 * i + 4) 4, leAt f (16 * i + 4) 4 + leAt f (16 * i + 8) 4)

def flowOk (f : List Byte) (pooled : Bool) (i : Nat) : Bool :=
  let o := 16 * i
  let (t, lo, hi) := flowRange f i
  decide (leAt f o 1 ≤ 1) && zeros f (o + 2) 2 && zeros f (o + 12) 4 &&
  (!flowUsed f i ||
    ((if pooled then t == 0 else decide (t ≤ 7)) && lo % 32 == 0 && hi % 32 == 0 &&
     (if pooled then decide (0x1000000 ≤ lo) && decide (lo < 0x1400000) && decide (hi ≤ 0x1400000)
      else decide (lo < 0x20000) && decide (hi ≤ 0x20000)) &&
     (List.range i).all fun j =>
       let (u, a, z) := flowRange f j
       !flowUsed f j || u != t || z == a || hi == lo || decide (hi ≤ a) || decide (z ≤ lo)))

def flowsBad (f : List Byte) (c : Cartoon) : Option (Option Nat) :=
  let used (lo n : Nat) : Nat := ((List.range n).filter fun i => flowUsed f (lo + i)).length
  noEntry (f.length == 5120) <|> entriesBad 320 (flowOk f c.pooled) <|>
  noEntry (used 0 256 == c.robotFlows && used 256 64 == c.systemFlows)

/-- Step budget limit of a task of a flow (Table 5-5). -/
def taskBudget (f : List Byte) (c : Cartoon) (flow : Nat) : Nat :=
  let b (n : Nat) : Nat := stepBudget (c.classes.getD n 0) c.epochLen
  if c.pooled then min (b 0) (b 1) else if leAt f (16 * flow + 1) 1 < 4 then b 0 else b 1

def taskOk (t f : List Byte) (c : Cartoon) (i : Nat) : Bool :=
  let o := 32 * i
  let flow := leAt t o 2
  let m := leAt t (o + 5) 1
  let period := leAt t (o + 12) 2
  let slot := leAt t (o + 16) 1
  decide (flow ≤ 319) && flowUsed f flow && inR t (o + 2) 2 0 16383 && leAt t (o + 4) 1 / 8 % 16 == 0 &&
  decide (1 ≤ m) && decide (m ≤ 15) && inR t (o + 6) 1 0 64 && zeros t (o + 7) 1 &&
  inR t (o + 8) 4 1 (taskBudget f c flow) &&
  (if period = 0 then leAt t (o + 14) 2 == 0 && slot == 0
   else decide (leAt t (o + 14) 2 < period) && decide (slot ≤ 3) && bitsOf m slot 1 == 1) && zeros t (o + 17) 15

def tasksBad (t f : List Byte) (c : Cartoon) : Option (Option Nat) :=
  noEntry (t.length == 32 * c.tasks) <|> entriesBad c.tasks (taskOk t f c)

def routeOk (r t : List Byte) (c : Cartoon) (i : Nat) : Bool :=
  let x := routeAt r i
  decide (1 ≤ x.kind) && decide (x.kind ≤ 6) && decide (x.task < c.tasks) && decide (x.slot ≤ 3) &&
  bitsOf (leAt t (32 * x.task + 5) 1) x.slot 1 == 1 && zeros r (8 * i + 6) 2 &&
  (List.range i).all fun j => !((routeAt r j).kind == x.kind && (routeAt r j).selector == x.selector)

def routingBad (r t : List Byte) (c : Cartoon) : Option (Option Nat) :=
  noEntry (r.length % 8 == 0) <|> entriesBad (r.length / 8) (routeOk r t c)

/-! ## Memory sections (R135) -/

def easelBad (b : List Byte) : Option (Option Nat) := noEntry (decide (b.length ≤ 65536) && b.length % 4 == 0)

def loadBad (b : List Byte) (lo hi : Nat) : Option (Option Nat) :=
  let a := leAt b 0 4
  noEntry (decide (4 ≤ b.length) && a % 4 == 0 && decide (lo ≤ a) && decide (a < hi) && decide (a + (b.length - 4) ≤ hi))

/-! ## CANVAS (R169, R170) and ZONES (R205) -/

/-- A square's entry keeps R169: each link names a used square below N that links back. -/
def squareOk (n : Nat) (map : List Byte) (s : Nat) : Bool :=
  let q := squareAt map s
  let back (t : Nat) (f : SquareDef → Nat) : Bool :=
    t == 0xFFFF || (decide (t < n) && (squareAt map t).flags % 2 == 1 && f (squareAt map t) == s)
  back q.prev (·.next) && back q.next (·.prev) && back q.side (·.side)

/-- A GATE square's channel is AUTO in the DRIVES section; without one no channel is (R131, R445). -/
def gateOk (map drives : List Byte) (s : Nat) : Bool :=
  let g := (squareAt map s).flags
  bitsOf g 2 1 == 0 || bitsOf (leAt drives (64 * bitsOf g 3 3) 1) 2 1 == 1

def canvasBad (b : List Byte) (drives : Option (List Byte)) : Option (Option Nat) :=
  let n := leAt b 8 4
  let map := b.drop 32
  noEntry (inR b 0 1 1 16 && inR b 1 1 0 8 && inR b 2 1 0 3 && zeros b 3 1 && inR b 4 2 20 1000 && zeros b 6 2 &&
    inR b 8 4 1 65536 && zeros b 12 20 && b.length == 32 + 16 * n &&
    (List.range n).all fun s => decide ((squareAt map s).flags < 64)) <|>
  entriesBad n (squareOk n map) <|>
  noEntry (drives.isSome || (List.range n).all (gateOk map []))

def zonesBad (b : List Byte) (n : Nat) : Option (Option Nat) :=
  let zc := leAt b 0 2
  let rc := leAt b 2 2
  noEntry (inR b 0 2 1 64 && inR b 2 2 1 4096 && zeros b 4 28 && b.length == 32 + 4 * zc + 4 * rc &&
    (List.range zc).all (fun z =>
      decide (1 ≤ leAt b (34 + 4 * z) 2) && decide (leAt b (32 + 4 * z) 2 + leAt b (34 + 4 * z) 2 ≤ rc)) &&
    (List.range rc).all fun r =>
      let o := 32 + 4 * zc + 4 * r
      decide (leAt b o 2 ≤ leAt b (o + 2) 2) && decide (leAt b (o + 2) 2 < n))

/-! ## SLOTPLAN (R256, R258) -/

/-- The radio slot starts a sub-GHz span. -/
def spanStart (p : List Byte) (k : Nat) : Bool := planRate p != 0 && k % spanSlots (planRate p) == 0

def planSlotOk (p : List Byte) (k : Nat) : Bool :=
  let b0 := leAt p (32 + 2 * k) 1
  let b1 := leAt p (33 + 2 * k) 1
  decide (b0 % 8 ≤ 5) && bitsOf b0 6 2 == 0 && (if spanStart p k then decide (b1 ≤ 5) else b1 == 0)

def planHeadOk (p : List Byte) : Bool :=
  inR p 0 1 25 250 && inR p 2 1 0 3 && inR p 4 2 0 1024 && zeros p 6 26 &&
  p.length == assignOff p (planCount p) && (planRate p == 0 || planLen p % spanSlots (planRate p) == 0) &&
  (List.range (planLen p)).all (planSlotOk p) &&
  (List.range 4).all (fun g => (List.range (planLen p)).any fun k => slotType p k == 1 && slotGroup p k == g) &&
  (planRate p == 0 || (List.range (planLen p)).any fun k => spanStart p k && subType p k == 1)

/-- An UL or DL entry names a slot of the right type (Table 8-12). -/
def slotEOk (p : List Byte) (channel : Nat) (dl : Bool) (e : SlotE) : Bool :=
  let type := if channel = 0 then subType p e.slot else slotType p e.slot
  decide (e.slot < planLen p) && decide (e.phase < 2 ^ e.p) && (channel != 0 || spanStart p e.slot) &&
  (if dl then type == 3 && (channel == 0 || slotGroup p e.slot == (channel - 11) / 4) else type == 2 || type == 4)

/-- Two entries can fall in the same superframe and slot. -/
def SlotE.meets (a b : SlotE) : Bool :=
  a.slot == b.slot && a.phase % 2 ^ min a.p b.p == b.phase % 2 ^ min a.p b.p

def slotEsMeet : List SlotE → Bool
  | [] => false
  | e :: t => t.any e.meets || slotEsMeet t

def assignOk (p : List Byte) (i : Nat) : Bool :=
  let o := assignOff p i
  let a := assignAt p o
  let c := leAt p (o + 3) 1
  let es := a.ul ++ a.dl
  decide (a.station ≤ 1023) && (a.channel == 0 || (decide (11 ≤ a.channel) && decide (a.channel ≤ 26))) &&
  decide (bitsOf c 4 2 ≤ 2) && bitsOf c 2 2 == 0 && bitsOf c 7 1 == 0 && zeros p (o + 19) 13 &&
  (List.range 3).all (fun k => if k < c % 4 then leAt p (o + 4 + 3 * k) 3 < 2 ^ 18 else zeros p (o + 4 + 3 * k) 3) &&
  (List.range 2).all (fun k =>
    if k < bitsOf c 4 2 then leAt p (o + 13 + 3 * k) 3 < 2 ^ 18 else zeros p (o + 13 + 3 * k) 3) &&
  a.ul.all (slotEOk p a.channel false) && a.dl.all (slotEOk p a.channel true) && !slotEsMeet es &&
  (List.range i).all fun j =>
    let b := assignAt p (assignOff p j)
    !(b.station == a.station && b.chain == a.chain) &&
    (b.channel != a.channel || (b.ul ++ b.dl).all fun x => !es.any x.meets)

def slotplanBad (p : List Byte) (robots : List Nat) : Option (Option Nat) :=
  if p.length = assignOff p (planCount p) then
    entriesBad (planCount p) (assignOk p) <|> noEntry (planHeadOk p && robots.all fun r =>
      (assigns p).any fun a => a.station == r && a.ul != [] && a.dl != [])
  else some none

/-- Band of the unit in kHz (Table 0-1). -/
def subgBand : Nat × Nat := if Config.variant = 0 then (863000, 870000) else (902000, 928000)

/-- SG_CHAN0 and SG_SPACING of a RADIO section, or of its absence (Table 9-3). -/
def channelPlan (radio : Option (List Byte)) : Nat × Nat :=
  match radio with
  | some r => (leAt r 0 4, leAt r 4 2)
  | none => (if Config.variant = 0 then 863125 else 902200, 200)

/-- The channel, centre ± half the spacing, lies wholly inside the unit's band (R3, R299). -/
def inBand (radio : Option (List Byte)) (chan : Nat) : Bool :=
  let (c0, sp) := channelPlan radio
  decide (2 * subgBand.1 + sp ≤ 2 * (c0 + sp * chan)) && decide (2 * (c0 + sp * chan) + sp ≤ 2 * subgBand.2)

/-! ## GNSS (R331), LOOPS (R213 to R215, R232, R238, R240), DRIVES (R445), QUEUES (R383), RADIO (R299) -/

def gnssBad (b : List Byte) : Option (Option Nat) :=
  noEntry (b.length == 32 && (leAt b 0 2 == 0 || (inR b 0 2 50 60000 && leAt b 0 2 % 50 == 0)) && inR b 2 2 0 300 &&
    inR b 4 2 0 300 && inR b 6 1 0 15 && inR b 7 1 0 15 && inR b 8 1 0 1 && inR b 9 1 0 1 &&
    (leAt b 10 1 == 0 || inR b 10 1 52 63) && zeros b 11 1 && inR b 16 2 1 65535 && inR b 18 2 0 4095 && zeros b 20 12)

def max31 : Nat := 2 ^ 31 - 1

def profileOk (b : List Byte) (i : Nat) : Bool :=
  let o := profOff i
  (List.range 5).all (fun k => inR b (o + 4 * k) 4 1 max31) && inR b (o + 30) 1 0 3 && inR b (o + 31) 1 1 100 &&
  (if (profileAt b i).drive then zeros b (o + 20) 10
   else inR b (o + 20) 2 0 1000 && inR b (o + 22) 2 0 6000 && inR b (o + 24) 2 0 10000 && inR b (o + 26) 2 0 10000 &&
     inR b (o + 28) 2 0 1000)

/-- Two squares are joined by a link of the map. -/
def joined (map : List Byte) (a b : Nat) : Bool :=
  let q := squareAt map a
  q.prev == b || q.next == b || q.side == b

def risingTo (length : Nat) : List Nat → Bool
  | [] => true
  | [a] => decide (a < length)
  | a :: b :: t => decide (a < b) && risingTo length (b :: t)

def chained (map : List Byte) : List Nat → Bool
  | a :: b :: t => joined map a b && chained map (b :: t)
  | _ => true

def routeDefOk (b map : List Byte) (n i : Nat) : Bool :=
  let h := loopsHdr b
  let o := routeOff h i
  let first := leAt b o 4
  let count := leAt b (o + 8) 2
  let r := routeDefAt b i
  let qs := r.squares.map (·.1)
  let ss := r.squares.map (·.2)
  inR b (o + 4) 4 1 max31 && inR b (o + 8) 2 1 4096 && inR b (o + 10) 1 0 1 && zeros b (o + 11) 5 &&
  decide (first + count ≤ h.re) && (List.range count).all (fun k => zeros b (rentryOff h (first + k) + 2) 2) &&
  ss.head? == some 0 && risingTo r.length ss && qs.all (fun q => decide (q < n)) && chained map qs &&
  (!r.loop || joined map (qs.getLast?.getD 0) (qs.headD 0))

def guideOk (b : List Byte) (i : Nat) : Bool :=
  let o := gdescOff (loopsHdr b) i
  inR b o 1 0 1 && inR b (o + 1) 1 0 62 && inR b (o + 2) 1 0 62 && zeros b (o + 3) 1 &&
  (List.range 6).all (fun k => inR b (o + 28 + k) 1 0 (if leAt b o 1 = 1 then 0 else 31)) && zeros b (o + 34) 2 &&
  inR b (o + 36) 4 0 max31 && inR b (o + 40) 4 0 max31 && inR b (o + 44) 4 0 32767 && inR b (o + 48) 4 0 max31 &&
  inR b (o + 52) 2 1 2000 && inR b (o + 54) 2 0 5000 && zeros b (o + 56) 8

def driveDescOk (b : List Byte) (i : Nat) : Bool :=
  let o := ddescOff (loopsHdr b) i
  let sh := if leAt b o 1 = 1 then 0 else 31
  inR b o 1 0 1 && inR b (o + 1) 1 0 62 && zeros b (o + 2) 2 && inR b (o + 12) 1 0 sh && inR b (o + 13) 1 0 sh &&
  zeros b (o + 14) 2 && inR b (o + 16) 4 0 max31 && inR b (o + 20) 4 0 0x7FFF && zeros b (o + 24) 8

def glazeOk (b : List Byte) (i : Nat) : Bool :=
  let h := loopsHdr b
  let o := glazeOff h i
  inR b o 4 1 65535 && decide (leAt b (o + 4) 2 < h.rc) && inR b (o + 6) 1 0 15 && inR b (o + 7) 1 0 32 &&
  inR b (o + 8) 2 0 0x7FFF && inR b (o + 10) 1 0 1 && zeros b (o + 11) 1 && inR b (o + 12) 4 0 max31

def loopsBad (b map : List Byte) (n : Nat) : Option (Option Nat) :=
  let h := loopsHdr b
  noEntry (inR b 0 2 1 64 && inR b 2 2 0 256 && inR b 4 2 0 64 && inR b 6 2 0 16 && inR b 8 2 0 64 && zeros b 10 2 &&
    inR b 12 4 0 65536 && zeros b 16 16 && b.length == glazeOff h h.zc && (List.range h.pc).all (profileOk b) &&
    (List.range h.rc).all (routeDefOk b map n) && (List.range h.gc).all (guideOk b) &&
    (List.range h.dc).all (driveDescOk b) && (List.range h.zc).all (glazeOk b))

/-- A gate position: a multiple of 16, at most 8,388,592. -/
def gatePosOk (b : List Byte) (o : Nat) : Bool := leAt b o 4 % 16 == 0 && inR b o 4 0 8388592

def driveOk (b loops : List Byte) (d : Nat) : Bool :=
  let o := 64 * d
  let m := leAt b o 1
  let p := leAt b (o + 1) 1
  let pr := profileAt loops p
  let auto := bitsOf m 2 1 == 1
  decide (m % 4 ≤ 2) && decide (bitsOf m 4 2 ≤ 2) && decide (m < 128) &&
  (m % 4 == 0 || (decide (p < (loopsHdr loops).pc) && pr.drive)) &&
  (!auto || (m % 4 == 1 && pr.reverse)) && inR b (o + 2) 1 0 8 && inR b (o + 3) 1 0 3 && inR b (o + 4) 2 1 10000 &&
  inR b (o + 6) 1 0 100 && inR b (o + 7) 1 1 255 && inR b (o + 8) 2 100 20000 && inR b (o + 12) 2 1 65535 &&
  inR b (o + 14) 2 1 65535 && inR b (o + 16) 2 100 6000 && inR b (o + 18) 2 1 65535 && inR b (o + 20) 1 30 89 &&
  inR b (o + 21) 1 1 255 && inR b (o + 22) 2 10 10000 && inR b (o + 24) 1 2 255 && zeros b (o + 25) 1 &&
  inR b (o + 26) 2 1 10000 && inR b (o + 28) 2 1 1000 && inR b (o + 30) 2 1 65535 && inR b (o + 36) 4 1 1000000 &&
  gatePosOk b (o + 40) && gatePosOk b (o + 44) && inR b (o + 48) 2 100 60000 && inR b (o + 50) 2 1 65535 &&
  zeros b (o + 52) 12

def drivesBad (b loops map : List Byte) (n : Nat) : Option (Option Nat) :=
  noEntry (b.length == 512 && (List.range 8).all (driveOk b loops) && (List.range n).all (gateOk map b))

def queueOk (b : List Byte) (q : Nat) : Bool :=
  let o := 8 * q
  inR b o 2 0 32768 && inR b (o + 2) 2 17 32768 && decide (leAt b o 2 ≤ leAt b (o + 2) 2) &&
  inR b (o + 4) 1 0 (if 52 ≤ q then 15 else 0) && zeros b (o + 5) 3

def channelOk (b : List Byte) (c : Nat) : Bool :=
  let o := 512 + 8 * c
  let x := leAt b o 1
  let y := leAt b (o + 1) 1
  decide (x ≤ 3) && decide (y ≤ 3) && (x != y || x == 0) && zeros b (o + 2) 2 &&
  (if x = 0 ∧ y = 0 then zeros b (o + 4) 4 else inR b (o + 4) 4 1 1000000)

def queuesBad (b : List Byte) : Option (Option Nat) :=
  noEntry (b.length == 640 && (List.range 64).all (queueOk b) && (List.range 15).all (channelOk b) && zeros b 632 8 &&
    decide (((List.range 64).map fun q => leAt b (8 * q) 2).sum ≤ 32768))

def radioBad (b : List Byte) : Option (Option Nat) :=
  let within (o : Nat) (lo hi : Int) : Bool := decide (lo ≤ sleAt b o 1) && decide (sleAt b o 1 ≤ hi)
  noEntry (b.length == 32 && inR b 4 2 100 1000 && zeros b 6 2 && within 8 (-20) 10 && within 9 (-10) 14 &&
    inR b 10 1 2 20 && zeros b 11 21)

/-! ## The image (R138) -/

def Cartoon.entryOf (c : Cartoon) (type flags : Nat) : Nat :=
  match c.sec type flags with
  | some x => x.entry
  | none => 0

/-- A section's failure as a verdict of code 18. -/
def Cartoon.bad18 (c : Cartoon) (type : Nat) (r : Option (Option Nat)) : Option Verdict :=
  r.map fun d => { code := 18, detail := d, section_ := c.entryOf type 0 }

/-- A stage section where it is present. -/
def Cartoon.stage (c : Cartoon) (type : Nat) (f : List Byte → Option (Option Nat)) : Option Verdict :=
  match c.sec type 0 with
  | some x => c.bad18 type (f x.bytes)
  | none => none

/-- The EASEL or SCRATCH sections in the order of their Easels. -/
def Cartoon.perEasel (c : Cartoon) (type : Nat) (f : List Byte → Option (Option Nat)) : Option Verdict :=
  (List.range 8).findSome? fun k => match c.sec type k with
    | some x => (f x.bytes).map fun d => { code := 18, detail := d, section_ := x.entry }
    | none => none

def Cartoon.bandBad (c : Cartoon) (type : Nat) (ok : Bool) : Option Verdict :=
  if ok then none else some { code := 16, detail := some 0, section_ := c.entryOf type 0 }

/-- Bytes of a section, where there is one. -/
def Cartoon.secOpt (c : Cartoon) (type : Nat) : Option (List Byte) := (c.sec type 0).map (·.bytes)

/-- Codes 16 and 18. -/
def Cartoon.sectionsBad (c : Cartoon) : Option Verdict :=
  let f := c.secBytes 0x02
  let t := c.secBytes 0x01
  let cv := c.secBytes 0x10
  let n := leAt cv 8 4
  let map := cv.drop 32
  let p := c.secBytes 0x11
  let radio := c.secOpt 0x17
  let robots := (List.range 256).filter fun i => flowUsed f i
  c.bad18 0x02 (flowsBad f c) <|> c.bad18 0x01 (tasksBad t f c) <|> c.bad18 0x04 (routingBad (c.secBytes 0x04) t c) <|>
  c.perEasel 0x03 easelBad <|> c.stage 0x05 (loadBad · 0x1000000 0x1400000) <|>
  c.perEasel 0x06 (loadBad · 0 0x20000) <|> c.bad18 0x10 (canvasBad cv (c.secOpt 0x14)) <|>
  c.bad18 0x11 (slotplanBad p robots) <|> c.bandBad 0x11 (planRate p == 0 || inBand radio (planSubChan p)) <|>
  c.stage 0x12 gnssBad <|> c.stage 0x13 (loopsBad · map n) <|>
  c.stage 0x14 (drivesBad · (c.secBytes 0x13) map n) <|> c.stage 0x15 (zonesBad · n) <|> c.stage 0x16 queuesBad <|>
  c.stage 0x17 radioBad <|> c.bandBad 0x17 (radio.isNone || inBand radio (planSubChan p))

/-- The length is one LOAD accepts (code 2, before the image is read). -/
def lengthOk (n : Nat) : Bool := n != 0 && decide (n ≤ 8388608) && n % 32 == 0

/-- The trailer's key is enrolled and not revoked (R136). -/
def keyEnrolled (keys : List KeySlot) (b : List Byte) : Bool :=
  let h := sha384 (bytesAt b (b.length - 192) 96)
  keys.any fun k => k.state == 1 && k.hash == h

/-- The signature over bytes 0 to length − 193. -/
def signatureOk (b : List Byte) : Bool :=
  ecdsaVerify (bytesAt b (b.length - 192) 96) (sha384 (b.take (b.length - 192))) (b.drop (b.length - 96))

def failsWith (code : Nat) (ok : Bool) : Option Verdict :=
  if ok then none else some { code := code, detail := some 0, section_ := 0 }

/-- The checks of an image that has been read, in the order of Table 5-10; none where it passes. -/
def imageBad (keys : List KeySlot) (caps : List Nat) (b : List Byte) : Option Verdict :=
  let c := cartoonOf b
  failsWith 2 (lengthOk b.length && leAt b 8 4 == b.length) <|>
  failsWith 3 (leAt b 0 4 == 0x4E545243 && leAt b 4 2 == 1) <|>
  (headerBad b).map (fun o => { code := 4, detail := some o, section_ := 0 }) <|>
  (dirBad b).map (fun o => { code := 5, detail := some o, section_ := 0 }) <|>
  (crcBad b).map (fun i => { code := 6, detail := some i, section_ := i }) <|>
  failsWith 7 (keyEnrolled keys b) <|> failsWith 8 (signatureOk b) <|> contractBad c caps <|> c.sectionsBad

/-! ## Swap compatibility (R155, Table 5-12) -/

/-- First condition that fails, 1 to 5. -/
def swapCondition (old new : Cartoon) : Option Nat :=
  if old.epochLen ≠ new.epochLen then some 1
  else if old.pooled ≠ new.pooled then some 2
  else if old.secBytes 0x02 ≠ new.secBytes 0x02 then some 3
  else if old.secBytes 0x10 ≠ new.secBytes 0x10 then some 4
  else if channelPlan (old.secOpt 0x17) ≠ channelPlan (new.secOpt 0x17) then some 5
  else none

end Sys2Proof.Machine
end

