-- ==== Sys2Proof/Machine/Dispatcher.lean ====
section
/-! DEFINITION. The dispatcher: the matching store, arrivals and continuations, release and dispatch
(R88, R93, R125, R144 to R154, R157). -/

namespace Sys2Proof.Machine

/-! ## Task entries (Table 5-5) -/

structure TaskDef where
  flow : Nat
  entry : Nat
  urgent : Bool
  level : Nat
  mask : Nat
  held : Nat
  budget : Nat
  period : Nat
  phase : Nat
  slot : Nat
deriving DecidableEq, Repr

def taskDefAt (b : List Byte) (i : Nat) : TaskDef :=
  let o := 32 * i
  let c := leAt b (o + 4) 1
  { flow := leAt b o 2, entry := leAt b (o + 2) 2, urgent := bitsOf c 7 1 == 1, level := c % 8
    mask := leAt b (o + 5) 1 % 16, held := leAt b (o + 6) 1, budget := leAt b (o + 8) 4
    period := leAt b (o + 12) 2, phase := leAt b (o + 14) 2, slot := leAt b (o + 16) 1 }

def State.task (s : State) (t : Nat) : TaskDef := taskDefAt (s.section 0x01) t

def State.taskCount (s : State) : Nat :=
  match s.dsp.running with
  | some c => c.tasks
  | none => 0

/-! ## The matching store (R145) -/

/-- Operand slots in use. -/
def Dsp.used (d : Dsp) : Nat :=
  let b := match d.running with
    | some c => c.secBytes 0x01
    | none => []
  (d.instances.map fun i => slotCount (slotMask b i.task)).sum

inductive Fill where
  | done | taken | noRoom
deriving DecidableEq, Repr

def insertInst (i : Instance) : List Instance → List Instance
  | [] => [i]
  | j :: t => if i.task < j.task then i :: j :: t else j :: insertInst i t

/-- A word is written into an operand slot; an instance is created where it leaves `spare` slots. -/
def State.fill (s : State) (task slot : Nat) (w : Word) (spare : Nat) : Fill × State :=
  match s.dsp.instances.find? (·.task == task) with
  | some i =>
    if i.slots.any (·.1 == slot) then (.taken, s)
    else (.done, s.modDsp fun d =>
      { d with instances := d.instances.map fun j =>
          if j.task = task then { j with slots := j.slots ++ [(slot, w)] } else j })
  | none =>
    if 4096 < s.dsp.used + slotCount (s.task task).mask + spare then (.noRoom, s)
    else (.done, s.modDsp fun d =>
      let d := { d with instances := insertInst { task := task, slots := [(slot, w)] } d.instances }
      { d with high := max d.high d.used })

/-- Every declared slot is filled. -/
def Instance.full (i : Instance) (mask : Nat) : Bool :=
  (List.range 4).all fun k => bitsOf mask k 1 == 0 || i.slots.any (·.1 == k)

/-- The flow is under ordered rules (R153): start-up, test mode, a restart, or catch-up replay. -/
def State.ordered (s : State) (flow : Nat) : Bool :=
  (s.dsp.startup && s.dsp.startupLeft != 0) || s.dsp.mode == .test ||
  tblGet (fun _ => 0) s.dsp.ordered flow != 0 || s.twin.state == .standbySyncing

/-! ## Release (R146) -/

/-- Key of R146. -/
def State.relKey (s : State) (r : Released) : List Nat :=
  let t := s.task r.task
  [bit !t.urgent, 7 - t.level, r.epoch, r.task]

def State.insertRel (s : State) (r : Released) : List Released → List Released
  | [] => [r]
  | x :: t => if keyLe (s.relKey r) (s.relKey x) then r :: x :: t else x :: s.insertRel r t

def State.sortRel (s : State) (l : List Released) : List Released := l.foldr s.insertRel []

/-- A released task takes a release number where its flow is ordered. -/
def State.numberRel (s : State) (r : Released) : State :=
  let f := (s.task r.task).flow
  let n := tblGet (fun _ => 0) s.dsp.relNo f
  if s.ordered f then
    s.modDsp fun d =>
      { d with released := d.released ++ [{ r with relNo := some n }], relNo := tblPut (fun _ => 0) d.relNo f (n + 1) }
  else s.modDsp fun d => { d with released := d.released ++ [r] }

/-- The Cartoon's tasks are dispatched: it runs, and is not stopping. -/
def Dsp.live (d : Dsp) : Bool := d.mode == .running || d.mode == .swapPending || d.mode == .test

/-- Full instances are released into the epoch's work, in dispatch order. -/
def State.releaseTasks (s : State) : State :=
  let (full, rest) := s.dsp.instances.partition fun i => i.full (s.task i.task).mask
  let rs := s.sortRel (full.map fun i => { task := i.task, epoch := s.epoch.n, slots := i.slots, relNo := none })
  let s := s.modDsp fun d => { d with instances := rest }
  (rs.foldl State.numberRel s).trace 6 15 TaskCtx.none rs.length

/-- A pending swap is to be judged at the present boundary (R156). -/
def State.swapDue (s : State) : Bool :=
  s.dsp.mode == .swapPending && decide (s.dsp.swapE ≤ s.epoch.n) && !s.dsp.inSwapEpoch &&
  s.dsp.swapTried != some s.epoch.n

/-- TASK_TICK: every tick due at the boundary (R149). -/
def State.tickTask (s : State) (i : Nat) : State :=
  let t := s.task i
  if t.period = 0 ∨ s.epoch.n % t.period ≠ t.phase ∨ s.dsp.quarantine.contains t.flow then s
  else match s.fill i t.slot (lo32 s.epoch.n) 0 with
    | (.done, s) => s
    | (_, s) => s.emit evTickOverrun i (s.epoch.n % 2 ^ 32)

def execTaskTick (s : State) : Res :=
  .next (if !s.awake || !s.dsp.live || !s.epoch.begun || s.epoch.ticked then s
    else (List.range s.taskCount).foldl State.tickTask (s.modEpoch fun e => { e with ticked := true }))

/-! ## Requests and results (R88, R89, R125, R147) -/

/-- The host grant port has a request in the present epoch. -/
def State.hostTurn (s : State) : Bool :=
  match s.canvas.hostReq with
  | some (e, _) => e == s.epoch.n
  | none => false

/-- A stage takes a request: the stroke generator and the loop engine 64 in an epoch, the grant
engine 128 with the host's (R179, R217). -/
def State.accept (s : State) (r : FabReq) : Option State :=
  match r.op with
  | .fgrant =>
    if s.canvas.incoming.length + bit s.hostTurn < 128 then some (s.modCanvas fun c => { c with incoming := c.incoming ++ [r] }) else none
  | .fstk =>
    if s.stk.incoming.length < 64 then some (s.modStk fun x => { x with incoming := x.incoming ++ [r] }) else none
  | .floop =>
    if s.gdl.incoming.length < 64 then some (s.modGdl fun x => { x with incoming := x.incoming ++ [r] }) else none
  | .fpput => some (s.modPalette fun p =>
      { p with jobs := p.jobs ++ [{ put := true, addr := r.value.toNat, task := r.task, slot := r.slot, flow := r.flow }] })
  | .fpget => some (s.modPalette fun p =>
      { p with jobs := p.jobs ++ [{ put := false, addr := r.value.toNat, task := r.task, slot := r.slot, flow := r.flow }] })

/-- FABRIC_REQUEST_DRAIN (R125). Outputs held for want of room follow. -/
def execFabricRequestDrain (k : Fin 8) (s : State) : Res :=
  .next (match s.easels[k].fifo with
    | [] => s
    | r :: rest =>
      if !s.awake then s
      else match s.accept r with
        | none => s
        | some s =>
          let s := s.modEasel k fun x => { x with fifo := rest }
          (s.dsp.reorder.map (·.flow)).dedup.foldl State.drainHeld s)

/-- Discard a result whose slot is taken or that finds no room: the flow is quarantined. The Easel and
fault code that FLOW_QUARANTINED shows are free (log entry 34). -/
def State.resultFault (s : State) (flow : Nat) : State :=
  let (a, s) := s.draw
  let (b, s) := s.draw
  s.quarantine flow a b

/-- CONTINUATION_RESULT: the oldest result on its way. -/
def execContinuationResult (s : State) : Res :=
  .next (match s.dsp.results with
    | [] => s
    | r :: rest =>
      let s := s.modDsp fun d => { d with results := rest }
      let t := s.task r.task
      if !s.dsp.active || s.taskCount ≤ r.task || bitsOf t.mask r.slot 1 = 0 then s
      else if s.dsp.quarantine.contains t.flow then s.emit evContinuationDiscarded t.flow r.task r.slot
      else match s.fill r.task r.slot r.word 0 with
        | (.done, s) => s
        | (.taken, s) => (s.emit evOperandCollision t.flow r.task r.slot r.stage).resultFault t.flow
        | (.noRoom, s) => (s.emit evMatchStoreExhausted t.flow r.task s.dsp.used).resultFault t.flow)

/-! ## Arrivals (R148) -/

/-- The packet that came with an arrival, where its queue still holds one (R419). -/
def State.arrivalPacket (s : State) (kind sel : Nat) (w : Word) : Option Packet :=
  match kind with
  | 3 => (s.palette.q 23).packets.find? fun k => arrivalOf 3 k == (sel, w)
  | 4 => (s.palette.q 19).packets.find? fun k => arrivalOf 4 k == (sel, w)
  | 5 => (s.palette.q 20).packets.find? fun k => arrivalOf 5 k == (sel, w)
  | 6 => none
  | _ => (s.palette.q (32 + fieldOf w 16 5)).packets.find? fun k =>
      leAt k.bytes 12 2 == sel && leAt k.bytes 16 1 == fieldOf w 24 8

/-- The head of an arrival queue leaves it; an arrival that waited for room is given (R384). -/
def ArrivalQ.pop (q : ArrivalQ) : ArrivalQ := { q with items := q.items.drop 1 ++ q.owed.take 1, owed := q.owed.drop 1 }

/-- The queue drains again: INTAKE_HELD where it held for 10 ms (R164). -/
def State.unhold (s : State) (kind : Nat) : State :=
  let q := s.dsp.arrivalQ kind
  let s := s.modDsp fun d => d.modArrivalQ kind fun q => { q.pop with holdSince := none, refused := 0 }
  match q.holdSince with
  | some t => if s.past t (10 * ms) then s.emit evIntakeHeld kind ((s.now - t) / ms) q.refused else s
  | none => s

/-- ARRIVAL_DRAIN of kind `k + 1`. A standby takes its arrivals from the input log (R419). -/
def execArrivalDrain (k : Fin 6) (s : State) : Res :=
  let kind := k.val + 1
  .next (match (s.dsp.arrivalQ kind).items, s.dsp.running with
    | (sel, w) :: _, some c =>
      if !s.awake || !s.dsp.active || s.dsp.inSwapEpoch then s
      else if s.standby then s.modDsp fun d => d.modArrivalQ kind (·.pop)
      else match c.route kind sel with
        | none => (s.unhold kind).modDsp (·.unrouted)
        | some r =>
          if s.dsp.quarantine.contains (s.task r.task).flow then (s.unhold kind).modDsp (·.unrouted)
          else match s.fill r.task r.slot w 513 with
            | (.done, s) => (s.logInput (.arrival kind sel w (s.arrivalPacket kind sel w))).unhold kind
            | (_, s) => s.modDsp fun d => d.modArrivalQ kind fun q => { q with holdSince := some (q.holdSince.getD s.now) }
    | _, _ => s)

/-! ## Dispatch (R82, R85, R150 to R154) -/

/-- A bank as a task enters it (Table 3-4). EAS_STEPS of a running task is the issue step plus the cost of the
last instruction issued, and 0 from its entry until the first issue: what it shows between instructions the
spec does not say (DESIGN CHOICE, log entry 60). -/
def TaskDef.bank (t : TaskDef) (r : Released) : Bank :=
  let slot (k : Nat) : Word :=
    if bitsOf t.mask k 1 = 0 then 0
    else match r.slots.find? (·.1 == k) with
      | some x => x.2
      | none => 0
  { Bank.zero with
    g := Vector.ofFn fun (i : Fin 32) =>
      match i.val with
      | 1 => slot 0
      | 2 => slot 1
      | 3 => slot 2
      | 4 => slot 3
      | 5 => lo32 r.task
      | 6 => lo32 t.flow
      | 7 => lo32 r.epoch
      | _ => 0
    pc := t.entry
    task := { task := r.task, flow := t.flow, urgent := t.urgent, level := t.level, budget := t.budget
              epoch := r.epoch, relNo := r.relNo } }

/-- Entries of the reorder buffer in use. -/
def Dsp.reorderUsed (d : Dsp) : Nat := (d.reorder.map (·.reserved)).sum

/-- Why a released task may not run now: 1 its flow is in service, 2 the reorder buffer is full. -/
def State.waits (s : State) (r : Released) : Option Nat :=
  let t := s.task r.task
  let pooled := match s.dsp.running with
    | some c => c.pooled
    | none => false
  if s.inService.any (·.flow == t.flow) && !(pooled && s.ordered t.flow) then some 1
  else if r.relNo.isSome && decide (512 < s.dsp.reorderUsed + t.held) then some 2
  else none

/-- An Easel takes its next task. -/
def State.idle (s : State) (k : Fin 8) : Bool := s.easels[k].run == .idle && !s.halted k

/-- An URGENT task may take the Easel (R85, R152). -/
def State.preemptable (s : State) (k : Fin 8) : Bool :=
  let x := s.easels[k]
  x.run == .running && !x.bank.task.urgent && x.shadow.isNone && !s.halted k

/-- The step at which the next instruction issues: an instruction that waits for an access or a divide to
complete stands at its boundary until then (R78). -/
def Easel.nextIssue (x : Easel) : Nat :=
  match x.insn with
  | some i => x.bank.issueAt (usage i)
  | none => x.bank.next

/-- No Atelier access and no divide of the running task is incomplete at the boundary before its next
instruction (R85). -/
def Easel.quiet (x : Easel) : Bool :=
  decide (x.bank.freeAtl ≤ x.nextIssue) && decide (x.bank.freeDiv ≤ x.nextIssue)

/-- The running Cartoon's dispatch mode is POOLED. -/
def State.pooled (s : State) : Bool := s.dsp.running.any (·.pooled)

/-- A task enters an Easel, which runs it; the running one goes to the shadow bank. Under POOLED dispatch the
scratch is undefined at its entry (R84). -/
def State.enter (s : State) (k : Fin 8) (r : Released) : State :=
  let t := s.task r.task
  let old := s.easels[k]
  let b := t.bank r
  let s := if old.run = .running then s.trace 2 k old.bank.task r.task else s
  let s := s.modDsp fun d =>
    { d with released := d.released.erase r
             reorder := match r.relNo with
               | some n => d.reorder ++ [{ flow := t.flow, relNo := n, reserved := t.held, outs := [], ended := false }]
               | none => d.reorder }
  let s := s.modEasel k fun x =>
    { x with bank := b, run := .running, brkSkip := false, shadow := if x.run = .running then some x.bank else x.shadow
             shadowKnown := if x.run = .running then x.scrKnown else x.shadowKnown
             scrKnown := if s.pooled then some [] else none }
  s.trace 0 k b.task (s.time - r.epoch * s.epoch.length)

/-- A BLOCK entry: the task waits for a reason of Table 5-13. -/
def State.block (s : State) (r : Released) (easel why : Nat) : State :=
  s.trace 4 easel ((s.task r.task).bank r).task why

/-- The Easel takes the task, is pre-empted for it once quiet, or the task waits. -/
def State.offerTask (s : State) (k : Fin 8) (r : Released) : State :=
  let urgent := (s.task r.task).urgent
  if s.idle k then s.enter k r
  else if urgent && s.preemptable k then
    if s.easels[k].quiet then s.enter k r else s
  else if s.halted k then s.block r k 4
  else if urgent && s.easels[k].run == .running then s.block r k 3
  else s

/-- The first task that may run, and what those before it wait for. -/
def State.firstRun (s : State) : List Released → List (Released × Nat) × Option Released
  | [] => ([], none)
  | r :: t =>
    match s.waits r with
    | some w => let (l, x) := s.firstRun t; ((r, w) :: l, x)
    | none => ([], some r)

def State.blockAll (s : State) (easel : Nat) (l : List (Released × Nat)) : State :=
  l.foldl (fun s x => s.block x.1 easel x.2) s

/-- One Easel takes from its own flows (R151). -/
def State.decideBound (s : State) (k : Fin 8) : State :=
  let mine := s.sortRel (s.dsp.released.filter fun r => s.flowEasel (s.task r.task).flow == k.val)
  let (l, x) := s.firstRun mine
  let s := s.blockAll k l
  match x with
  | some r => s.offerTask k r
  | none => s

/-- The Easel an URGENT task pre-empts: the lowest level, and the highest number among equals. -/
def State.victim (s : State) : Option (Fin 8) :=
  ((List.finRange 8).filter s.preemptable).foldl (fun (b : Option (Fin 8)) (k : Fin 8) =>
    match b with
    | none => some k
    | some j => if s.easels[k].bank.task.level ≤ s.easels[j].bank.task.level then some k else some j) none

/-- One decision of POOLED dispatch (R152). -/
def State.decidePooled (s : State) : State :=
  let (l, x) := s.firstRun (s.sortRel s.dsp.released)
  let s := s.blockAll 15 l
  match x with
  | none => s
  | some r =>
    match (List.finRange 8).find? s.idle with
    | some k => s.enter k r
    | none =>
      if !(s.task r.task).urgent then s
      else match s.victim with
        | some k => s.offerTask k r
        | none => s.block r 15 3

/-- Easels whose task ended in a fault go on to their shadow task or idle (R91). -/
def State.settleFaults (s : State) : State :=
  (List.finRange 8).foldl (fun (s : State) (k : Fin 8) => if s.easels[k].run = .faultExit then s.settle k else s) s

/-- DISPATCH_DECISION. After the boundary at which a stop takes effect nothing is dispatched (R143). -/
def execDispatchDecision (s : State) : Res :=
  .next (if !s.awake then s
    else
      let s := s.settleFaults
      match s.dsp.running with
      | none => s
      | some c =>
        if s.dsp.mode = .empty ∨ (s.dsp.mode = .stopping ∧ s.dsp.stopEpoch < s.epoch.n) then s
        else if c.pooled then s.decidePooled
        else (List.finRange 8).foldl State.decideBound s)

/-! ## Quarantine release (R93, R157) -/

/-- FLOW_RELEASE_WRITE: a DSP_QREL write under any session. -/
def execFlowReleaseWrite (w : Word) (s : State) : Res :=
  .next (s.asRole 1 fun s =>
    let f := fieldOf w 0 9
    if !flagOf w 31 || !s.dsp.quarantine.contains f || s.standby then s
    else (s.logInput (.flowRelease f s.pcieRole)).modDsp fun d =>
      { d with releases := d.releases ++ [(f, s.pcieRole, s.epoch.n)] })

/-- Bytes of an address range as a section loads them, 0 elsewhere (R135, R157). -/
def loadedBytes (sec : List Byte) (lo len : Nat) : List Byte :=
  let a := leAt sec 0 4
  (List.range len).map fun i => if a ≤ lo + i then sec.getD (4 + (lo + i - a)) 0 else 0

/-- The state range of a flow is loaded from the running Cartoon. -/
def State.reloadFlow (s : State) (c : Cartoon) (flow : Nat) : State :=
  let f := c.secBytes 0x02
  let base := leAt f (16 * flow + 4) 4
  let len := leAt f (16 * flow + 8) 4
  if c.pooled then
    s.modAtelier fun t => t.write base (loadedBytes (c.secBytes 0x05) base len)
  else
    let k : Fin 8 := Fin.ofNat 8 (leAt f (16 * flow + 1) 1)
    let sec := match c.sec 0x06 k with
      | some x => x.bytes
      | none => []
    s.modEasel k fun x => { x with scratch := memWrite x.scratch base (loadedBytes sec base len)
                                   scrPoison := clearPoison x.scrPoison base len }

/-- FLOW_RESTART: the first release due restarts its flow under ordered rules. -/
def execFlowRestart (s : State) : Res :=
  .next (match s.dsp.running, s.dsp.releases.find? fun r => decide (r.2.2 < s.epoch.n) with
    | some c, some r =>
      if !s.dsp.live || s.dsp.inSwapEpoch then s
      else
        let (f, role, _) := r
        let s := s.modDsp fun d => { d with releases := d.releases.erase r }
        if !s.dsp.quarantine.contains f then s
        else
          let s := (s.reloadFlow c f).modDsp fun d =>
            { d with quarantine := d.quarantine.erase f, ordered := tblPut (fun _ => 0) d.ordered f c.startupEpochs }
          s.emit evFlowReleased f role
    | _, _ => s)

/-! ## Trace and keys (R160, R163) -/

/-- A write of DSP_TRACE_CTL. -/
def execTraceClear (w : Word) (s : State) : Res :=
  .next (s.bar fun s => s.modDsp fun d =>
    let d := { d with traceOn := flagOf w 0, traceStop := flagOf w 1, traceEasels := fieldOf w 8 8
                      traceKinds := fieldOf w 16 8 }
    if flagOf w 31 then { d with trace := [], traceNext := 0, traceFull := false, traceLost := 0 } else d)

/-- DSP_KEY_DATA_WRITE. -/
def execDspKeyDataWrite (w : Word) (s : State) : Res :=
  .next (s.bar fun s => s.modDsp fun d => { d with keyWords := keepWord 12 d.keyWords w })

/-- Bytes of the words of a hash, the first word most significant (Table 5-31). -/
def hashBytes (ws : List Word) : List Byte := ws.flatMap fun w => toBE 4 w.toNat

/-- DSP_KEY_PROGRAM. -/
def execDspKeyProgram (slot : Fin 4) (s : State) : Res :=
  if !s.awake then .next s else
  let ws := s.dsp.keyWords
  let ok := decide (3 ≤ s.pcieRole) && s.dsp.keys[slot].state == 0 && ws.length == 12
  let s := if 3 ≤ s.pcieRole then s.touch else s
  let s := s.modDsp fun d => { d with keyWords := [] }
  .next (if ok then s.modDsp fun d => { d with keys := d.keys.set slot { state := 1, hash := hashBytes ws } }
    else s.emit evCartoonKeyRefused slot 1)

/-- DSP_KEY_REVOKE. -/
def execDspKeyRevoke (slot : Fin 4) (s : State) : Res :=
  if !s.awake then .next s else
  let ok := decide (3 ≤ s.pcieRole)
  let s := if ok then s.touch else s
  let s := s.modDsp fun d => { d with keyWords := [] }
  .next (if ok then s.modDsp fun d => { d with keys := d.keys.set slot { d.keys[slot] with state := 2 } }
    else s.emit evCartoonKeyRefused slot 2)

end Sys2Proof.Machine
end

