-- ==== Sys2Proof/Machine/HostPort.lean ====
section
/-! DEFINITION. Host put and get ports, event queues, locks, mailboxes and the direct port
(R386 to R408). -/

namespace Sys2Proof.Machine

def State.signal (s : State) (v : Nat) : State := s.put (.msix v)

/-! ## Put and get ports (R390) -/

/-- HOST_PUT_GO: a write of HST_PUT_CTL (R390, R411). -/
def execHostPutGo (w : Word) (s : State) : Res :=
  .next (s.asRole 1 fun s => s.modHost fun h =>
    let h := { h with putLevel := fieldOf w 24 3, putQueue := fieldOf w 16 6, putLen := fieldOf w 0 12 }
    if flagOf w 31 ∧ h.putJob = none then
      { h with putJob := some { addr := h.putAddr, queue := h.putQueue, level := h.putLevel, len := h.putLen } }
    else h)

/-- HOST_GET_GO: a write of HST_GET_CTL. -/
def execHostGetGo (w : Word) (s : State) : Res :=
  .next (s.asRole 1 fun s => s.modHost fun h =>
    let h := { h with getQueue := fieldOf w 16 6, getCap := fieldOf w 0 12 }
    if flagOf w 31 ∧ h.getJob = none then
      { h with getJob := some { addr := h.getAddr, queue := h.getQueue, level := 0, len := h.getCap } }
    else h)

/-- The put word of a host put whose memory read gave `data`, none where it failed. The statuses
are judged 3, 2, 6, 1 (log entry 12). -/
def State.hostPut (s : State) (j : PortJob) (data : Option (List Byte)) : Word × State :=
  if j.len = 0 ∨ 2048 < j.len then (palWord 3 0 0, s)
  else if !s.palette.hostPut j.queue || (s.standby && j.queue == 23) then (palWord 2 0 0, s)
  else match data with
    | none => (palWord 6 0 0, s)
    | some bs =>
      let k : Packet := { level := j.level, bytes := bytesAt bs 0 j.len }
      let (ok, s) := s.putPacket j.queue k
      (if ok then palWord 0 0 k.cells else palWord 1 0 0, s)

/-- HOST_PUT_DONE (R390). A put waits while the free list is rebuilt (R380). -/
def execHostPutDone (data : Option (List Byte)) (s : State) : Res :=
  .next (match s.host.putJob with
    | none => s
    | some j =>
      if s.palette.rebuilds ≠ [] then s
      else
        let (w, s) := s.hostPut j data
        (s.modHost fun h => { h with putJob := none, putResult := w }).signal 24)

def State.hostGet (s : State) (j : PortJob) (ro : ReadOut) : Word × List Byte × State :=
  if j.len = 0 ∨ 2048 < j.len then (palWord 3 0 0, [], s)
  else if !s.palette.hostGet j.queue then (palWord 2 0 0, [], s)
  else s.getPacket j.queue j.len 4 ro

/-- HOST_GET_DONE (R390). -/
def execHostGetDone (ro : ReadOut) (s : State) : Res :=
  .next (match s.host.getJob with
    | none => s
    | some j =>
      let (w, bs, s) := s.hostGet j ro
      let s := if bs = [] then s else s.put (.hostWrite j.addr bs)
      (s.modHost fun h => { h with getJob := none, getResult := w }).signal 24)

/-! ## Event queues (R391 to R394) -/

/-- LOG2_SIZE as it reads back (Table 12-18). -/
def ringSizeOf (v : Nat) : Nat := if 4 ≤ v ∧ v ≤ 16 then v else 4

/-- A write of HST_EVQn_CFG; EN going from 0 to 1 restarts the writer (R392). -/
def Evq.writeCfg (q : Evq) (w : Word) : Evq :=
  let on := flagOf w 31
  let q := if on ∧ q.en = false then
      { q with head := 0, phase := 1, unsignalled := 0 } else q
  { q with en := on, log2Size := ringSizeOf (fieldOf w 24 5), minSev := fieldOf w 20 4
           classMask := fieldOf w 0 16 }

/-- EVQ_ENABLE (R392). -/
def execEvqEnable (n : Fin 8) (w : Word) (s : State) : Res :=
  .next (s.asRole 1 fun s => s.modHost fun h => h.modEvq n (·.writeCfg w))

/-- EVQ_TAIL_WRITE (R392). -/
def execEvqTailWrite (n : Fin 8) (w : Word) (s : State) : Res :=
  .next (s.asRole 1 fun s => s.modHost fun h => h.modEvq n fun q => { q with tail := fieldOf w 0 16 })

/-- The ring has room: one record is always left empty (R392). -/
def Evq.room (q : Evq) : Bool := (q.head + 1) % 2 ^ q.log2Size != q.tail

/-- The writer's head and phase after a record (R392). -/
def Evq.advance (q : Evq) : Evq :=
  let h := (q.head + 1) % 2 ^ q.log2Size
  { q with head := h, phase := if h = 0 then 1 - q.phase else q.phase }

/-- The vector is signalled at once after this record write (R393). -/
def Evq.signalsNow (q : Evq) (sev : Nat) : Bool :=
  decide (q.modCount ≤ q.unsignalled) || (q.urgent && decide (3 ≤ sev)) || q.modTime == 0

/-- The record is written to the ring, with its phase in byte 3 bit 0 (R392). -/
def State.ringWrite (s : State) (n : Nat) (b : List Byte) : State :=
  let q := s.host.q n
  let b3 := BitVec.ofNat 8 ((b.getD 3 0).toNat / 2 * 2 + q.phase)
  let s := s.put (.hostWrite (q.base + 32 * q.head) (b.set 3 b3))
  let q := { q.advance with unsignalled := q.unsignalled + 1
                            firstAt := if q.unsignalled = 0 then s.now else q.firstAt }
  if q.signalsNow (b.getD 2 0).toNat then
    (s.modHost fun h => h.modEvq n fun _ => { q with unsignalled := 0 }).signal n
  else s.modHost fun h => h.modEvq n fun _ => q

/-- EVQ_RECORD_WRITE (R392, R393). -/
def execEvqRecordWrite (n : Fin 8) (ro : ReadOut) (s : State) : Res :=
  .next (if (s.host.q n).en ∧ (s.host.q n).room then
      match s.readHead (24 + n) 5 ro with
      | (.packet k, s) => s.ringWrite n k.bytes
      | (_, s) => s
    else s)

/-- EVQ_MODERATION_TIMER (R393). -/
def execEvqModerationTimer (n : Fin 8) (s : State) : Res :=
  .next (if (s.host.q n).unsignalled ≠ 0 ∧ s.past (s.host.q n).firstAt ((s.host.q n).modTime * us) then
      (s.modHost fun h => h.modEvq n fun q => { q with unsignalled := 0 }).signal n
    else s)

/-! ## Locks (R399 to R402) -/

def HostIf.holder (h : HostIf) (k : Fin 32) : Nat := h.locks[k]

def HostIf.setHolder (h : HostIf) (k : Fin 32) (p : Nat) : HostIf := { h with locks := h.locks.set k p }

/-- An acquiring read by a party: 0 ACQUIRED, 1 BUSY, 2 BUSY_TIE (R399, R400). -/
def HostIf.acquire (h : HostIf) (k : Fin 32) (p : Nat) (arb : Arb) : Nat × HostIf :=
  match arb with
  | .tie => (2, h)
  | .tieCounted => (2, { h with ties := satAdd 16 h.ties 1 })
  | .chosen =>
    if h.holder k = 15 ∨ h.holder k = p then (0, h.setHolder k p) else (1, h)

/-- The word an acquiring read returns to the direct port and to PCIe (R399). -/
def lockWord (result holder : Nat) : Word := pack [(0, 2, result), (8, 4, holder)]

/-- A release by a party; the flag tells whether it held the lock (R401). -/
def HostIf.release (h : HostIf) (k : Fin 32) (p : Nat) : Bool × HostIf :=
  if h.holder k = p then (true, h.setHolder k 15)
  else (false, { h with foreign := satAdd 16 h.foreign 1 })

/-- A lock freed without its holder's write; LOCK_FORCED is recorded with the cause (R401). -/
def State.forceFree (s : State) (k : Fin 32) (cause : Nat) : State :=
  let p := s.host.holder k
  if p = 15 then s
  else (s.modHost fun h => h.setHolder k 15).emit evLockForced k p cause

/-- Every lock of the parties named is freed (R401). -/
def State.freeLocksOf (s : State) (mine : Nat → Bool) (cause : Nat) : State :=
  (List.finRange 32).foldl (fun s k => if mine (s.host.holder k) then s.forceFree k cause else s) s

/-- HOST_LOCK_READ (R399). -/
def execHostLockRead (k : Fin 32) (arb : Arb) (s : State) : Res :=
  s.barRead fun s =>
    let (r, h) := s.host.acquire k 9 arb
    ((lockWord r (h.holder k)).toNat, s.modHost fun _ => h)

/-- HOST_LOCK_WRITE (R401). -/
def execHostLockWrite (k : Fin 32) (s : State) : Res :=
  .next (s.bar fun s => s.modHost fun h => (h.release k 9).2)

/-- LOCK_FREE_WRITE (R401, Table 12-24). -/
def execLockFreeWrite (w : Word) (s : State) : Res :=
  .next (s.asRole 2 fun s =>
    if flagOf w 31 then s.forceFree (Fin.ofNat 32 (fieldOf w 0 5)) 0 else s)

/-- DP_LOCK_READ: while EN is 0 it returns BUSY and changes nothing (R398, R399). -/
def execDpLockRead (k : Fin 32) (arb : Arb) (s : State) : Res :=
  s.dpRead fun s =>
    if s.host.dpEn then
      let (r, h) := s.host.acquire k 10 arb
      ((lockWord r (h.holder k)).toNat, s.modHost fun _ => h)
    else ((lockWord 1 (s.host.holder k)).toNat, s)

/-- DP_LOCK_WRITE (R401). -/
def execDpLockWrite (k : Fin 32) (s : State) : Res :=
  .next (if s.dpUp then s.modHost fun h => (h.release k 10).2 else s)

/-! ## Mailboxes (R403 to R408) -/

/-- Channel `c`. -/
def HostIf.ch (h : HostIf) (c : Fin 16) : Mbx := h.mbx[c]

def HostIf.modCh (h : HostIf) (c : Fin 16) (f : Mbx → Mbx) : HostIf :=
  { h with mbx := h.mbx.set c (f h.mbx[c]) }

def State.modCh (s : State) (c : Fin 16) (f : Mbx → Mbx) : State := s.modHost fun h => h.modCh c f

/-- The end of a party is dead (R407, R409). Parties: 0 none, 1 Easels, 2 PCIe host, 3 direct
port, 4 supervisor. -/
def State.endDead (s : State) (party : Nat) : Bool :=
  match party with
  | 1 => s.dsp.mode == .empty || s.pwr.state == .sleep || s.pwr.state == .deep ||
      s.pwr.state == .off || s.standby
  | 2 => !s.host.mbxUp
  | 3 => !s.host.dpEn
  | 4 => !s.host.supervisorUp
  | _ => true

/-- Inbound queue of a party's end. -/
def Mbx.inbound (m : Mbx) (party : Nat) : MbxQueue :=
  if m.end0 = party then m.toEnd0 else m.toEnd1

/-- Queue toward the other end. -/
def Mbx.outbound (m : Mbx) (party : Nat) : MbxQueue :=
  if m.end0 = party then m.toEnd1 else m.toEnd0

/-- The party at the other end. -/
def Mbx.peer (m : Mbx) (party : Nat) : Nat := if m.end0 = party then m.end1 else m.end0

/-- The party is an end of the channel; none is an end of an unjoined one. -/
def Mbx.has (m : Mbx) (party : Nat) : Bool := party != 0 && (m.end0 == party || m.end1 == party)

def Mbx.setInbound (m : Mbx) (party : Nat) (q : MbxQueue) : Mbx :=
  if m.end0 = party then { m with toEnd0 := q } else { m with toEnd1 := q }

def Mbx.setOutbound (m : Mbx) (party : Nat) (q : MbxQueue) : Mbx :=
  if m.end0 = party then { m with toEnd1 := q } else { m with toEnd0 := q }

/-- A send by a party with its source ID: 0 OK, 1 FULL, 2 DEAD, judged in the order of R404. A
word that arrives in an empty inbound queue of the host signals its vector (Table 12-5). -/
def State.send (s : State) (c : Fin 16) (party src : Nat) (w : Word) : Nat × State :=
  let m := s.host.ch c
  let q := m.outbound party
  if !m.has party || s.endDead party || s.endDead (m.peer party) then (2, s)
  else if 16 ≤ q.words.length then (1, s)
  else
    let s' := s.modCh c fun m => m.setOutbound party
      { q with words := q.words ++ [{ word := w, source := src, sentAt := s.now }] }
    (0, if m.peer party = 2 ∧ q.words = [] then s'.signal (8 + c) else s')

/-- A take by a party: the oldest inbound word and its source, or 0 and 15 (R405). -/
def State.take (s : State) (c : Fin 16) (party : Nat) : Word × Nat × State :=
  let m := s.host.ch c
  match (m.inbound party).words, m.has party with
  | x :: rest, true =>
    (x.word, x.source, s.modCh c fun m => m.setInbound party
      { words := rest, timedOut := if rest = [] then false else (m.inbound party).timedOut })
  | _, _ => (0, 15, s)

/-- An end becomes dead or alive: on death the queue toward it is emptied; MAILBOX_DEAD_END is
recorded for each channel of the party (R407). -/
def State.endChange (s : State) (party : Nat) (dead : Bool) : State :=
  (List.finRange 16).foldl (fun s c =>
    let m := s.host.ch c
    if m.has party then
      let n := if dead then (m.inbound party).words.length else 0
      let s := if dead then s.modCh c fun m => m.setInbound party MbxQueue.empty else s
      s.emit evMailboxDeadEnd c party n (bit dead)
    else s) s

/-- The Easels ends follow what keeps them alive. -/
def State.easelEnds (s : State) (was : Bool) : State :=
  if s.endDead 1 = was then s else s.endChange 1 (s.endDead 1)

/-- HOST_MBX_TX: ignored where the host is not an end (R404, Table 12-21). -/
def execHostMbxTx (c : Fin 16) (w : Word) (s : State) : Res :=
  .next (s.bar fun s => if (s.host.ch c).has 2 then
      let (r, s) := s.send c 2 9 w
      s.modCh c fun m => { m with hostLastTx := r }
    else s)

/-- HOST_MBX_RX (R405). -/
def execHostMbxRx (c : Fin 16) (s : State) : Res :=
  s.barRead fun s =>
    let (w, src, s) := s.take c 2
    (w.toNat, s.modCh c fun m => { m with hostSrc := src })

/-- Status word of a party's end, as HST_MBXc_ST; 0 where it is not an end (Table 12-21). -/
def State.mbxStatus (s : State) (c : Fin 16) (party : Nat) (timeout : Bool) (lastTx : Nat) : Word :=
  let m := s.host.ch c
  if m.has party then
    pack [(31, 1, bit timeout), (28, 3, lastTx),
      (24, 4, match (m.inbound party).words with
        | x :: _ => x.source
        | [] => 15),
      (16, 5, (m.inbound party).words.length), (8, 5, (m.outbound party).words.length),
      (0, 1, bit (!s.endDead (m.peer party)))]
  else 0

/-- DP_MBX_TAKE (R405). -/
def execDpMbxTake (c : Fin 16) (s : State) : Res :=
  s.dpRead fun s =>
    let (w, _, s) := s.take c 3
    (w.toNat, s)

/-- A refused direct-port write is counted and recorded (R398). -/
def State.dpRefuse (s : State) (word data : Nat) : State :=
  let ts := s.now :: recentTimes s.host.dpTimes s.now
  (s.modHost fun h => { h with dpRefused := satAdd 16 h.dpRefused 1, dpTimes := ts }).emit
    evDpWriteRefused word data ts.length

/-- DP_MBX_SEND: DEAD while EN is 0, and counted as refused where the channel has no direct-port
end (R398, R404). -/
def execDpMbxSend (c : Fin 16) (w : Word) (s : State) : Res :=
  .next (if !s.dpUp then s
    else if (s.host.ch c).has 3 then
      let (r, s) := s.send c 3 10 w
      s.modCh c fun m => { m with dpLastTx := r }
    else s.dpRefuse (0x40 + c) w.toNat)

/-- DP_MBX_STATUS_READ: TIMEOUT is then cleared (Table 12-9). -/
def execDpMbxStatusRead (c : Fin 16) (s : State) : Res :=
  s.dpRead fun s =>
    let m := s.host.ch c
    ((s.mbxStatus c 3 m.dpTimeout m.dpLastTx).toNat, s.modCh c fun m => { m with dpTimeout := false })

/-- MAILBOX_TIMEOUT: the oldest word of a queue has waited longer than MBX_TMO (R406). -/
def execMailboxTimeout (c : Fin 16) (toEnd1 : Bool) (s : State) : Res :=
  let m := s.host.ch c
  let q := if toEnd1 then m.toEnd1 else m.toEnd0
  let sender := if toEnd1 then m.end0 else m.end1
  .next (match q.words with
    | [] => s
    | x :: _ =>
      if q.timedOut || decide (s.now ≤ x.sentAt + m.tmo * us) then s
      else
        let s := s.modCh c fun m =>
          { (if toEnd1 then { m with toEnd1 := { q with timedOut := true } }
             else { m with toEnd0 := { q with timedOut := true } }) with
            hostTimeout := m.hostTimeout || sender == 2
            dpTimeout := m.dpTimeout || sender == 3 }
        let s := if sender = 2 then s.signal (8 + c) else s
        s.emit evMailboxTimeout c x.source q.words.length)

/-- MBX_HOST_UP_WRITE (R407, R411). -/
def execMbxHostUpWrite (up : Bool) (s : State) : Res :=
  .next (s.asRole 1 fun s =>
    if s.host.mbxUp = up then s
    else (s.modHost fun h => { h with mbxUp := up }).endChange 2 (!up))

/-- SUPERVISOR_MAILBOX_ANSWER: no chapter defines a request on channel 15, so the answer to any
word is 0xFFFF_FFFF (R403). A FULL answer is sent later (R408). -/
def execSupervisorMailboxAnswer (s : State) : Res :=
  .next (if s.endDead 4 then s
    else
      let n := ((s.host.ch 15).inbound 4).words.length
      let (_, _, s) := s.take 15 4
      let owed := s.host.mbxOwed + min n 1
      if owed = 0 then s
      else
        let (r, s) := s.send 15 4 8 0xFFFFFFFF#32
        s.modHost fun h => { h with mbxOwed := if r = 1 then owed else owed - 1 })

/-! ## The direct port (R396 to R398) -/

/-- DP_TIME_READ: low time, and the high word held (Table 12-9). -/
def execDpTimeRead (s : State) : Res :=
  s.dpRead fun s => ((lo32 s.time).toNat, s.modHost fun h => { h with dpHigh := hi32 s.time })

/-- DP_PROBE_COUNT_READ (Table 12-9). -/
def execDpProbeCountRead (s : State) : Res :=
  s.dpRead fun s =>
    ((pack [(16, 16, s.host.dpInvalid), (0, 16, s.host.dpProbes)]).toNat,
      s.modHost fun h => { h with dpInvalid := 0, dpProbes := 0 })

/-- A word whose write has an effect of its own: the stop word, locks and mailbox data. -/
def dpWritable (word : Nat) : Bool :=
  word == 2 || (decide (0x20 ≤ word) && decide (word ≤ 0x4F))

/-- DP_WRITE to an ignored word (R398). -/
def execDpWrite (word : BitVec 24) (data : Word) (s : State) : Res :=
  .next (if dpWritable word.toNat || !s.dpUp then s else s.dpRefuse word.toNat data.toNat)

/-- DP_EN_WRITE (R398, R401, R407, R411). -/
def execDpEnWrite (en : Bool) (s : State) : Res :=
  .next (s.asRole 2 fun s =>
    if s.host.dpEn = en then s
    else
      let s := s.modHost fun h => { h with dpEn := en }
      let s := if en then s else s.freeLocksOf (· == 10) 3
      s.endChange 3 (!en))

end Sys2Proof.Machine
end

