-- ==== Sys2Proof/Machine/Cartoons.lean ====
section
/-! DEFINITION. Dispatcher commands: loading, starting, stopping, storing and swapping Cartoons (R137 to
R143, R155, R156, R158, R159). -/

namespace Sys2Proof.Machine

/-! ## Results (Table 5-21) -/

/-- SECTION and DETAIL as an event parameter (Table 5-32). -/
def Verdict.packed (v : Verdict) : Nat :=
  v.section_ * 2 ^ 27 + (match v.detail with
    | some d => min d (2 ^ 27 - 1)
    | none => 2 ^ 27 - 1)

/-- DSP_RESULT of a command; CARTOON_REFUSED where it is refused. -/
def State.result (s : State) (cmd identity : Nat) (v : Verdict) : State :=
  let s := s.modDsp fun d =>
    { d with resCmd := cmd, resCode := v.code, resSection := v.section_
             resDetail := match v.detail with
               | some n => min n 0xFFFE
               | none => 0xFFFF }
  if v.code = 0 then s else s.emit evCartoonRefused cmd v.code v.packed identity

def success : Verdict := { code := 0, detail := some 0, section_ := 0 }
def refusal (code : Nat) : Verdict := { code := code, detail := some 0, section_ := 0 }

def State.refuse (s : State) (cmd code : Nat) : State := s.result cmd 0 (refusal code)

def Dsp.isBusy (d : Dsp) : Bool := d.busy != 0 || d.mode == .stopping

/-- A command under a session of rank `r` or above: refused with 1, with 22 in a unit of a pair that
does not serve where the pair shares the command, and with 13 while a command runs (R137, R159). -/
def State.command (s : State) (cmd r : Nat) (shared : Bool) (f : State → State) : Res :=
  .next (s.bar fun s => if s.pcieRole < r then s.refuse cmd 1
    else
      let s := s.touch
      if shared && s.rbit rTwnCfg 0 && !s.serving then s.refuse cmd 22
      else if s.dsp.isBusy then s.refuse cmd 13
      else f s)

/-! ## Stage set-up (R131, R140, R383) -/

/-- Queue limits, reserves and access, and the ends of channels 0 to 14; both queues of a channel whose
ends change are emptied (R383, Table 12-12). -/
def State.applyQueues (s : State) (b : Option (List Byte)) : State :=
  let s := s.modPalette fun p =>
    { p with queues := Vector.ofFn fun (q : Fin 64) =>
        let x := p.queues[q]
        match b with
        | none => { x with limit := 8192, reserve := 128, access := 0 }
        | some b => { x with reserve := leAt b (8 * q) 2, limit := leAt b (8 * q + 2) 2, access := leAt b (8 * q + 4) 1 } }
  s.modHost fun h =>
    { h with mbx := Vector.ofFn fun (c : Fin 16) =>
        let m := h.mbx[c]
        if c.val = 15 then m
        else
          let b := b.getD []
          let o := 512 + 8 * c.val
          let e0 := leAt b o 1
          let e1 := leAt b (o + 1) 1
          let m := if m.end0 = e0 ∧ m.end1 = e1 then m else { m with toEnd0 := .empty, toEnd1 := .empty }
          { m with end0 := e0, end1 := e1, tmo := leAt b (o + 4) 4 } }

/-- Glaze tables whose ROUTE or BIN_LEN changes are cleared (R243). -/
def State.keepGlaze (s : State) (old new : List Byte) : State :=
  let same (z : Nat) : Bool :=
    decide (z < (loopsHdr old).zc) && decide (z < (loopsHdr new).zc) &&
    (glazeAt old z).route == (glazeAt new z).route && (glazeAt old z).binLen == (glazeAt new z).binLen
  s.modGdl fun g => { g with glaze := g.glaze.filter fun x => same (x.1 / 256) }

/-- Words of an EASEL section from index 0; the rest is the fill word (R135). -/
def imemOf (b : List Byte) : Tbl Word :=
  tblPutList imemFill [] 0 ((List.range (b.length / 4)).map fun i => BitVec.ofNat 32 (leAt b (4 * i) 4))

def Cartoon.easelImage (c : Cartoon) (k : Nat) : Tbl Word :=
  match c.sec 0x03 k with
  | some x => imemOf x.bytes
  | none => []

/-- A memory as a SCRATCH or ATELIER section loads it, from offset `base` of the address space. -/
def memOf (b : List Byte) (base : Nat) : Tbl Byte := memWrite [] (leAt b 0 4 - base) (b.drop 4)

def Cartoon.scratchImage (c : Cartoon) (k : Nat) : Tbl Byte :=
  match c.sec 0x06 k with
  | some x => memOf x.bytes 0
  | none => []

def Cartoon.atelierImage (c : Cartoon) : Tbl Byte :=
  match c.sec 0x05 0 with
  | some x => memOf x.bytes atlBase
  | none => []

/-- Canvas set-up of Table 6-4. -/
def Canvas.setUp (c : Canvas) (b : List Byte) : Canvas :=
  { c with period := leAt b 0 1, lostHops := leAt b 1 1, parkHops := leAt b 2 1, lostTime := leAt b 4 2, n := leAt b 8 4
           map := b.drop 32 }

/-- A section's bytes are replaced. -/
def Cartoon.withSec (c : Cartoon) (type : Nat) (b : List Byte) : Cartoon :=
  { c with sections := c.sections.map fun (x : Section) =>
      if x.type == type && x.flags == 0 then { x with bytes := b } else x }

/-- A slot plan whose sub-GHz channel is outside the unit's band carries no sub-GHz span. -/
def bandPlan (radio : Option (List Byte)) (p : List Byte) : List Byte :=
  if planRate p == 0 || inBand radio (planSubChan p) then p else p.set 2 0

/-- A sub-GHz channel setting outside the unit's band is refused from any source: the Cartoon comes into force
with the channel and the channel plan in force before it (R3, R4). -/
def State.banded (s : State) (c : Cartoon) : Cartoon :=
  let p := c.secBytes 0x11
  let radio := c.secOpt 0x17
  if (planRate p == 0 && radio.isNone) || inBand radio (planSubChan p) then c
  else
    let (c0, sp) := channelPlan s.rfb.radio
    let c := match radio with
      | some b => c.withSec 0x17 (toLE 4 c0 ++ toLE 2 sp ++ b.drop 6)
      | none => c
    let p := match s.air.plan with
      | some old => p.set 3 (BitVec.ofNat 8 (planSubChan old))
      | none => p.set 2 0
    c.withSec 0x11 (bandPlan (c.secOpt 0x17) p)

/-! ## Cold start (R140) -/

/-- The dispatcher and matching store empty (R140, R143). -/
def Dsp.emptied (d : Dsp) : Dsp :=
  { d with instances := [], released := [], reorder := [], results := [], quarantine := [], releases := []
           arrivals := d.arrivals.map fun q => { q with items := [], owed := [], holdSince := none, refused := 0 }
           ordered := [], relNo := [], startup := false, startupLeft := 0, inSwapEpoch := false, swapTried := none
           deferrals := 0 }

/-- The epoch in progress at a cold start carries no work; the next boundary is the first. -/
def State.startEpoch (s : State) (len : Nat) : State :=
  let n := s.time / len
  s.modEpoch fun _ =>
    { n := n, length := len, nominal := n * len, begun := true, judged := true, late := false, prevLate := false
      outLate := false, ticked := true }

/-- A bank with nothing in it but the last task and its final count, as EAS_TASK and EAS_STEPS show them. -/
def Bank.cleared (b : Bank) : Bank := { Bank.zero with task := b.task, steps := b.steps }

/-- A cold start: 0 cold, 1 autoload, 2 test mode. -/
def State.coldStart (s : State) (c : Cartoon) (how : Nat) : State :=
  let old := s.section 0x13
  let c := s.banded c
  let s := { s with easels := Vector.ofFn fun (k : Fin 8) =>
    { s.easels[k] with imem := c.easelImage k, scratch := c.scratchImage k, imemPoison := [], scrPoison := []
                       bank := s.easels[k].bank.cleared, run := .idle, shadow := none, fifo := [], brkSkip := false
                       scrKnown := none, shadowKnown := none } }
  let s := s.modAtelier fun t => { t with mem := c.atelierImage, poison := [], writers := [] }
  let s := s.modDsp fun d =>
    { d.emptied with running := some c, mode := if how = 2 then .test else .running, startup := true
                     coldStarted := d.coldStarted || how != 2
                     startupLeft := c.startupEpochs + 1 }
  let s := s.startEpoch (500000 * 2 ^ c.epochLen)
  let s := s.modCanvas fun x => { x.setUp (c.secBytes 0x10) with
    robots := tblMap robotDefault (fun r => { r with reported := false }) x.robots }
  let s := (s.modCanvas fun x => { x with k := s.time / x.periodNs }).canvasStart
  let s := s.startPlan (c.secBytes 0x11)
  let s := s.keepGlaze old (c.secBytes 0x13)
  let s := s.startDrives (c.secBytes 0x14)
  let s := (s.applyQueues (c.secOpt 0x16)).setRadio (c.secOpt 0x17)
  (s.emit evCartoonStarted c.identity c.version how).easelEnds true

/-- CAP of each region (R139). -/
def State.caps (s : State) : List Nat := s.tfc.regions.toList.map (·.cap)

/-- READY is set and SKEW clear. -/
def State.fit (s : State) : Bool := s.tfc.ready && !s.tfc.pairs.any (·.skew)

/-- The checks of a start repeat: the contract, and READY without SKEW (R139, R140). -/
def State.startBad (s : State) (c : Cartoon) : Option Verdict :=
  match contractBad c s.caps with
  | some v => some v
  | none => if s.fit then none else some (refusal 19)

/-- A start command carries its Cartoon to the standby. -/
def State.startCartoon (s : State) (cmd : Nat) (c : Cartoon) (how : Nat) : State :=
  match s.startBad c with
  | some v => s.result cmd c.identity v
  | none => ((s.logInput (.start how)).coldStart c how).result cmd c.identity success

/-! ## LOAD (R138) -/

/-- LOAD: the staging area is replaced as soon as it begins (R137). -/
def execLoad (s : State) : Res :=
  s.command 1 2 true fun s =>
    if s.dsp.mode = .swapPending then s.refuse 1 13
    else s.modDsp fun d => { d with busy := 1, staged := none }

/-- LOAD_COMPLETE with what was read from host memory, none where the read failed. -/
def execLoadComplete (data : Option (List Byte)) (s : State) : Res :=
  .next (if s.dsp.busy ≠ 1 then s
    else
      let n := s.dsp.loadLen
      let s := s.modDsp fun d => { d with busy := 0 }
      if !lengthOk n then s.refuse 1 2
      else match data with
        | none => s.refuse 1 17
        | some bs =>
          let b := bytesAt bs 0 n
          let c := cartoonOf b
          match imageBad s.dsp.keys.toList s.caps b with
          | some v => s.result 1 c.identity v
          | none =>
            let s := (s.logInput (.load b)).modDsp fun d => { d with staged := some { cartoon := c, bytes := b } }
            (s.emit evCartoonLoaded c.identity c.version c.length).result 1 c.identity success)

/-! ## START, STOP and test mode (R140, R143, R158) -/

/-- The stored image as a start finds it: absent, or no longer valid (code 20, or its contract code). -/
def State.storedImage (s : State) : Option Cartoon × Verdict :=
  if !s.dsp.storedValid then (none, refusal 20)
  else match imageBad s.dsp.keys.toList s.caps s.dsp.stored with
    | none => (some (cartoonOf s.dsp.stored), success)
    | some v => (none, if 9 ≤ v.code ∧ v.code ≤ 12 then v else refusal 20)

/-- START of the staged image, or of the stored one where `stored`. -/
def execStart (stored : Bool) (s : State) : Res :=
  s.command 2 1 true fun s =>
    if s.dsp.mode ≠ .empty ∨ !s.fleet.fleetActive then s.refuse 2 13
    else if stored then
      match s.storedImage with
      | (some c, _) => (s.logInput (.load s.dsp.stored)).startCartoon 2 c 0
      | (none, v) => s.result 2 0 v
    else match s.dsp.staged with
      | some x => s.startCartoon 2 x.cartoon 0
      | none => s.refuse 2 20

/-- The Cartoon goes on to STOPPING; a pending swap is cancelled. -/
def State.beginStop (s : State) (cmd role : Nat) : State :=
  (s.logInput (.cartoonStop role)).modDsp fun d =>
    { d with mode := .stopping, stopRole := role, stopCmd := cmd, stopEpoch := s.epoch.n, deferrals := 0, swapE := 0 }

/-- STOP. -/
def execStop (s : State) : Res :=
  s.command 3 1 true fun s =>
    if s.dsp.live && s.fleet.fleetActive then s.beginStop 3 s.pcieRole else s.refuse 3 13

/-- TEST_ENTER. -/
def execTestEnter (s : State) : Res :=
  s.command 8 2 true fun s =>
    if s.dsp.mode ≠ .empty ∨ !s.fleet.fleetActive then s.refuse 8 13
    else match s.dsp.staged with
      | some x => s.startCartoon 8 x.cartoon 2
      | none => s.refuse 8 13

/-- TEST_EXIT. -/
def execTestExit (s : State) : Res :=
  s.command 9 2 false fun s => if s.dsp.mode = .test then s.beginStop 9 s.pcieRole else s.refuse 9 13

/-- Asynchronous requests have not been carried out. -/
def State.requested (s : State) : Bool :=
  s.easels.any (!·.fifo.isEmpty) || !s.canvas.incoming.isEmpty || !s.canvas.due.isEmpty ||
  !s.canvas.batch.isEmpty || !s.stk.incoming.isEmpty || !s.stk.due.isEmpty || !s.stk.batch.isEmpty ||
  !s.gdl.incoming.isEmpty || !s.gdl.due.isEmpty || !s.gdl.batch.isEmpty || !s.palette.jobs.isEmpty

/-- The work of the boundary at which a stop takes effect is done: tasks in service have run to END, and
asynchronous requests are carried out, their results to be discarded. -/
def State.stopDue (s : State) : Bool :=
  s.dsp.mode == .stopping && decide (s.dsp.stopEpoch < s.epoch.n) && s.inService.isEmpty && !s.requested

/-- CARTOON_STOP_EFFECT (R143, R401, R407). -/
def execCartoonStopEffect (s : State) : Res :=
  .next (if !s.stopDue then s
    else
      let (id, ver) := match s.dsp.running with
        | some c => (c.identity, c.version)
        | none => (0, 0)
      let cmd := s.dsp.stopCmd
      let was := s.endDead 1
      let s := s.modDsp fun d => { d.emptied with mode := .empty, stopCmd := 0 }
      let s := s.freeLocksOf (fun p => decide (p < 8)) 1
      let s := (s.emit evCartoonStopped id ver s.dsp.stopRole).easelEnds was
      if cmd = 0 then s else s.result cmd id success)

/-! ## SWAP (R155, R156) -/

/-- The swap epoch a command asks for, none where it is less than 2 epochs ahead. -/
def State.swapEpochFor (s : State) (reg : Nat) : Option Nat :=
  let len := max 1 s.epoch.length
  if reg = 0 then some (ceilDiv (s.time + 2 * len) len)
  else
    let e := extendStamp reg s.epoch.n
    if (e : Int) * len < s.time + 2 * len then none else some e.toNat

/-- SWAP. -/
def execSwap (s : State) : Res :=
  s.command 4 2 true fun s =>
    match s.dsp.staged, s.dsp.running with
    | some x, some old =>
      let c := x.cartoon
      if s.dsp.mode ≠ .running then s.refuse 4 13
      else if c.predIdentity ≠ old.identity ∨ c.predVersion ≠ old.version then s.result 4 c.identity (refusal 14)
      else match swapCondition old c with
        | some n => s.result 4 c.identity { code := 15, detail := some n, section_ := 0 }
        | none => match contractBad c s.caps with
          | some v => s.result 4 c.identity v
          | none => match s.swapEpochFor s.dsp.swapEpochReg with
            | none => s.result 4 c.identity (refusal 13)
            | some e =>
              ((s.logInput (.swap e)).modDsp fun d =>
                { d with mode := .swapPending, swapE := e, deferrals := 0, swapTried := none }).result 4 c.identity success
    | _, _ => s.refuse 4 13

/-- CANCEL_SWAP. -/
def execCancelSwap (s : State) : Res :=
  s.command 5 2 true fun s =>
    if s.dsp.mode = .swapPending then
      ((s.logInput .cancelSwap).modDsp fun d => { d with mode := .running, swapE := 0, deferrals := 0 }).result 5 0 success
    else s.refuse 5 13

/-- Asynchronous results are outstanding. -/
def State.outstanding (s : State) : Bool := !s.dsp.results.isEmpty || s.requested

/-- The swap at the boundary: deferred, or the swap epoch begins. -/
def State.judgeSwap (s : State) : State :=
  let n := s.epoch.n
  let s := s.modDsp fun d => { d with swapTried := some n }
  if s.epoch.prevLate || !s.inService.isEmpty || !s.dsp.released.isEmpty then
    let k := s.dsp.deferrals + 1
    let s := (s.modDsp fun d => { d with deferrals := k }).emit evCartoonSwapDeferred (n % 2 ^ 32) k
      (bit !s.epoch.prevLate)
    let s := if k < 16 then s
      else
        let v := match s.dsp.staged with
          | some x => x.cartoon.version
          | none => 0
        (s.modDsp fun d => { d with mode := .running, swapE := 0, deferrals := 0 }).emit evCartoonSwapAbandoned v (n % 2 ^ 32)
    s.releaseTasks
  else s.modDsp fun d => { d with inSwapEpoch := true }

/-- Images, stage sections and tables of the new Cartoon are written; instances carry over by task index
and operand slot. -/
def State.finishSwap (s : State) (old new : Cartoon) : State :=
  let new := s.banded new
  let s := { s with easels := Vector.ofFn fun (k : Fin 8) =>
    { s.easels[k] with imem := new.easelImage k, imemPoison := [] } }
  let k := s.dsp.deferrals
  let s := s.modDsp fun d =>
    { d with running := some new, mode := .running, deferrals := 0, swapE := 0
             instances := d.instances.filter fun i => decide (i.task < new.tasks) }
  let s := s.modDsp fun d => { d with high := max d.high d.used }
  let s := s.swapPlan (new.secBytes 0x11)
  let s := s.keepGlaze (old.secBytes 0x13) (new.secBytes 0x13)
  let s := s.swapDrives (new.secBytes 0x14)
  let s := (s.applyQueues (new.secOpt 0x16)).setRadio (new.secOpt 0x17)
  (s.trace 7 15 TaskCtx.none new.version).emit evCartoonSwapped new.version old.version (s.epoch.n % 2 ^ 32) k

/-- SWAP_EPOCH: at the boundary the swap is judged; in the swap epoch it is done once every outstanding
result has landed under the old table. -/
def execSwapEpoch (s : State) : Res :=
  .next (if !s.awake then s
    else if s.swapDue then s.judgeSwap
    else if s.dsp.mode = .swapPending ∧ s.dsp.inSwapEpoch ∧ !s.outstanding then
      match s.dsp.staged, s.dsp.running with
      | some x, some old => s.finishSwap old x.cartoon
      | _, _ => s
    else s)

/-- STARTUP_END (R154). -/
def execStartupEnd (s : State) : Res :=
  .next (match s.dsp.running with
    | some c =>
      if s.dsp.startup ∧ s.dsp.startupLeft = 0 then
        (s.modDsp fun d => { d with startup := false }).emit evStartupEnd c.identity (s.epoch.n % 2 ^ 32)
      else s
    | none => s)

/-! ## The stored area (R142) and autoload (R141) -/

/-- STORE: the stored area is erased at once. -/
def execStore (s : State) : Res :=
  s.command 6 2 false fun s =>
    if s.dsp.staged.isNone then s.refuse 6 13
    else s.modDsp fun d => { d with busy := 6, storedValid := false, stored := [] }

/-- STORE_COMPLETE with the flash status, 0 where the commit word reads back. It waits during a dip. -/
def execStoreComplete (status : BitVec 4) (s : State) : Res :=
  .next (match s.dsp.staged with
    | some x =>
      if s.dsp.busy ≠ 6 ∨ s.pwr.dip then s
      else
        let s := s.modDsp fun d => { d with busy := 0 }
        if status = 0 then
          ((s.modDsp fun d => { d with stored := x.bytes, storedValid := true }).emit evCartoonStored
            x.cartoon.identity x.cartoon.version).result 6 x.cartoon.identity success
        else s.result 6 x.cartoon.identity (refusal 21)
    | none => s)

/-- ERASE_STORED with the flash status of its erase. -/
def execEraseStored (status : BitVec 4) (s : State) : Res :=
  s.command 7 2 false fun s =>
    if status = 0 then (s.modDsp fun d => { d with stored := [], storedValid := false }).result 7 0 success
    else s.refuse 7 21

/-- AUTOLOAD: a failed check is recorded; the start waits for READY without SKEW, and for the unit to
serve. -/
def execAutoload (s : State) : Res :=
  .next (if !s.pwr.booted || !s.dsp.autoloadDue || !s.serving || s.dsp.mode != .empty then s
    else
      let fail (v : Verdict) : State :=
        (s.modDsp fun d => { d with autoloadDue := false }).emit evAutoloadFailed v.code v.packed
      if !s.dsp.storedValid then fail (refusal 20)
      else match imageBad s.dsp.keys.toList s.caps s.dsp.stored with
        | some v => fail v
        | none =>
          if !s.fit then s
          else (((s.modDsp fun d => { d with autoloadDue := false }).logInput (.load s.dsp.stored)).logInput (.start 1)).coldStart
            (cartoonOf s.dsp.stored) 1)

end Sys2Proof.Machine
end

