-- ==== Sys2Proof/Machine/Reset.lean ====
section
/-! DEFINITION. RESIGN, and the taking hold of a reset (R430, R512, R514, R519). -/

namespace Sys2Proof.Machine

/-! ## RESIGN (R430) -/

/-- The active announces that it is about to stop serving. -/
def State.resign (s : State) : State :=
  if s.twin.state = .active ∧ !s.pwr.resigned then (s.put (.twin .resign)).modPwr fun p => { p with resigned := true } else s

/-! ## Outputs held (R514) -/

/-- Outputs that are low from the start of a reset until BOOTED, and SVC_IRQ_N released. -/
def State.holdOutputs (s : State) : State :=
  ["PA24_EN", "PASG_EN", "TWHB_OUT", "PSG_OWN", "TP0", "BRIDGES"].foldl (fun s n => s.put (.pin n 0))
    (s.put (.pin "SVC_IRQ_N" 1))

/-! ## What survives (Table 17-5) -/

/-- STATE as PWR_STATUS and the power events code it. -/
def PowerState.code : PowerState → Nat
  | .run => 0
  | .quiet => 1
  | .sleep => 2
  | .deep => 3
  | .off => 0

/-- Failure counts and lockouts are kept in CI1 (R470). -/
def Channel.afterReset (c : Channel) (ci1 : Bool) : Channel :=
  if ci1 then { Channel.idle with fails := c.fails, lockoutEnd := c.lockoutEnd } else Channel.idle

def Sec.afterReset (c : Sec) (ci1 : Bool) : Sec :=
  { Sec.reset with
    pcie := c.pcie.afterReset ci1
    svc := c.svc.afterReset ci1
    makerKeys := c.makerKeys
    installerKeys := c.installerKeys
    operatorKeys := c.operatorKeys }

/-- The log and its generation are in flash; a clear in progress goes on at boot (R481). -/
def Pnt.afterReset (p : Pnt) : Pnt :=
  { Pnt.reset with
    slots := p.slots
    gen := p.gen
    next := p.next
    full := p.full
    clearing := p.clearing
    clearRole := p.clearRole
    clearOld := p.clearOld
    clearAtBoot := p.clearing }

/-- A reset does not clear the drift; the rails stay at their last value but after a POR. -/
def Region.afterReset (r : Region) (held : Bool) : Region :=
  { Region.reset with
    drift := r.drift
    railSet := if held then r.railSet else 0
    railRead := if held then r.railRead else 0 }

def Region.withPlan (r : Region) (c : PlanCopy) : Region :=
  { r with
    cap := c.cap
    railDesign := c.railDesign
    daysLeft := c.daysLeft
    sumXD := c.sumXD
    sumXX := c.sumXX }

/-- The operating hours, the sums and the margin plans as flash holds them: the part of a day since the last
sample is not counted (R65, log entry 59). -/
def Tfc.restorePlan (t : Tfc) : Tfc :=
  match t.planCopy with
  | none => t
  | some (h, l) =>
    { t with
      hours := h
      regions := Vector.ofFn fun (n : Fin 4) =>
        match l[n.val]? with
        | some c => t.regions[n].withPlan c
        | none => t.regions[n] }

def Tfc.afterReset (t : Tfc) (held : Bool) : Tfc :=
  { Tfc.reset with regions := t.regions.map (·.afterReset held), planCopy := t.planCopy }

/-- The counter goes on but after a POR; the reference stays accepted then. -/
def Tmb.afterReset (t : Tmb) (held : Bool) : Tmb :=
  if held then { Tmb.reset with raw := t.raw, running := t.running } else Tmb.reset

/-- Stop inputs are filtered in CI1 throughout; incarnations are stored in flash. -/
def Fleet.afterReset (f : Fleet) (kind : Nat) : Fleet :=
  { Fleet.reset with
    inputA := f.inputA
    inputB := f.inputB
    highSince := f.highSince
    incarnation := nextSeq f.storedIncarnation
    storedIncarnation := f.storedIncarnation
    incKind := kind }

def Dsp.afterReset (d : Dsp) : Dsp :=
  { Dsp.reset with stored := d.stored, storedValid := d.storedValid, keys := d.keys }

def Air.afterReset (a : Air) : Air :=
  { Air.reset with kFleet := a.kFleet, kField := a.kField, kLink := a.kLink, provCopy := a.provCopy }

def Rfb.afterReset (r : Rfb) (ci1 : Bool) : Rfb :=
  { Rfb.reset with retained := if ci1 then r.retained else none, snaps := r.snaps, snapAt := r.snapAt }

/-- The kept navigation data serve the start after the reset (R314). -/
def Gnss.afterReset (g : Gnss) : Gnss :=
  { Gnss.reset with nav := g.navFlash, navFlash := g.navFlash, stored := g.stored
                    again := g.survey == 1 || g.survey == 3 }

def Pfo.afterReset (p : Pfo) : Pfo :=
  { Pfo.reset with
    banks := p.banks
    recs := p.recs
    running := p.running
    staging := p.staging
    length := p.length
    bytes := p.bytes
    fuse := p.fuse
    keys := p.keys
    recCause := p.recCause }

/-- Fields whose reset value reads "From flash" keep what they hold. -/
def keepFlash (regs : Tbl Nat) : Tbl Nat :=
  regDefs.foldl (fun t d =>
    let v := tblGet regReset regs d.addr
    tblPut regReset t d.addr ((v &&& d.flash) ||| (d.reset &&& (d.mask ^^^ (d.flash &&& d.mask))))) []

def Pwr.afterReset (p : Pwr) (x : ResetInfo) : Pwr :=
  { Pwr.reset with
    last := x
    resets := if x.ci1Kept then satAdd 16 p.resets 1 else 0
    ret := if x.ci1Kept then p.ret else none
    extras := p.extras
    rtcValid := x.ci1Kept && p.rtcValid
    rtc := p.rtc
    rtcAt := p.rtcAt
    refOk := x.kind != 0 && p.refOk
    recovery := p.recovery
    vsysLow := p.vsysLow
    vsysWarn := p.vsysWarn
    cmp2 := p.cmp2
    tamper := p.tamper
    servedAt := x.time
    saved := p.saved }

/-- The device as a reset leaves it, before its boot. -/
def State.cleared (s : State) (x : ResetInfo) : State :=
  let held := x.kind != 0
  { State.reset with
    pending := s.pending
    now := s.now
    draws := s.draws
    ev := { State.reset.ev with out := s.ev.out }
    sec := s.sec.afterReset x.ci1Kept
    pnt := s.pnt.afterReset
    tmb := s.tmb.afterReset held
    fleet := s.fleet.afterReset x.kind
    air := s.air.afterReset
    rfb := s.rfb.afterReset x.ci1Kept
    tfc := s.tfc.afterReset held
    twin := Twin.reset s.twin.seatB
    pwr := s.pwr.afterReset x
    gnss := s.gnss.afterReset
    servo := { Servo.reset with seen := held && s.servo.seen }
    dsp := s.dsp.afterReset
    pfo := s.pfo.afterReset
    regs := keepFlash s.regs }

/-- Every session closes at a reset (R471). -/
def State.closeAtReset (s : State) : State :=
  [false, true].foldl (fun s svc =>
    let c := s.chan svc
    if c.role = 0 then s else s.emit evSessionClosed (bit svc) c.role (if s.roleOf c = 0 then 1 else 4)) s

/-- A reset of a kind and cause of Table 17-4 takes hold: RESIGN and the retention area first, where CI1
has not lost power. -/
def State.resetDevice (s : State) (kind cause : Nat) : State :=
  let ci1 := !(kind == 0 && cause == 0)
  let x : ResetInfo :=
    { kind := kind, cause := cause, ci1Kept := ci1, was := s.pwr.state.code, time := s.now }
  let s := if ci1 && (s.awake || s.pwr.state == .sleep) then s.closeAtReset.resign.retain else s
  (s.cleared x).holdOutputs

/-- SKEW_RESET of a pair (R64). -/
def execSkewReset (p : Fin 4) (s : State) : Res :=
  .next (if s.awake && s.skewReset p then s.resetDevice 2 5 else s)

end Sys2Proof.Machine
end

