-- ==== Sys2Proof/Machine/Portfolio.lean ====
section
/-! DEFINITION. The service port, Portfolio staging, examination, activation and trial (R486 to R500). -/

namespace Sys2Proof.Machine

/-! ## Identity and status words -/

/-- GCTL_ID (Table 18-10). -/
def gctlId : Word := pack [(16, 16, 0x9640), (12, 4, Config.variant), (0, 8, Config.stepping)]

/-- The bank-select record in force: the valid copy with the higher SEQ (R494). -/
def Pfo.record (p : Pfo) : BankRec :=
  match p.recs[0], p.recs[1] with
  | some a, some b => if a.seq < b.seq then b else a
  | some a, none => a
  | none, some b => b
  | none, none => { seq := 0, bank := 0, state := 0, attempts := 0, svn := 0, setVersion := 0 }

def Pfo.bank (p : Pfo) (b : Nat) : Option PfoBank := if b = 0 then p.banks[0] else p.banks[1]

/-- The set that runs. -/
def Pfo.set (p : Pfo) : Option PfoBank := p.bank p.running

/-- PFO_STATUS (Table 16-10). -/
def Pfo.status (p : Pfo) : Word :=
  pack [(18, 2, p.owner), (16, 2, p.staging), (8, 8, match p.set with | some x => x.svn | none => 0),
    (4, 2, p.record.attempts), (2, 2, p.record.state), (0, 1, p.record.bank)]

def Pfo.setVersion (p : Pfo) : Nat := match p.set with | some x => x.setVersion | none => 0

/-- A new record: first over one copy, then over the other (R494). -/
def Pfo.write (p : Pfo) (r : BankRec) : Pfo :=
  let r := { r with seq := (p.record.seq + 1) % 2 ^ 32 }
  { p with recs := #v[some r, some r] }

/-! ## The service port (R489, R490) -/

/-- The supervisor serves the port: it runs, or the unit is in recovery. -/
def State.svcUp (s : State) : Bool := (s.pwr.booted && s.awake) || s.pwr.inRecovery

/-- A response frame (Table 16-4). -/
def svcFrame (type seq : Nat) (payload : List Byte) : List Byte :=
  let b := toLE 1 (type % 128 + 128) ++ toLE 2 payload.length ++ toLE 2 seq ++ payload
  [0xA5#8] ++ b ++ toLE 4 (crc32 b)

/-- A response is ready. -/
def State.respond (s : State) (frame : List Byte) : State :=
  (s.modPfo fun p => { p with ready := some frame, svcFrames := satAdd 16 p.svcFrames 1 }).put (.pin "SVC_IRQ_N" 0)

/-- A request: discarded while a response waits, answered again where its SEQ is that of the last one
answered, and else executed; `f` gives the status, what follows it, and the effect. -/
def State.svcRequest (s : State) (type : Nat) (seq : BitVec 16) (f : State → Nat × List Byte × State) : Res :=
  .next (if !s.svcUp || s.pfo.ready.isSome then s
    else if s.pfo.lastSeq = some seq.toNat then s.respond s.pfo.stored
    else
      let (st, rest, s) := f s
      let r := svcFrame type seq.toNat (toLE 1 st ++ rest)
      (s.modPfo fun p => { p with lastSeq := some seq.toNat, stored := r }).respond r)

/-- A session of rank `r` on the port, which the request keeps alive; in recovery none is needed. -/
def State.svcAllows (s : State) (r : Nat) : Bool := s.pwr.inRecovery || decide (r ≤ s.svcRole)

def State.svcTouch (s : State) : State :=
  if s.svcRole = 0 then s else s.modChan true fun c => { c with lastUse := s.now }

/-- A request under a session: status 3 without it. -/
def State.svcSession (s : State) (r : Nat) (f : State → Nat × List Byte × State) : Nat × List Byte × State :=
  if s.svcAllows r then f s.svcTouch else (3, [], s)

/-- SVC_READ: the response shifts out. -/
def execSvcRead (s : State) : Res :=
  .next (match s.pfo.ready with
    | some r => ((s.modPfo fun p => { p with ready := none }).put (.svc r)).put (.pin "SVC_IRQ_N" 1)
    | none => s)

/-- SVC_REQUEST_INVALID: answered with status CRC or UNKNOWN; each failure of a CRC is counted. -/
def execSvcRequestInvalid (crcBad : Bool) (seq : BitVec 16) (type : Byte) (s : State) : Res :=
  let s := if crcBad && s.svcUp then s.modPfo fun p => { p with svcCrc := satAdd 16 p.svcCrc 1 } else s
  s.svcRequest type.toNat seq fun s => (if crcBad then 1 else 2, [], s)

/-- HELLO. -/
def execHello (seq : BitVec 16) (s : State) : Res :=
  s.svcRequest 0x01 seq fun s =>
    (0, toLE 4 gctlId.toNat ++ toLE 8 Config.serial ++ toLE 4 s.pfo.status.toNat ++ toLE 4 s.pfo.setVersion ++
      toLE 1 (bit s.pwr.inRecovery), s)

/-- SESS_OPEN on channel 1 (R469, R470). -/
def execSessOpen (seq : BitVec 16) (role : Byte) (chal : Vector Byte 32) (s : State) : Res :=
  s.svcRequest 0x02 seq fun s =>
    let r := role.toNat
    if s.pwr.inRecovery || r == 0 || decide (3 < r) then (2, [], s)
    else if s.now < s.sec.svc.lockoutEnd then (8, [], s)
    else (0, chal.toList, s.openSession true r chal.toList)

/-- SESS_PROVE. -/
def execSessProve (seq : BitVec 16) (response : Vector Byte 32) (s : State) : Res :=
  s.svcRequest 0x03 seq fun s =>
    if s.pwr.inRecovery then (2, [], s)
    else
      let (ok, s) := s.proveSession true response.toList
      (if ok then 0 else 3, [], s)

/-- SESS_CLOSE. -/
def execSessClose (seq : BitVec 16) (s : State) : Res :=
  s.svcRequest 0x04 seq fun s => s.svcSession 1 fun s => (0, [], s.closeSession true 0)

/-! ## Staging (R491, R492) -/

/-- Image length within Table 16-1. -/
def pfoLengthOk (n : Nat) : Bool := decide (1056 ≤ n) && decide (n ≤ 16777216) && n % 32 == 0

/-- The manifest header lies within the ranges of Table 16-1. -/
def manifestOk (b : List Byte) : Bool :=
  leAt b 0 4 == 0x4F465450 && leAt b 4 2 == 1 && decide (1 ≤ leAt b 6 1) && decide (leAt b 6 1 ≤ 8) &&
  decide (leAt b 7 1 ≤ 64) && pfoLengthOk (leAt b 8 4) && leAt b 12 4 != 0 && (bytesAt b 16 48).all (· == 0)

/-- The bank is claimed: erased, LOADING. -/
def State.claim (s : State) (owner len : Nat) : State :=
  s.modPfo fun p => { p with staging := 1, owner := owner, length := len, bytes := [], dataAt := s.now }

/-- A flash write of the download failed: the bank becomes EMPTY. -/
def State.stagingFailed (s : State) : State :=
  s.modPfo fun p => { p with staging := 0, owner := 0, length := 0, bytes := [] }

/-- STAGE_BEGIN with the flash status of the erase. -/
def execStageBegin (seq : BitVec 16) (len : BitVec 32) (flash : BitVec 4) (s : State) : Res :=
  s.svcRequest 0x10 seq fun s => s.svcSession 2 fun s =>
    if !pfoLengthOk len.toNat then (9, [], s)
    else if s.pfo.owner = 2 then (4, [], s.emit evStagingBusy 1 2)
    else if s.pwr.dip then (6, [], s)
    else if flash ≠ 0 then (7, [], s.stagingFailed)
    else (0, [], s.claim 1 len.toNat)

/-- The service port owns the staging bank, under a session that has not lapsed; in recovery none is needed
(R471, R491). -/
def State.ownsStaging (s : State) : Bool := s.pfo.owner == 1 && s.svcAllows 2

/-- STAGE_DATA. The next expected offset follows the status. -/
def execStageData (seq : BitVec 16) (off : BitVec 32) (data : List Byte) (flash : BitVec 4) (s : State) : Res :=
  s.svcRequest 0x11 seq fun s =>
    let next (s : State) := toLE 4 s.pfo.bytes.length
    let p := s.pfo
    if data.isEmpty || decide (4096 < data.length) then (2, [], s)
    else if !s.ownsStaging ∨ off.toNat ≠ p.bytes.length ∨ p.length < p.bytes.length + data.length then (5, next s, s)
    else
      let s := s.svcTouch
      if s.pwr.dip then (6, next s, s)
      else if flash ≠ 0 then
        let s := s.stagingFailed
        (7, next s, s)
      else
        let s := s.modPfo fun p => { p with bytes := p.bytes ++ data, dataAt := s.now }
        (0, next s, s)

/-- The download is COMPLETE. -/
def State.staged (s : State) (source : Nat) : State :=
  let b := s.pfo.bytes
  (s.modPfo fun p => { p with staging := 2, owner := 0 }).emit evPortfolioStaged (leAt b 12 4) b.length source (leAt b 7 1)

/-- STAGE_END. Of a header outside Table 16-1 the spec gives no status: a free value other than 0 (log
entry 4). -/
def execStageEnd (seq : BitVec 16) (flash : BitVec 4) (s : State) : Res :=
  s.svcRequest 0x12 seq fun s =>
    if !s.ownsStaging ∨ s.pfo.bytes.length ≠ s.pfo.length then (5, [], s)
    else
      let s := s.svcTouch
      if !manifestOk s.pfo.bytes then
        let (x, s) := s.draw
        (1 + x % 9, [], s)
      else if s.pwr.dip then (6, [], s)
      else if flash ≠ 0 then (7, [], s.stagingFailed)
      else (0, [], s.staged 1)

/-- STAGE_ABORT. -/
def execStageAbort (seq : BitVec 16) (s : State) : Res :=
  s.svcRequest 0x13 seq fun s => if !s.ownsStaging then (5, [], s) else (0, [], s.svcTouch.dropStaging 1)

/-- STAGING_TIMEOUT. -/
def execStagingTimeout (s : State) : Res :=
  .next (if s.pfo.owner ≠ 0 ∧ s.past s.pfo.dataAt (60 * second) then s.dropStaging 2 else s)

/-- A shared Portfolio from the partner: stored under R492, and the outcome sent back (R493). -/
def State.takeShared (s : State) (bytes : List Byte) : State :=
  let answer (s : State) (st : Nat) := s.put (.twin (.transfer (.outcome st)))
  if s.pfo.owner = 1 then answer (s.emit evStagingBusy 2 1) 4
  else if !pfoLengthOk bytes.length || !manifestOk bytes then answer s 5
  else if s.pwr.dip then answer s 6
  else answer (((s.claim 2 bytes.length).modPfo fun p => { p with bytes := bytes }).staged 2) 0

/-- The claim of a shared Portfolio is judged; a service claim of the same 100 µs has won by then (R491). -/
def State.judgeClaim (s : State) : State :=
  match s.pfo.claim with
  | some b => if s.now % (100 * us) = 0 then (s.modPfo fun p => { p with claim := none }).takeShared b else s
  | none => s

/-- The partner's outcome of a SHARE. -/
def State.takeOutcome (s : State) (status : Nat) : State :=
  if s.pfo.sharing then
    s.modPfo fun p => { p with sharing := false, code := if status = 0 then 0 else 9, detail := 0 }
  else s

/-! ## Confirmation and reboot (R497) -/

/-- A TRIAL set is confirmed and the fuse counter raised. -/
def State.confirm (s : State) (role : Nat) : State :=
  let r := s.pfo.record
  let s := s.modPfo fun p => { p.write { r with state := 2, attempts := 0 } with fuse := max p.fuse r.svn }
  s.emit evPortfolioConfirmed r.setVersion s.pfo.fuse role

/-- CONFIRM over the service port; in recovery it needs a session, and none can be open. -/
def execConfirm (seq : BitVec 16) (flash : BitVec 4) (s : State) : Res :=
  s.svcRequest 0x20 seq fun s =>
    if s.svcRole < 2 then (3, [], s)
    else
      let s := s.svcTouch
      if s.pfo.record.state ≠ 1 then (5, [], s)
      else if s.pwr.dip then (6, [], s)
      else if flash ≠ 0 then (7, [], s)
      else (0, [], s.confirm s.svcRole)

/-- REBOOT: the reset follows its response. -/
def execReboot (seq : BitVec 16) (s : State) : Res :=
  .next (if !s.svcUp || s.pfo.ready.isSome || s.pfo.lastSeq == some seq.toNat || !s.svcAllows 2 then
      match s.svcRequest 0x21 seq fun s => (3, [], s) with
      | .next t => t
      | _ => s
    else s.resetDevice 3 7)

/-- A PFO_CTL command under an INSTALLER session; a refusal shows code 8. -/
def State.pfoCommand (s : State) (ok : State → Bool) (f : State → State) : Res :=
  .next (s.bar fun s => if 2 ≤ s.pcieRole ∧ ok s.touch then f s.touch
    else s.modPfo fun p => { p with code := 8, detail := 0 })

/-- PFO_CONFIRM. -/
def execPfoConfirm (flash : BitVec 4) (s : State) : Res :=
  s.pfoCommand (fun s => s.pfo.record.state == 1 && !s.pwr.dip) fun s =>
    if flash ≠ 0 then s.modPfo fun p => { p with code := 7, detail := 0 }
    else (s.confirm s.pcieRole).modPfo fun p => { p with code := 0, detail := 0 }

/-- SHARE (R493). -/
def execShare (s : State) : Res :=
  s.pfoCommand (fun s => s.twin.state == .active && s.twin.link != 0 && s.pfo.staging == 2) fun s =>
    (s.modPfo fun p => { p with sharing := true }).put (.twin (.transfer (.portfolio s.pfo.bytes)))

/-- PFO_REBOOT. -/
def execPfoReboot (s : State) : Res := s.pfoCommand (fun _ => true) fun s => s.resetDevice 3 7

/-! ## Keys (R488) -/

/-- PFO_KEY_DATA_WRITE. -/
def execPfoKeyDataWrite (w : Word) (s : State) : Res :=
  .next (s.bar fun s => s.modPfo fun p => { p with keyWords := keepWord 12 p.keyWords w })

/-- PFO_KEY_PROGRAM. -/
def execPfoKeyProgram (slot : Fin 4) (s : State) : Res :=
  if !s.awake then .next s else
  let ws := s.pfo.keyWords
  let ok := decide (3 ≤ s.pcieRole) && s.pfo.keys[slot].state == 0 && ws.length == 12
  let s := if 3 ≤ s.pcieRole then s.touch else s
  let s := s.modPfo fun p => { p with keyWords := [] }
  let hash := ws.flatMap fun w => toBE 4 w.toNat
  .next (if ok then s.modPfo fun p => { p with keys := p.keys.set slot { state := 1, hash := hash } }
    else s.emit evPortfolioKeyRefused slot 1)

/-- PFO_KEY_REVOKE. -/
def execPfoKeyRevoke (slot : Fin 4) (s : State) : Res :=
  if !s.awake then .next s else
  let ok := decide (3 ≤ s.pcieRole)
  let s := if ok then s.touch else s
  let s := s.modPfo fun p => { p with keyWords := [] }
  .next (if ok then s.modPfo fun p => { p with keys := p.keys.set slot { p.keys[slot] with state := 2 } }
    else s.emit evPortfolioKeyRefused slot 2)

/-! ## Examination (R495, Table 16-8) -/

/-- Entry `k` of a manifest (Table 16-2). -/
def pfoEntry (b : List Byte) (k : Nat) : List Byte := bytesAt b (64 + 96 * k) 96

def pfoEntries (b : List Byte) : List (List Byte) := (List.range (leAt b 6 1)).map (pfoEntry b)

/-- Offset and end of a part. -/
def partSpan (e : List Byte) : Nat × Nat := (leAt e 8 4, leAt e 8 4 + leAt e 12 4)

/-- Header, entries and layout are within Tables 16-1 and 16-2. -/
def layoutOk (b : List Byte) : Bool :=
  let es := pfoEntries b
  let types := es.map fun e => leAt e 0 1
  let spans := es.map partSpan
  manifestOk b && leAt b 8 4 == b.length &&
  es.all (fun e => decide (1 ≤ leAt e 0 1) && decide (leAt e 0 1 ≤ 7) && leAt e 1 3 == 0 && leAt e 92 4 == 0 &&
    leAt e 8 4 % 32 == 0 && decide (1024 ≤ leAt e 8 4) && decide (1 ≤ leAt e 12 4) &&
    decide (leAt e 8 4 + leAt e 12 4 ≤ b.length)) &&
  (List.range 8).all (fun k => decide (k < es.length) || (pfoEntry b k).all (· == 0)) &&
  types.contains 1 && types.contains 2 && decide types.Nodup &&
  decide (spans.Pairwise fun x y => x.2 ≤ y.1 ∨ y.2 ≤ x.1)

/-- A part decrypted, where its tag holds (R487). -/
def pfoOpen (b e : List Byte) : Option (List Byte) :=
  gcmOpen Config.classKey (bytesAt e 16 12) (bytesAt b 0 16 ++ bytesAt e 0 16) (bytesAt b (leAt e 8 4) (leAt e 12 4))
    (bytesAt e 28 16)

/-- First code of Table 16-8 that fails, with its part entry; `flash` names an entry whose write fails. -/
def State.examine (s : State) (b : List Byte) (flash : Option (Fin 8)) : Option (Nat × Nat) :=
  let es := pfoEntries b
  let key := bytesAt b 832 96
  let badAt (p : List Byte → Bool) : Option Nat := es.findIdx? fun e => !p e
  if !layoutOk b then some (1, 0)
  else if !s.pfo.keys.toList.any (fun k => k.state == 1 && k.hash == sha384 key) then some (2, 0)
  else if !ecdsaVerify key (sha384 (b.take 832)) (bytesAt b 928 96) then some (3, 0)
  else if leAt b 7 1 < s.pfo.fuse then some (4, 0)
  else match badAt fun e => (pfoOpen b e).isSome with
    | some k => some (5, k)
    | none => match badAt fun e => sha384 ((pfoOpen b e).getD []) == bytesAt e 44 48 with
      | some k => some (6, k)
      | none => match flash with
        | some k => if k.val < es.length then some (7, k.val) else none
        | none => none

/-- The set a Portfolio makes: its parts, and those of the running set whose types it omits. -/
def State.newSet (s : State) (b : List Byte) : PfoBank :=
  let es := pfoEntries b
  let mine := es.map fun e =>
    ({ type := leAt e 0 1, version := leAt e 4 4, bytes := (pfoOpen b e).getD [] } : PfoPart)
  let old := match s.pfo.bank s.pfo.record.bank with
    | some x => x.parts
    | none => []
  { setVersion := leAt b 12 4
    svn := leAt b 7 1
    parts := mine ++ old.filter fun p => !mine.any fun q => q.type == p.type
    ok := true }

def Pfo.setBank (p : Pfo) (b : Nat) (x : Option PfoBank) : Pfo :=
  { p with banks := if b = 0 then p.banks.set 0 x else p.banks.set 1 x }

/-- A bank passes the check of its manifest and parts. -/
def Pfo.bankOk (p : Pfo) (b : Nat) : Bool :=
  match p.bank b with
  | some x => x.ok
  | none => false

/-- Bank an examined Portfolio is written to: the one not selected, and A where neither is valid. -/
def Pfo.target (p : Pfo) : Nat := if !p.bankOk 0 && !p.bankOk 1 then 0 else 1 - p.record.bank

/-- PORTFOLIO_EXAMINATION: before the boot goes on; what it finds is recorded at its end. -/
def execPortfolioExamination (flash : Option (Fin 8)) (s : State) : Res :=
  .next (
    let b := s.pfo.bytes
    let r := s.pfo.record
    if s.pwr.state ≠ .off ∨ !s.pwr.refOk ∨ s.pwr.inRecovery ∨ s.pfo.staging ≠ 2 then s
    else if r.setVersion = leAt b 12 4 ∧ r.svn = leAt b 7 1 then s.modPfo fun p => { p with staging := 3 }
    else match s.examine b flash with
      | some (code, k) =>
        s.modPfo fun p =>
          let p := if code = 7 then p.setBank p.target none else p
          { p with staging := 3, code := code, detail := k, exam := some (false, leAt b 12 4, code, k) }
      | none =>
        let t := s.pfo.target
        let x := s.newSet b
        s.modPfo fun p =>
          let p := (p.setBank t (some x)).write
            { seq := 0, bank := t, state := 1, attempts := 0, svn := x.svn, setVersion := x.setVersion }
          { p with staging := 3, code := 0, detail := 0, exam := some (true, x.setVersion, t, x.svn) })

/-- ATTEMPTS_CLEAR: 10 s of served heartbeat in a CONFIRMED set (R496). -/
def execAttemptsClear (s : State) : Res :=
  let served := match s.twin.hbServedAt with
    | some t => decide (s.now < t + 50 * ms) && s.past s.pfo.upAt (10 * second)
    | none => false
  .next (if s.pwr.booted && served && s.pfo.record.state == 2 && s.pfo.record.attempts != 0 then
      s.modPfo fun p => p.write { p.record with attempts := 0 } else s)

end Sys2Proof.Machine
end

