-- ==== Sys2Proof/Machine/Twin.lean ====
section
/-! DEFINITION. Epoch boundaries, the input log, output digests, and the states of a unit of a twin pair
(R46, R144, R367 to R369, R413 to R439). -/

namespace Sys2Proof.Machine

def TwinState.code : TwinState → Nat
  | .solo => 0
  | .active => 1
  | .standbySyncing => 2
  | .standbyInstep => 3
  | .isolated => 4
  | .faulted => 5

/-- TWN_CFG.PAIR. -/
def State.paired (s : State) : Bool := s.rbit rTwnCfg 0

/-- The unit takes messages of the link: it is awake in a pair and the link is up. -/
def State.linked (s : State) : Bool := s.awake && s.paired && s.twin.link != 0

/-- Epochs run in the unit's state (Table 13-2, R428, R432). -/
def State.runsEpochs (s : State) : Bool :=
  s.awake && match s.twin.state with
    | .solo | .active | .standbyInstep => true
    | .standbySyncing => s.twin.loaded
    | .isolated => s.twin.fromInstep
    | .faulted => false

/-! ## Applying the input log (R419, R420) -/

/-- A Palette packet of an arrival stands in the queue it came by. -/
def arrivalQueue (kind : Nat) (w : Word) : Option Nat :=
  match kind with
  | 1 | 2 => some (32 + fieldOf w 16 5)
  | 3 => some 23
  | 4 => some 19
  | 5 => some 20
  | _ => none

/-- A logged arrival: its packet is put and its slot filled. -/
def State.applyArrival (s : State) (kind sel : Nat) (w : Word) (k : Option Packet) : State :=
  let s := match arrivalQueue kind w, k with
    | some q, some k => s.modPalette fun p => (p.tryPut q k).2
    | _, _ => s
  match s.dsp.running.bind fun c => c.route kind sel with
  | some r => (s.fill r.task r.slot w 0).2
  | none => s

/-- One entry takes effect in the standby's deterministic plane. -/
def State.applyEntry (s : State) (e : Nat) : LogEntry → State
  | .arrival kind sel w k => s.applyArrival kind sel w k
  | .ack f => s.ackFrame f
  | .report g c => s.takeReport g c
  | .fabric task flow op d t =>
    s.modTwin fun x => { x with fabric := x.fabric ++ [{ task := task, flow := flow, op := op, d := d, t := t }] }
  | .admission b => s.modCanvas fun c => { c with admitShut := b }
  | .stop x subsumed _ => s.applyStop x subsumed
  | .release seq role _ => s.applyRelease seq role
  | .hostGrant b => s.modCanvas fun c => { c with hostReq := some (e, b) }
  | .load b => s.modDsp fun d => { d with staged := some { cartoon := cartoonOf b, bytes := b } }
  | .start how =>
    match s.dsp.staged with
    | some x => s.coldStart x.cartoon how
    | none => s
  | .cartoonStop role => s.beginStop 0 role
  | .swap n => s.modDsp fun d => { d with mode := .swapPending, swapE := n, deferrals := 0, swapTried := none }
  | .cancelSwap => s.modDsp fun d => { d with mode := .running, swapE := 0, deferrals := 0 }
  | .flowRelease f role => s.modDsp fun d => { d with releases := d.releases ++ [(f, role, e)] }
  | .correction m =>
    match s.gnssSection with
    | some x => (s.placeQueues x m).2
    | none => s
  | .canvasError w => s.modCanvas fun c => c.blockWord w

/-- Entries of the epochs up to `n` are applied in order; a stop or release whose place in the batch is still
ahead waits for it. -/
def State.applyLog (s : State) (n : Nat) : State :=
  let (now, later) := s.twin.entries.partition fun x => decide (x.1 ≤ n) && s.placed x.2
  now.foldl (fun s x => s.applyEntry x.1 x.2) (s.modTwin fun t => { t with entries := later })

/-! ## Epoch boundaries (R144, R146, R428) -/

/-- The epoch that begins now, if one does: the one corrected time is in; of a standby that catches up,
the next once the log of the present one is closed and its work done. -/
def State.nextEpoch (s : State) : Option Nat :=
  let e := s.epoch
  let n := s.time / max 1 e.length
  if s.twin.state = .standbySyncing then
    match s.twin.lastClosed with
    | some c => if e.n ≤ c ∧ e.n < n ∧ !s.workOf e.n then some (e.n + 1) else none
    | none => none
  else if !e.begun || decide (e.n < n) then some n
  else none

/-- The digest of the epoch that ends waits until its work is complete, in a unit that sends digests. -/
def Ev.turnDigest (e : Ev) (n : Nat) (keep : Bool) : Ev :=
  { e with past := if keep then e.past ++ [e.digest] else []
           digest := { epoch := n, sum := 0, ordinals := [] } }

/-- The next epoch. A phase-bound output that was late after its epoch had been judged counts in the epoch
that begins, whose operands its own came among. -/
def Epoch.turn (e : Epoch) (n : Nat) : Epoch :=
  { n := n, length := e.length, nominal := n * max 1 e.length, begun := true, judged := false
    late := false, prevLate := e.late && n == e.n + 1, outLate := e.outLate, ticked := false }

/-- Requests made in the epoch that ends are due to the stages. -/
def State.turnStages (s : State) : State :=
  let s := s.modCanvas fun c => { c with due := c.due ++ c.incoming, incoming := [] }
  let s := s.modStk fun k => { k with due := k.due ++ k.incoming, incoming := [] }
  s.modGdl fun g => { g with due := g.due ++ g.incoming, incoming := [] }

/-- Start-up and restart counts go on, and a swap epoch that has swapped ends. -/
def Dsp.turn (d : Dsp) : Dsp :=
  { d with startupLeft := d.startupLeft - 1
           ordered := tblMap (fun _ => 0) (· - 1) d.ordered
           inSwapEpoch := d.mode == .swapPending && d.inSwapEpoch }

def State.beginEpoch (s : State) (n : Nat) : State :=
  let keep := s.standby || s.twin.state == .active
  let s := s.modEv fun e => e.turnDigest n keep
  let s := (s.modEpoch fun e => e.turn n).turnStages
  let s := (s.modDsp Dsp.turn).applyLog n
  if s.dsp.live && !s.dsp.inSwapEpoch && !s.swapDue then s.releaseTasks else s

/-- EPOCH_BOUNDARY. -/
def execEpochBoundary (s : State) : Res :=
  .next (if !s.runsEpochs then s
    else match s.nextEpoch with
      | some n => s.beginEpoch n
      | none => s)

/-- A trim's phase: the robot has a DL entry in the present slot or span of a chain. -/
def State.trimPhase (s : State) (r : Nat) (chain : Fin 2) : State :=
  if (s.air.downNow chain).any (·.station == r) then (s.releaseTrim r (s.air.spanStart chain.val) true).2 else s

/-- OUTPUT_PHASE (R46) of a robot's trim, a drive channel's duties, or the time-pulse value, whose phase
is TP0_EDGE. -/
def execOutputPhase (kind : Fin 3) (index : Nat) (s : State) : Res :=
  .next (match kind with
    | 0 => if index < 256 then (s.trimPhase index 0).trimPhase index 1 else s
    | 1 => if h : index < 8 then s.releaseDuty (s.time / 50000) ⟨index, h⟩ else s
    | 2 => s)

/-! ## Unit states (R417) -/

/-- A standby with nothing of a transfer. -/
def Twin.blank (t : Twin) : Twin :=
  { t with loaded := false, image := none, entries := [], lastClosed := none, fabric := [], own := [], theirs := []
           misses := 0, matched := 0, snapshotE := none, sent := 0 }

/-- What a change of state does in itself. -/
def Twin.enter (t : Twin) (new : TwinState) (now : Nat) : Twin :=
  let instep := t.state == .standbyInstep
  let iso : Bool := new == .isolated
  let t : Twin :=
    { t with state := new, fromReset := t.fromReset && iso, listenSince := none, fromInstep := instep && iso
             switchAt := if new = .standbyInstep then t.switchAt else none }
  match new with
  | .standbySyncing => t.blank
  | .standbyInstep => { t with loaded := true }
  | .faulted => { t.blank with faultedAt := now }
  | .isolated | .solo => { t with closeSent := none, lastAck := none, snapshotE := none, sent := 0, failedAt := none }
  | .active => { t with closeSent := none, lastAck := if instep then t.lastClosed else none, snapshotE := none
                        sent := 0, failedAt := none, own := [], theirs := [] }

/-- Following begins and ends with the standby states (R367). -/
def State.follow (s : State) : State :=
  if s.standby = s.tmb.following then s
  else (s.modTmb fun t => { t with following := s.standby, followSince := s.now }).modTwin fun t => { t with joined := false }

/-- The state changes, and TWIN_STATE is recorded. -/
def State.setTwin (s : State) (new : TwinState) : State :=
  let old := s.twin.state
  if new = old then s
  else
    let was := s.endDead 1
    let own := s.serving
    let s := (s.modTwin fun t => t.enter new s.now).follow
    let s := if s.serving = own then s else s.put (.pin "PSG_OWN" (bit s.serving))
    ((s.emit evTwinState new.code old.code s.twin.peer).easelEnds was).restream

/-- ISOLATED, and a period of listening begins (R432). -/
def State.isolate (s : State) : State :=
  (s.setTwin .isolated).modTwin fun t => { t with listenSince := some s.fleet.superframes }

/-- A pending SWITCH is dropped (Table 13-10). -/
def State.dropSwitch (s : State) : State :=
  if s.twin.switchAt.isSome && s.twin.state == .active then
    s.modTwin fun t => { t with switchAt := none, cmdResult := true } else s

/-- The active no longer has a partner. -/
def State.becomeSolo (s : State) : State := s.dropSwitch.setTwin .solo

/-- The unit serves in another way than by takeover: under a new incarnation, unless it has one from
its boot that it has not served under (R14, R16). -/
def State.serveAfresh (s : State) (new : TwinState) : State :=
  let fresh := s.twin.fromReset
  let s := s.setTwin new
  if fresh then s else s.newIncarnation 5

/-- The level of TWHB_OUT. -/
def State.setHeartbeat (s : State) (x : Nat) : State :=
  if s.twin.hbOut = x then s else (s.modTwin fun t => { t with hbOut := x }).put (.pin "TWHB_OUT" x)

/-! ## Takeover (R409, R431, R461) -/

/-- Locks held by Easels are free and the Easels ends of the channels empty. -/
def HostIf.takeover (h : HostIf) : HostIf :=
  { h with locks := h.locks.map fun p => if p < 8 then 15 else p
           mbx := h.mbx.map fun m => if m.has 1 then m.setInbound 1 .empty else m }

/-- A takeover: 0 RESIGN, 1 listening, 2 switchover. -/
def State.takeover (s : State) (new : TwinState) (cause : Nat) : State :=
  let s := (s.modTwin fun t => { t with takeovers := satAdd 8 t.takeovers 1, fabric := [] }).modAir fun a =>
    { a with pairShown := s.pairing }
  let s := (s.setTwin new).emit evTwinTakeover cause s.fleet.incarnation (s.epoch.n % 2 ^ 32)
  let s := if new = .solo then s.modTwin fun t => { t with peer := 7 } else s
  let s := s.modCanvas fun c => { c with admitShut := s.tfc.admitClosed }
  let s := if s.servo.ts = .untrusted then s else s.enterHoldover
  ((s.modHost HostIf.takeover).takeoverDrives (s.rbit rPsgCfg 0)).restream

/-! ## Transfers (R427 to R429) -/

/-- A transfer is in progress here. -/
def State.transferring (s : State) : Bool :=
  (s.twin.state == .active && s.twin.snapshotE.isSome && s.twin.peer == 2) ||
  (s.twin.state == .standbySyncing && (s.twin.image.isSome || s.twin.snapshotE.isSome))

/-- A transfer fails, with the row of Table 13-8 that ends it. -/
def State.failTransfer (s : State) (cause : Nat) : State :=
  let k := satAdd 8 s.twin.fails 1
  let s := (s.modTwin fun t => { t with fails := k, failedAt := some s.now, snapshotE := none, sent := 0 }).emit
    evTwinSyncFailed cause k
  if s.twin.state = .standbySyncing then
    let s := s.modTwin Twin.blank
    if 3 ≤ k then (s.setTwin .faulted).modTwin fun t => { t with thirdFail := true } else s
  else s

/-- The active names a snapshot epoch. The bytes that the event shows are a free value: the spec gives
the snapshot's size only roughly (log entry 4). -/
def State.nameSnapshot (s : State) : State :=
  if s.twin.state = .active ∧ s.twin.peer = 2 ∧ s.twin.snapshotE = none ∧ s.twin.failedAt = none ∧ s.dsp.live then
    let len := max 1 s.epoch.length
    let e := ceilDiv (s.time + 2 * len) len
    let (n, s) := s.draw
    (s.modTwin fun t => { t with snapshotE := some e, sent := 0, transfers := satAdd 8 t.transfers 1 }).emit
      evTwinSyncStarted (e % 2 ^ 32) (n % 2 ^ 32)
  else s

/-- DSP_RUN_ID (Table 5-22). -/
def Dsp.runId (d : Dsp) : Nat :=
  match d.running with
  | some c => if d.mode = .empty then 0 else c.identity + 2 ^ 32 * c.version
  | none => 0

def Air.plane (a : Air) : AirPlane :=
  { plan := a.plan, nextPlan := a.nextPlan, counting := a.counting, superframe := a.superframe, slot := a.slot
    slotStart := a.slotStart, sfStart := a.sfStart, stopShown := a.stopShown, selfStopped := a.selfStopped
    assignDues := a.assignDues, corr := a.corr, corrFirst := a.corrFirst, corr24 := a.corr24, corrSub := a.corrSub
    seqs := a.tables.map fun t => (t.filter fun x => x.2.seq != 0).map fun x => (x.1, x.2.seq) }

/-- Sequence numbers of the frames to each station come with the plane. -/
def loadSeqs (t : Tbl Station) (q : Tbl Nat) : Tbl Station :=
  q.foldl (fun t x => tblMod stationDefault t x.1 fun e => { e with seq := x.2 })
    (tblMap stationDefault (fun e => { e with seq := 0 }) t)

def Air.loadPlane (a : Air) (p : AirPlane) : Air :=
  { a with tables := #v[loadSeqs a.tables[0] p.seqs[0], loadSeqs a.tables[1] p.seqs[1]], plan := p.plan, nextPlan := p.nextPlan, counting := p.counting, superframe := p.superframe, slot := p.slot
           slotStart := p.slotStart, sfStart := p.sfStart, stopShown := p.stopShown, selfStopped := p.selfStopped
           assignDues := p.assignDues, corr := p.corr, corrFirst := p.corrFirst, corr24 := p.corr24
           corrSub := p.corrSub }

/-- Slot plans from the partner are subject to the unit's band (R3, R4). -/
def Air.bandPlans (a : Air) (radio : Option (List Byte)) : Air :=
  { a with plan := a.plan.map (bandPlan radio), nextPlan := a.nextPlan.map fun x => (x.1, bandPlan radio x.2) }

/-- Queues whose packets Easels, the grant engine or the input log put. -/
def Palette.planeQueue (p : Palette) (q : Nat) : Bool := p.easelPut q || q == 49

/-- The deterministic plane (Table 13-4); the running Cartoon goes as its image. -/
def State.plane (s : State) : DetPlane :=
  { canvas := s.canvas
    stk := s.stk
    gdl := s.gdl
    dsp := { s.dsp with running := none }
    easels := s.easels
    atelier := s.atelier
    fleet := s.fleet
    air := s.air.plane
    epoch := s.epoch
    queues := ((List.range 64).filter s.palette.planeQueue).map fun q => (q, (s.palette.q q).packets)
    grants := s.palette.grants
    detSeq := s.ev.detSeq
    buckets := s.ev.buckets.filter fun x => isDetCode x.1 }

/-- The link plane's part of the dispatcher stays with the unit. -/
def Dsp.loadPlane (d p : Dsp) (running : Option Cartoon) : Dsp :=
  { p with
    running := running
    busy := d.busy
    resDetail := d.resDetail
    resCmd := d.resCmd
    resSection := d.resSection
    resCode := d.resCode
    autoload := d.autoload
    loadAddr := d.loadAddr
    loadLen := d.loadLen
    swapEpochReg := d.swapEpochReg
    stored := d.stored
    storedValid := d.storedValid
    autoloadDue := d.autoloadDue
    coldStarted := d.coldStarted
    arrivals := d.arrivals
    dropRadio := d.dropRadio
    dropSubg := d.dropSubg
    dropUnrouted := d.dropUnrouted
    traceOn := d.traceOn
    traceStop := d.traceStop
    traceEasels := d.traceEasels
    traceKinds := d.traceKinds
    trace := d.trace
    traceNext := d.traceNext
    traceFull := d.traceFull
    traceLost := d.traceLost
    traceIdx := d.traceIdx
    keys := d.keys
    keyWords := d.keyWords }

/-- Stop inputs, their settings and the flash stay with the unit. -/
def Fleet.loadPlane (f p : Fleet) : Fleet :=
  { p with
    relResult := f.relResult
    inputA := f.inputA
    inputB := f.inputB
    discrepancy := f.discrepancy
    differSince := f.differSince
    highSince := f.highSince
    discTime := f.discTime
    bootHold := f.bootHold
    storedIncarnation := f.storedIncarnation
    incStored := true
    incFailAt := none }

/-- Buckets of deterministic codes come with the plane. -/
def mergeBuckets (own det : Tbl Bucket) : Tbl Bucket :=
  det.foldl (fun t x => tblPut bucketDefault t x.1 x.2) (own.filter fun x => !isDetCode x.1)

/-- The set-up a Cartoon received brings to stages outside the plane. -/
def State.setUpImage (s : State) (c : Cartoon) : State :=
  let c := s.banded c
  let s := s.startDrives (c.secBytes 0x14)
  (s.applyQueues (c.secOpt 0x16)).setRadio (c.secOpt 0x17)

/-- An Easel takes the partner's tasks and scratch. Its instruction memory is the image's, its debug registers,
counts and scrub position are its own, and so are the marks on words that the transfer does not write
(R76, Table 13-4). -/
def Easel.takePlane (own p : Easel) (image : Option (Tbl Word)) : Easel :=
  { own with
    bank := p.bank
    run := p.run
    shadow := p.shadow
    scratch := p.scratch
    scrKnown := p.scrKnown
    shadowKnown := p.shadowKnown
    scrPoison := []
    fifo := p.fifo
    imem := image.getD own.imem
    imemPoison := if image.isSome then [] else own.imemPoison }

def Atelier.takePlane (own p : Atelier) : Atelier := { own with mem := p.mem, poison := [], writers := p.writers }

/-- A standby takes the partner's Canvas; what its own host port, scrub and registers hold stays. -/
def Canvas.takePlane (own p : Canvas) : Canvas :=
  { p with
    scrubAt := own.scrubAt
    hostBusy := own.hostBusy
    hostResult := own.hostResult
    lateAck := own.lateAck
    refused := own.refused
    accepted := own.accepted
    conflictNew := own.conflictNew
    conflict := own.conflict
    eccCorr := own.eccCorr
    eccUncorr := own.eccUncorr }

/-- A standby loads the snapshot of epoch `e` and goes on from it (R428). -/
def State.loadSnapshot (s : State) (e : Nat) (p : DetPlane) : State :=
  let c := match s.twin.image with
    | some c => some (s.banded c)
    | none => s.dsp.running
  let s := match s.twin.image with
    | some c => s.setUpImage c
    | none => s
  let s :=
    { s with
      canvas := s.canvas.takePlane p.canvas
      stk := p.stk
      gdl := p.gdl
      dsp := s.dsp.loadPlane p.dsp c
      easels := Vector.ofFn fun (k : Fin 8) =>
        s.easels[k].takePlane p.easels[k] (s.twin.image.map fun (x : Cartoon) => x.easelImage k)
      atelier := s.atelier.takePlane p.atelier
      fleet := s.fleet.loadPlane p.fleet
      air := (s.air.loadPlane p.air).bandPlans (c.bind fun x => x.secOpt 0x17)
      epoch := p.epoch }
  let s := s.modPalette fun x =>
    p.queues.foldl (fun x y => x.modQ y.1 fun q => { q with packets := y.2 }) { x with grants := p.grants }
  let s := s.modEv fun v =>
    { v with detSeq := p.detSeq, buckets := mergeBuckets v.buckets p.buckets, past := []
             digest := { epoch := e, sum := 0, ordinals := [] } }
  (s.modTwin fun t =>
    { t with loaded := true, snapshotE := some e, sent := 100, own := []
             entries := t.entries.filter fun x => decide (e ≤ x.1)
             theirs := t.theirs.filter fun x => decide (e ≤ x.1) }).applyLog e

/-- TWIN_SNAPSHOT: at epoch E, before any of its work. -/
def execTwinSnapshot (s : State) : Res :=
  .next (if s.twin.state = .active ∧ s.twin.snapshotE = some s.epoch.n ∧ s.twin.sent = 0 ∧ s.linked then
      let s := match s.dsp.running with
        | some c => if s.twin.peerRun = s.dsp.runId then s else s.put (.twin (.transfer (.image c)))
        | none => s
      (s.put (.twin (.transfer (.snapshot s.epoch.n s.plane)))).modTwin fun t => { t with sent := 100 }
    else s)

/-- TRANSFER. -/
def execTransferMsg (p : TransferPart) (s : State) : Res :=
  .next (if !s.linked then s
    else match p with
      | .image c => if s.twin.state = .standbySyncing then s.modTwin fun t => { t with image := some c } else s
      | .snapshot e x => if s.twin.state = .standbySyncing then s.loadSnapshot e x else s
      | .portfolio b => s.modPfo fun p => { p with claim := some b }
      | .outcome st => s.takeOutcome st)

/-- TRANSFER_TIMEOUT, with the row of Table 13-8 that the world meets: 1 link down, 2 the active resets,
4 the log overflows, 5 no STANDBY_INSTEP 30 s after E, 6 STOP or START in the active. -/
def execTransferTimeout (cause : Fin 10) (s : State) : Res :=
  .next (
    let due : Bool := match cause.val with
      | 1 => s.twin.link == 0
      | 2 => s.standby
      | 4 => true
      | 5 => match s.twin.snapshotE with
        | some e => decide (e * max 1 s.epoch.length + 30 * second ≤ s.time)
        | none => false
      | 6 => !s.dsp.live
      | _ => false
    if s.transferring && due then s.failTransfer cause.val else s)

/-- TRANSFER_RETRY. -/
def execTransferRetry (s : State) : Res :=
  .next (match s.twin.failedAt with
    | some t => if s.past t (10 * second) then (s.modTwin fun x => { x with failedAt := none }).nameSnapshot else s
    | none => s)

/-- TWIN_CAUGHT_UP. -/
def execTwinCaughtUp (s : State) : Res :=
  .next (match s.twin.snapshotE with
    | some e =>
      if s.twin.state = .standbySyncing ∧ s.twin.loaded ∧ s.epoch.n = s.time / max 1 s.epoch.length ∧
          64 ≤ s.twin.matched then
        ((s.setTwin .standbyInstep).modTwin fun t => { t with fails := 0 }).emit evTwinInstep (s.epoch.n % 2 ^ 32)
          ((s.time - e * max 1 s.epoch.length) / ms)
      else s
    | none => s)

/-! ## The log's messages (R420, R421) -/

/-- LOG: a START or STOP ends a transfer (Table 13-8); an entry of an epoch that runs is applied at
once. -/
def execLogMsg (e : Nat) (x : LogEntry) (s : State) : Res :=
  .next (if !s.linked || !s.standby then s
    else
      let s := s.modTwin fun t => { t with entries := t.entries ++ [(e, x)] }
      let ends := match x with
        | .start _ | .cartoonStop _ => s.transferring
        | _ => false
      if ends then s.failTransfer 6
      else if s.runsEpochs && decide (e ≤ s.epoch.n) then s.applyLog s.epoch.n
      else s)

/-- LOG_CLOSE. -/
def execLogCloseMsg (e : Nat) (s : State) : Res :=
  .next (if !s.linked || !s.standby then s
    else (s.modTwin fun t => { t with lastClosed := some (max e (t.lastClosed.getD e)) }).put (.twin (.logAck e)))

/-- LOG_ACK. -/
def execLogAckMsg (e : Nat) (s : State) : Res :=
  .next (if s.twin.state ≠ .active ∨ !s.linked then s
    else
      let took := match s.twin.closeSent with
        | some (n, t) => if n = e then (s.now - t) / us else 0
        | none => 0
      s.modTwin fun t => { t with lastAck := some (max e (t.lastAck.getD e)), ackMax := min 0xFFFF (max t.ackMax took) })

/-- LOG_ACK_TIMEOUT: the partner counts as having left STANDBY_INSTEP. -/
def execLogAckTimeout (s : State) : Res :=
  .next (if s.batchReady then s
    else (s.dropSwitch.modTwin fun t => { t with peer := 7 }).emit evLogLate ((s.epoch.n - 1) % 2 ^ 32) 0)

/-- LOG_CLOSE_TIMEOUT: 20 µs after the boundary. -/
def execLogCloseTimeout (s : State) : Res :=
  .next (
    let held := match s.twin.lastClosed with
      | some c => decide (s.epoch.n ≤ c + 1)
      | none => false
    if s.twin.state = .standbyInstep ∧ !held ∧ s.epoch.nominal + 20 * us ≤ s.time then
      (s.emit evLogLate ((s.epoch.n - 1) % 2 ^ 32) 1).setTwin .standbySyncing
    else s)

/-! ## Digests (R426, R428) -/

/-- A mismatch, with both digests; of a missing one 0. -/
def State.mismatch (s : State) (n own peer : Nat) : State :=
  let k := s.twin.misses + 1
  let s := (s.modTwin fun t =>
    { t with misses := k, missEpoch := n % 2 ^ 32, missOwn := own, missPeer := peer
             mismatchCount := satAdd 16 t.mismatchCount 1, matched := 0 }).emit evDigestMismatch (n % 2 ^ 32)
    (own % 2 ^ 32) (peer % 2 ^ 32) k
  if k < 2 then s
  else match s.twin.state with
    | .standbyInstep => s.setTwin .faulted
    | .standbySyncing =>
      let (c, s) := s.draw
      s.failTransfer (1 + c % 10)
    | _ => s

/-- Digest of an epoch in a list. -/
def digestOf (l : List (Nat × Nat)) (n : Nat) : Option Nat := (l.find? (·.1 == n)).map (·.2)

/-- Both digests of an epoch are there: the standby compares them. -/
def State.compareDigests (s : State) (n : Nat) : State :=
  match digestOf s.twin.own n, digestOf s.twin.theirs n with
  | some a, some b =>
    let s := s.modTwin fun t =>
      { t with own := t.own.filter (·.1 != n), theirs := t.theirs.filter (·.1 != n) }
    if !s.standby then s.modTwin fun t => { t with misses := 0 }
    else if a = b then s.modTwin fun t => { t with misses := 0, matched := min 64 (t.matched + 1) }
    else s.mismatch n a b
  | _, _ => s

/-- The unit keeps its digests to meet its partner's. -/
def State.keepsOwn (s : State) : Bool := s.standby || (s.twin.state == .active && s.twin.peer == 3)

/-- DIGEST_SEND: of the oldest epoch, once its work is complete. -/
def execDigestSend (s : State) : Res :=
  .next (match s.ev.past with
    | d :: rest =>
      if s.workOf d.epoch || !s.linked then s
      else
        let s := (s.modEv fun e => { e with past := rest }).put (.twin (.digest d.epoch d.sum))
        if s.keepsOwn then
          (s.modTwin fun t => { t with own := t.own ++ [(d.epoch, d.sum)] }).compareDigests d.epoch
        else s.modTwin fun t => { t with own := [] }
    | [] => s)

/-- DIGEST. -/
def execDigestMsg (e d : Nat) (s : State) : Res :=
  .next (if !s.linked || !s.keepsOwn then s
    else (s.modTwin fun t => { t with theirs := t.theirs ++ [(e, d)] }).compareDigests e)

/-- DIGEST_TIMEOUT: a partner's digest is missing 16 epochs after the unit's own. -/
def execDigestTimeout (s : State) : Res :=
  .next (match s.twin.own with
    | (n, d) :: rest =>
      if s.keepsOwn && decide (n + 16 ≤ s.epoch.n) then
        (s.modTwin fun t => { t with own := rest }).mismatch n d 0
      else s
    | [] => s)

/-! ## Partner state (R413, R417, R435 to R438) -/

/-- Both units serve: recorded in both, and seat B gives way (R435). -/
def State.split (s : State) (was : Nat) : State :=
  let s := if was = 0 ∨ was = 1 then s else s.emit evTwinSplit s.twin.peerInc s.fleet.incarnation 0
  if s.twin.seatB then s.dropSwitch.isolate else s

/-- The units have the same seat. -/
def State.sameSeat (s : State) (was : Nat) : State :=
  if was = 7 then s.emit evTwinSplit s.twin.peerInc s.fleet.incarnation 2 else s

/-- An active unit whose partner is in a state. -/
def State.activePartner (s : State) (st : TwinState) (was : Nat) : State :=
  match st with
  | .solo | .active => s.split was
  | .isolated => s.becomeSolo
  | .standbyInstep => s.modTwin fun t => { t with fails := 0, snapshotE := none, failedAt := none }
  | .standbySyncing => (if was = 2 then s else s.dropSwitch.modTwin fun t => { t with snapshotE := none }).nameSnapshot
  | .faulted =>
    let s := s.dropSwitch
    if was = 2 && s.rbit rTwnCfg 1 && !s.twin.resetSent then
      (s.modTwin fun t => { t with resetSent := true }).put (.twin .reset)
    else s

/-- The state changes that the partner's state brings (Table 13-3). -/
def State.partnerState (s : State) (st : TwinState) (was : Nat) : State :=
  let serves := st == .solo || st == .active
  match s.twin.state with
  | .isolated =>
    if s.twin.isolateHeld then s
    else if serves then s.setTwin .standbySyncing
    else if st = .isolated ∧ !s.twin.seatB then s.serveAfresh .active
    else s
  | .solo => if serves then s.split was else if st = .standbySyncing then (s.setTwin .active).nameSnapshot else s
  | .active => s.activePartner st was
  | .standbyInstep =>
    if serves then s.modTwin fun t => { t with switchAt := none }
    else if st = .standbyInstep ∧ s.twin.switchAt = none then s.takeover .active 2
    else s
  | .standbySyncing | .faulted => s

/-- STATE. -/
def execStateMsg (st : TwinState) (seatB : Bool) (inc : BitVec 16) (run : BitVec 64) (s : State) : Res :=
  .next (if !s.linked then s
    else
      let was := s.twin.peer
      let s := s.modTwin fun t =>
        { t with peer := st.code, peerSeatB := seatB, peerInc := inc.toNat, peerRun := run.toNat }
      if seatB = s.twin.seatB then s.sameSeat was else s.partnerState st was)

/-- RESIGN (R430). -/
def execResignMsg (s : State) : Res :=
  .next (if !s.linked then s
    else match s.twin.state with
      | .standbyInstep => if s.twin.blocked then s.isolate else s.takeover .solo 0
      | .standbySyncing => s.isolate
      | _ => s)

/-- RESET (R438). -/
def execResetMsg (s : State) : Res :=
  .next (if s.linked && s.twin.state == .faulted && s.rbit rTwnCfg 1 then s.resetDevice 4 9 else s)

/-! ## Link and heartbeat (R414, R415, R432, R433) -/

/-- The partner is lost. -/
def State.partnerLost (s : State) : State :=
  match s.twin.state with
  | .solo | .isolated => s
  | .active => s.becomeSolo
  | _ => s.isolate

/-- TWIN_LINK_UP. -/
def execTwinLinkUp (s : State) : Res :=
  .next (if !s.awake || !s.paired || s.twin.link == 2 then s
    else
      let peer := if s.twin.link = 0 then 7 else s.twin.peer
      (s.modTwin fun t => { t with link := 2, peer := peer }).emit evTwinLink 1 2)

/-- TWIN_LINK_DOWN. -/
def execTwinLinkDown (s : State) : Res :=
  .next (if !s.linked then s
    else
      let moving := s.transferring
      let s := (s.modTwin fun t => { t with link := 0, peer := 7 }).emit evTwinLink 0 0
      let s := s.enterEcho.takeOutcome 10
      if !s.twin.hbIn then s.partnerLost
      else match s.twin.state with
        | .active => s.becomeSolo
        | .standbyInstep => s.setTwin .standbySyncing
        | .standbySyncing => if moving then s.failTransfer 1 else s
        | _ => s)

/-- TWIN_LANE_LOST. -/
def execTwinLaneLost (s : State) : Res :=
  .next (if s.linked && s.twin.link == 2 then (s.modTwin fun t => { t with link := 1 }).emit evTwinLink 1 1 else s)

/-- HEARTBEAT_PRESENT. -/
def execHeartbeatPresent (s : State) : Res :=
  .next (if !s.awake || !s.paired || s.twin.hbIn then s
    else (s.modTwin fun t => { t with hbIn := true }).emit evHeartbeat 1)

/-- HEARTBEAT_LOST. -/
def execHeartbeatLost (s : State) : Res :=
  .next (if !s.awake || !s.paired || !s.twin.hbIn then s
    else
      let s := (s.modTwin fun t => { t with hbIn := false }).emit evHeartbeat 0
      if s.twin.link = 0 then s.partnerLost else s)

/-- Superframes of a listening period: six after a reset in seat B (R434). -/
def Twin.listenFor (t : Twin) : Nat := if t.fromReset && t.seatB then 6 else 3

/-- LISTEN_EXPIRY: a listening period without a link is over; `heard` tells of a valid beacon in it. A
unit that counts no superframes has no count of its own, and the world says when. -/
def execListenExpiry (heard : Bool) (s : State) : Res :=
  .next (
    let t := s.twin
    let done := match t.listenSince with
      | some n => decide (n + t.listenFor ≤ s.fleet.superframes) || !s.air.counting
      | none => false
    if !s.awake || !s.paired || t.state != .isolated || t.isolateHeld || t.link != 0 || !done then s
    else if heard then s.modTwin fun t => { t with listenSince := some s.fleet.superframes }
    else if t.fromInstep && !t.blocked then s.takeover .solo 1
    else if s.rbit rTwnCfg 2 then s.serveAfresh .solo
    else s.modTwin fun t => { t with listenSince := some s.fleet.superframes })

/-- HEARTBEAT_SERVICE. -/
def execHeartbeatService (s : State) : Res :=
  .next (if !s.pwr.booted then s
    else
      let on := match s.twin.hbServedAt with
        | some t => !s.past t (50 * ms)
        | none => false
      (s.modTwin fun t => { t with hbServedAt := some s.now }).modPfo fun p =>
        { p with upAt := if on then p.upAt else s.now })

/-- HEARTBEAT_OUT_STOPPED. -/
def execHeartbeatOutStopped (s : State) : Res :=
  .next (match s.twin.hbServedAt with
    | some t =>
      if s.past t (50 * ms) then (s.modTwin fun t => { t with hbServedAt := none }).setHeartbeat 0 else s
    | none => s)

/-! ## Commands of TWN_CTL (R429, R436, R440) -/

/-- A command that is refused. -/
def State.twinRefuse (s : State) : State := s.modTwin fun t => { t with cmdResult := true }

/-- The first superframe that begins at least 2 epochs from now. -/
def State.switchSuperframe (s : State) : Option Nat :=
  match s.air.plan with
  | some p =>
    if s.air.counting then
      some (s.air.superframe + ceilDiv (s.time + 2 * s.epoch.length - s.air.sfStart) (max 1 (planLen p) * slotNs))
    else none
  | none => none

/-- SWITCH. -/
def execSwitch (s : State) : Res :=
  .next (s.bar fun s => if s.pcieRole = 0 then s.twinRefuse
    else
      let s := s.touch
      match s.switchSuperframe with
      | some n =>
        if s.twin.state = .active ∧ s.twin.peer = 3 ∧ !s.twin.blocked then
          s.modTwin fun t => { t with switchAt := some n }
        else s.twinRefuse
      | none => s.twinRefuse)

/-- SWITCHOVER at that superframe: the active hands over; its partner learns of it by STATE. -/
def execSwitchover (s : State) : Res :=
  .next (match s.twin.switchAt with
    | none => s
    | some n =>
      if s.twin.state ≠ .active ∨ s.air.superframe < n then s
      else if s.twin.peer ≠ 3 ∨ s.twin.blocked then s.dropSwitch
      else
        let closed := s.time / max 1 s.epoch.length - 1
        let s := s.modTwin fun t => { t with takeovers := satAdd 8 t.takeovers 1, lastClosed := some closed }
        (s.setTwin .standbyInstep).emit evTwinTakeover 2 s.fleet.incarnation (s.epoch.n % 2 ^ 32))

/-- RESYNC. -/
def execResync (s : State) : Res :=
  .next (s.bar fun s => if s.pcieRole < 2 then s.twinRefuse
    else
      let s := s.touch
      if s.twin.isolateHeld then
        s.modTwin fun t => { t with isolateHeld := false, listenSince := some s.fleet.superframes }
      else if s.twin.state = .faulted then (s.modTwin fun t => { t with thirdFail := false }).setTwin .standbySyncing
      else s.twinRefuse)

/-- ISOLATE. -/
def execIsolate (s : State) : Res :=
  .next (s.bar fun s => if s.pcieRole < 2 then s.twinRefuse
    else
      let s := s.touch
      if !s.paired then s.twinRefuse
      else s.dropSwitch.isolate.modTwin fun t => { t with isolateHeld := true })

/-- FAULTED_TIMEOUT. -/
def execFaultedTimeout (s : State) : Res :=
  .next (if s.twin.state = .faulted ∧ !s.twin.thirdFail ∧ s.past s.twin.faultedAt second then s.setTwin .standbySyncing
    else s)

/-! ## Health (R437) -/

/-- A report is recorded, and sets or clears BLOCKED. -/
def State.takeHealth (s : State) (h : Health) : State :=
  (s.modTwin fun t => { t with health := h.pass % 64, blocked := h.pass % 64 != 63 }).emit evTwinHealth (h.pass % 64)
    h.cap (par h.rssi) (par h.delta)

/-- RSSI values of the frames received among the last 16. -/
def received (l : List (Option Int)) : List Int := (l.take 16).filterMap id

/-- The middle one of some RSSI values, the lower of two; 0 of none. -/
def medianRssi (l : List Int) : Int := (sortBy (fun a b => decide (a ≤ b)) l).getD ((l.length - 1) / 2) 0

/-- At least 14 of the last 16 frames came through, each within 10 dB of their median (Table 13-9). -/
def loopOk (l : List (Option Int)) : Bool :=
  let r := received l
  decide (14 ≤ (r.filter fun x => decide ((x - medianRssi r).natAbs ≤ 10)).length)

/-- Bit 4: the satellites tracked, the C/N0 of the primaries of those both track, and Δ. -/
def State.gnssAgrees (s : State) (o : HealthObs) : Bool :=
  let own := s.gnss.slots.toList.filter (·.tracked)
  let near := fun (a b : Nat) => decide (a ≤ b + 6 ∧ b ≤ a + 6)
  let same := own.all fun v => o.sats.all fun (sys, prn, u, l) =>
    !(sys.val == v.sys && prn.toNat == v.prn) || (near v.cn0U u.toNat && near v.cn0L l.toNat)
  decide (own.length ≤ o.sats.length + 2 ∧ o.sats.length ≤ own.length + 2) && same &&
    decide ((s.servo.delta - o.delta).natAbs ≤ 200)

/-- Results of the tests of Table 13-9 over the last 10 s. -/
def State.selfTest (s : State) (o : HealthObs) : Health :=
  let clean := match s.twin.eccAt with
    | some t => s.past t (10 * second)
    | none => true
  let fabric := (List.finRange 4).all fun n =>
    decide (s.classOf n ≤ (s.region n).cap) && !(s.region n).atRisk && !(s.region n).breach
  { pass := packNat
      [(0, 1, bit clean), (1, 1, bit o.cells), (2, 1, bit (loopOk o.sent24 && loopOk o.heard24)),
       (3, 1, bit (planRate (s.air.plan.getD []) == 0 || (loopOk o.sentSub && loopOk o.heardSub))),
       (4, 1, bit (s.gnssAgrees o)), (5, 1, bit fabric)]
    cap := (List.finRange 4).foldl (fun m n => min m (s.region n).cap) 4
    rssi := medianRssi (received o.heard24)
    delta := s.servo.delta - o.delta }

/-- STANDBY_HEALTH_REPORT. -/
def execStandbyHealthReport (o : HealthObs) (s : State) : Res :=
  .next (if s.twin.state = .standbyInstep ∧ s.past s.twin.healthAt (10 * second) ∧ s.linked then
      let h := s.selfTest o
      ((s.modTwin fun t => { t with healthAt := s.now }).put (.twin (.health h))).takeHealth h
    else s)

/-- HEALTH. -/
def execHealthMsg (h : Health) (s : State) : Res :=
  .next (if s.linked && s.twin.state == .active then s.takeHealth h else s)

/-! ## Relays (R24, R32, R289, R308) -/

/-- STOP_RELAY: the active raises the standby's stop; the standby sends the frames of the active's, at the
same t0 or radio slot (R287, R288). A unit kept out of the pair has no log to apply it from, and raises the
stop as it is relayed (R24, log entry 57). -/
def execStopRelay (x : Stop) (subsumed : Bool) (b : Option Burst) (s : State) : Res :=
  .next (if !s.linked then s
    else if s.serving then (s.raiseStop x.kind 6 x.index x.squares).2.2
    else if subsumed then s
    else if s.standby then
      match b with
      | some b => s.startBurst b (hardSource x.source) true
      | none => s
    else if s.fleet.stops.any fun y => y.seq == x.seq then s
    else ((s.modFleet fun f => { f with lastSource := x.source }).emit evStopRaised x.kind.code x.seq x.source
      x.index).stopEffects x)

/-- RELEASE_RELAY. A standby in the midst of a batch leaves the release to its place in the log (R196). -/
def execReleaseRelay (seq : BitVec 16) (role : Fin 6) (s : State) : Res :=
  .next (match s.fleet.stops.find? (·.seq == seq.toNat) with
    | some x =>
      if !s.linked || s.serving || (s.standby && !s.canvas.batch.isEmpty) then s else s.endStop x role.val
    | none => s)

/-- LEDGER. -/
def execLedgerMsg (slot allow : Nat) (s : State) : Res :=
  .next (if s.linked && s.standby then s.modTwin fun t => { t with allow := (slot, allow) } else s)

/-- FORWARD. -/
def execForwardMsg (h : Heard) (s : State) : Res := .next (if s.linked then s.takeForward h else s)

/-! ## Time (R285, R286, R367 to R369) -/

/-- The pair's agreement is judged on θ, in 0.1 ns. -/
def State.judgeAgreement (s : State) (th : Int) : State :=
  let s := s.modAir fun a =>
    { a with agreeSince := if th.natAbs ≤ 1000 then some (a.agreeSince.getD s.time) else none }
  if 2000 < th.natAbs then s.enterEcho else s

/-- The follower takes the active's time state and u, drives θ toward 0 and records what passes 20 ns. -/
def State.followTime (s : State) (th : Int) (st : TimeState) (u : Nat) (rate : Int) : State :=
  let s := { s with tmb := s.tmb.commit 0 rate }
  let s := s.setTime st (if u = 0xFFFFFF then none else some (u + ceilDiv th.natAbs 10))
  let beyond := decide (200 < th.natAbs)
  let was := s.tmb.beyond20
  let s := s.modTmb fun t => { t with beyond20 := beyond }
  if beyond = was then s else s.emit evTwinTimeAgree (par th) (bit beyond)

/-- TIME: departure and arrival of the partner's marker and of the one before it of this unit; the marker's
arrival is its stamp (Table 11-1). -/
def execTimeMsg (t1 t3 t4 : Nat) (st : Fin 4) (u : BitVec 24) (rate : Int) (s : State) : Res :=
  .next (if !s.linked then s
    else
      let t2 := s.tmb.stamps[24].last
      let out : Int := (t2 : Int) - t1
      let back : Int := (t4 : Int) - t3
      let th := 5 * (out - back) - s.tmb.asym
      let s := s.modTwin fun t => { t with heardAt := t2 }
      if !s.standby && !(s.twin.state == .active && (s.twin.peer == 2 || s.twin.peer == 3)) then s
      else
        let s := s.modTmb fun t => { t with theta := th, delay := (5 * (out + back)).toNat }
        if !s.standby then s.judgeAgreement th
        else if !s.twin.joined && decide (10000000 < th) then
          let c := codeOf 64 (th / 10)
          (s.emit evTwinTimeAhead (c % 2 ^ 32) (c / 2 ^ 32)).resetDevice 2 6
        else if !s.twin.joined && decide (th < -10000000) then
          let d := (-th / 10).toNat
          (((s.modTwin fun t => { t with joined := true }).judgeAgreement th).stepTime d).emit evTwinTimeJoin (d % 2 ^ 32) (d / 2 ^ 32)
        else
          ((s.modTwin fun t => { t with joined := true }).judgeAgreement th).followTime th (TimeState.ofCode st.val)
            u.toNat rate)

end Sys2Proof.Machine
end

