-- ==== Sys2Proof/Machine/Power.lean ====
section
/-! DEFINITION. Power states, comparators, resets and the PCIe link (R388, R502 to R513, R531). -/

namespace Sys2Proof.Machine

/-! ## The power hold (R504, R509) -/

/-- The hold follows QUIET, SLEEP and the dip, and admission follows the hold. -/
def State.setHold (s : State) : State :=
  (s.modPwr fun p => { p with hold := p.dip || p.state == .quiet || p.state == .sleep }).recause

/-- The state changes and POWER_STATE is recorded, with the role that asked. -/
def State.setPower (s : State) (new : PowerState) (role : Nat) : State :=
  let old := s.pwr.state
  let s := (s.modPwr fun p => { p with state := new, pending := none }).emit evPowerState new.code old.code role
  s.setHold

/-! ## Requests (Table 17-2) -/

/-- A change of state has been accepted and has not taken effect: it is pending, or SLEEP is to be left by a
write (R504). -/
def Pwr.changing (p : Pwr) : Bool :=
  p.pending.isSome || match p.wake with
    | some (0, _) => p.state == .sleep
    | _ => false

/-- Reasons 1 to 7 that refuse a request for a state, lowest first. -/
def State.powerBar (s : State) (want : PowerState) : Option Nat :=
  let st := s.pwr.state
  let role := if want = .deep then 2 else 1
  let asleep := st == .sleep && (want == .run || want == .quiet)
  let back := st == .quiet && want == .run
  if s.pcieRole < role then some 1
  else if asleep then (if s.pwr.changing then some 7 else none)
  else if !back && s.grantLive then some 2
  else if want = .deep ∧ !s.fleet.fleetActive then some 3
  else if want = .deep ∧ s.rbit rPwrCmp 31 ∧ !(s.fleet.inputA && s.fleet.inputB) then some 4
  else if !back && s.pwr.dip then some 5
  else if s.pwr.changing then some 7
  else none

/-- PWR_CTL can be written. -/
def State.powered (s : State) : Bool := s.awake || s.pwr.state == .sleep

/-- A request: one for the present state with no change pending changes nothing. From SLEEP a request for
RUN or QUIET wakes. -/
def State.requestPower (s : State) (want : PowerState) : State :=
  if !s.powered || (s.pwr.state == want && !s.pwr.changing) then s
  else match s.powerBar want with
    | some r => s.emit evPowerStateRefused want.code r s.pcieRole
    | none =>
      let s := s.touch
      if s.pwr.state = .sleep ∧ want ≠ .deep then s.modPwr fun p => { p with wake := some (0, want) }
      else s.modPwr fun p => { p with pending := some (want, s.pcieRole), pendingAt := s.time }

/-- PWR_REQ_RUN. -/
def execPwrReqRun (s : State) : Res := .next (s.requestPower .run)

/-- PWR_REQ_QUIET. -/
def execPwrReqQuiet (s : State) : Res := .next (s.requestPower .quiet)

/-- PWR_REQ_SLEEP. -/
def execPwrReqSleep (s : State) : Res := .next (s.requestPower .sleep)

/-- PWR_REQ_DEEP. -/
def execPwrReqDeep (s : State) : Res := .next (s.requestPower .deep)

/-- PWR_REQ_INVALID: STATE 4 to 7; without a session reason 1 comes first. -/
def execPwrReqInvalid (v : Fin 4) (s : State) : Res :=
  .next (if s.powered then
      s.emit evPowerStateRefused (4 + v.val) (if s.pcieRole = 0 then 1 else 6) s.pcieRole
    else s)

/-- PWR_SOFT. -/
def execPwrSoft (s : State) : Res := .next (if s.powered ∧ 2 ≤ s.pcieRole then s.resetDevice 3 8 else s)

/-! ## Changes taking effect (R504 to R507) -/

/-- The pending change is to a state. -/
def State.pendingTo (s : State) (want : PowerState) : Option Nat :=
  match s.pwr.pending with
  | some (x, role) => if x = want then some role else none
  | none => none

/-- A radio slot boundary has come since device time `t`. -/
def State.slotSince (s : State) (t : Nat) : Bool := decide (t / slotNs < s.time / slotNs)

/-- QUIET_ENTRY: the radios fall silent, and with them what they had on the air. -/
def execQuietEntry (s : State) : Res :=
  .next (match s.pendingTo .quiet with
    | some role =>
      if s.slotSince s.pwr.pendingAt then (s.modAir fun a => { a with onAir := [] }).setPower .quiet role else s
    | none => s)

/-- QUIET_EXIT. -/
def execQuietExit (s : State) : Res :=
  .next (match s.pendingTo .run with
    | some role => if s.boundaryDue s.pwr.pendingAt then s.setPower .run role else s
    | none => s)

/-- An epoch boundary has come since device time `t`. -/
def State.epochSince (s : State) (t : Nat) : Bool :=
  decide (t / max 1 s.epoch.length < s.time / max 1 s.epoch.length)

/-- Bridge inputs are low in SLEEP; channels in PROFILE wake UNHOMED (Table 17-5). -/
def State.sleepDrives (s : State) : State :=
  (List.finRange 8).foldl (fun s (d : Fin 8) =>
    let s := s.modDrvCh d fun x => { x with bridge := [0, 0, 0, 0] }
    if s.drv.ch[d].mode = 1 then (s.modDrvCh d fun x => { x with homed := false }).rest d .unhomed else s) s

/-- SLEEP_ENTRY. -/
def execSleepEntry (s : State) : Res :=
  .next (match s.pendingTo .sleep with
    | some role =>
      if !s.epochSince s.pwr.pendingAt || !s.inService.isEmpty then s
      else
        let was := s.endDead 1
        let prior := s.pwr.state
        let s := s.resign
        let s := (s.modPwr fun p => { p with prior := prior, wake := none }).setPower .sleep role
        let s := s.modTfc fun t => { t with pausedAt := s.now }
        ((s.easelEnds was).sleepDrives.put (.pin "BRIDGES" 0)).retain
    | none => s)

/-- The real-time clock has reached the alarm. -/
def State.alarmDue (s : State) : Bool := s.reg rPwrAlarm != 0 && decide (s.reg rPwrAlarm ≤ s.rtcNow)

/-- What wakes from SLEEP, and into which state. -/
def State.wakeSource (s : State) : Option (Nat × PowerState) :=
  match s.pwr.wake with
  | some w => some w
  | none => if s.alarmDue then some (3, s.pwr.prior) else none

/-- Superframes go on from the next radio slot boundary, since none ran in SLEEP (log entry 45). -/
def State.resumeAir (s : State) : State := s.modAir fun a => a.rejoin s.time

/-- SLEEP_WAKE, but where DEEP is being entered: then the wake comes from there (R507). The windows in progress
are discarded (R65), and the watchdog runs again (R513). -/
def execSleepWake (s : State) : Res :=
  .next (if s.pwr.state ≠ .sleep ∨ s.pwr.toDeep = true then s
    else match s.wakeSource with
      | none => s
      | some (src, next) =>
        let was := s.endDead 1
        let resigned := s.pwr.resigned
        let role := if src = 0 then s.pcieRole else 0
        let s := s.modPwr fun p => { p with wake := none, resigned := false, servedAt := s.now }
        let s := s.modTfc fun t => t.resume s.now
        let s := (s.setPower next role).emit evWake src 2
        let s := (s.easelEnds was).resumeAir
        if resigned then s.isolate.modTwin fun t => { t with fromInstep := false } else s)

/-- DEEP_ENTRY: once no flash write is under way. The ones that wait do not begin (R507). -/
def execDeepEntry (s : State) : Res :=
  .next (match s.pendingTo .deep with
    | some role =>
      if s.pwr.flashBegun then s
      else
        let s := (s.resign.setPower .deep role).retain
        s.holdOutputs.put (.pin "PWR_HOLD" 0)
    | none => s)

/-- A wake from DEEP boots with kind POR, cause 2; the wake is recorded at the boot. The latch of CMP2 is done
with, so that a later DEEP waits for its own edge (R23). -/
def State.deepWake (s : State) (src : Nat) : State :=
  ((s.resetDevice 0 2).modPwr fun p => { p with wake := some (src, .deep), cmp2 := false }).put (.pin "PWR_HOLD" 1)

/-- DEEP_WAKE. -/
def execDeepWake (resetN : Bool) (s : State) : Res :=
  .next (if s.pwr.state ≠ .deep then s
    else if s.pwr.cmp2 && s.rbit rPwrCmp 31 then s.deepWake 1
    else if s.pwr.tamper && s.rbit rPwrCmp 30 then s.deepWake 2
    else if s.alarmDue then s.deepWake 3
    else if resetN then s.deepWake 4
    else s)

/-! ## Supply dips and CMP1 (R509 to R511) -/

/-- SUPPLY_DIP_START. -/
def execSupplyDipStart (s : State) : Res :=
  .next (
    let s := s.modPwr fun p => { p with vsysWarn := true }
    if !s.powered || s.pwr.dip then s
    else
      let s := s.modPwr fun p =>
        { p with dip := true, dipAt := s.now, deferred := 0, dipCount := satAdd 16 p.dipCount 1 }
      s.setHold.retain)

/-- SUPPLY_DIP_END: deferred flash writes begin. -/
def execSupplyDipEnd (s : State) : Res :=
  .next (
    let s := s.modPwr fun p => { p with vsysWarn := false }
    if !s.pwr.dip then s
    else
      let d := s.now - s.pwr.dipAt
      let n := s.deferredWrites
      let s := s.modPwr fun p =>
        { p with dip := false, deferred := 0, dipLast := min 0xFFFF (d / ms)
                 flashBegun := p.flashBegun || (!p.flash.isEmpty && !p.toDeep)
                 cfgResult := if p.cfgResult = 3 then 0 else p.cfgResult }
      s.setHold.emit evSupplyDip (min (2 ^ 32 - 1) (d / us)) n 0)

/-- CMP1_TRIP, in every power state. -/
def execCmp1Trip (s : State) : Res :=
  .next ((s.resetDevice 0 1).modPwr fun p => { p with vsysLow := true })

/-! ## TAMPER_N (R508) -/

/-- Both sessions close; the cause that their records show is a free value (log entry 4). -/
def State.closeAll (s : State) : Nat × State :=
  let n := bit (s.pcieRole != 0) + bit (s.svcRole != 0)
  let (c, s) := s.draw
  (n, (s.closeSession false (c % 2 ^ 32)).closeSession true (c % 2 ^ 32))

/-- TAMPER. -/
def execTamper (s : State) : Res :=
  .next (if s.pwr.tamper then s
    else
      let s := s.modPwr fun p => { p with tamper := true }
      if !s.powered then s
      else
        let (n, s) := s.closeAll
        let s := s.emit evTamper 1 n
        if s.pwr.state = .sleep then s.modPwr fun p => { p with wake := some (p.wake.getD (2, p.prior)) } else s)

/-- TAMPER_CLEARED. -/
def execTamperCleared (s : State) : Res :=
  .next (if !s.pwr.tamper then s
    else
      let s := s.modPwr fun p => { p with tamper := false }
      if s.powered then s.emit evTamper 0 0 else s)

/-! ## Resets (R512, R513, R503) -/

/-- A CMP1 trip of the last 2 µs: a RESET_N that meets it leaves kind POR and cause 1 (Table 17-6). -/
def State.tripping (s : State) : Bool :=
  s.pwr.last.kind == 0 && s.pwr.last.cause == 1 && decide (s.now < s.pwr.last.time + 2 * us) && s.pwr.vsysLow

/-- RESET_N_LOW: in DEEP it wakes. -/
def execResetNLow (s : State) : Res :=
  .next (if s.pwr.state = .deep then s.deepWake 4 else if s.tripping then s else s.resetDevice 1 3)

/-- WATCHDOG_EXPIRY: the watchdog is paused in SLEEP. -/
def execWatchdogExpiry (s : State) : Res :=
  .next (if s.pwr.booted && s.awake && s.past s.pwr.servedAt (s.rf rPwrWdt 0 16 * 10 * ms) then s.resetDevice 2 4 else s)

/-- WATCHDOG_SERVICE, which a halted CI2 keeps the supervisor from (R531). -/
def execWatchdogService (s : State) : Res :=
  .next (if s.pwr.booted && s.awake && s.tmb.running then s.modPwr fun p => { p with servedAt := s.now } else s)

/-- CI1_POWER_REGAINED. -/
def execCi1PowerRegained (s : State) : Res := .next (s.resetDevice 0 0)

/-- A stop whose edge was latched while CI2 was halted is raised once it runs (Table 18-12, log entry 65). -/
def State.raiseLatched (s : State) : State :=
  if s.pwr.booted && s.pwr.cmp2 then
    (s.modPwr fun p => { p with cmp2 := p.toDeep }).raiseOwn 0
  else s

/-- REFERENCE_ACCEPTED: the counter of CI2 runs. -/
def execReferenceAccepted (s : State) : Res :=
  .next (if s.pwr.state = .deep then s
    else ((s.modPwr fun p => { p with refOk := true }).modTmb fun t => { t with running := true }).raiseLatched)

/-- REFERENCE_LOST: CI2 halts. -/
def execReferenceLost (s : State) : Res :=
  .next ((s.modPwr fun p => { p with refOk := false }).modTmb fun t => { t with running := false })

/-! ## Comparator settings (R508) -/

/-- PWR_CMP_CFG_WRITE. -/
def execPwrCmpCfgWrite (w : Word) (s : State) : Res :=
  .next (if !s.powered then s
    else s.asRoleAny 2 fun s =>
      let c0 := fieldOf w 16 9
      let c1 := fieldOf w 0 9
      if 440 ≤ c0 ∧ c0 ≤ 490 ∧ 400 ≤ c1 ∧ c1 ≤ 450 ∧ c1 + 20 ≤ c0 then s.setReg rPwrCmp (w.toNat &&& 0xE1FF01FF)
      else s.modPwr fun p => { p with cfgErr := true })

/-! ## The PCIe link (R388) -/

/-- PCIE_RESET. -/
def execPcieReset (kind : PcieReset) (s : State) : Res :=
  .next (
    let s := s.modHost fun h =>
      { h with evq := h.evq.map fun q => { q with en := false }
               putJob := none, getJob := none, busMaster := false }
    let s := if s.host.mbxUp then (s.modHost fun h => { h with mbxUp := false }).endChange 2 true else s
    let s := s.freeLocksOf (· == 9) 2
    let s := if s.dsp.busy = 1 then (s.modDsp fun d => { d with busy := 0 }).refuse 1 17 else s
    let s := s.closeSession false 3
    if kind = .linkLoss ∧ s.host.linkUp then (s.modHost fun h => { h with linkUp := false }).emit evPcieLink 0 0 0 else s)

/-- PCIE_LINK_RETURN. -/
def execPcieLinkReturn (speed width : Nat) (busMaster : Bool) (s : State) : Res :=
  .next (if s.host.linkUp then s
    else (s.modHost fun h => { h with linkUp := true, speed := speed, width := width, busMaster := busMaster }).emit
      evPcieLink 1 speed width)

end Sys2Proof.Machine
end

