-- ==== Sys2Proof/Machine/Clock.lean ====
section
/-! DEFINITION. What the clock alone does, where no command waits (R349, R362, R367, R415; log entry 1). -/

namespace Sys2Proof.Machine

/-- Every 1 ms each unit of a pair sends a time marker and its state over the link (R367, Table 13-1). -/
def State.sendMarkers (s : State) : State :=
  if s.linked && s.now % ms == 0 then
    let s := s.modTwin fun t => { t with markerAt := s.time }
    (s.put (.twin (.time s.time s.twin.heardAt s.servo.ts.code (uField s.servo.u)))).put
      (.twin (.state s.twin.state s.twin.seatB s.fleet.incarnation s.dsp.runId))
  else s

/-- TWHB_OUT is driven: in a pair, awake and pacing epochs, with the heartbeat served within 50 ms (R415). -/
def State.hbDriven (s : State) : Bool :=
  s.paired && s.runsEpochs && s.epoch.begun &&
    match s.twin.hbServedAt with
    | some t => !s.past t (50 * ms)
    | none => false

/-- The 10 kHz square wave of TWHB_OUT: an edge at each 50 µs of CI2's counter; low where it is not driven. -/
def State.heartbeatEdge (s : State) : State :=
  if !s.hbDriven then s.setHeartbeat 0
  else if s.tmb.running && s.tmb.raw % 50000 == 0 then s.setHeartbeat (s.tmb.raw / 50000 % 2)
  else s

/-- A port without a link begins to hold the head of its egress queue (R362). -/
def State.watchEgress (s : State) (port : Fin 2) : State :=
  let q := s.palette.q (17 + port)
  let held : Bool := !s.eth[port].link && !q.packets.isEmpty
  if held && q.headSince.isNone then
    s.modPalette fun p => p.modQ (17 + port) fun x => { x with headSince := some s.now }
  else if !held && q.headSince.isSome then
    s.modPalette fun p => p.modQ (17 + port) fun x => { x with headSince := none }
  else s

/-- 2 ns pass, one tick of 500 MHz; the counter of CI2 advances by 2 where it runs, and its stamp handler goes on
(R349, R355). -/
def State.advance (s : State) : State :=
  let t := { s.tmb with raw := if s.tmb.running then s.tmb.raw + 2 else s.tmb.raw }
  { s with now := s.now + 2, tmb := t.serve }

/-- A tick: markers, the heartbeat, egress watches, grandmasters that fall silent (R366), the rails that SKEW
drives (R63) and claims of the staging bank (R491). -/
def State.tick (s : State) : State :=
  (((s.advance.watchEgress 0).watchEgress 1).heartbeatEdge).sendMarkers.judgeMasters.driveSkews.judgeClaim

end Sys2Proof.Machine
end

