-- ==== Sys2Proof/Machine/Easel.lean ====
section
/-! DEFINITION. The instructions of an Easel (R101 to R123), ILLEGAL words, scrubbing, and the debug
commands (R76, R95, R96). -/

namespace Sys2Proof.Machine

/-! ## Scalar instructions (R102 to R104) -/

def execAdd (e : At) (d a b : GReg) (s : State) : Res :=
  s.runLocal e (.alu .add d a b) fun k => k.wg d (aluVal .add (k.rg a) (k.rg b))

def execSub (e : At) (d a b : GReg) (s : State) : Res :=
  s.runLocal e (.alu .sub d a b) fun k => k.wg d (aluVal .sub (k.rg a) (k.rg b))

def execAnd (e : At) (d a b : GReg) (s : State) : Res :=
  s.runLocal e (.alu .and d a b) fun k => k.wg d (aluVal .and (k.rg a) (k.rg b))

def execOr (e : At) (d a b : GReg) (s : State) : Res :=
  s.runLocal e (.alu .or d a b) fun k => k.wg d (aluVal .or (k.rg a) (k.rg b))

def execXor (e : At) (d a b : GReg) (s : State) : Res :=
  s.runLocal e (.alu .xor d a b) fun k => k.wg d (aluVal .xor (k.rg a) (k.rg b))

def execSll (e : At) (d a b : GReg) (s : State) : Res :=
  s.runLocal e (.alu .sll d a b) fun k => k.wg d (aluVal .sll (k.rg a) (k.rg b))

def execSrl (e : At) (d a b : GReg) (s : State) : Res :=
  s.runLocal e (.alu .srl d a b) fun k => k.wg d (aluVal .srl (k.rg a) (k.rg b))

def execSra (e : At) (d a b : GReg) (s : State) : Res :=
  s.runLocal e (.alu .sra d a b) fun k => k.wg d (aluVal .sra (k.rg a) (k.rg b))

def execSlt (e : At) (d a b : GReg) (s : State) : Res :=
  s.runLocal e (.alu .slt d a b) fun k => k.wg d (aluVal .slt (k.rg a) (k.rg b))

def execSltu (e : At) (d a b : GReg) (s : State) : Res :=
  s.runLocal e (.alu .sltu d a b) fun k => k.wg d (aluVal .sltu (k.rg a) (k.rg b))

def execMin (e : At) (d a b : GReg) (s : State) : Res :=
  s.runLocal e (.alu .min d a b) fun k => k.wg d (aluVal .min (k.rg a) (k.rg b))

def execMax (e : At) (d a b : GReg) (s : State) : Res :=
  s.runLocal e (.alu .max d a b) fun k => k.wg d (aluVal .max (k.rg a) (k.rg b))

def execAdds (e : At) (d a b : GReg) (s : State) : Res :=
  s.runLocal e (.alu .adds d a b) fun k => k.wg d (aluVal .adds (k.rg a) (k.rg b))

def execSubs (e : At) (d a b : GReg) (s : State) : Res :=
  s.runLocal e (.alu .subs d a b) fun k => k.wg d (aluVal .subs (k.rg a) (k.rg b))

def execClz (e : At) (d a : GReg) (s : State) : Res :=
  s.runLocal e (.clz d a) fun k => k.wg d (clzVal (k.rg a))

def execAddi (e : At) (d a : GReg) (imm : BitVec 16) (s : State) : Res :=
  s.runLocal e (.alui .addi d a imm) fun k => k.wg d (immVal .addi (k.rg a) imm)

def execAndi (e : At) (d a : GReg) (imm : BitVec 16) (s : State) : Res :=
  s.runLocal e (.alui .andi d a imm) fun k => k.wg d (immVal .andi (k.rg a) imm)

def execOri (e : At) (d a : GReg) (imm : BitVec 16) (s : State) : Res :=
  s.runLocal e (.alui .ori d a imm) fun k => k.wg d (immVal .ori (k.rg a) imm)

def execXori (e : At) (d a : GReg) (imm : BitVec 16) (s : State) : Res :=
  s.runLocal e (.alui .xori d a imm) fun k => k.wg d (immVal .xori (k.rg a) imm)

def execSlti (e : At) (d a : GReg) (imm : BitVec 16) (s : State) : Res :=
  s.runLocal e (.alui .slti d a imm) fun k => k.wg d (immVal .slti (k.rg a) imm)

def execSltiu (e : At) (d a : GReg) (imm : BitVec 16) (s : State) : Res :=
  s.runLocal e (.alui .sltiu d a imm) fun k => k.wg d (immVal .sltiu (k.rg a) imm)

def execLi (e : At) (d : GReg) (imm : BitVec 16) (s : State) : Res :=
  s.runLocal e (.li d imm) fun k => k.wg d (sextImm imm)

def execLui (e : At) (d : GReg) (imm : BitVec 16) (s : State) : Res :=
  s.runLocal e (.lui d imm) fun k => k.wg d (zextImm imm <<< 16)

def execSlli (e : At) (d a : GReg) (n : Fin 32) (s : State) : Res :=
  s.runLocal e (.shi .sll d a n) fun k => k.wg d (shVal .sll (k.rg a) n)

def execSrli (e : At) (d a : GReg) (n : Fin 32) (s : State) : Res :=
  s.runLocal e (.shi .srl d a n) fun k => k.wg d (shVal .srl (k.rg a) n)

def execSrai (e : At) (d a : GReg) (n : Fin 32) (s : State) : Res :=
  s.runLocal e (.shi .sra d a n) fun k => k.wg d (shVal .sra (k.rg a) n)

def execExt (e : At) (d a : GReg) (pos len1 : Fin 32) (s : State) : Res :=
  s.runLocal e (.field .ext d a pos len1) fun k =>
    k.wg d (fieldVal .ext (k.rg d) (k.rg a) pos (len1 + 1 : Nat))

def execExts (e : At) (d a : GReg) (pos len1 : Fin 32) (s : State) : Res :=
  s.runLocal e (.field .exts d a pos len1) fun k =>
    k.wg d (fieldVal .exts (k.rg d) (k.rg a) pos (len1 + 1 : Nat))

def execIns (e : At) (d a : GReg) (pos len1 : Fin 32) (s : State) : Res :=
  s.runLocal e (.field .ins d a pos len1) fun k =>
    k.wg d (fieldVal .ins (k.rg d) (k.rg a) pos (len1 + 1 : Nat))

def execMul (e : At) (d a b : GReg) (s : State) : Res :=
  s.runLocal e (.mul .mul d a b) fun k => k.wg d (mulVal .mul (k.rg a) (k.rg b))

def execMulh (e : At) (d a b : GReg) (s : State) : Res :=
  s.runLocal e (.mul .mulh d a b) fun k => k.wg d (mulVal .mulh (k.rg a) (k.rg b))

def execMulhu (e : At) (d a b : GReg) (s : State) : Res :=
  s.runLocal e (.mul .mulhu d a b) fun k => k.wg d (mulVal .mulhu (k.rg a) (k.rg b))

def execDiv (e : At) (d a b : GReg) (s : State) : Res :=
  s.runLocal e (.div .div d a b) fun k => k.wg d (divVal .div (k.rg a) (k.rg b))

def execDivu (e : At) (d a b : GReg) (s : State) : Res :=
  s.runLocal e (.div .divu d a b) fun k => k.wg d (divVal .divu (k.rg a) (k.rg b))

def execRem (e : At) (d a b : GReg) (s : State) : Res :=
  s.runLocal e (.div .rem d a b) fun k => k.wg d (divVal .rem (k.rg a) (k.rg b))

def execRemu (e : At) (d a b : GReg) (s : State) : Res :=
  s.runLocal e (.div .remu d a b) fun k => k.wg d (divVal .remu (k.rg a) (k.rg b))

/-! ## Memory instructions (R109 to R111) -/

def inScratch (a len : Nat) : Bool := decide (a + len ≤ 0x20000)

/-- A word of the range is poisoned. -/
def poisoned (p : Tbl Bool) (a len : Nat) : Bool :=
  (List.range (len / 4)).any fun i => tblGet noMark p (a / 4 + i)

/-- Faults of an access of `len` bytes at `ea`: ALIGN, ADDRESS and, for a load, an uncorrectable or
poisoned word (Table 4-9). -/
def accessFault (ea len : Nat) (inside : Bool) (bad : Bool) (code : Nat) : Option (Nat × Word) :=
  if ea % len ≠ 0 then some (6, lo32 ea)
  else if !inside then some (7, lo32 ea)
  else if bad then some (code, lo32 ea)
  else none

/-- A scratch access; the Easel's own bytes. -/
def State.scratchFault (s : State) (k : Fin 8) (len : Nat) (load : Bool) (ms : List Ecc) (ea : Nat) :
    Option (Nat × Word) :=
  accessFault ea len (inScratch ea len)
    (load && (ms.contains .uncorrectable || poisoned s.easels[k].scrPoison ea len)) 8

def State.atelierFault (s : State) (len : Nat) (load : Bool) (ms : List Ecc) (ea : Nat) :
    Option (Nat × Word) :=
  accessFault ea len (inAtelier ea len)
    (load && (ms.contains .uncorrectable || poisoned s.atelier.poison (ea - atlBase) len)) 9

/-- Bytes of a read at `a`, where `ok` tells of each word whether it has a defined content: those without one take
a free value. -/
def State.readDefined (s : State) (ok : Nat → Bool) (a : Nat) (bs : List Byte) : List Byte × State :=
  if (List.range (bs.length / 4)).all fun i => ok (a / 4 + i) then (bs, s)
  else
    let (n, s) := s.draw
    let free := toLE bs.length n
    ((List.range bs.length).map fun i => if ok (a / 4 + i / 4) then bs.getD i 0 else free.getD i 0, s)

/-- A word of scratch has a defined content (R84). -/
def Easel.defined (x : Easel) (w : Nat) : Bool :=
  match x.scrKnown with
  | none => true
  | some t => tblGet noMark t w

/-- Words of scratch that are written have a defined content from then on. -/
def Easel.define (x : Easel) (a len : Nat) : Option (Tbl Bool) :=
  x.scrKnown.map fun t => (List.range (len / 4)).foldl (fun t i => tblPut noMark t (a / 4 + i) true) t

/-- A word of the Atelier has a defined content for Easel `k`: no task in service on another Easel has stored it
(Table 3-6). -/
def Atelier.defined (t : Atelier) (k w : Nat) : Bool := !t.writers.any fun x => x.1 != k && x.2.2 == w

/-- A task's store into the Atelier. -/
def State.atelierStore (s : State) (k : Fin 8) (task a : Nat) (bs : List Byte) : State :=
  s.modAtelier fun t =>
    let new := ((List.range (bs.length / 4)).map fun i => (k.val, task, (a - atlBase) / 4 + i)).filter
      fun w => !t.writers.contains w
    { t.write a bs with writers := t.writers ++ new }

/-- A corrected scratch word is counted and recorded (R75), and so is each word of a longer read. -/
def State.scratchCorrected (s : State) (k : Fin 8) : List Ecc → Nat → State
  | [], _ => s
  | m :: ms, ea =>
    let s := if m = .corrected then
        (s.modEasel k fun x => { x with scrCorr := satAdd 16 x.scrCorr 1 }).emit evEccCorrected k 1 ea
      else s
    State.scratchCorrected s k ms (ea + 4)

def State.atelierCorrected (s : State) : List Ecc → Nat → State
  | [], _ => s
  | m :: ms, ea =>
    let s := if m = .corrected then s.emit evEccCorrected 8 2 ea else s
    State.atelierCorrected s ms (ea + 4)

def State.scratchBytes (s : State) (k : Fin 8) (ea len : Nat) : List Byte :=
  memBytes s.easels[k].scratch ea len

def State.scratchStore (s : State) (k : Fin 8) (ea : Nat) (bs : List Byte) : State :=
  s.modEasel k fun x => { x with scratch := memWrite x.scratch ea bs
                                 scrKnown := x.define ea bs.length
                                 scrPoison := clearPoison x.scrPoison ea bs.length }

/-- A load from the Easel's scratch. -/
def State.scratchLoad (s : State) (k : Fin 8) (ms : List Ecc) (ea len : Nat) : List Byte × State :=
  (s.scratchCorrected k ms ea).readDefined s.easels[k].defined ea (s.scratchBytes k ea len)

/-- A load from the Atelier. -/
def State.atelierLoad (s : State) (k : Fin 8) (ms : List Ecc) (ea len : Nat) : List Byte × State :=
  (s.atelierCorrected ms ea).readDefined (s.atelier.defined k) (ea - atlBase) (s.atelier.bytes ea len)

def wordOf (bs : List Byte) : Word := BitVec.ofNat 32 (ofLE bs)

/-- The next index after a memory access, and the base update of the post-increment form. -/
def Bank.accessed (b : Bank) (a : GReg) (post : Bool) (off : BitVec 15) : Bank :=
  { b.postInc a post off with pc := b.pc + 1 }

/-- LD: a load into g0 is discarded. -/
def execLd (e : At) (m : Ecc) (t a : GReg) (post : Bool) (off : BitVec 15) (s : State) : Res :=
  .next (s.runOn e (.ld t a post off)
    { fault := fun s b => s.scratchFault e.k 4 true [m] (b.ea a post off)
      act := fun s b =>
        let ea := b.ea a post off
        let (bs, s) := s.scratchLoad e.k [m] ea 4
        some ((b.accessed a post off).wg t (wordOf bs), s) })

/-- ST: the data register is read at issue, before the base update. -/
def execSt (e : At) (m : Ecc) (t a : GReg) (post : Bool) (off : BitVec 15) (s : State) : Res :=
  .next (s.runOn e (.st t a post off)
    { fault := fun s b => s.scratchFault e.k 4 false [m] (b.ea a post off)
      act := fun s b =>
        some (b.accessed a post off, s.scratchStore e.k (b.ea a post off) (toLE 4 (b.rg t).toNat)) })

def execVld (e : At) (m : Vector Ecc 8) (v : VReg) (a : GReg) (post : Bool) (off : BitVec 15) (s : State) : Res :=
  .next (s.runOn e (.vld v a post off)
    { fault := fun s b => s.scratchFault e.k 32 true m.toList (b.ea a post off)
      act := fun s b =>
        let ea := b.ea a post off
        let (bs, s) := s.scratchLoad e.k m.toList ea 32
        some ((b.accessed a post off).wv v (lanesOfBytes bs), s) })

def execVst (e : At) (m : Ecc) (v : VReg) (a : GReg) (post : Bool) (off : BitVec 15) (s : State) : Res :=
  .next (s.runOn e (.vst v a post off)
    { fault := fun s b => s.scratchFault e.k 32 false [m] (b.ea a post off)
      act := fun s b =>
        some (b.accessed a post off, s.scratchStore e.k (b.ea a post off) (bytesOfLanes (b.rv v))) })

def execLda (e : At) (m : Ecc) (t a : GReg) (post : Bool) (off : BitVec 15) (s : State) : Res :=
  .next (s.runOn e (.lda t a post off)
    { fault := fun s b => s.atelierFault 4 true [m] (b.ea a post off)
      act := fun s b =>
        let ea := b.ea a post off
        let (bs, s) := s.atelierLoad e.k [m] ea 4
        some ((b.accessed a post off).wg t (wordOf bs), s) })

def execSta (e : At) (m : Ecc) (t a : GReg) (post : Bool) (off : BitVec 15) (s : State) : Res :=
  .next (s.runOn e (.sta t a post off)
    { fault := fun s b => s.atelierFault 4 false [m] (b.ea a post off)
      act := fun s b =>
        some (b.accessed a post off,
          s.atelierStore e.k b.task.task (b.ea a post off) (toLE 4 (b.rg t).toNat)) })

def execVlda (e : At) (m : Vector Ecc 8) (v : VReg) (a : GReg) (post : Bool) (off : BitVec 15) (s : State) : Res :=
  .next (s.runOn e (.vlda v a post off)
    { fault := fun s b => s.atelierFault 32 true m.toList (b.ea a post off)
      act := fun s b =>
        let ea := b.ea a post off
        let (bs, s) := s.atelierLoad e.k m.toList ea 32
        some ((b.accessed a post off).wv v (lanesOfBytes bs), s) })

def execVsta (e : At) (m : Ecc) (v : VReg) (a : GReg) (post : Bool) (off : BitVec 15) (s : State) : Res :=
  .next (s.runOn e (.vsta v a post off)
    { fault := fun s b => s.atelierFault 32 false [m] (b.ea a post off)
      act := fun s b =>
        some (b.accessed a post off,
          s.atelierStore e.k b.task.task (b.ea a post off) (bytesOfLanes (b.rv v))) })

/-! ## Vector instructions (R105 to R108) -/

def execVadd (e : At) (vd va vb : VReg) (s : State) : Res :=
  s.runLocal e (.lane .vadd vd va vb) fun k => k.wv vd (lanes2 (laneVal .vadd) (k.rv va) (k.rv vb))

def execVsub (e : At) (vd va vb : VReg) (s : State) : Res :=
  s.runLocal e (.lane .vsub vd va vb) fun k => k.wv vd (lanes2 (laneVal .vsub) (k.rv va) (k.rv vb))

def execVand (e : At) (vd va vb : VReg) (s : State) : Res :=
  s.runLocal e (.lane .vand vd va vb) fun k => k.wv vd (lanes2 (laneVal .vand) (k.rv va) (k.rv vb))

def execVor (e : At) (vd va vb : VReg) (s : State) : Res :=
  s.runLocal e (.lane .vor vd va vb) fun k => k.wv vd (lanes2 (laneVal .vor) (k.rv va) (k.rv vb))

def execVxor (e : At) (vd va vb : VReg) (s : State) : Res :=
  s.runLocal e (.lane .vxor vd va vb) fun k => k.wv vd (lanes2 (laneVal .vxor) (k.rv va) (k.rv vb))

def execVadds (e : At) (vd va vb : VReg) (s : State) : Res :=
  s.runLocal e (.lane .vadds vd va vb) fun k => k.wv vd (lanes2 (laneVal .vadds) (k.rv va) (k.rv vb))

def execVsubs (e : At) (vd va vb : VReg) (s : State) : Res :=
  s.runLocal e (.lane .vsubs vd va vb) fun k => k.wv vd (lanes2 (laneVal .vsubs) (k.rv va) (k.rv vb))

def execVmin (e : At) (vd va vb : VReg) (s : State) : Res :=
  s.runLocal e (.lane .vmin vd va vb) fun k => k.wv vd (lanes2 (laneVal .vmin) (k.rv va) (k.rv vb))

def execVmax (e : At) (vd va vb : VReg) (s : State) : Res :=
  s.runLocal e (.lane .vmax vd va vb) fun k => k.wv vd (lanes2 (laneVal .vmax) (k.rv va) (k.rv vb))

def execVceq (e : At) (vd va vb : VReg) (s : State) : Res :=
  s.runLocal e (.lane .vceq vd va vb) fun k => k.wv vd (lanes2 (laneVal .vceq) (k.rv va) (k.rv vb))

def execVclt (e : At) (vd va vb : VReg) (s : State) : Res :=
  s.runLocal e (.lane .vclt vd va vb) fun k => k.wv vd (lanes2 (laneVal .vclt) (k.rv va) (k.rv vb))

def execVcltu (e : At) (vd va vb : VReg) (s : State) : Res :=
  s.runLocal e (.lane .vcltu vd va vb) fun k => k.wv vd (lanes2 (laneVal .vcltu) (k.rv va) (k.rv vb))

def execVsel (e : At) (vd va vb vc : VReg) (s : State) : Res :=
  s.runLocal e (.vsel vd va vb vc) fun k =>
    k.wv vd (Vector.ofFn fun i => ((k.rv vc)[i] &&& (k.rv va)[i]) ||| (~~~(k.rv vc)[i] &&& (k.rv vb)[i]))

def execVabs (e : At) (vd va : VReg) (s : State) : Res :=
  s.runLocal e (.vabs vd va) fun k => k.wv vd ((k.rv va).map fun x => sat32 x.toInt.natAbs)

def execVslli (e : At) (vd va : VReg) (n : Fin 32) (s : State) : Res :=
  s.runLocal e (.vshi .sll vd va n) fun k => k.wv vd ((k.rv va).map fun x => shVal .sll x n)

def execVsrli (e : At) (vd va : VReg) (n : Fin 32) (s : State) : Res :=
  s.runLocal e (.vshi .srl vd va n) fun k => k.wv vd ((k.rv va).map fun x => shVal .srl x n)

def execVsrai (e : At) (vd va : VReg) (n : Fin 32) (s : State) : Res :=
  s.runLocal e (.vshi .sra vd va n) fun k => k.wv vd ((k.rv va).map fun x => shVal .sra x n)

def execVbcast (e : At) (v : VReg) (g : GReg) (s : State) : Res :=
  s.runLocal e (.vbcast v g) fun k => k.wv v (Vector.replicate 8 (k.rg g))

def execVext (e : At) (g : GReg) (v : VReg) (lane : Fin 8) (s : State) : Res :=
  s.runLocal e (.vext g v lane) fun k => k.wg g (k.rv v)[lane]

def execVins (e : At) (v : VReg) (g : GReg) (lane : Fin 8) (s : State) : Res :=
  s.runLocal e (.vins v g lane) fun k => k.wv v ((k.rv v).set lane (k.rg g))

def execVmul (e : At) (vd va vb : VReg) (s : State) : Res :=
  s.runLocal e (.vmul .vmul vd va vb) fun k => k.wv vd (lanes2 (vmulVal .vmul) (k.rv va) (k.rv vb))

def execVmulh (e : At) (vd va vb : VReg) (s : State) : Res :=
  s.runLocal e (.vmul .vmulh vd va vb) fun k => k.wv vd (lanes2 (vmulVal .vmulh) (k.rv va) (k.rv vb))

def execVmac (e : At) (acc : AReg) (va vb : VReg) (s : State) : Res :=
  s.runLocal e (.vmac .vmac acc va vb) fun k =>
    k.wa acc (Vector.ofFn fun i => macVal .vmac (k.ra acc)[i] (k.rv va)[i] (k.rv vb)[i])

def execVmsu (e : At) (acc : AReg) (va vb : VReg) (s : State) : Res :=
  s.runLocal e (.vmac .vmsu acc va vb) fun k =>
    k.wa acc (Vector.ofFn fun i => macVal .vmsu (k.ra acc)[i] (k.rv va)[i] (k.rv vb)[i])

def execAmov (e : At) (v : VReg) (acc : AReg) (sh : Fin 64) (s : State) : Res :=
  s.runLocal e (.amov .amov v acc sh) fun k => k.wv v ((k.ra acc).map fun x => amovVal .amov x sh)

def execAmovr (e : At) (v : VReg) (acc : AReg) (sh : Fin 64) (s : State) : Res :=
  s.runLocal e (.amov .amovr v acc sh) fun k => k.wv v ((k.ra acc).map fun x => amovVal .amovr x sh)

def execAmovl (e : At) (v : VReg) (acc : AReg) (s : State) : Res :=
  s.runLocal e (.ahalf .amovl v acc) fun k => k.wv v ((k.ra acc).map (ahalfVal .amovl))

def execAmovh (e : At) (v : VReg) (acc : AReg) (s : State) : Res :=
  s.runLocal e (.ahalf .amovh v acc) fun k => k.wv v ((k.ra acc).map (ahalfVal .amovh))

def execAclr (e : At) (acc : AReg) (s : State) : Res :=
  s.runLocal e (.aclr acc) fun k => k.wa acc zeroAccs

def execAld (e : At) (acc : AReg) (v : VReg) (sh : Fin 32) (s : State) : Res :=
  s.runLocal e (.ald acc v sh) fun k => k.wa acc ((k.rv v).map fun x => aldVal x sh)

/-! ## Control instructions (R112 to R116) -/

/-- A conditional branch (R112, R115). -/
def State.runBranch (s : State) (e : At) (op : BrOp) (a b : GReg) (off : BitVec 14) : Res :=
  .next (s.runOn e (.br op a b off)
    { taken := fun k => brTaken op (k.rg a) (k.rg b)
      act := fun s k =>
        some (if brTaken op (k.rg a) (k.rg b) then k.jumpTo (k.pc + off.toNat)
          else { k with pc := k.pc + 1 }, s) })

def execBeq (e : At) (a b : GReg) (off : BitVec 14) (s : State) : Res :=
  s.runBranch e .beq a b off

def execBne (e : At) (a b : GReg) (off : BitVec 14) (s : State) : Res :=
  s.runBranch e .bne a b off

def execBlt (e : At) (a b : GReg) (off : BitVec 14) (s : State) : Res :=
  s.runBranch e .blt a b off

def execBge (e : At) (a b : GReg) (off : BitVec 14) (s : State) : Res :=
  s.runBranch e .bge a b off

def execBltu (e : At) (a b : GReg) (off : BitVec 14) (s : State) : Res :=
  s.runBranch e .bltu a b off

def execBgeu (e : At) (a b : GReg) (off : BitVec 14) (s : State) : Res :=
  s.runBranch e .bgeu a b off

def execJmp (e : At) (off : BitVec 14) (s : State) : Res :=
  .next (s.runOn e (.jmp off) { act := fun s k => some (k.jumpTo (k.pc + off.toNat), s) })

/-- CALL: a ninth call faults STACK (R81). -/
def execCall (e : At) (target : BitVec 14) (s : State) : Res :=
  .next (s.runOn e (.call target)
    { fault := fun _ k => if 8 ≤ k.rets.length then some (4, 0) else none
      act := fun s k => some ({ k with rets := (k.pc + 1) % 16384 :: k.rets, pc := target.toNat }, s) })

/-- RET: with an empty stack, or a loop of this depth open, it faults STACK (R116). -/
def execRet (e : At) (s : State) : Res :=
  .next (s.runOn e .ret
    { fault := fun _ k => if k.rets = [] ∨ k.loopsHere ≠ [] then some (4, 0) else none
      act := fun s k => some (match k.rets with
        | x :: rest => { k with rets := rest, pc := x }
        | [] => k, s) })

/-- END (R83). -/
def execEndI (e : At) (s : State) : Res :=
  .next (s.runOn e .endTask { act := fun s k => some (k, s), after := fun s => s.endTask e.k })

/-- BREAK halts in test mode with cause 4, and faults outside it. -/
def execBreakI (e : At) (s : State) : Res :=
  .next (s.runOn e .brk
    { fault := fun s _ => if s.dsp.mode = .test then none else some (3, 0)
      act := fun s k => some ({ k with pc := k.pc + 1 }, s)
      after := fun s => s.haltEasel e.k 4 })

def execLidx (e : At) (d : GReg) (s : State) : Res :=
  s.runLocal e (.lidx d) fun k => k.wg d (lo32 (match k.loopsHere with
    | l :: _ => l.done
    | [] => 0))

/-- LOOP (R113). -/
def execLoop (e : At) (c : GReg) (bound : BitVec 16) (last : BitVec 14) (s : State) : Res :=
  .next (s.runOn e (.loop c bound last)
    { fault := fun _ k =>
        if 4 ≤ k.loops.length then some (4, 0)
        else if bound.toNat < (k.rg c).toNat then some (5, k.rg c) else none
      act := fun s k =>
        let n := (k.rg c).toNat
        some (if n = 0 then { k with pc := last.toNat + 1 }
          else { k with
            loops := { start := (k.pc + 2) % 16384, last := last.toNat, count := n, done := 0
                       depth := k.rets.length } :: k.loops
            pc := k.pc + 2 }, s) })

/-! ## Synchronous fabric operations (R117 to R121) -/

/-- A fabric operation of this unit alone: a value for d. -/
def State.runSync (s : State) (e : At) (i : EInstr) (d : GReg) (f : State → Bank → Word × State) : Res :=
  .next (s.runOn e i
    { act := fun s k =>
        let (w, s) := f s k
        some ({ k.wg d w with pc := k.pc + 1 }, s) })

/-- FCPRB. -/
def execFcprb (e : At) (m : Ecc) (d r : GReg) (s : State) : Res :=
  s.runSync e (.fcprb d r) d fun s k =>
    if fieldOf (k.rg r) 23 9 = 0 then s.probe (k.rg r).toNat m else (0, s)

/-- The eight cells of FCPRBV: square [22:7], slots from [6:0] modulo 128. -/
def probeCells (w : Word) : List Nat :=
  (List.range 8).map fun i => 128 * fieldOf w 7 16 + (fieldOf w 0 7 + i) % 128

/-- FCPRBV: its eight reads form one probe (R175). -/
def execFcprbv (e : At) (m : Vector Ecc 8) (v : VReg) (r : GReg) (s : State) : Res :=
  .next (s.runOn e (.fcprbv v r)
    { act := fun s k =>
        let (ws, s) := if fieldOf (k.rg r) 23 9 = 0 then
            s.probes ((probeCells (k.rg r)).zip m.toList) else ([], s)
        some ({ k.wv v (Vector.ofFn fun i => ws.getD i 0) with pc := k.pc + 1 }, s) })

/-- The result of an operation of R118: a standby takes the logged one that carries its key and acts
on nothing outside its Easel; any other unit acts, and an active logs the result. -/
def State.logged (s : State) (k : Bank) (f : State → (Word × Word) × State) :
    Option ((Word × Word) × State) :=
  if s.standby then
    match s.twin.fabric.find? (fun x => x.task == k.task.task && x.flow == k.task.flow && x.op == k.fabIdx) with
    | some x => some ((x.d, x.t), s.modTwin fun y => { y with fabric := y.fabric.erase x })
    | none => none
  else
    let (r, s) := f s
    some (r, s.logInput (.fabric k.task.task k.task.flow k.fabIdx r.1 r.2))

/-- A logged operation that writes d only. -/
def State.runLogged (s : State) (e : At) (i : EInstr) (d : GReg) (f : State → Bank → Word × State)
    (both : State → Bank → Word → State := fun s _ _ => s) : Res :=
  .next (s.runOn e i
    { act := fun s k =>
        match s.logged k (fun s => let (w, s) := f s k; ((w, 0), s)) with
        | none => none
        | some ((w, _), s) => some ({ k.wg d w with pc := k.pc + 1, fabIdx := k.fabIdx + 1 }, both s k w) })

/-- FLOCK (R399, R400). -/
def execFlock (e : At) (arb : Arb) (d : GReg) (n : Fin 32) (s : State) : Res :=
  s.runLogged e (.flock d n) d fun s _ =>
    let (r, h) := s.host.acquire n e.k arb
    (lo32 r, s.modHost fun _ => h)

/-- FUNLOCK (R401). -/
def execFunlock (e : At) (d : GReg) (n : Fin 32) (s : State) : Res :=
  s.runLogged e (.funlock d n) d fun s _ =>
    let (held, h) := s.host.release n e.k
    (lo32 (bit !held), s.modHost fun _ => h)

/-- FMBS (R404). The Easels are party 1, and the source ID is the Easel's number. -/
def execFmbs (e : At) (d r : GReg) (ch : Fin 16) (s : State) : Res :=
  s.runLogged e (.fmbs d r ch) d fun s k =>
    let (x, s) := s.send ch 1 e.k (k.rg r)
    (lo32 x, s)

/-- FMBR (R405). Where d and t name one register, t is written last (log entry 25). -/
def execFmbr (e : At) (d t : GReg) (ch : Fin 16) (s : State) : Res :=
  .next (s.runOn e (.fmbr d t ch)
    { act := fun s k =>
        match s.logged k (fun s =>
            let got := (s.host.ch ch).has 1 && ((s.host.ch ch).inbound 1).words ≠ []
            let (w, src, s) := s.take ch 1
            ((w, pack [(31, 1, bit got), (0, 4, src)]), s)) with
        | none => none
        | some ((w, x), s) =>
          some ({ (k.wg d w).wg t x with pc := k.pc + 1, fabIdx := k.fabIdx + 1 }, s) })

/-- FEMIT (R120, R153): d is 1 where the record is suppressed. Of a record held back the spec states no
result at issue, so d is a free value 0 or 1 (log entry 4). -/
def execFemit (e : At) (d r : GReg) (sev : Fin 4) (n : Fin 64) (s : State) : Res :=
  s.runSync e (.femit d r sev n) d fun s k =>
    let p (i : Nat) : Word := k.rg (Fin.ofNat 32 (r + i))
    if s.holding k.task then
      let (x, s) := s.draw
      (lo32 (x % 2), s.hold k.task (.event (0x20C0 + n) sev k.task.epoch s.epoch.nominal (p 0) (p 1) (p 2) (p 3)))
    else
      let s := s.modEv fun x => { x with forEpoch := some k.task.epoch }
      let (sup, s) := s.programEvent (0x20C0 + n) sev s.epoch.nominal (p 0).toNat (p 1).toNat (p 2).toNat (p 3).toNat
      (lo32 (bit sup), s.modEv fun x => { x with forEpoch := none })

/-- FTIME: the nominal boundary of the present epoch. -/
def execFtime (e : At) (d t : GReg) (s : State) : Res :=
  .next (s.runOn e (.ftime d t)
    { act := fun s k =>
        some ({ (k.wg d (lo32 s.epoch.nominal)).wg t (hi32 s.epoch.nominal) with pc := k.pc + 1 }, s) })

/-- FSTAMP (R119). -/
def execFstamp (e : At) (d : GReg) (s : State) : Res :=
  s.runSync e (.fstamp d) d fun s _ => (lo32 s.time, s)

/-- An index names a robot, or a zone descriptor of the running Cartoon (R121). -/
def State.stopIndexOk (s : State) (kind : StopArg) (i : Nat) : Bool :=
  match kind with
  | .zone => decide (i < zoneCount (s.section 0x15))
  | .robot => decide (i < 256)

/-- FSTOP, source 3 (R121). `bad` are the words that the blocking of a zone finds uncorrectable (R206). -/
def State.easelStop (s : State) (kind : StopArg) (i : Nat) (bad : List (BitVec 21)) : Word × State :=
  if !s.stopIndexOk kind i then (pack [(30, 2, 2)], s)
  else
    let (sub, seq, s) := match kind with
      | .zone =>
        let qs := zoneSquares (s.section 0x15) i
        (s.eccWhere bad (inSquares qs)).raiseStop .zone 3 i qs
      | .robot => s.raiseStop .robot 3 i []
    (pack [(30, 2, bit sub), (0, 16, seq)], s)

/-- FSTOP's record of a refusal and its digest item, the same in both units (R121, R425). -/
def State.stopDone (s : State) (kind : StopArg) (i : Nat) (t : TaskCtx) (w : Word) : State :=
  s.inEpoch t.epoch fun s =>
  let s := if fieldOf w 30 2 = 2 then s.emit evEaselStopRefused t.flow (stopCode kind) i t.task else s
  s.item 7 t.flow (toLE 1 (stopCode kind) ++ toLE 4 i ++ toLE 4 w.toNat)

def execFstop (e : At) (d r : GReg) (kind : StopArg) (bad : List (BitVec 21)) (s : State) : Res :=
  s.runLogged e (.fstop d r kind) d (fun s k => s.easelStop kind (k.rg r).toNat bad)
    (fun s k w => s.stopDone kind (k.rg r).toNat k.task w)

/-- FSREL: an Easel holds no session, so a FLEET stop's release fails with code 1 (R121). -/
def execFsrel (e : At) (d r : GReg) (bad : List (BitVec 21)) (s : State) : Res :=
  s.runLogged e (.fsrel d r) d
    (fun s k =>
      let seq := fieldOf (k.rg r) 0 16
      let fleet := s.fleet.stops.any fun x => x.seq == seq && x.kind == .fleet
      let (code, s) := s.judgeRelease seq 0 fleet bad
      (lo32 code, s))
    (fun s k w => s.inEpoch k.task.epoch fun s => s.item 7 k.task.flow (toLE 1 0 ++ toLE 4 (fieldOf (k.rg r) 0 16) ++ toLE 4 w.toNat))

/-- FPCNT: a queue's packets count its grant payloads (R374, R378). -/
def execFpcnt (e : At) (d : GReg) (q : Fin 64) (s : State) : Res :=
  s.runLogged e (.fpcnt d q) d fun s _ =>
    (pack [(16, 16, min 0xFFFF (s.palette.q q).used), (0, 16, min 0xFFFF (s.palette.count q))], s)

/-! ## Asynchronous fabric operations (R122, R123) -/

/-- Issue checks of R122: the descriptor's place for FGRANT, FPPUT and FPGET, then the FIFO. -/
def asyncFault (op : AsyncOp) (v : Nat) (fifo : Nat) : Option (Nat × Word) :=
  let desc : Bool := match op with
    | .fgrant => true
    | .fpput => true
    | .fpget => true
    | _ => false
  if desc ∧ v % 32 ≠ 0 then some (6, lo32 v)
  else if desc ∧ !inAtelier v 32 then some (7, lo32 v)
  else if 8 ≤ fifo then some (10, 0) else none

/-- A request goes into the FIFO, or is held under ordered rules (R88, R153). -/
def State.request (s : State) (k : Fin 8) (t : TaskCtx) (op : AsyncOp) (v : Word) (task slot : Nat) : State :=
  let r : FabReq :=
    { op := op, value := v, task := task, slot := slot, flow := t.flow, issuer := t.task,
      urgent := t.urgent, level := t.level, epoch := t.epoch }
  if s.holding t then s.hold t (.request k r) else s.pushReq k r

def State.runAsync (s : State) (e : At) (op : AsyncOp) (r : GReg) (task : BitVec 11) (slot : Fin 4) : Res :=
  .next (s.runOn e (.async op r task slot)
    { fault := fun s k => asyncFault op (k.rg r).toNat s.easels[e.k].fifo.length
      act := fun s k => some ({ k with pc := k.pc + 1 }, s.request e.k k.task op (k.rg r) task.toNat slot) })

def execFgrant (e : At) (r : GReg) (task : BitVec 11) (slot : Fin 4) (s : State) : Res :=
  s.runAsync e .fgrant r task slot

def execFstk (e : At) (r : GReg) (task : BitVec 11) (slot : Fin 4) (s : State) : Res :=
  s.runAsync e .fstk r task slot

def execFloop (e : At) (r : GReg) (task : BitVec 11) (slot : Fin 4) (s : State) : Res :=
  s.runAsync e .floop r task slot

def execFpput (e : At) (r : GReg) (task : BitVec 11) (slot : Fin 4) (s : State) : Res :=
  s.runAsync e .fpput r task slot

def execFpget (e : At) (r : GReg) (task : BitVec 11) (slot : Fin 4) (s : State) : Res :=
  s.runAsync e .fpget r task slot

/-! ## ILLEGAL words (R99) -/

/-- ILLEGAL_INSTRUCTION: the word at the pc is no instruction, or the state makes it illegal. -/
def execIllegalInstruction (e : At) (s : State) : Res :=
  let x := s.easels[e.k]
  let ill := match x.insn with
    | none => true
    | some i => x.bank.illegal i
  .next (if !s.issues e.k then s
    else if x.fetchBad e then s.easelFault e.k 1 0
    else if ill then (s.fetchCorrected e x).easelFault e.k 2 0 else s)

/-! ## Scrubbing (R76) -/

/-- EASEL_SCRUB: instruction words 0 to 16,383, then scratch words 0 to 32,767, one in each idle
step. A found word is recorded by its byte address. -/
def execEaselScrub (k : Fin 8) (m : Ecc) (s : State) : Res :=
  let x := s.easels[k]
  let scr := decide (16384 ≤ x.scrubAt)
  let i := if scr then x.scrubAt - 16384 else x.scrubAt
  .next (if !s.awake || x.run != .idle then s
    else
      let s := s.modEasel k fun x => { x with scrubAt := (x.scrubAt + 1) % 49152 }
      match m with
      | .ok => s
      | .corrected =>
        (s.modEasel k fun x =>
          if scr then { x with scrCorr := satAdd 16 x.scrCorr 1 }
          else { x with imemCorr := satAdd 16 x.imemCorr 1 }).emit evEccCorrected k (bit scr) (4 * i)
      | .uncorrectable =>
        (s.modEasel k fun x =>
          if scr then { x with scrPoison := tblPut noMark x.scrPoison i true }
          else { x with imemPoison := tblPut noMark x.imemPoison i true }).emit evEccPoisoned k (bit scr) (4 * i))

/-- One word of the Atelier unit scrubbed. -/
def State.atelierWord (s : State) (i : Nat) (m : Ecc) : State :=
  match m with
  | .ok => s
  | .corrected => s.emit evEccCorrected 8 2 (atlBase + 4 * i)
  | .uncorrectable =>
    (s.modAtelier fun x => { x with poison := tblPut noMark x.poison i true }).emit evEccPoisoned 8 2
      (atlBase + 4 * i)

/-- ATELIER_SCRUB: one 32-byte unit. -/
def execAtelierScrub (ms : Vector Ecc 8) (s : State) : Res :=
  let u := s.atelier.scrubAt
  .next (if !s.awake then s
    else
      let s := s.modAtelier fun x => { x with scrubAt := (x.scrubAt + 1) % 131072 }
      (List.finRange 8).foldl (fun s (i : Fin 8) => s.atelierWord (8 * u + i) ms[i]) s)

/-! ## Debug windows (R95, R96) -/

/-- A debug write: in test mode under an INSTALLER or MAKER session it acts; otherwise DBG_REFUSED
is set. -/
def State.debugWrite (s : State) (k : Fin 8) (f : State → State) : State :=
  s.bar fun s =>
    if s.dsp.mode = .test ∧ 2 ≤ s.pcieRole then f s.touch
    else s.modEasel k fun x => { x with dbgRefused := true }

/-- The breakpoint enables of an EAS_CTL write. -/
def State.setBrk (s : State) (k : Fin 8) (brk : BitVec 2) (halt : Bool) : State :=
  s.modEasel k fun x => { x with brk0En := bitsOf brk.toNat 0 1 == 1, brk1En := bitsOf brk.toNat 1 1 == 1
                                 haltBit := halt }

/-- EAS_HALT. -/
def execEasHalt (k : Fin 8) (brk : BitVec 2) (s : State) : Res :=
  .next (s.debugWrite k fun s =>
    let s := s.setBrk k brk true
    if s.easels[k].halted then s else s.haltEasel k 0)

/-- EAS_RESUME. -/
def execEasResume (k : Fin 8) (brk : BitVec 2) (s : State) : Res :=
  .next (s.debugWrite k fun s => (s.setBrk k brk false).modEasel k fun x => { x with halted := false })

/-- EAS_STEP: the Easel runs one instruction and halts again (`State.stepped`). -/
def execEasStep (k : Fin 8) (brk : BitVec 2) (s : State) : Res :=
  .next (s.debugWrite k fun s =>
    let s := s.setBrk k brk true
    if s.easels[k].halted then
      s.modEasel k fun x => { x with halted := false, stepOne := true, brkSkip := true }
    else s.haltEasel k 0)

/-- BREAKPOINT_HIT: the instruction runs on resume. -/
def execBreakpointHit (k : Fin 8) (s : State) : Res :=
  .next (match s.breakHere k with
    | some cause =>
      if s.awake && s.easels[k].run == .running && !s.halted k then
        (s.modEasel k fun x => { x with brkSkip := true }).haltEasel k cause
      else s
    | none => s)

/-- EAS_MEM_ADDR's word, and the next (Table 3-18). -/
def Easel.nextWord (x : Easel) : Easel := { x with memWord := (x.memWord + 1) % 32768 }

def Easel.memData (x : Easel) : Word :=
  if x.memSpace then Machine.memWord x.scratch (4 * x.memWord) else tblGet imemFill x.imem (x.memWord % 16384)

/-- The word at EAS_MEM_ADDR cannot be corrected. -/
def Easel.memBad (x : Easel) (m : Ecc) : Bool :=
  m == .uncorrectable ||
  (if x.memSpace then tblGet noMark x.scrPoison x.memWord else tblGet noMark x.imemPoison (x.memWord % 16384))

/-- The word read while the Easel is halted. A corrected word is counted and recorded (R75). No instruction reads
here, so that an uncorrectable word faults nothing: what it shows, and what a scratch word without a defined
content shows, is a free value. -/
def State.memDataRead (s : State) (k : Fin 8) (m : Ecc) : Nat × State :=
  let x := s.easels[k]
  if x.memBad m || (x.memSpace && !x.defined x.memWord) then
    let (n, s) := s.draw
    (n % 2 ^ 32, s)
  else
    (x.memData.toNat, if x.memSpace then s.scratchCorrected k [m] (4 * x.memWord)
      else s.imemCorrected k m (x.memWord % 16384))

/-- EAS_MEM_DATA_READ: 0 unless the Easel is halted. -/
def execEasMemDataRead (k : Fin 8) (m : Ecc) (s : State) : Res :=
  s.barRead fun s =>
    let (w, s) := if s.halted k then s.memDataRead k m else (0, s)
    (w, s.modEasel k Easel.nextWord)

def Easel.writeMem (x : Easel) (w : Word) : Easel :=
  if x.memSpace then
    { x with scratch := memWrite x.scratch (4 * x.memWord) (toLE 4 w.toNat)
             scrKnown := x.define (4 * x.memWord) 4
             scrPoison := clearPoison x.scrPoison (4 * x.memWord) 4 }
  else
    { x with imem := tblPut imemFill x.imem (x.memWord % 16384) w
             imemPoison := tblPut noMark x.imemPoison (x.memWord % 16384) false }

/-- EAS_MEM_DATA_WRITE. -/
def execEasMemDataWrite (k : Fin 8) (w : Word) (s : State) : Res :=
  .next (s.debugWrite k fun s => s.modEasel k fun x => (x.writeMem w).nextWord)

end Sys2Proof.Machine
end

