-- ==== Sys2Proof/Machine/RegRead.lean ====
section
/-! DEFINITION. What each register reads as, and what reading it does (R6 to R8): RC_REGISTER_READ serves
every register read of BAR0. Offsets count from the start of the block. -/

namespace Sys2Proof.Machine

/-- A register's value with the state its read leaves. -/
abbrev Shown := Nat × State

def State.show (s : State) (v : Nat) : Shown := (v, s)

/-! ## GCTL and TFC (Tables 1-7 to 1-11, 2-8 to 2-17, 18-10, 18-11) -/

def State.readGctl (s : State) (o : Nat) : Shown :=
  let f := s.fleet
  let any := fun (k : StopKind) => bit (f.stops.any (·.kind == k))
  s.show (match o with
    | 0 => gctlId.toNat
    | 4 => packNat [(3, 1, bit s.pwr.refOk), (2, 1, bit s.pwr.recovery), (1, 1, bit s.pwr.clkSel), (0, 1, bit s.twin.seatB)]
    | 0x108 => packNat [(16, 16, f.lastSeq), (12, 3, f.relResult), (8, 3, f.lastSource),
        (6, 1, bit (f.stops.any (·.seq == 0))), (5, 1, bit f.discrepancy), (4, 1, bit (!f.inputB)),
        (3, 1, bit (!f.inputA)), (2, 1, any .robot), (1, 1, any .zone), (0, 1, any .fleet)]
    | 0x10C => packNat [(16, 1, bit f.restart), (0, 16, f.incarnation)]
    | 0x110 => packNat [(8, 8, f.discTime), (0, 1, bit f.bootHold)]
    | _ => 0)

/-- A register of a region. A negative D (the region faster than its baseline) is shown in DRIFT, as in
MARGIN_PLAN, as 24-bit two's complement: the spec gives no sign (DESIGN CHOICE, log entry 59). -/
def State.readRegion (s : State) (n : Fin 4) (o : Nat) : Nat :=
  let r := s.region n
  let t := fun (i : Fin 4) => if r.sensors[i].out then 0x80 else codeOf 8 r.sensors[i].temp
  match o with
  | 0 => packNat [(16, 16, s.target n), (0, 16, r.rate)]
  | 4 => packNat [(16, 12, r.railRead), (0, 12, r.railSet)]
  | 8 => packNat [(24, 8, t 3), (16, 8, t 2), (8, 8, t 1), (0, 8, t 0)]
  | 0xC => packNat [(28, 4, min 15 (r.chains.toList.filter (·.out)).length), (0, 24, codeOf 24 r.ppm)]
  | 0x10 => packNat [(28, 3, r.cap), (16, 12, r.railDesign), (0, 16, r.daysLeft)]
  | _ => 0

def State.readTfc (s : State) (o : Nat) : Shown :=
  let t := s.tfc
  let each := fun (f : Region → Bool) => packNat [(0, 1, bit (f t.regions[0])), (1, 1, bit (f t.regions[1])),
    (2, 1, bit (f t.regions[2])), (3, 1, bit (f t.regions[3]))]
  match o with
  | 0 => s.show (packNat [(24, 8, t.planWarn), (16, 8, t.tdesign), (8, 8, t.hyst), (0, 8, t.guard)])
  | 4 => s.show (packNat [(16, 16, t.reopenN), (8, 7, t.stopN), (0, 4, t.admitN)])
  | 8 => s.show (packNat [(17, 1, bit t.cfgErr), (16, 1, bit t.ready), (12, 4, t.admitCause), (8, 4, each (·.breach)),
      (4, 4, each (·.atRisk)), (0, 1, bit t.admitClosed)])
  | 0xC => (packNat [(8, 24, t.total), (0, 7, min 127 t.consec)], s.modTfc fun t => { t with total := 0 })
  | 0x10 => (t.lateOut, s.modTfc fun t => { t with lateOut := 0 })
  | _ => s.show (if 0x100 ≤ o ∧ o < 0x200 then s.readRegion (Fin.ofNat 4 ((o - 0x100) / 0x40)) (o % 0x40) else 0)

/-! ## Easel debug windows (Tables 3-7 to 3-19) -/

/-- The register-file window. -/
def Bank.window (b : Bank) (o : Nat) : Word :=
  if o < 0x200 then b.rg (Fin.ofNat 32 ((o - 0x100) / 4))
  else if o < 0x400 then (b.v[Fin.ofNat 16 ((o - 0x200) / 32)])[Fin.ofNat 8 (o / 4)]
  else
    let a := (b.a[Fin.ofNat 4 ((o - 0x400) / 64)])[Fin.ofNat 8 (o / 8)]
    if o / 4 % 2 = 0 then lo32 a.toNat else hi32 a.toNat

/-- The window has a register at this offset. -/
def inWindow (o : Nat) : Bool :=
  (decide (0x100 ≤ o) && decide (o < 0x180)) || (decide (0x200 ≤ o) && decide (o < 0x500))

def Easel.stateCode (x : Easel) (halted : Bool) : Nat :=
  if halted then 2 else match x.run with
    | .idle => 0
    | .running => 1
    | .faultExit => 3

def State.readEasel (s : State) (k : Fin 8) (o : Nat) : Shown :=
  let x := s.easels[k]
  let b := x.bank
  match o with
  | 0 => s.show (packNat [(10, 1, bit x.dbgRefused), (9, 1, bit x.shadow.isSome),
      (8, 1, bit (x.run != .idle && b.task.urgent)), (0, 2, x.stateCode (s.halted k))])
  | 4 => s.show (packNat [(3, 1, bit x.brk1En), (2, 1, bit x.brk0En), (0, 1, bit x.haltBit)])
  | 8 => s.show b.pc
  | 0xC => (packNat [(16, 8, x.faultCount), (0, 4, x.faultCode)], s.modEasel k fun x => { x with faultCount := 0 })
  | 0x10 => s.show x.faultPc
  | 0x14 => s.show x.faultAddr.toNat
  | 0x18 => s.show (packNat [(16, 11, b.task.task), (0, 9, b.task.flow)])
  | 0x1C => s.show (b.steps % 2 ^ 32)
  | 0x20 => s.show x.brk0
  | 0x24 => s.show x.brk1
  | 0x28 => (packNat [(16, 16, x.scrCorr), (0, 16, x.imemCorr)],
      s.modEasel k fun x => { x with scrCorr := 0, imemCorr := 0 })
  | 0x30 => s.show (packNat [(31, 1, bit x.memSpace), (2, 15, x.memWord)])
  | 0x34 =>
    let (w, s) := if s.halted k then s.memDataRead k .ok else (0, s)
    (w, s.modEasel k Easel.nextWord)
  | _ => s.show (if inWindow o && s.halted k then (b.window o).toNat else 0)

/-! ## Dispatcher (Tables 5-15 to 5-31) -/

def DspMode.code : DspMode → Nat
  | .empty => 0
  | .running => 1
  | .swapPending => 2
  | .test => 3
  | .stopping => 4

def keySlots (v : Vector KeySlot 4) : Nat :=
  packNat [(0, 2, v[0].state), (2, 2, v[1].state), (4, 2, v[2].state), (6, 2, v[3].state)]

def State.readDsp (s : State) (o : Nat) : Shown :=
  let d := s.dsp
  let e := tblGet traceDefault d.trace d.traceIdx
  match o with
  | 4 => s.show (bit d.autoload)
  | 8 => s.show d.loadAddr
  | 0x10 => s.show d.loadLen
  | 0x14 => s.show d.swapEpochReg
  | 0x18 => s.show (packNat [(16, 4, d.deferrals), (11, 1, bit d.startup), (10, 1, bit d.isBusy), (9, 1, bit d.storedValid),
      (8, 1, bit d.staged.isSome), (0, 3, d.mode.code)])
  | 0x1C => s.show (packNat [(16, 16, d.resDetail), (12, 4, d.resCmd), (7, 5, d.resSection), (0, 6, d.resCode)])
  | 0x20 => s.show d.runId
  | 0x28 => s.show (match d.staged with
      | some x => x.cartoon.identity + 2 ^ 32 * x.cartoon.version
      | none => 0)
  | 0x30 => s.show (if d.storedValid then (cartoonOf d.stored).identity + 2 ^ 32 * (cartoonOf d.stored).version else 0)
  | 0x40 => (packNat [(16, 13, d.high), (0, 13, d.used)], s.modDsp fun d => { d with high := d.used })
  | 0x44 => (packNat [(16, 16, d.dropRadio), (8, 8, d.dropSubg), (0, 8, d.dropUnrouted)],
      s.modDsp fun d => { d with dropRadio := 0, dropSubg := 0, dropUnrouted := 0 })
  | 0x48 =>
    let h := fun (k : Nat) => (k - 1, 1, bit (d.arrivalQ k).holdSince.isSome)
    s.show (packNat [(16, 1, bit (decide (3584 ≤ d.used))), h 1, h 2, h 3, h 4, h 5, h 6])
  | 0x100 => s.show (packNat [(16, 8, d.traceKinds), (8, 8, d.traceEasels), (1, 1, bit d.traceStop), (0, 1, bit d.traceOn)])
  | 0x104 => (packNat [(16, 16, d.traceLost), (12, 1, bit d.traceFull), (0, 12, d.traceNext)],
      s.modDsp fun d => { d with traceLost := 0 })
  | 0x108 => s.show d.traceIdx
  | 0x110 => s.show e.w0.toNat
  | 0x114 => s.show e.w1.toNat
  | 0x118 => s.show e.w2.toNat
  | 0x11C => s.show e.w3.toNat
  | 0x200 => s.show (keySlots d.keys)
  | _ =>
    if 0x80 ≤ o ∧ o < 0xA8 then
      let k := (o - 0x80) / 4
      s.show (packNat ((List.range 32).map fun j => (j, 1, bit (d.quarantine.contains (32 * k + j)))))
    else s.show 0

/-! ## Canvas, strokes and guidance (Tables 6-16 to 6-26, 7-16 to 7-30) -/

def State.readCnv (s : State) (o : Nat) : Shown :=
  let c := s.canvas
  let i := s.reg rCnvRobotIdx
  let r := c.robot i
  match o with
  | 0 => s.show (packNat [(16, 8, c.requests), (10, 1, bit c.persistFull), (9, 1, bit c.hostBusy),
      (8, 1, bit (!c.sweeps.isEmpty)), (0, 7, c.now)])
  | 4 => s.show (packNat [(25, 4, c.lostHops), (22, 3, c.parkHops), (17, 5, c.period), (0, 17, c.n)])
  | 8 => s.show c.lostTime
  | 0x10 => s.show (s.reg rCnvGrantAddr)
  | 0x1C => s.show c.hostResult.toNat
  | 0x20 => (packNat [(20, 12, c.lateAck), (10, 10, c.refused), (0, 10, c.accepted)],
      s.modCanvas fun c => { c with lateAck := 0, refused := 0, accepted := 0 })
  | 0x24 => (packNat [(31, 1, bit c.conflictNew), (24, 4, c.conflict.1), (0, 23, c.conflict.2)],
      s.modCanvas fun c => { c with conflictNew := false })
  | 0x28 => (packNat [(16, 16, c.eccCorr), (0, 16, c.eccUncorr)],
      s.modCanvas fun c => { c with eccCorr := 0, eccUncorr := 0 })
  | 0x40 => s.show i
  | 0x44 => s.show (packNat [(16, 16, if r.admitted then r.lastGen else 0), (11, 1, bit r.admitted),
      (10, 1, bit (s.fleet.covered i)), (9, 1, bit r.reported), (8, 1, bit r.lost), (4, 2, (c.parksOf i).length),
      (0, 3, (c.liveOf c.k i).length)])
  | 0x48 => s.show (packNat [(20, 12, match r.lastReport with
        | some t => min 0xFFF ((s.time - t) / (10 * ms))
        | none => 0xFFF), (16, 1, bit r.square.isSome), (0, 16, r.square.getD 0)])
  | _ => s.show 0

def StrokeKind.code : StrokeKind → Nat
  | .atRest => 0
  | .position => 1
  | .speed => 2
  | .braking => 3
  | .stopped => 4

/-- STK_CH_STATE.STATE at a device time: under a stop, at rest, braking, or in its stroke (Table 7-18). -/
def Chan.stateAt (c : Chan) (t : Nat) : Nat :=
  if c.held then 4
  else if !c.stroke.moving t then 0
  else if c.stroke.kind == .stopped || c.stroke.turning t then 3
  else c.stroke.kind.code

def State.readStk (s : State) (o : Nat) : Shown :=
  let k := s.stk
  let c := k.chan (s.reg rStkChIdx)
  let (p, v, _) := c.stroke.at s.epoch.nominal
  match o with
  | 0 => s.show (packNat [(8, 8, k.batch.length), (0, 1, bit (!k.batch.isEmpty))])
  | 4 => s.show (s.reg rStkChIdx)
  | 8 => s.show (packNat [(24, 1, bit (c.stroke.reversed && c.stateAt s.epoch.nominal != 0)), (16, 8, c.route.getD 0xFF), (8, 6, c.profile),
      (0, 3, c.stateAt s.epoch.nominal)])
  | 0xC => s.show (par (unitsOf p))
  | 0x10 => s.show (par (unitsOf v))
  | 0x14 => s.show (par c.target)
  | 0x18 => s.show (par c.remain)
  | 0x1C => (packNat [(16, 16, k.refused), (0, 16, k.done)], s.modStk fun k => { k with refused := 0, done := 0 })
  | _ => s.show 0

/-- A loop held under a stop, or a drive loop with no output. -/
def State.loopHeld (s : State) (i : Nat) : Bool :=
  if i < 256 then s.fleet.covered i else s.drv.ch[Fin.ofNat 8 ((i - 256) / 2)].suspended

def State.readGdl (s : State) (o : Nat) : Shown :=
  let g := s.gdl
  let i := s.reg rGdlLoopIdx
  let l := g.loop i
  let x := s.reg rGdlGlazeIdx
  match o with
  | 0 => s.show (g.loops.filter fun e => e.2.enabled).length
  | 4 => (packNat [(20, 12, g.stale), (10, 10, g.superseded), (0, 10, g.computed)],
      s.modGdl fun g => { g with stale := 0, superseded := 0, computed := 0 })
  | 8 => s.show i
  | 0xC => s.show (packNat [(18, 6, l.glaze), (17, 1, bit (l.glazeOn && !l.mismatch)), (16, 1, bit l.learn), (8, 6, l.desc),
      (2, 1, bit l.feStart.isSome), (1, 1, bit (l.enabled && s.loopHeld i)), (0, 1, bit l.enabled)])
  | 0x10 => s.show (packNat [(16, 16, codeOf 16 (clampS 16 l.eS)), (0, 16, codeOf 16 (clampS 16 l.eY))])
  | 0x14 => s.show (par l.trimV)
  | 0x18 => s.show (par l.trimK)
  | 0x1C => (packNat [(16, 16, min 0xFFFF l.feMs), (0, 16, l.trips)], s.modLoop i fun l => { l with trips := 0 })
  | 0x40 => s.show x
  | 0x44 => s.show (par (g.bin (bitsOf x 8 6) (bitsOf x 0 8)))
  | _ => s.show 0

/-! ## Air MAC, radio chains and ledgers (Tables 8-10, 8-17 to 8-28, 9-7 to 9-11) -/

/-- A word of a station entry (Table 8-10); OFFSET in whole µs, rounded toward zero (log entry 58). -/
def State.stationBytes (s : State) (chain : Fin 2) (i : Nat) : List Byte :=
  let e := s.air.station chain i
  let h := fun (k : Nat) => e.hist.getD k (0, 0)
  toLE 8 e.ext ++ toLE 1 (packNat [(0, 2, e.state), (2, 1, bit e.provisioned), (3, 1, bit e.sleepy)]) ++ toLE 1 e.channel ++
  toLE 1 (min 255 (s.pendingOf chain i)) ++ (List.range 4).flatMap (fun k => toLE 1 (h k).1) ++
  (List.range 4).flatMap (fun k => toLE 1 (h k).2) ++ toLE 1 e.rssi ++ toLE 2 e.age ++
  toLE 2 (codeOf 16 e.drift) ++ toLE 2 (codeOf 16 (Int.tdiv e.offset 1000)) ++ [0#8, 0#8] ++ toLE 4 e.lastT

def State.readAir (s : State) (o : Nat) : Shown :=
  let a := s.air
  let plan := fun (f : List Byte → Nat) => match a.plan with
    | some p => f p
    | none => 0
  match o with
  | 0x10 => s.show (packNat [(31, 1, bit a.plan.isSome), (30, 1, bit a.echo), (29, 1, bit (a.bursting s.time)),
      (28, 1, bit a.nextPlan.isSome), (16, 8, plan planVersion), (8, 8, plan planLen), (0, 8, a.slot)])
  | 0x14 => s.show (a.superframe % 2 ^ 32)
  | 0x18 => s.show (if a.counting then s.token a.superframe else 0)
  | 0x44 =>
    let (chain, i) := s.stIdx
    s.show (leAt (s.stationBytes chain i) (4 * s.rf rAirStIdx 0 3) 4)
  | 0x60 => (packNat [(16, 16, a.dup), (0, 16, a.accepted)], s.modAir fun a => { a with dup := 0, accepted := 0 })
  | 0x64 => (packNat [(24, 8, a.sec), (16, 8, a.unknown), (8, 8, a.bad), (0, 8, a.late)],
      s.modAir fun a => { a with sec := 0, unknown := 0, bad := 0, late := 0 })
  | _ => s.show (if o ≤ 8 ∨ o = 0x40 ∨ o = 0x50 then s.reg (0x70000 + o) else 0)

/-- The effective power shown: that of a silent chain is the value that silences it. -/
def State.pEff (s : State) (c : Fin 2) : Int := s.rfb.power[c].p.getD (s.rfb.compute c)

def State.readPath (s : State) (c : Fin 2) : Nat :=
  let p := s.rfb.paths[c]
  packNat [(24, 8, codeOf 8 (s.pEff c)), (16, 8, p.loss), (8, 8, codeOf 8 p.ant), (0, 8, codeOf 8 p.pa)]

/-- RFB_LDG_CFG, _RES and _RF of a band. -/
def Ledger.settings (l : Ledger) (o : Nat) : Nat :=
  match o with
  | 0x44 => packNat [(31, 1, bit l.lbt), (30, 1, bit l.power), (16, 14, l.limit), (0, 12, l.window)]
  | 0x48 => packNat [(16, 16, l.reserve), (0, 16, l.keep)]
  | 0x4C => packNat [(16, 8, codeOf 8 l.ccaThr), (8, 8, l.ccaTime), (0, 8, codeOf 8 l.eirpMax)]
  | _ => 0

def State.readRfb (s : State) (o : Nat) : Shown :=
  let r := s.rfb
  let band : Fin 2 := Fin.ofNat 2 (s.rf rLdgIdx 0 1)
  let l := r.ledgers[band]
  let both := fun (f : Ledger → Bool) => bit (f r.ledgers[0]) + 2 * bit (f r.ledgers[1])
  match o with
  | 0 => s.show (packNat [(8, 1, bit r.cfgErr), (6, 2, both (·.overdraw)), (4, 2, both (·.hold2.isSome)),
      (2, 2, both (·.hold1.isSome)), (0, 2, bit r.power[0].blocked + 2 * bit r.power[1].blocked)])
  | 0x10 => s.show (s.readPath 0)
  | 0x14 => s.show (s.readPath 1)
  | 0x40 => s.show band.val
  | 0x50 => s.show (l.n / ms)
  | 0x54 => s.show (l.sSum / ms)
  | 0x58 => (packNat [(16, 16, l.held2), (8, 8, l.held1), (0, 8, l.lbtBusy)],
      s.modLedger band fun l => { l with held2 := 0, held1 := 0, lbtBusy := 0 })
  | _ => s.show (l.settings o)

/-! ## GNSS (Tables 10-9 to 10-21) -/

/-- GNS_NOTCHb_k: an adaptive filter shows its present centre. -/
def State.readNotch (s : State) (b : Fin 2) (k : Fin 4) : Nat :=
  let v := s.reg (rGnsNotch b k)
  let n := s.gnss.notches[notchIx b k]
  let mode := s.notchMode b k
  let freq := if mode = 1 ∧ n.on then codeOf 16 (binKhz n.bin) else v / 2 ^ 16
  packNat [(16, 16, freq), (8, 8, v / 2 ^ 8), (7, 1, bit (n.on || mode == 2)), (0, 4, v)]

def SvSlot.shown (x : SvSlot) (now : Nat) : Nat :=
  packNat [(30, 2, x.sys), (24, 6, x.prn), (17, 7, x.elev), (16, 1, bit (!x.passes now)), (8, 8, x.cn0L), (0, 8, x.cn0U)]

def State.readGns (s : State) (o : Nat) : Shown :=
  let g := s.gnss
  let arp := fun (f : Int × Int × Int → Int) => match g.arp with
    | some p => codeOf 64 (f p)
    | none => 0
  let ant := fun (i : Fin 2) => packNat [(0, 1, bit (g.ant[i].fault == 1)), (1, 1, bit (g.ant[i].fault == 2))]
  match o with
  | 4 => s.show (packNat [(28, 2, ant 0), (30, 2, ant 1), (24, 4, g.causes), (21, 1, bit g.mismatch),
      (20, 1, bit g.arp.isSome), (18, 2, g.survey), (8, 8, g.used), (0, 7, (g.slots.toList.filter (·.tracked)).length)])
  | 0xC => s.show (packNat [(20, 12, g.sigma), (0, 20, if g.survey = 1 ∨ g.survey = 3 then
      min (2 ^ 20 - 1) ((s.now - g.surveyAt) / second) else 0)])
  | 0x10 => s.show (arp (·.1))
  | 0x18 => s.show (arp (·.2.1))
  | 0x20 => s.show (arp (·.2.2))
  | 0x84 => s.show (packNat [(8, 8, g.ji[1]), (0, 8, g.ji[0])])
  | 0x200 => s.show (packNat [(30, 2, s.servo.ts.code), (29, 1, bit s.servo.stepPending), (0, 24, uField s.servo.u)])
  | 0x204 => s.show (par (clampS 32 s.servo.delta))
  | 0x218 => s.show s.tp.time
  | 0x220 => s.show (packNat [(31, 1, bit s.tp.valid), (29, 2, s.tp.state.code), (24, 2, codeOf 2 s.tp.qerr),
      (0, 24, uField s.tp.u)])
  | 0x228 => s.show (packNat [(31, 1, bit g.utcValid), (29, 2, g.leap), (16, 13, s.leapDays), (0, 8, g.taiUtc)])
  | 0x230 => (packNat [(24, 8, s.tp.skipped), (16, 8, g.dropped), (0, 16, g.sent)],
      (s.modGnss fun g => { g with dropped := 0, sent := 0 }).modTp fun t => { t with skipped := 0 })
  | 0x304 => s.show ((g.slots[Fin.ofNat 64 (s.reg rGnsSvIdx)]).shown s.now)
  | 0x400 => s.show (packNat [(30, 1, bit g.capBusy), (29, 1, g.capBand), (0, 21, g.capCount)])
  | 0x408 =>
    let i := s.reg rGnsCapIdx
    (ofLE ((List.range 4).map fun k => tblGet zeroSample g.capBuf (4 * i + k)), s.setReg rGnsCapIdx ((i + 1) % 2 ^ 18))
  | _ =>
    if 0x100 ≤ o ∧ o < 0x120 then s.show (s.readNotch (Fin.ofNat 2 ((o - 0x100) / 16)) (Fin.ofNat 4 (o / 4)))
    else s.show (s.reg (0x90000 + o))

/-! ## Time base and Ethernet (Tables 11-5 to 11-9) -/

/-- A read of the counter or of device time, latched (R353). -/
def State.latched (s : State) (v : Nat) : Shown := (v, s.modTmb fun t => { t with latch := v })

def State.readTmb (s : State) (o : Nat) : Shown :=
  let t := s.tmb
  let i : Fin 25 := Fin.ofNat 25 (min 24 t.stampIdx)
  match o with
  | 0 => s.latched t.raw
  | 8 => s.latched s.time
  | 0x10 => s.show t.latch
  | 0x18 => s.show (codeOf 64 t.offset)
  | 0x20 => s.show t.rateBase
  | 0x28 => s.show (par t.rate)
  | 0x2C => s.show (packNat [(5, 1, bit t.ppsPol), (4, 1, bit t.ppsEn), (0, 2, t.src)])
  | 0x30 => s.show (packNat [(30, 2, s.servo.ts.code), (28, 2, if t.following then 3 else t.srcUsed),
      (27, 1, bit t.setRefused), (0, 24, uField s.servo.u)])
  | 0x40 => s.show (par t.freeRate)
  | 0x100 => s.show i.val
  | 0x108 => s.show t.stamps[i].last
  | 0x110 => (packNat [(24, 8, t.stamps[i].overrun), (0, 24, s.stampLatency i)],
      s.modTmb fun t => { t with stamps := t.stamps.set i { t.stamps[i] with overrun := 0 } })
  | 0x200 => s.show (packNat [(16, 16, codeOf 16 (clampS 16 t.theta)), (0, 16, min 0xFFFF t.delay)])
  | 0x204 => s.show (codeOf 16 t.asym)
  | _ => s.show 0

def State.readEth (s : State) (o : Nat) : Shown :=
  let p : Fin 2 := Fin.ofNat 2 (o / 0x100)
  let e := s.eth[p]
  if 0x200 ≤ o then s.show 0
  else match o % 0x100 with
    | 4 => s.show (packNat [(8, 4, s.portState p), (0, 1, bit e.link)])
    | 0x1C => s.show (par e.ofs)
    | _ => s.show (s.reg (0xB0000 + o))

/-! ## Palette and host interfaces (Tables 12-12 to 12-25) -/

def State.readPal (s : State) (o : Nat) : Shown :=
  let p := s.palette
  let q := p.q p.idx
  match o with
  | 0 => s.show (packNat [(16, 16, p.free), (0, 16, p.free - p.otherReserves 64)])
  | 4 => s.show (packNat [(30, 1, bit (!p.rebuilds.isEmpty)), (29, 1, bit (!p.flushes.isEmpty)), (0, 6, p.flushQueue)])
  | 0x10 => s.show p.idx
  | 0x14 => s.show (packNat [(16, 16, q.used),
      (0, 16, p.count p.idx)])
  | 0x18 => s.show (packNat [(16, 16, q.limit), (0, 16, q.reserve)])
  | 0x1C => (packNat [(24, 8, q.full), (16, 8, q.crc), (8, 8, q.bad), (0, 8, q.flushed)],
      s.modPalette fun p => p.modQ p.idx fun q => { q with full := 0, crc := 0, bad := 0, flushed := 0 })
  | 0x20 => (packNat [(16, 16, p.linkCorr), (0, 16, p.linkUncorr)],
      s.modPalette fun p => { p with linkCorr := 0, linkUncorr := 0 })
  | _ => s.show 0

def State.readEvq (s : State) (n o : Nat) : Shown :=
  let q := s.host.q n
  match o with
  | 0 => s.show q.base
  | 8 => s.show (packNat [(31, 1, bit q.en), (24, 5, q.log2Size), (20, 4, q.minSev), (0, 16, q.classMask)])
  | 0xC => s.show (packNat [(16, 16, q.modTime), (8, 8, q.modCount), (7, 1, bit q.urgent)])
  | 0x10 => s.show q.head
  | 0x14 => s.show q.tail
  | 0x18 => (packNat [(16, 16, q.lost), (0, 16, (s.palette.q (24 + n)).packets.length)],
      s.modHost fun h => h.modEvq n fun q => { q with lost := 0 })
  | _ => s.show 0

def State.readMbx (s : State) (c : Fin 16) (o : Nat) : Shown :=
  let m := s.host.ch c
  match o with
  | 4 =>
    let (w, src, s) := s.take c 2
    (w.toNat, s.modCh c fun m => { m with hostSrc := src })
  | 8 => s.show m.hostSrc
  | 0xC => s.show (s.mbxStatus c 2 m.hostTimeout m.hostLastTx).toNat
  | _ => s.show 0

def State.readHst (s : State) (o : Nat) : Shown :=
  let h := s.host
  if 0x100 ≤ o ∧ o < 0x200 then s.readEvq ((o - 0x100) / 0x20) (o % 0x20)
  else if 0x200 ≤ o ∧ o < 0x300 then s.readMbx (Fin.ofNat 16 ((o - 0x200) / 16)) (o % 16)
  else if 0x400 ≤ o ∧ o < 0x480 then
    let k : Fin 32 := Fin.ofNat 32 ((o - 0x400) / 4)
    let (r, h) := h.acquire k 9 .chosen
    ((lockWord r (h.holder k)).toNat, s.modHost fun _ => h)
  else if 0x480 ≤ o ∧ o < 0x490 then
    s.show (packNat ((List.range 8).map fun j => (4 * j, 4, h.holder (Fin.ofNat 32 (8 * ((o - 0x480) / 4) + j)))))
  else match o with
    | 0 => s.show (packNat [(16, 16, 0x9640), (0, 16, Config.vendorId)])
    | 4 => s.show (packNat [(9, 1, bit h.linkUp), (8, 1, bit h.busMaster), (4, 4, h.width), (0, 4, h.speed)])
    | 0x300 => s.show (bit h.mbxUp)
    | 0x494 => (packNat [(16, 16, h.ties), (0, 16, h.foreign)], s.modHost fun h => { h with ties := 0, foreign := 0 })
    | 0x500 => s.show h.putAddr
    | 0x508 => s.show (packNat [(24, 3, h.putLevel), (16, 6, h.putQueue), (0, 12, h.putLen)])
    | 0x50C => s.show h.putResult.toNat
    | 0x510 => s.show h.getAddr
    | 0x518 => s.show (packNat [(16, 6, h.getQueue), (0, 12, h.getCap)])
    | 0x51C => s.show h.getResult.toNat
    | 0x520 => s.show (packNat [(1, 1, bit h.getJob.isSome), (0, 1, bit h.putJob.isSome)])
    | 0x600 => s.show (bit h.dpEn)
    | 0x604 => (h.dpRefused, s.modHost fun h => { h with dpRefused := 0 })
    | _ => s.show 0

/-! ## Twin pair and drives (Tables 13-11 to 13-17, 14-7 to 14-10) -/

/-- In STANDBY_INSTEP, or ISOLATED from it, with BLOCKED clear. -/
def Twin.eligible (t : Twin) : Bool :=
  (t.state == .standbyInstep || (t.state == .isolated && t.fromInstep)) && !t.blocked

/-- TWN_LOG.BUFFER: the spec gives the size of no entry, so what entries held occupy is a free value
(log entry 4). -/
def State.logBuffer (s : State) : Nat × State :=
  if s.twin.entries.isEmpty then (0, s)
  else
    let (n, s) := s.draw
    (n % 2 ^ 16, s)

def State.readTwn (s : State) (o : Nat) : Shown :=
  let t := s.twin
  match o with
  | 0 => s.show (s.reg rTwnCfg)
  | 4 => s.show (packNat [(16, 1, bit t.cmdResult), (13, 1, bit t.seatB), (12, 1, bit t.blocked), (11, 1, bit t.hbIn),
      (9, 2, t.link), (8, 1, bit t.eligible), (4, 3, t.peer), (0, 3, t.state.code)])
  | 0xC => s.show (packNat [(24, 8, t.fails), (16, 8, t.sent), (0, 7, min 64 t.matched)])
  | 0x10 => s.show (t.missEpoch % 2 ^ 32)
  | 0x18 => s.show t.missOwn
  | 0x20 => s.show t.missPeer
  | 0x28 => (packNat [(16, 16, t.mismatchCount), (8, 8, t.transfers), (0, 8, t.takeovers)],
      s.modTwin fun t => { t with mismatchCount := 0, transfers := 0, takeovers := 0 })
  | 0x30 =>
    let (n, s) := s.logBuffer
    (packNat [(16, 16, t.ackMax), (0, 16, n)], s.modTwin fun t => { t with ackMax := 0 })
  | 0x34 => s.show t.health
  | _ => s.show 0

def State.readPsg (s : State) (o : Nat) : Shown :=
  let d : Fin 8 := Fin.ofNat 8 (s.reg rPsgChIdx)
  let x := s.drv.ch[d]
  let each := fun (f : Drv → Bool) => packNat ((List.finRange 8).map fun (i : Fin 8) => (i.val, 1, bit (f s.drv.ch[i])))
  match o with
  | 0 => s.show (s.reg rPsgCfg)
  | 4 => s.show (packNat [(24, 1, bit (s.pwr.booted && s.serving)), (16, 8, each (·.open_)),
      (8, 8, each (·.st == .fault)), (0, 8, each (·.homed))])
  | 0x10 => s.show d.val
  | 0x14 => s.show (packNat [(20, 4, x.cause), (19, 1, bit (s.stk.wants.contains d.val)), (18, 1, bit x.open_),
      (17, 1, bit x.standstill), (16, 1, bit x.homed), (9, 3, x.res), (8, 1, bit x.far.active), (7, 1, bit x.home.active),
      (0, 3, x.st.code)])
  | 0x18 => s.show (par x.mUnits)
  | 0x1C => s.show (par x.offset)
  | 0x20 => s.show (packNat [(24, 8, codeOf 8 (clampS 8 x.delta)), (12, 12, min 0xFFF (x.emf / 10000)), (0, 12, min 0xFFF x.speed)])
  | 0x24 => (packNat [(24, 8, s.drv.stalls), (16, 8, s.drv.trips), (8, 8, s.drv.chatters), (0, 8, s.drv.refused)],
      s.modDrv fun d => { d with stalls := 0, trips := 0, chatters := 0, refused := 0 })
  | _ => s.show 0

/-! ## Roles, Pentimento, Portfolio and power (Tables 15-5 to 15-10, 16-10 to 16-13, 17-7 to 17-14) -/

def State.readSec (s : State) (o : Nat) : Shown :=
  let c := s.sec
  s.show (match o with
    | 0 => packNat [(20, 12, min 0xFFF (ceilDiv (c.pcie.lockoutEnd - s.now) second)), (6, 2, s.svcRole),
        (5, 1, bit (s.chalValid c.pcie)), (3, 2, min 3 c.pcie.fails), (0, 2, s.pcieRole)]
    | 4 => c.idle
    | 0x58 => packNat [(28, 4, c.keyResult), (16, 5, c.operatorKeys.length), (8, 4, c.installerKeys.length),
        (0, 3, c.makerKeys.length)]
    | _ => if 0x10 ≤ o ∧ o < 0x30 then leAt c.pcie.challenge (o - 0x10) 4 else 0)

def State.readPnt (s : State) (o : Nat) : Shown :=
  let p := s.pnt
  let b := s.ev.bucket s.ev.rlIdx
  let has := hasBucket s.ev.rlIdx
  match o with
  | 0 => s.show (packNat [(31, 1, bit p.full), (30, 1, bit p.clearing), (29, 1, bit p.clearRefused), (28, 1, bit p.rlRefused),
      (0, 17, p.next)])
  | 4 => s.show p.gen
  | 8 => s.show (packNat [(16, 16, p.classMask), (0, 3, p.minSev)])
  | 0x10 => (packNat [(16, 16, p.dropped), (0, 16, p.gap)], s.modPnt fun p => { p with dropped := 0, gap := 0 })
  | 0x20 => s.show p.idx
  | 0x80 => s.show s.ev.rlIdx
  | 0x84 => s.show (if has then packNat [(16, 16, b.nextPeriod), (8, 8, b.nextBurst), (0, 8, b.tokens)] else 0)
  | 0x88 => (if has then b.shown else 0,
      if has then s.modEv fun e => e.setBucket e.rlIdx { e.bucket e.rlIdx with shown := 0 } else s)
  | _ => s.show (if 0x30 ≤ o ∧ o < 0x50 then leAt (p.slot p.idx) (o - 0x30) 4 else 0)

def State.readPfo (s : State) (o : Nat) : Shown :=
  let p := s.pfo
  match o with
  | 0 => s.show p.status.toNat
  | 8 => s.show (packNat [(8, 8, p.detail), (0, 8, p.code)])
  | 0xC => s.show p.fuse
  | 0x10 => (packNat [(16, 16, p.svcCrc), (0, 16, p.svcFrames)], s.modPfo fun p => { p with svcCrc := 0, svcFrames := 0 })
  | 0x20 => s.show (s.reg rPfoVerIdx)
  | 0x24 => s.show (match p.bank (s.rf rPfoVerIdx 3 1) with
      | some x =>
        let t := s.rf rPfoVerIdx 0 3
        if t = 0 then x.setVersion else match x.parts.find? (·.type == t) with
          | some q => q.version
          | none => 0
      | none => 0)
  | 0x100 => s.show (keySlots p.keys)
  | _ => s.show 0

def State.readPwr (s : State) (o : Nat) : Shown :=
  let p := s.pwr
  match o with
  | 0 => s.show (packNat [(31, 1, bit p.booted), (30, 1, bit p.retValid), (29, 1, bit p.rtcValid), (28, 1, bit p.last.ci1Kept),
      (20, 1, bit p.cfgErr), (19, 1, bit p.tamper), (18, 1, bit p.vsysLow), (17, 1, bit p.vsysWarn), (16, 1, bit p.hold),
      (4, 1, bit p.changing), (3, 1, bit p.dip), (0, 3, p.state.code)])
  | 8 => s.show (packNat [(28, 4, p.last.kind), (24, 4, p.last.cause), (23, 1, bit p.last.ci1Kept), (22, 1, bit p.retUsed),
      (0, 16, p.resets)])
  | 0x14 => (packNat [(16, 16, p.dipCount), (0, 16, p.dipLast)], s.modPwr fun p => { p with dipCount := 0 })
  | 0x18 => s.show (packNat [(30, 1, bit p.cfgBusy), (29, 1, bit p.cfgQueued), (0, 4, p.cfgResult)])
  | 0x20 => s.show (if p.rtcValid then s.rtcNow * 32768 / second * second / 32768 else 0)
  | _ => s.show (s.reg (0x130000 + o))

/-! ## A read of BAR0 -/

/-- A block answers: GCTL, TMB and PWR always, the others from BOOTED on but in SLEEP (R506, R515). -/
def State.answers (s : State) (addr : Nat) : Bool :=
  s.awake || addr / 65536 == 0 || addr / 65536 == 0xA || addr / 65536 == 0x13

/-- Registers 64 bits wide. -/
def wideRegs : List Nat :=
  [0x20008, 0x20020, 0x20028, 0x20030, rCnvGrantAddr, rAirCoordExt, rAirStExt, 0x90010, 0x90018, 0x90020, rGnsFix 0,
   rGnsFix 1, rGnsFix 2, 0x90218, 0xA0000, 0xA0008, 0xA0010, 0xA0018, 0xA0020, 0xA0038, 0xA0108, rEthMac 0, rEthMac 1,
   0xD0500, 0xD0510, 0xE0018, 0xE0020, 0x130020, rPwrAlarm] ++ (List.range 8).map fun n => 0xD0100 + 0x20 * n

/-- Address and bytes of the register that holds a byte address. -/
def regAt (a : Nat) : Nat × Nat := if wideRegs.contains (a / 8 * 8) then (a / 8 * 8, 8) else (a / 4 * 4, 4)

/-- One register, read whole. -/
def State.readReg (s : State) (a : Nat) : Shown :=
  let o := a % 65536
  if !s.answers a then s.show 0
  else match a / 65536 with
    | 0 => s.readGctl o
    | 1 => s.readTfc o
    | 2 => s.readDsp o
    | 3 => s.readEasel (Fin.ofNat 8 (o / 0x2000)) (o % 0x2000)
    | 4 => s.readCnv o
    | 5 => s.readStk o
    | 6 => s.readGdl o
    | 7 => s.readAir o
    | 8 => s.readRfb o
    | 9 => s.readGns o
    | 0xA => s.readTmb o
    | 0xB => s.readEth o
    | 0xC => s.readPal o
    | 0xD => s.readHst o
    | 0xE => s.readTwn o
    | 0xF => s.readPsg o
    | 0x10 => s.readSec o
    | 0x11 => s.readPnt o
    | 0x12 => s.readPfo o
    | 0x13 => s.readPwr o
    | _ => s.show 0

/-- The bytes of a read, register by register: a read of another size returns the addressed bytes, with
the side effects of a full read of each register it touches (R7). -/
def State.readBytes : Nat → Nat → Nat → State → List Byte × State
  | 0, _, _, s => ([], s)
  | n + 1, a, len, s =>
    if len = 0 then ([], s)
    else
      let (base, w) := regAt a
      let (v, s) := s.readReg base
      let k := min len (base + w - a)
      let (rest, s) := State.readBytes n (a + k) (len - k) s
      (bytesAt (toLE w v) (a - base) k ++ rest, s)

/-- RC_REGISTER_READ: any read of a register. -/
def execRcRegisterRead (addr : BitVec 24) (len : Fin 9) (s : State) : Res :=
  let (b, s) := State.readBytes len.val addr.toNat len.val s
  .next (s.put (.busRead (ofLE b)))

end Sys2Proof.Machine
end

