-- ==== Sys2Proof/Machine/RegWrite.lean ====
section
/-! DEFINITION. Writes to registers that have no command of their own, and the saved configuration (R6 to
R8, R517). -/

namespace Sys2Proof.Machine

/-! ## Values that read back otherwise -/

/-- A field of a number, replaced. -/
def setField (v lsb w x : Nat) : Nat := v - bitsOf v lsb w * 2 ^ lsb + x % 2 ^ w * 2 ^ lsb

/-- The field takes the value `x` where `bad` holds of what was written. -/
def fixField (lsb w : Nat) (bad : Nat → Bool) (x v : Nat) : Nat := if bad (bitsOf v lsb w) then setField v lsb w x else v

/-- What a stored register holds after a write of `v`, by the ranges its table gives. -/
def fixReg (a v : Nat) : Nat :=
  let above := fun (m x : Nat) => decide (m < x)
  if a = rAirCfg then fixField 0 10 (fun x => decide (x < 256)) 256 v
  else if a = rAirAge then fixField 0 16 (fun x => decide (x < 100)) 100 v
  else if a = rStkChIdx then min v 263
  else if a = rGdlLoopIdx then min v 271
  else if a = rGnsCfg then fixField 20 2 (above 2) 1 (fixField 8 7 (above 30) 30 (fixField 0 3 (above 5) 0 v))
  else if 0x90100 ≤ a ∧ a < 0x90120 then fixField 2 2 (above 2) 0 (fixField 0 2 (above 2) 0 v)
  else if a = rEthCfg 0 ∨ a = rEthCfg 1 then fixField 2 2 (above 2) 0 v
  else if a = rEthPtp 0 ∨ a = rEthPtp 1 then fixField 3 3 (above 4) 0 (fixField 0 2 (above 2) 0 v)
  else if a = rPwrWdt then fixField 0 16 (fun x => decide (x < 10) || above 1000 x) 100 v
  else v

/-- A second client reads back as off (Table 11-9). -/
def State.fixRole (s : State) (a v : Nat) : Nat :=
  if a = rEthPtp 0 ∧ bitsOf v 0 2 = 2 ∧ s.rf (rEthPtp 1) 0 2 = 2 then setField v 0 2 0
  else if a = rEthPtp 1 ∧ bitsOf v 0 2 = 2 ∧ s.rf (rEthPtp 0) 0 2 = 2 then setField v 0 2 0
  else v

/-! ## Stored registers -/

/-- PTP of a port starts anew: off where ROLE is 0. -/
def EthPort.restartPtp (e : EthPort) : EthPort :=
  { e with
    ptpState := 0
    syncAt := none
    annAt := none
    reqAt := none
    masters := []
    best := none
    ex := none
    deltas := [] }

/-- PAIR follows a write at run time: a unit with PAIR 0 is SOLO (R413). -/
def State.pairWritten (s : State) (was : Bool) : State :=
  if !was || s.paired || s.twin.state == .solo then s
  else if s.twin.state = .active then s.becomeSolo
  else s.serveAfresh .solo

/-- What the write of a stored register does beside storing it. -/
def State.afterReg (s : State) (a was : Nat) : State :=
  if a = rTwnCfg then s.pairWritten (was % 2 == 1)
  else if a = rGnsCfg then ((s.modGnss fun g => { g with rateSetAt := s.time / second }).putBias 0).putBias 1
  else if a = rEthPtp 0 ∧ was % 4 ≠ s.reg a % 4 then s.modPort 0 EthPort.restartPtp
  else if a = rEthPtp 1 ∧ was % 4 ≠ s.reg a % 4 then s.modPort 1 EthPort.restartPtp
  else s

/-- A stored register takes the RW bits of a value. -/
def State.storeReg (s : State) (a v : Nat) : State :=
  match regDef a with
  | some d =>
    let was := s.reg a
    (s.setReg a (s.fixRole a (fixReg a (v &&& d.mask)))).afterReg a was
  | none => s

/-! ## Registers with state of their own -/

/-- GCTL_STOP_CFG, TFC_CTL, DSP_CFG, TMB_CFG, TMB_FREE_RATE, TMB_TWIN_ASYM, HST_DP_CFG, SEC_CFG and PNT_CFG,
which need an INSTALLER session: the write of a value. -/
def State.setOwn (s : State) (a v : Nat) : Option State :=
  let w := lo32 v
  match a with
  | 0x110 =>
    let d := fieldOf w 8 8
    some (s.modFleet fun f => { f with discTime := if 1 ≤ d ∧ d ≤ 50 then d else 10, bootHold := flagOf w 0 })
  | 0x10000 =>
    let td := fieldOf w 16 8
    let h := fieldOf w 8 8
    let g := fieldOf w 0 8
    some (s.modTfc fun t =>
      { t with
        planWarn := fieldOf w 24 8
        tdesign := if 85 ≤ td ∧ td ≤ 115 then td else 105
        hyst := if 10 ≤ h ∧ h ≤ 100 then h else 30
        guard := if 40 ≤ g ∧ g ≤ 200 then g else 80 })
  | 0x20004 => some (s.modDsp fun d => { d with autoload := flagOf w 0 })
  | 0xA002C =>
    let s := s.modTmb fun t => { t with ppsEn := flagOf w 4, ppsPol := flagOf w 5 }
    let src := if fieldOf w 0 2 = 3 then 0 else fieldOf w 0 2
    some (if src = s.tmb.src then s else s.writeSrc src)
  | 0xA0204 => some (s.modTmb fun t => { t with asym := signedOf 16 v })
  | 0x100004 =>
    let i := fieldOf w 0 12
    some (s.modSec fun c => { c with idle := if 1 ≤ i ∧ i ≤ 3600 then i else 600 })
  | 0x110008 => some (s.modPnt fun p => { p with classMask := fieldOf w 16 16, minSev := min 4 (fieldOf w 0 3) })
  | _ => none

/-- A bit written 1 clears a flag. -/
def w1c (w : Word) (b : Nat) (f : Bool) : Bool := f && !flagOf w b

/-- A write of an Easel's debug window: EAS_STATUS, EAS_BRK0 and 1, EAS_MEM_ADDR and the register file (R95). -/
def Bank.setWindow (b : Bank) (o : Nat) (w : Word) : Bank :=
  if o < 0x200 then b.wg (Fin.ofNat 32 ((o - 0x100) / 4)) w
  else if o < 0x400 then
    let j : Fin 16 := Fin.ofNat 16 ((o - 0x200) / 32)
    { b with v := b.v.set j (b.v[j].set (Fin.ofNat 8 (o / 4)) w) }
  else
    let k : Fin 4 := Fin.ofNat 4 ((o - 0x400) / 64)
    let l : Fin 8 := Fin.ofNat 8 (o / 8)
    let x := (b.a[k])[l].toNat
    let y := if o / 4 % 2 = 0 then x / 2 ^ 32 * 2 ^ 32 + w.toNat else x % 2 ^ 32 + w.toNat * 2 ^ 32
    { b with a := b.a.set k (b.a[k].set l (BitVec.ofNat 64 y)) }

def State.writeEasel (s : State) (k : Fin 8) (o : Nat) (w : Word) : State :=
  match o with
  | 0 => s.modEasel k fun x => { x with dbgRefused := w1c w 10 x.dbgRefused }
  | 0x20 => s.modEasel k fun x => { x with brk0 := fieldOf w 0 14 }
  | 0x24 => s.modEasel k fun x => { x with brk1 := fieldOf w 0 14 }
  | 0x30 => s.debugWrite k fun s => s.modEasel k fun x => { x with memSpace := flagOf w 31, memWord := fieldOf w 2 15 }
  | _ =>
    if !inWindow o then s
    else s.debugWrite k fun s =>
      if s.halted k then s.modEasel k fun x => { x with bank := x.bank.setWindow o w }
      else s.modEasel k fun x => { x with dbgRefused := true }

/-- A write of DSP_KEY_CTL that names no operation restarts the count, and is refused (R163). -/
def State.dspKeyOther (s : State) (slot op : Nat) : State :=
  let s := if 3 ≤ s.pcieRole then s.touch else s
  (s.modDsp fun d => { d with keyWords := [] }).emit evCartoonKeyRefused slot op

/-- The same of PFO_KEY_CTL (R488). -/
def State.pfoKeyOther (s : State) (slot op : Nat) : State :=
  let s := if 3 ≤ s.pcieRole then s.touch else s
  (s.modPfo fun p => { p with keyWords := [] }).emit evPortfolioKeyRefused slot op

/-- Write-1-to-clear flags, index registers and addresses that need no session, and the OPERATOR's. -/
def State.writeFree (s : State) (a v : Nat) : State :=
  let w := lo32 v
  match a with
  | 0x10008 => s.modTfc fun t => { t with cfgErr := w1c w 17 t.cfgErr }
  | 0x20008 => s.modDsp fun d => { d with loadAddr := v / 32 * 32 % 2 ^ 64 }
  | 0x20010 => s.modDsp fun d => { d with loadLen := w.toNat }
  | 0x20014 => s.modDsp fun d => { d with swapEpochReg := w.toNat }
  | 0x20108 => s.modDsp fun d => { d with traceIdx := fieldOf w 0 12 }
  | 0x80000 => s.asRole 2 fun s => s.modRfb fun r => { r with cfgErr := w1c w 8 r.cfgErr }
  | 0x9004C => s.asRole 2 fun s => s.modGnss fun g =>
      { g with antDesc := if w = 0 then [] else if g.antDesc.length < 64 then g.antDesc ++ toLE 4 w.toNat else g.antDesc }
  | 0xA0030 => s.modTmb fun t => { t with setRefused := w1c w 27 t.setRefused }
  | 0xA0100 => s.modTmb fun t => { t with stampIdx := min 24 (fieldOf w 0 5) }
  | 0xC0010 => s.modPalette fun p => { p with idx := fieldOf w 0 6 }
  | 0xD0500 => s.modHost fun h => { h with putAddr := v / 32 * 32 % 2 ^ 64 }
  | 0xD0510 => s.modHost fun h => { h with getAddr := v / 32 * 32 % 2 ^ 64 }
  | 0x20204 =>
    if fieldOf w 0 2 = 0 ∨ fieldOf w 0 2 = 3 then s.dspKeyOther (fieldOf w 4 2) (fieldOf w 0 2) else s
  | 0x120104 =>
    if fieldOf w 0 2 = 0 ∨ fieldOf w 0 2 = 3 then s.pfoKeyOther (fieldOf w 4 2) (fieldOf w 0 2) else s
  | 0xE0004 => s.modTwin fun t => { t with cmdResult := w1c w 16 t.cmdResult }
  | 0x110000 => s.modPnt fun p => { p with clearRefused := w1c w 29 p.clearRefused, rlRefused := w1c w 28 p.rlRefused }
  | 0x110020 => s.modPnt fun p => { p with idx := fieldOf w 0 16 }
  | 0x110080 => s.modEv fun e => { e with rlIdx := fieldOf w 0 16 }
  | 0x130000 => s.modPwr fun p => { p with cfgErr := w1c w 20 p.cfgErr }
  | _ =>
    if 0x100030 ≤ a ∧ a < 0x100050 then
      s.modSec fun c =>
        let r := c.pcie.response
        let i := a - 0x100030
        { c with pcie := { c.pcie with response := bytesAt r 0 i ++ toLE 4 w.toNat ++ bytesAt r (i + 4) (28 - i) } }
    else if 0xD0100 ≤ a ∧ a < 0xD0200 then
      let n := (a - 0xD0100) / 0x20
      match a % 0x20 with
      | 0 => s.asRole 1 fun s => s.modHost fun h => h.modEvq n fun q => { q with base := v / 4096 * 4096 % 2 ^ 64 }
      | 0xC => s.asRole 1 fun s => s.modHost fun h => h.modEvq n fun q =>
          { q with modTime := fieldOf w 16 16, modCount := max 1 (fieldOf w 8 8), urgent := flagOf w 7 }
      | _ => s
    else if 0xD0200 ≤ a ∧ a < 0xD0300 ∧ a % 16 = 12 then
      s.modCh (Fin.ofNat 16 ((a - 0xD0200) / 16)) fun m => { m with hostTimeout := w1c w 31 m.hostTimeout }
    else s

/-- Stored registers whose writes are commands of their own. -/
def ownRow (a : Nat) : Bool :=
  a == rGnsSurvey || a == rGnsFix 0 || a == rGnsFix 1 || a == rGnsFix 2 || a == rGnsAnt || a == rPwrCmp

/-- A write of a whole register. -/
def State.writeReg (s : State) (a v : Nat) : State :=
  if !s.answers a then s
  else if a / 65536 = 3 then s.writeEasel (Fin.ofNat 8 (a % 65536 / 0x2000)) (a % 0x2000) (lo32 v)
  else match regDef a with
    | some d => if ownRow a then s else if d.role = 0 then s.storeReg a v else s.asRoleAny d.role fun s => s.storeReg a v
    | none => match s.setOwn a v with
      | some _ => s.asRoleAny 2 fun s => (s.setOwn a v).getD s
      | none => s.writeFree a v

/-- REGISTER_WRITE: a write of another size than the register's, or not at its address, is ignored (R7). A
register whose write is a command of its own takes it by that command. -/
def execRegisterWrite (addr : BitVec 24) (len : Fin 9) (v : BitVec 64) (s : State) : Res :=
  let (base, w) := regAt addr.toNat
  .next (if addr.toNat = base ∧ len.val = w then s.writeReg base v.toNat else s)

/-! ## The saved configuration (R517) -/

/-- A register by address and index, as one key. -/
def cfgKey (a i : Nat) : Nat := a + 2 ^ 24 * i

/-- Stored registers in the saved configuration: those that need an INSTALLER session. -/
def savedRegs : List RegDef := regDefs.filter fun d => d.role == 2

/-- Registers of `setOwn` and others with state of their own in the saved configuration, with their fields. -/
def savedOwn : List (Nat × Nat) :=
  [(0x110, 2), (0x10000, 4), (0x10004, 3), (0x20004, 1), (0x80010, 3), (0x80014, 3), (0xA002C, 3), (0xA0040, 1),
   (0xA0204, 1), (0xD0600, 1), (0x100004, 1), (0x110008, 2)]

/-- Fields of the stored registers that need an INSTALLER session and do not come from flash. -/
def regFields (a : Nat) : Nat :=
  if a = rTwnCfg then 2
  else if a = rAirCfg then 2
  else if a = rGnsCfg then 7
  else if a = rGnsSurvey then 3
  else if a = rGnsFix 0 ∨ a = rGnsFix 1 ∨ a = rGnsFix 2 then 0
  else if a = rGnsJam then 2
  else if 0x90100 ≤ a ∧ a < 0x90120 then 4
  else if a = rGnsTime then 5
  else if a = rGnsHold then 3
  else if a = rGnsTp then 4
  else if a = rEthCfg 0 ∨ a = rEthCfg 1 ∨ a = rEthDly 0 ∨ a = rEthDly 1 then 2
  else if a = rEthPtp 0 ∨ a = rEthPtp 1 then 7
  else if a = rPwrCmp then 5
  else 1

/-- Fields the record holds: stored registers, those with state of their own, both ledgers' eight, and
PERIOD and BURST of every bucket that has been written. -/
def State.savedFields (s : State) : Nat :=
  (savedRegs.map fun d => regFields d.addr).sum + (savedOwn.map (·.2)).sum + 2 * 9 + 2 * s.ev.buckets.length

/-- The record: keys and values. -/
def State.savedConfig (s : State) : List (Nat × Nat) :=
  (savedRegs.map fun d => (d.addr, s.reg d.addr &&& (d.mask ^^^ (d.flash &&& d.mask)))) ++
  (savedOwn.map fun x => (x.1, (s.readReg x.1).1)) ++
  (List.finRange 2).flatMap (fun (b : Fin 2) =>
    [0x80044, 0x80048, 0x8004C].map fun a => (cfgKey a b.val, (s.rfb.ledgers[b]).settings (a % 65536))) ++
  s.ev.buckets.map fun x => (cfgKey 0x110084 x.1, packNat [(16, 16, x.2.nextPeriod), (8, 8, x.2.nextBurst)])

def ldgReg (a : Nat) : LdgReg := if a = 0x80044 then .cfg else if a = 0x80048 then .res else .rf

/-- One value of the record goes over the register reset value. -/
def State.applySaved (s : State) (x : Nat × Nat) : State :=
  let a := x.1 % 2 ^ 24
  let i := x.1 / 2 ^ 24
  let w := lo32 x.2
  let path : Path := { pa := signedOf 8 (fieldOf w 0 8), ant := signedOf 8 (fieldOf w 8 8), loss := fieldOf w 16 8 }
  match regDef a with
  | some d => s.setReg a ((s.reg a &&& d.flash) ||| x.2)
  | none => match s.setOwn a x.2 with
    | some t => t
    | none => match a with
      | 0x10004 => s.modTfc fun t => { t with reopenN := fieldOf w 16 16, stopN := fieldOf w 8 7, admitN := fieldOf w 0 4 }
      | 0x80010 => s.modRfb fun r => { r with paths := r.paths.set 0 path }
      | 0x80014 => s.modRfb fun r => { r with paths := r.paths.set 1 path }
      | 0xA0040 => s.modTmb fun t => { t with freeRate := signedOf 32 x.2 }
      | 0xD0600 => s.modHost fun h => { h with dpEn := flagOf w 0 }
      | 0x110084 => s.modEv fun e => e.setBucket i
          { e.bucket i with
            period := fieldOf w 16 16
            burst := fieldOf w 8 8
            nextPeriod := fieldOf w 16 16
            nextBurst := fieldOf w 8 8
            tokens := fieldOf w 8 8 }
      | _ =>
        if 0x80044 ≤ a ∧ a ≤ 0x8004C then s.modLedger (Fin.ofNat 2 i) fun l => l.write (ldgReg a) w else s

def State.applyConfig (s : State) (l : List (Nat × Nat)) : State := l.foldl State.applySaved s

/-- A save begins: it waits on a dip with RESULT 3 (Table 17-6). -/
def State.beginSave (s : State) : State :=
  s.modPwr fun p => { p with cfgBusy := true, cfgResult := if p.dip then 3 else p.cfgResult }

/-- CONFIG_SAVE. -/
def execConfigSave (s : State) : Res :=
  .next (if !s.answers 0x130018 then s
    else if s.pcieRole < 2 then s.modPwr fun p => { p with cfgResult := 1 }
    else
      let s := s.touch
      let s := s.modPwr fun p => { p with cfgRole := s.pcieRole }
      if s.pwr.cfgBusy then s.modPwr fun p => { p with cfgQueued := true } else s.beginSave)

/-- The record goes over the older copy. -/
def Pwr.keepSaved (p : Pwr) (l : List (Nat × Nat)) : Pwr := { p with saved := (l :: p.saved).take 2 }

/-- CONFIG_SAVE_DONE: the values in force are stored, or the flash status tells why not; a save that waits
then begins. -/
def execConfigSaveDone (status : BitVec 4) (s : State) : Res :=
  .next (if !s.pwr.cfgBusy || s.pwr.dip then s
    else
      let n := s.savedFields
      let role := s.pwr.cfgRole
      let s := if status = 0 then s.modPwr fun p => p.keepSaved s.savedConfig else s
      let s := s.modPwr fun p => { p with cfgBusy := false, cfgResult := if status = 0 then 0 else 2 }
      let s := if status = 0 then s.emit evConfigSaved n role else s.emit evConfigSaveFail status.toNat
      if s.pwr.cfgQueued then (s.modPwr fun p => { p with cfgQueued := false }).beginSave else s)

end Sys2Proof.Machine
end

