-- ==== Sys2Proof/Machine/Boot.lean ====
section
/-! DEFINITION. Boot after a reset, and the end of a flash operation (R494 to R498, R515 to R519, R541). -/

namespace Sys2Proof.Machine

/-- The copies of a newer and older pair whose CRC holds. -/
def keepPair {α : Type} (ok : Bool × Bool) (l : List α) : List α :=
  (if ok.1 then l.take 1 else []) ++ (if ok.2 then (l.drop 1).take 1 else [])

/-! ## The ROM (R494 to R498) -/

/-- A bank whose check fails is not valid. -/
def checkBank (b : Option PfoBank) (ok : Bool) : Option PfoBank := b.map fun x => { x with ok := x.ok && ok }

/-- What the ROM reads: the banks and the record as they hold. -/
def Pfo.readFlash (p : Pfo) (x : BootObs) : Pfo :=
  { p with
    banks := #v[checkBank p.banks[0] x.banks.1, checkBank p.banks[1] x.banks.2]
    recs := #v[if x.recs.1 then p.recs[0] else none, if x.recs.2 then p.recs[1] else none] }

def Pfo.bankSet (p : Pfo) (b : Nat) : Nat × Nat :=
  match p.bank b with
  | some x => (x.setVersion, x.svn)
  | none => (0, 0)

/-- What the ROM decides: recovery with its cause, or the bank that runs, with the SET_VERSION reverted where
one is (R496). A selected bank that fails its check leaves the other to run. -/
def Pfo.choose (p : Pfo) (recoveryN : Bool) : Nat ⊕ (Nat × Option Nat) :=
  let r := p.record
  if !recoveryN then .inl 2
  else if !p.bankOk 0 && !p.bankOk 1 then .inl 0
  else if r.attempts = 3 then
    if r.state = 1 ∧ p.bankOk (1 - r.bank) then .inr (1 - r.bank, some r.setVersion) else .inl 1
  else .inr (if p.bankOk r.bank then r.bank else 1 - r.bank, none)

/-- The record of the boot: a revert, or one attempt more. -/
def Pfo.attempt (p : Pfo) (bank : Nat) (reverted : Bool) : Pfo :=
  let (v, n) := p.bankSet bank
  let r := p.record
  if reverted then p.write { seq := 0, bank := bank, state := 2, attempts := 0, svn := n, setVersion := v }
  else p.write { r with attempts := r.attempts + 1 }

/-- The counter is raised to a CONFIRMED record's SVN (R497). -/
def Pfo.raiseFuse (p : Pfo) : Pfo := if p.record.state = 2 then { p with fuse := max p.fuse p.record.svn } else p

/-! ## The supervisor (R515 to R519) -/

/-- Sequence counters and last known squares: the retention area, else the newer valid snapshot (R516, R518). -/
def State.restoreRetained (s : State) (valid : Bool) : State :=
  let next := fun (n : Nat) => (n + 2 ^ 20) % 2 ^ 32
  let (d, l, q) := match (if valid then s.pwr.ret else none), s.pwr.extras with
    | some r, _ => (r.detSeq, r.linkSeq, r.squares)
    | none, x :: _ => (next x.detSeq, next x.linkSeq, x.squares)
    | none, [] => (2 ^ 31, 2 ^ 31, [])
  let s := s.modEv fun e => { e with detSeq := d, linkSeq := l }
  s.modCanvas fun c =>
    { c with robots := q.foldl (fun t x => tblMod robotDefault t x.1 fun r => { r with square := some x.2 }) c.robots }

/-- Provisioned entries come back from their copy (Table 17-5). -/
def State.restoreStations (s : State) : State :=
  s.air.provCopy.foldl (fun s x =>
    s.modStation (Fin.ofNat 2 (x.1 / 1024)) (x.1 % 1024) fun e => { e with ext := x.2, state := 2, provisioned := true }) s

/-- The retention area at boot: RETENTION_LOST, the dip that ended in the reset, and the Pentimento's loss. -/
def State.retentionRecords (s : State) (valid : Bool) : State :=
  match (if valid then s.pwr.ret else none) with
  | none => s.emit evRetentionLost (bit s.pwr.last.ci1Kept)
  | some r =>
    let s := match r.dip with
      | some (d, n) => s.emit evSupplyDip (min (2 ^ 32 - 1) d) n 1
      | none => s
    if r.pntLost = 0 then s
    else (s.modPnt fun p => { p with gapPending := r.pntLost, gapFirst := r.pntFirst }).pntGap

/-- Portfolio and recovery records of a boot. -/
def State.portfolioRecords (s : State) (reverted : Option Nat) : State :=
  let s := match s.pfo.exam with
    | some (true, a, b, c) => s.emit evPortfolioActivated a b c
    | some (false, a, b, c) => s.emit evPortfolioRefused a b c
    | none => s
  let s := match reverted with
    | some v => s.emit evPortfolioReverted v s.pfo.setVersion
    | none => s
  let s := match s.pfo.recCause with
    | some c => s.emit evRecoveryEntered c s.pfo.setVersion
    | none => s
  s.modPfo fun p => { p with exam := none, recCause := none }

/-- The unit's state at boot: SOLO without a pair; else it listens (R413, R417, R434). -/
def State.bootTwin (s : State) : State :=
  if s.paired then s.modTwin fun t => { t with listenSince := some 0 } else s.setTwin .solo

/-- BOOTED: the device runs. -/
def State.setBooted (s : State) : State :=
  let f := s.fleet
  let s := s.modPwr fun p => { p with state := .run, booted := true, servedAt := s.now, wake := none, cmp2 := false }
  let s := s.modPfo fun p => { p with upAt := s.now }
  let s := s.modDsp fun d => { d with autoloadDue := d.autoload }
  let s := s.modFleet fun f => { f with differSince := if f.inputA = f.inputB then none else some s.now }
  let s := (s.modHost fun h => { h with supervisorUp := true }).endChange 4 false
  let x := s.pwr.last
  let s := s.emit evResetRecord x.kind x.cause (bit x.ci1Kept + 2 * bit s.pwr.retUsed) x.was
  if f.inputA && f.inputB then s.modFleet fun g => { g with highSince := some (f.highSince.getD s.now) } else s

/-- The ROM takes the set: the attempt is recorded, and what failed its check is not kept. -/
def State.bootRom (s : State) (x : BootObs) (bank : Nat) (again valid : Bool) : State :=
  let s := s.modPfo fun p => { (p.attempt bank again).raiseFuse with running := bank }
  let s := s.modRfb fun r => { r with retained := if valid then r.retained else none, snaps := keepPair x.snaps r.snaps }
  s.modPwr fun p =>
    { p with
      extras := keepPair x.snaps p.extras
      retValid := valid
      retUsed := valid
      rtcValid := valid && p.rtcValid
      inRecovery := false }

/-- The retention area, the saved configuration and the ledgers come back. -/
def State.bootRestore (s : State) (x : BootObs) (valid : Bool) : State :=
  let s := (s.restoreRetained valid).retentionRecords valid
  let s := match keepPair x.configs s.pwr.saved with
    | l :: _ => s.applyConfig l
    | [] => s
  s.restoreLedgers.modTfc fun t => { t.restorePlan with dayAt := s.now, capAt := s.now }

/-- The first time, the staging area, the records of the boot, the stations and the WAKE event. -/
def State.bootFinish (s : State) (x : BootObs) (reverted : Option Nat) : State :=
  let s := s.firstTime (if s.paired then x.partner else none)
  let s := if s.pfo.staging = 1 then s.dropStaging 0 else s
  let s := (s.portfolioRecords reverted).restoreStations
  let s := s.newIncarnation s.pwr.last.kind
  match s.pwr.wake with
  | some (src, _) => s.emit evWake src 3
  | none => s

/-- The boot of a set, from the ROM's choice to BOOTED. -/
def State.bootSet (s : State) (x : BootObs) (bank : Nat) (reverted : Option Nat) : State :=
  let valid := x.retOk && s.pwr.ret.isSome
  let s := s.bootRom x bank reverted.isSome valid
  let s := s.bootRestore x valid
  (s.bootFinish x reverted).setBooted.bootTwin

/-- BOOT, once the reference is accepted, the internal reset of a kind other than POR has lasted 1 ms, and a
staged Portfolio has been examined. In recovery only the service port runs. -/
def execBoot (x : BootObs) (s : State) : Res :=
  .next (if s.pwr.state ≠ .off ∨ s.pwr.inRecovery ∨ !s.pwr.refOk ∨ s.pfo.staging = 2
      ∨ (s.pwr.last.kind ≠ 0 ∧ !s.past s.pwr.last.time ms) then s
    else
      let s := s.modTwin fun t => { t with seatB := x.seatB, peerSeatB := !x.seatB }
      let s := s.modPwr fun p => { p with clkSel := x.clkSel, recovery := !x.recoveryN, vsysLow := false }
      let s := s.modPfo fun p => p.readFlash x
      match s.pfo.choose x.recoveryN with
      | .inl cause =>
        (s.modPwr fun p => { p with inRecovery := true }).modPfo fun p =>
          { p with
            recCause := some cause
            staging := if p.staging = 1 then 0 else p.staging
            bytes := if p.staging = 1 then [] else p.bytes }
      | .inr (bank, reverted) => s.bootSet x bank reverted)

/-! ## Flash operations (R541) -/

/-- The write at the head of the queue is stored. -/
def State.flashStored (s : State) (w : FlashWrite) : State :=
  match w with
  | .plan h l => s.modTfc fun t => { t with planCopy := some (h, l) }
  | .nav b => s.modGnss fun g => { g with navFlash := b }
  | .survey x y z => s.modGnss fun g => { g with stored := some (x, y, z) }

/-- FLASH_OPERATION_DONE: the write under way ends with its flash status, and the next begins unless it is
held back. -/
def execFlashOperationDone (status : BitVec 4) (s : State) : Res :=
  .next (match s.pwr.flash with
    | [] => s
    | w :: rest =>
      if !s.pwr.flashBegun then s
      else
        let s := if status = 0 then s.flashStored w else s
        s.modPwr fun p => { p with flash := rest, flashBegun := !rest.isEmpty && !p.flashHeld })

end Sys2Proof.Machine
end

