-- ==== Sys2Proof/Machine/Dispatch.lean ====
section
/-! DEFINITION. One arm per constructor of Instr. -/

namespace Sys2Proof.Machine

def exec (i : Instr) (s : State) : Host.Outcome State Fault Refusal :=
  match i with
  | .stopInputFall b => Sys2Proof.Machine.execStopInputFall b s
  | .fleetStopWrite dp w => Sys2Proof.Machine.execFleetStopWrite dp w s
  | .stopInputDiscrepancy => Sys2Proof.Machine.execStopInputDiscrepancy s
  | .discrepancyClear => Sys2Proof.Machine.execDiscrepancyClear s
  | .stopReleaseWrite w bad => Sys2Proof.Machine.execStopReleaseWrite w bad s
  | .bootStopSelfRelease => Sys2Proof.Machine.execBootStopSelfRelease s
  | .incarnationStore status => Sys2Proof.Machine.execIncarnationStore status s
  | .incarnationStoreRetry status => Sys2Proof.Machine.execIncarnationStoreRetry status s
  | .restartEnd => Sys2Proof.Machine.execRestartEnd s
  | .epochBoundary => Sys2Proof.Machine.execEpochBoundary s
  | .taskTick => Sys2Proof.Machine.execTaskTick s
  | .epochDeadline => Sys2Proof.Machine.execEpochDeadline s
  | .admitNReached => Sys2Proof.Machine.execAdmitNReached s
  | .stopNReached => Sys2Proof.Machine.execStopNReached s
  | .latenessCleared => Sys2Proof.Machine.execLatenessCleared s
  | .outputPhase kind index => Sys2Proof.Machine.execOutputPhase kind index s
  | .tfcPolicyWrite w => Sys2Proof.Machine.execTfcPolicyWrite w s
  | .monitorWindowEnd n rates temps read => Sys2Proof.Machine.execMonitorWindowEnd n rates temps read s
  | .chainExcluded n j => Sys2Proof.Machine.execChainExcluded n j s
  | .sensorExcluded n j => Sys2Proof.Machine.execSensorExcluded n j s
  | .readySet => Sys2Proof.Machine.execReadySet s
  | .railLower n => Sys2Proof.Machine.execRailLower n s
  | .avsFault n nack status => Sys2Proof.Machine.execAvsFault n nack status s
  | .avsRetry n nack read => Sys2Proof.Machine.execAvsRetry n nack read s
  | .contractAtRisk n => Sys2Proof.Machine.execContractAtRisk n s
  | .contractBreach n => Sys2Proof.Machine.execContractBreach n s
  | .contractRestored n => Sys2Proof.Machine.execContractRestored n s
  | .regionSkew p => Sys2Proof.Machine.execRegionSkew p s
  | .regionSkewClear p => Sys2Proof.Machine.execRegionSkewClear p s
  | .skewReset p => Sys2Proof.Machine.execSkewReset p s
  | .dailySample => Sys2Proof.Machine.execDailySample s
  | .capRefresh => Sys2Proof.Machine.execCapRefresh s
  | .add e d a b => Sys2Proof.Machine.execAdd e d a b s
  | .sub e d a b => Sys2Proof.Machine.execSub e d a b s
  | .and e d a b => Sys2Proof.Machine.execAnd e d a b s
  | .or e d a b => Sys2Proof.Machine.execOr e d a b s
  | .xor e d a b => Sys2Proof.Machine.execXor e d a b s
  | .sll e d a b => Sys2Proof.Machine.execSll e d a b s
  | .srl e d a b => Sys2Proof.Machine.execSrl e d a b s
  | .sra e d a b => Sys2Proof.Machine.execSra e d a b s
  | .slt e d a b => Sys2Proof.Machine.execSlt e d a b s
  | .sltu e d a b => Sys2Proof.Machine.execSltu e d a b s
  | .min e d a b => Sys2Proof.Machine.execMin e d a b s
  | .max e d a b => Sys2Proof.Machine.execMax e d a b s
  | .adds e d a b => Sys2Proof.Machine.execAdds e d a b s
  | .subs e d a b => Sys2Proof.Machine.execSubs e d a b s
  | .clz e d a => Sys2Proof.Machine.execClz e d a s
  | .addi e d a imm => Sys2Proof.Machine.execAddi e d a imm s
  | .andi e d a imm => Sys2Proof.Machine.execAndi e d a imm s
  | .ori e d a imm => Sys2Proof.Machine.execOri e d a imm s
  | .xori e d a imm => Sys2Proof.Machine.execXori e d a imm s
  | .slti e d a imm => Sys2Proof.Machine.execSlti e d a imm s
  | .sltiu e d a imm => Sys2Proof.Machine.execSltiu e d a imm s
  | .li e d imm => Sys2Proof.Machine.execLi e d imm s
  | .lui e d imm => Sys2Proof.Machine.execLui e d imm s
  | .slli e d a n => Sys2Proof.Machine.execSlli e d a n s
  | .srli e d a n => Sys2Proof.Machine.execSrli e d a n s
  | .srai e d a n => Sys2Proof.Machine.execSrai e d a n s
  | .ext e d a pos len1 => Sys2Proof.Machine.execExt e d a pos len1 s
  | .exts e d a pos len1 => Sys2Proof.Machine.execExts e d a pos len1 s
  | .ins e d a pos len1 => Sys2Proof.Machine.execIns e d a pos len1 s
  | .mul e d a b => Sys2Proof.Machine.execMul e d a b s
  | .mulh e d a b => Sys2Proof.Machine.execMulh e d a b s
  | .mulhu e d a b => Sys2Proof.Machine.execMulhu e d a b s
  | .div e d a b => Sys2Proof.Machine.execDiv e d a b s
  | .divu e d a b => Sys2Proof.Machine.execDivu e d a b s
  | .rem e d a b => Sys2Proof.Machine.execRem e d a b s
  | .remu e d a b => Sys2Proof.Machine.execRemu e d a b s
  | .ld e m t a post off => Sys2Proof.Machine.execLd e m t a post off s
  | .st e m t a post off => Sys2Proof.Machine.execSt e m t a post off s
  | .vld e m v a post off => Sys2Proof.Machine.execVld e m v a post off s
  | .vst e m v a post off => Sys2Proof.Machine.execVst e m v a post off s
  | .lda e m t a post off => Sys2Proof.Machine.execLda e m t a post off s
  | .sta e m t a post off => Sys2Proof.Machine.execSta e m t a post off s
  | .vlda e m v a post off => Sys2Proof.Machine.execVlda e m v a post off s
  | .vsta e m v a post off => Sys2Proof.Machine.execVsta e m v a post off s
  | .vadd e vd va vb => Sys2Proof.Machine.execVadd e vd va vb s
  | .vsub e vd va vb => Sys2Proof.Machine.execVsub e vd va vb s
  | .vand e vd va vb => Sys2Proof.Machine.execVand e vd va vb s
  | .vor e vd va vb => Sys2Proof.Machine.execVor e vd va vb s
  | .vxor e vd va vb => Sys2Proof.Machine.execVxor e vd va vb s
  | .vadds e vd va vb => Sys2Proof.Machine.execVadds e vd va vb s
  | .vsubs e vd va vb => Sys2Proof.Machine.execVsubs e vd va vb s
  | .vmin e vd va vb => Sys2Proof.Machine.execVmin e vd va vb s
  | .vmax e vd va vb => Sys2Proof.Machine.execVmax e vd va vb s
  | .vceq e vd va vb => Sys2Proof.Machine.execVceq e vd va vb s
  | .vclt e vd va vb => Sys2Proof.Machine.execVclt e vd va vb s
  | .vcltu e vd va vb => Sys2Proof.Machine.execVcltu e vd va vb s
  | .vsel e vd va vb vc => Sys2Proof.Machine.execVsel e vd va vb vc s
  | .vabs e vd va => Sys2Proof.Machine.execVabs e vd va s
  | .vslli e vd va n => Sys2Proof.Machine.execVslli e vd va n s
  | .vsrli e vd va n => Sys2Proof.Machine.execVsrli e vd va n s
  | .vsrai e vd va n => Sys2Proof.Machine.execVsrai e vd va n s
  | .vbcast e v g => Sys2Proof.Machine.execVbcast e v g s
  | .vext e g v lane => Sys2Proof.Machine.execVext e g v lane s
  | .vins e v g lane => Sys2Proof.Machine.execVins e v g lane s
  | .vmul e vd va vb => Sys2Proof.Machine.execVmul e vd va vb s
  | .vmulh e vd va vb => Sys2Proof.Machine.execVmulh e vd va vb s
  | .vmac e acc va vb => Sys2Proof.Machine.execVmac e acc va vb s
  | .vmsu e acc va vb => Sys2Proof.Machine.execVmsu e acc va vb s
  | .amov e v acc sh => Sys2Proof.Machine.execAmov e v acc sh s
  | .amovr e v acc sh => Sys2Proof.Machine.execAmovr e v acc sh s
  | .amovl e v acc => Sys2Proof.Machine.execAmovl e v acc s
  | .amovh e v acc => Sys2Proof.Machine.execAmovh e v acc s
  | .aclr e acc => Sys2Proof.Machine.execAclr e acc s
  | .ald e acc v sh => Sys2Proof.Machine.execAld e acc v sh s
  | .beq e a b off => Sys2Proof.Machine.execBeq e a b off s
  | .bne e a b off => Sys2Proof.Machine.execBne e a b off s
  | .blt e a b off => Sys2Proof.Machine.execBlt e a b off s
  | .bge e a b off => Sys2Proof.Machine.execBge e a b off s
  | .bltu e a b off => Sys2Proof.Machine.execBltu e a b off s
  | .bgeu e a b off => Sys2Proof.Machine.execBgeu e a b off s
  | .jmp e off => Sys2Proof.Machine.execJmp e off s
  | .call e target => Sys2Proof.Machine.execCall e target s
  | .endI e => Sys2Proof.Machine.execEndI e s
  | .ret e => Sys2Proof.Machine.execRet e s
  | .breakI e => Sys2Proof.Machine.execBreakI e s
  | .lidx e d => Sys2Proof.Machine.execLidx e d s
  | .loop e c bound last => Sys2Proof.Machine.execLoop e c bound last s
  | .fcprb e m d src => Sys2Proof.Machine.execFcprb e m d src s
  | .fcprbv e m v src => Sys2Proof.Machine.execFcprbv e m v src s
  | .flock e arb d n => Sys2Proof.Machine.execFlock e arb d n s
  | .funlock e d n => Sys2Proof.Machine.execFunlock e d n s
  | .fmbs e d src ch => Sys2Proof.Machine.execFmbs e d src ch s
  | .fmbr e d t ch => Sys2Proof.Machine.execFmbr e d t ch s
  | .femit e d src sev n => Sys2Proof.Machine.execFemit e d src sev n s
  | .ftime e d t => Sys2Proof.Machine.execFtime e d t s
  | .fstamp e d => Sys2Proof.Machine.execFstamp e d s
  | .fstop e d src kind bad => Sys2Proof.Machine.execFstop e d src kind bad s
  | .fsrel e d src bad => Sys2Proof.Machine.execFsrel e d src bad s
  | .fpcnt e d q => Sys2Proof.Machine.execFpcnt e d q s
  | .fgrant e src task slot => Sys2Proof.Machine.execFgrant e src task slot s
  | .fstk e src task slot => Sys2Proof.Machine.execFstk e src task slot s
  | .floop e src task slot => Sys2Proof.Machine.execFloop e src task slot s
  | .fpput e src task slot => Sys2Proof.Machine.execFpput e src task slot s
  | .fpget e src task slot => Sys2Proof.Machine.execFpget e src task slot s
  | .fabricRequestDrain k => Sys2Proof.Machine.execFabricRequestDrain k s
  | .paletteRequestComplete ro => Sys2Proof.Machine.execPaletteRequestComplete ro s
  | .continuationResult => Sys2Proof.Machine.execContinuationResult s
  | .dispatchDecision => Sys2Proof.Machine.execDispatchDecision s
  | .easelScrub k m => Sys2Proof.Machine.execEaselScrub k m s
  | .atelierScrub ms => Sys2Proof.Machine.execAtelierScrub ms s
  | .easHalt k brk => Sys2Proof.Machine.execEasHalt k brk s
  | .easResume k brk => Sys2Proof.Machine.execEasResume k brk s
  | .easStep k brk => Sys2Proof.Machine.execEasStep k brk s
  | .breakpointHit k => Sys2Proof.Machine.execBreakpointHit k s
  | .easMemDataRead k m => Sys2Proof.Machine.execEasMemDataRead k m s
  | .easMemDataWrite k w => Sys2Proof.Machine.execEasMemDataWrite k w s
  | .load => Sys2Proof.Machine.execLoad s
  | .loadComplete data => Sys2Proof.Machine.execLoadComplete data s
  | .start stored => Sys2Proof.Machine.execStart stored s
  | .stop => Sys2Proof.Machine.execStop s
  | .cartoonStopEffect => Sys2Proof.Machine.execCartoonStopEffect s
  | .swap => Sys2Proof.Machine.execSwap s
  | .cancelSwap => Sys2Proof.Machine.execCancelSwap s
  | .swapEpoch => Sys2Proof.Machine.execSwapEpoch s
  | .store => Sys2Proof.Machine.execStore s
  | .storeComplete status => Sys2Proof.Machine.execStoreComplete status s
  | .eraseStored status => Sys2Proof.Machine.execEraseStored status s
  | .testEnter => Sys2Proof.Machine.execTestEnter s
  | .testExit => Sys2Proof.Machine.execTestExit s
  | .autoload => Sys2Proof.Machine.execAutoload s
  | .startupEnd => Sys2Proof.Machine.execStartupEnd s
  | .arrivalDrain k => Sys2Proof.Machine.execArrivalDrain k s
  | .flowReleaseWrite w => Sys2Proof.Machine.execFlowReleaseWrite w s
  | .flowRestart => Sys2Proof.Machine.execFlowRestart s
  | .traceClear w => Sys2Proof.Machine.execTraceClear w s
  | .dspKeyDataWrite w => Sys2Proof.Machine.execDspKeyDataWrite w s
  | .dspKeyProgram slot => Sys2Proof.Machine.execDspKeyProgram slot s
  | .dspKeyRevoke slot => Sys2Proof.Machine.execDspKeyRevoke slot s
  | .canvasSlotBoundary => Sys2Proof.Machine.execCanvasSlotBoundary s
  | .sweepComplete bad => Sys2Proof.Machine.execSweepComplete bad s
  | .sweepLate => Sys2Proof.Machine.execSweepLate s
  | .grantBatch => Sys2Proof.Machine.execGrantBatch s
  | .reportHandling bad => Sys2Proof.Machine.execReportHandling bad s
  | .grant bad1 bad2 upTo => Sys2Proof.Machine.execGrant bad1 bad2 upTo s
  | .withdraw bad => Sys2Proof.Machine.execWithdraw bad s
  | .block bad => Sys2Proof.Machine.execBlock bad s
  | .unblock bad => Sys2Proof.Machine.execUnblock bad s
  | .hostGrantGo w data => Sys2Proof.Machine.execHostGrantGo w data s
  | .grantDelivered => Sys2Proof.Machine.execGrantDelivered s
  | .grantUndelivered => Sys2Proof.Machine.execGrantUndelivered s
  | .robotLost r bad => Sys2Proof.Machine.execRobotLost r bad s
  | .persistRemainderApplied => Sys2Proof.Machine.execPersistRemainderApplied s
  | .canvasScrub m => Sys2Proof.Machine.execCanvasScrub m s
  | .strokeBatch => Sys2Proof.Machine.execStrokeBatch s
  | .movePos => Sys2Proof.Machine.execMovePos s
  | .moveSpeed => Sys2Proof.Machine.execMoveSpeed s
  | .strokeStop => Sys2Proof.Machine.execStrokeStop s
  | .resume => Sys2Proof.Machine.execResume s
  | .corridor => Sys2Proof.Machine.execCorridor s
  | .setProfile => Sys2Proof.Machine.execSetProfile s
  | .setRoute => Sys2Proof.Machine.execSetRoute s
  | .sync => Sys2Proof.Machine.execSync s
  | .guidanceReport => Sys2Proof.Machine.execGuidanceReport s
  | .loopEnable => Sys2Proof.Machine.execLoopEnable s
  | .loopDisable => Sys2Proof.Machine.execLoopDisable s
  | .loopReset => Sys2Proof.Machine.execLoopReset s
  | .glazeClear => Sys2Proof.Machine.execGlazeClear s
  | .learn => Sys2Proof.Machine.execLearn s
  | .driveLoopBlock => Sys2Proof.Machine.execDriveLoopBlock s
  | .radioSlotBoundary ros levels => Sys2Proof.Machine.execRadioSlotBoundary ros levels s
  | .superframeBoundary => Sys2Proof.Machine.execSuperframeBoundary s
  | .stationFrameReceived chain channel rssi mpdu => Sys2Proof.Machine.execStationFrameReceived chain channel rssi mpdu s
  | .reportReceived => Sys2Proof.Machine.execReportReceived s
  | .joinReceived => Sys2Proof.Machine.execJoinReceived s
  | .udataReceived => Sys2Proof.Machine.execUdataReceived s
  | .immAckReceived chain channel seq t => Sys2Proof.Machine.execImmAckReceived chain channel seq t s
  | .stationAged chain station => Sys2Proof.Machine.execStationAged chain station s
  | .provision => Sys2Proof.Machine.execProvision s
  | .stationClear => Sys2Proof.Machine.execStationClear s
  | .tombstone => Sys2Proof.Machine.execTombstone s
  | .stationScrub m24 mSub ext24 extSub => Sys2Proof.Machine.execStationScrub m24 mSub ext24 extSub s
  | .airKeyCtlWrite w => Sys2Proof.Machine.execAirKeyCtlWrite w s
  | .airKeyDataWrite w => Sys2Proof.Machine.execAirKeyDataWrite w s
  | .planChange => Sys2Proof.Machine.execPlanChange s
  | .stopRepetition chain => Sys2Proof.Machine.execStopRepetition chain s
  | .echoExit => Sys2Proof.Machine.execEchoExit s
  | .ledgerBucketBoundary band => Sys2Proof.Machine.execLedgerBucketBoundary band s
  | .ledgerSnapshot status => Sys2Proof.Machine.execLedgerSnapshot status s
  | .ledgerSettingsWrite reg w => Sys2Proof.Machine.execLedgerSettingsWrite reg w s
  | .rfbPathWrite chain w => Sys2Proof.Machine.execRfbPathWrite chain w s
  | .measurementEpoch obs => Sys2Proof.Machine.execMeasurementEpoch obs s
  | .timeLocked => Sys2Proof.Machine.execTimeLocked s
  | .holdoverEntry => Sys2Proof.Machine.execHoldoverEntry s
  | .holdoverUpdate => Sys2Proof.Machine.execHoldoverUpdate s
  | .jumpAccepted => Sys2Proof.Machine.execJumpAccepted s
  | .timeStep => Sys2Proof.Machine.execTimeStep s
  | .measurementRateChange => Sys2Proof.Machine.execMeasurementRateChange s
  | .rtcmArpSend => Sys2Proof.Machine.execRtcmArpSend s
  | .rtcmDescriptorSend => Sys2Proof.Machine.execRtcmDescriptorSend s
  | .spectrumEstimate band agc floor bins => Sys2Proof.Machine.execSpectrumEstimate band agc floor bins s
  | .notchRelease band k => Sys2Proof.Machine.execNotchRelease band k s
  | .antennaFault input ma => Sys2Proof.Machine.execAntennaFault input ma s
  | .biasRetry input ma => Sys2Proof.Machine.execBiasRetry input ma s
  | .surveyRestart w => Sys2Proof.Machine.execSurveyRestart w s
  | .surveySlow => Sys2Proof.Machine.execSurveySlow s
  | .coordMismatch => Sys2Proof.Machine.execCoordMismatch s
  | .coordMismatchClear => Sys2Proof.Machine.execCoordMismatchClear s
  | .fixedCoordWrite reg v => Sys2Proof.Machine.execFixedCoordWrite reg v s
  | .svSlotRelease slot => Sys2Proof.Machine.execSvSlotRelease slot s
  | .gnssDataSave => Sys2Proof.Machine.execGnssDataSave s
  | .captureGo w => Sys2Proof.Machine.execCaptureGo w s
  | .captureComplete samples => Sys2Proof.Machine.execCaptureComplete samples s
  | .capDataRead => Sys2Proof.Machine.execCapDataRead s
  | .tp0Edge staged => Sys2Proof.Machine.execTp0Edge staged s
  | .automaticCommit => Sys2Proof.Machine.execAutomaticCommit s
  | .tmbRead now part => Sys2Proof.Machine.execTmbRead now part s
  | .stampEdge source => Sys2Proof.Machine.execStampEdge source s
  | .timeSourceChange => Sys2Proof.Machine.execTimeSourceChange s
  | .tmbSetWrite v => Sys2Proof.Machine.execTmbSetWrite v s
  | .tmbFreeRateWrite w => Sys2Proof.Machine.execTmbFreeRateWrite w s
  | .rtcUpdate => Sys2Proof.Machine.execRtcUpdate s
  | .ethLink port up speed part => Sys2Proof.Machine.execEthLink port up speed part s
  | .ethEgressDrop port ro => Sys2Proof.Machine.execEthEgressDrop port ro s
  | .ethFrameReceived port frame fcsOk => Sys2Proof.Machine.execEthFrameReceived port frame fcsOk s
  | .ethFrameSend port ro => Sys2Proof.Machine.execEthFrameSend port ro s
  | .arpRequest port senderMac senderIp targetIp => Sys2Proof.Machine.execArpRequest port senderMac senderIp targetIp s
  | .ptpSyncSend port => Sys2Proof.Machine.execPtpSyncSend port s
  | .ptpAnnounceSend port => Sys2Proof.Machine.execPtpAnnounceSend port s
  | .ptpDelayReqSend port => Sys2Proof.Machine.execPtpDelayReqSend port s
  | .ptpSyncReceived port m => Sys2Proof.Machine.execPtpSyncReceived port m s
  | .ptpFollowUpReceived port m => Sys2Proof.Machine.execPtpFollowUpReceived port m s
  | .ptpDelayReqReceived port m => Sys2Proof.Machine.execPtpDelayReqReceived port m s
  | .ptpDelayRespReceived port m requester freq slew => Sys2Proof.Machine.execPtpDelayRespReceived port m requester freq slew s
  | .ptpAnnounceReceived port m d => Sys2Proof.Machine.execPtpAnnounceReceived port m d s
  | .timeMsg t1 t3 t4 st u rate => Sys2Proof.Machine.execTimeMsg t1 t3 t4 st u rate s
  | .hostPutGo w => Sys2Proof.Machine.execHostPutGo w s
  | .hostPutDone data => Sys2Proof.Machine.execHostPutDone data s
  | .hostGetGo w => Sys2Proof.Machine.execHostGetGo w s
  | .hostGetDone ro => Sys2Proof.Machine.execHostGetDone ro s
  | .paletteFlushWrite w => Sys2Proof.Machine.execPaletteFlushWrite w s
  | .paletteFlush q => Sys2Proof.Machine.execPaletteFlush q s
  | .freeListRebuilt => Sys2Proof.Machine.execFreeListRebuilt s
  | .partialPacketDiscard q => Sys2Proof.Machine.execPartialPacketDiscard q s
  | .pcieReset kind => Sys2Proof.Machine.execPcieReset kind s
  | .pcieLinkReturn speed width busMaster => Sys2Proof.Machine.execPcieLinkReturn speed width busMaster s
  | .pcieCanvasRead addr n ms => Sys2Proof.Machine.execPcieCanvasRead addr n ms s
  | .evqEnable n w => Sys2Proof.Machine.execEvqEnable n w s
  | .evqRecordWrite n ro => Sys2Proof.Machine.execEvqRecordWrite n ro s
  | .evqModerationTimer n => Sys2Proof.Machine.execEvqModerationTimer n s
  | .evqTailWrite n w => Sys2Proof.Machine.execEvqTailWrite n w s
  | .dpTimeRead => Sys2Proof.Machine.execDpTimeRead s
  | .dpProbeCountRead => Sys2Proof.Machine.execDpProbeCountRead s
  | .dpCanvasProbe cell m => Sys2Proof.Machine.execDpCanvasProbe cell m s
  | .dpLockRead k arb => Sys2Proof.Machine.execDpLockRead k arb s
  | .dpLockWrite k => Sys2Proof.Machine.execDpLockWrite k s
  | .dpMbxTake c => Sys2Proof.Machine.execDpMbxTake c s
  | .dpMbxSend c w => Sys2Proof.Machine.execDpMbxSend c w s
  | .dpMbxStatusRead c => Sys2Proof.Machine.execDpMbxStatusRead c s
  | .dpWrite word data => Sys2Proof.Machine.execDpWrite word data s
  | .dpEnWrite en => Sys2Proof.Machine.execDpEnWrite en s
  | .hostLockRead k arb => Sys2Proof.Machine.execHostLockRead k arb s
  | .hostLockWrite k => Sys2Proof.Machine.execHostLockWrite k s
  | .lockFreeWrite w => Sys2Proof.Machine.execLockFreeWrite w s
  | .hostMbxTx c w => Sys2Proof.Machine.execHostMbxTx c w s
  | .hostMbxRx c => Sys2Proof.Machine.execHostMbxRx c s
  | .mailboxTimeout c toEnd1 => Sys2Proof.Machine.execMailboxTimeout c toEnd1 s
  | .mbxHostUpWrite up => Sys2Proof.Machine.execMbxHostUpWrite up s
  | .twinLinkUp => Sys2Proof.Machine.execTwinLinkUp s
  | .twinLinkDown => Sys2Proof.Machine.execTwinLinkDown s
  | .twinLaneLost => Sys2Proof.Machine.execTwinLaneLost s
  | .heartbeatPresent => Sys2Proof.Machine.execHeartbeatPresent s
  | .heartbeatLost => Sys2Proof.Machine.execHeartbeatLost s
  | .logMsg e x => Sys2Proof.Machine.execLogMsg e x s
  | .logCloseMsg e => Sys2Proof.Machine.execLogCloseMsg e s
  | .logAckMsg e => Sys2Proof.Machine.execLogAckMsg e s
  | .logAckTimeout => Sys2Proof.Machine.execLogAckTimeout s
  | .logCloseTimeout => Sys2Proof.Machine.execLogCloseTimeout s
  | .digestSend => Sys2Proof.Machine.execDigestSend s
  | .digestMsg e d => Sys2Proof.Machine.execDigestMsg e d s
  | .digestTimeout => Sys2Proof.Machine.execDigestTimeout s
  | .ledgerMsg slot allow => Sys2Proof.Machine.execLedgerMsg slot allow s
  | .stateMsg st seatB inc run => Sys2Proof.Machine.execStateMsg st seatB inc run s
  | .resignMsg => Sys2Proof.Machine.execResignMsg s
  | .forwardMsg h => Sys2Proof.Machine.execForwardMsg h s
  | .transferMsg p => Sys2Proof.Machine.execTransferMsg p s
  | .healthMsg h => Sys2Proof.Machine.execHealthMsg h s
  | .resetMsg => Sys2Proof.Machine.execResetMsg s
  | .stopRelay x subsumed b => Sys2Proof.Machine.execStopRelay x subsumed b s
  | .releaseRelay seq role => Sys2Proof.Machine.execReleaseRelay seq role s
  | .twinSnapshot => Sys2Proof.Machine.execTwinSnapshot s
  | .twinCaughtUp => Sys2Proof.Machine.execTwinCaughtUp s
  | .transferTimeout cause => Sys2Proof.Machine.execTransferTimeout cause s
  | .transferRetry => Sys2Proof.Machine.execTransferRetry s
  | .faultedTimeout => Sys2Proof.Machine.execFaultedTimeout s
  | .listenExpiry heard => Sys2Proof.Machine.execListenExpiry heard s
  | .switch => Sys2Proof.Machine.execSwitch s
  | .switchover => Sys2Proof.Machine.execSwitchover s
  | .resync => Sys2Proof.Machine.execResync s
  | .isolate => Sys2Proof.Machine.execIsolate s
  | .standbyHealthReport o => Sys2Proof.Machine.execStandbyHealthReport o s
  | .pwmPeriodCentre samples => Sys2Proof.Machine.execPwmPeriodCentre samples s
  | .standstillEnter d => Sys2Proof.Machine.execStandstillEnter d s
  | .stepEdge d up => Sys2Proof.Machine.execStepEdge d up s
  | .followIdle d => Sys2Proof.Machine.execFollowIdle d s
  | .limitInputChange d far level => Sys2Proof.Machine.execLimitInputChange d far level s
  | .chatterEnd d far => Sys2Proof.Machine.execChatterEnd d far s
  | .homingPhaseEnd d => Sys2Proof.Machine.execHomingPhaseEnd d s
  | .driveHome ro => Sys2Proof.Machine.execDriveHome ro s
  | .driveClear ro => Sys2Proof.Machine.execDriveClear ro s
  | .setMode ro => Sys2Proof.Machine.execSetMode ro s
  | .stallDetectionStart => Sys2Proof.Machine.execStallDetectionStart s
  | .sessionOpen role chal => Sys2Proof.Machine.execSessionOpen role chal s
  | .sessionProve => Sys2Proof.Machine.execSessionProve s
  | .sessionClose => Sys2Proof.Machine.execSessionClose s
  | .sessionIdleTimeout svc => Sys2Proof.Machine.execSessionIdleTimeout svc s
  | .challengeExpiry svc => Sys2Proof.Machine.execChallengeExpiry svc s
  | .sessionLockoutEnd svc => Sys2Proof.Machine.execSessionLockoutEnd svc s
  | .keyDataWrite w => Sys2Proof.Machine.execKeyDataWrite w s
  | .keyCountRestart => Sys2Proof.Machine.execKeyCountRestart s
  | .keyProgram role => Sys2Proof.Machine.execKeyProgram role s
  | .bucketRefill code => Sys2Proof.Machine.execBucketRefill code s
  | .pntRlWrite w => Sys2Proof.Machine.execPntRlWrite w s
  | .rlSettingsApply => Sys2Proof.Machine.execRlSettingsApply s
  | .pentimentoSlotWrite status => Sys2Proof.Machine.execPentimentoSlotWrite status s
  | .pentimentoClear w => Sys2Proof.Machine.execPentimentoClear w s
  | .pentimentoClearDone => Sys2Proof.Machine.execPentimentoClearDone s
  | .svcRead => Sys2Proof.Machine.execSvcRead s
  | .hello seq => Sys2Proof.Machine.execHello seq s
  | .sessOpen seq role chal => Sys2Proof.Machine.execSessOpen seq role chal s
  | .sessProve seq response => Sys2Proof.Machine.execSessProve seq response s
  | .sessClose seq => Sys2Proof.Machine.execSessClose seq s
  | .stageBegin seq len flash => Sys2Proof.Machine.execStageBegin seq len flash s
  | .stageData seq off data flash => Sys2Proof.Machine.execStageData seq off data flash s
  | .stageEnd seq flash => Sys2Proof.Machine.execStageEnd seq flash s
  | .stageAbort seq => Sys2Proof.Machine.execStageAbort seq s
  | .stagingTimeout => Sys2Proof.Machine.execStagingTimeout s
  | .confirm seq flash => Sys2Proof.Machine.execConfirm seq flash s
  | .reboot seq => Sys2Proof.Machine.execReboot seq s
  | .pfoConfirm flash => Sys2Proof.Machine.execPfoConfirm flash s
  | .share => Sys2Proof.Machine.execShare s
  | .pfoReboot => Sys2Proof.Machine.execPfoReboot s
  | .pfoKeyDataWrite w => Sys2Proof.Machine.execPfoKeyDataWrite w s
  | .pfoKeyProgram slot => Sys2Proof.Machine.execPfoKeyProgram slot s
  | .pfoKeyRevoke slot => Sys2Proof.Machine.execPfoKeyRevoke slot s
  | .portfolioExamination fail => Sys2Proof.Machine.execPortfolioExamination fail s
  | .attemptsClear => Sys2Proof.Machine.execAttemptsClear s
  | .pwrReqRun => Sys2Proof.Machine.execPwrReqRun s
  | .pwrReqQuiet => Sys2Proof.Machine.execPwrReqQuiet s
  | .pwrReqSleep => Sys2Proof.Machine.execPwrReqSleep s
  | .pwrReqDeep => Sys2Proof.Machine.execPwrReqDeep s
  | .pwrReqInvalid v => Sys2Proof.Machine.execPwrReqInvalid v s
  | .pwrSoft => Sys2Proof.Machine.execPwrSoft s
  | .quietEntry => Sys2Proof.Machine.execQuietEntry s
  | .quietExit => Sys2Proof.Machine.execQuietExit s
  | .sleepEntry => Sys2Proof.Machine.execSleepEntry s
  | .sleepWake => Sys2Proof.Machine.execSleepWake s
  | .deepEntry => Sys2Proof.Machine.execDeepEntry s
  | .deepWake resetN => Sys2Proof.Machine.execDeepWake resetN s
  | .supplyDipStart => Sys2Proof.Machine.execSupplyDipStart s
  | .supplyDipEnd => Sys2Proof.Machine.execSupplyDipEnd s
  | .cmp1Trip => Sys2Proof.Machine.execCmp1Trip s
  | .tamper => Sys2Proof.Machine.execTamper s
  | .resetNLow => Sys2Proof.Machine.execResetNLow s
  | .watchdogExpiry => Sys2Proof.Machine.execWatchdogExpiry s
  | .ci1PowerRegained => Sys2Proof.Machine.execCi1PowerRegained s
  | .boot x => Sys2Proof.Machine.execBoot x s
  | .referenceAccepted => Sys2Proof.Machine.execReferenceAccepted s
  | .referenceLost => Sys2Proof.Machine.execReferenceLost s
  | .pwrCmpCfgWrite w => Sys2Proof.Machine.execPwrCmpCfgWrite w s
  | .configSave => Sys2Proof.Machine.execConfigSave s
  | .configSaveDone status => Sys2Proof.Machine.execConfigSaveDone status s
  | .flashOperationDone status => Sys2Proof.Machine.execFlashOperationDone status s
  | .registerWrite addr len v => Sys2Proof.Machine.execRegisterWrite addr len v s
  | .illegalInstruction e => Sys2Proof.Machine.execIllegalInstruction e s
  | .rcRegisterRead addr len => Sys2Proof.Machine.execRcRegisterRead addr len s
  | .stopInputRise b => Sys2Proof.Machine.execStopInputRise b s
  | .tamperCleared => Sys2Proof.Machine.execTamperCleared s
  | .svSlotAssigned view => Sys2Proof.Machine.execSvSlotAssigned view s
  | .watchdogService => Sys2Proof.Machine.execWatchdogService s
  | .heartbeatService => Sys2Proof.Machine.execHeartbeatService s
  | .heartbeatOutStopped => Sys2Proof.Machine.execHeartbeatOutStopped s
  | .supervisorMailboxAnswer => Sys2Proof.Machine.execSupervisorMailboxAnswer s
  | .svcRequestInvalid crcBad seq type => Sys2Proof.Machine.execSvcRequestInvalid crcBad seq type s
  | .drivePacketInvalid ro => Sys2Proof.Machine.execDrivePacketInvalid ro s

end Sys2Proof.Machine
end

