-- ==== Sys2Proof/Safety.lean ====
section
/-! DEFINITION. The terms the statements use: a safe run, an event that has occurred, what a record may touch,
and what an instruction of an Easel leaves as it was. -/

namespace Sys2Proof.Machine

/-- A command answers a next state. -/
def Runs (c : Instr) (s : State) : Prop := ∃ t, exec c s = .next t

/-- The state is the one right after an occurrence of an event with these parameters: its record
was made, or was suppressed by its empty bucket (R475). -/
def Logged (t : State) (e : EvDef) (p0 p1 p2 p3 : Nat) : Prop := ∃ u : State, t = u.emit e p0 p1 p2 p3

/-- The state with everything a record can touch set aside: the output trace and event logic, the Pentimento, the
Palette, the event queues, and the dispatcher's arrival queues and drop counters (R394, R475, R480). -/
def State.recordless (s : State) : State :=
  { s with
    ev := State.reset.ev
    pnt := State.reset.pnt
    palette := State.reset.palette
    host := { s.host with evq := HostIf.reset.evq }
    dsp := { s.dsp with arrivals := Dsp.reset.arrivals, dropRadio := 0, dropSubg := 0, dropUnrouted := 0 } }

/-- Nothing changed but what a record can touch. -/
def OnlyRecords (s t : State) : Prop := t.recordless = s.recordless

/-- A FLEET stop of a source has been raised: it is added with the next sequence number, 0 left out, unless a
FLEET stop is active, which subsumes it (R25, R26). -/
def RaisedFleet (s t : State) (source : Nat) : Prop :=
  t.fleet.lastSource = source ∧
  (s.fleet.fleetActive = true → t.fleet.stops = s.fleet.stops ∧ t.fleet.lastSeq = s.fleet.lastSeq) ∧
  (s.fleet.fleetActive = false → ∃ x, t.fleet.stops = s.fleet.stops ++ [x] ∧ x.kind = .fleet ∧
    x.source = source ∧ x.seq = (if s.fleet.lastSeq = 0xFFFF then 1 else s.fleet.lastSeq + 1) ∧
    t.fleet.lastSeq = x.seq)

/-- A stop of this unit's own source went to the partner that sequences stops, or with the link down was only
recorded (R24, R424; what the record shows is log entry 54). -/
def RelayedFleet (s t : State) (source : Nat) : Prop :=
  t.fleet.stops = s.fleet.stops ∧
  if s.twin.link = 0 then Logged t evStopRaised 0 0 source 0
  else t.ev.out = .twin (.stop { bootStop with source := source } false none) :: s.ev.out

/-- Table 1-6 and the codes of Table 1-9 allow the release of an active stop. -/
def MayRelease (s : State) (x : Stop) : Prop :=
  (x.kind = .fleet → s.inputsHigh = true ∧ (x.source = 5 → 1000 ≤ s.tfc.sinceLate) ∧
    s.fleet.discrepancy = false) ∧
  (s.twin.state = .solo ∨ s.twin.state = .active) ∧
  (x.kind ≠ .fleet → s.fleet.fleetActive = false ∧
    (x.kind = .robot → x.source = 4 → x.standstill = true))

/-- A dispatcher command of a session's rank finds its session, a unit of the pair that may carry it out where the
pair shares the command, and no command under way (R137, R159). -/
def State.takes (s : State) (rank : Nat) (shared : Bool) : Prop :=
  s.awake = true ∧ rank ≤ s.pcieRole ∧ (shared = true → s.rbit rTwnCfg 0 = true → s.serving = true) ∧
  s.dsp.isBusy = false

/-- A tick of task `i` is due in the present epoch, and its flow is not quarantined (R149). -/
def State.tickDue (s : State) (i : Nat) : Prop :=
  i < s.taskCount ∧ (s.task i).period ≠ 0 ∧ s.epoch.n % (s.task i).period = (s.task i).phase ∧
  s.dsp.quarantine.contains (s.task i).flow = false

/-! ## Instructions of an Easel -/

/-- The bank in use of Easel `k`. -/
def State.bank (s : State) (k : Fin 8) : Bank := s.easels[k].bank

/-- The Easel issues, the fetch is good, the word at the pc is this instruction, and neither ILLEGAL nor BUDGET
stops it (Table 3-5). What else may fault is the instruction's own. -/
def Ready (s : State) (e : At) (i : EInstr) (taken : Bool := false) : Prop :=
  s.issues e.k = true ∧ s.easels[e.k].fetchBad e = false ∧ s.easels[e.k].insn = some i ∧
  (s.bank e.k).faultOf i none taken = none

/-- Everything outside Easel `k` is as it was but what records touch, and so are its memories and FIFO and its
shadow bank. -/
def KeptOutside (s t : State) (k : Fin 8) : Prop :=
  OnlyRecords s { t with easels := s.easels } ∧ (∀ j, j ≠ k → t.easels[j] = s.easels[j]) ∧
  t.easels[k].imem = s.easels[k].imem ∧ t.easels[k].scratch = s.easels[k].scratch ∧
  t.easels[k].scrPoison = s.easels[k].scrPoison ∧ t.easels[k].imemPoison = s.easels[k].imemPoison ∧
  t.easels[k].fifo = s.easels[k].fifo ∧ t.easels[k].shadow = s.easels[k].shadow ∧
  t.easels[k].scrKnown = s.easels[k].scrKnown ∧ t.easels[k].shadowKnown = s.easels[k].shadowKnown

/-- The bank's stack and task are as they were, and away from a loop's end the next index follows. -/
def WentOn (b c : Bank) : Prop :=
  c.rets = b.rets ∧ c.task = b.task ∧
  (b.atLoopEnd = false → c.loops = b.loops ∧ c.pc = (b.pc + 1) % 16384)

/-- One general register was written, and nothing else of the bank's registers (g0 is discarded, Table 3-1). -/
def WroteG (b c : Bank) (d : GReg) (w : Word) : Prop :=
  (∀ r, c.rg r = if r = d ∧ r ≠ 0 then w else b.rg r) ∧ c.v = b.v ∧ c.a = b.a ∧ WentOn b c

/-- One vector register was written. -/
def WroteV (b c : Bank) (d : VReg) (w : Fin 8 → Word) : Prop :=
  (∀ i : Fin 8, (c.rv d)[i] = w i) ∧ (∀ r, r ≠ d → c.rv r = b.rv r) ∧ c.g = b.g ∧ c.a = b.a ∧ WentOn b c

/-- One accumulator was written. -/
def WroteA (b c : Bank) (d : AReg) (w : Fin 8 → Word64) : Prop :=
  (∀ i : Fin 8, (c.ra d)[i] = w i) ∧ (∀ r, r ≠ d → c.ra r = b.ra r) ∧ c.g = b.g ∧ c.v = b.v ∧ WentOn b c

/-- Where the Easel is ready for `i`, the command `c` runs it: a register takes a value, and all else is kept. -/
def GivesG (c : Instr) (i : EInstr) (s : State) (e : At) (d : GReg) (w : Word) : Prop :=
  Ready s e i → ∃ t, exec c s = .next t ∧ WroteG (s.bank e.k) (t.bank e.k) d w ∧ KeptOutside s t e.k

def GivesV (c : Instr) (i : EInstr) (s : State) (e : At) (d : VReg) (w : Fin 8 → Word) : Prop :=
  Ready s e i → ∃ t, exec c s = .next t ∧ WroteV (s.bank e.k) (t.bank e.k) d w ∧ KeptOutside s t e.k

def GivesA (c : Instr) (i : EInstr) (s : State) (e : At) (d : AReg) (w : Fin 8 → Word64) : Prop :=
  Ready s e i → ∃ t, exec c s = .next t ∧ WroteA (s.bank e.k) (t.bank e.k) d w ∧ KeptOutside s t e.k

/-- An exact result limited to the signed range of a word (R102). -/
def limit32 (i : Int) : Word :=
  if i < -(2 ^ 31) then 0x80000000#32 else if 2 ^ 31 ≤ i then 0x7FFFFFFF#32 else BitVec.ofInt 32 i

/-! ## An invariant of every step -/

/-- A register bank keeps within its return stack of eight entries (R81) and its loop stack of four (R113). -/
def Bank.fits (b : Bank) : Prop := b.rets.length ≤ 8 ∧ b.loops.length ≤ 4

/-- Every bank of every Easel, shadow banks included, keeps within its stacks, and every scratch is in canonical form. -/
def easelsFit (v : Vector Easel 8) : Prop :=
  ∀ k : Fin 8, v[k].bank.fits ∧ (∀ b, v[k].shadow = some b → b.fits) ∧ Memory.wf v[k].scratch = true

/-- What a command brings into the Easels, the Atelier and the Canvas from outside keeps to the invariant too: a
snapshot of the deterministic plane is all that does (R428). -/
def bringsFit : Instr → Prop
  | .transferMsg (.snapshot _ p) =>
    easelsFit p.easels ∧ Memory.wf p.atelier.mem = true ∧ tblWf cellDefault p.canvas.cells = true
  | _ => True

/-- The Easels keep within their stacks, and the memories and the Canvas in their canonical form, now and by what
waits. -/
def Sound (s : State) : Prop :=
  easelsFit s.easels ∧ Memory.wf s.atelier.mem = true ∧ tblWf cellDefault s.canvas.cells = true ∧
  ∀ c ∈ s.pending, bringsFit c

end Sys2Proof.Machine
end

