-- ==== Sys2Proof/WellFormed.lean ====
section
/-! DEFINITION. Well-formedness: what the operands of an Easel's instruction and of a command must satisfy beyond
their types. -/

namespace Sys2Proof

/-- A post-increment load may not name its own base (R110). -/
def loadWf (t a : GReg) (post : Bool) : Bool := !(post && t == a)

/-- A field lies inside the register: pos + len ≤ 32, with len1 = len − 1 (R103). -/
def fieldWf (pos len1 : Fin 32) : Bool := decide (pos.val + (len1.val + 1) ≤ 32)

/-- FEMIT takes four registers from s, so s is at most 28 (R120). -/
def emitWf (s : GReg) : Bool := decide (s.val ≤ 28)

/-- Instructions that no word restriction makes ILLEGAL (R98, R99, R103, R110, R112, R113, R120). -/
def EInstr.wf : EInstr → Bool
  | .ld t a post _ | .lda t a post _ => loadWf t a post
  | .field _ _ _ pos len1 => fieldWf pos len1
  | .br _ _ _ off | .jmp off => off != 0#14
  | .loop _ bound _ => bound != 0#16
  | .femit _ s _ _ => emitWf s
  | .alu _ _ _ _ | .clz _ _ | .alui _ _ _ _ | .li _ _ | .lui _ _ | .shi _ _ _ _ | .mul _ _ _ _ | .div _ _ _ _
  | .st _ _ _ _ | .vld _ _ _ _ | .vst _ _ _ _ | .sta _ _ _ _ | .vlda _ _ _ _ | .vsta _ _ _ _ | .lane _ _ _ _
  | .vsel _ _ _ _ | .vabs _ _ | .vshi _ _ _ _ | .vbcast _ _ | .vext _ _ _ | .vins _ _ _ | .vmul _ _ _ _
  | .vmac _ _ _ _ | .amov _ _ _ _ | .ahalf _ _ _ | .aclr _ | .ald _ _ _ | .call _ | .endTask | .ret | .brk
  | .lidx _ | .fcprb _ _ | .fcprbv _ _ | .flock _ _ | .funlock _ _ | .fmbs _ _ _ | .fmbr _ _ _ | .ftime _ _
  | .fstamp _ | .fstop _ _ _ | .fsrel _ _ | .fpcnt _ _ | .async _ _ _ _ => true

/-- A register access has 1, 2, 4 or 8 bytes (R7). -/
def lenWf (len : Fin 9) : Bool := len == 1 || len == 2 || len == 4 || len == 8

/-- Canvas words with uncorrectable errors are named once each, in rising order. -/
def rising (l : List (BitVec 21)) : Bool := decide (l.Pairwise fun a b => a.toNat < b.toNat)

/-- A read of the Canvas window lies inside it, with one ECC finding per word (R387). -/
def canvasReadWf (addr n : Nat) (ms : List Ecc) : Bool :=
  decide (0x2000000 ≤ addr) && addr % 4 == 0 && decide (addr + 4 * n ≤ 0x4000000) && ms.length == n

/-- Commands whose operands are in range: the fields of an instruction obey `EInstr.wf`, and what the world
supplies has the size its rule gives. -/
def Instr.wf : Instr → Bool
  | .stopReleaseWrite _ bad => rising bad
  | .ext _ _ _ pos len1 => fieldWf pos len1
  | .exts _ _ _ pos len1 => fieldWf pos len1
  | .ins _ _ _ pos len1 => fieldWf pos len1
  | .ld _ _ t a post _ => loadWf t a post
  | .lda _ _ t a post _ => loadWf t a post
  | .beq _ _ _ off => off != 0#14
  | .bne _ _ _ off => off != 0#14
  | .blt _ _ _ off => off != 0#14
  | .bge _ _ _ off => off != 0#14
  | .bltu _ _ _ off => off != 0#14
  | .bgeu _ _ _ off => off != 0#14
  | .jmp _ off => off != 0#14
  | .loop _ _ bound _ => bound != 0#16
  | .femit _ _ src _ _ => emitWf src
  | .fstop _ _ _ _ bad => rising bad
  | .fsrel _ _ _ bad => rising bad
  | .sweepComplete bad => rising bad
  | .reportHandling bad => rising bad
  | .grant bad1 bad2 _ => rising bad1 && rising bad2
  | .withdraw bad => rising bad
  | .block bad => rising bad
  | .unblock bad => rising bad
  | .robotLost _ bad => rising bad
  | .stationFrameReceived _ _ _ mpdu => decide (mpdu.length ≤ 127)
  | .spectrumEstimate _ _ _ bins => decide (bins.length = 2048)
  | .pcieCanvasRead addr n ms => canvasReadWf addr n ms
  | .stageData _ _ data _ => decide (1 ≤ data.length) && decide (data.length ≤ 4096)
  | .registerWrite _ len _ => lenWf len
  | .rcRegisterRead _ len => decide (1 ≤ len.val)
  | .stopInputFall _ | .fleetStopWrite _ _ | .stopInputDiscrepancy | .discrepancyClear |
  .bootStopSelfRelease | .incarnationStore _ | .incarnationStoreRetry _ | .restartEnd | .epochBoundary |
  .taskTick | .epochDeadline | .admitNReached | .stopNReached | .latenessCleared | .outputPhase _ _ |
  .tfcPolicyWrite _ | .monitorWindowEnd _ _ _ _ | .chainExcluded _ _ | .sensorExcluded _ _ | .readySet |
  .railLower _ | .avsFault _ _ _ | .avsRetry _ _ _ | .contractAtRisk _ | .contractBreach _ |
  .contractRestored _ | .regionSkew _ | .regionSkewClear _ | .skewReset _ | .dailySample | .capRefresh |
  .add _ _ _ _ | .sub _ _ _ _ | .and _ _ _ _ | .or _ _ _ _ | .xor _ _ _ _ | .sll _ _ _ _ | .srl _ _ _ _ |
  .sra _ _ _ _ | .slt _ _ _ _ | .sltu _ _ _ _ | .min _ _ _ _ | .max _ _ _ _ | .adds _ _ _ _ | .subs _ _ _ _ |
  .clz _ _ _ | .addi _ _ _ _ | .andi _ _ _ _ | .ori _ _ _ _ | .xori _ _ _ _ | .slti _ _ _ _ | .sltiu _ _ _ _ |
  .li _ _ _ | .lui _ _ _ | .slli _ _ _ _ | .srli _ _ _ _ | .srai _ _ _ _ | .mul _ _ _ _ | .mulh _ _ _ _ |
  .mulhu _ _ _ _ | .div _ _ _ _ | .divu _ _ _ _ | .rem _ _ _ _ | .remu _ _ _ _ | .st _ _ _ _ _ _ |
  .vld _ _ _ _ _ _ | .vst _ _ _ _ _ _ | .sta _ _ _ _ _ _ | .vlda _ _ _ _ _ _ | .vsta _ _ _ _ _ _ |
  .vadd _ _ _ _ | .vsub _ _ _ _ | .vand _ _ _ _ | .vor _ _ _ _ | .vxor _ _ _ _ | .vadds _ _ _ _ |
  .vsubs _ _ _ _ | .vmin _ _ _ _ | .vmax _ _ _ _ | .vceq _ _ _ _ | .vclt _ _ _ _ | .vcltu _ _ _ _ |
  .vsel _ _ _ _ _ | .vabs _ _ _ | .vslli _ _ _ _ | .vsrli _ _ _ _ | .vsrai _ _ _ _ | .vbcast _ _ _ |
  .vext _ _ _ _ | .vins _ _ _ _ | .vmul _ _ _ _ | .vmulh _ _ _ _ | .vmac _ _ _ _ | .vmsu _ _ _ _ |
  .amov _ _ _ _ | .amovr _ _ _ _ | .amovl _ _ _ | .amovh _ _ _ | .aclr _ _ | .ald _ _ _ _ | .call _ _ |
  .endI _ | .ret _ | .breakI _ | .lidx _ _ | .fcprb _ _ _ _ | .fcprbv _ _ _ _ | .flock _ _ _ _ |
  .funlock _ _ _ | .fmbs _ _ _ _ | .fmbr _ _ _ _ | .ftime _ _ _ | .fstamp _ _ | .fpcnt _ _ _ |
  .fgrant _ _ _ _ | .fstk _ _ _ _ | .floop _ _ _ _ | .fpput _ _ _ _ | .fpget _ _ _ _ | .fabricRequestDrain _ |
  .paletteRequestComplete _ | .continuationResult | .dispatchDecision | .easelScrub _ _ | .atelierScrub _ |
  .easHalt _ _ | .easResume _ _ | .easStep _ _ | .breakpointHit _ | .easMemDataRead _ _ |
  .easMemDataWrite _ _ | .load | .loadComplete _ | .start _ | .stop | .cartoonStopEffect | .swap |
  .cancelSwap | .swapEpoch | .store | .storeComplete _ | .eraseStored _ | .testEnter | .testExit | .autoload |
  .startupEnd | .arrivalDrain _ | .flowReleaseWrite _ | .flowRestart | .traceClear _ | .dspKeyDataWrite _ |
  .dspKeyProgram _ | .dspKeyRevoke _ | .canvasSlotBoundary | .sweepLate | .grantBatch | .hostGrantGo _ _ |
  .grantDelivered | .grantUndelivered | .persistRemainderApplied | .canvasScrub _ | .strokeBatch | .movePos |
  .moveSpeed | .strokeStop | .resume | .corridor | .setProfile | .setRoute | .sync | .guidanceReport |
  .loopEnable | .loopDisable | .loopReset | .glazeClear | .learn | .driveLoopBlock | .radioSlotBoundary _ _ |
  .superframeBoundary | .reportReceived | .joinReceived | .udataReceived | .immAckReceived _ _ _ _ |
  .stationAged _ _ | .provision | .stationClear | .tombstone | .stationScrub _ _ _ _ | .airKeyCtlWrite _ |
  .airKeyDataWrite _ | .planChange | .stopRepetition _ | .echoExit | .ledgerBucketBoundary _ |
  .ledgerSnapshot _ | .ledgerSettingsWrite _ _ | .rfbPathWrite _ _ | .measurementEpoch _ | .timeLocked |
  .holdoverEntry | .holdoverUpdate | .jumpAccepted | .timeStep | .measurementRateChange | .rtcmArpSend |
  .rtcmDescriptorSend | .notchRelease _ _ | .antennaFault _ _ | .biasRetry _ _ | .surveyRestart _ |
  .surveySlow | .coordMismatch | .coordMismatchClear | .fixedCoordWrite _ _ | .svSlotRelease _ |
  .gnssDataSave | .captureGo _ | .captureComplete _ | .capDataRead | .tp0Edge _ | .automaticCommit |
  .tmbRead _ _ | .stampEdge _ | .timeSourceChange | .tmbSetWrite _ | .tmbFreeRateWrite _ | .rtcUpdate |
  .ethLink _ _ _ _ | .ethEgressDrop _ _ | .ethFrameReceived _ _ _ | .ethFrameSend _ _ | .arpRequest _ _ _ _ |
  .ptpSyncSend _ | .ptpAnnounceSend _ | .ptpDelayReqSend _ | .ptpSyncReceived _ _ | .ptpFollowUpReceived _ _ |
  .ptpDelayReqReceived _ _ | .ptpDelayRespReceived _ _ _ _ _ | .ptpAnnounceReceived _ _ _ |
  .timeMsg _ _ _ _ _ _ | .hostPutGo _ | .hostPutDone _ | .hostGetGo _ | .hostGetDone _ |
  .paletteFlushWrite _ | .paletteFlush _ | .freeListRebuilt | .partialPacketDiscard _ | .pcieReset _ |
  .pcieLinkReturn _ _ _ | .evqEnable _ _ | .evqRecordWrite _ _ | .evqModerationTimer _ | .evqTailWrite _ _ |
  .dpTimeRead | .dpProbeCountRead | .dpCanvasProbe _ _ | .dpLockRead _ _ | .dpLockWrite _ | .dpMbxTake _ |
  .dpMbxSend _ _ | .dpMbxStatusRead _ | .dpWrite _ _ | .dpEnWrite _ | .hostLockRead _ _ | .hostLockWrite _ |
  .lockFreeWrite _ | .hostMbxTx _ _ | .hostMbxRx _ | .mailboxTimeout _ _ | .mbxHostUpWrite _ | .twinLinkUp |
  .twinLinkDown | .twinLaneLost | .heartbeatPresent | .heartbeatLost | .logMsg _ _ | .logCloseMsg _ |
  .logAckMsg _ | .logAckTimeout | .logCloseTimeout | .digestSend | .digestMsg _ _ | .digestTimeout |
  .ledgerMsg _ _ | .stateMsg _ _ _ _ | .resignMsg | .forwardMsg _ | .transferMsg _ | .healthMsg _ |
  .resetMsg | .stopRelay _ _ _ | .releaseRelay _ _ | .twinSnapshot | .twinCaughtUp | .transferTimeout _ |
  .transferRetry | .faultedTimeout | .listenExpiry _ | .switch | .switchover | .resync | .isolate |
  .standbyHealthReport _ | .pwmPeriodCentre _ | .standstillEnter _ | .stepEdge _ _ | .followIdle _ |
  .limitInputChange _ _ _ | .chatterEnd _ _ | .homingPhaseEnd _ | .driveHome _ | .driveClear _ | .setMode _ |
  .stallDetectionStart | .sessionOpen _ _ | .sessionProve | .sessionClose | .sessionIdleTimeout _ |
  .challengeExpiry _ | .sessionLockoutEnd _ | .keyDataWrite _ | .keyCountRestart | .keyProgram _ |
  .bucketRefill _ | .pntRlWrite _ | .rlSettingsApply | .pentimentoSlotWrite _ | .pentimentoClear _ |
  .pentimentoClearDone | .svcRead | .hello _ | .sessOpen _ _ _ | .sessProve _ _ | .sessClose _ |
  .stageBegin _ _ _ | .stageEnd _ _ | .stageAbort _ | .stagingTimeout | .confirm _ _ | .reboot _ |
  .pfoConfirm _ | .share | .pfoReboot | .pfoKeyDataWrite _ | .pfoKeyProgram _ | .pfoKeyRevoke _ |
  .portfolioExamination _ | .attemptsClear | .pwrReqRun | .pwrReqQuiet | .pwrReqSleep | .pwrReqDeep |
  .pwrReqInvalid _ | .pwrSoft | .quietEntry | .quietExit | .sleepEntry | .sleepWake | .deepEntry |
  .deepWake _ | .supplyDipStart | .supplyDipEnd | .cmp1Trip | .tamper | .resetNLow | .watchdogExpiry |
  .ci1PowerRegained | .boot _ | .referenceAccepted | .referenceLost | .pwrCmpCfgWrite _ | .configSave |
  .configSaveDone _ | .flashOperationDone _ | .illegalInstruction _ | .stopInputRise _ | .tamperCleared |
  .svSlotAssigned _ | .watchdogService | .heartbeatService | .heartbeatOutStopped | .supervisorMailboxAnswer |
  .svcRequestInvalid _ _ _ | .drivePacketInvalid _ => true

end Sys2Proof
end

