-- ==== Sys2Proof/Certificates/Slice0/Obligations.lean ====
section
/-! DEFINITION. The statements about the model. -/

open Sys2Proof Sys2Proof.Machine

/-- In every power state but DEEP and a reset, with the reference accepted, in a unit whose partner
sequences no stops, the fall of a stop input that was high and a write of the stop word with bit
0 set, over PCIe or at an answering direct port, each add one FLEET stop with the next sequence
number, 0 left out, and their own source; with a FLEET stop active they add none. Where the
partner sequences stops each is relayed to it, or with the link down only recorded. A write
without bit 0 changes nothing. In DEEP, in a reset or without the reference a fall raises none;
but for the reset it is latched, as it is while DEEP is entered. A rise shows the level only.
Inputs that differ for longer than DISC_TIME set DISCREPANCY with its event, and it clears once
both have been high for 100 ms. (R20, R21, R22, R24, R25, R26, R531, Table 1-4) -/
def Obligations.StopSourcesRaiseFleetStops : Prop :=
  (∀ (b : Bool) (s : State), s.fleet.input b = true →
    (s.pwr.state ≠ .deep → s.pwr.state ≠ .off → s.tmb.running = true →
      (s.follows = false → ∃ t, exec (.stopInputFall b) s = .next t ∧ t.fleet.input b = false ∧ RaisedFleet s t 0) ∧
      (s.follows = true → s.pwr.state ≠ .sleep → ∃ t, exec (.stopInputFall b) s = .next t ∧ t.fleet.input b = false ∧
        RelayedFleet s t 0)) ∧
    ((s.pwr.state = .deep ∨ s.pwr.state = .off ∨ s.tmb.running = false) →
      ∃ t, exec (.stopInputFall b) s = .next t ∧ t.fleet.input b = false ∧ t.fleet.stops = s.fleet.stops ∧
        t.pwr.cmp2 = (s.pwr.cmp2 || s.pwr.state == .deep || s.pwr.toDeep || (s.pwr.booted && !s.tmb.running)))) ∧
  (∀ (b : Bool) (s : State), s.fleet.input b = false → exec (.stopInputFall b) s = .next s) ∧
  (∀ (dp : Bool) (w : Word) (s : State), flagOf w 0 = true → (dp = true → s.dpUp = true) →
    (s.follows = false → ∃ t, exec (.fleetStopWrite dp w) s = .next t ∧ RaisedFleet s t (if dp then 2 else 1)) ∧
    (s.follows = true → s.pwr.state ≠ .sleep → ∃ t, exec (.fleetStopWrite dp w) s = .next t ∧
      RelayedFleet s t (if dp then 2 else 1))) ∧
  (∀ (dp : Bool) (w : Word) (s : State), flagOf w 0 = false ∨ (dp = true ∧ s.dpUp = false) →
    exec (.fleetStopWrite dp w) s = .next s) ∧
  (∀ (b : Bool) (s : State), s.fleet.input b = false → ∃ t, exec (.stopInputRise b) s = .next t ∧
    t.fleet.input b = true ∧ t.fleet.input (!b) = s.fleet.input (!b) ∧ t.fleet.stops = s.fleet.stops ∧
    { t with fleet := s.fleet } = s) ∧
  (∀ (b : Bool) (s : State), s.fleet.input b = true → exec (.stopInputRise b) s = .next s) ∧
  (∀ (t0 : Nat) (s : State), s.fleet.differSince = some t0 → s.fleet.discrepancy = false →
    (t0 + s.fleet.discTime * 10 * ms < s.now →
      ∃ t, exec .stopInputDiscrepancy s = .next t ∧ t.fleet.discrepancy = true ∧ t.fleet.stops = s.fleet.stops ∧
        Logged t evStopInputDiscrepancy (bit s.fleet.inputA) ((s.now - t0) / ms) 0 0) ∧
    (s.now ≤ t0 + s.fleet.discTime * 10 * ms → exec .stopInputDiscrepancy s = .next s)) ∧
  (∀ (t0 : Nat) (s : State), s.fleet.discrepancy = true → s.fleet.highSince = some t0 →
    exec .discrepancyClear s = .next (if t0 + 100 * ms ≤ s.now then
      s.modFleet fun f => { f with discrepancy := false } else s))

/-- A release write under a session that names the sequence of an active stop, of any kind, releases
it where Table 1-6 and the codes of Table 1-9 allow it: exactly the stops of that sequence go
and REL_RESULT is 0; where one condition fails the stops stand, REL_RESULT is the lowest code
that fails, and STOP_RELEASE_REFUSED is recorded with the role, 5 without a session. Without a
session REL_RESULT is 1, and for a sequence of no active stop 2. Without GO nothing happens. The
boot stop, the only one active, releases itself without BOOT_HOLD, with both inputs high for 100
ms, in a unit whose cold-started Cartoon runs. A write of the incarnation that succeeds stores
it and records INCARNATION_NEW; one that fails records INCARNATION_STORE_FAIL and is tried again
after one second. RESTART ends after 16 superframes. (R15, R17, R28, R29, R32, R35, Table 1-6, Table 1-9) -/
def Obligations.StopReleasesAndIncarnation : Prop :=
  (∀ (w : Word) (bad : List (BitVec 21)) (s : State), flagOf w 0 = true →
    (∀ x, s.fleet.stops.find? (·.seq == fieldOf w 16 16) = some x → 1 ≤ s.pcieRole →
      (MayRelease s x → ∃ t, exec (.stopReleaseWrite w bad) s = .next t ∧
        t.fleet.stops = (s.fleet.stops.filter fun y => y.seq != fieldOf w 16 16) ∧ t.fleet.relResult = 0 ∧
        t.fleet.incarnation = s.fleet.incarnation) ∧
      (¬ MayRelease s x → ∃ t, exec (.stopReleaseWrite w bad) s = .next t ∧ t.fleet.stops = s.fleet.stops ∧
        3 ≤ t.fleet.relResult ∧ Logged t evStopReleaseRefused (fieldOf w 16 16) t.fleet.relResult s.pcieRole 0) ∧
      (x.kind = .fleet → s.inputsHigh = false → ∃ t, exec (.stopReleaseWrite w bad) s = .next t ∧
        t.fleet.relResult = 3) ∧
      (x.kind ≠ .fleet → s.twin.state ≠ .solo → s.twin.state ≠ .active →
        ∃ t, exec (.stopReleaseWrite w bad) s = .next t ∧ t.fleet.relResult = 6)) ∧
    (s.pcieRole = 0 → ∃ t, exec (.stopReleaseWrite w bad) s = .next t ∧ t.fleet.stops = s.fleet.stops ∧
      t.fleet.relResult = 1 ∧ Logged t evStopReleaseRefused (fieldOf w 16 16) 1 5 0) ∧
    ((∀ x ∈ s.fleet.stops, x.seq ≠ fieldOf w 16 16) → 1 ≤ s.pcieRole →
      ∃ t, exec (.stopReleaseWrite w bad) s = .next t ∧ t.fleet.stops = s.fleet.stops ∧ t.fleet.relResult = 2 ∧
        Logged t evStopReleaseRefused (fieldOf w 16 16) 2 s.pcieRole 0)) ∧
  (∀ (w : Word) (bad : List (BitVec 21)) (s : State), flagOf w 0 = false →
    exec (.stopReleaseWrite w bad) s = .next s) ∧
  (∀ (x : Stop) (s : State), s.fleet.stops = [x] → x.seq = 0 → s.fleet.bootHold = false → s.inputsHigh = true →
    s.dsp.coldStarted = true → (s.dsp.mode = .running ∨ s.dsp.mode = .swapPending) → s.standby = false →
    ∃ t, exec .bootStopSelfRelease s = .next t ∧ t.fleet.stops = [] ∧ t.fleet.relResult = 0 ∧
      (x = bootStop → Logged t evStopReleased 0 0 4 0)) ∧
  (∀ s : State, (s.fleet.bootHold = true ∨ s.inputsHigh = false ∨ s.dsp.coldStarted = false ∨ s.dsp.mode = .test ∨
    1 < s.fleet.stops.length) → exec .bootStopSelfRelease s = .next s) ∧
  (∀ (status : BitVec 4) (s : State), s.pwr.booted = true → s.fleet.incStored = false → s.fleet.incFailAt = none →
    ∃ t, exec (.incarnationStore status) s = .next t ∧ t.fleet.incarnation = s.fleet.incarnation ∧
      (status = 0 → t.fleet.incStored = true ∧ t.fleet.storedIncarnation = s.fleet.incarnation ∧
        Logged t evIncarnationNew s.fleet.incarnation s.fleet.storedIncarnation s.fleet.incKind 0) ∧
      (status ≠ 0 → t.fleet.incStored = false ∧ t.fleet.incFailAt = some s.now ∧
        t.fleet.storedIncarnation = s.fleet.storedIncarnation ∧
        Logged t evIncarnationStoreFail s.fleet.incarnation status.toNat 0 0)) ∧
  (∀ (status : BitVec 4) (t0 : Nat) (s : State), s.fleet.incStored = false → s.fleet.incFailAt = some t0 →
    (t0 + second ≤ s.now → ∃ t, exec (.incarnationStoreRetry status) s = .next t ∧
      t.fleet.incarnation = s.fleet.incarnation ∧
      (status = 0 → t.fleet.incStored = true ∧ t.fleet.storedIncarnation = s.fleet.incarnation ∧
        Logged t evIncarnationNew s.fleet.incarnation s.fleet.storedIncarnation s.fleet.incKind 0) ∧
      (status ≠ 0 → t.fleet.incStored = false ∧ t.fleet.incFailAt = some s.now ∧
        Logged t evIncarnationStoreFail s.fleet.incarnation status.toNat 0 0)) ∧
    (s.now < t0 + second → exec (.incarnationStoreRetry status) s = .next s)) ∧
  (∀ s : State, s.fleet.incStored = true → ∀ status, exec (.incarnationStore status) s = .next s ∧
    exec (.incarnationStoreRetry status) s = .next s) ∧
  (∀ s : State, s.fleet.restart = true → 17 ≤ s.fleet.superframes →
    ∃ t, exec .restartEnd s = .next t ∧ t.fleet.restart = false ∧ Logged t evRestartEnd s.fleet.incarnation 0 0 0) ∧
  (∀ s : State, s.fleet.restart = false ∨ s.fleet.superframes ≤ 16 → exec .restartEnd s = .next s)

/-- Awake, a TFC_POLICY write under an INSTALLER or MAKER session with REOPEN_N 10 to 1,000, STOP_N
4 to 64, ADMIT_N 1 to 8 and STOP_N greater than ADMIT_N sets the three fields; any other such
write leaves them and sets CFG_ERR; a write without the session changes nothing. (R48) -/
def Obligations.LatePolicyWrite : Prop :=
  ∀ (w : Word) (s : State), s.awake = true →
    (2 ≤ s.pcieRole → ∃ t, exec (.tfcPolicyWrite w) s = .next t ∧
      (if 10 ≤ fieldOf w 16 16 ∧ fieldOf w 16 16 ≤ 1000 ∧ 4 ≤ fieldOf w 8 7 ∧ fieldOf w 8 7 ≤ 64 ∧
          1 ≤ fieldOf w 0 4 ∧ fieldOf w 0 4 ≤ 8 ∧ fieldOf w 0 4 < fieldOf w 8 7 then
        t.tfc = { s.tfc with reopenN := fieldOf w 16 16, stopN := fieldOf w 8 7, admitN := fieldOf w 0 4 }
       else t.tfc = { s.tfc with cfgErr := true }) ∧
      { t with tfc := s.tfc, sec := s.sec } = s) ∧
    (s.pcieRole < 2 → exec (.tfcPolicyWrite w) s = .next s)

/-- Awake, an epoch that has begun is judged once at its deadline: outside a swap epoch one with a
task, an output or a trim of its own missing counts as late in the consecutive and total counts,
and any other returns the consecutive count to 0 and counts as on time. Outside test mode
ADMIT_N late epochs set the lateness cause and close admission, and STOP_N raise one FLEET stop
of source 5, or relay it where the partner sequences stops; REOPEN_N on time clear the cause,
and admission follows the causes left. (R43, R44, R46, R47, R49, R50, R424, Table 2-4, Table 2-5) -/
def Obligations.LateEpochsAndTheirAnswers : Prop :=
  (∀ s : State, s.awake = true → s.epoch.begun = true → s.epoch.judged = false → s.deadline ≤ s.time →
    ∃ t, exec .epochDeadline s = .next t ∧ t.epoch.judged = true ∧ t.epoch.n = s.epoch.n ∧
      (if s.dsp.inSwapEpoch = false ∧
          (s.workOf s.epoch.n = true ∨ s.epoch.outLate = true ∨ s.trimsOwed s.epoch.nominal = true) then
        t.tfc.consec = satAdd 7 s.tfc.consec 1 ∧ t.tfc.total = satAdd 24 s.tfc.total 1 ∧ t.tfc.onTime = 0 ∧
        t.epoch.late = true
       else t.tfc.consec = 0 ∧ t.tfc.onTime = s.tfc.onTime + 1 ∧ t.tfc.total = s.tfc.total ∧ t.epoch.late = false)) ∧
  (∀ s : State, (s.awake = false ∨ s.epoch.begun = false ∨ s.epoch.judged = true ∨ s.time < s.deadline) →
    exec .epochDeadline s = .next s) ∧
  (∀ s : State, s.dsp.mode ≠ .test → s.tfc.lateCause = false → s.tfc.admitN ≤ s.tfc.consec →
    ∃ t, exec .admitNReached s = .next t ∧ t.tfc.lateCause = true ∧ t.tfc.admitClosed = true ∧
      (s.tfc.admitClosed = false → s.standby = false → t.canvas.admitShut = true)) ∧
  (∀ s : State, s.dsp.mode ≠ .test → s.tfc.stopRaised = false → s.tfc.stopN ≤ s.tfc.consec →
    (s.follows = false → ∃ t, exec .stopNReached s = .next t ∧ t.tfc.stopRaised = true ∧ RaisedFleet s t 5) ∧
    (s.follows = true → ∃ t, exec .stopNReached s = .next t ∧ t.tfc.stopRaised = true ∧ RelayedFleet s t 5)) ∧
  (∀ s : State, (s.dsp.mode = .test ∨ s.tfc.lateCause = true ∨ s.tfc.consec < s.tfc.admitN) →
    exec .admitNReached s = .next s) ∧
  (∀ s : State, (s.dsp.mode = .test ∨ s.tfc.stopRaised = true ∨ s.tfc.consec < s.tfc.stopN) →
    exec .stopNReached s = .next s) ∧
  (∀ s : State, s.tfc.lateCause = true → s.tfc.reopenN ≤ s.tfc.onTime →
    ∃ t, exec .latenessCleared s = .next t ∧ t.tfc.lateCause = false ∧
      t.tfc.admitClosed = (t.tfc.causes != 0 || s.pwr.hold)) ∧
  (∀ s : State, (s.tfc.lateCause = false ∨ s.tfc.onTime < s.tfc.reopenN) → exec .latenessCleared s = .next s)

/-- Awake, a window that is disturbed is discarded and clears the disturbance; a kept one shows the
median rate of its chains and counts low and breach runs. A chain off the median in 8 windows
and a sensor off for 1 s are excluded with their event. READY is set once every region has been
at target for 10 windows. A rail above target for 1 s is lowered by 5 mV at most once per
second, not below 600 mV, nor more than 140 mV from a neighbour, nor while SKEW drives it. A
write not acknowledged, or a readback off for 1 ms, sets the AVS fault and closes admission; the
write is repeated every 1 ms, and an acknowledged retry whose readback agrees ends the fault. (R51, R52, R53, R58, R59, R62, Table 2-6) -/
def Obligations.MonitorAndRails : Prop :=
  (∀ (n : Fin 4) (rates : Vector (BitVec 16) 16) (temps : Vector (BitVec 8) 4) (read : BitVec 12) (s : State),
    s.awake = true → ∃ t, exec (.monitorWindowEnd n rates temps read) s = .next t ∧
      t.tfc.regions[n].railRead = read.toNat ∧
      (s.tfc.regions[n].disturbed = true → t.tfc.regions[n].disturbed = false ∧
        t.tfc.regions[n].rate = s.tfc.regions[n].rate ∧ t.tfc.regions[n].lowRun = s.tfc.regions[n].lowRun) ∧
      (s.tfc.regions[n].disturbed = false → t.tfc.regions[n].rate =
          medianN (s.tfc.regions[n].inUse (rates.map (·.toNat))) ∧
        t.tfc.regions[n].lowRun = (if s.target n ≤ t.tfc.regions[n].rate then 0
          else s.tfc.regions[n].lowRun + 1))) ∧
  (∀ (n : Fin 4) (i : Fin 16) (s : State), s.awake = true → s.tfc.regions[n].chains[i].out = false →
    (8 ≤ s.tfc.regions[n].chains[i].bad →
      ∃ t, exec (.chainExcluded n i) s = .next t ∧ t.tfc.regions[n].chains[i].out = true ∧
        Logged t evMonitorSensorFault (n + 1) 0 i s.tfc.regions[n].chains[i].dev) ∧
    (s.tfc.regions[n].chains[i].bad < 8 → exec (.chainExcluded n i) s = .next s)) ∧
  (∀ (n i : Fin 4) (t0 : Nat) (s : State), s.awake = true → s.tfc.regions[n].sensors[i].out = false →
    s.tfc.regions[n].sensors[i].since = some t0 →
    (t0 + second ≤ s.now → ∃ t, exec (.sensorExcluded n i) s = .next t ∧ t.tfc.regions[n].sensors[i].out = true ∧
      Logged t evMonitorSensorFault (n + 1) 1 i (s.tfc.regions[n].sensorDev i)) ∧
    (s.now < t0 + second → exec (.sensorExcluded n i) s = .next s)) ∧
  (∀ s : State, s.awake = true → exec .readySet s = .next (if ∀ n : Fin 4, 10 ≤ s.tfc.regions[n].goodRun then
    s.modTfc fun t => { t with ready := true } else s)) ∧
  (∀ (n : Fin 4) (s : State) (t0 : Nat) (goal : Vector Nat 4), s.awake = true →
    goal = s.rails.set n (s.tfc.regions[n].rail - 5) → 605 ≤ s.tfc.regions[n].rail →
    (∀ t1, s.tfc.regions[n].lastLower = some t1 → t1 + second ≤ s.now) →
    s.tfc.regions[n].highSince = some t0 → t0 + second ≤ s.now →
    (∀ p : Fin 4, goal[(pairOf p).1] ≤ goal[(pairOf p).2] + 140 ∧ goal[(pairOf p).2] ≤ goal[(pairOf p).1] + 140) →
    s.inSkew n = false →
    ∃ t, exec (.railLower n) s = .next t ∧ t.tfc.regions[n].railSet = s.tfc.regions[n].rail - 5 ∧
      t.tfc.regions[n].lastLower = some s.now ∧ (s.tfc.regions[n].railSet ≠ s.tfc.regions[n].rail - 5 →
        t.ev.out = .avs (n + 1) (s.tfc.regions[n].rail - 5) :: s.ev.out) ∧
      (∀ m : Fin 4, m ≠ n → t.tfc.regions[m] = s.tfc.regions[m])) ∧
  (∀ (n : Fin 4) (s : State), (s.tfc.regions[n].rail < 605 ∨ s.tfc.regions[n].highSince = none ∨
    s.inSkew n = true) → exec (.railLower n) s = .next s) ∧
  (∀ (n : Fin 4) (nack : Bool) (status : BitVec 16) (s : State), s.awake = true → s.tfc.regions[n].avsFault = false →
    ((nack = true ∨ ∃ t0, s.tfc.regions[n].avsSince = some t0 ∧ t0 + ms ≤ s.now) →
      ∃ t, exec (.avsFault n nack status) s = .next t ∧ t.tfc.regions[n].avsFault = true ∧
        t.tfc.regions[n].avsRetryAt = s.now ∧ t.tfc.admitClosed = true) ∧
    (nack = false → (∀ t0, s.tfc.regions[n].avsSince = some t0 → s.now < t0 + ms) →
      exec (.avsFault n nack status) s = .next s)) ∧
  (∀ (n : Fin 4) (nack : Bool) (read : BitVec 12) (s : State), s.awake = true → s.tfc.regions[n].avsFault = true →
    (s.tfc.regions[n].avsRetryAt + ms ≤ s.now →
      ∃ t, exec (.avsRetry n nack read) s = .next t ∧ t.tfc.regions[n].avsRetryAt = s.now ∧
        t.tfc.regions[n].railRead = read.toNat ∧ t.tfc.regions[n].railSet = s.tfc.regions[n].railSet ∧
        (nack = true → t.tfc.regions[n].avsFault = true) ∧
        (nack = false → read.toNat ≤ s.tfc.regions[n].railSet + 20 → s.tfc.regions[n].railSet ≤ read.toNat + 20 →
          t.tfc.regions[n].avsFault = false)) ∧
    (s.now < s.tfc.regions[n].avsRetryAt + ms → exec (.avsRetry n nack read) s = .next s))

/-- Awake, AT_RISK sets at the top rail after 10 windows below target, BREACH after two windows
below the contract rate and closes admission, and both clear after one second at target. SKEW
sets after 1 ms beyond the limits and closes admission, and clears after one second within them;
100 ms beyond them or 45 °C resets the device with kind WDT and cause 5. Every 24 h of operation
the trend takes a sample and a margin plan is made, and CAP is refreshed every second. (R55, R56, R57, R60, R61, R63, R64) -/
def Obligations.ContractSkewAndPlans : Prop :=
  (∀ (n : Fin 4) (s : State), s.awake = true →
    (s.tfc.regions[n].atRisk = false → 900 ≤ s.tfc.regions[n].rail → 10 ≤ s.tfc.regions[n].lowRun →
      ∃ t, exec (.contractAtRisk n) s = .next t ∧ t.tfc.regions[n].atRisk = true ∧ Logged t evContractAtRisk (n + 1)
        s.tfc.regions[n].rate s.tfc.regions[n].railRead (par (s.tfc.regions[n].temp s.tfc.tdesign))) ∧
    (s.tfc.regions[n].atRisk = true ∨ s.tfc.regions[n].rail < 900 ∨ s.tfc.regions[n].lowRun < 10 →
      exec (.contractAtRisk n) s = .next s) ∧
    (s.tfc.regions[n].breach = false → 2 ≤ s.tfc.regions[n].breachRun →
      ∃ t, exec (.contractBreach n) s = .next t ∧ t.tfc.regions[n].breach = true ∧ t.tfc.admitClosed = true) ∧
    (s.tfc.regions[n].breach = true ∨ s.tfc.regions[n].breachRun < 2 → exec (.contractBreach n) s = .next s) ∧
    (∀ t0, s.tfc.regions[n].goodSince = some t0 →
      (t0 + second ≤ s.now → ∃ t, exec (.contractRestored n) s = .next t ∧ t.tfc.regions[n].atRisk = false ∧
        t.tfc.regions[n].breach = false ∧ (s.tfc.regions[n].breach = true →
          t.tfc.admitClosed = (t.tfc.causes != 0 || s.pwr.hold))) ∧
      (s.now < t0 + second → exec (.contractRestored n) s = .next s))) ∧
  (∀ (p : Fin 4) (t0 : Nat) (s : State), s.awake = true →
    (s.tfc.pairs[p].badSince = some t0 → s.tfc.pairs[p].skew = false →
      (t0 + ms ≤ s.now → ∃ t, exec (.regionSkew p) s = .next t ∧ t.tfc.pairs[p].skew = true ∧
        t.tfc.admitClosed = true) ∧
      (s.now < t0 + ms → exec (.regionSkew p) s = .next s)) ∧
    (s.tfc.pairs[p].okSince = some t0 → s.tfc.pairs[p].skew = true →
      (t0 + second ≤ s.now → ∃ t, exec (.regionSkewClear p) s = .next t ∧ t.tfc.pairs[p].skew = false) ∧
      (s.now < t0 + second → exec (.regionSkewClear p) s = .next s)) ∧
    ((45 < s.tempDiff p ∨ (s.tfc.pairs[p].badSince = some t0 ∧ t0 + 100 * ms ≤ s.now)) →
      ∃ t, exec (.skewReset p) s = .next t ∧ t.pwr.state = .off ∧ t.pwr.last.kind = 2 ∧ t.pwr.last.cause = 5)) ∧
  (∀ s : State, s.awake = true →
    (s.tfc.dayAt + 86400 * second ≤ s.now →
      ∃ t, exec .dailySample s = .next t ∧ t.tfc.hours = s.tfc.hours + 24 ∧ t.tfc.dayAt = s.now ∧
        (∀ n : Fin 4,
          t.tfc.regions[n].railDesign = railDesignOf n s.tfc.tdesign (s.target n) s.tfc.regions[n].ppm ∧
          t.tfc.regions[n].sumXX = s.tfc.regions[n].sumXX + rootHours (s.tfc.hours + 24) ^ 2)) ∧
    (s.now < s.tfc.dayAt + 86400 * second → exec .dailySample s = .next s) ∧
    (s.tfc.capAt + second ≤ s.now →
      ∃ t, exec .capRefresh s = .next t ∧ t.tfc.capAt = s.now ∧
        (∀ n : Fin 4, t.tfc.regions[n].cap = s.tfc.regions[n].capOf n s.tfc.tdesign s.tfc.guard)) ∧
    (s.now < s.tfc.capAt + second → exec .capRefresh s = .next s))

/-- Where its Easel issues it, each of ADD, SUB, AND, OR, XOR, SLL, SRL, SRA, SLT, SLTU, MIN, MAX,
ADDS, SUBS and CLZ answers a next state in which d holds the value of Table 4-3 (a write to g0
is discarded), every other register, the memories, the other Easels and all other state but what
event records touch is as before, and away from a loop's end the next index follows. (R101, R102, Table 4-3) -/
def Obligations.ScalarRegisterInstructions : Prop :=
  (∀ (e : At) (d a b : GReg) (s : State) (x y : Word), x = (s.bank e.k).rg a → y = (s.bank e.k).rg b →
    GivesG (.add e d a b) (.alu .add d a b) s e d (x + y) ∧
    GivesG (.sub e d a b) (.alu .sub d a b) s e d (x - y) ∧
    GivesG (.and e d a b) (.alu .and d a b) s e d (x &&& y) ∧
    GivesG (.or e d a b) (.alu .or d a b) s e d (x ||| y) ∧
    GivesG (.xor e d a b) (.alu .xor d a b) s e d (x ^^^ y) ∧
    GivesG (.sll e d a b) (.alu .sll d a b) s e d (x <<< (y.toNat % 32)) ∧
    GivesG (.srl e d a b) (.alu .srl d a b) s e d (x >>> (y.toNat % 32)) ∧
    GivesG (.sra e d a b) (.alu .sra d a b) s e d (x.sshiftRight (y.toNat % 32)) ∧
    GivesG (.slt e d a b) (.alu .slt d a b) s e d (if x.toInt < y.toInt then 1 else 0) ∧
    GivesG (.sltu e d a b) (.alu .sltu d a b) s e d (if x.toNat < y.toNat then 1 else 0) ∧
    GivesG (.min e d a b) (.alu .min d a b) s e d (BitVec.ofInt 32 (min x.toInt y.toInt)) ∧
    GivesG (.max e d a b) (.alu .max d a b) s e d (BitVec.ofInt 32 (max x.toInt y.toInt)) ∧
    GivesG (.adds e d a b) (.alu .adds d a b) s e d (limit32 (x.toInt + y.toInt)) ∧
    GivesG (.subs e d a b) (.alu .subs d a b) s e d (limit32 (x.toInt - y.toInt))) ∧
  (∀ (e : At) (d a : GReg) (s : State) (n : Nat), n ≤ 32 → ((s.bank e.k).rg a).toNat < 2 ^ (32 - n) →
    (n < 32 → 2 ^ (31 - n) ≤ ((s.bank e.k).rg a).toNat) →
    GivesG (.clz e d a) (.clz d a) s e d (BitVec.ofNat 32 n))

/-- Where its Easel issues it, each of ADDI, ANDI, ORI, XORI, SLTI, SLTIU, LI, LUI, SLLI, SRLI,
SRAI, EXT, EXTS and INS answers a next state in which d holds the value of Table 4-4, the three
field operations given bit by bit, and everything else is kept as for the register-register
instructions. (R101, R103, Table 4-4) -/
def Obligations.ImmediateInstructions : Prop :=
  (∀ (e : At) (d a : GReg) (imm : BitVec 16) (s : State) (x : Word), x = (s.bank e.k).rg a →
    GivesG (.addi e d a imm) (.alui .addi d a imm) s e d (x + imm.signExtend 32) ∧
    GivesG (.andi e d a imm) (.alui .andi d a imm) s e d (x &&& imm.zeroExtend 32) ∧
    GivesG (.ori e d a imm) (.alui .ori d a imm) s e d (x ||| imm.zeroExtend 32) ∧
    GivesG (.xori e d a imm) (.alui .xori d a imm) s e d (x ^^^ imm.zeroExtend 32) ∧
    GivesG (.slti e d a imm) (.alui .slti d a imm) s e d (if x.toInt < imm.toInt then 1 else 0) ∧
    GivesG (.sltiu e d a imm) (.alui .sltiu d a imm) s e d
      (if x.toNat < (imm.signExtend 32).toNat then 1 else 0) ∧
    GivesG (.li e d imm) (.li d imm) s e d (imm.signExtend 32) ∧
    GivesG (.lui e d imm) (.lui d imm) s e d (imm ++ 0#16)) ∧
  (∀ (e : At) (d a : GReg) (n : Fin 32) (s : State) (x : Word), x = (s.bank e.k).rg a →
    GivesG (.slli e d a n) (.shi .sll d a n) s e d (x <<< n.val) ∧
    GivesG (.srli e d a n) (.shi .srl d a n) s e d (x >>> n.val) ∧
    GivesG (.srai e d a n) (.shi .sra d a n) s e d (x.sshiftRight n.val)) ∧
  (∀ (e : At) (d a : GReg) (pos len1 : Fin 32) (s : State) (x y w : Word), x = (s.bank e.k).rg a →
    y = (s.bank e.k).rg d →
    ((∀ i < 32, w.getLsbD i = (decide (i ≤ len1.val) && x.getLsbD (pos + i))) →
      GivesG (.ext e d a pos len1) (.field .ext d a pos len1) s e d w) ∧
    ((∀ i < 32, w.getLsbD i = x.getLsbD (pos + min i len1)) →
      GivesG (.exts e d a pos len1) (.field .exts d a pos len1) s e d w) ∧
    ((∀ i < 32, w.getLsbD i =
        if pos.val ≤ i ∧ i ≤ pos + len1 then x.getLsbD (i - pos) else y.getLsbD i) →
      GivesG (.ins e d a pos len1) (.field .ins d a pos len1) s e d w))

/-- Where its Easel issues it, MUL gives the low and MULH and MULHU the high half of the product,
signed and unsigned; DIV and REM truncate toward zero, DIVU and REMU are unsigned; division by
zero gives 0xFFFF_FFFF from DIV and DIVU and a from REM and REMU, and 0x8000_0000 by 0xFFFF_FFFF
gives 0x8000_0000 from DIV and 0 from REM. Everything else is kept. (R104, Table 4-5) -/
def Obligations.MultiplyAndDivide : Prop :=
  ∀ (e : At) (d a b : GReg) (s : State) (x y : Word), x = (s.bank e.k).rg a → y = (s.bank e.k).rg b →
    GivesG (.mul e d a b) (.mul .mul d a b) s e d (BitVec.ofNat 32 (x.toNat * y.toNat)) ∧
    GivesG (.mulh e d a b) (.mul .mulh d a b) s e d (BitVec.ofInt 32 (x.toInt * y.toInt / 2 ^ 32)) ∧
    GivesG (.mulhu e d a b) (.mul .mulhu d a b) s e d (BitVec.ofNat 32 (x.toNat * y.toNat / 2 ^ 32)) ∧
    GivesG (.div e d a b) (.div .div d a b) s e d
      (if y = 0 then 0xFFFFFFFF#32 else if x = 0x80000000#32 ∧ y = 0xFFFFFFFF#32 then 0x80000000#32
       else BitVec.ofInt 32 (x.toInt.tdiv y.toInt)) ∧
    GivesG (.divu e d a b) (.div .divu d a b) s e d
      (if y = 0 then 0xFFFFFFFF#32 else BitVec.ofNat 32 (x.toNat / y.toNat)) ∧
    GivesG (.rem e d a b) (.div .rem d a b) s e d
      (if y = 0 then x else if x = 0x80000000#32 ∧ y = 0xFFFFFFFF#32 then 0
       else BitVec.ofInt 32 (x.toInt - y.toInt * x.toInt.tdiv y.toInt)) ∧
    GivesG (.remu e d a b) (.div .remu d a b) s e d
      (if y = 0 then x else BitVec.ofNat 32 (x.toNat - y.toNat * (x.toNat / y.toNat)))

/-- Where its Easel issues it, each of VADD, VSUB, VAND, VOR, VXOR, VADDS, VSUBS, VMIN, VMAX, VCEQ,
VCLT, VCLTU, VSEL, VABS, VSLLI, VSRLI and VSRAI answers a next state in which lane i of vd holds
the value of Table 4-6 from lanes i of the sources, and every other register and all else is
kept. (R105, Table 4-6) -/
def Obligations.LaneInstructions : Prop :=
  (∀ (e : At) (vd va vb : VReg) (s : State) (x y : Lanes), x = (s.bank e.k).rv va → y = (s.bank e.k).rv vb →
    GivesV (.vadd e vd va vb) (.lane .vadd vd va vb) s e vd (fun i => x[i] + y[i]) ∧
    GivesV (.vsub e vd va vb) (.lane .vsub vd va vb) s e vd (fun i => x[i] - y[i]) ∧
    GivesV (.vand e vd va vb) (.lane .vand vd va vb) s e vd (fun i => x[i] &&& y[i]) ∧
    GivesV (.vor e vd va vb) (.lane .vor vd va vb) s e vd (fun i => x[i] ||| y[i]) ∧
    GivesV (.vxor e vd va vb) (.lane .vxor vd va vb) s e vd (fun i => x[i] ^^^ y[i]) ∧
    GivesV (.vadds e vd va vb) (.lane .vadds vd va vb) s e vd (fun i => limit32 (x[i].toInt + y[i].toInt)) ∧
    GivesV (.vsubs e vd va vb) (.lane .vsubs vd va vb) s e vd (fun i => limit32 (x[i].toInt - y[i].toInt)) ∧
    GivesV (.vmin e vd va vb) (.lane .vmin vd va vb) s e vd
      (fun i => BitVec.ofInt 32 (min x[i].toInt y[i].toInt)) ∧
    GivesV (.vmax e vd va vb) (.lane .vmax vd va vb) s e vd
      (fun i => BitVec.ofInt 32 (max x[i].toInt y[i].toInt)) ∧
    GivesV (.vceq e vd va vb) (.lane .vceq vd va vb) s e vd
      (fun i => if x[i] = y[i] then 0xFFFFFFFF#32 else 0) ∧
    GivesV (.vclt e vd va vb) (.lane .vclt vd va vb) s e vd
      (fun i => if x[i].toInt < y[i].toInt then 0xFFFFFFFF#32 else 0) ∧
    GivesV (.vcltu e vd va vb) (.lane .vcltu vd va vb) s e vd
      (fun i => if x[i].toNat < y[i].toNat then 0xFFFFFFFF#32 else 0) ∧
    (∀ (vc : VReg) (z : Lanes), z = (s.bank e.k).rv vc →
      GivesV (.vsel e vd va vb vc) (.vsel vd va vb vc) s e vd
        (fun i => (z[i] &&& x[i]) ||| (~~~z[i] &&& y[i])))) ∧
  (∀ (e : At) (vd va : VReg) (n : Fin 32) (s : State) (x : Lanes), x = (s.bank e.k).rv va →
    GivesV (.vabs e vd va) (.vabs vd va) s e vd (fun i => limit32 (x[i].toInt.natAbs : Int)) ∧
    GivesV (.vslli e vd va n) (.vshi .sll vd va n) s e vd (fun i => x[i] <<< n.val) ∧
    GivesV (.vsrli e vd va n) (.vshi .srl vd va n) s e vd (fun i => x[i] >>> n.val) ∧
    GivesV (.vsrai e vd va n) (.vshi .sra vd va n) s e vd (fun i => x[i].sshiftRight n.val))

/-- Where its Easel issues it, each of VBCAST, VEXT, VINS, VMUL, VMULH, VMAC, VMSU, AMOV, AMOVR,
AMOVL, AMOVH, ACLR and ALD writes its one destination with the values of Tables 4-7 and 4-8 and
R107: accumulation limits to a signed 64-bit lane, AMOV shifts toward minus infinity and limits
to 32 bits, AMOVR first adds half of the last place and limits to 64 bits, and with a shift of 0
is AMOV. (R106, R107, R108, Table 4-7, Table 4-8) -/
def Obligations.VectorMovesAndAccumulators : Prop :=
  (∀ (e : At) (v : VReg) (g : GReg) (lane : Fin 8) (s : State),
    GivesV (.vbcast e v g) (.vbcast v g) s e v (fun _ => (s.bank e.k).rg g) ∧
    GivesG (.vext e g v lane) (.vext g v lane) s e g ((s.bank e.k).rv v)[lane] ∧
    GivesV (.vins e v g lane) (.vins v g lane) s e v
      (fun i => if i = lane then (s.bank e.k).rg g else ((s.bank e.k).rv v)[i])) ∧
  (∀ (e : At) (vd va vb : VReg) (acc : AReg) (s : State) (x y : Lanes) (z : Accs),
    x = (s.bank e.k).rv va → y = (s.bank e.k).rv vb → z = (s.bank e.k).ra acc →
    GivesV (.vmul e vd va vb) (.vmul .vmul vd va vb) s e vd (fun i => x[i] * y[i]) ∧
    GivesV (.vmulh e vd va vb) (.vmul .vmulh vd va vb) s e vd
      (fun i => BitVec.ofInt 32 (x[i].toInt * y[i].toInt / 2 ^ 32)) ∧
    GivesA (.vmac e acc va vb) (.vmac .vmac acc va vb) s e acc
      (fun i => BitVec.ofInt 64 (max (-(2 ^ 63)) (min (2 ^ 63 - 1) (z[i].toInt + x[i].toInt * y[i].toInt)))) ∧
    GivesA (.vmsu e acc va vb) (.vmac .vmsu acc va vb) s e acc
      (fun i => BitVec.ofInt 64 (max (-(2 ^ 63)) (min (2 ^ 63 - 1) (z[i].toInt - x[i].toInt * y[i].toInt))))) ∧
  (∀ (e : At) (v : VReg) (acc : AReg) (sh : Fin 64) (n : Fin 32) (s : State) (z : Accs), z = (s.bank e.k).ra acc →
    GivesV (.amov e v acc sh) (.amov .amov v acc sh) s e v (fun i => limit32 (z[i].toInt / 2 ^ sh.val)) ∧
    GivesV (.amovr e v acc sh) (.amov .amovr v acc sh) s e v
      (fun i => if sh = 0 then limit32 z[i].toInt
        else limit32 (min (2 ^ 63 - 1) (z[i].toInt + 2 ^ (sh.val - 1)) / 2 ^ sh.val)) ∧
    GivesV (.amovl e v acc) (.ahalf .amovl v acc) s e v (fun i => BitVec.ofNat 32 z[i].toNat) ∧
    GivesV (.amovh e v acc) (.ahalf .amovh v acc) s e v (fun i => BitVec.ofNat 32 (z[i].toNat / 2 ^ 32)) ∧
    GivesA (.aclr e acc) (.aclr acc) s e acc (fun _ => 0) ∧
    GivesA (.ald e acc v n) (.ald acc v n) s e acc
      (fun i => BitVec.ofInt 64 (((s.bank e.k).rv v)[i].toInt * 2 ^ n.val)))

/-- With an address that is a multiple of the width and inside scratch, and, for a load, words that
are neither uncorrectable nor poisoned, LD and VLD write the bytes at the effective address of
R109 into the register (a load into g0 is discarded; a word that R84 leaves undefined at a
POOLED task's entry, and nothing has written since, is not told) and ST and VST store the
register read at issue there; the post-increment form writes the base as well. Every other
register, every scratch byte outside the stored ones, and everything outside the Easel but what
records touch is as before. A misaligned or outside address faults ALIGN or ADDRESS with the
address, and registers and scratch are as before. (R109, R110, R111, Table 4-9) -/
def Obligations.ScratchAccesses : Prop :=
  (∀ (e : At) (m : Ecc) (t a : GReg) (post : Bool) (off : BitVec 15) (s : State) (ea : Nat),
    ea = (s.bank e.k).ea a post off →
    (Ready s e (.ld t a post off) → m ≠ .uncorrectable → ea % 4 = 0 → ea + 4 ≤ 0x20000 →
      tblGet noMark s.easels[e.k].scrPoison (ea / 4) = false →
      ∃ u, exec (.ld e m t a post off) s = .next u ∧
        (t ≠ 0 → s.easels[e.k].defined (ea / 4) = true → (u.bank e.k).rg t = memWord s.easels[e.k].scratch ea) ∧
        (∀ r, r ≠ t ∨ r = 0 → (u.bank e.k).rg r = if post = true ∧ r = a ∧ r ≠ 0
          then (s.bank e.k).rg a + off.signExtend 32 else (s.bank e.k).rg r) ∧
        (u.bank e.k).v = (s.bank e.k).v ∧ (u.bank e.k).a = (s.bank e.k).a ∧ WentOn (s.bank e.k) (u.bank e.k) ∧
        KeptOutside s { u with draws := s.draws } e.k) ∧
    (Ready s e (.st t a post off) → ea % 4 = 0 → ea + 4 ≤ 0x20000 →
      ∃ u, exec (.st e m t a post off) s = .next u ∧
        u.easels[e.k].scratch = memWrite s.easels[e.k].scratch ea (toLE 4 ((s.bank e.k).rg t).toNat) ∧
        (∀ x, x < ea ∨ ea + 4 ≤ x →
          tblGet zeroByte u.easels[e.k].scratch x = tblGet zeroByte s.easels[e.k].scratch x) ∧
        (∀ w, u.easels[e.k].defined w = (s.easels[e.k].defined w || w == ea / 4)) ∧
        (∀ r, (u.bank e.k).rg r = if post = true ∧ r = a ∧ r ≠ 0 then (s.bank e.k).rg a + off.signExtend 32
          else (s.bank e.k).rg r) ∧
        (u.bank e.k).v = (s.bank e.k).v ∧ (u.bank e.k).a = (s.bank e.k).a ∧ WentOn (s.bank e.k) (u.bank e.k) ∧
        (∀ j, j ≠ e.k → u.easels[j] = s.easels[j]) ∧ OnlyRecords s { u with easels := s.easels })) ∧
  (∀ (e : At) (m : Ecc) (ms : Vector Ecc 8) (v : VReg) (a : GReg) (post : Bool) (off : BitVec 15) (s : State) (ea : Nat),
    ea = (s.bank e.k).ea a post off →
    (Ready s e (.vld v a post off) → (∀ i : Fin 8, ms[i] ≠ .uncorrectable) → ea % 32 = 0 → ea + 32 ≤ 0x20000 →
      (∀ i < 8, tblGet noMark s.easels[e.k].scrPoison (ea / 4 + i) = false) →
      ∃ u, exec (.vld e ms v a post off) s = .next u ∧
        (∀ i : Fin 8, s.easels[e.k].defined (ea / 4 + i) = true →
          ((u.bank e.k).rv v)[i] = memWord s.easels[e.k].scratch (ea + 4 * i)) ∧
        (∀ r, r ≠ v → (u.bank e.k).rv r = (s.bank e.k).rv r) ∧
        (∀ r, (u.bank e.k).rg r = if post = true ∧ r = a ∧ r ≠ 0 then (s.bank e.k).rg a + off.signExtend 32
          else (s.bank e.k).rg r) ∧
        (u.bank e.k).a = (s.bank e.k).a ∧ WentOn (s.bank e.k) (u.bank e.k) ∧
        KeptOutside s { u with draws := s.draws } e.k) ∧
    (Ready s e (.vst v a post off) → ea % 32 = 0 → ea + 32 ≤ 0x20000 →
      ∃ u, exec (.vst e m v a post off) s = .next u ∧
        u.easels[e.k].scratch = memWrite s.easels[e.k].scratch ea (bytesOfLanes ((s.bank e.k).rv v)) ∧
        (∀ x, x < ea ∨ ea + 32 ≤ x →
          tblGet zeroByte u.easels[e.k].scratch x = tblGet zeroByte s.easels[e.k].scratch x) ∧
        (∀ w, u.easels[e.k].defined w = (s.easels[e.k].defined w || (decide (ea / 4 ≤ w) && decide (w < ea / 4 + 8)))) ∧
        (∀ r, (u.bank e.k).rg r = if post = true ∧ r = a ∧ r ≠ 0 then (s.bank e.k).rg a + off.signExtend 32
          else (s.bank e.k).rg r) ∧
        (u.bank e.k).v = (s.bank e.k).v ∧ (u.bank e.k).a = (s.bank e.k).a ∧ WentOn (s.bank e.k) (u.bank e.k) ∧
        (∀ j, j ≠ e.k → u.easels[j] = s.easels[j]) ∧ OnlyRecords s { u with easels := s.easels })) ∧
  (∀ (e : At) (m : Ecc) (t a : GReg) (post : Bool) (off : BitVec 15) (s : State) (ea : Nat),
    ea = (s.bank e.k).ea a post off → Ready s e (.st t a post off) → (ea % 4 ≠ 0 ∨ 0x20000 < ea + 4) →
    ∃ u, exec (.st e m t a post off) s = .next u ∧ u.easels[e.k].run = .faultExit ∧
      u.easels[e.k].faultCode = (if ea % 4 ≠ 0 then 6 else 7) ∧ u.easels[e.k].faultAddr = BitVec.ofNat 32 ea ∧
      u.easels[e.k].scratch = s.easels[e.k].scratch ∧ (u.bank e.k).g = (s.bank e.k).g)

/-- With an address that is a multiple of the width and inside the Atelier, and, for a load, words
that are neither uncorrectable nor poisoned, LDA and VLDA write the bytes at the effective
address into the register (a word that a task in service on another Easel has stored is not
told, Table 3-6) and STA and VSTA store the register there; the post-increment form writes the
base as well. Every other register, every Atelier byte outside the stored ones, and the scratch
of every Easel is as before. (R109, R110, R111, Table 4-9) -/
def Obligations.AtelierAccesses : Prop :=
  (∀ (e : At) (m : Ecc) (t a : GReg) (post : Bool) (off : BitVec 15) (s : State) (ea : Nat),
    ea = (s.bank e.k).ea a post off → ea % 4 = 0 → 0x1000000 ≤ ea → ea + 4 ≤ 0x1400000 →
    (Ready s e (.lda t a post off) → m ≠ .uncorrectable →
      tblGet noMark s.atelier.poison ((ea - 0x1000000) / 4) = false →
      ∃ u, exec (.lda e m t a post off) s = .next u ∧
        (t ≠ 0 → s.atelier.defined e.k ((ea - 0x1000000) / 4) = true → (u.bank e.k).rg t = s.atelier.word ea) ∧
        (∀ r, r ≠ t ∨ r = 0 → (u.bank e.k).rg r = if post = true ∧ r = a ∧ r ≠ 0
          then (s.bank e.k).rg a + off.signExtend 32 else (s.bank e.k).rg r) ∧
        (u.bank e.k).v = (s.bank e.k).v ∧ (u.bank e.k).a = (s.bank e.k).a ∧ WentOn (s.bank e.k) (u.bank e.k) ∧
        KeptOutside s { u with draws := s.draws } e.k) ∧
    (Ready s e (.sta t a post off) →
      ∃ u, exec (.sta e m t a post off) s = .next u ∧
        u.atelier = { s.atelier.write ea (toLE 4 ((s.bank e.k).rg t).toNat) with writers := u.atelier.writers } ∧
        (∀ w, w ∈ u.atelier.writers ↔ w ∈ s.atelier.writers ∨
          w = (e.k.val, (s.bank e.k).task.task, (ea - 0x1000000) / 4)) ∧
        (∀ x, x < ea - 0x1000000 ∨ ea - 0x1000000 + 4 ≤ x →
          tblGet zeroByte u.atelier.mem x = tblGet zeroByte s.atelier.mem x) ∧
        (∀ r, (u.bank e.k).rg r = if post = true ∧ r = a ∧ r ≠ 0 then (s.bank e.k).rg a + off.signExtend 32
          else (s.bank e.k).rg r) ∧
        (u.bank e.k).v = (s.bank e.k).v ∧ (u.bank e.k).a = (s.bank e.k).a ∧ WentOn (s.bank e.k) (u.bank e.k) ∧
        KeptOutside s { u with atelier := s.atelier } e.k)) ∧
  (∀ (e : At) (m : Ecc) (ms : Vector Ecc 8) (v : VReg) (a : GReg) (post : Bool) (off : BitVec 15) (s : State) (ea : Nat),
    ea = (s.bank e.k).ea a post off → ea % 32 = 0 → 0x1000000 ≤ ea → ea + 32 ≤ 0x1400000 →
    (Ready s e (.vlda v a post off) → (∀ i : Fin 8, ms[i] ≠ .uncorrectable) →
      (∀ i < 8, tblGet noMark s.atelier.poison ((ea - 0x1000000) / 4 + i) = false) →
      ∃ u, exec (.vlda e ms v a post off) s = .next u ∧
        (∀ i : Fin 8, s.atelier.defined e.k ((ea - 0x1000000) / 4 + i) = true →
          ((u.bank e.k).rv v)[i] = s.atelier.word (ea + 4 * i)) ∧
        (∀ r, r ≠ v → (u.bank e.k).rv r = (s.bank e.k).rv r) ∧
        (∀ r, (u.bank e.k).rg r = if post = true ∧ r = a ∧ r ≠ 0 then (s.bank e.k).rg a + off.signExtend 32
          else (s.bank e.k).rg r) ∧
        (u.bank e.k).a = (s.bank e.k).a ∧ WentOn (s.bank e.k) (u.bank e.k) ∧
        KeptOutside s { u with draws := s.draws } e.k) ∧
    (Ready s e (.vsta v a post off) →
      ∃ u, exec (.vsta e m v a post off) s = .next u ∧
        u.atelier = { s.atelier.write ea (bytesOfLanes ((s.bank e.k).rv v)) with writers := u.atelier.writers } ∧
        (∀ w, w ∈ u.atelier.writers ↔ w ∈ s.atelier.writers ∨
          ∃ i < 8, w = (e.k.val, (s.bank e.k).task.task, (ea - 0x1000000) / 4 + i)) ∧
        (∀ x, x < ea - 0x1000000 ∨ ea - 0x1000000 + 32 ≤ x →
          tblGet zeroByte u.atelier.mem x = tblGet zeroByte s.atelier.mem x) ∧
        (∀ r, (u.bank e.k).rg r = if post = true ∧ r = a ∧ r ≠ 0 then (s.bank e.k).rg a + off.signExtend 32
          else (s.bank e.k).rg r) ∧
        (u.bank e.k).v = (s.bank e.k).v ∧ (u.bank e.k).a = (s.bank e.k).a ∧ WentOn (s.bank e.k) (u.bank e.k) ∧
        KeptOutside s { u with atelier := s.atelier } e.k))

/-- Where its Easel issues it, each of BEQ, BNE, BLT, BGE, BLTU and BGEU goes to pc + off exactly
where its condition of Table 4-10 holds and to the next index otherwise, JMP goes to pc + off,
and a transfer closes the loops of the present depth that end before its target. CALL with fewer
than eight calls open pushes the next index and goes to its absolute target; with eight it
faults STACK. No register and nothing else outside is changed. (R112, R115, Table 4-10) -/
def Obligations.BranchesJumpsAndCalls : Prop :=
  (∀ (e : At) (a b : GReg) (off : BitVec 14) (s : State) (x y : Word), x = (s.bank e.k).rg a →
    y = (s.bank e.k).rg b →
    ∀ (op : BrOp) (c : Instr) (taken : Bool),
      (op, c, taken) ∈ [(BrOp.beq, Instr.beq e a b off, decide (x = y)), (.bne, .bne e a b off, decide (x ≠ y)),
        (.blt, .blt e a b off, decide (x.toInt < y.toInt)), (.bge, .bge e a b off, decide (y.toInt ≤ x.toInt)),
        (.bltu, .bltu e a b off, decide (x.toNat < y.toNat)), (.bgeu, .bgeu e a b off, decide (y.toNat ≤ x.toNat))] →
      Ready s e (.br op a b off) taken →
      ∃ t, exec c s = .next t ∧
        (t.bank e.k).pc = (if taken then (s.bank e.k).pc + off.toNat else ((s.bank e.k).pc + 1) % 16384) ∧
        (t.bank e.k).loops = (if taken then ((s.bank e.k).jumpTo ((s.bank e.k).pc + off.toNat)).loops
          else (s.bank e.k).loops) ∧
        (t.bank e.k).rets = (s.bank e.k).rets ∧ (t.bank e.k).g = (s.bank e.k).g ∧ (t.bank e.k).v = (s.bank e.k).v ∧
        (t.bank e.k).a = (s.bank e.k).a ∧ KeptOutside s t e.k) ∧
  (∀ (e : At) (off : BitVec 14) (s : State), Ready s e (.jmp off) →
    ∃ t, exec (.jmp e off) s = .next t ∧ (t.bank e.k).pc = (s.bank e.k).pc + off.toNat ∧
      (t.bank e.k).loops = ((s.bank e.k).jumpTo ((s.bank e.k).pc + off.toNat)).loops ∧
      (t.bank e.k).rets = (s.bank e.k).rets ∧ (t.bank e.k).g = (s.bank e.k).g ∧ (t.bank e.k).v = (s.bank e.k).v ∧
      (t.bank e.k).a = (s.bank e.k).a ∧ KeptOutside s t e.k) ∧
  (∀ (e : At) (target : BitVec 14) (s : State), Ready s e (.call target) →
    ((s.bank e.k).rets.length < 8 → ∃ t, exec (.call e target) s = .next t ∧ (t.bank e.k).pc = target.toNat ∧
      (t.bank e.k).rets = ((s.bank e.k).pc + 1) % 16384 :: (s.bank e.k).rets ∧
      (t.bank e.k).loops = (s.bank e.k).loops ∧ (t.bank e.k).g = (s.bank e.k).g ∧ (t.bank e.k).v = (s.bank e.k).v ∧
      (t.bank e.k).a = (s.bank e.k).a ∧ KeptOutside s t e.k) ∧
    (8 ≤ (s.bank e.k).rets.length → ∃ t, exec (.call e target) s = .next t ∧ t.easels[e.k].run = .faultExit ∧
      t.easels[e.k].faultCode = 4))

/-- LOOP with fewer than four loops open and a count in its bound pushes its loop and goes to the
body, with count 0 goes past the body, above its bound faults LOOP_BOUND and with four open
faults STACK. LIDX gives the iterations done of the innermost loop of the present depth, 0
without one. RET pops to the pushed index, and faults STACK on an empty stack or with a loop of
its depth open. BREAK in test mode halts the Easel with EASEL_HALTED and faults BREAK outside
it. END ends the task: the shadow bank is restored and runs, or else the Easel is idle with both
stacks discarded. (R83, R85, R112, R113, R114, R116) -/
def Obligations.LoopsReturnsAndEnd : Prop :=
  (∀ (e : At) (c : GReg) (bound : BitVec 16) (last : BitVec 14) (s : State) (n : Nat),
    n = ((s.bank e.k).rg c).toNat → Ready s e (.loop c bound last) →
    ((s.bank e.k).loops.length < 4 → n ≤ bound.toNat → ∃ t, exec (.loop e c bound last) s = .next t ∧
      (t.bank e.k).pc = (if n = 0 then last.toNat + 1 else (s.bank e.k).pc + 2) % 16384 ∧
      (t.bank e.k).loops = (if n = 0 then (s.bank e.k).loops else
        { start := ((s.bank e.k).pc + 2) % 16384, last := last.toNat, count := n, done := 0,
          depth := (s.bank e.k).rets.length } :: (s.bank e.k).loops) ∧
      (t.bank e.k).rets = (s.bank e.k).rets ∧ (t.bank e.k).g = (s.bank e.k).g ∧ KeptOutside s t e.k) ∧
    ((4 ≤ (s.bank e.k).loops.length ∨ bound.toNat < n) → ∃ t, exec (.loop e c bound last) s = .next t ∧
      t.easels[e.k].run = .faultExit ∧
      t.easels[e.k].faultCode = (if 4 ≤ (s.bank e.k).loops.length then 4 else 5))) ∧
  (∀ (e : At) (d : GReg) (s : State),
    ((s.bank e.k).loopsHere = [] → GivesG (.lidx e d) (.lidx d) s e d 0) ∧
    (∀ l rest, (s.bank e.k).loopsHere = l :: rest → GivesG (.lidx e d) (.lidx d) s e d (BitVec.ofNat 32 l.done))) ∧
  (∀ (e : At) (s : State), Ready s e .ret →
    (∀ x rest, (s.bank e.k).rets = x :: rest → (s.bank e.k).loopsHere = [] → ∃ t, exec (.ret e) s = .next t ∧
      (t.bank e.k).pc = x % 16384 ∧ (t.bank e.k).rets = rest ∧ (t.bank e.k).g = (s.bank e.k).g ∧ KeptOutside s t e.k) ∧
    ((s.bank e.k).rets = [] ∨ (s.bank e.k).loopsHere ≠ [] → ∃ t, exec (.ret e) s = .next t ∧
      t.easels[e.k].run = .faultExit ∧ t.easels[e.k].faultCode = 4)) ∧
  (∀ (e : At) (s : State), Ready s e .brk →
    (s.dsp.mode = .test → ∃ t, exec (.breakI e) s = .next t ∧ t.easels[e.k].halted = true ∧
      (t.bank e.k).pc = ((s.bank e.k).pc + 1) % 16384 ∧ (t.bank e.k).g = (s.bank e.k).g) ∧
    (s.dsp.mode ≠ .test → ∃ t, exec (.breakI e) s = .next t ∧ t.easels[e.k].run = .faultExit ∧
      t.easels[e.k].faultCode = 3)) ∧
  (∀ (e : At) (s : State), Ready s e .endTask →
    (s.easels[e.k].shadow = none → ∃ t, exec (.endI e) s = .next t ∧ t.easels[e.k].run = .idle ∧
      (t.bank e.k).loops = [] ∧ (t.bank e.k).rets = []) ∧
    (∀ b, s.easels[e.k].shadow = some b → ∃ t, exec (.endI e) s = .next t ∧ t.easels[e.k].run = .running ∧
      t.bank e.k = b ∧ t.easels[e.k].shadow = none))

/-- RET with an empty return stack, or with a loop opened at the present call depth still open,
takes its Easel into fault exit with code STACK; any other RET of a ready Easel does not. END of
a task with no shadow bank leaves both stacks empty, and the stacks of a bank END restores are
that bank's own. (R116) -/
def Obligations.ReturnStackFaults : Prop :=
  ∀ (e : At) (s : State),
    (Ready s e .ret → ∃ t, exec (.ret e) s = .next t ∧
      (((s.bank e.k).rets = [] ∨ (s.bank e.k).loopsHere ≠ []) →
        t.easels[e.k].run = .faultExit ∧ t.easels[e.k].faultCode = 4) ∧
      ((s.bank e.k).rets ≠ [] → (s.bank e.k).loopsHere = [] → t.easels[e.k].run = .running)) ∧
    (Ready s e .endTask → ∃ t, exec (.endI e) s = .next t ∧
      (t.bank e.k).rets = s.easels[e.k].shadow.elim [] (·.rets) ∧
      (t.bank e.k).loops = s.easels[e.k].shadow.elim [] (·.loops))

/-- FCPRB gives the presented word of its cell, 0 for an index above the Canvas, and FCPRBV those of
eight slots of a square, the slots modulo 128; an uncorrectable word shows VALID 0. FTIME gives
the nominal boundary time of the epoch in d and t, FSTAMP the low word of corrected device time,
FPCNT the packets, grant payloads counted, and cells of a queue of a unit that is no standby.
FEMIT of a record that is not held back gives 0 or 1, and where the bucket of its code has a
token the record leaves with code 0x20C0 + n, the severity, the boundary time and the four
registers. (R117, R119, R120, R206, Table 4-11) -/
def Obligations.FabricReadsAndTimes : Prop :=
  (∀ (e : At) (m : Ecc) (d r : GReg) (s : State) (w : Word), w = (s.bank e.k).rg r →
    (fieldOf w 23 9 ≠ 0 → GivesG (.fcprb e m d r) (.fcprb d r) s e d 0) ∧
    (fieldOf w 23 9 = 0 → m ≠ .uncorrectable → GivesG (.fcprb e m d r) (.fcprb d r) s e d
      (presented true (m == .corrected) (ageOf s.canvas.now (w.toNat % 128)) (s.canvas.cell w.toNat).word))) ∧
  (∀ (e : At) (v : VReg) (r : GReg) (s : State) (w : Word), w = (s.bank e.k).rg r →
    (fieldOf w 23 9 ≠ 0 → ∀ ms, GivesV (.fcprbv e ms v r) (.fcprbv v r) s e v (fun _ => 0)) ∧
    (fieldOf w 23 9 = 0 → GivesV (.fcprbv e (Vector.replicate 8 .ok) v r) (.fcprbv v r) s e v (fun i =>
      presented true false (ageOf s.canvas.now ((fieldOf w 0 7 + i) % 128))
        (s.canvas.cell (128 * fieldOf w 7 16 + (fieldOf w 0 7 + i) % 128)).word)) ∧
    (fieldOf w 23 9 = 0 → Ready s e (.fcprbv v r) → ∀ ms, ms[(0 : Fin 8)] = .uncorrectable →
      ∃ t, exec (.fcprbv e ms v r) s = .next t ∧
        ((t.bank e.k).rv v)[(0 : Fin 8)] = presented false false (ageOf s.canvas.now (fieldOf w 0 7 % 128)) 0xC003)) ∧
  (∀ (e : At) (d t : GReg) (s : State), Ready s e (.ftime d t) → ∃ u, exec (.ftime e d t) s = .next u ∧
    (∀ r, (u.bank e.k).rg r = if r = 0 then 0 else if r = t then BitVec.ofNat 32 (s.epoch.nominal / 2 ^ 32)
      else if r = d then BitVec.ofNat 32 s.epoch.nominal else (s.bank e.k).rg r) ∧
    (u.bank e.k).v = (s.bank e.k).v ∧ (u.bank e.k).a = (s.bank e.k).a ∧ KeptOutside s u e.k) ∧
  (∀ (e : At) (d : GReg) (q : Fin 64) (s : State),
    GivesG (.fstamp e d) (.fstamp d) s e d (BitVec.ofNat 32 s.time) ∧
    (s.standby = false → GivesG (.fpcnt e d q) (.fpcnt d q) s e d
      (pack [(16, 16, min 0xFFFF (s.palette.q q).used), (0, 16, min 0xFFFF (s.palette.count q))]))) ∧
  (∀ (e : At) (d r : GReg) (sev : Fin 4) (n : Fin 64) (s : State), r.val ≤ 28 → Ready s e (.femit d r sev n) →
    s.holding (s.bank e.k).task = false →
    ∃ u, exec (.femit e d r sev n) s = .next u ∧ KeptOutside s u e.k ∧
      (d ≠ 0 → (u.bank e.k).rg d = 0 ∨ (u.bank e.k).rg d = 1) ∧
      ((s.ev.bucket (0x20C0 + n)).tokens ≠ 0 → (s.ev.bucket (0x20C0 + n)).due s.epoch.nominal = 0 →
        (u.bank e.k).rg d = 0 ∨ d = 0) ∧
      ((s.ev.bucket (0x20C0 + n)).tokens ≠ 0 → (s.ev.bucket (0x20C0 + n)).due s.epoch.nominal = 0 →
        ∃ x : Record, .record x ∈ u.ev.out ∧ x.code = 0x20C0 + n ∧ x.severity = sev ∧ x.linkPlane = false ∧
          x.time = s.epoch.nominal ∧ x.p0 = (s.bank e.k).rg r ∧ x.p1 = (s.bank e.k).rg (Fin.ofNat 32 (r + 1)) ∧
          x.p2 = (s.bank e.k).rg (Fin.ofNat 32 (r + 2)) ∧ x.p3 = (s.bank e.k).rg (Fin.ofNat 32 (r + 3))))

/-- FLOCK takes a free lock, or its own again, with 0 and reads BUSY with 1 otherwise, and where the
arbiter meets a tie it gives 2 and takes nothing; FUNLOCK by the holder frees it with 0 and by
another is 1 and frees nothing. FMBS gives 0 and appends the word, 1 where the queue holds 16, 2
where an end is dead; FMBR gives the oldest word with its source and t[31], or 0 with source 15.
FSTOP of an index that names no robot or zone is refused with d[31:30] = 2, raises nothing; of
any other index the stop is raised with source 3, its robot or zone and the next sequence
number, which d shows, or subsumed with d[31:30] = 1 and raises none. FSREL of a FLEET stop
gives 1 and releases nothing, of a sequence no stop has 2, and of another stop that Table 1-9
lets go it gives 0 and the stop is released. A standby takes the logged result of its own key
instead and raises, takes and sends nothing of its own. (R117, R118, R121, R399, R401, R404, R405) -/
def Obligations.FabricLocksMailboxesAndStops : Prop :=
  (∀ (e : At) (d : GReg) (n : Fin 32) (s : State), s.standby = false →
    (Ready s e (.flock d n) → ∃ t, exec (.flock e .chosen d n) s = .next t ∧
      (t.bank e.k).rg d = (if d = 0 ∨ s.host.holder n = 15 ∨ s.host.holder n = e.k then 0 else 1) ∧
      t.host.holder n = (if s.host.holder n = 15 then e.k.val else s.host.holder n) ∧
      (∀ j, j ≠ n → t.host.holder j = s.host.holder j) ∧ t.host.mbx = s.host.mbx) ∧
    (Ready s e (.flock d n) → ∀ arb, arb ≠ .chosen → ∃ t, exec (.flock e arb d n) s = .next t ∧
      (d ≠ 0 → (t.bank e.k).rg d = 2) ∧ t.host.locks = s.host.locks) ∧
    (Ready s e (.funlock d n) → ∃ t, exec (.funlock e d n) s = .next t ∧
      (t.bank e.k).rg d = (if d = 0 ∨ s.host.holder n = e.k then 0 else 1) ∧
      t.host.holder n = (if s.host.holder n = e.k then 15 else s.host.holder n) ∧
      (∀ j, j ≠ n → t.host.holder j = s.host.holder j) ∧ t.host.mbx = s.host.mbx)) ∧
  (∀ (e : At) (d r : GReg) (c : Fin 16) (s : State), s.standby = false → Ready s e (.fmbs d r c) →
    ∃ t, exec (.fmbs e d r c) s = .next t ∧ t.host.locks = s.host.locks ∧
      (if (s.host.ch c).has 1 = false ∨ s.endDead 1 = true ∨ s.endDead ((s.host.ch c).peer 1) = true then
        (d ≠ 0 → (t.bank e.k).rg d = 2) ∧ t.host.mbx = s.host.mbx
       else if 16 ≤ ((s.host.ch c).outbound 1).words.length then
        (d ≠ 0 → (t.bank e.k).rg d = 1) ∧ t.host.mbx = s.host.mbx
       else (t.bank e.k).rg d = 0 ∧ ((t.host.ch c).outbound 1).words = ((s.host.ch c).outbound 1).words ++
        [{ word := (s.bank e.k).rg r, source := e.k, sentAt := s.now }])) ∧
  (∀ (e : At) (d t : GReg) (c : Fin 16) (s : State), s.standby = false → d ≠ t → Ready s e (.fmbr d t c) →
    (∀ x rest, ((s.host.ch c).inbound 1).words = x :: rest → (s.host.ch c).has 1 = true →
      ∃ u, exec (.fmbr e d t c) s = .next u ∧ ((u.host.ch c).inbound 1).words = rest ∧
        (d ≠ 0 → (u.bank e.k).rg d = x.word) ∧ (t ≠ 0 → (u.bank e.k).rg t = pack [(31, 1, 1), (0, 4, x.source)])) ∧
    (((s.host.ch c).inbound 1).words = [] → ∃ u, exec (.fmbr e d t c) s = .next u ∧ u.host.mbx = s.host.mbx ∧
      (d ≠ 0 → (u.bank e.k).rg d = 0) ∧ (t ≠ 0 → (u.bank e.k).rg t = 15))) ∧
  (∀ (e : At) (d r : GReg) (kind : StopArg) (bad : List (BitVec 21)) (s : State) (n : Nat),
    n = ((s.bank e.k).rg r).toNat → s.standby = false → Ready s e (.fstop d r kind) →
    (s.stopIndexOk kind n = false → ∃ t, exec (.fstop e d r kind bad) s = .next t ∧
      (d ≠ 0 → (t.bank e.k).rg d = 0x80000000#32) ∧ t.fleet = s.fleet) ∧
    (s.stopIndexOk kind n = true → ∃ t, exec (.fstop e d r kind bad) s = .next t ∧ t.fleet.lastSource = 3 ∧
      ((t.fleet.stops = s.fleet.stops ∧ (d ≠ 0 → (t.bank e.k).rg d = 0x40000000#32)) ∨
       (s.fleet.fleetActive = false ∧ ∃ x, t.fleet.stops = s.fleet.stops ++ [x] ∧ x.source = 3 ∧ x.index = n ∧
          x.kind = (if kind = .zone then StopKind.zone else .robot) ∧
          x.seq = (if s.fleet.lastSeq = 0xFFFF then 1 else s.fleet.lastSeq + 1) ∧
          (d ≠ 0 → ((t.bank e.k).rg d).toNat = x.seq % 65536))))) ∧
  (∀ (e : At) (d r : GReg) (bad : List (BitVec 21)) (s : State) (n : Nat), n = fieldOf ((s.bank e.k).rg r) 0 16 →
    s.standby = false → Ready s e (.fsrel d r) →
    (∀ x ∈ s.fleet.stops, x.seq = n → x.kind = .fleet → ∃ t, exec (.fsrel e d r bad) s = .next t ∧
      (d ≠ 0 → (t.bank e.k).rg d = 1) ∧ t.fleet.stops = s.fleet.stops) ∧
    ((∀ x ∈ s.fleet.stops, x.seq ≠ n) → ∃ t, exec (.fsrel e d r bad) s = .next t ∧
      (d ≠ 0 → (t.bank e.k).rg d = 2) ∧ t.fleet.stops = s.fleet.stops) ∧
    (∀ x, s.fleet.stops.find? (·.seq == n) = some x → (∀ y ∈ s.fleet.stops, y.seq = n → y.kind ≠ .fleet) →
      MayRelease s x → ∃ t, exec (.fsrel e d r bad) s = .next t ∧ (d ≠ 0 → (t.bank e.k).rg d = 0) ∧
        t.fleet.stops = s.fleet.stops.filter fun y => y.seq != n)) ∧
  (∀ (e : At) (x : FabResult) (s : State), s.standby = true →
    (s.twin.fabric.find? fun x => x.task == (s.bank e.k).task.task && x.flow == (s.bank e.k).task.flow &&
      x.op == (s.bank e.k).fabIdx) = some x →
    ∀ (d r : GReg) (n : Fin 32) (c : Fin 16) (kind : StopArg) (q : Fin 64) (arb : Arb) (bad : List (BitVec 21))
      (i : EInstr) (cmd : Instr),
      (i, cmd) ∈ [(EInstr.flock d n, Instr.flock e arb d n), (.funlock d n, .funlock e d n),
        (.fmbs d r c, .fmbs e d r c), (.fmbr d 0 c, .fmbr e d 0 c), (.fstop d r kind, .fstop e d r kind bad),
        (.fsrel d r, .fsrel e d r bad), (.fpcnt d q, .fpcnt e d q)] →
      Ready s e i → ∃ t, exec cmd s = .next t ∧ (d ≠ 0 → (t.bank e.k).rg d = x.d) ∧
        t.twin.fabric = s.twin.fabric.erase x ∧ t.host.locks = s.host.locks ∧ t.host.mbx = s.host.mbx ∧
        t.fleet = s.fleet)

/-- FGRANT, FSTK, FLOOP, FPPUT and FPGET of a task whose outputs are not held append a request with
the register's value, the continuation task and slot to the Easel's FIFO, where it holds fewer
than eight entries and, for FGRANT, FPPUT and FPGET, the value is a descriptor address in the
Atelier; a value that is no multiple of 32 faults ALIGN, one outside the Atelier ADDRESS, and a
full FIFO FABRIC_FULL, in that order, and the FIFO is then as before. (R122, R123, Table 4-12) -/
def Obligations.AsynchronousFabricOperations : Prop :=
  ∀ (e : At) (r : GReg) (task : BitVec 11) (slot : Fin 4) (s : State) (op : AsyncOp) (c : Instr) (v : Nat),
    (op, c) ∈ [(AsyncOp.fgrant, Instr.fgrant e r task slot), (.fstk, .fstk e r task slot),
      (.floop, .floop e r task slot), (.fpput, .fpput e r task slot), (.fpget, .fpget e r task slot)] →
    v = ((s.bank e.k).rg r).toNat → Ready s e (.async op r task slot) → s.holding (s.bank e.k).task = false →
    let desc := op = .fgrant ∨ op = .fpput ∨ op = .fpget
    ((desc → v % 32 = 0 ∧ 0x1000000 ≤ v ∧ v + 32 ≤ 0x1400000) → s.easels[e.k].fifo.length < 8 →
      ∃ t x, exec c s = .next t ∧ t.easels[e.k].fifo = s.easels[e.k].fifo ++ [x] ∧ x.op = op ∧
        x.value = (s.bank e.k).rg r ∧ x.task = task.toNat ∧ x.slot = slot.val ∧ x.flow = (s.bank e.k).task.flow ∧
        (t.bank e.k).g = (s.bank e.k).g ∧ OnlyRecords s { t with easels := s.easels }) ∧
    (desc → v % 32 ≠ 0 → ∃ t, exec c s = .next t ∧ t.easels[e.k].faultCode = 6 ∧ t.easels[e.k].run = .faultExit) ∧
    (desc → v % 32 = 0 → (v < 0x1000000 ∨ 0x1400000 < v + 32) →
      ∃ t, exec c s = .next t ∧ t.easels[e.k].faultCode = 7 ∧ t.easels[e.k].run = .faultExit) ∧
    ((desc → v % 32 = 0 ∧ 0x1000000 ≤ v ∧ v + 32 ≤ 0x1400000) → 8 ≤ s.easels[e.k].fifo.length →
      ∃ t, exec c s = .next t ∧ t.easels[e.k].faultCode = 10 ∧ t.easels[e.k].run = .faultExit)

/-- A word that no encoding names faults ILLEGAL by ILLEGAL_INSTRUCTION with the faulting index, and
a fetch that is uncorrectable or poisoned faults ECC_IMEM first; the Easel is in fault exit and
its registers and memories are as before. An Easel that does not issue runs nothing. (R75, R95, R99) -/
def Obligations.EaselIssueAndIllegal : Prop :=
  (∀ (e : At) (s : State), s.issues e.k = true → s.easels[e.k].insn = none →
    ∃ t, exec (.illegalInstruction e) s = .next t ∧ t.easels[e.k].run = .faultExit ∧
      t.easels[e.k].faultCode = (if s.easels[e.k].fetchBad e then 1 else 2) ∧
      t.easels[e.k].faultPc = (s.bank e.k).pc ∧ (t.bank e.k).g = (s.bank e.k).g ∧
      t.easels[e.k].scratch = s.easels[e.k].scratch ∧ t.easels[e.k].imem = s.easels[e.k].imem) ∧
  (∀ (e : At) (s : State), s.issues e.k = false → exec (.illegalInstruction e) s = .next s ∧
    (∀ d a b, exec (.add e d a b) s = .next s) ∧ exec (.endI e) s = .next s ∧
    (∀ m t a post off, exec (.st e m t a post off) s = .next s)) ∧
  (∀ (e : At) (s : State) (i : EInstr), s.easels[e.k].insn = some i → (s.bank e.k).illegal i = false →
    s.easels[e.k].fetchBad e = false → exec (.illegalInstruction e) s = .next s)

/-- Awake in test mode under an INSTALLER or MAKER session, EAS_HALT halts the Easel with
EASEL_HALTED, EAS_RESUME lets it run, and EAS_STEP of a halted Easel lets it run one
instruction; an enabled breakpoint at the index of a running Easel halts it. The memory window
then reads (a defined word) or writes one word at EAS_MEM_ADDR, clears its poison at a write,
and moves on; elsewhere a debug write sets DBG_REFUSED only. EASEL_SCRUB of an idle Easel and
ATELIER_SCRUB pass on, count corrected words and poison uncorrectable ones. (R76, R95, R96, R97, Table 3-18) -/
def Obligations.EaselDebugAndScrub : Prop :=
  (∀ (k : Fin 8) (brk : BitVec 2) (s : State), s.awake = true → s.dsp.mode = .test → 2 ≤ s.pcieRole →
    (∃ t, exec (.easHalt k brk) s = .next t ∧ t.easels[k].halted = true ∧ t.easels[k].bank = s.easels[k].bank) ∧
    (∃ t, exec (.easResume k brk) s = .next t ∧ t.easels[k].halted = false ∧ t.easels[k].bank = s.easels[k].bank) ∧
    (s.easels[k].halted = true → ∃ t, exec (.easStep k brk) s = .next t ∧ t.easels[k].halted = false ∧
      t.easels[k].stepOne = true) ∧
    (∀ w, ∃ t, exec (.easMemDataWrite k w) s = .next t ∧
      t.easels[k].memWord = (s.easels[k].memWord + 1) % 32768 ∧
      (s.easels[k].memSpace = false → t.easels[k].imem =
        tblPut imemFill s.easels[k].imem (s.easels[k].memWord % 16384) w ∧ t.easels[k].scratch = s.easels[k].scratch) ∧
      (s.easels[k].memSpace = true → t.easels[k].scratch =
        memWrite s.easels[k].scratch (4 * s.easels[k].memWord) (toLE 4 w.toNat) ∧ t.easels[k].imem = s.easels[k].imem))) ∧
  (∀ (k : Fin 8) (brk : BitVec 2) (w : Word) (s : State), s.awake = true → (s.dsp.mode ≠ .test ∨ s.pcieRole < 2) →
    ∃ t, t = s.modEasel k (fun x => { x with dbgRefused := true }) ∧ exec (.easHalt k brk) s = .next t ∧
      exec (.easResume k brk) s = .next t ∧ exec (.easStep k brk) s = .next t ∧
      exec (.easMemDataWrite k w) s = .next t) ∧
  (∀ (k : Fin 8) (m : Ecc) (s : State), s.awake = true → ∃ t, exec (.easMemDataRead k m) s = .next t ∧
    (s.halted k = false → t.ev.out = .busRead 0 :: s.ev.out) ∧
    (s.halted k = true → s.easels[k].memBad m = false →
      (s.easels[k].memSpace = false ∨ s.easels[k].defined s.easels[k].memWord = true) →
      t.ev.out.head? = some (.busRead s.easels[k].memData.toNat)) ∧
    t.easels[k].memWord = (s.easels[k].memWord + 1) % 32768) ∧
  (∀ (k : Fin 8) (cause : Nat) (s : State), s.breakHere k = some cause → s.awake = true →
    s.easels[k].run = .running → s.halted k = false →
    ∃ t, exec (.breakpointHit k) s = .next t ∧ t.easels[k].halted = true ∧ t.easels[k].bank = s.easels[k].bank ∧
      Logged t evEaselHalted k s.easels[k].bank.pc cause 0) ∧
  (∀ (k : Fin 8) (s : State), s.awake = true → s.easels[k].run = .idle →
    (∃ t, exec (.easelScrub k .ok) s = .next t ∧
      t.easels[k] = { s.easels[k] with scrubAt := (s.easels[k].scrubAt + 1) % 49152 }) ∧
    (s.easels[k].scrubAt < 16384 → ∃ t, exec (.easelScrub k .uncorrectable) s = .next t ∧
      t.easels[k].imemPoison = tblPut noMark s.easels[k].imemPoison s.easels[k].scrubAt true ∧
      Logged t evEccPoisoned k 0 (4 * s.easels[k].scrubAt) 0)) ∧
  (∀ s : State, s.awake = true → ∃ t, exec (.atelierScrub (Vector.replicate 8 .ok)) s = .next t ∧
    t.atelier = { s.atelier with scrubAt := (s.atelier.scrubAt + 1) % 131072 }) ∧
  (∀ (ms : Vector Ecc 8) (s : State), s.awake = true → ∃ t, exec (.atelierScrub ms) s = .next t ∧
    t.atelier.mem = s.atelier.mem ∧ t.atelier.scrubAt = (s.atelier.scrubAt + 1) % 131072 ∧
    ∀ i : Fin 8, ms[i] = .uncorrectable → tblGet noMark t.atelier.poison (8 * s.atelier.scrubAt + i) = true)

/-- At a boundary the epoch becomes the one corrected time is in, unjudged, and requests made before
are due. Every due tick fills its operand with the epoch number, and makes its task's instance
where there is none, or is recorded as an overrun where that operand is filled. The oldest
result fills its operand, in an instance of its own where there is none, and a filled one is
recorded as a collision and quarantines the flow. A drain passes the head of an Easel's FIFO to
a stage that has room and waits where it has none. An arrival fills its operand and leaves its
queue. A released task enters the first idle Easel of a POOLED Cartoon, or its flow's own Easel,
with its operands in the bank; an Easel in fault exit idles; and none is dispatched after the
boundary at which a stop takes effect. (R91, R125, R144, R145, R147, R148, R149, R151, R152, Table 3-4, Table 5-11) -/
def Obligations.OperandsAndReleases : Prop :=
  (∀ (n : Nat) (s : State), s.runsEpochs = true → s.twin.state ≠ .standbySyncing →
    n = s.time / max 1 s.epoch.length → (s.epoch.begun = false ∨ s.epoch.n < n) →
    (∀ x ∈ s.twin.entries, n < x.1) → ∃ t, exec .epochBoundary s = .next t ∧
      t.epoch.n = n ∧ t.epoch.nominal = n * max 1 s.epoch.length ∧ t.epoch.begun = true ∧
      t.epoch.judged = false ∧ t.epoch.ticked = false ∧ t.epoch.late = false ∧
      t.canvas = { s.canvas with due := s.canvas.due ++ s.canvas.incoming, incoming := [] } ∧
      t.stk = { s.stk with due := s.stk.due ++ s.stk.incoming, incoming := [] } ∧
      t.gdl = { s.gdl with due := s.gdl.due ++ s.gdl.incoming, incoming := [] } ∧
      (s.dsp.live = true → s.dsp.mode ≠ .swapPending →
        t.dsp.instances = s.dsp.instances.filter fun i => !i.full (s.task i.task).mask)) ∧
  (∀ s : State, s.runsEpochs = false ∨ (s.twin.state ≠ .standbySyncing ∧ s.epoch.begun = true ∧
    s.time / max 1 s.epoch.length ≤ s.epoch.n) → exec .epochBoundary s = .next s) ∧
  (∀ s : State, s.awake = true → s.dsp.live = true → s.epoch.begun = true → s.epoch.ticked = false →
    ∃ t, exec .taskTick s = .next t ∧ t.epoch = { s.epoch with ticked := true } ∧
      (∀ i j, s.tickDue i → s.dsp.instances.find? (·.task == i) = some j → j.slots.any (·.1 == (s.task i).slot) = false →
        ∃ j' ∈ t.dsp.instances, j'.task = i ∧ ((s.task i).slot, lo32 s.epoch.n) ∈ j'.slots) ∧
      ((∀ i, ¬ s.tickDue i) → t.dsp = s.dsp) ∧
      (s.taskCount = 1 → s.tickDue 0 → s.dsp.instances = [] →
        t.dsp.instances = [{ task := 0, slots := [((s.task 0).slot, lo32 s.epoch.n)] }]) ∧
      (s.taskCount = 1 → s.tickDue 0 → ∀ w, s.dsp.instances = [{ task := 0, slots := [((s.task 0).slot, w)] }] →
        t.dsp.instances = s.dsp.instances ∧ Logged t evTickOverrun 0 (s.epoch.n % 2 ^ 32) 0 0)) ∧
  (∀ (r : StageResult) (rest : List StageResult) (s : State), s.dsp.results = r :: rest →
    (s.dsp.active = true → r.task < s.taskCount → bitsOf (s.task r.task).mask r.slot 1 = 1 →
      s.dsp.quarantine.contains (s.task r.task).flow = false →
      (∀ i, s.dsp.instances.find? (·.task == r.task) = some i → i.slots.any (·.1 == r.slot) = false →
        ∃ t, exec .continuationResult s = .next t ∧ t.dsp.results = rest ∧
          t.dsp.instances = s.dsp.instances.map fun (j : Instance) =>
            if j.task = r.task then { j with slots := j.slots ++ [(r.slot, r.word)] } else j) ∧
      ((∀ i ∈ s.dsp.instances, i.task ≠ r.task) → s.dsp.used + slotCount (s.task r.task).mask ≤ 4096 →
        ∃ t, exec .continuationResult s = .next t ∧ t.dsp.results = rest ∧
          t.dsp.instances = insertInst { task := r.task, slots := [(r.slot, r.word)] } s.dsp.instances) ∧
      (∀ i, s.dsp.instances.find? (·.task == r.task) = some i → i.slots.any (·.1 == r.slot) = true →
        ∃ t, exec .continuationResult s = .next t ∧ t.dsp.results = rest ∧
          (s.task r.task).flow ∈ t.dsp.quarantine)) ∧
    (s.dsp.active = false ∨ s.taskCount ≤ r.task ∨ s.dsp.quarantine.contains (s.task r.task).flow = true →
      ∃ t, exec .continuationResult s = .next t ∧ t.dsp.results = rest ∧ t.dsp.instances = s.dsp.instances)) ∧
  (∀ (k : Fin 8) (r : FabReq) (rest : List FabReq) (s : State), s.awake = true → s.easels[k].fifo = r :: rest →
    s.dsp.reorder = [] →
    (r.op = .fgrant → s.canvas.incoming.length + bit s.hostTurn < 128 → ∃ t,
      exec (.fabricRequestDrain k) s = .next t ∧ t.easels[k].fifo = rest ∧
      t.canvas.incoming = s.canvas.incoming ++ [r]) ∧
    (r.op = .fgrant → 128 ≤ s.canvas.incoming.length + bit s.hostTurn → exec (.fabricRequestDrain k) s = .next s) ∧
    (r.op = .fstk → s.stk.incoming.length < 64 → ∃ t, exec (.fabricRequestDrain k) s = .next t ∧
      t.easels[k].fifo = rest ∧ t.stk.incoming = s.stk.incoming ++ [r]) ∧
    (r.op = .floop → s.gdl.incoming.length < 64 → ∃ t, exec (.fabricRequestDrain k) s = .next t ∧
      t.easels[k].fifo = rest ∧ t.gdl.incoming = s.gdl.incoming ++ [r]) ∧
    (r.op = .floop → 64 ≤ s.gdl.incoming.length → exec (.fabricRequestDrain k) s = .next s) ∧
    (r.op = .fpput ∨ r.op = .fpget → ∃ t, exec (.fabricRequestDrain k) s = .next t ∧ t.easels[k].fifo = rest ∧
      t.palette.jobs.length = s.palette.jobs.length + 1)) ∧
  (∀ (k : Fin 6) (sel : Nat) (w : Word) (rest : List (Nat × Word)) (c : Cartoon) (r : Route) (s : State),
    s.awake = true → s.dsp.active = true → s.dsp.inSwapEpoch = false → s.standby = false →
    s.dsp.running = some c → (s.dsp.arrivalQ (k + 1)).items = (sel, w) :: rest →
    c.route (k + 1) sel = some r → s.dsp.quarantine.contains (s.task r.task).flow = false →
    (∀ i, s.dsp.instances.find? (·.task == r.task) = some i → i.slots.any (·.1 == r.slot) = false →
      ∃ t, exec (.arrivalDrain k) s = .next t ∧ t.dsp.instances = s.dsp.instances.map fun (j : Instance) =>
          if j.task = r.task then { j with slots := j.slots ++ [(r.slot, w)] } else j) ∧
    ((∀ i ∈ s.dsp.instances, i.task ≠ r.task) → s.dsp.used + slotCount (s.task r.task).mask + 513 ≤ 4096 →
      ∃ t, exec (.arrivalDrain k) s = .next t ∧
        t.dsp.instances = insertInst { task := r.task, slots := [(r.slot, w)] } s.dsp.instances ∧
        ((s.dsp.arrivalQ (k + 1)).holdSince = none →
          (t.dsp.arrivalQ (k + 1)).items = rest ++ (s.dsp.arrivalQ (k + 1)).owed.take 1)) ∧
    (∀ i, s.dsp.instances.find? (·.task == r.task) = some i → i.slots.any (·.1 == r.slot) = true →
      ∃ t, exec (.arrivalDrain k) s = .next t ∧ t.dsp.instances = s.dsp.instances ∧
        (t.dsp.arrivalQ (k + 1)).items = (sel, w) :: rest)) ∧
  (∀ (k : Fin 8) (c : Cartoon) (r : Released) (l : List (Released × Nat)) (s : State), s.awake = true →
    s.dsp.running = some c → s.dsp.live = true → (∀ j : Fin 8, s.easels[j].run ≠ .faultExit) →
    s.firstRun (s.sortRel s.dsp.released) = (l, some r) → s.idle k = true →
    (c.pooled = true → ∀ j : Fin 8, j < k → s.idle j = false) →
    (c.pooled = false → ∀ x ∈ s.dsp.released, s.flowEasel (s.task x.task).flow = k.val) →
    ∃ t, exec .dispatchDecision s = .next t ∧ t.dsp.released = s.dsp.released.erase r ∧ t.easels[k].run = .running ∧
      (t.bank k).pc = (s.task r.task).entry ∧ (t.bank k).rg 5 = lo32 r.task ∧
      (t.bank k).rg 6 = lo32 (s.task r.task).flow ∧ (t.bank k).rg 7 = lo32 r.epoch ∧
      (∀ x : Fin 4, ∀ w, bitsOf (s.task r.task).mask x 1 = 1 → r.slots.find? (·.1 == x.val) = some (x.val, w) →
        (t.bank k).rg (Fin.ofNat 32 (x + 1)) = w) ∧
      (c.pooled = true → ∀ w, t.easels[k].defined w = false) ∧ (∀ j, j ≠ k → t.easels[j] = s.easels[j])) ∧
  (∀ (k : Fin 8) (s : State), s.awake = true → s.dsp.mode = .empty → s.easels[k].run = .faultExit →
    s.easels[k].shadow = none → ∃ t, exec .dispatchDecision s = .next t ∧ t.easels[k].run = .idle) ∧
  (∀ s : State, (∀ j : Fin 8, s.easels[j].run ≠ .faultExit) → s.dsp.mode = .stopping → s.dsp.stopEpoch < s.epoch.n →
    exec .dispatchDecision s = .next s)

/-- Each command under its role, in a unit that serves, or one that is no unit of a pair, and is not
busy, takes effect where R137 to R158 let it, with DSP_RESULT 0, and is otherwise refused by its
code with nothing else changed: 1 for want of the session, 22 in a unit of the pair that does
not serve, 13 while a command runs. LOAD empties the staging area; a failed read is refused with
17. START, of the staged or the stored Cartoon, and TEST_ENTER need EMPTY and a FLEET stop; the
Cartoon comes into force within the unit's radio band. STOP needs a running Cartoon and a FLEET
stop; at the stop's effect the dispatcher is empty and Easel locks are free. SWAP waits for its
epoch, and CANCEL_SWAP returns to RUNNING. (R137, R138, R140, R143, R155, R156, R158, R159, R401, Table 5-21) -/
def Obligations.CartoonCommands : Prop :=
  (∀ s : State, s.awake = true → ∀ c code rank shared,
    (c, code, rank, shared) ∈ [(Instr.load, 1, 2, true), (.start false, 2, 1, true), (.start true, 2, 1, true),
      (.stop, 3, 1, true), (.swap, 4, 2, true), (.cancelSwap, 5, 2, true), (.store, 6, 2, false),
      (.eraseStored 0, 7, 2, false), (.testEnter, 8, 2, true), (.testExit, 9, 2, false)] →
    ¬ s.takes rank shared → ∃ t, exec c s = .next t ∧ t.dsp.resCmd = code ∧
      t.dsp.resCode = (if s.pcieRole < rank then 1
        else if shared = true ∧ s.rbit rTwnCfg 0 = true ∧ s.serving = false then 22 else 13) ∧
      t.dsp.mode = s.dsp.mode ∧ t.dsp.staged = s.dsp.staged ∧ t.dsp.running = s.dsp.running ∧
      t.dsp.stored = s.dsp.stored) ∧
  (∀ s : State, s.takes 2 true →
    (s.dsp.mode ≠ .swapPending → exec .load s = .next (s.touch.modDsp fun d => { d with busy := 1, staged := none })) ∧
    (s.dsp.mode = .swapPending → ∃ t, exec .load s = .next t ∧ t.dsp.resCode = 13 ∧ t.dsp.staged = s.dsp.staged) ∧
    (∀ x, s.dsp.staged = some x → s.dsp.mode = .empty → s.fleet.fleetActive = true → s.startBad x.cartoon = none →
      ∃ t, exec .testEnter s = .next t ∧ t.dsp.mode = .test ∧ t.dsp.running = some (s.banded x.cartoon) ∧
        t.dsp.resCode = 0) ∧
    (s.dsp.mode ≠ .empty ∨ s.fleet.fleetActive = false → ∃ t, exec .testEnter s = .next t ∧ t.dsp.resCode = 13 ∧
      t.dsp.mode = s.dsp.mode) ∧
    (s.dsp.mode = .swapPending → ∃ t, exec .cancelSwap s = .next t ∧ t.dsp.mode = .running ∧ t.dsp.swapE = 0 ∧
      t.dsp.resCode = 0) ∧
    (s.dsp.mode ≠ .swapPending → ∃ t, exec .cancelSwap s = .next t ∧ t.dsp.mode = s.dsp.mode ∧ t.dsp.resCode = 13) ∧
    (∀ x old e, s.dsp.mode = .running → s.dsp.staged = some x → s.dsp.running = some old →
      x.cartoon.predIdentity = old.identity → x.cartoon.predVersion = old.version →
      swapCondition old x.cartoon = none → contractBad x.cartoon s.caps = none →
      s.swapEpochFor s.dsp.swapEpochReg = some e →
      ∃ t, exec .swap s = .next t ∧ t.dsp.mode = .swapPending ∧ t.dsp.swapE = e ∧ t.dsp.running = some old ∧
        t.dsp.resCode = 0) ∧
    (s.dsp.mode ≠ .running → ∃ t, exec .swap s = .next t ∧ t.dsp.mode = s.dsp.mode ∧ t.dsp.resCode = 13)) ∧
  (∀ s : State, s.takes 1 true →
    (s.dsp.mode ≠ .empty ∨ s.fleet.fleetActive = false → ∀ stored, ∃ t, exec (.start stored) s = .next t ∧
      t.dsp.resCode = 13 ∧ t.dsp.mode = s.dsp.mode) ∧
    (s.dsp.mode = .empty → s.fleet.fleetActive = true →
      (∀ x, s.dsp.staged = some x → s.startBad x.cartoon = none →
        ∃ t, exec (.start false) s = .next t ∧ t.dsp.mode = .running ∧ t.dsp.running = some (s.banded x.cartoon) ∧
          t.dsp.resCode = 0 ∧ t.dsp.startup = true ∧ t.atelier.mem = (s.banded x.cartoon).atelierImage) ∧
      (∀ c v, s.storedImage = (some c, v) → s.startBad c = none →
        ∃ t, exec (.start true) s = .next t ∧ t.dsp.mode = .running ∧ t.dsp.running = some (s.banded c) ∧
          t.dsp.resCode = 0)) ∧
    (s.dsp.live = true → s.fleet.fleetActive = true → ∃ t, exec .stop s = .next t ∧ t.dsp.mode = .stopping ∧
      t.dsp.stopRole = s.pcieRole ∧ t.dsp.stopEpoch = s.epoch.n) ∧
    (s.dsp.live = false ∨ s.fleet.fleetActive = false → ∃ t, exec .stop s = .next t ∧ t.dsp.mode = s.dsp.mode ∧
      t.dsp.resCode = 13)) ∧
  (∀ s : State, s.takes 2 false →
    (s.dsp.mode = .test → ∃ t, exec .testExit s = .next t ∧ t.dsp.mode = .stopping ∧ t.dsp.stopEpoch = s.epoch.n) ∧
    (s.dsp.mode ≠ .test → ∃ t, exec .testExit s = .next t ∧ t.dsp.mode = s.dsp.mode ∧ t.dsp.resCode = 13)) ∧
  (∀ (b : List Byte) (s : State), s.dsp.busy = 1 →
    (lengthOk s.dsp.loadLen = false → ∀ o, ∃ t, exec (.loadComplete o) s = .next t ∧ t.dsp.busy = 0 ∧
      t.dsp.resCode = 2 ∧ t.dsp.staged = s.dsp.staged) ∧
    (lengthOk s.dsp.loadLen = true →
      (∃ t, exec (.loadComplete none) s = .next t ∧ t.dsp.busy = 0 ∧ t.dsp.resCode = 17 ∧ t.dsp.staged = s.dsp.staged) ∧
      (∃ t, exec (.loadComplete (some b)) s = .next t ∧ t.dsp.busy = 0 ∧
        ((imageBad s.dsp.keys.toList s.caps (bytesAt b 0 s.dsp.loadLen) = none ∧ t.dsp.resCode = 0 ∧
          t.dsp.staged = some { cartoon := cartoonOf (bytesAt b 0 s.dsp.loadLen), bytes := bytesAt b 0 s.dsp.loadLen }) ∨
         (∃ v, imageBad s.dsp.keys.toList s.caps (bytesAt b 0 s.dsp.loadLen) = some v ∧ t.dsp.resCode = v.code ∧
          t.dsp.staged = s.dsp.staged))))) ∧
  (∀ s : State, s.dsp.busy ≠ 1 → ∀ o, exec (.loadComplete o) s = .next s) ∧
  (∀ s : State, (s.stopDue = true → ∃ t, exec .cartoonStopEffect s = .next t ∧ t.dsp.mode = .empty ∧
      t.dsp.instances = [] ∧ t.dsp.released = [] ∧ t.dsp.quarantine = [] ∧
      (∀ n, s.host.holder n < 8 → t.host.holder n = 15) ∧ (s.dsp.stopCmd ≠ 0 → t.dsp.resCode = 0)) ∧
    (s.stopDue = false → exec .cartoonStopEffect s = .next s))

/-- STORE erases the stored area, and its completion keeps the staged image or answers 21;
ERASE_STORED empties it. Autoload in a unit that serves: of no valid image is recorded and tried
once, and a valid one starts when the unit is fit. Work left at the swap boundary, or a late
epoch before it, defers the swap, at most 15 times; else the swap epoch begins, and with nothing
outstanding it swaps. Start-up ends by its event. A release of a quarantined flow waits for the
next epoch and then lifts the quarantine. A trace clear empties the trace, and only a MAKER
programs an empty key slot with twelve words or revokes one. (R93, R141, R142, R154, R156, R157, R160, R163, R3) -/
def Obligations.CartoonsStoredSwappedAndKeys : Prop :=
  (∀ s : State, s.takes 2 false →
    (s.dsp.staged.isSome = true → exec .store s =
      .next (s.touch.modDsp fun d => { d with busy := 6, storedValid := false, stored := [] })) ∧
    (s.dsp.staged = none → ∃ t, exec .store s = .next t ∧ t.dsp.resCode = 13 ∧ t.dsp.stored = s.dsp.stored) ∧
    (∀ status, ∃ t, exec (.eraseStored status) s = .next t ∧
      (status = 0 → t.dsp.stored = [] ∧ t.dsp.storedValid = false ∧ t.dsp.resCode = 0) ∧
      (status ≠ 0 → t.dsp.stored = s.dsp.stored ∧ t.dsp.resCode = 21))) ∧
  (∀ (status : BitVec 4) (x : StagedImage) (s : State), s.dsp.staged = some x →
    (s.dsp.busy = 6 → s.pwr.dip = false →
      ∃ t, exec (.storeComplete status) s = .next t ∧ t.dsp.busy = 0 ∧ t.dsp.resCode = (if status = 0 then 0 else 21) ∧
        t.dsp.storedValid = (if status = 0 then true else s.dsp.storedValid) ∧
        t.dsp.stored = (if status = 0 then x.bytes else s.dsp.stored)) ∧
    (s.dsp.busy ≠ 6 ∨ s.pwr.dip = true → exec (.storeComplete status) s = .next s)) ∧
  (∀ s : State, s.pwr.booted = true → s.dsp.autoloadDue = true → s.dsp.mode = .empty →
    (s.serving = true →
      (s.dsp.storedValid = false → ∃ t, exec .autoload s = .next t ∧ t.dsp.autoloadDue = false ∧ t.dsp.mode = .empty) ∧
      (s.dsp.storedValid = true → s.fit = true → ∃ t, exec .autoload s = .next t ∧ t.dsp.autoloadDue = false ∧
        ((imageBad s.dsp.keys.toList s.caps s.dsp.stored = none ∧ t.dsp.mode = .running ∧
          t.dsp.running = some (s.banded (cartoonOf s.dsp.stored))) ∨
         (imageBad s.dsp.keys.toList s.caps s.dsp.stored ≠ none ∧ t.dsp.mode = .empty ∧
          t.dsp.running = s.dsp.running))) ∧
      (s.dsp.storedValid = true → s.fit = false → ∃ t, exec .autoload s = .next t ∧ t.dsp.mode = .empty ∧
        (imageBad s.dsp.keys.toList s.caps s.dsp.stored = none ↔ t.dsp.autoloadDue = true))) ∧
    (s.serving = false → exec .autoload s = .next s)) ∧
  (∀ s : State, s.awake = true →
    (s.swapDue = true → (s.epoch.prevLate = true ∨ s.inService ≠ [] ∨ s.dsp.released ≠ []) →
      (s.dsp.deferrals < 15 → ∃ t, exec .swapEpoch s = .next t ∧
        t.dsp.deferrals = s.dsp.deferrals + 1 ∧ t.dsp.mode = .swapPending ∧ t.dsp.inSwapEpoch = false) ∧
      (15 ≤ s.dsp.deferrals → ∃ t, exec .swapEpoch s = .next t ∧
        t.dsp.mode = .running ∧ t.dsp.running = s.dsp.running)) ∧
    (s.swapDue = true → s.epoch.prevLate = false → s.inService = [] → s.dsp.released = [] →
      ∃ t, exec .swapEpoch s = .next t ∧ t.dsp.mode = .swapPending ∧ t.dsp.inSwapEpoch = true) ∧
    (∀ x old, s.dsp.mode = .swapPending → s.dsp.inSwapEpoch = true → s.outstanding = false →
      s.dsp.staged = some x → s.dsp.running = some old → ∃ t, exec .swapEpoch s = .next t ∧
        t.dsp.running = some (s.banded x.cartoon) ∧ t.dsp.mode = .running ∧ t.atelier = s.atelier ∧
        ∀ k : Fin 8, t.easels[k].imem = (s.banded x.cartoon).easelImage k ∧
          t.easels[k].scratch = s.easels[k].scratch) ∧
    (s.dsp.mode ≠ .swapPending → exec .swapEpoch s = .next s)) ∧
  (∀ (c : Cartoon) (s : State), s.dsp.running = some c →
    (s.dsp.startup = true → s.dsp.startupLeft = 0 → ∃ t, exec .startupEnd s = .next t ∧ t.dsp.startup = false ∧
      Logged t evStartupEnd c.identity (s.epoch.n % 2 ^ 32) 0 0) ∧
    (s.dsp.startup = false ∨ s.dsp.startupLeft ≠ 0 → exec .startupEnd s = .next s) ∧
    (∀ f role n, (s.dsp.releases.find? fun r => decide (r.2.2 < s.epoch.n)) = some (f, role, n) →
      s.dsp.live = true → s.dsp.inSwapEpoch = false → s.dsp.quarantine.contains f = true →
      ∃ t, exec .flowRestart s = .next t ∧ t.dsp.releases = s.dsp.releases.erase (f, role, n) ∧
        t.dsp.quarantine = s.dsp.quarantine.erase f ∧
        t.dsp.ordered = tblPut (fun _ => 0) s.dsp.ordered f c.startupEpochs ∧ Logged t evFlowReleased f role 0 0) ∧
    ((∀ r ∈ s.dsp.releases, s.epoch.n ≤ r.2.2) → exec .flowRestart s = .next s)) ∧
  (∀ (w : Word) (s : State), s.awake = true →
    (1 ≤ s.pcieRole → s.standby = false → flagOf w 31 = true →
      s.dsp.quarantine.contains (fieldOf w 0 9) = true → ∃ t, exec (.flowReleaseWrite w) s = .next t ∧
        t.dsp = { s.dsp with releases := s.dsp.releases ++ [(fieldOf w 0 9, s.pcieRole, s.epoch.n)] }) ∧
    (s.pcieRole = 0 → exec (.flowReleaseWrite w) s = .next s)) ∧
  (∀ (w : Word) (s : State), s.awake = true →
    (∃ t, exec (.traceClear w) s = .next t ∧ t.dsp.traceOn = flagOf w 0 ∧ t.dsp.traceStop = flagOf w 1 ∧
      (flagOf w 31 = true → t.dsp.trace = [] ∧ t.dsp.traceNext = 0 ∧ t.dsp.traceLost = 0) ∧
      (flagOf w 31 = false → t.dsp.trace = s.dsp.trace)) ∧
    exec (.dspKeyDataWrite w) s = .next (s.modDsp fun d => { d with keyWords := keepWord 12 d.keyWords w })) ∧
  (∀ (slot : Fin 4) (s : State), s.awake = true →
    (∃ t, exec (.dspKeyProgram slot) s = .next t ∧ t.dsp.keyWords = [] ∧
      (if 3 ≤ s.pcieRole ∧ s.dsp.keys[slot].state = 0 ∧ s.dsp.keyWords.length = 12 then
        t.dsp.keys[slot] = { state := 1, hash := s.dsp.keyWords.flatMap fun w => toBE 4 w.toNat }
       else t.dsp.keys = s.dsp.keys ∧ Logged t evCartoonKeyRefused slot 1 0 0)) ∧
    (∃ t, exec (.dspKeyRevoke slot) s = .next t ∧
      (if 3 ≤ s.pcieRole then t.dsp.keys[slot].state = 2 ∧ t.dsp.keys[slot].hash = s.dsp.keys[slot].hash
       else t.dsp.keys = s.dsp.keys ∧ Logged t evCartoonKeyRefused slot 2 0 0)))

/-- A well-formed GRANT at the head of the batch, of the host or of an Easel, whose checks and both
phases pass (its downlink slots among them) holds every cell of its path for its robot, becomes
a live QUEUED grant and is answered ACCEPTED; one that a check or Phase 1 refuses leaves no
grant, no hold and every cell as it was and is answered with that refusal. A commit cut short
keeps its undo log and makes no grant, and where one of its words was found uncorrectable
meanwhile it ends with no grant and changes only cells of its undo log. A WITHDRAW of a QUEUED
live grant is accepted, frees its cells outside the column of age 0, and no other generation's
grant changes. No GRANT, BLOCK or UNBLOCK turns a cell HELD by one robot into one HELD by
another, and a BLOCK or UNBLOCK that finds no uncorrectable word leaves every HELD cell as it
was and is answered ACCEPTED. The answer goes to the host port of the host's request, which is
busy with it, and is a result of an Easel's. (R180, R182, R183, R185, R186, R187, R194, R203, R206, Table 6-9, Table 6-10, Table 6-12) -/
def Obligations.GrantsHoldWholeOrNotAtAll : Prop :=
  (∀ (q : BatchReq) (rest : List BatchReq) (d : List Byte) (h : Desc) (s : State), s.canvas.commit = none →
    s.canvas.batch = q :: rest → (∀ x ∈ rest, ∃ r, x = .easel r) → s.descBytes q = some d → h = descOf d →
    s.standby = false → tblWf cellDefault s.canvas.cells = true → descForm d = true → badEntry s.canvas h = none →
    let answers := fun (t : State) (w : Word) =>
      (∀ b, q = .host b → s.canvas.hostBusy = true → t.canvas.hostResult = w ∧ t.canvas.hostBusy = false) ∧
      (∀ r : FabReq, q = .easel r → ∃ x ∈ t.dsp.results, x.task = r.task ∧ x.slot = r.slot ∧ x.word = w)
    (h.op = 0 → s.grantChecks h = none → ∀ p,
      p = Canvas.phase1 h.who h.gen [] 8194 (s.canvas.marks h) [] s.canvas → p.fail = none →
      2 ≤ s.air.dlCount h.who (s.canvas.tA + 1000000) (s.canvas.tA + h.deliver * 1000000) →
      ∃ t g, exec (.grant [] [] none) s = .next t ∧ answers t (BitVec.ofNat 32 (h.gen % 2 ^ 16)) ∧
        t.canvas.grants = s.canvas.grants ++ [g] ∧ g.robot = h.who ∧ g.gen = h.gen ∧
        g.state = .queued ∧ (t.canvas.robot h.who).lastGen = h.gen ∧
        ∀ m ∈ s.canvas.marks h, (t.canvas.cell m.cell).robotHeld h.who = true) ∧
    (h.op = 0 → ∀ r p, p = Canvas.phase1 h.who h.gen [] 8194 (s.canvas.marks h) [] s.canvas →
      (s.grantChecks h = some r ∨ (s.grantChecks h = none ∧ p.fail = some r) ∨
        (s.grantChecks h = none ∧ p.fail = none ∧ r = { code := 3 } ∧
          s.air.dlCount h.who (s.canvas.tA + 1000000) (s.canvas.tA + h.deliver * 1000000) < 2)) →
      ∃ t, exec (.grant [] [] none) s = .next t ∧ t.canvas.cells = s.canvas.cells ∧
        t.canvas.grants = s.canvas.grants ∧ t.canvas.holds = s.canvas.holds ∧
        answers t (resultWord r.code r.bank r.state r.detail h.gen)) ∧
    (h.op = 0 → s.grantChecks h = none → ∀ n p, n < (s.canvas.marks h).length →
      p = Canvas.phase1 h.who h.gen [] n (s.canvas.marks h) [] s.canvas → p.fail = none →
      ∃ t, exec (.grant [] [] (some n)) s = .next t ∧ t.canvas.grants = s.canvas.grants ∧
        t.canvas.commit = some { desc := d, todo := p.todo, undo := p.undo, second := false }) ∧
    (h.op = 1 → ∀ g ∈ s.canvas.liveOf s.canvas.kA h.who, g.gen = h.gen → g.state = .queued → g.voided = false →
      g.due = none → ∃ t, exec (.withdraw []) s = .next t ∧ answers t (BitVec.ofNat 32 (h.gen % 2 ^ 16)) ∧
        (∀ i, s.canvas.mine i = true → (t.canvas.cell i).heldBy h.who h.gen = false) ∧
        (∀ x ∈ s.canvas.grants, x.gen ≠ h.gen → x ∈ t.canvas.grants)) ∧
    (h.op = 2 → (h.halo = 128 → s.canvas.fits (sortNat (h.entries.map (·.square))) = true) →
      ∃ t, exec (.block []) s = .next t ∧ answers t (BitVec.ofNat 32 (h.gen % 2 ^ 16)) ∧
        (∀ i ∈ s.canvas.blockCells h, (t.canvas.cell i).state ≠ .free) ∧
        ∀ i, (s.canvas.cell i).state = .held → t.canvas.cell i = s.canvas.cell i) ∧
    (h.op = 3 →
      ∃ t, exec (.unblock []) s = .next t ∧ answers t (BitVec.ofNat 32 (h.gen % 2 ^ 16)) ∧
        ∀ i, (s.canvas.cell i).state = .held → t.canvas.cell i = s.canvas.cell i)) ∧
  (∀ (q : BatchReq) (rest : List BatchReq) (k : Commit) (bad1 bad2 : List (BitVec 21)) (upTo : Option Nat) (s : State),
    s.canvas.commit = some k → s.canvas.batch = q :: rest → s.standby = false →
    (∃ x ∈ k.undo, s.canvas.cell x.1 = Cell.blocked 3) → ∃ t, exec (.grant bad1 bad2 upTo) s = .next t ∧
      t.canvas.commit = none ∧ t.canvas.grants = s.canvas.grants ∧
      ∀ i, (∀ x ∈ k.undo, x.1 ≠ i) → t.canvas.cell i = s.canvas.cell i) ∧
  (∀ (bad1 bad2 : List (BitVec 21)) (upTo : Option Nat) (c : Instr) (s t : State),
    (c = .grant bad1 bad2 upTo ∨ c = .block bad1 ∨ c = .unblock bad1) →
    (∀ k, s.canvas.commit = some k → ∀ x ∈ k.undo, x.2.state = .held → x.2.who = (s.canvas.cell x.1).who) →
    exec c s = .next t →
    ∀ i, (s.canvas.cell i).state = .held → (t.canvas.cell i).state = .held →
      (t.canvas.cell i).who = (s.canvas.cell i).who)

/-- At its boundary the old now column of used squares reads FREE and no other cell changes; the
boundary waits for a commit. A sweep writes its own column only, its squares of the store and
FREE elsewhere but for a block set meanwhile, and one later than 8 ms is recorded. A batch takes
the reports and losses of earlier epochs, then the host's request, then the Easels'; a handled
report leaves the robot reported and not lost. A host request is taken while no other waits and
the unit serves, and answered 15 where it does not. Delivery outcomes are recorded at a later
boundary. A robot silent for LOST_TIME is lost and no cell of its region stays FREE but in the
column of age 0. The scrub counts what it finds. A probe shows the cell under the age of its
slot, VALID 0 where its word is uncorrectable, and a PCIe read of the Canvas each cell in turn. (R171, R172, R173, R174, R177, R192, R195, R200, R202, R207, R387, Table 6-5) -/
def Obligations.CanvasTimeReportsAndProbes : Prop :=
  (∀ s : State, (s.canvas.period ≠ 0 → s.canvas.commit = none → (s.canvas.k + 1) * s.canvas.periodNs ≤ s.time →
      ∃ t, exec .canvasSlotBoundary s = .next t ∧ t.canvas.k = s.canvas.k + 1 ∧
        (∀ q, s.canvas.used q = true → t.canvas.cell (q * 128 + s.canvas.now) = Cell.free) ∧
        (∀ i, i % 128 ≠ s.canvas.now → t.canvas.cell i = s.canvas.cell i)) ∧
    (s.canvas.commit.isSome = true ∨ s.time < (s.canvas.k + 1) * s.canvas.periodNs →
      exec .canvasSlotBoundary s = .next s)) ∧
  (∀ (x : Sweep) (rest : List Sweep) (s : State), s.canvas.sweeps = x :: rest → x.column < 128 →
    tblWf cellDefault s.canvas.cells = true →
    ∃ t, exec (.sweepComplete []) s = .next t ∧ t.canvas.sweeps = rest ∧
      (∀ i, i % 128 ≠ x.column → t.canvas.cell i = s.canvas.cell i) ∧
      (∀ q, s.canvas.used q = true → t.canvas.cell (q * 128 + x.column) =
        if q ∈ s.canvas.stored then s.canvas.background q
        else if (s.canvas.cell (q * 128 + x.column)).state = .blocked ∧
          0x80 ≤ (s.canvas.cell (q * 128 + x.column)).who then s.canvas.cell (q * 128 + x.column)
        else Cell.free)) ∧
  (∀ s : State,
    (∀ x, s.canvas.sweeps.find? (fun x => !x.late && decide (x.nominal + 8 * ms ≤ s.time)) = some x →
      ∃ t, exec .sweepLate s = .next t ∧
        t.canvas.sweeps = s.canvas.sweeps.map (fun y => if y = x then { y with late := true } else y) ∧
        Logged t evSweepLate x.column ((s.time - x.nominal) / ms) 0 0) ∧
    ((∀ x ∈ s.canvas.sweeps, x.late = true ∨ s.time < x.nominal + 8 * ms) → exec .sweepLate s = .next s)) ∧
  (∀ (host : List BatchReq) (s : State), s.canvas.batch = [] → s.batchReady = true → s.standby = false →
    host = (match s.canvas.hostReq with
      | some (e, d) => if e < s.epoch.n then [BatchReq.host d] else []
      | none => []) →
    ∃ t pre, exec .grantBatch s = .next t ∧ t.canvas.tA = s.epoch.nominal ∧ t.canvas.due = [] ∧
      t.canvas.cells = s.canvas.cells ∧
      t.canvas.reports = s.canvas.reports.filter (fun (r : CReport) => !decide (r.epoch < s.epoch.n)) ∧
      pre ++ t.canvas.batch = ({ s.canvas with tA := s.epoch.nominal }).losses.foldl (fun l x => insertLoss x l)
        ((s.canvas.reports.filter fun (r : CReport) => decide (r.epoch < s.epoch.n)).map BatchReq.report) ++ host ++
        (sortReqs s.canvas.due).map BatchReq.easel ∧
      (host = [] → s.canvas.due = [] → pre = [])) ∧
  (∀ s : State, s.canvas.batch ≠ [] → exec .grantBatch s = .next s) ∧
  (∀ (r : CReport) (rest : List BatchReq) (bad : List (BitVec 21)) (s : State), s.canvas.batch = .report r :: rest →
    ∃ t, exec (.reportHandling bad) s = .next t ∧ (rest = [] → t.canvas.batch = []) ∧
      (t.canvas.robot r.robot).lastReport = some r.time ∧ (t.canvas.robot r.robot).reported = true ∧
      (t.canvas.robot r.robot).joined = true ∧ (t.canvas.robot r.robot).lost = false) ∧
  (∀ (w : Word) (d : List Byte) (s : State), s.awake = true → 1 ≤ s.pcieRole → flagOf w 0 = true →
    (s.canvas.hostBusy = true → exec (.hostGrantGo w (some d)) s = .next s.touch) ∧
    (s.canvas.hostBusy = false → s.serving = true → s.canvas.incoming.length < 128 →
      ∃ t, exec (.hostGrantGo w (some d)) s = .next t ∧
        t.canvas = { s.canvas with hostReq := some (s.logEpoch, d), hostBusy := true }) ∧
    (s.canvas.hostBusy = false → s.serving = false → ∃ t, exec (.hostGrantGo w (some d)) s = .next t ∧
      t.canvas.hostResult = resultWord 15 0 0 0 (leAt d 2 2) ∧ t.canvas.hostReq = s.canvas.hostReq)) ∧
  (∀ (pre post : List Grant) (g : Grant) (e cause : Nat) (s : State), s.canvas.grants = pre ++ g :: post →
    (∀ x ∈ pre, x.due = none) → e < s.epoch.n →
    (g.due = some (.delivered, e) → ∃ t, exec .grantDelivered s = .next t ∧ g ∉ t.canvas.grants ∧
      (∀ x ∈ t.canvas.grants, x ∈ s.canvas.grants ∨ x = { g with state := .delivered, due := none }) ∧
      Logged t evGrantDelivered g.robot g.gen g.tag g.frames) ∧
    (g.due = some (.undelivered cause, e) → ∃ t, exec .grantUndelivered s = .next t ∧ g ∉ t.canvas.grants ∧
      (∀ x ∈ t.canvas.grants, x ∈ s.canvas.grants ∨ x = { g with state := .undelivered, due := none }) ∧
      Logged t evGrantUndelivered g.robot g.gen g.tag cause)) ∧
  (∀ s : State, (∀ g ∈ s.canvas.grants, g.due = none) → exec .grantDelivered s = .next s ∧
    exec .grantUndelivered s = .next s) ∧
  (∀ (r : BitVec 8) (t0 m : Nat) (rest : List BatchReq) (s : State), s.canvas.batch = .lost r.toNat m :: rest →
    s.standby = false → (s.canvas.robot r.toNat).lastReport = some t0 → (s.canvas.robot r.toNat).lost = false →
    t0 + s.canvas.lostTime * 10 * ms = m →
    ∃ t, exec (.robotLost r []) s = .next t ∧ (t.canvas.robot r.toNat).lost = true ∧
      (s.canvas.fits (s.lostSquares r.toNat) = true → ∀ q ∈ s.lostSquares r.toNat, ∀ j < 128,
        s.canvas.mine (q * 128 + j) = true → (t.canvas.cell (q * 128 + j)).state ≠ .free) ∧
      (∀ i, (s.canvas.cell i).state ≠ .free → t.canvas.cell i = s.canvas.cell i)) ∧
  (∀ s : State, ∃ t, exec .persistRemainderApplied s = .next t ∧
    (t.canvas.persistFull = true ↔ ∃ h ∈ t.canvas.holds, h.rest ≠ []) ∧
    ((∀ h ∈ s.canvas.holds, h.rest = []) → t.canvas = { s.canvas with persistFull := false })) ∧
  (∀ s : State, exec (.canvasScrub .ok) s = .next (s.modCanvas fun c => { c with scrubAt := (c.scrubAt + 1) % 2 ^ 21 }) ∧
    (∃ t, exec (.canvasScrub .corrected) s = .next t ∧ t.canvas.eccCorr = satAdd 16 s.canvas.eccCorr 1 ∧
      t.canvas.cells = s.canvas.cells) ∧
    (∃ t, exec (.canvasScrub .uncorrectable) s = .next t ∧ t.canvas.eccUncorr = satAdd 16 s.canvas.eccUncorr 1 ∧
      ∀ j < 4, s.canvas.used ((4 * s.canvas.scrubAt + j) / 128) = true →
        t.canvas.cell (4 * s.canvas.scrubAt + j) = Cell.blocked 3)) ∧
  (∀ (cell : BitVec 23) (m : Ecc) (s : State), s.dpUp = true → ∃ t, exec (.dpCanvasProbe cell m) s = .next t ∧
    t.host.dpProbes = satAdd 16 s.host.dpProbes 1 ∧
    (m ≠ .uncorrectable → t.canvas = s.canvas ∧ t.ev.out = .busRead (presented true (m == .corrected)
      (ageOf s.canvas.now (cell.toNat % 128)) (s.canvas.cell cell.toNat).word).toNat :: s.ev.out) ∧
    (m = .uncorrectable → t.host.dpInvalid = satAdd 16 s.host.dpInvalid 1 ∧ t.ev.out.head? = some (.busRead
      (presented false false (ageOf s.canvas.now (cell.toNat % 128)) 0xC003).toNat))) ∧
  (∀ (cell : BitVec 23) (n : Nat) (s : State), n ≤ 16 →
    (s.dpUp = true → ∃ t, exec (.pcieCanvasRead (0x2000000 + 4 * cell.toNat) n []) s = .next t ∧ t.canvas = s.canvas ∧
      t.ev.out = ((List.range n).map fun j => .busRead (presented true false
        (ageOf s.canvas.now ((cell.toNat + j) % 128)) (s.canvas.cell (cell.toNat + j)).word).toNat).reverse ++ s.ev.out) ∧
    (s.dpUp = false → ∃ t, exec (.pcieCanvasRead (0x2000000 + 4 * cell.toNat) n []) s = .next t ∧
      t.ev.out = List.replicate n (.busRead 0) ++ s.ev.out)) ∧
  (∀ (addr n : Nat) (ms : List Ecc) (s : State), 16 < n →
    exec (.pcieCanvasRead addr n ms) s = .next (s.put .unsupported))

/-- A stroke batch takes the requests of ended epochs in dispatch order at the boundary's plan time,
the gates' after them, and every robot that a stop of an ended epoch covers is held. A request
at the head, of a robot or a drive channel, leaves the batch with its status in the result word,
6 where the channel does not take the command. MOVE_POS and MOVE_SPEED make the planned stroke
the channel's, a target behind makes it brake with status 1, and both are refused with 8 under a
stop and MOVE_POS with 5 off the route; STOP brakes to rest, a reversing stroke at its turn, and
changes no braking of its own; RESUME takes the kept target, and with nothing remaining is
refused with 7 and off the route with 5; SET_PROFILE takes an existing profile; SET_ROUTE is
refused with 9 in motion and otherwise rests on the route, at a position nothing is told of;
SYNC takes the last report or is refused with 10; CORRIDOR of a speed stroke is refused with 2,
and otherwise writes its count and entries into the Atelier or nothing. (R216, R217, R219, R220, R221, R222, R223, R224, R228, R229, R448, Table 7-5) -/
def Obligations.StrokeRequests : Prop :=
  (∀ s : State, s.stk.batch = [] → s.batchReady = true → ∃ t pre, exec .strokeBatch s = .next t ∧
      t.stk.due = [] ∧ t.stk.tp = s.epoch.nominal ∧ t.gdl.due = [] ∧
      pre ++ t.stk.batch = (sortReqs s.stk.due).map StkReq.easel ++
        (s.stk.gates.filter fun (x : Nat × Nat × Bool) => decide (x.1 < s.epoch.n)).map
          (fun x => StkReq.gate x.2.1 x.2.2) ∧
      ((∀ r ∈ s.stk.due, fieldOf r.value 28 4 < 8) → pre = []) ∧
      (∀ e r seq, (e, StkInput.stop r seq) ∈ s.stk.inputs → e < s.epoch.n →
        (tblGet chanDefault t.stk.chans r).held = true)) ∧
  (∀ s : State, s.stk.batch ≠ [] → exec .strokeBatch s = .next s) ∧
  (∀ (q : StkReq) (rest : List StkReq) (ch arg : Nat) (c : Chan) (s : State), s.stk.batch = q :: rest →
    ch = q.chan → arg = q.arg → c = tblGet chanDefault s.stk.chans ch →
    let answered := fun (t : State) (st detail : Nat) (rev : Bool) => (∃ pre, rest = pre ++ t.stk.batch) ∧
      ∀ r : FabReq, q = .easel r → ∃ more, t.dsp.results = s.dsp.results ++ StageResult.mk 1 r.task r.slot
        (pack [(28, 4, st), (19, 9, ch), (18, 1, bit rev), (0, 16, detail)]) :: more
    (s.accepts q = false → ∀ cmd i, (cmd, i) ∈ [(0, Instr.movePos), (1, .moveSpeed), (2, .strokeStop), (3, .resume),
        (4, .corridor), (5, .setProfile), (6, .setRoute), (7, .sync)] → q.cmd = cmd →
      ∃ t, exec i s = .next t ∧ t.stk.chans = s.stk.chans ∧ answered t 6 0 false) ∧
    (s.accepts q = true → ∀ (p : Profile) (rt : RouteDef) (pl : Int × Int × Int), s.profileOf ch c.profile = some p →
      (ch < 256 → c.route.bind s.routeOf = some rt) → pl = c.stroke.at s.stk.tp →
      (q.cmd = 0 → c.held = false → ∀ target : Nat,
        (∀ r, q = .easel r → target = if ch < 256 then arg * 8 else arg * 16) →
        (∀ (d : Fin 8) (o : Bool), q = .gate d o → target = s.drv.ch[d].gatePos o) →
        (∀ d o, q = .gate d o → d < 8) →
        ((ch < 256 → rt.covers target = true) →
          ((planPos p pl.1 pl.2.1 pl.2.2 (target * fx)).behind = false → ∃ t, exec .movePos s = .next t ∧
            (tblGet chanDefault t.stk.chans ch).stroke.segs = (planPos p pl.1 pl.2.1 pl.2.2 (target * fx)).segs ∧
            (tblGet chanDefault t.stk.chans ch).target = target ∧
            (tblGet chanDefault t.stk.chans ch).stroke.kind = .position ∧
            answered t 0 (detailOf (planPos p pl.1 pl.2.1 pl.2.2 (target * fx)).segs)
              (planPos p pl.1 pl.2.1 pl.2.2 (target * fx)).reversed) ∧
          ((planPos p pl.1 pl.2.1 pl.2.2 (target * fx)).behind = true → ∃ t, exec .movePos s = .next t ∧
            (tblGet chanDefault t.stk.chans ch).stroke.kind = .braking ∧
            (tblGet chanDefault t.stk.chans ch).kept = false ∧
            answered t 1 (detailOf (planPos p pl.1 pl.2.1 pl.2.2 (target * fx)).segs) false)) ∧
        (ch < 256 → rt.covers target = false → ∃ t, exec .movePos s = .next t ∧ t.stk.chans = s.stk.chans ∧
          answered t 5 0 false)) ∧
      (c.held = true → ∀ cmd i, (cmd, i) ∈ [(0, Instr.movePos), (1, .moveSpeed)] → q.cmd = cmd →
        ∃ t, exec i s = .next t ∧ t.stk.chans = s.stk.chans ∧ answered t 8 0 false) ∧
      (q.cmd = 1 → c.held = false → ∀ w : Int,
        w = max (-(p.v * fx)) (min (signedOf 19 arg * (if ch < 256 then 1 else 64) * fx) (p.v * fx)) →
        (planSpeed p pl.1 pl.2.1 pl.2.2 w).behind = false → ∃ t, exec .moveSpeed s = .next t ∧
          (tblGet chanDefault t.stk.chans ch).stroke.segs = (planSpeed p pl.1 pl.2.1 pl.2.2 w).segs ∧
          (tblGet chanDefault t.stk.chans ch).stroke.kind = .speed ∧
          answered t 0 (detailOf (planSpeed p pl.1 pl.2.1 pl.2.2 w).segs) (planSpeed p pl.1 pl.2.1 pl.2.2 w).reversed) ∧
      (q.cmd = 2 → arg = 0 →
        (c.held = false → (c.stroke.kind ≠ .braking ∨ c.kept = true) → c.stroke.turning s.stk.tp = false →
          ∃ t, exec .strokeStop s = .next t ∧ (tblGet chanDefault t.stk.chans ch).stroke.kind = .braking ∧
            (tblGet chanDefault t.stk.chans ch).stroke.segs = (planBrake p.a p.j pl.1 pl.2.1 pl.2.2).1 ∧
            (tblGet chanDefault t.stk.chans ch).stroke.endSpeed = 0 ∧ answered t 0 0 false) ∧
        (c.held = false → (c.stroke.kind ≠ .braking ∨ c.kept = true) → c.stroke.turning s.stk.tp = true →
          ∃ t, exec .strokeStop s = .next t ∧ (tblGet chanDefault t.stk.chans ch).stroke.kind = .braking ∧
            (tblGet chanDefault t.stk.chans ch).stroke.endSpeed = 0 ∧
            (tblGet chanDefault t.stk.chans ch).remain = 0 ∧ answered t 0 0 false) ∧
        (c.held = true ∨ (c.stroke.kind = .braking ∧ c.kept = false ∧ c.stroke.moving s.stk.tp = true) →
          ∃ t, exec .strokeStop s = .next t ∧ t.stk.chans = s.stk.chans ∧ answered t 0 0 false)) ∧
      (q.cmd = 3 → arg = 0 → c.held = false →
        (c.remain = 0 → ∃ t, exec .resume s = .next t ∧ t.stk.chans = s.stk.chans ∧ answered t 7 0 false) ∧
        (c.remain ≠ 0 → (ch < 256 → rt.covers c.target = true) →
          (planPos p pl.1 pl.2.1 pl.2.2 (c.target * fx)).behind = false → ∃ t, exec .resume s = .next t ∧
            (tblGet chanDefault t.stk.chans ch).remain = 0 ∧
            (tblGet chanDefault t.stk.chans ch).stroke.segs = (planPos p pl.1 pl.2.1 pl.2.2 (c.target * fx)).segs) ∧
        (c.remain ≠ 0 → ch < 256 → rt.covers c.target = false → ∃ t, exec .resume s = .next t ∧
          t.stk.chans = s.stk.chans ∧ answered t 5 0 false)) ∧
      (q.cmd = 4 → arg < 2 ^ 17 → c.held = false →
        (c.stroke.kind = .speed → ∃ t, exec .corridor s = .next t ∧ t.atelier = s.atelier ∧ answered t 2 0 false) ∧
        (c.stroke.kind ≠ .speed → ∀ st es, corridor p rt (c.stroke.from s.stk.tp) s.canvas.periodNs = (st, es) →
          (st = 0 → inAtelier (atlBase + 32 * arg) (32 + 4 * es.length) = true → ∃ t, exec .corridor s = .next t ∧
            t.atelier = (s.atelier.write (atlBase + 32 * arg + 4) (toLE 2 es.length)).write (atlBase + 32 * arg + 32)
              (es.flatMap (toLE 4)) ∧ answered t 0 es.length false) ∧
          (st ≠ 0 → ∃ t, exec .corridor s = .next t ∧ t.atelier = s.atelier ∧ answered t st 0 false)))) ∧
    (s.accepts q = true → q.cmd = 5 → (∀ x, s.profileOf ch arg = some x → ∃ t, exec .setProfile s = .next t ∧
        t.stk.chans = tblMod chanDefault s.stk.chans ch (fun c => { c with profile := arg }) ∧ answered t 0 0 false) ∧
      (s.profileOf ch arg = none → ∃ t, exec .setProfile s = .next t ∧ t.stk.chans = s.stk.chans ∧
        answered t 6 0 false)) ∧
    (s.accepts q = true → q.cmd = 6 → arg < 256 → (s.routeOf arg).isSome = true →
      ((c.stroke.at s.stk.tp).2.1 ≠ 0 → ∃ t, exec .setRoute s = .next t ∧ t.stk.chans = s.stk.chans ∧
        answered t 9 0 false) ∧
      ((c.stroke.at s.stk.tp).2.1 = 0 → ∃ t, exec .setRoute s = .next t ∧ answered t 0 0 false ∧
        (tblGet chanDefault t.stk.chans ch).route = some arg ∧
        (tblGet chanDefault t.stk.chans ch).stroke.segs = [] ∧
        (tblGet chanDefault t.stk.chans ch).stroke.endSpeed = 0)) ∧
    (s.accepts q = true → q.cmd = 7 → arg = 0 →
      (c.lastS = none → ∃ t, exec .sync s = .next t ∧ t.stk.chans = s.stk.chans ∧ answered t 10 0 false) ∧
      (∀ x, c.lastS = some x → ∃ t, exec .sync s = .next t ∧ answered t 0 0 false ∧
        (tblGet chanDefault t.stk.chans ch).stroke.endPos = x * fx ∧
        (tblGet chanDefault t.stk.chans ch).stroke.segs = [] ∧
        (tblGet chanDefault t.stk.chans ch).remain = if c.kept then c.target - x else 0)))

/-- A submission at the head of the loop batch is answered by its status: ENABLE of a guidance or a
drive loop sets it with its integrators at 0, 3 where its Glaze table is another route's, 2 for
a descriptor that does not exist; DISABLE, RESET and LEARN change an enabled loop and answer 4
for a disabled one, GLAZE_CLEAR empties one table. A report whose turn it is leaves the list: of
a disabled loop it changes no loop, a stale one is counted, and one taken keeps each integrator
and every new trim within its descriptor's limits; under a stop it forms no trim and the
integrators hold. At its phase the last trim staged in time for a robot in the slot is released,
a late or missing one counts as a late output, and none gives the no-update marker; a drive's
duties are released at a period centre, once; and a time-pulse value has its phase at its own
edge. A drive loop block runs once when it is due, and stages duties within DUTY_MAX. (R46, R230, R231, R233, R234, R235, R236, R237, R238, R241, R242, Table 7-15) -/
def Obligations.GuidanceLoops : Prop :=
  (∀ (r : FabReq) (rest : List FabReq) (loop arg : Nat) (s : State), s.gdl.batch = r :: rest →
    loop = fieldOf r.value 19 9 → loop ≤ 271 → arg = fieldOf r.value 0 19 →
    let answered := fun (t : State) (st : Nat) => (∃ pre, rest = pre ++ t.gdl.batch) ∧
      ∃ more, t.dsp.results = s.dsp.results ++ StageResult.mk 2 r.task r.slot (loopWord st loop) :: more
    (fieldOf r.value 28 4 = 0 → arg < 2 ^ 16 → bitsOf arg 6 2 = 0 → ∀ on learn mis,
      on = (bitsOf arg 14 1 == 1) → learn = (bitsOf arg 15 1 == 1) →
      ((on = true ∨ learn = true) → bitsOf arg 8 6 < (loopsHdr s.loops).zc) →
      mis = ((on || learn) && (if loop < 256 then (tblGet chanDefault s.stk.chans loop).route else none) !=
        some (glazeAt s.loops (bitsOf arg 8 6)).route) →
      (bitsOf arg 0 6 < (if loop < 256 then (loopsHdr s.loops).gc else (loopsHdr s.loops).dc) →
        ∃ t, exec .loopEnable s = .next t ∧ answered t (if mis = true then 3 else 0) ∧
          (t.gdl.loop loop).enabled = true ∧ (t.gdl.loop loop).desc = bitsOf arg 0 6 ∧ (t.gdl.loop loop).iS = 0 ∧
          (t.gdl.loop loop).iY = 0 ∧ (t.gdl.loop loop).glazeOn = (on && !mis) ∧
          (t.gdl.loop loop).learn = learn) ∧
      ((if loop < 256 then (loopsHdr s.loops).gc else (loopsHdr s.loops).dc) ≤ bitsOf arg 0 6 →
        ∃ t, exec .loopEnable s = .next t ∧ answered t 2 ∧ t.gdl.loops = s.gdl.loops)) ∧
    (fieldOf r.value 28 4 = 1 → arg = 0 →
      ((s.gdl.loop loop).enabled = true → ∃ t, exec .loopDisable s = .next t ∧ answered t 0 ∧
        t.gdl.loops = tblMod loopDefault s.gdl.loops loop (fun l => { l with enabled := false }) ∧
        t.gdl.trims = s.gdl.trims.filter (·.robot != loop)) ∧
      ((s.gdl.loop loop).enabled = false → ∃ t, exec .loopDisable s = .next t ∧ answered t 4 ∧
        t.gdl.loops = s.gdl.loops ∧ t.gdl.trims = s.gdl.trims)) ∧
    (fieldOf r.value 28 4 = 2 → arg = 0 →
      ((s.gdl.loop loop).enabled = true →
        ∃ t, exec .loopReset s = .next t ∧ answered t 0 ∧ (t.gdl.loop loop).iS = 0 ∧
          (t.gdl.loop loop).iY = 0 ∧ (t.gdl.loop loop).enabled = true) ∧
      ((s.gdl.loop loop).enabled = false → ∃ t, exec .loopReset s = .next t ∧ answered t 4 ∧
        t.gdl.loops = s.gdl.loops)) ∧
    (fieldOf r.value 28 4 = 3 → loop = 0 → arg < (loopsHdr s.loops).zc →
      ∃ t, exec .glazeClear s = .next t ∧ answered t 0 ∧
        (∀ b < 256, t.gdl.bin arg b = 0) ∧ (∀ z b, z ≠ arg → b < 256 → t.gdl.bin z b = s.gdl.bin z b)) ∧
    (fieldOf r.value 28 4 = 4 → arg < 2 →
      ((s.gdl.loop loop).enabled = true → ∃ t, exec .learn s = .next t ∧ answered t 0 ∧
        (t.gdl.loop loop).learn = (arg == 1)) ∧
      ((s.gdl.loop loop).enabled = false → ∃ t, exec .learn s = .next t ∧ answered t 4 ∧
        t.gdl.loops = s.gdl.loops))) ∧
  (∀ (x : GdlReport) (rest : List GdlReport) (s : State), s.gdl.reports = x :: rest →
    (s.time < x.slotEnd ∨ s.clearsFirst x = true → exec .guidanceReport s = .next s) ∧
    (x.slotEnd ≤ s.time → s.clearsFirst x = false →
      ((s.gdl.loop x.robot).enabled = false → ∃ t, exec .guidanceReport s = .next t ∧
        t.gdl = { s.gdl with reports := rest }) ∧
      ((s.gdl.loop x.robot).enabled = true → x.stale = true → ∃ t, exec .guidanceReport s = .next t ∧
        t.gdl = { s.gdl with reports := rest, stale := satAdd 12 s.gdl.stale 1 }) ∧
      (∀ g, (s.gdl.loop x.robot).enabled = true → s.gdesc (s.gdl.loop x.robot).desc = some g → x.stale = false →
        ∃ t, exec .guidanceReport s = .next t ∧ t.gdl.reports = rest ∧
          t.gdl.computed = satAdd 10 s.gdl.computed 1 ∧ (t.gdl.loop x.robot).eY = x.eY ∧
          (s.fleet.covered x.robot = true → t.gdl.trims = s.gdl.trims ∧
            (t.gdl.loop x.robot).iS = (s.gdl.loop x.robot).iS ∧ (t.gdl.loop x.robot).iY = (s.gdl.loop x.robot).iY) ∧
          (s.fleet.covered x.robot = false → |(t.gdl.loop x.robot).iS| ≤ g.iMaxS ∧
            |(t.gdl.loop x.robot).iY| ≤ g.iMaxY ∧
            (s.onRoute x = true → s.phasePassed x = false → ∃ y : Trim, t.gdl.trims = s.gdl.trims ++ [y] ∧
              y.robot = x.robot ∧ y.slotEnd = x.slotEnd ∧ y.ready = s.time ∧ |y.v| ≤ g.trimV ∧ |y.k| ≤ g.trimK) ∧
            (s.onRoute x = false ∨ s.phasePassed x = true → t.gdl.trims = s.gdl.trims))))) ∧
  (∀ (r : Fin 256) (c : Fin 2) (phase : Nat) (s : State), (s.air.downNow c).any (·.station == r.val) = true →
    (∀ c', c' ≠ c → (s.air.downNow c').any (·.station == r.val) = false) → phase = s.air.spanStart c →
    (∀ p x, tblGet (fun _ => none) s.gdl.out r.val = some (p, x) → p ≠ phase) →
    (s.gdl.loop r).enabled = true → s.fleet.covered r = false →
    let owed := s.gdl.reports.any fun x => x.robot == r.val && decide (x.slotEnd + 400000 ≤ phase) && s.trimDue x
    let elig := s.gdl.trims.filter fun x => x.robot == r.val && decide (x.slotEnd + 400000 ≤ phase)
    ∃ t, exec (.outputPhase 0 r) s = .next t ∧
      t.gdl.trims = s.gdl.trims.filter (fun x => !(x.robot == r.val && decide (x.slotEnd + 400000 ≤ phase))) ∧
      (∀ x, owed = false → elig.getLast? = some x → x.ready + 200 ≤ phase →
        t.gdl.out = tblPut (fun _ => none) s.gdl.out r (some (phase, some (x.v, x.k))) ∧ t.tfc = s.tfc) ∧
      ((owed = true ∨ ∃ x, elig.getLast? = some x ∧ phase < x.ready + 200) →
        t.gdl.out = tblPut (fun _ => none) s.gdl.out r (some (phase, none)) ∧
        t.tfc.lateOut = satAdd 32 s.tfc.lateOut 1 ∧ t.epoch.outLate = true) ∧
      (owed = false → elig = [] →
        t.gdl.out = tblPut (fun _ => none) s.gdl.out r (some (phase, none)) ∧ t.tfc = s.tfc)) ∧
  (∀ (d : Fin 8) (centre : Nat) (s : State), centre = s.time / 50000 →
    (centre ≤ s.drv.ch[d].centre → exec (.outputPhase 1 d) s = .next s) ∧
    (s.drv.ch[d].centre < centre → ∃ t, exec (.outputPhase 1 d) s = .next t ∧ t.drv.ch[d].centre = centre ∧
      t.drv.ch[d].a.staged = none ∧ t.drv.ch[d].b.staged = none ∧
      t.drv.ch[d].a.duty = (if (s.gdl.loop (256 + 2 * d.val)).enabled && !s.drv.ch[d].suspended
        then (s.drv.ch[d].a.readyAt centre).getD s.drv.ch[d].a.duty else 0) ∧
      t.drv.ch[d].b.duty = (if (s.gdl.loop (257 + 2 * d.val)).enabled && !s.drv.ch[d].suspended
        then (s.drv.ch[d].b.readyAt centre).getD s.drv.ch[d].b.duty else 0))) ∧
  (∀ (i : Nat) (s : State), exec (.outputPhase 2 i) s = .next s) ∧
  (∀ s : State, (s.drv.blockDue = false → exec .driveLoopBlock s = .next s) ∧
    (s.drv.blockDue = true → ∃ t, exec .driveLoopBlock s = .next t ∧ t.drv.blockDue = false ∧
      ∀ d : Fin 8, s.drv.ch[d].suspended = false →
        ((s.gdl.loop (256 + 2 * d.val)).enabled = true →
          (s.gdl.loop (256 + 2 * d.val)).desc < (loopsHdr s.loops).dc →
          ∃ u, t.drv.ch[d].a.staged = some (u, s.time) ∧
            |u| ≤ (ddescAt s.loops (s.gdl.loop (256 + 2 * d.val)).desc).dutyMax) ∧
        ((s.gdl.loop (256 + 2 * d.val)).enabled = false → t.drv.ch[d].a = s.drv.ch[d].a) ∧
        ((s.gdl.loop (257 + 2 * d.val)).enabled = true →
          (s.gdl.loop (257 + 2 * d.val)).desc < (loopsHdr s.loops).dc →
          ∃ u, t.drv.ch[d].b.staged = some (u, s.time) ∧
            |u| ≤ (ddescAt s.loops (s.gdl.loop (257 + 2 * d.val)).desc).dutyMax)))

/-- A frame that is no station frame is counted BAD, one from no entry UNKNOWN, and one whose
integrity code fails is counted and recorded; none of them is taken, and none is heard without
the air MAC or under the blanking. A verified new frame within its window, with room, waits for
delivery in a unit that serves and makes its station KNOWN; without room it is not taken; a
standby forwards it. A REPORT gives its packet and, of an assigned robot, one Canvas report,
UDATA its packet alone, and a JOIN of a new address a NEW entry or LEARN_FULL. An Imm-Ack of a
GRANT frame makes its outcome DELIVERED, and a standby forwards it. Ageing, provisioning,
clearing, tombstones and the scrub change the entry as R276 to R279 say, the last four registers
under their role only; the fourth key word stores the key AIR_KEY_CTL selects. (R248, R249, R265, R271, R272, R274, R276, R277, R279, R281, R289, R294) -/
def Obligations.StationFrames : Prop :=
  (∀ (chain : Fin 2) (channel : Fin 16) (rssi : BitVec 8) (b : List Byte) (s : State) (sfd : Nat),
    sfd = s.sfdStamp chain channel →
    (s.airOn = false ∨ s.blanked chain sfd b.length = true →
      exec (.stationFrameReceived chain channel rssi b) s = .next s) ∧
    (s.airOn = true → s.blanked chain sfd b.length = false →
      (parseMpdu s.panId b = none → exec (.stationFrameReceived chain channel rssi b) s =
        .next (s.modAir fun a => { a with bad := satAdd 8 a.bad 1 })) ∧
      (∀ m i e, parseMpdu s.panId b = some m → m.level = 6 → m.short = some (0x100 + i) → e = s.air.station chain i →
        (1024 ≤ i ∨ e.state = 0 ∨ e.state = 3 → exec (.stationFrameReceived chain channel rssi b) s =
          .next (s.modAir fun a => { a with unknown := satAdd 8 a.unknown 1 })) ∧
        (i < 1024 → (e.state = 1 ∨ e.state = 2) → ∀ fc, fc = frameCounter s.air.superframe (s.air.spanSlot chain.val) 0 →
          (ccmOpen (s.keyOf chain.val i) (nonceOf e.ext fc 6) m.hdr m.body m.mic = none →
            ∃ t type, exec (.stationFrameReceived chain channel rssi b) s = .next t ∧ t.air.rx = s.air.rx ∧
              t.air.sec = satAdd 8 s.air.sec 1 ∧
              Logged t evSecurityFail chain.val (if chain.val = 0 then 11 + channel.val else 0) i type) ∧
          (∀ pl o, ccmOpen (s.keyOf chain.val i) (nonceOf e.ext fc 6) m.hdr m.body m.mic = some pl →
            stationPayloadOk false (decide (i < 256)) pl = true → s.air.offsetOf chain i sfd = some o →
            o.natAbs ≤ s.air.window chain i e o sfd → e.isDup m.seq s.air.superframe = false →
            (s.serving = true →
              (∀ x : Rx, x.payload = pl → x.station = i → x.chain = chain.val →
                x.channel = (if chain.val = 0 then 11 + channel.val else 0) → s.rxRoom chain x = true) →
              ∃ t x, exec (.stationFrameReceived chain channel rssi b) s = .next t ∧ t.air.rx = s.air.rx ++ [x] ∧
                x.station = i ∧ x.payload = pl ∧ x.seq = m.seq ∧ x.sfd = sfd ∧ (t.air.station chain i).state = 2) ∧
            (s.serving = true →
              (∀ x : Rx, x.payload = pl → x.station = i → x.chain = chain.val →
                x.channel = (if chain.val = 0 then 11 + channel.val else 0) → s.rxRoom chain x = false) →
              ∃ t, exec (.stationFrameReceived chain channel rssi b) s = .next t ∧ t.air.rx = s.air.rx) ∧
            (s.standby = true → ∃ t x, exec (.stationFrameReceived chain channel rssi b) s = .next t ∧
              t.air.rx = s.air.rx ∧ t.ev.out = .twin (.forward (.frame x)) :: s.ev.out ∧ x.payload = pl)))))) ∧
  (∀ (x : Rx) (s : State),
    ((s.air.rx.find? fun x => leAt x.payload 0 1 % 16 == 1) = some x → ∃ t, exec .reportReceived s = .next t ∧
      t.air.rx = s.air.rx.erase x ∧ t.air.accepted = satAdd 16 s.air.accepted 1 ∧
      ((s.air.assign x.chain x.station).isSome = true → ∃ c, t.canvas.reports = s.canvas.reports ++ [c] ∧
        c.robot = x.station ∧ c.time = s.time ∧ c.standstill = (bitsOf (leAt x.payload 0 1) 4 1 == 1)) ∧
      (s.air.assign x.chain x.station = none → t.canvas = s.canvas)) ∧
    ((s.air.rx.find? fun x => leAt x.payload 0 1 % 16 == 6) = some x → ∃ t, exec .udataReceived s = .next t ∧
      t.air.rx = s.air.rx.erase x ∧ t.air.accepted = satAdd 16 s.air.accepted 1 ∧ t.canvas = s.canvas) ∧
    ((s.air.rx.find? fun x => leAt x.payload 0 1 % 16 == 5) = some x →
      (s.joinIndex (chainOf x) x.ext = none → x.forwarded = false → ∃ t, exec .joinReceived s = .next t ∧
        t.air.tables = s.air.tables ∧ t.air.rx = s.air.rx.erase x ∧
        Logged t evLearnFull x.chain x.channel (x.ext % 2 ^ 32) (x.ext / 2 ^ 32)) ∧
      (∀ i how, s.joinIndex (chainOf x) x.ext = some (i, how) → how ≠ 0 → s.serving = true →
        (∀ y : Rx, y.payload = x.payload → y.chain = x.chain → y.channel = x.channel → y.station = i →
          s.rxRoom (chainOf x) y = true) → ∃ t, exec .joinReceived s = .next t ∧
          (t.air.station (chainOf x) i).ext = x.ext ∧ (t.air.station (chainOf x) i).state = 1 ∧
          t.air.rx = s.air.rx.erase x))) ∧
  (∀ s : State, (∀ x ∈ s.air.rx, leAt x.payload 0 1 % 16 ≠ 1) → exec .reportReceived s = .next s) ∧
  (∀ (chain : Fin 2) (channel : Fin 16) (seq : Byte) (at' ch : Nat) (s : State), s.airOn = true →
    ch = (if chain.val = 0 then 11 + channel.val else 0) →
    (s.standby = true → exec (.immAckReceived chain channel seq at') s =
      .next (s.put (.twin (.forward (.immAck chain.val ch seq.toNat at'))))) ∧
    (s.standby = false → (∀ f ∈ s.air.onAir, f.acked chain.val ch seq.toNat at' = false) →
      exec (.immAckReceived chain channel seq at') s = .next s) ∧
    (∀ (f : TxFrame) (pre post : List Grant) (g : Grant), s.standby = false →
      (s.air.onAir.find? fun f => f.acked chain.val ch seq.toNat at') = some f → f.kind = .grant g.robot g.gen →
      s.canvas.grants = pre ++ g :: post → (∀ x ∈ pre ++ post, x.robot = g.robot → x.gen ≠ g.gen) →
      g.due = none → (g.state = .queued ∨ g.state = .sent) →
      ∃ t, exec (.immAckReceived chain channel seq at') s = .next t ∧ t.air.onAir = s.air.onAir.erase f ∧
        t.canvas.grants = pre ++ { g with due := some (.delivered, s.epoch.n) } :: post)) ∧
  (∀ (chain : Fin 2) (i : Fin 1024) (e : Station) (s : State), e = s.air.station chain i →
    (e.state = 1 ∨ e.state = 2) → e.provisioned = false →
    (s.rf rAirAge 0 16 ≤ e.age → ∃ t, exec (.stationAged chain i) s = .next t ∧
      t.air.station chain i = { Station.empty with ext := e.ext, state := 3 }) ∧
    (e.age < s.rf rAirAge 0 16 → exec (.stationAged chain i) s = .next s) ∧
    (s.awake = true → 2 ≤ s.pcieRole → s.stIdx = (chain, i.val) → ∃ t, exec .tombstone s = .next t ∧
      t.air.station chain i = { Station.empty with ext := e.ext, state := 3 })) ∧
  (∀ (chain : Fin 2) (i : Nat) (s : State), s.awake = true → 2 ≤ s.pcieRole → s.stIdx = (chain, i) →
    (∃ t, exec .provision s = .next t ∧ (t.air.station chain i).ext = s.reg rAirStExt ∧
      (t.air.station chain i).state = 2 ∧ (t.air.station chain i).provisioned = true) ∧
    (∃ t, exec .stationClear s = .next t ∧ t.air.tables[chain] = tblErase s.air.tables[chain] i ∧
      t.air.provCopy = tblErase s.air.provCopy (chain.val * 1024 + i))) ∧
  (∀ (w : Word) (s : State), s.pcieRole < 2 → exec .provision s = .next s ∧ exec .stationClear s = .next s ∧
    exec .tombstone s = .next s ∧ exec (.airKeyCtlWrite w) s = .next s ∧ exec (.airKeyDataWrite w) s = .next s) ∧
  (∀ s : State, (∀ ok24 okSub, exec (.stationScrub .ok .ok ok24 okSub) s =
      .next (s.modAir fun a => { a with scrubAt := (a.scrubAt + 1) % 1024 })) ∧
    (∀ m ok24 okSub, ∃ t, exec (.stationScrub .uncorrectable m ok24 okSub) s = .next t ∧
      t.air.scrubAt = (s.air.scrubAt + 1) % 1024 ∧
      ((s.air.station 0 s.air.scrubAt).provisioned = true →
        (t.air.station 0 s.air.scrubAt).ext = tblGet (fun _ => 0) s.air.provCopy s.air.scrubAt ∧
        (t.air.station 0 s.air.scrubAt).state = 2 ∧
        (m = .ok → Logged t evStationEcc 0 s.air.scrubAt 0 0)))) ∧
  (∀ (w : Word) (s : State), s.awake = true → 2 ≤ s.pcieRole →
    (∃ t, exec (.airKeyCtlWrite w) s = .next t ∧ t.air = { s.air with
      keyKind := fieldOf w 8 2, keyRobot := fieldOf w 0 8, keyWords := [] }) ∧
    (∃ t, exec (.airKeyDataWrite w) s = .next t ∧
      (s.air.keyWords.length < 3 → t.air = { s.air with keyWords := s.air.keyWords ++ [w] }) ∧
      (s.air.keyWords.length = 3 → s.air.keyKind = 0 → t.air.kFleet = wordBytes (s.air.keyWords ++ [w])) ∧
      (s.air.keyWords.length = 3 → s.air.keyKind = 1 → t.air.kField = wordBytes (s.air.keyWords ++ [w])) ∧
      (s.air.keyWords.length = 3 → s.air.keyKind = 2 →
        t.air.kLink = tblPut zeroKeyAt s.air.kLink s.air.keyRobot (wordBytes (s.air.keyWords ++ [w]))) ∧
      (4 ≤ s.air.keyWords.length → t.air = s.air)))

/-- Superframe 0 begins at a radio slot boundary after the incarnation is stored and a plan has come
into force, and the next one when the last radio slot has ended; radio slots follow one another
in the plan's order, and a power computed since the last 2 ms boundary takes effect at the next.
A waiting plan takes effect at its first superframe with its event. A stop's repetition goes
out, on the four channels of the next group or on the sub-GHz channel, once its time has come,
and waits before. Echo mode ends when the pair has agreed for 10 s. (R253, R255, R260, R283, R284, R286, R287, R297) -/
def Obligations.SuperframesSlotsAndBursts : Prop :=
  (∀ (p : List Byte) (s : State), s.air.plan = some p →
    (∀ b, b = s.time / slotNs * slotNs → s.air.counting = false → s.fleet.incStored = true →
      (s.fleet.incStoredAt < b → s.air.planAt < b → ∃ t, exec .superframeBoundary s = .next t ∧
        t.air.counting = true ∧ t.air.superframe = 0 ∧ t.air.sfStart = b ∧
        t.fleet.superframes = s.fleet.superframes + 1) ∧
      (b ≤ s.fleet.incStoredAt ∨ b ≤ s.air.planAt → exec .superframeBoundary s = .next s)) ∧
    (s.air.counting = false → s.fleet.incStored = false → exec .superframeBoundary s = .next s) ∧
    (s.air.counting = true → s.air.sfStart ≤ s.air.slotStart → planLen p ≤ s.air.slot + 1 →
      s.air.slotStart + slotNs ≤ s.time → ∃ t, exec .superframeBoundary s = .next t ∧
        t.air.superframe = s.air.superframe + 1 ∧ t.air.sfStart = s.air.slotStart + slotNs ∧
        t.air.slot = s.air.slot ∧ t.fleet.superframes = s.fleet.superframes + 1) ∧
    (s.air.counting = true → (s.air.slot + 1 < planLen p ∨ s.time < s.air.slotStart + slotNs) →
      exec .superframeBoundary s = .next s)) ∧
  (∀ s : State, s.air.plan = none → exec .superframeBoundary s = .next s) ∧
  (∀ (p : List Byte) (ros : Vector ReadOut 7) (levels : Vector (BitVec 8) 5) (s : State), s.air.plan = some p →
    s.air.counting = true →
    (s.time < s.air.slotStart + slotNs → ∃ t, exec (.radioSlotBoundary ros levels) s = .next t ∧
      t.air.slot = s.air.slot ∧ t.air.slotStart = s.air.slotStart ∧ t.ev = s.ev) ∧
    (s.air.slotStart + slotNs ≤ s.time → s.air.slotStart < s.air.sfStart →
      ∃ t, exec (.radioSlotBoundary ros levels) s = .next t ∧ t.air.slot = 0 ∧ t.air.slotStart = s.air.sfStart) ∧
    (s.air.slotStart + slotNs ≤ s.time → s.air.sfStart ≤ s.air.slotStart → s.air.slot + 1 < planLen p →
      ∃ t, exec (.radioSlotBoundary ros levels) s = .next t ∧ t.air.slot = s.air.slot + 1 ∧
        t.air.slotStart = s.air.slotStart + slotNs ∧ t.air.superframe = s.air.superframe)) ∧
  (∀ (ros : Vector ReadOut 7) (levels : Vector (BitVec 8) 5) (s : State), s.air.plan = none → s.awake = true →
    s.air.boundary < s.time / slotNs → ∃ t, exec (.radioSlotBoundary ros levels) s = .next t ∧
      t.rfb.power = s.rfb.power.map (·.take) ∧ t.air.boundary = s.time / slotNs) ∧
  (∀ (first : Nat) (p : List Byte) (s : State), s.air.nextPlan = some (first, p) →
    (s.air.counting = true → first ≤ s.air.superframe → ∃ t, exec .planChange s = .next t ∧ t.air.plan = some p ∧
      t.air.nextPlan = none ∧ Logged t evPlanChanged (planVersion (s.air.plan.getD [])) (planVersion p) s.air.superframe 0) ∧
    (s.air.counting = false ∨ s.air.superframe < first → exec .planChange s = .next s)) ∧
  (∀ s : State, s.air.nextPlan = none → exec .planChange s = .next s) ∧
  (∀ (chain : Fin 2) (b : Burst) (t0 : Nat) (s : State), s.air.burst = some b → b.next chain = some t0 →
    (chain = 1 → s.subSilent = false) →
    (t0 ≤ s.time → ∃ t b', exec (.stopRepetition chain) s = .next t ∧ t.air.burst = some b' ∧
      b'.done24 = (if chain = 0 then b.done24 + 1 else b.done24) ∧
      b'.doneSub = (if chain = 0 then b.doneSub else b.doneSub + 1) ∧ (b.mpdu ≠ [] → b'.mpdu = b.mpdu) ∧
      (s.rfb.power[chain].p.isSome = true →
        (chain = 0 → ∀ c < 4, Out.air 0 (11 + 4 * ((b.g1 + b.done24) % 4) + c) b'.mpdu ∈ t.ev.out) ∧
        (chain = 1 → Out.air 1 0 b'.mpdu ∈ t.ev.out))) ∧
    (s.time < t0 → exec (.stopRepetition chain) s = .next s)) ∧
  (∀ (chain : Fin 2) (s : State), s.air.burst = none → exec (.stopRepetition chain) s = .next s) ∧
  (∀ (t0 : Nat) (s : State), s.air.agreeSince = some t0 → s.air.echo = true → s.twin.link ≠ 0 →
    (t0 + 10 * second ≤ s.time → ∃ t, exec .echoExit s = .next t ∧ t.air.echo = false ∧
      Logged t evTwinEcho 0 (s.tmb.theta.natAbs / 10) 0 0) ∧
    (s.time < t0 + 10 * second → exec .echoExit s = .next s)) ∧
  (∀ s : State, s.air.agreeSince = none ∨ s.air.echo = false → exec .echoExit s = .next s)

/-- At a bucket boundary in every power state that keeps the ledger the oldest of the 64 buckets
drops and a new empty one begins; before it nothing changes. A snapshot every 60 s keeps both
ledgers in flash, or its failure is recorded; a dip skips it. A settings write whose ledger
would be out of range only sets CFG_ERR, and one in range takes the register, a changed window
keeping the total charge. A path write is taken and the chain's power for the next radio slot
follows it. (R297, R301, R302, R303, R305, R306, R307, Table 9-4, Table 9-9) -/
def Obligations.LedgersAndPower : Prop :=
  (∀ (band : Fin 2) (s : State),
    (s.now < s.rfb.ledgers[band].start + s.rfb.ledgers[band].bucketNs → exec (.ledgerBucketBoundary band) s = .next s) ∧
    (s.pwr.state ≠ .deep → s.pwr.state ≠ .off → s.rfb.ledgers[band].start + s.rfb.ledgers[band].bucketNs ≤ s.now →
      ∃ t, exec (.ledgerBucketBoundary band) s = .next t ∧
        t.rfb.ledgers[band].buckets = (0, 0) :: s.rfb.ledgers[band].buckets.take 63 ∧
        t.rfb.ledgers[band].start = s.rfb.ledgers[band].start + s.rfb.ledgers[band].bucketNs ∧
        t.rfb.retained = some t.rfb.ledgers)) ∧
  (∀ (status : BitVec 4) (s : State),
    (s.now < s.rfb.snapAt + 60 * second ∨ s.awake = false → exec (.ledgerSnapshot status) s = .next s) ∧
    (s.rfb.snapAt + 60 * second ≤ s.now → s.awake = true →
      ∃ t, exec (.ledgerSnapshot status) s = .next t ∧ t.rfb.snapAt = s.now ∧ t.rfb.ledgers = s.rfb.ledgers ∧
        (s.pwr.dip = true → t.rfb.snaps = s.rfb.snaps ∧ t.ev = s.ev) ∧
        (s.pwr.dip = false → status = 0 → t.rfb.snaps = (s.rfb.ledgers :: s.rfb.snaps).take 2) ∧
        (s.pwr.dip = false → status ≠ 0 → t.rfb.snaps = s.rfb.snaps ∧
          Logged t evLedgerSnapshotFail status.toNat 0 0 0))) ∧
  (∀ (reg : LdgReg) (w : Word) (band : Fin 2) (s : State), s.awake = true →
    (s.pcieRole < 2 → exec (.ledgerSettingsWrite reg w) s = .next s) ∧
    (2 ≤ s.pcieRole → band.val = s.rf rLdgIdx 0 1 →
      ((s.rfb.ledgers[band].write reg w).valid = false → ∃ t, exec (.ledgerSettingsWrite reg w) s = .next t ∧
        t.rfb = { s.rfb with cfgErr := true }) ∧
      ((s.rfb.ledgers[band].write reg w).valid = true → ∃ t, exec (.ledgerSettingsWrite reg w) s = .next t ∧
        t.rfb.ledgers[band].limit = (s.rfb.ledgers[band].write reg w).limit ∧
        t.rfb.ledgers[band].window = (s.rfb.ledgers[band].write reg w).window ∧
        t.rfb.ledgers[band].reserve = (s.rfb.ledgers[band].write reg w).reserve ∧
        t.rfb.ledgers[band].n = s.rfb.ledgers[band].n ∧ t.rfb.ledgers[band].sSum = s.rfb.ledgers[band].sSum))) ∧
  (∀ (chain : Fin 2) (w : Word) (s : State), s.awake = true →
    (s.pcieRole < 2 → exec (.rfbPathWrite chain w) s = .next s) ∧
    (2 ≤ s.pcieRole → ∃ t, exec (.rfbPathWrite chain w) s = .next t ∧ t.rfb.ledgers = s.rfb.ledgers ∧
      t.rfb.paths[chain] = { pa := signedOf 8 (fieldOf w 0 8), ant := signedOf 8 (fieldOf w 8 8), loss := fieldOf w 16 8 } ∧
      (leastDbm chain.val ≤ t.rfb.compute chain → t.rfb.power[chain].next = some (some (t.rfb.compute chain))) ∧
      (t.rfb.compute chain < leastDbm chain.val → t.rfb.power[chain].next = some none)))

/-- Of the satellites in view the highest that qualifies takes the first free slot, and loses it
after 60 s low or untracked. A spectrum estimate smooths the larger of AGC gain reduction and
noise floor's rise into the band's indicator, JAMMING follows its thresholds, filters not in
ADAPTIVE mode let go, and a lone adaptive filter takes the strongest free bin above its
threshold; a filter whose peak stays low for 1 s lets go with its event. A bias current below 3
mA or above 60 mA is a fault, a SHORT turns the bias off, and a retry after 10 s that finds it
normal clears it. A capture under its session fills the buffer from its start and takes its
time. The data are saved hourly, and a written rate waits for the next second. (R313, R314, R317, R318, R319, R320, R321, R324) -/
def Obligations.GnssSatellitesAntennaAndCapture : Prop :=
  (∀ (view : List SvInView) (s : State),
    (∀ k, s.gnss.freeSlot = some k → (∃ v ∈ view, s.qualifies v = true) →
      ∃ t v, exec (.svSlotAssigned view) s = .next t ∧ v ∈ view ∧ s.qualifies v = true ∧
        (∀ w ∈ view, s.qualifies w = true → w.elev ≤ v.elev) ∧ t.gnss.slots[k].prn = v.prn.toNat ∧
        t.gnss.slots[k].sys = v.sys ∧ t.gnss.slots[k].tracked = true ∧
        ∀ j, j ≠ k → t.gnss.slots[j] = s.gnss.slots[j]) ∧
    ((s.gnss.freeSlot = none ∨ ∀ v ∈ view, s.qualifies v = false) → exec (.svSlotAssigned view) s = .next s)) ∧
  (∀ (k : Fin 64) (t0 : Nat) (s : State), s.gnss.slots[k].lowSince = some t0 →
    (t0 + 60 * second ≤ s.now → ∃ t, exec (.svSlotRelease k) s = .next t ∧ t.gnss.slots[k] = SvSlot.free) ∧
    (s.now < t0 + 60 * second → exec (.svSlotRelease k) s = .next s)) ∧
  (∀ (b : Fin 2) (agc rise : Int) (bins : List Nat) (e j : Nat) (s : State), s.awake = true →
    e = (s.gnss.rise[b] * 904837418 + (max 0 (max agc rise)).toNat * 256 * 95162582) / 1000000000 →
    j = min 255 (e * 8 / 65536) →
    ∃ t, exec (.spectrumEstimate b agc rise bins) s = .next t ∧ t.gnss.rise[b] = e ∧ t.gnss.ji[b] = j ∧
      (s.rf rGnsJam 0 8 < j → t.gnss.jam[b] = true) ∧ (j + 8 ≤ s.rf rGnsJam 0 8 → t.gnss.jam[b] = false) ∧
      (j ≤ s.rf rGnsJam 0 8 → s.rf rGnsJam 0 8 < j + 8 → t.gnss.jam[b] = s.gnss.jam[b]) ∧
      ((∀ k, s.notchMode b k ≠ 1) → ∀ k, t.gnss.notches[notchIx b k].on = false) ∧
      (∀ k i, s.notchMode b k = 1 → s.gnss.notches[notchIx b k].on = false →
        (∀ m, m ≠ k → s.notchMode b m ≠ 1 ∧ s.gnss.notches[notchIx b m].on = false) →
        strongest bins (s.heldBins b) = some i → medianBin bins + s.notchThr b k < bins.getD i 0 →
        t.gnss.notches[notchIx b k] = Notch.mk true i none)) ∧
  (∀ (b : Fin 2) (agc rise : Int) (bins : List Nat) (s : State), s.awake = false →
    exec (.spectrumEstimate b agc rise bins) s = .next s) ∧
  (∀ (b : Fin 2) (k : Fin 4) (n : Notch) (t0 : Nat) (s : State), n = s.gnss.notches[notchIx b k] → n.on = true →
    n.lowSince = some t0 →
    (t0 + second ≤ s.now → ∃ t, exec (.notchRelease b k) s = .next t ∧ t.gnss.notches[notchIx b k] = Notch.off ∧
      Logged t evNotchChanged b k (par (binKhz n.bin)) 0) ∧
    (s.now < t0 + second → exec (.notchRelease b k) s = .next s)) ∧
  (∀ (i : Fin 2) (ma : BitVec 16) (f : Nat) (s : State),
    f = (if ma.toNat < 3 then 1 else if 60 < ma.toNat then 2 else 0) →
    (s.rbit rGnsCfg (22 + i) = true → s.gnss.ant[i].fault ≠ 2 → f ≠ 0 → f ≠ s.gnss.ant[i].fault →
      ∃ t u, exec (.antennaFault i ma) s = .next t ∧ t.gnss.ant[i] = AntBias.mk f s.now ∧
        Logged u evAntennaFault i (f - 1) ma.toNat 0 ∧ t = u.putBias i ∧ (f = 2 → t.biasOn i = false)) ∧
    ((s.rbit rGnsCfg (22 + i) = false ∨ s.gnss.ant[i].fault = 2 ∨ f = 0 ∨ f = s.gnss.ant[i].fault) →
      exec (.antennaFault i ma) s = .next s) ∧
    (s.rbit rGnsCfg (22 + i) = true → s.gnss.ant[i].fault ≠ 0 → s.gnss.ant[i].triedAt + 10 * second ≤ s.now →
      ∃ t, exec (.biasRetry i ma) s = .next t ∧ t.gnss.ant[i] = AntBias.mk f s.now ∧
        (f = 0 → ∃ u, Logged u evAntennaFault i 2 ma.toNat 0 ∧ t = u.putBias i ∧ t.biasOn i = true) ∧
        (f ≠ 0 → f ≠ s.gnss.ant[i].fault → ∃ u, Logged u evAntennaFault i (f - 1) ma.toNat 0 ∧ t = u.putBias i)) ∧
    (s.now < s.gnss.ant[i].triedAt + 10 * second → exec (.biasRetry i ma) s = .next s)) ∧
  (∀ (w : Word) (s : State), s.awake = true → s.gnss.capBusy = false → 2 ≤ s.pcieRole → flagOf w 31 = true →
    1 ≤ fieldOf w 0 21 → fieldOf w 0 21 ≤ 2 ^ 20 → ∃ t, exec (.captureGo w) s = .next t ∧ t.gnss.capBusy = true ∧
      t.gnss.capCount = fieldOf w 0 21 ∧ t.gnss.capBand = fieldOf w 29 1 ∧ t.gnss.capAt = (s.time / ms + 1) * ms) ∧
  (∀ (w : Word) (s : State), s.awake = true → flagOf w 31 = false ∨ fieldOf w 0 21 = 0 ∨ 2 ^ 20 < fieldOf w 0 21 →
    ∃ t, exec (.captureGo w) s = .next t ∧ t.gnss.capBusy = s.gnss.capBusy ∧ t.gnss.capBuf = s.gnss.capBuf) ∧
  (∀ (l : List Byte) (s : State), s.gnss.capBusy = true →
    (s.gnss.capAt + s.gnss.capCount * 100000 / 6144 ≤ s.time → ∃ t, exec (.captureComplete l) s = .next t ∧
      t.gnss.capBusy = false ∧
      t.gnss.capBuf = tblPutList zeroSample s.gnss.capBuf 0 (bytesAt l 0 s.gnss.capCount)) ∧
    (s.time < s.gnss.capAt + s.gnss.capCount * 100000 / 6144 → exec (.captureComplete l) s = .next s)) ∧
  (∀ (v : Nat) (s : State), s.awake = true → v = ofLE ((List.range 4).map fun k =>
      tblGet zeroSample s.gnss.capBuf (4 * s.reg rGnsCapIdx + k)) →
    exec .capDataRead s =
      .next ((s.setReg rGnsCapIdx ((s.reg rGnsCapIdx + 1) % 2 ^ 18)).put (.busRead v))) ∧
  (∀ s : State, (s.gnss.navSavedAt + 3600 * second ≤ s.now → ∃ t, exec .gnssDataSave s = .next t ∧
      t.gnss.navSavedAt = s.now ∧ t.pwr.flash = s.pwr.flash ++ [.nav s.gnss.nav]) ∧
    (s.now < s.gnss.navSavedAt + 3600 * second → exec .gnssDataSave s = .next s)) ∧
  (∀ s : State, (s.gnss.rateSetAt < s.time / second →
      exec .measurementRateChange s = .next (s.modGnss fun g => { g with rate := s.rf rGnsCfg 0 3 })) ∧
    (s.time / second ≤ s.gnss.rateSetAt → exec .measurementRateChange s = .next s))

/-- A measurement epoch is served once, at its multiple of the period; it keeps new navigation data
and the time state of the epoch and of the one before it. A survey restarts under its session
outside FIXED mode, and one longer than SLOW is recorded. Fixed coordinates wait for an epoch. A
code solution beyond the limit for 60 s sets MISMATCH and one within it for 60 s clears it. A
due 1005 or 1006 is placed, unless a cause withholds it by then, and a due 1033 follows it; SENT
counts what a path took. (R324, R327, R328, R329, R330, R331, R332, R335, R344) -/
def Obligations.SurveysAndCorrections : Prop :=
  (∀ (o : GnssObs) (p : Nat) (s : State), p = ratePeriod s.gnss.rate → s.awake = true → s.pwr.booted = true →
    (s.gnss.lastEpoch < s.time / p * p → ∃ t, exec (.measurementEpoch o) s = .next t ∧
      t.gnss.lastEpoch = s.time / p * p ∧ t.gnss.nav = o.nav.getD s.gnss.nav ∧ t.servo.epState = t.servo.ts ∧
      t.servo.epU = t.servo.u ∧ t.servo.epAt = s.now ∧ t.servo.oldState = s.servo.epState ∧
      t.servo.oldU = s.servo.epU ∧ t.gnss.rate = s.gnss.rate) ∧
    (s.time / p * p ≤ s.gnss.lastEpoch → exec (.measurementEpoch o) s = .next s)) ∧
  (∀ (o : GnssObs) (s : State), s.awake = false ∨ s.pwr.booted = false → exec (.measurementEpoch o) s = .next s) ∧
  (∀ (w : Word) (s : State), s.awake = true →
    (2 ≤ s.pcieRole → flagOf w 31 = true → s.posMode ≠ 2 → ∃ t, exec (.surveyRestart w) s = .next t ∧
      t.gnss.survey = 1 ∧ t.gnss.surveyAt = s.now) ∧
    (2 ≤ s.pcieRole → (flagOf w 31 = false ∨ s.posMode = 2) → ∃ t, ∃ u : State, exec (.surveyRestart w) s = .next t ∧
      t = u.setReg rGnsSurvey (w.toNat % 2 ^ 31) ∧ t.gnss = s.gnss) ∧
    (s.pcieRole < 2 → exec (.surveyRestart w) s = .next s)) ∧
  (∀ s : State, s.gnss.survey = 1 →
    (s.gnss.surveyAt + s.rf rGnsSurvey 24 7 * 3600 * second ≤ s.now → ∃ t, exec .surveySlow s = .next t ∧
      t.gnss.survey = 3 ∧ Logged t evSurveySlow s.gnss.sigma ((s.now - s.gnss.surveyAt) / second) 0 0) ∧
    (s.now < s.gnss.surveyAt + s.rf rGnsSurvey 24 7 * 3600 * second → exec .surveySlow s = .next s)) ∧
  (∀ (reg : Fin 4) (v : BitVec 64) (s : State), s.awake = true →
    (2 ≤ s.pcieRole → ∃ t, exec (.fixedCoordWrite reg v) s = .next t ∧ t.gnss = { s.gnss with fixDue := true } ∧
      ∀ a x, a = (if reg.val = 3 then rGnsAnt else rGnsFix reg) →
        x = (if reg.val = 3 then v.toNat % 2 ^ 24 else v.toNat) → x ≠ regReset a → t.reg a = x) ∧
    (s.pcieRole < 2 → exec (.fixedCoordWrite reg v) s = .next s)) ∧
  (∀ (t0 : Nat) (s : State),
    (s.gnss.farSince = some t0 → s.gnss.mismatch = false → t0 + 60 * second ≤ s.now →
      ∃ t, exec .coordMismatch s = .next t ∧ t.gnss.mismatch = true) ∧
    (s.gnss.farSince = some t0 → s.now < t0 + 60 * second → exec .coordMismatch s = .next s) ∧
    (s.gnss.nearSince = some t0 → s.gnss.mismatch = true → t0 + 60 * second ≤ s.now →
      ∃ t, exec .coordMismatchClear s = .next t ∧ t.gnss.mismatch = false)) ∧
  (∀ (t0 : Nat) (s : State), s.gnss.nearSince = some t0 → s.now < t0 + 60 * second →
    exec .coordMismatchClear s = .next s) ∧
  (∀ (x m : List Byte) (p : Int × Int × Int) (s : State), s.gnssSection = some x → s.gnss.arp = some p →
    m = rtcmFrame (arpMsg (stationId x) p (if leAt x 9 1 = 1 then some s.gnss.height else none)) →
    (s.gnss.arpDue = true → s.serving = true → s.withheldCauses = 0 → ∃ t ok, exec .rtcmArpSend s = .next t ∧
      t.gnss.arpDue = false ∧ t.gnss.descDue = s.gnss.descDue ∧
      (s.gnss.descDue = true → t.gnss.epochMsgs = s.gnss.epochMsgs ++ [(m, ok)] ∧
        t.gnss.sent = if ok then satAdd 16 s.gnss.sent 1 else s.gnss.sent)) ∧
    (s.gnss.arpDue = true → (s.serving = false ∨ s.withheldCauses ≠ 0) → ∃ t, exec .rtcmArpSend s = .next t ∧
      t.gnss.arpDue = false ∧ (s.gnss.descDue = true → t.gnss = { s.gnss with arpDue := false })) ∧
    (s.gnss.arpDue = false → exec .rtcmArpSend s = .next s)) ∧
  (∀ (x : List Byte) (s : State), s.gnssSection = some x →
    (s.gnss.arpDue = true → exec .rtcmDescriptorSend s = .next s) ∧
    (s.gnss.arpDue = false → s.gnss.descDue = true → ∃ t, exec .rtcmDescriptorSend s = .next t ∧
      t.gnss.descDue = false ∧ t.gnss.epochMsgs = [] ∧
      (s.serving = true → ∃ u : State, t = u.flushUdp ∧ ∃ ok, u.gnss.epochMsgs = s.gnss.epochMsgs ++
        [(rtcmFrame (descMsg (stationId x) s.gnss.antDesc s.setVersion), ok)])))

/-- RECOVERING turns LOCKED after 10 s in lock; LOCKED and RECOVERING turn HOLDOVER for want of a
solution, keeping u; in HOLDOVER u follows R339, and above HOLD_LIMIT the state is UNTRUSTED. A
jump kept for 60 s is accepted. A due step that is allowed commits it, and one that is barred is
pending. A time pulse has its edge once per multiple of its period and none while UNTRUSTED
where it is switched off then. An automatic commit leaves corrected time as it is; a read of the
counter latches it. An edge of a source is latched with its stamp, or lost and counted where the
latch holds one still; the handler delivers a latch's stamp once its ten ticks are over. A
source change waits for its boundary; a write of TMB_SET sets FREE time forward to its value or
is refused. (R338, R339, R340, R343, R349, R350, R351, R353, R355, R357, R358) -/
def Obligations.TimeServoAndCounter : Prop :=
  (∀ (t0 : Nat) (s : State), s.tmb.following = false →
    (s.servo.ts = .recovering → s.servo.inLockSince = some t0 → t0 + 10 * second ≤ s.now →
      ∃ t, exec .timeLocked s = .next t ∧ t.servo.ts = .locked ∧ t.servo.u = s.servo.u) ∧
    (s.servo.ts = .recovering → s.servo.inLockSince = some t0 → s.now < t0 + 10 * second →
      exec .timeLocked s = .next s) ∧
    ((s.servo.ts = .locked ∨ s.servo.ts = .recovering) → s.servo.lastValid + s.lossTime ≤ s.now →
      ∃ t, exec .holdoverEntry s = .next t ∧ t.servo.ts = .holdover ∧ t.servo.u0 = s.servo.u.getD 0 ∧
        t.servo.holdAt = s.now) ∧
    (s.now < s.servo.lastValid + s.lossTime → exec .holdoverEntry s = .next s) ∧
    (s.servo.ts = .holdover → s.servo.uAt + 100 * ms ≤ s.now →
      (s.holdU ≤ s.holdLimit → ∃ t, exec .holdoverUpdate s = .next t ∧ t.servo.ts = .holdover ∧
        t.servo.u = some s.holdU) ∧
      (s.holdLimit < s.holdU → ∃ t, exec .holdoverUpdate s = .next t ∧ t.servo.ts = .untrusted ∧
        t.servo.u = none)) ∧
    (s.servo.jumpSince = some t0 → t0 + 60 * second ≤ s.now → ∃ t, exec .jumpAccepted s = .next t ∧
      t.servo.jumpSince = none ∧ t.servo.delta = s.servo.jump.delta ∧ t.servo.lastValid = s.now) ∧
    (s.servo.jumpSince = some t0 → s.now < t0 + 60 * second → exec .jumpAccepted s = .next s)) ∧
  (∀ (d : Int) (at' : Nat) (s : State), s.servo.stepDue = some (d, at') → s.boundaryDue at' = false →
    exec .timeStep s = .next s) ∧
  (∀ (d : Int) (at' : Nat) (s : State), s.servo.stepDue = some (d, at') → s.boundaryDue at' = true →
    (s.stepBar d = none → ∃ t, exec .timeStep s = .next t ∧ t.tmb = s.tmb.commit d.toNat s.tmb.rate ∧
      t.servo.stepDue = none ∧ Logged t evTimeStep (codeOf 64 d % 2 ^ 32) (codeOf 64 d / 2 ^ 32) 0 0) ∧
    (∀ r, s.stepBar d = some r → ∃ t, exec .timeStep s = .next t ∧ t.tmb = s.tmb ∧ t.servo.stepPending = true)) ∧
  (∀ (ideal : Nat) (s : State), ideal = (s.time + 1) / s.tpPeriod * s.tpPeriod → s.pwr.booted = true →
    (ideal ≤ s.tp.lastDue → exec (.tp0Edge true) s = .next s) ∧
    (s.tp.lastDue < ideal → (s.servo.ts ≠ .untrusted ∨ s.rbit rGnsTp 25 = true) →
      (∀ r, s.tp.lastRaw = some r → s.tpPeriod ≤ 2 * (s.tmb.raw - r)) →
      (∃ t, exec (.tp0Edge true) s = .next t ∧ t.tp.time = ideal ∧ t.tp.valid = true ∧ t.tp.lastDue = ideal ∧
        t.tp.lastRaw = some s.tmb.raw ∧ t.tp.state = (s.servo.tagOf s.now).1 ∧ t.tp.u = (s.servo.tagOf s.now).2 ∧
        t.ev.out = .pulse "TP0" (if s.rbit rGnsTp 24 then 0 else 1) s.tpWidth :: s.ev.out) ∧
      (∃ t, exec (.tp0Edge false) s = .next t ∧ t.tp.valid = false ∧ t.tp.lastDue = ideal)) ∧
    (∀ staged r, s.tp.lastDue < ideal → (s.servo.ts ≠ .untrusted ∨ s.rbit rGnsTp 25 = true) →
      s.tp.lastRaw = some r → 2 * (s.tmb.raw - r) < s.tpPeriod → ∃ t, exec (.tp0Edge staged) s = .next t ∧
        t.tp = { s.tp with lastDue := ideal, skipped := satAdd 8 s.tp.skipped 1 } ∧ t.ev = s.ev) ∧
    (∀ staged, s.tp.lastDue < ideal → s.servo.ts = .untrusted → s.rbit rGnsTp 25 = false →
      ∃ t, exec (.tp0Edge staged) s = .next t ∧ t.tp = { s.tp with lastDue := ideal } ∧ t.ev = s.ev)) ∧
  (∀ s : State,
    (s.tmb.rateBase + 2 ^ 34 ≤ s.tmb.raw → ∃ t, exec .automaticCommit s = .next t ∧ t.time = s.time ∧
      t.tmb.rateBase = s.tmb.raw) ∧
    (s.tmb.raw < s.tmb.rateBase + 2 ^ 34 → exec .automaticCommit s = .next s) ∧
    (∀ (now : Bool) (v : Nat), v = (if now then s.time else s.tmb.raw) →
      (∃ t, exec (.tmbRead now 0) s = .next t ∧ t.tmb.latch = v ∧ t.ev.out = .busRead v :: s.ev.out) ∧
      (∃ t, exec (.tmbRead now 1) s = .next t ∧ t.tmb.latch = v ∧ t.ev.out = .busRead (v % 2 ^ 32) :: s.ev.out) ∧
      (∃ t, exec (.tmbRead now 2) s = .next t ∧ t.tmb.latch = v ∧ t.ev.out = .busRead (v / 2 ^ 32) :: s.ev.out)) ∧
    (s.servo.ts = .locked → s.pwr.rtcAt + second ≤ s.now → ∃ t, exec .rtcUpdate s = .next t ∧ t.pwr.rtc = s.time ∧
      t.pwr.rtcAt = s.now ∧ t.pwr.rtcValid = true)) ∧
  (∀ (i : Fin 25) (s : State),
    (s.stampOn i = false → exec (.stampEdge i) s = .next s) ∧
    (s.stampOn i = true → s.tmb.stamps[i].latched ≠ none → ∃ t, exec (.stampEdge i) s = .next t ∧
      t.tmb.stamps[i].overrun = satAdd 8 s.tmb.stamps[i].overrun 1 ∧ t.tmb.stamps[i].last = s.tmb.stamps[i].last ∧
      t.tmb.stamps[i].latched = s.tmb.stamps[i].latched) ∧
    (s.stampOn i = true → s.tmb.stamps[i].latched = none → ∃ t, exec (.stampEdge i) s = .next t ∧
      t.tmb.stamps[i].latched = some (s.tmb.raw,
        codeOf 64 (s.tmb.correctedAt s.tmb.raw - s.stampLatency i + s.stampDelay i)) ∧
      t.tmb.stamps[i].last = s.tmb.stamps[i].last ∧ t.tmb.handler = s.tmb.handler)) ∧
  (∀ (i : Fin 25) (d r v : Nat) (t : Tmb), t.handler = some (i, d) → t.stamps[i].latched = some (r, v) →
    (d ≤ t.raw → t.serve.stamps[i].last = v ∧ t.serve.stamps[i].latched = none) ∧ (t.raw < d → t.serve = t)) ∧
  (∀ (t0 : Nat) (s : State), s.servo.srcAt = some t0 → s.tmb.following = false → s.tmb.src ≠ s.tmb.srcUsed →
    (s.boundaryDue t0 = true → ∃ t p2 p3, exec .timeSourceChange s = .next t ∧ t.tmb.srcUsed = s.tmb.src ∧
      Logged t evTimeSource s.tmb.src s.tmb.srcUsed p2 p3) ∧
    (s.boundaryDue t0 = false → exec .timeSourceChange s = .next s)) ∧
  (∀ (t0 : Nat) (s : State), s.servo.srcAt = some t0 → s.tmb.following = false → s.tmb.src = s.tmb.srcUsed →
    s.boundaryDue t0 = true → exec .timeSourceChange s = .next (s.modServo fun v => { v with srcAt := none })) ∧
  (∀ (v : BitVec 64) (w : Word) (s : State),
    (s.pcieRole < 2 → exec (.tmbSetWrite v) s = .next s ∧ exec (.tmbFreeRateWrite w) s = .next s) ∧
    (2 ≤ s.pcieRole → s.free = true → s.time < v.toNat → ∃ t, exec (.tmbSetWrite v) s = .next t ∧ t.time = v.toNat) ∧
    (2 ≤ s.pcieRole → (s.free = false ∨ v.toNat ≤ s.time) → ∃ t, exec (.tmbSetWrite v) s = .next t ∧
      t.tmb = { s.tmb with setRefused := true }) ∧
    (2 ≤ s.pcieRole → s.free = false → ∃ t, exec (.tmbFreeRateWrite w) s = .next t ∧
      t.tmb = { s.tmb with freeRate := if w.toInt.natAbs ≤ 2 ^ 28 then w.toInt else 0 }) ∧
    (∀ r, r = (if w.toInt.natAbs ≤ 2 ^ 28 then w.toInt else 0) → 2 ≤ s.pcieRole → s.free = true →
      ∃ t, exec (.tmbFreeRateWrite w) s = .next t ∧ t.tmb = ({ s.tmb with freeRate := r } : Tmb).commit 0 r))

/-- A link change is recorded. With a link the head frame of the port's queue leaves padded with its
check sequence; without one it is dropped after 10 ms. A frame that is too short, fails its
check or is for another address is counted bad. An ARP request for the port's address is learned
and answered. A grandmaster sends Sync and Announce when their interval has passed and answers
delay requests of its domain; a client follows the best qualified master, asks once per
interval, and a complete exchange gives its offset and with SRC PTP the servo's. (R360, R361, R362, R363, R364, R365, R366, R385) -/
def Obligations.EthernetAndPtp : Prop :=
  (∀ (p : Fin 2) (up : Bool) (speed : BitVec 16) (part : Nat) (s : State),
    (s.eth[p].link ≠ up → ∃ t, exec (.ethLink p up speed part) s = .next t ∧ t.eth[p].link = up ∧
      t.eth[p].speed = speed.toNat ∧ Logged t evEthLink p (bit up) speed.toNat 0) ∧
    (s.eth[p].link = up → exec (.ethLink p up speed part) s = .next s)) ∧
  (∀ (p : Fin 2) (i : Nat) (k : Packet) (s : State), (s.palette.q (17 + p)).headIndex = some i →
    (s.palette.q (17 + p)).packets[i]? = some k →
    (s.ethOn p = true → s.eth[p].link = true → ∃ t, exec (.ethFrameSend p { crcOk := true, link := .ok }) s = .next t ∧
      (t.palette.q (17 + p)).packets = (s.palette.q (17 + p)).packets.eraseIdx i ∧
      (egressOk k.bytes = true → t.ev.out = .eth p (macFrame k.bytes) :: s.ev.out) ∧
      (egressOk k.bytes = false → t.ev = s.ev ∧
        (t.palette.q (17 + p)).bad = satAdd 8 (s.palette.q (17 + p)).bad 1)) ∧
    (s.eth[p].link = false → ∀ t0, (s.palette.q (17 + p)).headSince = some t0 → t0 + 10 * ms ≤ s.now →
      ∃ t, exec (.ethEgressDrop p { crcOk := true, link := .ok }) s = .next t ∧ t.ev = s.ev ∧
        (t.palette.q (17 + p)).packets = (s.palette.q (17 + p)).packets.eraseIdx i ∧
        (t.palette.q (17 + p)).bad = satAdd 8 (s.palette.q (17 + p)).bad 1)) ∧
  (∀ (p : Fin 2) (ro : ReadOut) (s : State), s.eth[p].link = false →
    exec (.ethFrameSend p ro) s = .next s ∧
    (∀ t0, (s.palette.q (17 + p)).headSince = some t0 → s.now < t0 + 10 * ms →
      exec (.ethEgressDrop p ro) s = .next s)) ∧
  (∀ (p : Fin 2) (f : List Byte) (s : State), s.ethOn p = true → s.eth[p].link = true →
    exec (.ethFrameReceived p f false) s = .next (s.countBad (19 + p)) ∧
    ((f.length < 14 ∨ 1514 < f.length ∨ s.forUs p f = false) →
      exec (.ethFrameReceived p f true) s = .next (s.countBad (19 + p))) ∧
    (14 ≤ f.length → f.length ≤ 1514 → s.forUs p f = true →
      (s.isPtp p f = true → exec (.ethFrameReceived p f true) s = .next s) ∧
      (s.isPtp p f = false → s.isArp p f = true → ∃ t, exec (.ethFrameReceived p f true) s = .next t ∧
        t.palette = s.palette ∧
        t.eth[p].arp = tblPut noMac s.eth[p].arp (ofBE (bytesAt f 28 4)) (ofBE (bytesAt f 22 6))) ∧
      (s.isPtp p f = false → s.isArp p f = false →
        (s.standby = true → exec (.ethFrameReceived p f true) s = .next (s.countBad (19 + p))) ∧
        (s.standby = false → s.palette.rebuilds = [] →
          ∀ k, k = ({ level := 0, bytes := toLE 8 (codeOf 64 (s.rxTime p)) ++ f } : Packet) →
          s.palette.admits (19 + p) k.cells = true → ∃ t, exec (.ethFrameReceived p f true) s = .next t ∧
            (t.palette.q (19 + p)).packets = (s.palette.q (19 + p)).packets ++ [k])))) ∧
  (∀ (p : Fin 2) (mac : BitVec 48) (ip : BitVec 32) (s : State), s.ethOn p = true → s.eth[p].link = true →
    s.ethIp p ≠ 0 → s.ethIp p < 2 ^ 32 → s.palette.rebuilds = [] →
    ∃ t, exec (.arpRequest p mac ip (BitVec.ofNat 32 (s.ethIp p))) s = .next t ∧
      t.eth[p].arp = tblPut noMac s.eth[p].arp ip.toNat mac.toNat ∧
      t.palette = (s.palette.tryPut (17 + p) (Packet.mk 0
        (arpFrame 2 mac.toNat (s.ethMac p) (s.ethIp p) mac.toNat ip.toNat))).2) ∧
  (∀ (p : Fin 2) (s : State), s.ptpRole p 1 = true →
    (s.elapsed s.eth[p].syncAt (s.syncPeriod p) = true → ∃ t, exec (.ptpSyncSend p) s = .next t ∧
      t.eth[p].syncAt = some s.now ∧ t.eth[p].syncSeq = (s.eth[p].syncSeq + 1) % 65536 ∧
      (s.rbit (rEthPtp p) 2 = false → ∃ f, t.ev.out = .eth p f :: s.ev.out)) ∧
    (s.elapsed s.eth[p].syncAt (s.syncPeriod p) = false → exec (.ptpSyncSend p) s = .next s) ∧
    (s.elapsed s.eth[p].annAt (s.annPeriod p) = true → ∃ t, exec (.ptpAnnounceSend p) s = .next t ∧
      t.eth[p].annAt = some s.now ∧ t.eth[p].annSeq = (s.eth[p].annSeq + 1) % 65536 ∧
      (s.rbit (rEthPtp p) 2 = false → ∃ f, t.ev.out = .eth p f :: s.ev.out)) ∧
    (s.elapsed s.eth[p].annAt (s.annPeriod p) = false → exec (.ptpAnnounceSend p) s = .next s) ∧
    (∀ m, s.inDomain p m = true → s.rbit (rEthPtp p) 2 = false ∨ s.ethIp p ≠ 0 →
      ∃ t f, exec (.ptpDelayReqReceived p m) s = .next t ∧ t.ev.out = .eth p f :: s.ev.out ∧ t.eth = s.eth) ∧
    (∀ m, s.inDomain p m = false → exec (.ptpDelayReqReceived p m) s = .next s)) ∧
  (∀ (p : Fin 2) (m : PtpMsg) (d : PtpData) (s : State), s.ptpRole p 2 = true → s.inDomain p m = true →
    (∃ t x, exec (.ptpAnnounceReceived p m d) s = .next t ∧ x ∈ t.eth[p].masters ∧ x.sender = m.source.toNat ∧
      x.identity = d.identity.toNat ∧ x.steps = d.steps.toNat ∧ x.heardAt = s.now) ∧
    (s.eth[p].masters = [] → ∃ t, exec (.ptpAnnounceReceived p m d) s = .next t ∧ t.eth[p].best = none ∧
      t.eth[p].ptpState = 4) ∧
    (∀ y, s.eth[p].masters = [y] → y.sender = m.source.toNat → s.now < y.heardAt + 4 * s.annPeriod p →
      d.steps.toNat < 255 → ∃ t b, exec (.ptpAnnounceReceived p m d) s = .next t ∧ t.eth[p].best = some b ∧
        b.sender = m.source.toNat ∧ b.identity = d.identity.toNat ∧
        (s.eth[p].best.map (·.identity) ≠ some b.identity → t.eth[p].ptpState = 8 ∧
          Logged t evPtpMaster p (b.identity % 2 ^ 32) (b.identity / 2 ^ 32) b.cls))) ∧
  (∀ (p : Fin 2) (m : PtpMsg) (s : State), s.fromBest p m = true →
    (∃ t x, exec (.ptpSyncReceived p m) s = .next t ∧ t.eth[p].ex = some x ∧ x.syncSeq = m.seq.toNat ∧
      x.t1 = (if m.twoStep then none else some ((m.time : Int) * 65536)) ∧ x.t2 = s.rxTime p * 65536 - m.corr) ∧
    (∀ x, s.eth[p].ex = some x → x.syncSeq = m.seq.toNat → x.t1 = none →
      ∃ t, exec (.ptpFollowUpReceived p m) s = .next t ∧
        t.eth[p].ex = some { x with t1 := some ((m.time : Int) * 65536 + m.corr) }) ∧
    (∀ x t1 (freq slew : Int) (D : Int), s.eth[p].ex = some x → x.t1 = some t1 → x.reqSeq = some m.seq.toNat →
      s.portId p < 2 ^ 80 →
      D = divRound (-((x.t2 - t1) - ((m.time : Int) * 65536 - m.corr - x.t3))) (2 * 65536) →
      ∃ t, exec (.ptpDelayRespReceived p m (BitVec.ofNat 80 (s.portId p)) freq slew) s = .next t ∧
        t.eth[p].ex = none ∧ t.eth[p].ptpState = 9 ∧ t.eth[p].ofs = clampS 32 D ∧
        t.eth[p].deltas = (D :: s.eth[p].deltas).take 16 ∧
        (s.tmb.srcUsed = 1 → s.tmb.following = false → t.servo.delta = D))) ∧
  (∀ (p : Fin 2) (m : PtpMsg) (r : BitVec 80) (freq slew : Int) (s : State), s.fromBest p m = false →
    exec (.ptpSyncReceived p m) s = .next s ∧ exec (.ptpFollowUpReceived p m) s = .next s ∧
    exec (.ptpDelayRespReceived p m r freq slew) s = .next s) ∧
  (∀ (p : Fin 2) (x : PtpEx) (t1 : Int) (s : State), s.ptpRole p 2 = true → s.eth[p].ex = some x → x.t1 = some t1 →
    (s.elapsed s.eth[p].reqAt second = true → ∃ t, exec (.ptpDelayReqSend p) s = .next t ∧
      t.eth[p].reqSeq = (s.eth[p].reqSeq + 1) % 65536 ∧ t.eth[p].reqAt = some s.now ∧
      t.eth[p].ex = some { x with reqSeq := some s.eth[p].reqSeq, t3 := s.txTime p * 65536 }) ∧
    (s.elapsed s.eth[p].reqAt second = false → exec (.ptpDelayReqSend p) s = .next s))

/-- A read of a lock word over PCIe or, while EN is 1, at the direct port takes a free lock, answers
ACQUIRED to its holder and BUSY to any other party, shows the holder after the read, and leaves
a lock whose reads tied as it was. While EN is 0 the direct port reads BUSY and changes nothing.
No other lock and no other state changes. (R398, R399, R400, R402) -/
def Obligations.LockReadsAcquire : Prop :=
  ∀ (k : Fin 32) (s : State),
    (s.awake = true → ∃ t, exec (.hostLockRead k .chosen) s = .next t ∧
      t.host.holder k = (if s.host.holder k = 15 then 9 else s.host.holder k) ∧
      (∀ j, j ≠ k → t.host.holder j = s.host.holder j) ∧
      t.ev.out = .busRead (lockWord (if s.host.holder k = 15 ∨ s.host.holder k = 9 then 0 else 1)
        (t.host.holder k)).toNat :: s.ev.out ∧
      { t with host := s.host, ev := s.ev } = s) ∧
    (s.dpUp = true → ∃ t, exec (.dpLockRead k .chosen) s = .next t ∧
      t.host.holder k = (if s.host.dpEn ∧ s.host.holder k = 15 then 10 else s.host.holder k) ∧
      (∀ j, j ≠ k → t.host.holder j = s.host.holder j) ∧
      t.ev.out = .busRead (lockWord
        (if s.host.dpEn ∧ (s.host.holder k = 15 ∨ s.host.holder k = 10) then 0 else 1)
        (t.host.holder k)).toNat :: s.ev.out ∧
      { t with host := s.host, ev := s.ev } = s) ∧
    (∀ arb, arb ≠ .chosen → s.awake = true → ∃ t, exec (.hostLockRead k arb) s = .next t ∧
      t.host = (if arb = .tie then s.host else { s.host with ties := min (2 ^ 16 - 1) (s.host.ties + 1) }) ∧
      t.ev.out = .busRead (lockWord 2 (s.host.holder k)).toNat :: s.ev.out) ∧
    (∀ arb, arb ≠ .chosen → s.dpUp = true → s.host.dpEn = true → ∃ t, exec (.dpLockRead k arb) s = .next t ∧
      t.host.locks = s.host.locks ∧
      t.ev.out = .busRead (lockWord 2 (s.host.holder k)).toNat :: s.ev.out) ∧
    (∀ arb, s.dpUp = true → s.host.dpEn = false → ∃ t, exec (.dpLockRead k arb) s = .next t ∧ t.host = s.host ∧
      t.ev.out = .busRead (lockWord 1 (s.host.holder k)).toNat :: s.ev.out)

/-- A write of a lock word by its holder frees the lock and changes nothing else; a write by another
party leaves every lock as it was and is counted in FOREIGN. HST_LOCK_FREE under an INSTALLER or
MAKER session frees a held lock and records LOCK_FORCED with cause 0; without that session it
changes nothing. (R401) -/
def Obligations.LockReleases : Prop :=
  ∀ (k : Fin 32) (w : Word) (s : State),
    (s.awake = true → ∃ t, exec (.hostLockWrite k) s = .next t ∧
      t.host = (if s.host.holder k = 9 then s.host.setHolder k 15
        else { s.host with foreign := min (2 ^ 16 - 1) (s.host.foreign + 1) }) ∧
      { t with host := s.host } = s) ∧
    (s.dpUp = true → ∃ t, exec (.dpLockWrite k) s = .next t ∧
      t.host = (if s.host.holder k = 10 then s.host.setHolder k 15
        else { s.host with foreign := min (2 ^ 16 - 1) (s.host.foreign + 1) }) ∧
      { t with host := s.host } = s) ∧
    (s.awake = true → ∃ t, exec (.lockFreeWrite w) s = .next t ∧
      (s.pcieRole < 2 → t = s) ∧ (flagOf w 31 = false → t.host = s.host) ∧
      (s.host.holder (Fin.ofNat 32 (fieldOf w 0 5)) = 15 → t.host = s.host) ∧
      (2 ≤ s.pcieRole → flagOf w 31 = true → s.host.holder (Fin.ofNat 32 (fieldOf w 0 5)) ≠ 15 →
        t.host.holder (Fin.ofNat 32 (fieldOf w 0 5)) = 15 ∧
        Logged t evLockForced (fieldOf w 0 5) (s.host.holder (Fin.ofNat 32 (fieldOf w 0 5))) 0 0))

/-- A host or direct-port send on a channel where the party is an end is DEAD where either end is
dead, FULL where the queue holds 16 words, and otherwise appends the word with the sender's
source ID; the result shows in LAST_TX. A take over PCIe removes the oldest inbound word and
sets SRC, or answers 0 with source 15; at the direct port it answers the word. (R403, R404, R405, R407) -/
def Obligations.MailboxSendAndTake : Prop :=
  ∀ (c : Fin 16) (w : Word) (s : State),
    (s.awake = true → ∃ t, exec (.hostMbxTx c w) s = .next t ∧
      (if ¬ (s.host.ch c).has 2 then t = s
       else if s.endDead 2 ∨ s.endDead ((s.host.ch c).peer 2) then
         t = s.modCh c fun m => { m with hostLastTx := 2 }
       else if 16 ≤ ((s.host.ch c).outbound 2).words.length then
         t = s.modCh c fun m => { m with hostLastTx := 1 }
       else ((t.host.ch c).outbound 2).words =
           ((s.host.ch c).outbound 2).words ++ [{ word := w, source := 9, sentAt := s.now }] ∧
         (t.host.ch c).hostLastTx = 0 ∧ { t with host := s.host, ev := s.ev } = s)) ∧
    (s.awake = true → ∃ t, exec (.hostMbxRx c) s = .next t ∧
      { t with host := s.host, ev := s.ev } = s ∧
      (∀ x rest, (s.host.ch c).has 2 = true → ((s.host.ch c).inbound 2).words = x :: rest →
        ((t.host.ch c).inbound 2).words = rest ∧ (t.host.ch c).hostSrc = x.source ∧
        t.ev.out = .busRead x.word.toNat :: s.ev.out) ∧
      (((s.host.ch c).inbound 2).words = [] →
        (t.host.ch c).hostSrc = 15 ∧ t.ev.out = .busRead 0 :: s.ev.out)) ∧
    (s.dpUp = true → ∃ t, exec (.dpMbxTake c) s = .next t ∧
      { t with host := s.host, ev := s.ev } = s ∧
      (∀ x rest, (s.host.ch c).has 3 = true → ((s.host.ch c).inbound 3).words = x :: rest →
        ((t.host.ch c).inbound 3).words = rest ∧ t.ev.out = .busRead x.word.toNat :: s.ev.out) ∧
      (((s.host.ch c).has 3 = false ∨ ((s.host.ch c).inbound 3).words = []) →
        t.host = s.host ∧ t.ev.out = .busRead 0 :: s.ev.out)) ∧
    (s.dpUp = true → ∃ t, exec (.dpMbxSend c w) s = .next t ∧
      ((s.host.ch c).has 3 = true → s.endDead 3 = false → s.endDead ((s.host.ch c).peer 3) = false →
        ((s.host.ch c).outbound 3).words.length < 16 →
        ((t.host.ch c).outbound 3).words =
          ((s.host.ch c).outbound 3).words ++ [{ word := w, source := 10, sentAt := s.now }] ∧
        (t.host.ch c).dpLastTx = 0) ∧
      ((s.host.ch c).has 3 = true → (s.endDead 3 = true ∨ s.endDead ((s.host.ch c).peer 3) = true) →
        t = s.modCh c fun m => { m with dpLastTx := 2 }) ∧
      ((s.host.ch c).has 3 = true → s.endDead 3 = false → s.endDead ((s.host.ch c).peer 3) = false →
        16 ≤ ((s.host.ch c).outbound 3).words.length → t = s.modCh c fun m => { m with dpLastTx := 1 }) ∧
      ((s.host.ch c).has 3 = false → t.host.mbx = s.host.mbx ∧
        t.host.dpRefused = min (2 ^ 16 - 1) (s.host.dpRefused + 1)))

/-- Once the oldest word of a queue has waited longer than MBX_TMO and the queue has raised none
since it was empty, the sender's TIMEOUT is set and the word stays. A write of HST_MBX_HOST.UP
or HST_DP_CFG.EN under its session that takes an end away empties the queues toward it and frees
the direct port's locks. The supervisor takes a word of channel 15 and sends 0xFFFF_FFFF. A
direct-port status read clears TIMEOUT. (R397, R403, R406, R407, R408, R411) -/
def Obligations.MailboxTimeoutsAndDeath : Prop :=
  (∀ (c : Fin 16) (s : State) (x : MbxWord) (rest : List MbxWord),
    ((s.host.ch c).toEnd1.words = x :: rest → (s.host.ch c).toEnd1.timedOut = false →
      x.sentAt + (s.host.ch c).tmo * us < s.now → ∃ t, exec (.mailboxTimeout c true) s = .next t ∧
        (t.host.ch c).toEnd1 = { words := x :: rest, timedOut := true } ∧
        (t.host.ch c).hostTimeout = ((s.host.ch c).hostTimeout || (s.host.ch c).end0 == 2) ∧
        (t.host.ch c).dpTimeout = ((s.host.ch c).dpTimeout || (s.host.ch c).end0 == 3) ∧
        Logged t evMailboxTimeout c x.source (rest.length + 1) 0) ∧
    ((s.host.ch c).toEnd0.words = x :: rest → (s.host.ch c).toEnd0.timedOut = false →
      x.sentAt + (s.host.ch c).tmo * us < s.now → ∃ t, exec (.mailboxTimeout c false) s = .next t ∧
        (t.host.ch c).toEnd0 = { words := x :: rest, timedOut := true } ∧
        (t.host.ch c).hostTimeout = ((s.host.ch c).hostTimeout || (s.host.ch c).end1 == 2) ∧
        (t.host.ch c).dpTimeout = ((s.host.ch c).dpTimeout || (s.host.ch c).end1 == 3) ∧
        Logged t evMailboxTimeout c x.source (rest.length + 1) 0) ∧
    ((s.host.ch c).toEnd1.words = x :: rest → s.now ≤ x.sentAt + (s.host.ch c).tmo * us →
      exec (.mailboxTimeout c true) s = .next s)) ∧
  (∀ (up : Bool) (s : State), 1 ≤ s.pcieRole → s.awake = true → ∃ t, exec (.mbxHostUpWrite up) s = .next t ∧
    t.host.mbxUp = up ∧ t.host.locks = s.host.locks ∧ (up = s.host.mbxUp → t.host = s.host) ∧
    ∀ c : Fin 16, (s.host.ch c).has 2 = true → s.host.mbxUp = true → up = false →
      ((t.host.ch c).inbound 2).words = []) ∧
  (∀ (en : Bool) (s : State), 2 ≤ s.pcieRole → s.awake = true → ∃ t, exec (.dpEnWrite en) s = .next t ∧
    t.host.dpEn = en ∧ (en = s.host.dpEn → t.host = s.host) ∧
    (en = true → t.host.locks = s.host.locks) ∧
    (s.host.dpEn = true → en = false →
      (∀ k, t.host.holder k = (if s.host.holder k = 10 then 15 else s.host.holder k)) ∧
      ∀ c : Fin 16, (s.host.ch c).has 3 = true → ((t.host.ch c).inbound 3).words = [])) ∧
  (∀ (s : State) (x : MbxWord) (rest : List MbxWord),
    (s.host.ch 15).end0 = 2 → (s.host.ch 15).end1 = 4 → (s.host.ch 15).toEnd1.words = x :: rest →
    s.host.supervisorUp = true → s.host.mbxUp = true → (s.host.ch 15).toEnd0.words.length < 16 →
    s.host.mbxOwed = 0 →
    ∃ t, exec .supervisorMailboxAnswer s = .next t ∧ (t.host.ch 15).toEnd1.words = rest ∧
      (t.host.ch 15).toEnd0.words =
        (s.host.ch 15).toEnd0.words ++ [{ word := 0xFFFFFFFF#32, source := 8, sentAt := s.now }]) ∧
  (∀ s : State, (s.host.supervisorUp = false ∨
      (((s.host.ch 15).inbound 4).words = [] ∧ s.host.mbxOwed = 0)) →
    exec .supervisorMailboxAnswer s = .next s) ∧
  (∀ (c : Fin 16) (s : State), s.dpUp = true → ∃ t, exec (.dpMbxStatusRead c) s = .next t ∧
    (t.host.ch c).dpTimeout = false ∧
    t.ev.out = .busRead (s.mbxStatus c 3 (s.host.ch c).dpTimeout (s.host.ch c).dpLastTx).toNat ::
      s.ev.out ∧ { t with host := s.host, ev := s.ev } = s)

/-- A write of a port's control word under a session takes its settings; its GO starts a transfer
with them, and while one runs a GO starts none. A put that reads the host's bytes and is
admitted leaves the packet at the end of its queue, status 0 and the cells used, and vector 24;
one refused ends with status 1, a length of 0 or above 2,048 with status 3, a closed queue with
2, a failed read with 6. A get of an empty queue ends with status 1, of a head longer than CAP
with 4, and otherwise the head packet leaves the queue and is written to host memory. (R375, R390, Table 4-14, R411) -/
def Obligations.HostPorts : Prop :=
  (∀ (w : Word) (s : State), 1 ≤ s.pcieRole → s.awake = true →
    (∃ t, exec (.hostPutGo w) s = .next t ∧ t.host.putLevel = fieldOf w 24 3 ∧ t.host.putQueue = fieldOf w 16 6 ∧
      t.host.putLen = fieldOf w 0 12 ∧
      (flagOf w 31 = true → s.host.putJob = none → t.host.putJob =
        some { addr := s.host.putAddr, queue := fieldOf w 16 6, level := fieldOf w 24 3, len := fieldOf w 0 12 }) ∧
      ((flagOf w 31 = false ∨ s.host.putJob ≠ none) → t.host.putJob = s.host.putJob)) ∧
    (∃ t, exec (.hostGetGo w) s = .next t ∧ t.host.getQueue = fieldOf w 16 6 ∧ t.host.getCap = fieldOf w 0 12 ∧
      (flagOf w 31 = true → s.host.getJob = none → t.host.getJob =
        some { addr := s.host.getAddr, queue := fieldOf w 16 6, level := 0, len := fieldOf w 0 12 }) ∧
      ((flagOf w 31 = false ∨ s.host.getJob ≠ none) → t.host.getJob = s.host.getJob))) ∧
  (∀ (j : PortJob) (bs : List Byte) (s : State), s.host.putJob = some j → s.palette.rebuilds = [] →
    1 ≤ j.len → j.len ≤ 2048 → s.palette.hostPut j.queue = true → j.queue < 64 →
    (j.queue = 23 → s.standby = false) →
    (s.palette.admits j.queue (cellsFor j.len) = true →
      ∃ t, exec (.hostPutDone (some bs)) s = .next t ∧ t.host.putJob = none ∧
        t.host.putResult = palWord 0 0 (cellsFor j.len) ∧
        (t.palette.q j.queue).packets = (s.palette.q j.queue).packets ++
          [{ level := j.level, bytes := bytesAt bs 0 j.len }] ∧
        t.ev.out = .msix 24 :: s.ev.out) ∧
    (s.palette.admits j.queue (cellsFor j.len) = false →
      ∃ t, exec (.hostPutDone (some bs)) s = .next t ∧ t.host.putJob = none ∧ t.host.putResult = palWord 1 0 0 ∧
        (t.palette.q j.queue).packets = (s.palette.q j.queue).packets ∧
        (t.palette.q j.queue).full = min (2 ^ 8 - 1) ((s.palette.q j.queue).full + 1))) ∧
  (∀ (j : PortJob) (data : Option (List Byte)) (s : State), s.host.putJob = some j →
    s.palette.rebuilds = [] →
    ∃ t, exec (.hostPutDone data) s = .next t ∧ t.host.putJob = none ∧
      (j.len = 0 ∨ 2048 < j.len → t.host.putResult = palWord 3 0 0 ∧ t.palette = s.palette) ∧
      (1 ≤ j.len ∧ j.len ≤ 2048 → (s.palette.hostPut j.queue = false ∨ (s.standby = true ∧ j.queue = 23)) →
        t.host.putResult = palWord 2 0 0 ∧ t.palette = s.palette) ∧
      (1 ≤ j.len ∧ j.len ≤ 2048 → s.palette.hostPut j.queue = true → (j.queue = 23 → s.standby = false) →
        data = none → t.host.putResult = palWord 6 0 0 ∧ t.palette = s.palette)) ∧
  (∀ (data : Option (List Byte)) (s : State), s.host.putJob = none ∨ s.palette.rebuilds ≠ [] →
    exec (.hostPutDone data) s = .next s) ∧
  (∀ (j : PortJob) (k : Packet) (s : State), s.host.getJob = some j → 1 ≤ j.len → j.len ≤ 2048 →
    s.palette.hostGet j.queue = true → (s.palette.q j.queue).head = some k →
    1 ≤ k.bytes.length → k.bytes.length ≤ j.len →
    ∃ t, exec (.hostGetDone { crcOk := true, link := .ok }) s = .next t ∧ t.host.getJob = none ∧
      t.host.getResult = palWord 0 k.level k.bytes.length ∧
      (t.palette.q j.queue).packets = (s.palette.q j.queue).dropHead.packets ∧
      t.ev.out = .msix 24 :: .hostWrite j.addr k.bytes :: s.ev.out) ∧
  (∀ (j : PortJob) (ro : ReadOut) (s : State), s.host.getJob = some j → ∃ t, exec (.hostGetDone ro) s = .next t ∧
    t.host.getJob = none ∧ t.ev.out.head? = some (.msix 24) ∧
    (j.len = 0 ∨ 2048 < j.len → t.host.getResult = palWord 3 0 0 ∧ t.palette = s.palette) ∧
    (1 ≤ j.len ∧ j.len ≤ 2048 → s.palette.hostGet j.queue = false →
      t.host.getResult = palWord 2 0 0 ∧ t.palette = s.palette) ∧
    (1 ≤ j.len ∧ j.len ≤ 2048 → s.palette.hostGet j.queue = true → (s.palette.q j.queue).head = none →
      t.host.getResult = palWord 1 0 0 ∧ t.palette = s.palette) ∧
    (∀ k, 1 ≤ j.len ∧ j.len < k.bytes.length → j.len ≤ 2048 → s.palette.hostGet j.queue = true →
      (s.palette.q j.queue).head = some k →
      t.host.getResult = palWord 4 0 k.bytes.length ∧ t.palette = s.palette)) ∧
  (∀ (ro : ReadOut) (s : State), s.host.getJob = none → exec (.hostGetDone ro) s = .next s)

/-- Setting EN from 0 restarts the writer at index 0 and phase 1. The head staged record of an
enabled ring with room is written at HEAD with the lap phase in byte 3 bit 0, HEAD advances
modulo the size and the phase turns at 0; vector n is signalled where MOD_COUNT is reached, the
record is urgent or MOD_TIME is 0. A full ring takes nothing. The moderation timer signals once
MOD_TIME has passed since the first record not yet covered. A tail write under a session moves
TAIL. (R391, R392, R393, R411) -/
def Obligations.EventQueueRings : Prop :=
  (∀ (n : Fin 8) (w : Word) (s : State), 1 ≤ s.pcieRole → s.awake = true →
    ∃ t, exec (.evqEnable n w) s = .next t ∧ (t.host.q n).en = flagOf w 31 ∧
      (t.host.q n).classMask = fieldOf w 0 16 ∧ (t.host.q n).minSev = fieldOf w 20 4 ∧
      (4 ≤ fieldOf w 24 5 → fieldOf w 24 5 ≤ 16 → (t.host.q n).log2Size = fieldOf w 24 5) ∧
      (flagOf w 31 = true → (s.host.q n).en = false → (t.host.q n).head = 0 ∧ (t.host.q n).phase = 1) ∧
      ((flagOf w 31 = false ∨ (s.host.q n).en = true) →
        (t.host.q n).head = (s.host.q n).head ∧ (t.host.q n).phase = (s.host.q n).phase)) ∧
  (∀ (n : Fin 8) (k : Packet) (s : State), (s.host.q n).en = true → (s.host.q n).room = true →
    (s.palette.q (24 + n)).head = some k →
    ∃ t, exec (.evqRecordWrite n { crcOk := true, link := .ok }) s = .next t ∧
      (t.host.q n).head = ((s.host.q n).head + 1) % 2 ^ (s.host.q n).log2Size ∧
      (t.host.q n).phase = (if (t.host.q n).head = 0 then 1 - (s.host.q n).phase
        else (s.host.q n).phase) ∧
      (t.palette.q (24 + n)).packets = (s.palette.q (24 + n)).dropHead.packets ∧
      (if (s.host.q n).modCount ≤ (s.host.q n).unsignalled + 1 ∨ (s.host.q n).modTime = 0 ∨
          ((s.host.q n).urgent = true ∧ 3 ≤ (k.bytes.getD 2 0).toNat) then
        (t.host.q n).unsignalled = 0 ∧ t.ev.out.head? = some (.msix n)
       else (t.host.q n).unsignalled = (s.host.q n).unsignalled + 1)) ∧
  (∀ (n : Fin 8) (ro : ReadOut) (s : State), ((s.host.q n).room = false ∨ (s.host.q n).en = false ∨
      (s.palette.q (24 + n)).head = none) → exec (.evqRecordWrite n ro) s = .next s) ∧
  (∀ (n : Fin 8) (s : State), ((s.host.q n).unsignalled = 0 ∨
      s.now < (s.host.q n).firstAt + (s.host.q n).modTime * us) → exec (.evqModerationTimer n) s = .next s) ∧
  (∀ (n : Fin 8) (s : State), (s.host.q n).unsignalled ≠ 0 →
    (s.host.q n).firstAt + (s.host.q n).modTime * us ≤ s.now →
    ∃ t, exec (.evqModerationTimer n) s = .next t ∧ (t.host.q n).unsignalled = 0 ∧
      t.ev.out = .msix n :: s.ev.out) ∧
  (∀ (n : Fin 8) (w : Word) (s : State), 1 ≤ s.pcieRole →
    s.awake = true → ∃ t, exec (.evqTailWrite n w) s = .next t ∧ (t.host.q n).tail = fieldOf w 0 16 ∧
      (t.host.q n).head = (s.host.q n).head)

/-- A flush with no read begun discards every packet of its queue and no packet of another queue
below Q24, and PALETTE_FLUSHED is recorded with the counts and the role; with a host get under
way on the queue it waits and is taken by the later command. The rebuild ends with no put
waiting and the links sound. A put stalled for 1 ms is discarded. (R379, R380, R382) -/
def Obligations.FlushRebuildAndPartials : Prop :=
  (∀ (w : Word) (s : State), 1 ≤ s.pcieRole → s.awake = true →
    (flagOf w 31 = false → ∃ t, exec (.paletteFlushWrite w) s = .next t ∧
      t.palette = { s.palette with flushQueue := fieldOf w 0 6 }) ∧
    (flagOf w 31 = true → s.readBegun (fieldOf w 0 6) = true → ∃ t, exec (.paletteFlushWrite w) s = .next t ∧
      t.palette = { s.palette with
        flushQueue := fieldOf w 0 6
        flushes := s.palette.flushes ++ [{ queue := fieldOf w 0 6, role := s.pcieRole }] })) ∧
  (∀ (w : Word) (s : State), 1 ≤ s.pcieRole → flagOf w 31 = true →
    s.readBegun (fieldOf w 0 6) = false →
    s.awake = true → ∃ u : State, exec (.paletteFlushWrite w) s = .next (u.emit evPaletteFlushed (fieldOf w 0 6)
        (s.palette.q (fieldOf w 0 6)).packets.length (s.palette.q (fieldOf w 0 6)).used s.pcieRole) ∧
      (u.palette.q (fieldOf w 0 6)).packets = [] ∧
      (∀ p, p ≠ fieldOf w 0 6 → u.palette.q p = s.palette.q p)) ∧
  (∀ (q : Fin 64) (f : FlushReq) (s : State), s.palette.flushes.find? (·.queue == q.val) = some f →
    (s.readBegun q = false → ∃ u : State, exec (.paletteFlush q) s = .next (u.emit evPaletteFlushed q
        (s.palette.q q).packets.length (s.palette.q q).used f.role) ∧
      (u.palette.q q).packets = [] ∧ u.palette.flushes = s.palette.flushes.erase f) ∧
    (s.readBegun q = true → exec (.paletteFlush q) s = .next s)) ∧
  (∀ (q : Fin 64) (s : State), s.palette.flushes.find? (·.queue == q.val) = none →
    exec (.paletteFlush q) s = .next s) ∧
  (∀ s : State, ∃ t, exec .freeListRebuilt s = .next t ∧ t.palette.rebuilds = [] ∧ t.palette.waiting = [] ∧
    (s.palette.waiting = [] → s.palette.rebuilds = [] → t = s)) ∧
  (∀ (w : WaitingPut) (s : State), s.palette.waiting = [w] → s.palette.rebuilds = [] → w.queue < 64 →
    s.palette.admits w.queue w.packet.cells = true → ∃ t, exec .freeListRebuilt s = .next t ∧
      (t.palette.q w.queue).packets = (s.palette.q w.queue).packets ++ [w.packet]) ∧
  (∀ (q n start : Nat) (s : State), s.palette.waiting = [] → s.palette.rebuilds = [(q, n, start)] →
    ∃ t, exec .freeListRebuilt s = .next t ∧
      Logged t evPaletteLinkFault q n ((s.now - start) / us) 0) ∧
  (∀ (q : Fin 64) (s : State),
    (∀ x, s.palette.parts.find? (fun y => y.queue == q.val && s.past y.since ms) = some x →
      ∃ t, exec (.partialPacketDiscard q) s = .next t ∧ t.palette.parts = s.palette.parts.erase x ∧
        t.palette.queues = s.palette.queues) ∧
    ((∀ x ∈ s.palette.parts, x.queue = q → s.now < x.since + ms) →
      exec (.partialPacketDiscard q) s = .next s))

/-- A read of word 6 answers the low half of device time and holds its high half for word 7. A read
of word 9 answers the two probe counts and clears them. A write to an ignored word changes no
word but HST_DP_STAT.REFUSED, which counts it, and DP_WRITE_REFUSED is recorded. (R397, R398, Table 12-9) -/
def Obligations.DirectPortWords : Prop :=
  (∀ s : State, s.dpUp = true → ∃ t, exec .dpTimeRead s = .next t ∧ t.host = { s.host with dpHigh := hi32 s.time } ∧
    t.ev.out = .busRead (lo32 s.time).toNat :: s.ev.out ∧
    { t with host := s.host, ev := s.ev } = s) ∧
  (∀ s : State, s.dpUp = true → ∃ t, exec .dpProbeCountRead s = .next t ∧
    t.host = { s.host with dpInvalid := 0, dpProbes := 0 } ∧
    t.ev.out = .busRead (pack [(16, 16, s.host.dpInvalid), (0, 16, s.host.dpProbes)]).toNat ::
      s.ev.out ∧ { t with host := s.host, ev := s.ev } = s) ∧
  (∀ (word : BitVec 24) (data : Word) (s : State), word ≠ 2 →
    (word.toNat < 0x20 ∨ 0x4F < word.toNat) →
    s.dpUp = true → ∃ t n, exec (.dpWrite word data) s = .next t ∧
      t.host.dpRefused = min (2 ^ 16 - 1) (s.host.dpRefused + 1) ∧
      t.host.locks = s.host.locks ∧ t.host.mbx = s.host.mbx ∧ t.sec = s.sec ∧ t.easels = s.easels ∧
      Logged t evDpWriteRefused word.toNat data.toNat n 0) ∧
  (∀ (word : BitVec 24) (data : Word) (s : State), s.dpUp = false → exec (.dpWrite word data) s = .next s) ∧
  (∀ s : State, s.dpUp = false → ∃ t, t = s.put (.busRead 0) ∧ exec .dpTimeRead s = .next t ∧
    exec .dpProbeCountRead s = .next t)

/-- The oldest request completes: an admitted put stores the descriptor's bytes at the end of its
queue and yields status 0 with the cells used; a get whose head packet fits stores the packet's
bytes behind the descriptor and yields status 0 with its length; an invalid descriptor yields
status 3 and a closed queue 2, a refused put and a get of an empty queue 1, and nothing is
queued or read. (R124, R375, R377, Table 4-13, Table 4-14) -/
def Obligations.EaselPaletteRequests : Prop :=
  (∀ (j : PalJob) (rest : List PalJob) (ro : ReadOut) (s : State), s.palette.jobs = j :: rest →
    j.put = true → s.palette.rebuilds = [] → s.palDescOk true j.addr = true →
    s.palette.easelPut (fieldOf (s.atelier.word j.addr) 0 6) = true →
    s.palette.admits (fieldOf (s.atelier.word j.addr) 0 6)
      (cellsFor (fieldOf (s.atelier.word j.addr) 16 16)) = true →
    ∃ t, exec (.paletteRequestComplete ro) s = .next t ∧ t.palette.jobs = rest ∧
      (t.palette.q (fieldOf (s.atelier.word j.addr) 0 6)).packets =
        (s.palette.q (fieldOf (s.atelier.word j.addr) 0 6)).packets ++
          [{ level := fieldOf (s.atelier.word j.addr) 8 3,
             bytes := s.atelier.bytes (j.addr + 32) (fieldOf (s.atelier.word j.addr) 16 16) }] ∧
      t.dsp.results = s.dsp.results ++ [{ stage := 3, task := j.task, slot := j.slot, word := palWord 0 0 (cellsFor (fieldOf (s.atelier.word j.addr) 16 16)) }] ∧
      t.atelier = s.atelier) ∧
  (∀ (j : PalJob) (rest : List PalJob) (k : Packet) (s : State), s.palette.jobs = j :: rest →
    j.put = false → s.palDescOk false j.addr = true →
    s.palette.easelGet (fieldOf (s.atelier.word j.addr) 0 6) = true →
    (s.palette.q (fieldOf (s.atelier.word j.addr) 0 6)).head = some k → 1 ≤ k.bytes.length →
    k.bytes.length ≤ fieldOf (s.atelier.word j.addr) 16 16 →
    ∃ t, exec (.paletteRequestComplete { crcOk := true, link := .ok }) s = .next t ∧
      t.palette.jobs = rest ∧ t.atelier = s.atelier.write (j.addr + 32) k.bytes ∧
      t.dsp.results = s.dsp.results ++ [{ stage := 4, task := j.task, slot := j.slot, word := palWord 0 k.level k.bytes.length }]) ∧
  (∀ (j : PalJob) (rest : List PalJob) (ro : ReadOut) (q stage : Nat) (s : State), s.palette.jobs = j :: rest →
    s.palette.rebuilds = [] → q = fieldOf (s.atelier.word j.addr) 0 6 → stage = (if j.put then 3 else 4) →
    ∃ t, exec (.paletteRequestComplete ro) s = .next t ∧ t.palette.jobs = rest ∧
      (s.palDescOk j.put j.addr = false → t.atelier = s.atelier ∧ t.dsp.results = s.dsp.results ++
        [{ stage := stage, task := j.task, slot := j.slot, word := palWord 3 0 0 }]) ∧
      (s.palDescOk j.put j.addr = true → (j.put = true → s.palette.easelPut q = false) →
        (j.put = false → s.palette.easelGet q = false) → t.atelier = s.atelier ∧ t.dsp.results = s.dsp.results ++
        [{ stage := stage, task := j.task, slot := j.slot, word := palWord 2 0 0 }]) ∧
      (s.palDescOk j.put j.addr = true → j.put = true → s.palette.easelPut q = true →
        s.palette.admits q (cellsFor (fieldOf (s.atelier.word j.addr) 16 16)) = false → t.atelier = s.atelier ∧
        t.dsp.results = s.dsp.results ++
          [{ stage := stage, task := j.task, slot := j.slot, word := palWord 1 0 0 }]) ∧
      (s.palDescOk j.put j.addr = true → j.put = false → s.palette.easelGet q = true →
        (s.palette.q q).head = none → t.atelier = s.atelier ∧ t.dsp.results = s.dsp.results ++
          [{ stage := stage, task := j.task, slot := j.slot, word := palWord 1 0 0 }])) ∧
  (∀ (ro : ReadOut) (s : State), s.palette.jobs = [] → exec (.paletteRequestComplete ro) s = .next s)

/-- Link and heartbeat changes are recorded; an active that loses its link is SOLO, a standby in
step resyncs while the heartbeat stands and is ISOLATED when both are gone. An isolated unit
follows a serving partner, a SOLO one becomes ACTIVE for a syncing standby, and of two serving
units seat B gives way. A RESIGN makes an unblocked standby in step SOLO and isolates a blocked
one. A listening period that heard a beacon begins again. SWITCH, RESYNC and ISOLATE act under
their session, or are refused; at its superframe the active hands over. FAULTED ends after one
second. A health report sets BLOCKED. Relayed stops and releases, forwarded frames and heartbeat
services take effect. (R415, R417, R429, R430, R432, R433, R435, R436, R437, R438, R440, Table 13-3) -/
def Obligations.TwinStates : Prop :=
  (∀ s : State, s.awake = true → s.paired = true →
    (s.twin.link ≠ 2 → ∃ t, exec .twinLinkUp s = .next t ∧ t.twin.link = 2 ∧ Logged t evTwinLink 1 2 0 0 ∧
      t.twin.peer = if s.twin.link = 0 then 7 else s.twin.peer) ∧
    (s.twin.link = 2 → exec .twinLinkUp s = .next s) ∧ (s.twin.link ≠ 2 → exec .twinLaneLost s = .next s) ∧
    (s.twin.link = 0 → exec .twinLinkDown s = .next s) ∧
    (s.twin.hbIn = true → exec .heartbeatPresent s = .next s) ∧
    (s.twin.hbIn = false → exec .heartbeatLost s = .next s) ∧
    (s.twin.link = 2 → ∃ t, exec .twinLaneLost s = .next t ∧ t.twin.link = 1 ∧ Logged t evTwinLink 1 1 0 0) ∧
    (s.twin.link ≠ 0 → ∃ t, exec .twinLinkDown s = .next t ∧ t.twin.link = 0 ∧
      (s.twin.state = .active → t.twin.state = .solo) ∧
      (s.twin.state = .standbyInstep → t.twin.state = if s.twin.hbIn then .standbySyncing else .isolated)) ∧
    (s.twin.hbIn = false → ∃ t, exec .heartbeatPresent s = .next t ∧ t.twin.hbIn = true ∧ Logged t evHeartbeat 1 0 0 0) ∧
    (s.twin.hbIn = true → ∃ t, exec .heartbeatLost s = .next t ∧ t.twin.hbIn = false ∧
      (s.twin.link ≠ 0 → t.twin.state = s.twin.state ∧ Logged t evHeartbeat 0 0 0 0) ∧
      (s.twin.link = 0 → s.twin.state = .standbyInstep → t.twin.state = .isolated ∧
        t.twin.listenSince = some s.fleet.superframes))) ∧
  (∀ (st : TwinState) (b : Bool) (inc : BitVec 16) (run : BitVec 64) (s : State), s.linked = true →
    ∃ t, exec (.stateMsg st b inc run) s = .next t ∧ t.twin.peer = st.code ∧ t.twin.peerSeatB = b ∧
      t.twin.peerInc = inc.toNat ∧ t.twin.peerRun = run.toNat) ∧
  (∀ (b : Bool) (inc : BitVec 16) (run : BitVec 64) (s : State), s.linked = true → b ≠ s.twin.seatB →
    (s.twin.state = .isolated → s.twin.isolateHeld = false → ∃ t, exec (.stateMsg .active b inc run) s = .next t ∧
      t.twin.state = .standbySyncing ∧ t.twin.peer = 1) ∧
    (s.twin.state = .solo → ∃ t, exec (.stateMsg .standbySyncing b inc run) s = .next t ∧ t.twin.state = .active ∧
      t.twin.peer = 2) ∧
    (s.twin.state = .solo → ∃ t, exec (.stateMsg .solo b inc run) s = .next t ∧
      t.twin.state = if s.twin.seatB then .isolated else .solo)) ∧
  (∀ s : State, s.linked = true →
    (s.twin.state = .standbyInstep → s.twin.blocked = false → ∃ t, exec .resignMsg s = .next t ∧ t.twin.state = .solo ∧
      t.twin.takeovers = satAdd 8 s.twin.takeovers 1) ∧
    (s.twin.state = .standbyInstep → s.twin.blocked = true → ∃ t, exec .resignMsg s = .next t ∧ t.twin.state = .isolated) ∧
    (s.twin.state = .faulted → s.rbit rTwnCfg 1 = true → ∃ t, exec .resetMsg s = .next t ∧ t.pwr.state = .off ∧
      t.pwr.last.kind = 4) ∧
    ((s.twin.state ≠ .faulted ∨ s.rbit rTwnCfg 1 = false) → exec .resetMsg s = .next s) ∧
    (s.twin.state = .standbySyncing → ∃ t, exec .resignMsg s = .next t ∧ t.twin.state = .isolated) ∧
    (s.standby = false → exec .resignMsg s = .next s)) ∧
  (∀ (n : Nat) (s : State), s.awake = true → s.paired = true → s.twin.state = .isolated → s.twin.isolateHeld = false →
    s.twin.link = 0 → s.twin.listenSince = some n →
    (n + s.twin.listenFor ≤ s.fleet.superframes ∨ s.air.counting = false) →
    (∃ t, exec (.listenExpiry true) s = .next t ∧ t.twin.state = .isolated ∧
      t.twin.listenSince = some s.fleet.superframes) ∧
    (s.twin.fromInstep = true → s.twin.blocked = false → ∃ t, exec (.listenExpiry false) s = .next t ∧
      t.twin.state = .solo ∧ t.twin.takeovers = satAdd 8 s.twin.takeovers 1) ∧
    ((s.twin.fromInstep = false ∨ s.twin.blocked = true) →
      (s.rbit rTwnCfg 2 = true → ∃ t, exec (.listenExpiry false) s = .next t ∧ t.twin.state = .solo) ∧
      (s.rbit rTwnCfg 2 = false → ∃ t, exec (.listenExpiry false) s = .next t ∧ t.twin.state = .isolated ∧
        t.twin.listenSince = some s.fleet.superframes))) ∧
  (∀ (heard : Bool) (s : State), (s.twin.state ≠ .isolated ∨ s.twin.isolateHeld = true ∨ s.twin.link ≠ 0 ∨
      s.twin.listenSince = none) → exec (.listenExpiry heard) s = .next s) ∧
  (∀ s : State, s.awake = true →
    (s.pcieRole = 0 → ∃ t, exec .switch s = .next t ∧ t.twin = { s.twin with cmdResult := true }) ∧
    (1 ≤ s.pcieRole → s.twin.state = .active → s.twin.peer = 3 → s.twin.blocked = false → ∀ n, s.switchSuperframe = some n →
      ∃ t, exec .switch s = .next t ∧ t.twin = { s.twin with switchAt := some n }) ∧
    (1 ≤ s.pcieRole → (s.twin.state ≠ .active ∨ s.twin.peer ≠ 3 ∨ s.twin.blocked = true ∨ s.switchSuperframe = none) →
      ∃ t, exec .switch s = .next t ∧ t.twin = { s.twin with cmdResult := true }) ∧
    ((s.pcieRole < 2 ∨ (s.twin.isolateHeld = false ∧ s.twin.state ≠ .faulted)) →
      ∃ t, exec .resync s = .next t ∧ t.twin = { s.twin with cmdResult := true }) ∧
    (2 ≤ s.pcieRole → s.twin.isolateHeld = true → ∃ t, exec .resync s = .next t ∧ t.twin.isolateHeld = false) ∧
    (2 ≤ s.pcieRole → s.twin.isolateHeld = false → s.twin.state = .faulted → ∃ t, exec .resync s = .next t ∧
      t.twin.state = .standbySyncing) ∧
    (2 ≤ s.pcieRole → s.paired = true → ∃ t, exec .isolate s = .next t ∧ t.twin.state = .isolated ∧
      t.twin.isolateHeld = true) ∧
    ((s.pcieRole < 2 ∨ s.paired = false) → ∃ t, exec .isolate s = .next t ∧ t.twin = { s.twin with cmdResult := true })) ∧
  (∀ (n : Nat) (s : State), s.twin.switchAt = some n → s.twin.state = .active → s.twin.peer = 3 → s.twin.blocked = false →
    (n ≤ s.air.superframe → ∃ t, exec .switchover s = .next t ∧ t.twin.state = .standbyInstep ∧
      t.twin.takeovers = satAdd 8 s.twin.takeovers 1) ∧
    (s.air.superframe < n → exec .switchover s = .next s)) ∧
  (∀ s : State, (s.twin.switchAt = none ∨ s.twin.state ≠ .active) → exec .switchover s = .next s) ∧
  (∀ s : State, s.twin.state = .faulted → s.twin.thirdFail = false →
    (s.twin.faultedAt + second ≤ s.now → ∃ t, exec .faultedTimeout s = .next t ∧ t.twin.state = .standbySyncing) ∧
    (s.now < s.twin.faultedAt + second → exec .faultedTimeout s = .next s)) ∧
  (∀ (h : Health) (s : State), s.linked = true →
    (s.twin.state = .active → ∃ t, exec (.healthMsg h) s = .next t ∧
      t.twin.blocked = decide (h.pass % 64 ≠ 63) ∧ Logged t evTwinHealth (h.pass % 64) h.cap (par h.rssi) (par h.delta)) ∧
    (s.twin.state ≠ .active → exec (.healthMsg h) s = .next s)) ∧
  (∀ (o : HealthObs) (h : Health) (s : State), h = s.selfTest o →
    (s.linked = true → s.twin.state = .standbyInstep → s.twin.healthAt + 10 * second ≤ s.now →
      ∃ t, exec (.standbyHealthReport o) s = .next t ∧ t.twin.healthAt = s.now ∧
        t.twin.blocked = decide (h.pass % 64 ≠ 63) ∧ Out.twin (.health h) ∈ t.ev.out) ∧
    ((s.twin.state ≠ .standbyInstep ∨ s.now < s.twin.healthAt + 10 * second) →
      exec (.standbyHealthReport o) s = .next s) ∧
    bitsOf h.pass 1 1 = bit o.cells ∧
    (∀ t0, s.twin.eccAt = some t0 → (bitsOf h.pass 0 1 = 1 ↔ t0 + 10 * second ≤ s.now))) ∧
  (∀ (x : Stop) (sub : Bool) (b : Burst) (s : State), s.linked = true →
    (s.serving = true → x.kind = .fleet → s.fleet.fleetActive = false →
      ∃ t y, exec (.stopRelay x sub (some b)) s = .next t ∧
        t.fleet.stops = s.fleet.stops ++ [y] ∧ y.kind = .fleet ∧ y.source = 6) ∧
    (s.standby = true → exec (.stopRelay x false (some b)) s = .next (s.startBurst b (hardSource x.source) true) ∧
      exec (.stopRelay x true (some b)) s = .next s ∧ exec (.stopRelay x sub none) s = .next s) ∧
    (s.serving = false → s.standby = false → (∀ y ∈ s.fleet.stops, y.seq ≠ x.seq) →
      ∃ t, exec (.stopRelay x false none) s = .next t ∧ t.fleet.stops = s.fleet.stops ++ [x] ∧
        t.fleet.lastSource = x.source) ∧
    (s.serving = false → s.standby = false → (∃ y ∈ s.fleet.stops, y.seq = x.seq) →
      exec (.stopRelay x sub (some b)) s = .next s)) ∧
  (∀ (x : Stop) (role : Fin 6) (seq : BitVec 16) (s : State), s.linked = true → s.serving = false →
    (s.standby = true → s.canvas.batch = []) →
    (s.fleet.stops = [x] → x.seq = seq.toNat → ∃ t, exec (.releaseRelay seq role) s = .next t ∧ t.fleet.stops = []) ∧
    ((∀ y ∈ s.fleet.stops, y.seq ≠ seq.toNat) → exec (.releaseRelay seq role) s = .next s)) ∧
  (∀ (x y : Rx) (s : State), s.linked = true → s.serving = true →
    y = { x with sf := s.air.superframe, slotStart := s.air.spanStart x.chain, slotEnd := s.air.spanEnd x.chain,
                 forwarded := true } →
    (leAt x.payload 0 1 % 16 = 5 →
      exec (.forwardMsg (.frame x)) s = .next (s.modAir fun a => { a with rx := a.rx ++ [y] })) ∧
    (leAt x.payload 0 1 % 16 ≠ 5 → (s.air.station (chainOf x) x.station).isDup x.seq s.air.superframe = false →
      s.rxRoom (chainOf x) y = true → ∃ t, exec (.forwardMsg (.frame x)) s = .next t ∧
        t.air.rx = s.air.rx ++ [{ y with isNew := (s.air.station (chainOf x) x.station).state == 1 }]) ∧
    (leAt x.payload 0 1 % 16 ≠ 5 → (s.air.station (chainOf x) x.station).isDup x.seq s.air.superframe = true →
      exec (.forwardMsg (.frame x)) s = .next s)) ∧
  (∀ s : State,
    (s.pwr.booted = true → ∃ t, exec .heartbeatService s = .next t ∧ t.twin = { s.twin with hbServedAt := some s.now }) ∧
    (∀ t0, s.twin.hbServedAt = some t0 → t0 + 50 * ms ≤ s.now → ∃ t, exec .heartbeatOutStopped s = .next t ∧
      t.twin.hbServedAt = none ∧ t.twin.hbOut = 0 ∧
      t.ev.out = (if s.twin.hbOut = 0 then s.ev.out else .pin "TWHB_OUT" 0 :: s.ev.out)) ∧
    (∀ t0, s.twin.hbServedAt = some t0 → s.now < t0 + 50 * ms → exec .heartbeatOutStopped s = .next s))

/-- A standby keeps entries of later epochs and applies those of the present one, acknowledges a
closed epoch, and resyncs where the log is late; the active takes the acknowledgement, and gives
the partner up where it is late. A digest is sent once its epoch's work is complete; equal
digests end a run of mismatches, and the second unequal or missing one in step is a fault. The
active sends its plane in the snapshot's epoch, a standby loads it whole and is in step once it
has caught up with 64 equal digests; a transfer that fails is counted, the third makes the unit
FAULTED, and another is tried after 10 s. A time marker gives θ, and a joined follower takes the
active's time state. (R367, R369, R419, R420, R421, R422, R426, R427, R428, Table 13-5, Table 13-8) -/
def Obligations.TwinLogDigestsAndTransfers : Prop :=
  (∀ (e : Nat) (x : LogEntry) (b : Bool) (s : State), s.linked = true →
    (s.twin.state = .standbySyncing → s.twin.loaded = false → (∀ h, x ≠ .start h) → (∀ r, x ≠ .cartoonStop r) →
      exec (.logMsg e x) s = .next (s.modTwin fun t => { t with entries := t.entries ++ [(e, x)] })) ∧
    (s.twin.state = .standbyInstep → s.twin.entries = [] → e ≤ s.epoch.n → ∃ t,
      exec (.logMsg e (.admission b)) s = .next t ∧ t.twin.entries = [] ∧ t.canvas = { s.canvas with admitShut := b }) ∧
    (s.twin.state = .standbySyncing → s.transferring = true → (∃ h, x = .start h) ∨ (∃ r, x = .cartoonStop r) →
      ∃ t, exec (.logMsg e x) s = .next t ∧ t.twin.fails = satAdd 8 s.twin.fails 1 ∧ t.twin.loaded = false) ∧
    (s.standby = true → exec (.logCloseMsg e) s = .next ((s.modTwin fun t =>
      { t with lastClosed := some (max e (t.lastClosed.getD e)) }).put (.twin (.logAck e)))) ∧
    (s.twin.state = .active → ∃ t, exec (.logAckMsg e) s = .next t ∧
      t.twin.lastAck = some (max e (s.twin.lastAck.getD e)) ∧ t.twin.state = .active) ∧
    (s.standby = false → exec (.logMsg e x) s = .next s ∧ exec (.logCloseMsg e) s = .next s) ∧
    (s.twin.state ≠ .active → exec (.logAckMsg e) s = .next s)) ∧
  (∀ s : State,
    (s.batchReady = true → exec .logAckTimeout s = .next s) ∧
    (s.batchReady = false → ∃ t, exec .logAckTimeout s = .next t ∧ t.twin.peer = 7 ∧
      Logged t evLogLate ((s.epoch.n - 1) % 2 ^ 32) 0 0 0) ∧
    (∀ c, s.twin.state = .standbyInstep → s.twin.lastClosed = some c → c + 1 < s.epoch.n →
      s.epoch.nominal + 20 * us ≤ s.time → ∃ t, exec .logCloseTimeout s = .next t ∧ t.twin.state = .standbySyncing) ∧
    (∀ c, s.twin.lastClosed = some c → s.epoch.n ≤ c + 1 → exec .logCloseTimeout s = .next s)) ∧
  (∀ (d : Digest) (rest : List Digest) (s : State), s.ev.past = d :: rest → s.linked = true → s.keepsOwn = false →
    (s.workOf d.epoch = false → ∃ t, exec .digestSend s = .next t ∧ t.ev.past = rest ∧
      t.ev.out = .twin (.digest d.epoch d.sum) :: s.ev.out) ∧
    (s.workOf d.epoch = true → exec .digestSend s = .next s)) ∧
  (∀ (d : Digest) (rest : List Digest) (s : State), s.ev.past = d :: rest → s.linked = true → s.keepsOwn = true →
    s.workOf d.epoch = false → s.twin.theirs = [] → ∃ t, exec .digestSend s = .next t ∧ t.ev.past = rest ∧
      t.twin.own = s.twin.own ++ [(d.epoch, d.sum)] ∧ t.ev.out = .twin (.digest d.epoch d.sum) :: s.ev.out) ∧
  (∀ (e d : Nat) (s : State), s.keepsOwn = false → exec (.digestMsg e d) s = .next s) ∧
  (∀ (e a d : Nat) (s : State), s.twin.state = .standbyInstep → s.twin.own = [(e, a)] → s.twin.theirs = [] →
    (s.linked = true → d = a → ∃ t, exec (.digestMsg e d) s = .next t ∧ t.twin.misses = 0 ∧ t.twin.own = [] ∧
      t.twin.state = .standbyInstep) ∧
    (s.linked = true → d ≠ a → s.twin.misses = 0 → ∃ t, exec (.digestMsg e d) s = .next t ∧ t.twin.misses = 1 ∧
      t.twin.matched = 0 ∧ t.twin.state = .standbyInstep) ∧
    (s.linked = true → d ≠ a → s.twin.misses = 1 → ∃ t, exec (.digestMsg e d) s = .next t ∧ t.twin.state = .faulted) ∧
    (s.twin.misses = 1 → e + 16 ≤ s.epoch.n → ∃ t, exec .digestTimeout s = .next t ∧ t.twin.state = .faulted) ∧
    (s.epoch.n < e + 16 → exec .digestTimeout s = .next s)) ∧
  (∀ (slot allow : Nat) (s : State), s.linked = true → s.standby = true →
    exec (.ledgerMsg slot allow) s = .next (s.modTwin fun t => { t with allow := (slot, allow) })) ∧
  (∀ (slot allow : Nat) (s : State), s.standby = false → exec (.ledgerMsg slot allow) s = .next s) ∧
  (∀ (st : Nat) (s : State), s.linked = true →
    (s.pfo.sharing = true → ∃ t, exec (.transferMsg (.outcome st)) s = .next t ∧ t.pfo.sharing = false ∧
      t.pfo.code = if st = 0 then 0 else 9) ∧
    (s.pfo.sharing = false → exec (.transferMsg (.outcome st)) s = .next s) ∧
    ∀ b, exec (.transferMsg (.portfolio b)) s = .next (s.modPfo fun p => { p with claim := some b })) ∧
  (∀ (c : Cartoon) (e : Nat) (p : DetPlane) (s : State), s.linked = true → s.twin.state = .standbySyncing →
    exec (.transferMsg (.image c)) s = .next (s.modTwin fun t => { t with image := some c }) ∧
    (s.twin.entries = [] → s.twin.image = none → ∃ t, exec (.transferMsg (.snapshot e p)) s = .next t ∧
      t.twin.loaded = true ∧ t.twin.snapshotE = some e ∧ t.canvas.cells = p.canvas.cells ∧
      t.canvas.grants = p.canvas.grants ∧ t.stk = p.stk ∧ t.gdl = p.gdl ∧
      (∀ k : Fin 8, t.easels[k].bank = p.easels[k].bank ∧ t.easels[k].run = p.easels[k].run ∧
        t.easels[k].scratch = p.easels[k].scratch ∧ t.easels[k].fifo = p.easels[k].fifo ∧
        t.easels[k].imem = s.easels[k].imem) ∧
      t.atelier.mem = p.atelier.mem ∧ t.epoch = p.epoch ∧ t.dsp.instances = p.dsp.instances ∧
      t.fleet.stops = p.fleet.stops ∧ t.fleet.incarnation = p.fleet.incarnation)) ∧
  (∀ s : State, s.twin.state = .active → s.twin.snapshotE = some s.epoch.n → s.twin.sent = 0 → s.linked = true →
    ∃ t, exec .twinSnapshot s = .next t ∧ t.twin.sent = 100 ∧
      Out.twin (.transfer (.snapshot s.epoch.n s.plane)) ∈ t.ev.out) ∧
  (∀ (e : Nat) (s : State), s.twin.state = .standbySyncing → s.twin.snapshotE = some e →
    (s.twin.loaded = true → s.epoch.n = s.time / max 1 s.epoch.length → 64 ≤ s.twin.matched →
      ∃ t, exec .twinCaughtUp s = .next t ∧ t.twin.state = .standbyInstep ∧ t.twin.fails = 0) ∧
    (s.twin.matched < 64 → exec .twinCaughtUp s = .next s) ∧
    (e * max 1 s.epoch.length + 30 * second ≤ s.time → ∃ t, exec (.transferTimeout 5) s = .next t ∧
      t.twin.fails = satAdd 8 s.twin.fails 1 ∧ t.twin.loaded = false ∧
      t.twin.state = (if 2 ≤ s.twin.fails then .faulted else .standbySyncing)) ∧
    (s.time < e * max 1 s.epoch.length + 30 * second → exec (.transferTimeout 5) s = .next s) ∧
    (∀ t0, s.twin.failedAt = some t0 → t0 + 10 * second ≤ s.now → ∃ t, exec .transferRetry s = .next t ∧
      t.twin.failedAt = none) ∧
    (∀ t0, s.twin.failedAt = some t0 → s.now < t0 + 10 * second → exec .transferRetry s = .next s)) ∧
  (∀ (c : Fin 10) (s : State),
    (s.transferring = true → (c.val = 4 ∨ (c.val = 1 ∧ s.twin.link = 0) ∨ (c.val = 2 ∧ s.standby = true) ∨
      (c.val = 6 ∧ s.dsp.live = false)) → ∃ t, exec (.transferTimeout c) s = .next t ∧
      t.twin.fails = satAdd 8 s.twin.fails 1 ∧ t.twin.snapshotE = none) ∧
    (s.transferring = false → exec (.transferTimeout c) s = .next s)) ∧
  (∀ s : State, s.twin.snapshotE = none ∨ s.twin.state ≠ .standbySyncing → exec .twinCaughtUp s = .next s) ∧
  (∀ s : State, s.twin.state ≠ .active ∨ s.twin.snapshotE ≠ some s.epoch.n → exec .twinSnapshot s = .next s) ∧
  (∀ (t1 t3 t4 : Nat) (st : Fin 4) (u : BitVec 24) (rate : Int) (th : Int) (s : State), s.linked = true →
    th = 5 * (((s.tmb.stamps[24].last : Int) - t1) - ((t4 : Int) - t3)) - s.tmb.asym →
    (s.standby = true → (s.twin.joined = true ∨ (-10000000 ≤ th ∧ th ≤ 10000000)) →
      ∃ t, exec (.timeMsg t1 t3 t4 st u rate) s = .next t ∧ t.twin.joined = true ∧
        t.tmb.theta = th ∧ t.servo.ts = TimeState.ofCode st.val ∧ t.tmb.rate = max (-(2 ^ 28)) (min rate (2 ^ 28))) ∧
    (s.standby = true → s.twin.joined = false → 10000000 < th → ∃ t, exec (.timeMsg t1 t3 t4 st u rate) s = .next t ∧
      t.pwr.state = .off ∧ t.pwr.last.kind = 2) ∧
    (s.standby = true → s.twin.joined = false → th < -10000000 → ∃ t, exec (.timeMsg t1 t3 t4 st u rate) s = .next t ∧
      t.twin.joined = true ∧ t.tmb.theta = th ∧
      Logged t evTwinTimeJoin ((-th / 10).toNat % 2 ^ 32) ((-th / 10).toNat / 2 ^ 32) 0 0) ∧
    (s.twin.state = .active → (s.twin.peer = 2 ∨ s.twin.peer = 3) → ∃ t, exec (.timeMsg t1 t3 t4 st u rate) s = .next t ∧
      t.tmb.theta = th ∧ t.servo = s.servo ∧ t.tmb.rate = s.tmb.rate) ∧
    (s.standby = false → s.twin.state ≠ .active → exec (.timeMsg t1 t3 t4 st u rate) s =
      .next (s.modTwin fun t => { t with heardAt := s.tmb.stamps[24].last })))

/-- At a period centre every channel takes its two samples and is released once; a channel at rest
keeps its position and one in FOLLOWING that no limit bars takes its stroke's position and
offset. Standstill waits STANDSTILL_MS. A step edge moves the target of a FOLLOW channel and
faults it beyond its lag; 20 ms without an edge sets its rate from the lag. A limit is debounced
and trips FAULT outside OFF and HOMING; chatter ends after 1 s. Homing goes through its steps or
fails at HOME_MAX. HOME, CLEAR and SET_MODE act or are refused, and a malformed packet is
refused. Stall detection starts 100 ms after a takeover. (R444, R446, R448, R449, R451, R452, R453, R454, R457, R461, Table 14-3, Table 14-5) -/
def Obligations.PassageDrives : Prop :=
  (∀ (samples : Vector (BitVec 12) 16) (s : State), ∃ t, exec (.pwmPeriodCentre samples) s = .next t ∧
    t.drv.blockDue = true ∧ ∀ d : Fin 8,
      t.drv.ch[d].centre = max s.drv.ch[d].centre (s.time / 50000) ∧
      t.drv.ch[d].a.i = ((samples.toList.getD (2 * d.val) 2048#12).toNat : Int) - 2048 ∧
      t.drv.ch[d].b.i = ((samples.toList.getD (2 * d.val + 1) 2048#12).toNat : Int) - 2048 ∧
      (s.drv.ch[d].next = none → s.drv.ch[d].st = .off ∨ s.drv.ch[d].st = .unhomed ∨ s.drv.ch[d].st = .fault →
        t.drv.ch[d].m = s.drv.ch[d].m ∧ t.drv.ch[d].st = s.drv.ch[d].st) ∧
      (s.drv.ch[d].next = none → s.drv.ch[d].st = .following → s.drv.ch[d].home.active = false →
        s.drv.ch[d].far.active = false → t.drv.ch[d].m =
          (((tblGet chanDefault s.stk.chans (256 + d.val)).stroke.at (s.time / 50000 * 50000)).1 / fx +
            s.drv.ch[d].offset) * fx)) ∧
  (∀ (d : Fin 8) (s : State), s.drv.ch[d].standstill = false →
    (s.drv.ch[d].moved + s.drv.ch[d].fld 10 2 * ms ≤ s.now → ∃ t, exec (.standstillEnter d) s = .next t ∧
      t.drv.ch[d].standstill = true ∧ t.drv.ch[d].m = s.drv.ch[d].m) ∧
    (s.now < s.drv.ch[d].moved + s.drv.ch[d].fld 10 2 * ms → exec (.standstillEnter d) s = .next s)) ∧
  (∀ (d : Fin 8) (s : State), s.drv.ch[d].standstill = true → exec (.standstillEnter d) s = .next s) ∧
  (∀ (d : Fin 8) (up : Bool) (s : State),
    (s.drv.ch[d].st ≠ .follow → exec (.stepEdge d up) s = .next s ∧ exec (.followIdle d) s = .next s) ∧
    (s.drv.ch[d].st = .follow → ∀ p : Int, p = s.drv.ch[d].p +
        (if up then 1 else -1) * (256 / 2 ^ s.drv.ch[d].fld 2 1 : Int) →
      ∃ t, exec (.stepEdge d up) s = .next t ∧ t.drv.ch[d].p = p ∧ t.drv.ch[d].lastEdge = some s.time ∧
        t.drv.ch[d].st = if (s.drv.ch[d].fld 30 2 : Int) * 256 * fx < |p * fx - s.drv.ch[d].m| then .fault else .follow) ∧
    (∀ t0, s.drv.ch[d].st = .follow → s.drv.ch[d].lastEdge = some t0 →
      (t0 + 20 * ms ≤ s.time → ∃ t, exec (.followIdle d) s = .next t ∧
        t.drv.ch[d] = { s.drv.ch[d] with rate := (s.drv.ch[d].p * fx - s.drv.ch[d].m) * 20000,
                                         slew := (s.drv.ch[d].p * fx - s.drv.ch[d].m) * 20000 }) ∧
      (s.time < t0 + 20 * ms → exec (.followIdle d) s = .next s))) ∧
  (∀ (d : Fin 8) (far level raw : Bool) (x : Drv) (l : Limit) (s : State), x = s.drv.ch[d] →
    l = (if far then x.far else x.home) → raw = (level == (x.fld 3 1 / (if far then 2 else 1) % 2 == 1)) →
    ∃ t m, exec (.limitInputChange d far level) s = .next t ∧
      m = (if far then t.drv.ch[d].far else t.drv.ch[d].home) ∧ m.level = raw ∧
      (raw ≠ l.level → m.changed = s.now) ∧
      (raw ≠ l.level → (l.chatter = true ∨
          (l.edges.filter fun e => decide (s.now ≤ e + 100 * ms)).length + 1 < x.fld 24 1) →
        m.active = l.active ∧ m.chatter = l.chatter ∧ t.drv.ch[d].st = x.st) ∧
      (raw ≠ l.level → l.chatter = false →
        x.fld 24 1 ≤ (l.edges.filter fun e => decide (s.now ≤ e + 100 * ms)).length + 1 →
        m.active = true ∧ m.chatter = true ∧ t.drv.chatters = satAdd 8 s.drv.chatters 1) ∧
      (raw = l.level → (l.chatter = true ∨ raw = l.active ∨ s.now < l.changed + x.fld 7 1 * 100000) →
        m = l ∧ t.drv.ch[d].st = x.st) ∧
      (raw = l.level → l.chatter = false → raw ≠ l.active → l.changed + x.fld 7 1 * 100000 ≤ s.now →
        m.active = raw ∧ (raw = false → t.drv.ch[d].st = x.st) ∧
        (raw = true → x.st ≠ .off → x.st ≠ .homing → t.drv.ch[d].st = .fault ∧
          t.drv.ch[d].cause = (if far then 3 else 2) ∧ t.drv.ch[d].homed = false ∧
          t.drv.trips = satAdd 8 s.drv.trips 1) ∧
        (raw = true → x.st = .off → t.drv.ch[d].st = .off) ∧
        (raw = true → x.st = .homing → t.drv.ch[d].st = if far then .unhomed else .homing))) ∧
  (∀ (d : Fin 8) (far : Bool) (l : Limit) (s : State), l = (if far then s.drv.ch[d].far else s.drv.ch[d].home) →
    (l.chatter = true → l.level = false → l.changed + second ≤ s.now → ∃ t m, exec (.chatterEnd d far) s = .next t ∧
      m = (if far then t.drv.ch[d].far else t.drv.ch[d].home) ∧ m = { l with chatter := false, active := false } ∧
      t.drv.ch[d].st = s.drv.ch[d].st) ∧
    ((l.chatter = false ∨ l.level = true ∨ s.now < l.changed + second) → exec (.chatterEnd d far) s = .next s)) ∧
  (∀ (d : Fin 8) (h : Homing) (s : State), s.drv.ch[d].homing = some h → h.failed = false →
    (h.step = 1 → s.drv.ch[d].home.active = true → ∃ t g, exec (.homingPhaseEnd d) s = .next t ∧
      t.drv.ch[d].homing = some g ∧ g.step = 2 ∧ g.move.kind = .braking ∧ g.startM = h.startM ∧
      g.seek = (|s.drv.ch[d].mUnits - h.startM| / 256).toNat) ∧
    (h.step = 1 → s.drv.ch[d].home.active = false →
      |s.drv.ch[d].mUnits - h.startM| < (s.drv.ch[d].fld 36 4 : Int) * 256 → exec (.homingPhaseEnd d) s = .next s) ∧
    (h.step = 2 ∨ h.step = 4 → h.move.moving s.time = true → exec (.homingPhaseEnd d) s = .next s) ∧
    (h.step = 2 ∨ h.step = 4 → h.move.moving s.time = false → ∃ t g, exec (.homingPhaseEnd d) s = .next t ∧
      t.drv.ch[d].homing = some g ∧ g.step = h.step + 1 ∧ t.drv.ch[d].offset = s.drv.ch[d].offset) ∧
    (h.step = 3 → s.drv.ch[d].home.active = true → exec (.homingPhaseEnd d) s = .next s) ∧
    (h.step = 1 → s.drv.ch[d].home.active = false →
      (s.drv.ch[d].fld 36 4 : Int) * 256 ≤ |s.drv.ch[d].mUnits - h.startM| → ∃ t, exec (.homingPhaseEnd d) s = .next t ∧
        t.drv.ch[d].st = .unhomed ∧ t.drv.ch[d].homing = none ∧
        Logged t evHomingFailed d 0 (|s.drv.ch[d].mUnits - h.startM| / 256).toNat 0) ∧
    (h.step = 3 → s.drv.ch[d].home.active = false → ∃ t g, exec (.homingPhaseEnd d) s = .next t ∧
      t.drv.ch[d].offset = s.drv.ch[d].mUnits - signedOf 32 (s.drv.ch[d].fld 32 4) ∧
      t.drv.ch[d].homing = some g ∧ g.step = 4) ∧
    (h.step = 5 → h.move.moving s.time = false → ∃ t, exec (.homingPhaseEnd d) s = .next t ∧
      t.drv.ch[d].st = .following ∧ t.drv.ch[d].homed = true ∧ t.drv.ch[d].homing = none ∧
      Logged t evDriveHomed d (par s.drv.ch[d].offset) h.seek ((s.now - h.start) / ms))) ∧
  (∀ (d : Fin 8) (s : State),
    (s.drv.ch[d].homing = none → exec (.homingPhaseEnd d) s = .next s) ∧
    (∀ h, s.drv.ch[d].homing = some h → h.failed = true → h.move.moving s.time = false →
      ∃ t, exec (.homingPhaseEnd d) s = .next t ∧ t.drv.ch[d].st = .unhomed ∧ t.drv.ch[d].homing = none)) ∧
  (∀ (d : Fin 8) (k : Packet) (s : State), (s.palette.q 51).head = some k →
    (drvPacket k.bytes = some (1, d) → s.drv.ch[d].mode = 1 →
      (s.drv.ch[d].st = .unhomed ∨ s.drv.ch[d].st = .following → ∃ t,
        exec (.driveHome { crcOk := true, link := .ok }) s = .next t ∧ t.drv.ch[d].st = .homing ∧
        t.drv.ch[d].homed = false) ∧
      (s.drv.ch[d].st = .homing ∨ s.drv.ch[d].st = .fault → ∃ t,
        exec (.driveHome { crcOk := true, link := .ok }) s = .next t ∧ t.drv.ch = s.drv.ch ∧
        t.drv.refused = satAdd 8 s.drv.refused 1)) ∧
    (drvPacket k.bytes = some (2, d) →
      (s.drv.ch[d].st = .fault → ∃ t, exec (.driveClear { crcOk := true, link := .ok }) s = .next t ∧
        t.drv.ch[d].st = (if s.drv.ch[d].mode = 2 then .follow else .unhomed) ∧
        Logged t evDriveFaultCleared d s.drv.ch[d].cause 0 0) ∧
      (s.drv.ch[d].st ≠ .fault → ∃ t, exec (.driveClear { crcOk := true, link := .ok }) s = .next t ∧
        t.drv.ch = s.drv.ch ∧ t.drv.refused = satAdd 8 s.drv.refused 1)) ∧
    (drvPacket k.bytes = some (3, d) →
      (s.drv.ch[d].auto = false → s.drv.ch[d].st ≠ .homing → s.drv.ch[d].moved + 100 * ms ≤ s.now →
        leAt k.bytes 2 1 ≤ 2 → ∃ t,
        exec (.setMode { crcOk := true, link := .ok }) s = .next t ∧ t.drv.ch[d].mode = leAt k.bytes 2 1 ∧
        t.drv.ch[d].homed = false ∧ t.drv.ch[d].st =
          if leAt k.bytes 2 1 = 1 then .unhomed else if leAt k.bytes 2 1 = 2 then .follow else .off) ∧
      ((s.drv.ch[d].auto = true ∨ s.drv.ch[d].st = .homing ∨ s.now < s.drv.ch[d].moved + 100 * ms ∨
          2 < leAt k.bytes 2 1) → ∃ t, exec (.setMode { crcOk := true, link := .ok }) s = .next t ∧
        t.drv.ch = s.drv.ch ∧ t.drv.refused = satAdd 8 s.drv.refused 1)) ∧
    (drvPacket k.bytes = some (1, d) → s.drv.ch[d].mode ≠ 1 → ∃ t,
      exec (.driveHome { crcOk := true, link := .ok }) s = .next t ∧ t.drv.ch = s.drv.ch ∧
      t.drv.refused = satAdd 8 s.drv.refused 1) ∧
    (∀ c, drvPacket k.bytes = some (c, d) → (c ≠ 1 → exec (.driveHome { crcOk := true, link := .ok }) s = .next s) ∧
      (c ≠ 2 → exec (.driveClear { crcOk := true, link := .ok }) s = .next s) ∧
      (c ≠ 3 → exec (.setMode { crcOk := true, link := .ok }) s = .next s) ∧
      exec (.drivePacketInvalid { crcOk := true, link := .ok }) s = .next s) ∧
    (drvPacket k.bytes = none → ∃ t, exec (.drivePacketInvalid { crcOk := true, link := .ok }) s = .next t ∧
      t.drv.ch = s.drv.ch ∧ t.drv.refused = satAdd 8 s.drv.refused 1)) ∧
  (∀ (t0 : Nat) (s : State), s.drv.stallWait = some t0 →
    (t0 + 100 * ms ≤ s.now → ∃ t, exec .stallDetectionStart s = .next t ∧ t.drv = { s.drv with stallWait := none }) ∧
    (s.now < t0 + 100 * ms → exec .stallDetectionStart s = .next s)) ∧
  (∀ (ro : ReadOut) (s : State), (s.palette.q 51).head = none →
    exec (.driveHome ro) s = .next s ∧ exec (.driveClear ro) s = .next s ∧ exec (.setMode ro) s = .next s ∧
    exec (.drivePacketInvalid ro) s = .next s)

/-- OPEN with ROLE 0 or during a lockout changes nothing; otherwise the channel's session is closed
and the drawn challenge is held for the role. PROVE opens the challenge's role exactly when an
unexpired unused challenge is held and the response is the HMAC under the role's highest key;
otherwise the failure is counted and, from the fourth on, OPEN is locked out. CLOSE ends the
session, as do the idle time, while the challenge and the lockout end by their own times. (R465, R469, R470, R471) -/
def Obligations.SessionsOpenByProof : Prop :=
  (∀ (role : Fin 4) (chal : Vector Byte 32) (s : State),
    (role = 0 ∨ s.now < s.sec.pcie.lockoutEnd → exec (.sessionOpen role chal) s = .next s) ∧
    (role ≠ 0 → s.sec.pcie.lockoutEnd ≤ s.now → s.awake = true → ∃ t, exec (.sessionOpen role chal) s = .next t ∧
      t.sec.pcie.role = 0 ∧ t.sec.pcie.challenge = chal.toList ∧ t.sec.pcie.chalHeld = true ∧
      t.sec.pcie.chalRole = role ∧ t.sec.pcie.chalAt = s.now ∧ t.sec.svc = s.sec.svc)) ∧
  (∀ s : State, s.awake = true → ∃ t, exec .sessionProve s = .next t ∧ t.sec.pcie.chalHeld = false ∧
    t.sec.svc = s.sec.svc ∧
    (if s.sec.pcie.chalHeld = true ∧ s.now < s.sec.pcie.chalAt + 10 * second ∧
        ∃ k, s.sec.key s.sec.pcie.chalRole = some k ∧
          s.sec.pcie.response = proofOf k s.sec.pcie.challenge s.sec.pcie.chalRole false then
      t.sec.pcie.role = s.sec.pcie.chalRole ∧ t.sec.pcie.fails = 0 ∧ t.sec.pcie.lastUse = s.now ∧
      Logged t evSessionOpened 0 s.sec.pcie.chalRole 0 0
     else t.sec.pcie.role = s.sec.pcie.role ∧ t.sec.pcie.fails = s.sec.pcie.fails + 1 ∧
      (3 ≤ s.sec.pcie.fails → t.sec.pcie.lockoutEnd =
        s.now + min 640 (10 * 2 ^ (s.sec.pcie.fails - 3)) * second))) ∧
  (∀ s : State, s.awake = true → ∃ t, exec .sessionClose s = .next t ∧ t.sec.pcie.role = 0 ∧ t.sec.svc = s.sec.svc) ∧
  (∀ (svc : Bool) (s : State),
    (∃ t, exec (.sessionIdleTimeout svc) s = .next t ∧
      (s.roleOf (s.chan svc) = 0 → (t.chan svc).role = 0) ∧
      (s.roleOf (s.chan svc) ≠ 0 → t = s)) ∧
    (∃ t, exec (.challengeExpiry svc) s = .next t ∧
      ((s.chan svc).chalAt + 10 * second ≤ s.now → (t.chan svc).chalHeld = false) ∧
      ((s.chan svc).chalHeld = true → s.now < (s.chan svc).chalAt + 10 * second → t = s)) ∧
    (∃ t, exec (.sessionLockoutEnd svc) s = .next t ∧
      ((s.chan svc).lockoutEnd ≤ s.now → (t.chan svc).lockoutEnd = 0 ∧ (t.chan svc).role = (s.chan svc).role) ∧
      (s.now < (s.chan svc).lockoutEnd → t = s)))

/-- Key words are kept in order until SEC_KEY_CTL is written, which restarts the count. With GO 1
the key takes the role's next slot and every session of the role closes exactly when the session
meets Table 15-2, a slot is empty, eight words were written and they are neither all zeros nor
all ones; otherwise RESULT names the first reason in the order of R468 and no slot changes. (R467, R468, Table 15-2) -/
def Obligations.RoleKeys : Prop :=
  (∀ (w : Word) (s : State), s.awake = true → ∃ t, exec (.keyDataWrite w) s = .next t ∧
    t.sec = { s.sec with keyWords := keepWord 8 s.sec.keyWords w } ∧ { t with sec := s.sec } = s) ∧
  (∀ s : State, s.awake = true → ∃ t, exec .keyCountRestart s = .next t ∧ t.sec = { s.sec with keyWords := [] } ∧
    { t with sec := s.sec } = s) ∧
  (∀ (role : Fin 4) (s : State), s.awake = true → ∃ t, exec (.keyProgram role) s = .next t ∧
    t.sec.keyWords = [] ∧ t.sec.keyResult = s.keyVerdict role ∧
    (s.keyVerdict role = 0 →
      t.sec.slots role = s.sec.slots role ++ [wordBytes s.sec.keyWords] ∧
      t.sec.pcie.role ≠ role ∧ t.sec.svc.role ≠ role ∧
      Logged t evKeySet role (s.sec.slots role).length s.pcieRole 0) ∧
    (s.keyVerdict role ≠ 0 → (∀ r, t.sec.slots r = s.sec.slots r) ∧
      Logged t evKeyRefused role (s.keyVerdict role) 0 0)) ∧
  (∀ s : State, s.keyVerdict 0 = 5 ∧
    (∀ role, role = 1 ∨ role = 2 ∨ role = 3 → (s.mayProgram role = false ↔ s.keyVerdict role = 1)))

/-- A refill adds one token for each multiple of PERIOD since the last count, up to BURST, and
reports a suppression. A PNT_RL write under its session with PERIOD or BURST 0 only sets
RL_REFUSED; another one is held, and takes effect at a later epoch, when TOKENS is limited to
the new BURST. (R475, R476, R484) -/
def Obligations.RateLimitSettings : Prop :=
  (∀ (code : BitVec 16) (b : Bucket) (T : Nat) (s : State), b = s.ev.bucket code.toNat →
    T = (if isDetCode code.toNat then s.epoch.nominal else s.time) →
    (hasBucket code.toNat = true → b.suppressed = 0 → b.due T ≠ 0 →
      exec (.bucketRefill code) s = .next (s.modEv fun e => e.setBucket code.toNat
        { b with tokens := min b.burst (b.tokens + b.due T), upTo := T, suppressed := 0 })) ∧
    (hasBucket code.toNat = true → b.suppressed ≠ 0 → b.due T ≠ 0 → ∃ t u, exec (.bucketRefill code) s = .next t ∧
      u = (s.modEv fun e => e.setBucket code.toNat
        { b with tokens := min b.burst (b.tokens + b.due T), upTo := T, suppressed := 0 }) ∧
      t = u.recordNow evEventsSuppressed.code evEventsSuppressed.severity (!isDetCode code.toNat) T code.toNat
        b.suppressed b.firstTime b.lastTime) ∧
    ((hasBucket code.toNat = false ∨ b.due T = 0) → exec (.bucketRefill code) s = .next s)) ∧
  (∀ (w : Word) (s : State), s.awake = true → ∃ t, exec (.pntRlWrite w) s = .next t ∧
    (s.pcieRole < 2 → t = s) ∧
    (2 ≤ s.pcieRole → (fieldOf w 16 16 = 0 ∨ fieldOf w 8 8 = 0) →
      t.pnt.rlRefused = true ∧ t.ev = s.ev) ∧
    (2 ≤ s.pcieRole → fieldOf w 16 16 ≠ 0 → fieldOf w 8 8 ≠ 0 → hasBucket s.ev.rlIdx = true →
      (t.ev.bucket s.ev.rlIdx).period = (s.ev.bucket s.ev.rlIdx).period ∧
      (t.ev.bucket s.ev.rlIdx).nextPeriod = fieldOf w 16 16 ∧
      (t.ev.bucket s.ev.rlIdx).nextBurst = fieldOf w 8 8)) ∧
  (∀ (code : Nat) (b : Bucket) (n : Nat) (s : State), b = s.ev.bucket code → b.setIn = some n → n < s.epoch.n →
    s.recTime (!isDetCode code) ≠ 0 → b.due (s.recTime (!isDetCode code)) = 0 →
    ∃ t, exec .rlSettingsApply s = .next t ∧ (t.ev.bucket code).period = b.nextPeriod ∧
      (t.ev.bucket code).burst = b.nextBurst ∧ (t.ev.bucket code).tokens = min b.tokens b.nextBurst ∧
      (t.ev.bucket code).setIn = none) ∧
  (∀ (code : Nat) (s : State), (s.ev.bucket code).setIn = none → s.ev.bucket code ≠ bucketDefault code →
    ∃ t, exec .rlSettingsApply s = .next t ∧ t.ev.bucket code = s.ev.bucket code)

/-- The oldest buffered record is written committed to the next slot; a failed program voids the
slot, keeps the record and records PENTIMENTO_WRITE_FAIL. Using slot 65,534 writes LOG_FULL to
slot 65,535, after which nothing is written. A clear under its session with the present
generation raises the generation and begins; any other sets CLEAR_REFUSED. Its end leaves an
empty log with CLEARED in slot 0. (R477, R478, R479, R481) -/
def Obligations.PentimentoLog : Prop :=
  (∀ (r : Record) (rest : List Record) (s : State), s.pnt.full = false → s.pnt.clearing = false →
    s.pwr.dip = false → s.pnt.buffer = r :: rest →
    (s.pnt.next < 65534 → ∃ t, exec (.pentimentoSlotWrite 0) s = .next t ∧
      t.pnt.slot s.pnt.next = r.bytes 4 ∧ t.pnt.next = s.pnt.next + 1 ∧ t.pnt.buffer = rest) ∧
    (∀ status, status ≠ 0 → s.pnt.next < 65534 →
      ∃ u : State, exec (.pentimentoSlotWrite status) s =
          .next (u.emit evPentimentoWriteFail s.pnt.next status.toNat) ∧
        slotCommitted (u.pnt.slot s.pnt.next) = false ∧ u.pnt.next = s.pnt.next + 1 ∧
        u.pnt.buffer = r :: rest) ∧
    (s.pnt.next = 65534 → ∃ t, exec (.pentimentoSlotWrite 0) s = .next t ∧ t.pnt.full = true ∧
      t.pnt.next = 65536 ∧ t.pnt.buffer = [])) ∧
  (∀ (status : BitVec 4) (s : State), (s.pnt.full = true ∨ s.pnt.clearing = true ∨ s.pwr.dip = true ∨
    s.pnt.buffer = []) → exec (.pentimentoSlotWrite status) s = .next s) ∧
  (∀ (w : Word) (s : State), s.awake = true → ∃ t, exec (.pentimentoClear w) s = .next t ∧
    (if 2 ≤ s.pcieRole ∧ flagOf w 31 = true ∧ fieldOf w 0 16 = s.pnt.gen % 2 ^ 16 ∧
        s.pnt.clearing = false then
      t.pnt.gen = (s.pnt.gen + 1) % 2 ^ 32 ∧ t.pnt.clearing = true
     else t.pnt = { s.pnt with clearRefused := true })) ∧
  (∀ s : State, s.pnt.clearing = true → ∃ t, exec .pentimentoClearDone s = .next t ∧
    t.pnt.clearing = false ∧ t.pnt.full = false ∧ t.pnt.next = 1 ∧
    slotCommitted (t.pnt.slot 0) = true) ∧
  (∀ s : State, s.pnt.clearing = false → exec .pentimentoClearDone s = .next s)

/-- A request while a response waits is discarded, and one whose SEQ was the last is answered again
without effect. HELLO answers the identity, and a frame of bad CRC or unknown type its status.
OPEN draws a challenge unless locked out, PROVE opens the session or counts a failure, CLOSE
ends it. BEGIN claims the staging bank unless the twin link owns it, under that session DATA
appends at the next offset, END completes and ABORT empties the bank, as 60 s without data do.
CONFIRM needs its session and a TRIAL set; REBOOT resets. Each answer carries its status. (R469, R470, R489, R490, R491, R492, R497, Table 16-4, Table 16-5) -/
def Obligations.ServicePortAndStaging : Prop :=
  (∀ (seq : BitVec 16) (r : List Byte) (s : State),
    (s.pfo.ready = some r → exec (.hello seq) s = .next s ∧ ∃ t, exec .svcRead s = .next t ∧ t.pfo.ready = none ∧
      t.ev.out = .pin "SVC_IRQ_N" 1 :: .svc r :: s.ev.out) ∧
    (s.pfo.ready = none → exec .svcRead s = .next s) ∧
    (s.svcUp = true → s.pfo.ready = none → s.pfo.lastSeq = some seq.toNat →
      exec (.hello seq) s = .next (s.respond s.pfo.stored) ∧ exec (.sessClose seq) s = .next (s.respond s.pfo.stored) ∧
      exec (.reboot seq) s = .next (s.respond s.pfo.stored))) ∧
  (∀ (seq : BitVec 16) (s : State), s.svcUp = false →
    exec (.hello seq) s = .next s ∧ exec (.sessClose seq) s = .next s ∧ exec (.reboot seq) s = .next s ∧
    exec (.stageAbort seq) s = .next s ∧ (∀ type bad, exec (.svcRequestInvalid bad seq type) s = .next s) ∧
    (∀ f, exec (.stageEnd seq f) s = .next s ∧ exec (.confirm seq f) s = .next s)) ∧
  (∀ (seq : BitVec 16) (s : State) (answer : Nat → List Byte → State → Prop), s.svcUp = true → s.pfo.ready = none →
    s.pfo.lastSeq ≠ some seq.toNat → answer = (fun type body t => t.pfo.ready = some (svcFrame type seq.toNat body) ∧
      t.pfo.stored = svcFrame type seq.toNat body ∧ t.pfo.lastSeq = some seq.toNat ∧
      t.pfo.svcFrames = satAdd 16 s.pfo.svcFrames 1 ∧ t.ev.out.head? = some (.pin "SVC_IRQ_N" 0)) →
    (∃ t, exec (.hello seq) s = .next t ∧ answer 1 (toLE 1 0 ++ (toLE 4 gctlId.toNat ++ toLE 8 Config.serial ++
      toLE 4 s.pfo.status.toNat ++ toLE 4 s.pfo.setVersion ++ toLE 1 (bit s.pwr.inRecovery))) t ∧ t.sec = s.sec) ∧
    (∀ type : Byte, (∃ t, exec (.svcRequestInvalid true seq type) s = .next t ∧ answer type.toNat (toLE 1 1) t ∧
        t.pfo.svcCrc = satAdd 16 s.pfo.svcCrc 1) ∧
      ∃ t, exec (.svcRequestInvalid false seq type) s = .next t ∧ answer type.toNat (toLE 1 2) t) ∧
    (∀ (role : Byte) (chal : Vector Byte 32), s.pwr.inRecovery = false → 1 ≤ role.toNat → role.toNat ≤ 3 →
      (s.sec.svc.lockoutEnd ≤ s.now → ∃ t, exec (.sessOpen seq role chal) s = .next t ∧
        answer 2 (toLE 1 0 ++ chal.toList) t ∧ t.sec.svc.challenge = chal.toList ∧ t.sec.svc.chalHeld = true ∧
        t.sec.svc.chalRole = role.toNat ∧ t.sec.svc.role = 0) ∧
      (s.now < s.sec.svc.lockoutEnd → ∃ t, exec (.sessOpen seq role chal) s = .next t ∧ answer 2 (toLE 1 8) t ∧
        t.sec = s.sec)) ∧
    (∀ (resp : Vector Byte 32) (k : List Byte), s.pwr.inRecovery = false → s.chalValid s.sec.svc = true →
      s.sec.key s.sec.svc.chalRole = some k →
      ∃ t, exec (.sessProve seq resp) s = .next t ∧ t.sec.svc.chalHeld = false ∧ t.sec.pcie = s.sec.pcie ∧
        (if proofOf k s.sec.svc.challenge s.sec.svc.chalRole true = resp.toList then
          answer 3 (toLE 1 0) t ∧ t.sec.svc.role = s.sec.svc.chalRole ∧ t.sec.svc.fails = 0
         else answer 3 (toLE 1 3) t ∧ t.sec.svc.role = s.sec.svc.role ∧ t.sec.svc.fails = s.sec.svc.fails + 1)) ∧
    (∀ resp : Vector Byte 32, s.pwr.inRecovery = false →
      (s.chalValid s.sec.svc = false ∨ s.sec.key s.sec.svc.chalRole = none) →
      ∃ t, exec (.sessProve seq resp) s = .next t ∧ answer 3 (toLE 1 3) t ∧ t.sec.svc.role = s.sec.svc.role ∧
        t.sec.svc.fails = s.sec.svc.fails + 1) ∧
    (∀ (role : Byte) (chal : Vector Byte 32), (s.pwr.inRecovery = true ∨ role.toNat = 0 ∨ 3 < role.toNat) →
      ∃ t, exec (.sessOpen seq role chal) s = .next t ∧ answer 2 (toLE 1 2) t ∧ t.sec = s.sec) ∧
    ((1 ≤ s.svcRole → ∃ t, exec (.sessClose seq) s = .next t ∧ answer 4 (toLE 1 0) t ∧ t.sec.svc.role = 0) ∧
      (s.svcRole = 0 → s.pwr.inRecovery = false → ∃ t, exec (.sessClose seq) s = .next t ∧ answer 4 (toLE 1 3) t ∧
        t.sec = s.sec)) ∧
    (∀ len : BitVec 32, s.svcAllows 2 = false → ∃ t, exec (.stageBegin seq len 0) s = .next t ∧
      answer 0x10 (toLE 1 3) t ∧ t.pfo.staging = s.pfo.staging) ∧
    (∀ len : BitVec 32, s.svcAllows 2 = true →
      (pfoLengthOk len.toNat = true → s.pfo.owner ≠ 2 → s.pwr.dip = false → ∃ t,
        exec (.stageBegin seq len 0) s = .next t ∧ answer 0x10 (toLE 1 0) t ∧ t.pfo.staging = 1 ∧ t.pfo.owner = 1 ∧
        t.pfo.length = len.toNat ∧ t.pfo.bytes = []) ∧
      (pfoLengthOk len.toNat = true → s.pfo.owner = 2 → ∃ t, exec (.stageBegin seq len 0) s = .next t ∧
        answer 0x10 (toLE 1 4) t ∧ t.pfo.staging = s.pfo.staging ∧ t.pfo.bytes = s.pfo.bytes) ∧
      (pfoLengthOk len.toNat = false → ∃ t, exec (.stageBegin seq len 0) s = .next t ∧ answer 0x10 (toLE 1 9) t ∧
        t.pfo.staging = s.pfo.staging)) ∧
    (∀ (off : BitVec 32) (data : List Byte), 1 ≤ data.length → data.length ≤ 4096 → s.ownsStaging = true →
      s.pfo.bytes.length + data.length ≤ s.pfo.length →
      (off.toNat = s.pfo.bytes.length → s.pwr.dip = false → ∃ t, exec (.stageData seq off data 0) s = .next t ∧
        answer 0x11 (toLE 1 0 ++ toLE 4 (s.pfo.bytes.length + data.length)) t ∧ t.pfo.bytes = s.pfo.bytes ++ data ∧
        t.pfo.dataAt = s.now) ∧
      (off.toNat ≠ s.pfo.bytes.length → ∃ t, exec (.stageData seq off data 0) s = .next t ∧
        answer 0x11 (toLE 1 5 ++ toLE 4 s.pfo.bytes.length) t ∧ t.pfo.bytes = s.pfo.bytes)) ∧
    ((s.ownsStaging = true → s.pfo.bytes.length = s.pfo.length → manifestOk s.pfo.bytes = true → s.pwr.dip = false →
        ∃ t, exec (.stageEnd seq 0) s = .next t ∧ answer 0x12 (toLE 1 0) t ∧ t.pfo.staging = 2 ∧ t.pfo.owner = 0 ∧
          t.pfo.bytes = s.pfo.bytes) ∧
      (s.ownsStaging = true → s.pfo.bytes.length ≠ s.pfo.length → ∃ t, exec (.stageEnd seq 0) s = .next t ∧
        answer 0x12 (toLE 1 5) t ∧ t.pfo.staging = s.pfo.staging)) ∧
    ((s.ownsStaging = true → ∃ t, exec (.stageAbort seq) s = .next t ∧ answer 0x13 (toLE 1 0) t ∧ t.pfo.staging = 0 ∧
        t.pfo.owner = 0) ∧
      (s.ownsStaging = false → ∃ t, exec (.stageAbort seq) s = .next t ∧ answer 0x13 (toLE 1 5) t ∧
        t.pfo.staging = s.pfo.staging)) ∧
    (s.pfo.owner = 1 → s.svcAllows 2 = false → (∃ t, exec (.stageEnd seq 0) s = .next t ∧
        answer 0x12 (toLE 1 5) t ∧ t.pfo.staging = s.pfo.staging) ∧
      ∃ t, exec (.stageAbort seq) s = .next t ∧ answer 0x13 (toLE 1 5) t ∧ t.pfo.staging = s.pfo.staging) ∧
    (s.svcRole < 2 → ∃ t, exec (.confirm seq 0) s = .next t ∧ answer 0x20 (toLE 1 3) t ∧ t.pfo.recs = s.pfo.recs) ∧
    (s.svcAllows 2 = false → ∃ t, exec (.reboot seq) s = .next t ∧ answer 0x21 (toLE 1 3) t ∧ t.pwr = s.pwr) ∧
    (2 ≤ s.svcRole →
      (s.pfo.record.state = 1 → s.pwr.dip = false → ∃ t, exec (.confirm seq 0) s = .next t ∧
        answer 0x20 (toLE 1 0) t ∧ t.pfo.record.state = 2 ∧ t.pfo.record.attempts = 0 ∧
        t.pfo.fuse = max s.pfo.fuse s.pfo.record.svn) ∧
      (s.pfo.record.state ≠ 1 → ∃ t, exec (.confirm seq 0) s = .next t ∧ answer 0x20 (toLE 1 5) t ∧
        t.pfo.recs = s.pfo.recs) ∧
      ∃ t, exec (.reboot seq) s = .next t ∧ t.pwr.state = .off ∧ t.pwr.last.kind = 3 ∧ t.pwr.last.cause = 7)) ∧
  (∀ s : State, (s.pfo.owner ≠ 0 → s.pfo.dataAt + 60 * second ≤ s.now → ∃ t, exec .stagingTimeout s = .next t ∧
      t.pfo.staging = 0 ∧ t.pfo.owner = 0 ∧ Logged t evPortfolioDiscarded s.pfo.bytes.length 2 0 0) ∧
    ((s.pfo.owner = 0 ∨ s.now < s.pfo.dataAt + 60 * second) → exec .stagingTimeout s = .next s)) ∧
  (∀ (b : List Byte) (s : State), s.pfo.claim = some b →
    (s.now % (100 * us) ≠ 0 → s.judgeClaim = s) ∧
    (s.now % (100 * us) = 0 → s.pfo.owner ≠ 1 → pfoLengthOk b.length = true → manifestOk b = true →
      s.pwr.dip = false → s.judgeClaim.pfo.claim = none ∧ s.judgeClaim.pfo.staging = 2 ∧
      s.judgeClaim.pfo.owner = 0 ∧ s.judgeClaim.pfo.bytes = b) ∧
    (s.now % (100 * us) = 0 → s.pfo.owner = 1 → s.judgeClaim.pfo = { s.pfo with claim := none }))

/-- An examination marks the staging DONE; a Portfolio of the set in force changes nothing else, one
that fails shows its code and part and leaves the record, and one that passes is written to the
bank not in force and selected in TRIAL with no attempt. A PFO_CTL command without its session
or state shows code 8. CONFIRM makes the set CONFIRMED and raises the fuse counter, SHARE sends
the staged Portfolio, REBOOT resets. A key is programmed once into an unused slot or revoked
under a MAKER session, or refused. Attempts are cleared after 10 s of a served heartbeat in a
CONFIRMED set. (R488, R493, R494, R495, R496, R497, R500, Table 16-7, Table 16-8) -/
def Obligations.PortfolioExaminationAndActivation : Prop :=
  (∀ (f : Option (Fin 8)) (s : State),
    (s.pfo.staging ≠ 2 → exec (.portfolioExamination f) s = .next s) ∧
    (s.pwr.state ≠ .off → exec (.portfolioExamination f) s = .next s) ∧
    (s.pwr.state = .off → s.pwr.refOk = true → s.pwr.inRecovery = false → s.pfo.staging = 2 →
      (s.pfo.record.setVersion = leAt s.pfo.bytes 12 4 → s.pfo.record.svn = leAt s.pfo.bytes 7 1 →
        exec (.portfolioExamination f) s = .next (s.modPfo fun p => { p with staging := 3 })) ∧
      (s.pfo.record.setVersion ≠ leAt s.pfo.bytes 12 4 ∨ s.pfo.record.svn ≠ leAt s.pfo.bytes 7 1 →
        ∃ t, exec (.portfolioExamination f) s = .next t ∧ t.pfo.staging = 3 ∧
          ((∃ code k, s.examine s.pfo.bytes f = some (code, k) ∧ t.pfo.code = code ∧ t.pfo.detail = k ∧
            t.pfo.recs = s.pfo.recs ∧ (code ≠ 7 → t.pfo.banks = s.pfo.banks)) ∨
           (s.examine s.pfo.bytes f = none ∧ t.pfo.code = 0 ∧ t.pfo.record.bank = s.pfo.target ∧
            t.pfo.record.state = 1 ∧ t.pfo.record.attempts = 0 ∧
            t.pfo.record.seq = (s.pfo.record.seq + 1) % 2 ^ 32 ∧
            t.pfo.record.setVersion = leAt s.pfo.bytes 12 4 ∧ t.pfo.record.svn = leAt s.pfo.bytes 7 1 ∧
            t.pfo.bank s.pfo.target = some (s.newSet s.pfo.bytes) ∧
            t.pfo.bank (1 - s.pfo.target) = s.pfo.bank (1 - s.pfo.target)))))) ∧
  (∀ s : State, s.awake = true →
    (s.pcieRole < 2 → (∀ f, exec (.pfoConfirm f) s = .next (s.modPfo fun p => { p with code := 8, detail := 0 })) ∧
      exec .share s = .next (s.modPfo fun p => { p with code := 8, detail := 0 }) ∧
      exec .pfoReboot s = .next (s.modPfo fun p => { p with code := 8, detail := 0 })) ∧
    (2 ≤ s.pcieRole →
      (s.pfo.record.state = 1 → s.pwr.dip = false → ∃ t, exec (.pfoConfirm 0) s = .next t ∧ t.pfo.code = 0 ∧
        t.pfo.record.state = 2 ∧ t.pfo.record.attempts = 0 ∧ t.pfo.record.bank = s.pfo.record.bank ∧
        t.pfo.fuse = max s.pfo.fuse s.pfo.record.svn) ∧
      (s.pfo.record.state ≠ 1 → ∃ t, exec (.pfoConfirm 0) s = .next t ∧ t.pfo.code = 8 ∧ t.pfo.recs = s.pfo.recs) ∧
      (s.twin.state = .active → s.twin.link ≠ 0 → s.pfo.staging = 2 → ∃ t, exec .share s = .next t ∧
        t.pfo.sharing = true ∧ t.ev.out = .twin (.transfer (.portfolio s.pfo.bytes)) :: s.ev.out) ∧
      (s.twin.state ≠ .active ∨ s.twin.link = 0 ∨ s.pfo.staging ≠ 2 →
        exec .share s = .next (s.modPfo fun p => { p with code := 8, detail := 0 })) ∧
      (∀ f : BitVec 4, f ≠ 0 → s.pfo.record.state = 1 → s.pwr.dip = false → ∃ t, exec (.pfoConfirm f) s = .next t ∧
        t.pfo = { s.pfo with code := 7, detail := 0 }) ∧
      ∃ t, exec .pfoReboot s = .next t ∧ t.pwr.state = .off ∧ t.pwr.last.kind = 3 ∧ t.pwr.last.cause = 7)) ∧
  (∀ (w : Word) (slot : Fin 4) (s : State), s.awake = true →
    (s.pfo.keyWords.length ≤ 12 → exec (.pfoKeyDataWrite w) s =
      .next (s.modPfo fun p => { p with keyWords := p.keyWords ++ [w] })) ∧
    (12 < s.pfo.keyWords.length → ∃ t, exec (.pfoKeyDataWrite w) s = .next t ∧ t.pfo.keyWords = s.pfo.keyWords) ∧
    (3 ≤ s.pcieRole →
      (s.pfo.keys[slot].state = 0 → s.pfo.keyWords.length = 12 → ∃ t, exec (.pfoKeyProgram slot) s = .next t ∧
        t.pfo.keyWords = [] ∧ t.pfo.keys[slot].state = 1 ∧
        t.pfo.keys[slot].hash = s.pfo.keyWords.flatMap (fun w => toBE 4 w.toNat) ∧
        ∀ j, j ≠ slot → t.pfo.keys[j] = s.pfo.keys[j]) ∧
      (s.pfo.keys[slot].state ≠ 0 → ∃ t, exec (.pfoKeyProgram slot) s = .next t ∧ t.pfo.keyWords = [] ∧
        t.pfo.keys = s.pfo.keys ∧ Logged t evPortfolioKeyRefused slot 1 0 0) ∧
      (s.pfo.keyWords.length ≠ 12 → ∃ t, exec (.pfoKeyProgram slot) s = .next t ∧ t.pfo.keyWords = [] ∧
        t.pfo.keys = s.pfo.keys ∧ Logged t evPortfolioKeyRefused slot 1 0 0) ∧
      ∃ t, exec (.pfoKeyRevoke slot) s = .next t ∧ t.pfo.keys[slot].state = 2 ∧ t.pfo.keyWords = [] ∧
        ∀ j, j ≠ slot → t.pfo.keys[j] = s.pfo.keys[j]) ∧
    (s.pcieRole < 3 → (∃ t, exec (.pfoKeyRevoke slot) s = .next t ∧ t.pfo.keys = s.pfo.keys ∧
        Logged t evPortfolioKeyRefused slot 2 0 0) ∧
      ∃ t, exec (.pfoKeyProgram slot) s = .next t ∧ t.pfo.keys = s.pfo.keys ∧
        Logged t evPortfolioKeyRefused slot 1 0 0)) ∧
  (∀ (t0 : Nat) (s : State), s.pwr.booted = true → s.twin.hbServedAt = some t0 → s.pfo.record.state = 2 →
    (s.now < t0 + 50 * ms → s.pfo.upAt + 10 * second ≤ s.now → s.pfo.record.attempts ≠ 0 →
      ∃ t, exec .attemptsClear s = .next t ∧ t.pfo.record.attempts = 0 ∧ t.pfo.record.bank = s.pfo.record.bank) ∧
    (s.now < s.pfo.upAt + 10 * second → exec .attemptsClear s = .next s)) ∧
  (∀ s : State, (s.pwr.booted = false ∨ s.twin.hbServedAt = none ∨ s.pfo.record.state ≠ 2 ∨
    s.pfo.record.attempts = 0) → exec .attemptsClear s = .next s)

/-- A request for the present state changes nothing; one that Table 17-2 bars is refused with its
reason, such as a missing role, a live grant or a dip; else it waits, and from SLEEP it wakes.
QUIET begins at a radio slot boundary, RUN comes back at its boundary, SLEEP after an epoch
boundary with no task in service, DEEP once no flash write has begun. SLEEP ends at a wake
source and DEEP by a reset. A dip raises the power hold and is counted; its end lowers the hold
unless QUIET or SLEEP holds. TAMPER_N closes both sessions. PWR_CMP_CFG takes levels within its
ranges only. The reference starts and halts the counter; that a stop latched while it was halted
is raised then is the model's choice (log entry 65). (R502, R504, R506, R507, R508, R509, R510, R521, Table 17-1, Table 17-2, Table 17-3) -/
def Obligations.PowerStatesAndWakes : Prop :=
  (∀ s : State,
    (s.pwr.state = .run → s.pwr.pending = none → exec .pwrReqRun s = .next s) ∧
    (s.pwr.state = .run → s.pcieRole = 0 → exec .pwrReqQuiet s = .next (s.emit evPowerStateRefused 1 1 0) ∧
      exec .pwrReqSleep s = .next (s.emit evPowerStateRefused 2 1 0)) ∧
    (s.pwr.state = .run → s.pcieRole = 1 → exec .pwrReqDeep s = .next (s.emit evPowerStateRefused 3 1 1)) ∧
    (s.pwr.state = .run → 1 ≤ s.pcieRole → s.grantLive = true →
      exec .pwrReqQuiet s = .next (s.emit evPowerStateRefused 1 2 s.pcieRole)) ∧
    (s.pwr.state = .run → 1 ≤ s.pcieRole → s.grantLive = false → s.pwr.dip = true →
      exec .pwrReqSleep s = .next (s.emit evPowerStateRefused 2 5 s.pcieRole)) ∧
    (s.pwr.state = .run → 1 ≤ s.pcieRole → s.grantLive = false → s.pwr.dip = false → s.pwr.pending = none →
      (∃ t, exec .pwrReqQuiet s = .next t ∧ t.pwr = { s.pwr with
        pending := some (.quiet, s.touch.pcieRole)
        pendingAt := s.time }) ∧
      ∃ t, exec .pwrReqSleep s = .next t ∧ t.pwr.pending = some (.sleep, s.touch.pcieRole)) ∧
    (s.pwr.state = .quiet → 1 ≤ s.pcieRole → s.pwr.pending = none → ∃ t, exec .pwrReqRun s = .next t ∧
      t.pwr.pending = some (.run, s.touch.pcieRole) ∧ t.pwr.pendingAt = s.time) ∧
    (s.pwr.state = .run → 2 ≤ s.pcieRole → s.grantLive = false → s.fleet.fleetActive = true →
      s.rbit rPwrCmp 31 = false → s.pwr.dip = false → s.pwr.pending = none → ∃ t, exec .pwrReqDeep s = .next t ∧
      t.pwr.pending = some (.deep, s.touch.pcieRole)) ∧
    (s.pwr.state = .sleep → 1 ≤ s.pcieRole →
      (s.pwr.changing = false → ∃ t, exec .pwrReqRun s = .next t ∧ t.pwr.wake = some (0, .run)) ∧
      (s.pwr.changing = true → exec .pwrReqRun s = .next (s.emit evPowerStateRefused 0 7 s.pcieRole))) ∧
    (∀ v, s.powered = true → exec (.pwrReqInvalid v) s =
      .next (s.emit evPowerStateRefused (4 + v.val) (if s.pcieRole = 0 then 1 else 6) s.pcieRole))) ∧
  (∀ s : State, s.powered = true →
    (∀ r, (s.pwr.state ≠ .run ∨ s.pwr.changing = true) → s.powerBar .run = some r →
      exec .pwrReqRun s = .next (s.emit evPowerStateRefused 0 r s.pcieRole)) ∧
    (∀ r, (s.pwr.state ≠ .quiet ∨ s.pwr.changing = true) → s.powerBar .quiet = some r →
      exec .pwrReqQuiet s = .next (s.emit evPowerStateRefused 1 r s.pcieRole)) ∧
    (∀ r, (s.pwr.state ≠ .sleep ∨ s.pwr.changing = true) → s.powerBar .sleep = some r →
      exec .pwrReqSleep s = .next (s.emit evPowerStateRefused 2 r s.pcieRole)) ∧
    (∀ r, s.powerBar .deep = some r → exec .pwrReqDeep s = .next (s.emit evPowerStateRefused 3 r s.pcieRole)) ∧
    (s.powerBar .quiet = none → s.pwr.state = .sleep → ∃ t, exec .pwrReqQuiet s = .next t ∧
      t.pwr.wake = some (0, .quiet)) ∧
    (s.powerBar .sleep = none → s.pwr.state = .quiet → ∃ t, exec .pwrReqSleep s = .next t ∧
      t.pwr.pending = some (.sleep, s.touch.pcieRole)) ∧
    (s.powerBar .deep = none → ∃ t, exec .pwrReqDeep s = .next t ∧ t.pwr.pending = some (.deep, s.touch.pcieRole))) ∧
  (∀ s : State, s.powered = false → exec .pwrReqRun s = .next s ∧ exec .pwrReqQuiet s = .next s ∧
    exec .pwrReqSleep s = .next s ∧ exec .pwrReqDeep s = .next s ∧ ∀ v, exec (.pwrReqInvalid v) s = .next s) ∧
  (∀ (r : Nat) (s : State),
    (s.pwr.pending = some (.quiet, r) →
      (s.slotSince s.pwr.pendingAt = true → ∃ t, exec .quietEntry s = .next t ∧ t.pwr.state = .quiet ∧
        t.pwr.hold = true ∧ t.pwr.pending = none ∧ t.air.onAir = []) ∧
      (s.slotSince s.pwr.pendingAt = false → exec .quietEntry s = .next s)) ∧
    (s.pwr.pending = some (.run, r) →
      (s.boundaryDue s.pwr.pendingAt = true → ∃ t, exec .quietExit s = .next t ∧ t.pwr.state = .run ∧
        t.pwr.hold = s.pwr.dip ∧ t.pwr.pending = none) ∧
      (s.boundaryDue s.pwr.pendingAt = false → exec .quietExit s = .next s)) ∧
    (s.pwr.pending = some (.sleep, r) →
      (s.epochSince s.pwr.pendingAt = true → s.inService = [] → ∃ t, exec .sleepEntry s = .next t ∧
        t.pwr.state = .sleep ∧ t.pwr.hold = true ∧ t.pwr.prior = s.pwr.state ∧ t.pwr.wake = none) ∧
      ((s.inService ≠ [] ∨ s.epochSince s.pwr.pendingAt = false) → exec .sleepEntry s = .next s)) ∧
    (s.pwr.pending = some (.deep, r) →
      (s.pwr.flashBegun = false → ∃ t, exec .deepEntry s = .next t ∧ t.pwr.state = .deep ∧ t.pwr.ret.isSome = true ∧
        t.ev.out.head? = some (.pin "PWR_HOLD" 0)) ∧
      (s.pwr.flashBegun = true → exec .deepEntry s = .next s)) ∧
    (s.pwr.pending = none → exec .quietEntry s = .next s ∧ exec .quietExit s = .next s ∧ exec .sleepEntry s = .next s ∧
      exec .deepEntry s = .next s)) ∧
  (∀ (src : Nat) (x : PowerState) (s : State),
    (s.pwr.state = .sleep → s.pwr.toDeep = false → s.wakeSource = some (src, x) → ∃ t, exec .sleepWake s = .next t ∧ t.pwr.state = x ∧
      t.pwr.hold = (s.pwr.dip || x == .quiet || x == .sleep) ∧ t.pwr.wake = none ∧ t.pwr.servedAt = s.now) ∧
    (s.pwr.wake = some (src, x) → s.wakeSource = some (src, x)) ∧
    (s.pwr.wake = none → s.alarmDue = true → s.wakeSource = some (3, s.pwr.prior)) ∧
    (s.pwr.state = .sleep → s.pwr.wake = none → s.alarmDue = false → exec .sleepWake s = .next s) ∧
    ((s.pwr.state ≠ .sleep ∨ s.pwr.toDeep = true) → exec .sleepWake s = .next s)) ∧
  (∀ (b : Bool) (w : Option Nat) (s : State),
    w = (if s.pwr.cmp2 = true ∧ s.rbit rPwrCmp 31 = true then some 1
      else if s.pwr.tamper = true ∧ s.rbit rPwrCmp 30 = true then some 2
      else if s.alarmDue = true then some 3 else if b = true then some 4 else none) →
    (∀ src, s.pwr.state = .deep → w = some src → ∃ t, exec (.deepWake b) s = .next t ∧ t.pwr.state = .off ∧
      t.pwr.last.kind = 0 ∧ t.pwr.last.cause = 2 ∧ t.pwr.wake = some (src, .deep) ∧ t.pwr.cmp2 = false) ∧
    ((s.pwr.state ≠ .deep ∨ w = none) → exec (.deepWake b) s = .next s)) ∧
  (∀ s : State,
    (s.powered = true → s.pwr.dip = false → ∃ t, exec .supplyDipStart s = .next t ∧ t.pwr.dip = true ∧
      t.pwr.hold = true ∧ t.pwr.vsysWarn = true ∧ t.pwr.dipAt = s.now ∧
      t.pwr.dipCount = satAdd 16 s.pwr.dipCount 1 ∧ t.pwr.ret.isSome = true) ∧
    (s.pwr.dip = true → exec .supplyDipStart s = .next (s.modPwr fun p => { p with vsysWarn := true })) ∧
    (s.pwr.dip = true → ∃ t, exec .supplyDipEnd s = .next t ∧ t.pwr.dip = false ∧ t.pwr.vsysWarn = false ∧
      t.pwr.hold = (s.pwr.state == .quiet || s.pwr.state == .sleep) ∧
      t.pwr.dipLast = min 0xFFFF ((s.now - s.pwr.dipAt) / ms)) ∧
    (s.pwr.dip = false → exec .supplyDipEnd s = .next (s.modPwr fun p => { p with vsysWarn := false })) ∧
    (s.pwr.tamper = false → s.powered = true → ∃ t, exec .tamper s = .next t ∧ t.pwr.tamper = true ∧
      t.sec.pcie.role = 0 ∧ t.sec.svc.role = 0) ∧
    (s.pwr.tamper = true → exec .tamper s = .next s) ∧ (s.pwr.tamper = false → exec .tamperCleared s = .next s) ∧
    (s.pwr.tamper = false → s.powered = false → exec .tamper s = .next (s.modPwr fun p => { p with tamper := true })) ∧
    (s.powered = false → exec .supplyDipStart s = .next (s.modPwr fun p => { p with vsysWarn := true })) ∧
    (s.pwr.tamper = true → s.powered = true → ∃ t, exec .tamperCleared s = .next t ∧ t.pwr.tamper = false ∧
      Logged t evTamper 0 0 0 0)) ∧
  (∀ (w : Word) (s : State), s.powered = true →
    (s.pcieRole < 2 → exec (.pwrCmpCfgWrite w) s = .next s) ∧
    (2 ≤ s.pcieRole → (fieldOf w 16 9 < 440 ∨ 490 < fieldOf w 16 9 ∨ fieldOf w 0 9 < 400 ∨ 450 < fieldOf w 0 9) →
      exec (.pwrCmpCfgWrite w) s = .next (s.touch.modPwr fun p => { p with cfgErr := true })) ∧
    (2 ≤ s.pcieRole → 440 ≤ fieldOf w 16 9 → fieldOf w 16 9 ≤ 490 → 400 ≤ fieldOf w 0 9 → fieldOf w 0 9 ≤ 450 →
      (fieldOf w 0 9 + 20 ≤ fieldOf w 16 9 →
        exec (.pwrCmpCfgWrite w) s = .next (s.touch.setReg rPwrCmp (w.toNat &&& 0xE1FF01FF))) ∧
      (fieldOf w 16 9 < fieldOf w 0 9 + 20 →
        exec (.pwrCmpCfgWrite w) s = .next (s.touch.modPwr fun p => { p with cfgErr := true })))) ∧
  (∀ s : State,
    (s.pwr.state ≠ .deep → ∃ t, exec .referenceAccepted s = .next t ∧ t.pwr.refOk = true ∧
      t.tmb = { s.tmb with running := true } ∧
      ((s.pwr.booted = false ∨ s.pwr.cmp2 = false) → t.pwr = { s.pwr with refOk := true } ∧ t.fleet = s.fleet) ∧
      (s.pwr.booted = true → s.pwr.cmp2 = true → t.pwr.cmp2 = s.pwr.toDeep ∧
        (s.follows = false → RaisedFleet s t 0))) ∧
    (s.pwr.state = .deep → exec .referenceAccepted s = .next s) ∧
    ∃ t, exec .referenceLost s = .next t ∧ t.pwr = { s.pwr with refOk := false } ∧
      t.tmb = { s.tmb with running := false })

/-- CMP1, RESET_N, the watchdog, PWR_CTL.SOFT and power regained each reset with their kind and
cause. Boot waits for what R515 names; RECOVERY_N low leads to recovery, and a chosen bank runs
with one attempt more. A flash operation that verified stores its data and the queue goes on. A
save needs its session, waits for a dip or another save, and stores the values in force. A
register write of another size is ignored, one without its session too; a read outside GCTL, TMB
and PWR returns 0 unless the device is awake. A PCIe reset disables the event queues and bus
mastering and closes the session. (R6, R7, R388, R495, R496, R498, R512, R513, R515, R517, R541, Table 17-4) -/
def Obligations.ResetsBootAndRegisters : Prop :=
  (∀ s : State,
    (∃ t, exec .cmp1Trip s = .next t ∧ t.pwr.state = .off ∧ t.pwr.last.kind = 0 ∧ t.pwr.last.cause = 1 ∧
      t.pwr.vsysLow = true ∧ t.pfo.fuse = s.pfo.fuse ∧ t.sec.makerKeys = s.sec.makerKeys) ∧
    (s.pwr.state = .deep → ∃ t, exec .resetNLow s = .next t ∧ t.pwr.state = .off ∧ t.pwr.last.cause = 2 ∧
      t.pwr.wake = some (4, .deep)) ∧
    (s.pwr.state ≠ .deep → s.tripping = true → exec .resetNLow s = .next s) ∧
    (s.pwr.state ≠ .deep → s.tripping = false → ∃ t, exec .resetNLow s = .next t ∧ t.pwr.state = .off ∧ t.pwr.last.kind = 1 ∧
      t.pwr.last.cause = 3 ∧ t.pwr.booted = false ∧ t.tmb.raw = s.tmb.raw) ∧
    (s.pwr.booted = true → s.awake = true →
      (s.pwr.servedAt + s.rf rPwrWdt 0 16 * 10 * ms ≤ s.now → ∃ t, exec .watchdogExpiry s = .next t ∧
        t.pwr.state = .off ∧ t.pwr.last.kind = 2 ∧ t.pwr.last.cause = 4) ∧
      (s.now < s.pwr.servedAt + s.rf rPwrWdt 0 16 * 10 * ms → exec .watchdogExpiry s = .next s) ∧
      (s.tmb.running = true → exec .watchdogService s = .next (s.modPwr fun p => { p with servedAt := s.now })) ∧
      (s.tmb.running = false → exec .watchdogService s = .next s)) ∧
    (s.powered = true → 2 ≤ s.pcieRole → ∃ t, exec .pwrSoft s = .next t ∧ t.pwr.state = .off ∧ t.pwr.last.kind = 3 ∧
      t.pwr.last.cause = 8 ∧ t.twin.seatB = s.twin.seatB) ∧
    ((s.pcieRole < 2 ∨ s.powered = false) → exec .pwrSoft s = .next s) ∧
    (s.awake = false → exec .watchdogExpiry s = .next s ∧ exec .watchdogService s = .next s) ∧
    ∃ t, exec .ci1PowerRegained s = .next t ∧ t.pwr.state = .off ∧ t.pwr.last.kind = 0 ∧ t.pwr.last.cause = 0 ∧
      t.pwr.resets = 0 ∧ t.pwr.rtcValid = false ∧ t.pwr.ret = none) ∧
  (∀ (x : BootObs) (s : State),
    ((s.pwr.state ≠ .off ∨ s.pwr.refOk = false ∨ s.pfo.staging = 2 ∨ s.pwr.inRecovery = true ∨
      (s.pwr.last.kind ≠ 0 ∧ s.now < s.pwr.last.time + ms)) → exec (.boot x) s = .next s) ∧
    (s.pwr.state = .off → s.pwr.inRecovery = false → s.pwr.refOk = true → s.pfo.staging ≠ 2 →
      s.pwr.last.kind = 0 ∨ s.pwr.last.time + ms ≤ s.now →
      (x.recoveryN = false → ∃ t, exec (.boot x) s = .next t ∧ t.pwr.state = .off ∧ t.pwr.inRecovery = true ∧
        t.pfo.recCause = some 2) ∧
      (∀ b, (s.pfo.readFlash x).choose x.recoveryN = .inr (b, none) → ∃ t, exec (.boot x) s = .next t ∧
        t.pwr.state = .run ∧ t.pwr.booted = true ∧ t.pwr.servedAt = s.now ∧ t.pfo.running = b ∧
        t.pfo.record.attempts = (s.pfo.readFlash x).record.attempts + 1) ∧
      (∀ b v, (s.pfo.readFlash x).choose x.recoveryN = .inr (b, some v) → ∃ t, exec (.boot x) s = .next t ∧
        t.pwr.state = .run ∧ t.pwr.booted = true ∧ t.pfo.running = b ∧ t.pfo.record.bank = b ∧
        t.pfo.record.state = 2 ∧ t.pfo.record.attempts = 0) ∧
      (∀ c, (s.pfo.readFlash x).choose x.recoveryN = .inl c → ∃ t, exec (.boot x) s = .next t ∧
        t.pwr.inRecovery = true ∧ t.pwr.booted = s.pwr.booted ∧ t.pfo.recCause = some c))) ∧
  (∀ (st : BitVec 4) (rest : List FlashWrite) (s : State), s.pwr.flashBegun = true →
    (∀ x y z, s.pwr.flash = .survey x y z :: rest → ∃ t, exec (.flashOperationDone st) s = .next t ∧
      t.pwr.flash = rest ∧ t.gnss = (if st = 0 then { s.gnss with stored := some (x, y, z) } else s.gnss)) ∧
    (∀ h l, s.pwr.flash = .plan h l :: rest → ∃ t, exec (.flashOperationDone st) s = .next t ∧
      t.pwr.flash = rest ∧ t.tfc = (if st = 0 then { s.tfc with planCopy := some (h, l) } else s.tfc))) ∧
  (∀ (st : BitVec 4) (l : List Byte) (rest : List FlashWrite) (s : State),
    (s.pwr.flash = .nav l :: rest → s.pwr.flashBegun = true → ∃ t, exec (.flashOperationDone st) s = .next t ∧
      t.pwr.flash = rest ∧ t.pwr.flashBegun = (!rest.isEmpty && !s.pwr.flashHeld) ∧
      t.gnss = (if st = 0 then { s.gnss with navFlash := l } else s.gnss)) ∧
    ((s.pwr.flash = [] ∨ s.pwr.flashBegun = false) → exec (.flashOperationDone st) s = .next s)) ∧
  (∀ s : State,
    (s.pcieRole < 2 → exec .configSave s = .next (s.modPwr fun p => { p with cfgResult := 1 })) ∧
    (2 ≤ s.pcieRole →
      (s.pwr.cfgBusy = false → ∃ t, exec .configSave s = .next t ∧ t.pwr.cfgBusy = true ∧
        t.pwr.cfgResult = if s.pwr.dip then 3 else s.pwr.cfgResult) ∧
      (s.pwr.cfgBusy = true → ∃ t, exec .configSave s = .next t ∧ t.pwr.cfgQueued = true)) ∧
    (∀ st : BitVec 4, (s.pwr.cfgBusy = false → exec (.configSaveDone st) s = .next s) ∧
      (s.pwr.cfgBusy = true → s.pwr.dip = false → s.pwr.cfgQueued = false →
        (st = 0 → ∃ t, exec (.configSaveDone st) s = .next t ∧ t.pwr.cfgBusy = false ∧ t.pwr.cfgResult = 0 ∧
          t.pwr.saved = (s.savedConfig :: s.pwr.saved).take 2 ∧ Logged t evConfigSaved s.savedFields s.pwr.cfgRole 0 0) ∧
        (st ≠ 0 → ∃ t, exec (.configSaveDone st) s = .next t ∧ t.pwr.cfgBusy = false ∧ t.pwr.cfgResult = 2 ∧
          t.pwr.saved = s.pwr.saved ∧ Logged t evConfigSaveFail st.toNat 0 0 0)))) ∧
  (∀ (addr : BitVec 24) (len : Fin 9) (v : BitVec 64) (d : RegDef) (s : State), s.answers addr.toNat = true →
    addr.toNat / 65536 ≠ 3 → regDef addr.toNat = some d → ownRow addr.toNat = false →
    regAt addr.toNat = (addr.toNat, len.val) →
    (d.role = 0 → exec (.registerWrite addr len v) s = .next (s.storeReg addr.toNat v.toNat)) ∧
    (d.role ≠ 0 → d.role ≤ s.pcieRole →
      exec (.registerWrite addr len v) s = .next (s.touch.storeReg addr.toNat v.toNat)) ∧
    (d.role ≠ 0 → s.pcieRole < d.role → exec (.registerWrite addr len v) s = .next s)) ∧
  (∀ (addr : BitVec 24) (len : Fin 9) (s : State), ∃ t v, exec (.rcRegisterRead addr len) s = .next t ∧
    t.ev.out.head? = some (.busRead v)) ∧
  (∀ (addr : BitVec 24) (len : Fin 9) (v : BitVec 64) (s : State),
    (addr.toNat ≠ (regAt addr.toNat).1 ∨ len.val ≠ (regAt addr.toNat).2 → exec (.registerWrite addr len v) s = .next s) ∧
    (s.pcieRole < 2 → exec (.registerWrite 0x130010 4 v) s = .next s) ∧
    (2 ≤ s.pcieRole → exec (.registerWrite 0x130010 4 v) s = .next (s.touch.setReg rPwrWdt
      (if 10 ≤ v.toNat % 65536 ∧ v.toNat % 65536 ≤ 1000 then v.toNat % 65536 else 100))) ∧
    (s.awake = true → exec (.registerWrite 0xC0010 4 v) s =
      .next (s.modPalette fun p => { p with idx := fieldOf (lo32 v.toNat) 0 6 })) ∧
    (s.awake = false → exec (.registerWrite 0xC0010 4 v) s = .next s) ∧
    exec (.rcRegisterRead 0 4) s = .next (s.put (.busRead gctlId.toNat)) ∧
    (s.awake = false → exec (.rcRegisterRead 0x10010 4) s = .next (s.put (.busRead 0))) ∧
    (s.awake = true → s.tfc.lateOut < 2 ^ 32 → exec (.rcRegisterRead 0x10010 4) s =
      .next ((s.modTfc fun t => { t with lateOut := 0 }).put (.busRead s.tfc.lateOut)))) ∧
  (∀ (kind : PcieReset) (s : State),
    (∃ t, exec (.pcieReset kind) s = .next t ∧ t.host.busMaster = false ∧ t.sec.pcie.role = 0 ∧
      (∀ n : Fin 8, t.host.evq[n].en = false) ∧ t.host.linkUp = (s.host.linkUp && kind != .linkLoss)) ∧
    (∀ (speed width : Nat) (m : Bool), (s.host.linkUp = true → exec (.pcieLinkReturn speed width m) s = .next s) ∧
      (s.host.linkUp = false → ∃ t, exec (.pcieLinkReturn speed width m) s = .next t ∧ t.host.linkUp = true ∧
        t.host.speed = speed ∧ t.host.width = width ∧ t.host.busMaster = m ∧ Logged t evPcieLink 1 speed width 0)))

/-- For every command and state, a step with the command at the front of the queue is exec of it on
the state with the queue's rest. With an empty queue a tick of the clock passes (the model's
choice, log entry 1), which adds 2 ns to world time and to the counter where it runs, serves the
stamp latches, and leaves the Easels, memories and sessions as they were. A table word spells no
command. (Table 18-1) -/
def Obligations.StepRunsTheFrontCommand : Prop :=
  (∀ (c : Instr) (rest : List Instr) (s : State), step { s with pending := c :: rest } = exec c { s with pending := rest }) ∧
  (∀ s : State, s.pending = [] → ∃ t, step s = .next t ∧ t.pending = [] ∧ t.now = s.now + 2 ∧
    t.tmb = ({ s.tmb with raw := if s.tmb.running then s.tmb.raw + 2 else s.tmb.raw } : Tmb).serve ∧
    t.easels = s.easels ∧
    t.atelier = s.atelier ∧ t.sec = s.sec ∧ t.pwr = s.pwr) ∧
  (∀ (n w : Nat) (s : State), s.withFetchWord n w = s)

/-- For every command, whatever its operands, and for every state, exec answers a next state: a
happening whose condition does not hold changes nothing, and a write without its session is
ignored or recorded. (R6, R7, Table 1-5, Table 17-6) -/
def Obligations.EveryCommandAnswersANextState : Prop :=
  ∀ (c : Instr) (s : State), Runs c s

/-- For every well-formed instruction of an Easel, with every operand at every value its field
admits, decoding the words that encode it gives the instruction. (Table 4-1, Table 4-3, Table 4-5, Table 4-7, Table 4-9, Table 4-11, Table 4-12, R97) -/
def Obligations.EaselWordsDecodeToTheirInstruction : Prop :=
  ∀ i : EInstr, i.wf = true → decodeEasel (encodeEasel i).1 (encodeEasel i).2 = some i

/-- From every state whose Easels keep within eight returns and four loops in every bank, whose
scratch and Atelier memories and whose Canvas are in canonical form, and whose waiting snapshots
bring the same, a step that answers a next state gives such a state. Whatever the state, the
step takes exactly the front command from the queue and adds none, and world time advances by 2
ns exactly where no command waited. (R80, R81, R113, R428) -/
def Obligations.StacksMemoriesQueueAndClockThroughEveryStep : Prop :=
  ∀ s t : State, step s = .next t → (Sound s → Sound t) ∧ t.pending = s.pending.tail ∧
    t.now = s.now + (if s.pending = [] then 2 else 0)

/-- The reset state holds one stop, FLEET from source 7 with sequence 0. No Cartoon runs or is
staged, the Palette is empty, no channel has a session, no grant exists, and the policy, guard
band and Pentimento settings have the values of their tables. It meets the invariant that every
step keeps. (R9, R28, R81, R113, Table 1-9, Table 2-8, Table 5-15, Table 15-4) -/
def Obligations.ResetLeavesTheBootStopAndEmptyDevice : Prop :=
  State.reset.fleet.stops = [bootStop] ∧ bootStop.kind = .fleet ∧ bootStop.source = 7 ∧ bootStop.seq = 0 ∧
  State.reset.fleet.lastSource = 7 ∧ State.reset.pwr.booted = false ∧ State.reset.pending = [] ∧
  State.reset.dsp.mode = .empty ∧ State.reset.dsp.running = none ∧ State.reset.dsp.staged = none ∧
  State.reset.palette.inUse = 0 ∧ State.reset.pcieRole = 0 ∧ State.reset.svcRole = 0 ∧
  State.reset.canvas.grants = [] ∧ State.reset.fleet.discTime = 10 ∧ State.reset.fleet.bootHold = true ∧
  State.reset.tfc.guard = 80 ∧ State.reset.tfc.tdesign = 105 ∧ State.reset.sec.idle = 600 ∧
  State.reset.pnt.minSev = 1 ∧ State.reset.pnt.classMask = 0xFFFF ∧ State.reset.reg rPwrWdt = 100 ∧
  Sound State.reset
end

