-- ==== Sys2Proof/Laws/Record.lean ====
section
/-! SUPPORT. What making an event record can touch: the output trace and the sequence counters
and buckets, the Pentimento, the Palette, the event queues and the dispatcher's arrival queues.
Everything else of the state is as before. -/

namespace Sys2Proof.Machine

theorem foldl_recordless {α : Type} (f : State → α → State) (h : ∀ s a, (f s a).recordless = s.recordless)
    (l : List α) (s : State) : (l.foldl f s).recordless = s.recordless := by
  induction l generalizing s with
  | nil => rfl
  | cons a l ih => rw [List.foldl_cons, ih, h]

theorem recordless_modEv (s : State) (f) : (s.modEv f).recordless = s.recordless := rfl
theorem recordless_modPnt (s : State) (f) : (s.modPnt f).recordless = s.recordless := rfl
theorem recordless_modPalette (s : State) (f) : (s.modPalette f).recordless = s.recordless := rfl

theorem recordless_modEvq (s : State) (n : Nat) (f : Evq → Evq) :
    (s.modHost fun h => h.modEvq n f).recordless = s.recordless := by
  simp only [State.recordless, State.modHost, HostIf.modEvq]
  split <;> rfl

/-- The dispatcher with its arrival queues and drop counters set aside. -/
def Dsp.quiet (d : Dsp) : Dsp :=
  { d with arrivals := Dsp.reset.arrivals, dropRadio := 0, dropSubg := 0, dropUnrouted := 0 }

theorem quiet_modArrivalQ (d : Dsp) (k : Nat) (f : ArrivalQ → ArrivalQ) :
    (d.modArrivalQ k f).quiet = d.quiet := by
  unfold Dsp.modArrivalQ
  split <;> rfl

/-- An arrival touches the arrival queues and drop counters alone. -/
theorem quiet_arrive (d : Dsp) (kind sel : Nat) (w : Word) : (d.arrive kind sel w).2.quiet = d.quiet := by
  have hq : ∀ (d : Dsp) (a b c : Nat),
      ({ d with dropRadio := a, dropSubg := b, dropUnrouted := c } : Dsp).quiet = d.quiet :=
    fun _ _ _ _ => rfl
  unfold Dsp.arrive
  split
  · rfl
  · rfl
  · split
    · rfl
    · split
      · exact quiet_modArrivalQ ..
      · have h1 := quiet_modArrivalQ d kind fun q => { q with refused := q.refused + 1 }
        dsimp only
        split
        · exact (quiet_modArrivalQ ..).trans h1
        · exact (quiet_modArrivalQ ..).trans h1
        · exact (quiet_modArrivalQ ..).trans h1
        · exact (hq _ _ _ _).trans h1
        · exact (hq _ _ _ _).trans h1
        · exact (hq _ _ _ _).trans h1
        · exact h1

theorem recordless_arrive (s : State) (kind sel : Nat) (w : Word) :
    (s.modDsp fun d => (d.arrive kind sel w).2).recordless = s.recordless := by
  have h := quiet_arrive s.dsp kind sel w
  unfold Dsp.quiet at h
  simp only [State.recordless, State.modDsp, h]

theorem recordless_arriveRec (s : State) (r : Record) : (s.arriveRec r).recordless = s.recordless :=
  recordless_arrive s _ _ _

theorem recordless_stageEvq (s : State) (n : Nat) (r : Record) :
    (s.stageEvq n r).recordless = s.recordless := by
  unfold State.stageEvq
  dsimp only
  split
  · rfl
  · rw [recordless_modEvq]; rfl

theorem recordless_stagePnt (s : State) (r : Record) : (s.stagePnt r).recordless = s.recordless := by
  unfold State.stagePnt
  repeat' split
  all_goals rfl

theorem recordless_stageAll (s : State) (r : Record) (n : Nat) :
    (s.stageAll r n).recordless = s.recordless :=
  foldl_recordless _ (by intro s n; split <;> [exact recordless_stageEvq s _ r; rfl]) _ s

theorem recordless_deliverOut (s : State) (r : Record) (n : Nat) :
    (s.deliverOut r n).recordless = s.recordless := by
  rw [State.deliverOut, recordless_arriveRec, recordless_stageAll]

theorem recordless_deliver (s : State) (r : Record) (n : Nat) :
    (s.deliver r n).recordless = s.recordless := by
  unfold State.deliver
  dsimp only
  split
  · rw [recordless_stagePnt, recordless_deliverOut]
  · rw [recordless_deliverOut]

theorem recordless_makeRecord (s : State) (code sev : Nat) (link : Bool) (t a b c d : Nat) :
    (s.makeRecord code sev link t a b c d).2.recordless = s.recordless := rfl

theorem recordless_evqLost (s : State) (n : Nat) : (s.evqLost n).recordless = s.recordless := by
  unfold State.evqLost
  dsimp only
  split
  · rw [recordless_deliver, recordless_modEvq]; rfl
  · rfl

theorem recordless_pntGap (s : State) : s.pntGap.recordless = s.recordless := by
  unfold State.pntGap
  split
  · dsimp only
    rw [recordless_deliverOut, recordless_stagePnt]; rfl
  · rfl

theorem recordless_beforeRecord (s : State) (code sev : Nat) :
    (s.beforeRecord code sev).recordless = s.recordless := by
  unfold State.beforeRecord
  dsimp only
  split
  · rw [recordless_pntGap]
    exact foldl_recordless _ (by intro s n; split <;> [exact recordless_evqLost s _; rfl]) _ s
  · exact foldl_recordless _ (by intro s n; split <;> [exact recordless_evqLost s _; rfl]) _ s

/-- A record touches nothing but what `recordless` sets aside. -/
theorem recordless_recordNow (s : State) (code sev : Nat) (link : Bool) (t a b c d : Nat) :
    (s.recordNow code sev link t a b c d).recordless = s.recordless := by
  unfold State.recordNow
  dsimp only
  rw [recordless_deliver, recordless_makeRecord, recordless_beforeRecord]

theorem recordless_refill (s : State) (code : Nat) (link : Bool) :
    (s.refill code link).recordless = s.recordless := by
  unfold State.refill
  dsimp only
  split
  · rfl
  · split
    · rfl
    · rw [recordless_recordNow]; rfl

theorem recordless_emitLimited (s : State) (code sev : Nat) (link : Bool) (t a b c d : Nat) :
    (s.emitLimited code sev link t a b c d).2.recordless = s.recordless := by
  rw [← recordless_refill s code link, State.emitLimited]
  generalize s.refill code link = u
  by_cases h : (u.ev.bucket code).tokens = 0
  · rw [if_pos h, recordless_modEv]
  · rw [if_neg h, recordless_recordNow, recordless_modEv]

theorem recordless_emitAt (s : State) (code sev : Nat) (link : Bool) (t a b c d : Nat) :
    (s.emitAt code sev link t a b c d).2.recordless = s.recordless := by
  rw [State.emitAt]
  generalize hasBucket code = x
  cases x
  · rw [if_neg Bool.false_ne_true, recordless_recordNow]
  · rw [if_pos rfl, recordless_emitLimited]

/-- An event changes nothing but what `recordless` sets aside. -/
theorem recordless_emit (s : State) (e : EvDef) (a b c d : Nat) :
    (s.emit e a b c d).recordless = s.recordless := by rw [State.emit, recordless_emitAt]

/-! Fields an event leaves as they are. -/

@[simp] theorem emit_pending (s : State) (e : EvDef) (a b c d : Nat) : (s.emit e a b c d).pending = s.pending :=
  (congrArg State.pending (recordless_emit s e a b c d) :)
@[simp] theorem emit_now (s : State) (e : EvDef) (a b c d : Nat) : (s.emit e a b c d).now = s.now :=
  (congrArg State.now (recordless_emit s e a b c d) :)
@[simp] theorem emit_draws (s : State) (e : EvDef) (a b c d : Nat) : (s.emit e a b c d).draws = s.draws :=
  (congrArg State.draws (recordless_emit s e a b c d) :)
@[simp] theorem emit_sec (s : State) (e : EvDef) (a b c d : Nat) : (s.emit e a b c d).sec = s.sec :=
  (congrArg State.sec (recordless_emit s e a b c d) :)
@[simp] theorem emit_tmb (s : State) (e : EvDef) (a b c d : Nat) : (s.emit e a b c d).tmb = s.tmb :=
  (congrArg State.tmb (recordless_emit s e a b c d) :)
@[simp] theorem emit_fleet (s : State) (e : EvDef) (a b c d : Nat) : (s.emit e a b c d).fleet = s.fleet :=
  (congrArg State.fleet (recordless_emit s e a b c d) :)
@[simp] theorem emit_epoch (s : State) (e : EvDef) (a b c d : Nat) : (s.emit e a b c d).epoch = s.epoch :=
  (congrArg State.epoch (recordless_emit s e a b c d) :)
@[simp] theorem emit_easels (s : State) (e : EvDef) (a b c d : Nat) : (s.emit e a b c d).easels = s.easels :=
  (congrArg State.easels (recordless_emit s e a b c d) :)
@[simp] theorem emit_atelier (s : State) (e : EvDef) (a b c d : Nat) : (s.emit e a b c d).atelier = s.atelier :=
  (congrArg State.atelier (recordless_emit s e a b c d) :)
@[simp] theorem emit_canvas (s : State) (e : EvDef) (a b c d : Nat) : (s.emit e a b c d).canvas = s.canvas :=
  (congrArg State.canvas (recordless_emit s e a b c d) :)
@[simp] theorem emit_stk (s : State) (e : EvDef) (a b c d : Nat) : (s.emit e a b c d).stk = s.stk :=
  (congrArg State.stk (recordless_emit s e a b c d) :)
@[simp] theorem emit_gdl (s : State) (e : EvDef) (a b c d : Nat) : (s.emit e a b c d).gdl = s.gdl :=
  (congrArg State.gdl (recordless_emit s e a b c d) :)
@[simp] theorem emit_drv (s : State) (e : EvDef) (a b c d : Nat) : (s.emit e a b c d).drv = s.drv :=
  (congrArg State.drv (recordless_emit s e a b c d) :)
@[simp] theorem emit_air (s : State) (e : EvDef) (a b c d : Nat) : (s.emit e a b c d).air = s.air :=
  (congrArg State.air (recordless_emit s e a b c d) :)
@[simp] theorem emit_rfb (s : State) (e : EvDef) (a b c d : Nat) : (s.emit e a b c d).rfb = s.rfb :=
  (congrArg State.rfb (recordless_emit s e a b c d) :)
@[simp] theorem emit_tfc (s : State) (e : EvDef) (a b c d : Nat) : (s.emit e a b c d).tfc = s.tfc :=
  (congrArg State.tfc (recordless_emit s e a b c d) :)
@[simp] theorem emit_twin (s : State) (e : EvDef) (a b c d : Nat) : (s.emit e a b c d).twin = s.twin :=
  (congrArg State.twin (recordless_emit s e a b c d) :)
@[simp] theorem emit_pwr (s : State) (e : EvDef) (a b c d : Nat) : (s.emit e a b c d).pwr = s.pwr :=
  (congrArg State.pwr (recordless_emit s e a b c d) :)
@[simp] theorem emit_gnss (s : State) (e : EvDef) (a b c d : Nat) : (s.emit e a b c d).gnss = s.gnss :=
  (congrArg State.gnss (recordless_emit s e a b c d) :)
@[simp] theorem emit_servo (s : State) (e : EvDef) (a b c d : Nat) : (s.emit e a b c d).servo = s.servo :=
  (congrArg State.servo (recordless_emit s e a b c d) :)
@[simp] theorem emit_tp (s : State) (e : EvDef) (a b c d : Nat) : (s.emit e a b c d).tp = s.tp :=
  (congrArg State.tp (recordless_emit s e a b c d) :)
@[simp] theorem emit_eth (s : State) (e : EvDef) (a b c d : Nat) : (s.emit e a b c d).eth = s.eth :=
  (congrArg State.eth (recordless_emit s e a b c d) :)
@[simp] theorem emit_pfo (s : State) (e : EvDef) (a b c d : Nat) : (s.emit e a b c d).pfo = s.pfo :=
  (congrArg State.pfo (recordless_emit s e a b c d) :)
@[simp] theorem emit_regs (s : State) (e : EvDef) (a b c d : Nat) : (s.emit e a b c d).regs = s.regs :=
  (congrArg State.regs (recordless_emit s e a b c d) :)

/-- The dispatcher keeps all but its arrival queues and drop counters. -/
theorem emit_dsp (s : State) (e : EvDef) (a b c d : Nat) : (s.emit e a b c d).dsp.quiet = s.dsp.quiet :=
  (congrArg State.dsp (recordless_emit s e a b c d) :)

end Sys2Proof.Machine
end

