-- ==== Sys2Proof/Laws/State.lean ====
section
/-! SUPPORT. Reading a field after an update of the state: one lemma for each field and update. -/

namespace Sys2Proof.Machine

/-! `modEv` -/

@[simp] theorem modEv_pending (s : State) (f) : (s.modEv f).pending = s.pending := rfl
@[simp] theorem modEv_now (s : State) (f) : (s.modEv f).now = s.now := rfl
@[simp] theorem modEv_draws (s : State) (f) : (s.modEv f).draws = s.draws := rfl
@[simp] theorem modEv_ev (s : State) (f) : (s.modEv f).ev = f s.ev := rfl
@[simp] theorem modEv_sec (s : State) (f) : (s.modEv f).sec = s.sec := rfl
@[simp] theorem modEv_pnt (s : State) (f) : (s.modEv f).pnt = s.pnt := rfl
@[simp] theorem modEv_palette (s : State) (f) : (s.modEv f).palette = s.palette := rfl
@[simp] theorem modEv_host (s : State) (f) : (s.modEv f).host = s.host := rfl
@[simp] theorem modEv_tmb (s : State) (f) : (s.modEv f).tmb = s.tmb := rfl
@[simp] theorem modEv_fleet (s : State) (f) : (s.modEv f).fleet = s.fleet := rfl
@[simp] theorem modEv_epoch (s : State) (f) : (s.modEv f).epoch = s.epoch := rfl
@[simp] theorem modEv_dsp (s : State) (f) : (s.modEv f).dsp = s.dsp := rfl
@[simp] theorem modEv_easels (s : State) (f) : (s.modEv f).easels = s.easels := rfl
@[simp] theorem modEv_atelier (s : State) (f) : (s.modEv f).atelier = s.atelier := rfl
@[simp] theorem modEv_canvas (s : State) (f) : (s.modEv f).canvas = s.canvas := rfl
@[simp] theorem modEv_stk (s : State) (f) : (s.modEv f).stk = s.stk := rfl
@[simp] theorem modEv_gdl (s : State) (f) : (s.modEv f).gdl = s.gdl := rfl
@[simp] theorem modEv_drv (s : State) (f) : (s.modEv f).drv = s.drv := rfl
@[simp] theorem modEv_air (s : State) (f) : (s.modEv f).air = s.air := rfl
@[simp] theorem modEv_rfb (s : State) (f) : (s.modEv f).rfb = s.rfb := rfl
@[simp] theorem modEv_tfc (s : State) (f) : (s.modEv f).tfc = s.tfc := rfl
@[simp] theorem modEv_twin (s : State) (f) : (s.modEv f).twin = s.twin := rfl
@[simp] theorem modEv_pwr (s : State) (f) : (s.modEv f).pwr = s.pwr := rfl
@[simp] theorem modEv_gnss (s : State) (f) : (s.modEv f).gnss = s.gnss := rfl
@[simp] theorem modEv_servo (s : State) (f) : (s.modEv f).servo = s.servo := rfl
@[simp] theorem modEv_tp (s : State) (f) : (s.modEv f).tp = s.tp := rfl
@[simp] theorem modEv_eth (s : State) (f) : (s.modEv f).eth = s.eth := rfl
@[simp] theorem modEv_pfo (s : State) (f) : (s.modEv f).pfo = s.pfo := rfl
@[simp] theorem modEv_regs (s : State) (f) : (s.modEv f).regs = s.regs := rfl

/-! `modSec` -/

@[simp] theorem modSec_pending (s : State) (f) : (s.modSec f).pending = s.pending := rfl
@[simp] theorem modSec_now (s : State) (f) : (s.modSec f).now = s.now := rfl
@[simp] theorem modSec_draws (s : State) (f) : (s.modSec f).draws = s.draws := rfl
@[simp] theorem modSec_ev (s : State) (f) : (s.modSec f).ev = s.ev := rfl
@[simp] theorem modSec_sec (s : State) (f) : (s.modSec f).sec = f s.sec := rfl
@[simp] theorem modSec_pnt (s : State) (f) : (s.modSec f).pnt = s.pnt := rfl
@[simp] theorem modSec_palette (s : State) (f) : (s.modSec f).palette = s.palette := rfl
@[simp] theorem modSec_host (s : State) (f) : (s.modSec f).host = s.host := rfl
@[simp] theorem modSec_tmb (s : State) (f) : (s.modSec f).tmb = s.tmb := rfl
@[simp] theorem modSec_fleet (s : State) (f) : (s.modSec f).fleet = s.fleet := rfl
@[simp] theorem modSec_epoch (s : State) (f) : (s.modSec f).epoch = s.epoch := rfl
@[simp] theorem modSec_dsp (s : State) (f) : (s.modSec f).dsp = s.dsp := rfl
@[simp] theorem modSec_easels (s : State) (f) : (s.modSec f).easels = s.easels := rfl
@[simp] theorem modSec_atelier (s : State) (f) : (s.modSec f).atelier = s.atelier := rfl
@[simp] theorem modSec_canvas (s : State) (f) : (s.modSec f).canvas = s.canvas := rfl
@[simp] theorem modSec_stk (s : State) (f) : (s.modSec f).stk = s.stk := rfl
@[simp] theorem modSec_gdl (s : State) (f) : (s.modSec f).gdl = s.gdl := rfl
@[simp] theorem modSec_drv (s : State) (f) : (s.modSec f).drv = s.drv := rfl
@[simp] theorem modSec_air (s : State) (f) : (s.modSec f).air = s.air := rfl
@[simp] theorem modSec_rfb (s : State) (f) : (s.modSec f).rfb = s.rfb := rfl
@[simp] theorem modSec_tfc (s : State) (f) : (s.modSec f).tfc = s.tfc := rfl
@[simp] theorem modSec_twin (s : State) (f) : (s.modSec f).twin = s.twin := rfl
@[simp] theorem modSec_pwr (s : State) (f) : (s.modSec f).pwr = s.pwr := rfl
@[simp] theorem modSec_gnss (s : State) (f) : (s.modSec f).gnss = s.gnss := rfl
@[simp] theorem modSec_servo (s : State) (f) : (s.modSec f).servo = s.servo := rfl
@[simp] theorem modSec_tp (s : State) (f) : (s.modSec f).tp = s.tp := rfl
@[simp] theorem modSec_eth (s : State) (f) : (s.modSec f).eth = s.eth := rfl
@[simp] theorem modSec_pfo (s : State) (f) : (s.modSec f).pfo = s.pfo := rfl
@[simp] theorem modSec_regs (s : State) (f) : (s.modSec f).regs = s.regs := rfl

/-! `modPnt` -/

@[simp] theorem modPnt_pending (s : State) (f) : (s.modPnt f).pending = s.pending := rfl
@[simp] theorem modPnt_now (s : State) (f) : (s.modPnt f).now = s.now := rfl
@[simp] theorem modPnt_draws (s : State) (f) : (s.modPnt f).draws = s.draws := rfl
@[simp] theorem modPnt_ev (s : State) (f) : (s.modPnt f).ev = s.ev := rfl
@[simp] theorem modPnt_sec (s : State) (f) : (s.modPnt f).sec = s.sec := rfl
@[simp] theorem modPnt_pnt (s : State) (f) : (s.modPnt f).pnt = f s.pnt := rfl
@[simp] theorem modPnt_palette (s : State) (f) : (s.modPnt f).palette = s.palette := rfl
@[simp] theorem modPnt_host (s : State) (f) : (s.modPnt f).host = s.host := rfl
@[simp] theorem modPnt_tmb (s : State) (f) : (s.modPnt f).tmb = s.tmb := rfl
@[simp] theorem modPnt_fleet (s : State) (f) : (s.modPnt f).fleet = s.fleet := rfl
@[simp] theorem modPnt_epoch (s : State) (f) : (s.modPnt f).epoch = s.epoch := rfl
@[simp] theorem modPnt_dsp (s : State) (f) : (s.modPnt f).dsp = s.dsp := rfl
@[simp] theorem modPnt_easels (s : State) (f) : (s.modPnt f).easels = s.easels := rfl
@[simp] theorem modPnt_atelier (s : State) (f) : (s.modPnt f).atelier = s.atelier := rfl
@[simp] theorem modPnt_canvas (s : State) (f) : (s.modPnt f).canvas = s.canvas := rfl
@[simp] theorem modPnt_stk (s : State) (f) : (s.modPnt f).stk = s.stk := rfl
@[simp] theorem modPnt_gdl (s : State) (f) : (s.modPnt f).gdl = s.gdl := rfl
@[simp] theorem modPnt_drv (s : State) (f) : (s.modPnt f).drv = s.drv := rfl
@[simp] theorem modPnt_air (s : State) (f) : (s.modPnt f).air = s.air := rfl
@[simp] theorem modPnt_rfb (s : State) (f) : (s.modPnt f).rfb = s.rfb := rfl
@[simp] theorem modPnt_tfc (s : State) (f) : (s.modPnt f).tfc = s.tfc := rfl
@[simp] theorem modPnt_twin (s : State) (f) : (s.modPnt f).twin = s.twin := rfl
@[simp] theorem modPnt_pwr (s : State) (f) : (s.modPnt f).pwr = s.pwr := rfl
@[simp] theorem modPnt_gnss (s : State) (f) : (s.modPnt f).gnss = s.gnss := rfl
@[simp] theorem modPnt_servo (s : State) (f) : (s.modPnt f).servo = s.servo := rfl
@[simp] theorem modPnt_tp (s : State) (f) : (s.modPnt f).tp = s.tp := rfl
@[simp] theorem modPnt_eth (s : State) (f) : (s.modPnt f).eth = s.eth := rfl
@[simp] theorem modPnt_pfo (s : State) (f) : (s.modPnt f).pfo = s.pfo := rfl
@[simp] theorem modPnt_regs (s : State) (f) : (s.modPnt f).regs = s.regs := rfl

/-! `modPalette` -/

@[simp] theorem modPalette_pending (s : State) (f) : (s.modPalette f).pending = s.pending := rfl
@[simp] theorem modPalette_now (s : State) (f) : (s.modPalette f).now = s.now := rfl
@[simp] theorem modPalette_draws (s : State) (f) : (s.modPalette f).draws = s.draws := rfl
@[simp] theorem modPalette_ev (s : State) (f) : (s.modPalette f).ev = s.ev := rfl
@[simp] theorem modPalette_sec (s : State) (f) : (s.modPalette f).sec = s.sec := rfl
@[simp] theorem modPalette_pnt (s : State) (f) : (s.modPalette f).pnt = s.pnt := rfl
@[simp] theorem modPalette_palette (s : State) (f) : (s.modPalette f).palette = f s.palette := rfl
@[simp] theorem modPalette_host (s : State) (f) : (s.modPalette f).host = s.host := rfl
@[simp] theorem modPalette_tmb (s : State) (f) : (s.modPalette f).tmb = s.tmb := rfl
@[simp] theorem modPalette_fleet (s : State) (f) : (s.modPalette f).fleet = s.fleet := rfl
@[simp] theorem modPalette_epoch (s : State) (f) : (s.modPalette f).epoch = s.epoch := rfl
@[simp] theorem modPalette_dsp (s : State) (f) : (s.modPalette f).dsp = s.dsp := rfl
@[simp] theorem modPalette_easels (s : State) (f) : (s.modPalette f).easels = s.easels := rfl
@[simp] theorem modPalette_atelier (s : State) (f) : (s.modPalette f).atelier = s.atelier := rfl
@[simp] theorem modPalette_canvas (s : State) (f) : (s.modPalette f).canvas = s.canvas := rfl
@[simp] theorem modPalette_stk (s : State) (f) : (s.modPalette f).stk = s.stk := rfl
@[simp] theorem modPalette_gdl (s : State) (f) : (s.modPalette f).gdl = s.gdl := rfl
@[simp] theorem modPalette_drv (s : State) (f) : (s.modPalette f).drv = s.drv := rfl
@[simp] theorem modPalette_air (s : State) (f) : (s.modPalette f).air = s.air := rfl
@[simp] theorem modPalette_rfb (s : State) (f) : (s.modPalette f).rfb = s.rfb := rfl
@[simp] theorem modPalette_tfc (s : State) (f) : (s.modPalette f).tfc = s.tfc := rfl
@[simp] theorem modPalette_twin (s : State) (f) : (s.modPalette f).twin = s.twin := rfl
@[simp] theorem modPalette_pwr (s : State) (f) : (s.modPalette f).pwr = s.pwr := rfl
@[simp] theorem modPalette_gnss (s : State) (f) : (s.modPalette f).gnss = s.gnss := rfl
@[simp] theorem modPalette_servo (s : State) (f) : (s.modPalette f).servo = s.servo := rfl
@[simp] theorem modPalette_tp (s : State) (f) : (s.modPalette f).tp = s.tp := rfl
@[simp] theorem modPalette_eth (s : State) (f) : (s.modPalette f).eth = s.eth := rfl
@[simp] theorem modPalette_pfo (s : State) (f) : (s.modPalette f).pfo = s.pfo := rfl
@[simp] theorem modPalette_regs (s : State) (f) : (s.modPalette f).regs = s.regs := rfl

/-! `modHost` -/

@[simp] theorem modHost_pending (s : State) (f) : (s.modHost f).pending = s.pending := rfl
@[simp] theorem modHost_now (s : State) (f) : (s.modHost f).now = s.now := rfl
@[simp] theorem modHost_draws (s : State) (f) : (s.modHost f).draws = s.draws := rfl
@[simp] theorem modHost_ev (s : State) (f) : (s.modHost f).ev = s.ev := rfl
@[simp] theorem modHost_sec (s : State) (f) : (s.modHost f).sec = s.sec := rfl
@[simp] theorem modHost_pnt (s : State) (f) : (s.modHost f).pnt = s.pnt := rfl
@[simp] theorem modHost_palette (s : State) (f) : (s.modHost f).palette = s.palette := rfl
@[simp] theorem modHost_host (s : State) (f) : (s.modHost f).host = f s.host := rfl
@[simp] theorem modHost_tmb (s : State) (f) : (s.modHost f).tmb = s.tmb := rfl
@[simp] theorem modHost_fleet (s : State) (f) : (s.modHost f).fleet = s.fleet := rfl
@[simp] theorem modHost_epoch (s : State) (f) : (s.modHost f).epoch = s.epoch := rfl
@[simp] theorem modHost_dsp (s : State) (f) : (s.modHost f).dsp = s.dsp := rfl
@[simp] theorem modHost_easels (s : State) (f) : (s.modHost f).easels = s.easels := rfl
@[simp] theorem modHost_atelier (s : State) (f) : (s.modHost f).atelier = s.atelier := rfl
@[simp] theorem modHost_canvas (s : State) (f) : (s.modHost f).canvas = s.canvas := rfl
@[simp] theorem modHost_stk (s : State) (f) : (s.modHost f).stk = s.stk := rfl
@[simp] theorem modHost_gdl (s : State) (f) : (s.modHost f).gdl = s.gdl := rfl
@[simp] theorem modHost_drv (s : State) (f) : (s.modHost f).drv = s.drv := rfl
@[simp] theorem modHost_air (s : State) (f) : (s.modHost f).air = s.air := rfl
@[simp] theorem modHost_rfb (s : State) (f) : (s.modHost f).rfb = s.rfb := rfl
@[simp] theorem modHost_tfc (s : State) (f) : (s.modHost f).tfc = s.tfc := rfl
@[simp] theorem modHost_twin (s : State) (f) : (s.modHost f).twin = s.twin := rfl
@[simp] theorem modHost_pwr (s : State) (f) : (s.modHost f).pwr = s.pwr := rfl
@[simp] theorem modHost_gnss (s : State) (f) : (s.modHost f).gnss = s.gnss := rfl
@[simp] theorem modHost_servo (s : State) (f) : (s.modHost f).servo = s.servo := rfl
@[simp] theorem modHost_tp (s : State) (f) : (s.modHost f).tp = s.tp := rfl
@[simp] theorem modHost_eth (s : State) (f) : (s.modHost f).eth = s.eth := rfl
@[simp] theorem modHost_pfo (s : State) (f) : (s.modHost f).pfo = s.pfo := rfl
@[simp] theorem modHost_regs (s : State) (f) : (s.modHost f).regs = s.regs := rfl

/-! `modTmb` -/

@[simp] theorem modTmb_pending (s : State) (f) : (s.modTmb f).pending = s.pending := rfl
@[simp] theorem modTmb_now (s : State) (f) : (s.modTmb f).now = s.now := rfl
@[simp] theorem modTmb_draws (s : State) (f) : (s.modTmb f).draws = s.draws := rfl
@[simp] theorem modTmb_ev (s : State) (f) : (s.modTmb f).ev = s.ev := rfl
@[simp] theorem modTmb_sec (s : State) (f) : (s.modTmb f).sec = s.sec := rfl
@[simp] theorem modTmb_pnt (s : State) (f) : (s.modTmb f).pnt = s.pnt := rfl
@[simp] theorem modTmb_palette (s : State) (f) : (s.modTmb f).palette = s.palette := rfl
@[simp] theorem modTmb_host (s : State) (f) : (s.modTmb f).host = s.host := rfl
@[simp] theorem modTmb_tmb (s : State) (f) : (s.modTmb f).tmb = f s.tmb := rfl
@[simp] theorem modTmb_fleet (s : State) (f) : (s.modTmb f).fleet = s.fleet := rfl
@[simp] theorem modTmb_epoch (s : State) (f) : (s.modTmb f).epoch = s.epoch := rfl
@[simp] theorem modTmb_dsp (s : State) (f) : (s.modTmb f).dsp = s.dsp := rfl
@[simp] theorem modTmb_easels (s : State) (f) : (s.modTmb f).easels = s.easels := rfl
@[simp] theorem modTmb_atelier (s : State) (f) : (s.modTmb f).atelier = s.atelier := rfl
@[simp] theorem modTmb_canvas (s : State) (f) : (s.modTmb f).canvas = s.canvas := rfl
@[simp] theorem modTmb_stk (s : State) (f) : (s.modTmb f).stk = s.stk := rfl
@[simp] theorem modTmb_gdl (s : State) (f) : (s.modTmb f).gdl = s.gdl := rfl
@[simp] theorem modTmb_drv (s : State) (f) : (s.modTmb f).drv = s.drv := rfl
@[simp] theorem modTmb_air (s : State) (f) : (s.modTmb f).air = s.air := rfl
@[simp] theorem modTmb_rfb (s : State) (f) : (s.modTmb f).rfb = s.rfb := rfl
@[simp] theorem modTmb_tfc (s : State) (f) : (s.modTmb f).tfc = s.tfc := rfl
@[simp] theorem modTmb_twin (s : State) (f) : (s.modTmb f).twin = s.twin := rfl
@[simp] theorem modTmb_pwr (s : State) (f) : (s.modTmb f).pwr = s.pwr := rfl
@[simp] theorem modTmb_gnss (s : State) (f) : (s.modTmb f).gnss = s.gnss := rfl
@[simp] theorem modTmb_servo (s : State) (f) : (s.modTmb f).servo = s.servo := rfl
@[simp] theorem modTmb_tp (s : State) (f) : (s.modTmb f).tp = s.tp := rfl
@[simp] theorem modTmb_eth (s : State) (f) : (s.modTmb f).eth = s.eth := rfl
@[simp] theorem modTmb_pfo (s : State) (f) : (s.modTmb f).pfo = s.pfo := rfl
@[simp] theorem modTmb_regs (s : State) (f) : (s.modTmb f).regs = s.regs := rfl

/-! `modFleet` -/

@[simp] theorem modFleet_pending (s : State) (f) : (s.modFleet f).pending = s.pending := rfl
@[simp] theorem modFleet_now (s : State) (f) : (s.modFleet f).now = s.now := rfl
@[simp] theorem modFleet_draws (s : State) (f) : (s.modFleet f).draws = s.draws := rfl
@[simp] theorem modFleet_ev (s : State) (f) : (s.modFleet f).ev = s.ev := rfl
@[simp] theorem modFleet_sec (s : State) (f) : (s.modFleet f).sec = s.sec := rfl
@[simp] theorem modFleet_pnt (s : State) (f) : (s.modFleet f).pnt = s.pnt := rfl
@[simp] theorem modFleet_palette (s : State) (f) : (s.modFleet f).palette = s.palette := rfl
@[simp] theorem modFleet_host (s : State) (f) : (s.modFleet f).host = s.host := rfl
@[simp] theorem modFleet_tmb (s : State) (f) : (s.modFleet f).tmb = s.tmb := rfl
@[simp] theorem modFleet_fleet (s : State) (f) : (s.modFleet f).fleet = f s.fleet := rfl
@[simp] theorem modFleet_epoch (s : State) (f) : (s.modFleet f).epoch = s.epoch := rfl
@[simp] theorem modFleet_dsp (s : State) (f) : (s.modFleet f).dsp = s.dsp := rfl
@[simp] theorem modFleet_easels (s : State) (f) : (s.modFleet f).easels = s.easels := rfl
@[simp] theorem modFleet_atelier (s : State) (f) : (s.modFleet f).atelier = s.atelier := rfl
@[simp] theorem modFleet_canvas (s : State) (f) : (s.modFleet f).canvas = s.canvas := rfl
@[simp] theorem modFleet_stk (s : State) (f) : (s.modFleet f).stk = s.stk := rfl
@[simp] theorem modFleet_gdl (s : State) (f) : (s.modFleet f).gdl = s.gdl := rfl
@[simp] theorem modFleet_drv (s : State) (f) : (s.modFleet f).drv = s.drv := rfl
@[simp] theorem modFleet_air (s : State) (f) : (s.modFleet f).air = s.air := rfl
@[simp] theorem modFleet_rfb (s : State) (f) : (s.modFleet f).rfb = s.rfb := rfl
@[simp] theorem modFleet_tfc (s : State) (f) : (s.modFleet f).tfc = s.tfc := rfl
@[simp] theorem modFleet_twin (s : State) (f) : (s.modFleet f).twin = s.twin := rfl
@[simp] theorem modFleet_pwr (s : State) (f) : (s.modFleet f).pwr = s.pwr := rfl
@[simp] theorem modFleet_gnss (s : State) (f) : (s.modFleet f).gnss = s.gnss := rfl
@[simp] theorem modFleet_servo (s : State) (f) : (s.modFleet f).servo = s.servo := rfl
@[simp] theorem modFleet_tp (s : State) (f) : (s.modFleet f).tp = s.tp := rfl
@[simp] theorem modFleet_eth (s : State) (f) : (s.modFleet f).eth = s.eth := rfl
@[simp] theorem modFleet_pfo (s : State) (f) : (s.modFleet f).pfo = s.pfo := rfl
@[simp] theorem modFleet_regs (s : State) (f) : (s.modFleet f).regs = s.regs := rfl

/-! `modEpoch` -/

@[simp] theorem modEpoch_pending (s : State) (f) : (s.modEpoch f).pending = s.pending := rfl
@[simp] theorem modEpoch_now (s : State) (f) : (s.modEpoch f).now = s.now := rfl
@[simp] theorem modEpoch_draws (s : State) (f) : (s.modEpoch f).draws = s.draws := rfl
@[simp] theorem modEpoch_ev (s : State) (f) : (s.modEpoch f).ev = s.ev := rfl
@[simp] theorem modEpoch_sec (s : State) (f) : (s.modEpoch f).sec = s.sec := rfl
@[simp] theorem modEpoch_pnt (s : State) (f) : (s.modEpoch f).pnt = s.pnt := rfl
@[simp] theorem modEpoch_palette (s : State) (f) : (s.modEpoch f).palette = s.palette := rfl
@[simp] theorem modEpoch_host (s : State) (f) : (s.modEpoch f).host = s.host := rfl
@[simp] theorem modEpoch_tmb (s : State) (f) : (s.modEpoch f).tmb = s.tmb := rfl
@[simp] theorem modEpoch_fleet (s : State) (f) : (s.modEpoch f).fleet = s.fleet := rfl
@[simp] theorem modEpoch_epoch (s : State) (f) : (s.modEpoch f).epoch = f s.epoch := rfl
@[simp] theorem modEpoch_dsp (s : State) (f) : (s.modEpoch f).dsp = s.dsp := rfl
@[simp] theorem modEpoch_easels (s : State) (f) : (s.modEpoch f).easels = s.easels := rfl
@[simp] theorem modEpoch_atelier (s : State) (f) : (s.modEpoch f).atelier = s.atelier := rfl
@[simp] theorem modEpoch_canvas (s : State) (f) : (s.modEpoch f).canvas = s.canvas := rfl
@[simp] theorem modEpoch_stk (s : State) (f) : (s.modEpoch f).stk = s.stk := rfl
@[simp] theorem modEpoch_gdl (s : State) (f) : (s.modEpoch f).gdl = s.gdl := rfl
@[simp] theorem modEpoch_drv (s : State) (f) : (s.modEpoch f).drv = s.drv := rfl
@[simp] theorem modEpoch_air (s : State) (f) : (s.modEpoch f).air = s.air := rfl
@[simp] theorem modEpoch_rfb (s : State) (f) : (s.modEpoch f).rfb = s.rfb := rfl
@[simp] theorem modEpoch_tfc (s : State) (f) : (s.modEpoch f).tfc = s.tfc := rfl
@[simp] theorem modEpoch_twin (s : State) (f) : (s.modEpoch f).twin = s.twin := rfl
@[simp] theorem modEpoch_pwr (s : State) (f) : (s.modEpoch f).pwr = s.pwr := rfl
@[simp] theorem modEpoch_gnss (s : State) (f) : (s.modEpoch f).gnss = s.gnss := rfl
@[simp] theorem modEpoch_servo (s : State) (f) : (s.modEpoch f).servo = s.servo := rfl
@[simp] theorem modEpoch_tp (s : State) (f) : (s.modEpoch f).tp = s.tp := rfl
@[simp] theorem modEpoch_eth (s : State) (f) : (s.modEpoch f).eth = s.eth := rfl
@[simp] theorem modEpoch_pfo (s : State) (f) : (s.modEpoch f).pfo = s.pfo := rfl
@[simp] theorem modEpoch_regs (s : State) (f) : (s.modEpoch f).regs = s.regs := rfl

/-! `modDsp` -/

@[simp] theorem modDsp_pending (s : State) (f) : (s.modDsp f).pending = s.pending := rfl
@[simp] theorem modDsp_now (s : State) (f) : (s.modDsp f).now = s.now := rfl
@[simp] theorem modDsp_draws (s : State) (f) : (s.modDsp f).draws = s.draws := rfl
@[simp] theorem modDsp_ev (s : State) (f) : (s.modDsp f).ev = s.ev := rfl
@[simp] theorem modDsp_sec (s : State) (f) : (s.modDsp f).sec = s.sec := rfl
@[simp] theorem modDsp_pnt (s : State) (f) : (s.modDsp f).pnt = s.pnt := rfl
@[simp] theorem modDsp_palette (s : State) (f) : (s.modDsp f).palette = s.palette := rfl
@[simp] theorem modDsp_host (s : State) (f) : (s.modDsp f).host = s.host := rfl
@[simp] theorem modDsp_tmb (s : State) (f) : (s.modDsp f).tmb = s.tmb := rfl
@[simp] theorem modDsp_fleet (s : State) (f) : (s.modDsp f).fleet = s.fleet := rfl
@[simp] theorem modDsp_epoch (s : State) (f) : (s.modDsp f).epoch = s.epoch := rfl
@[simp] theorem modDsp_dsp (s : State) (f) : (s.modDsp f).dsp = f s.dsp := rfl
@[simp] theorem modDsp_easels (s : State) (f) : (s.modDsp f).easels = s.easels := rfl
@[simp] theorem modDsp_atelier (s : State) (f) : (s.modDsp f).atelier = s.atelier := rfl
@[simp] theorem modDsp_canvas (s : State) (f) : (s.modDsp f).canvas = s.canvas := rfl
@[simp] theorem modDsp_stk (s : State) (f) : (s.modDsp f).stk = s.stk := rfl
@[simp] theorem modDsp_gdl (s : State) (f) : (s.modDsp f).gdl = s.gdl := rfl
@[simp] theorem modDsp_drv (s : State) (f) : (s.modDsp f).drv = s.drv := rfl
@[simp] theorem modDsp_air (s : State) (f) : (s.modDsp f).air = s.air := rfl
@[simp] theorem modDsp_rfb (s : State) (f) : (s.modDsp f).rfb = s.rfb := rfl
@[simp] theorem modDsp_tfc (s : State) (f) : (s.modDsp f).tfc = s.tfc := rfl
@[simp] theorem modDsp_twin (s : State) (f) : (s.modDsp f).twin = s.twin := rfl
@[simp] theorem modDsp_pwr (s : State) (f) : (s.modDsp f).pwr = s.pwr := rfl
@[simp] theorem modDsp_gnss (s : State) (f) : (s.modDsp f).gnss = s.gnss := rfl
@[simp] theorem modDsp_servo (s : State) (f) : (s.modDsp f).servo = s.servo := rfl
@[simp] theorem modDsp_tp (s : State) (f) : (s.modDsp f).tp = s.tp := rfl
@[simp] theorem modDsp_eth (s : State) (f) : (s.modDsp f).eth = s.eth := rfl
@[simp] theorem modDsp_pfo (s : State) (f) : (s.modDsp f).pfo = s.pfo := rfl
@[simp] theorem modDsp_regs (s : State) (f) : (s.modDsp f).regs = s.regs := rfl

/-! `modAtelier` -/

@[simp] theorem modAtelier_pending (s : State) (f) : (s.modAtelier f).pending = s.pending := rfl
@[simp] theorem modAtelier_now (s : State) (f) : (s.modAtelier f).now = s.now := rfl
@[simp] theorem modAtelier_draws (s : State) (f) : (s.modAtelier f).draws = s.draws := rfl
@[simp] theorem modAtelier_ev (s : State) (f) : (s.modAtelier f).ev = s.ev := rfl
@[simp] theorem modAtelier_sec (s : State) (f) : (s.modAtelier f).sec = s.sec := rfl
@[simp] theorem modAtelier_pnt (s : State) (f) : (s.modAtelier f).pnt = s.pnt := rfl
@[simp] theorem modAtelier_palette (s : State) (f) : (s.modAtelier f).palette = s.palette := rfl
@[simp] theorem modAtelier_host (s : State) (f) : (s.modAtelier f).host = s.host := rfl
@[simp] theorem modAtelier_tmb (s : State) (f) : (s.modAtelier f).tmb = s.tmb := rfl
@[simp] theorem modAtelier_fleet (s : State) (f) : (s.modAtelier f).fleet = s.fleet := rfl
@[simp] theorem modAtelier_epoch (s : State) (f) : (s.modAtelier f).epoch = s.epoch := rfl
@[simp] theorem modAtelier_dsp (s : State) (f) : (s.modAtelier f).dsp = s.dsp := rfl
@[simp] theorem modAtelier_easels (s : State) (f) : (s.modAtelier f).easels = s.easels := rfl
@[simp] theorem modAtelier_atelier (s : State) (f) : (s.modAtelier f).atelier = f s.atelier := rfl
@[simp] theorem modAtelier_canvas (s : State) (f) : (s.modAtelier f).canvas = s.canvas := rfl
@[simp] theorem modAtelier_stk (s : State) (f) : (s.modAtelier f).stk = s.stk := rfl
@[simp] theorem modAtelier_gdl (s : State) (f) : (s.modAtelier f).gdl = s.gdl := rfl
@[simp] theorem modAtelier_drv (s : State) (f) : (s.modAtelier f).drv = s.drv := rfl
@[simp] theorem modAtelier_air (s : State) (f) : (s.modAtelier f).air = s.air := rfl
@[simp] theorem modAtelier_rfb (s : State) (f) : (s.modAtelier f).rfb = s.rfb := rfl
@[simp] theorem modAtelier_tfc (s : State) (f) : (s.modAtelier f).tfc = s.tfc := rfl
@[simp] theorem modAtelier_twin (s : State) (f) : (s.modAtelier f).twin = s.twin := rfl
@[simp] theorem modAtelier_pwr (s : State) (f) : (s.modAtelier f).pwr = s.pwr := rfl
@[simp] theorem modAtelier_gnss (s : State) (f) : (s.modAtelier f).gnss = s.gnss := rfl
@[simp] theorem modAtelier_servo (s : State) (f) : (s.modAtelier f).servo = s.servo := rfl
@[simp] theorem modAtelier_tp (s : State) (f) : (s.modAtelier f).tp = s.tp := rfl
@[simp] theorem modAtelier_eth (s : State) (f) : (s.modAtelier f).eth = s.eth := rfl
@[simp] theorem modAtelier_pfo (s : State) (f) : (s.modAtelier f).pfo = s.pfo := rfl
@[simp] theorem modAtelier_regs (s : State) (f) : (s.modAtelier f).regs = s.regs := rfl

/-! `modCanvas` -/

@[simp] theorem modCanvas_pending (s : State) (f) : (s.modCanvas f).pending = s.pending := rfl
@[simp] theorem modCanvas_now (s : State) (f) : (s.modCanvas f).now = s.now := rfl
@[simp] theorem modCanvas_draws (s : State) (f) : (s.modCanvas f).draws = s.draws := rfl
@[simp] theorem modCanvas_ev (s : State) (f) : (s.modCanvas f).ev = s.ev := rfl
@[simp] theorem modCanvas_sec (s : State) (f) : (s.modCanvas f).sec = s.sec := rfl
@[simp] theorem modCanvas_pnt (s : State) (f) : (s.modCanvas f).pnt = s.pnt := rfl
@[simp] theorem modCanvas_palette (s : State) (f) : (s.modCanvas f).palette = s.palette := rfl
@[simp] theorem modCanvas_host (s : State) (f) : (s.modCanvas f).host = s.host := rfl
@[simp] theorem modCanvas_tmb (s : State) (f) : (s.modCanvas f).tmb = s.tmb := rfl
@[simp] theorem modCanvas_fleet (s : State) (f) : (s.modCanvas f).fleet = s.fleet := rfl
@[simp] theorem modCanvas_epoch (s : State) (f) : (s.modCanvas f).epoch = s.epoch := rfl
@[simp] theorem modCanvas_dsp (s : State) (f) : (s.modCanvas f).dsp = s.dsp := rfl
@[simp] theorem modCanvas_easels (s : State) (f) : (s.modCanvas f).easels = s.easels := rfl
@[simp] theorem modCanvas_atelier (s : State) (f) : (s.modCanvas f).atelier = s.atelier := rfl
@[simp] theorem modCanvas_canvas (s : State) (f) : (s.modCanvas f).canvas = f s.canvas := rfl
@[simp] theorem modCanvas_stk (s : State) (f) : (s.modCanvas f).stk = s.stk := rfl
@[simp] theorem modCanvas_gdl (s : State) (f) : (s.modCanvas f).gdl = s.gdl := rfl
@[simp] theorem modCanvas_drv (s : State) (f) : (s.modCanvas f).drv = s.drv := rfl
@[simp] theorem modCanvas_air (s : State) (f) : (s.modCanvas f).air = s.air := rfl
@[simp] theorem modCanvas_rfb (s : State) (f) : (s.modCanvas f).rfb = s.rfb := rfl
@[simp] theorem modCanvas_tfc (s : State) (f) : (s.modCanvas f).tfc = s.tfc := rfl
@[simp] theorem modCanvas_twin (s : State) (f) : (s.modCanvas f).twin = s.twin := rfl
@[simp] theorem modCanvas_pwr (s : State) (f) : (s.modCanvas f).pwr = s.pwr := rfl
@[simp] theorem modCanvas_gnss (s : State) (f) : (s.modCanvas f).gnss = s.gnss := rfl
@[simp] theorem modCanvas_servo (s : State) (f) : (s.modCanvas f).servo = s.servo := rfl
@[simp] theorem modCanvas_tp (s : State) (f) : (s.modCanvas f).tp = s.tp := rfl
@[simp] theorem modCanvas_eth (s : State) (f) : (s.modCanvas f).eth = s.eth := rfl
@[simp] theorem modCanvas_pfo (s : State) (f) : (s.modCanvas f).pfo = s.pfo := rfl
@[simp] theorem modCanvas_regs (s : State) (f) : (s.modCanvas f).regs = s.regs := rfl

/-! `modStk` -/

@[simp] theorem modStk_pending (s : State) (f) : (s.modStk f).pending = s.pending := rfl
@[simp] theorem modStk_now (s : State) (f) : (s.modStk f).now = s.now := rfl
@[simp] theorem modStk_draws (s : State) (f) : (s.modStk f).draws = s.draws := rfl
@[simp] theorem modStk_ev (s : State) (f) : (s.modStk f).ev = s.ev := rfl
@[simp] theorem modStk_sec (s : State) (f) : (s.modStk f).sec = s.sec := rfl
@[simp] theorem modStk_pnt (s : State) (f) : (s.modStk f).pnt = s.pnt := rfl
@[simp] theorem modStk_palette (s : State) (f) : (s.modStk f).palette = s.palette := rfl
@[simp] theorem modStk_host (s : State) (f) : (s.modStk f).host = s.host := rfl
@[simp] theorem modStk_tmb (s : State) (f) : (s.modStk f).tmb = s.tmb := rfl
@[simp] theorem modStk_fleet (s : State) (f) : (s.modStk f).fleet = s.fleet := rfl
@[simp] theorem modStk_epoch (s : State) (f) : (s.modStk f).epoch = s.epoch := rfl
@[simp] theorem modStk_dsp (s : State) (f) : (s.modStk f).dsp = s.dsp := rfl
@[simp] theorem modStk_easels (s : State) (f) : (s.modStk f).easels = s.easels := rfl
@[simp] theorem modStk_atelier (s : State) (f) : (s.modStk f).atelier = s.atelier := rfl
@[simp] theorem modStk_canvas (s : State) (f) : (s.modStk f).canvas = s.canvas := rfl
@[simp] theorem modStk_stk (s : State) (f) : (s.modStk f).stk = f s.stk := rfl
@[simp] theorem modStk_gdl (s : State) (f) : (s.modStk f).gdl = s.gdl := rfl
@[simp] theorem modStk_drv (s : State) (f) : (s.modStk f).drv = s.drv := rfl
@[simp] theorem modStk_air (s : State) (f) : (s.modStk f).air = s.air := rfl
@[simp] theorem modStk_rfb (s : State) (f) : (s.modStk f).rfb = s.rfb := rfl
@[simp] theorem modStk_tfc (s : State) (f) : (s.modStk f).tfc = s.tfc := rfl
@[simp] theorem modStk_twin (s : State) (f) : (s.modStk f).twin = s.twin := rfl
@[simp] theorem modStk_pwr (s : State) (f) : (s.modStk f).pwr = s.pwr := rfl
@[simp] theorem modStk_gnss (s : State) (f) : (s.modStk f).gnss = s.gnss := rfl
@[simp] theorem modStk_servo (s : State) (f) : (s.modStk f).servo = s.servo := rfl
@[simp] theorem modStk_tp (s : State) (f) : (s.modStk f).tp = s.tp := rfl
@[simp] theorem modStk_eth (s : State) (f) : (s.modStk f).eth = s.eth := rfl
@[simp] theorem modStk_pfo (s : State) (f) : (s.modStk f).pfo = s.pfo := rfl
@[simp] theorem modStk_regs (s : State) (f) : (s.modStk f).regs = s.regs := rfl

/-! `modGdl` -/

@[simp] theorem modGdl_pending (s : State) (f) : (s.modGdl f).pending = s.pending := rfl
@[simp] theorem modGdl_now (s : State) (f) : (s.modGdl f).now = s.now := rfl
@[simp] theorem modGdl_draws (s : State) (f) : (s.modGdl f).draws = s.draws := rfl
@[simp] theorem modGdl_ev (s : State) (f) : (s.modGdl f).ev = s.ev := rfl
@[simp] theorem modGdl_sec (s : State) (f) : (s.modGdl f).sec = s.sec := rfl
@[simp] theorem modGdl_pnt (s : State) (f) : (s.modGdl f).pnt = s.pnt := rfl
@[simp] theorem modGdl_palette (s : State) (f) : (s.modGdl f).palette = s.palette := rfl
@[simp] theorem modGdl_host (s : State) (f) : (s.modGdl f).host = s.host := rfl
@[simp] theorem modGdl_tmb (s : State) (f) : (s.modGdl f).tmb = s.tmb := rfl
@[simp] theorem modGdl_fleet (s : State) (f) : (s.modGdl f).fleet = s.fleet := rfl
@[simp] theorem modGdl_epoch (s : State) (f) : (s.modGdl f).epoch = s.epoch := rfl
@[simp] theorem modGdl_dsp (s : State) (f) : (s.modGdl f).dsp = s.dsp := rfl
@[simp] theorem modGdl_easels (s : State) (f) : (s.modGdl f).easels = s.easels := rfl
@[simp] theorem modGdl_atelier (s : State) (f) : (s.modGdl f).atelier = s.atelier := rfl
@[simp] theorem modGdl_canvas (s : State) (f) : (s.modGdl f).canvas = s.canvas := rfl
@[simp] theorem modGdl_stk (s : State) (f) : (s.modGdl f).stk = s.stk := rfl
@[simp] theorem modGdl_gdl (s : State) (f) : (s.modGdl f).gdl = f s.gdl := rfl
@[simp] theorem modGdl_drv (s : State) (f) : (s.modGdl f).drv = s.drv := rfl
@[simp] theorem modGdl_air (s : State) (f) : (s.modGdl f).air = s.air := rfl
@[simp] theorem modGdl_rfb (s : State) (f) : (s.modGdl f).rfb = s.rfb := rfl
@[simp] theorem modGdl_tfc (s : State) (f) : (s.modGdl f).tfc = s.tfc := rfl
@[simp] theorem modGdl_twin (s : State) (f) : (s.modGdl f).twin = s.twin := rfl
@[simp] theorem modGdl_pwr (s : State) (f) : (s.modGdl f).pwr = s.pwr := rfl
@[simp] theorem modGdl_gnss (s : State) (f) : (s.modGdl f).gnss = s.gnss := rfl
@[simp] theorem modGdl_servo (s : State) (f) : (s.modGdl f).servo = s.servo := rfl
@[simp] theorem modGdl_tp (s : State) (f) : (s.modGdl f).tp = s.tp := rfl
@[simp] theorem modGdl_eth (s : State) (f) : (s.modGdl f).eth = s.eth := rfl
@[simp] theorem modGdl_pfo (s : State) (f) : (s.modGdl f).pfo = s.pfo := rfl
@[simp] theorem modGdl_regs (s : State) (f) : (s.modGdl f).regs = s.regs := rfl

/-! `modDrv` -/

@[simp] theorem modDrv_pending (s : State) (f) : (s.modDrv f).pending = s.pending := rfl
@[simp] theorem modDrv_now (s : State) (f) : (s.modDrv f).now = s.now := rfl
@[simp] theorem modDrv_draws (s : State) (f) : (s.modDrv f).draws = s.draws := rfl
@[simp] theorem modDrv_ev (s : State) (f) : (s.modDrv f).ev = s.ev := rfl
@[simp] theorem modDrv_sec (s : State) (f) : (s.modDrv f).sec = s.sec := rfl
@[simp] theorem modDrv_pnt (s : State) (f) : (s.modDrv f).pnt = s.pnt := rfl
@[simp] theorem modDrv_palette (s : State) (f) : (s.modDrv f).palette = s.palette := rfl
@[simp] theorem modDrv_host (s : State) (f) : (s.modDrv f).host = s.host := rfl
@[simp] theorem modDrv_tmb (s : State) (f) : (s.modDrv f).tmb = s.tmb := rfl
@[simp] theorem modDrv_fleet (s : State) (f) : (s.modDrv f).fleet = s.fleet := rfl
@[simp] theorem modDrv_epoch (s : State) (f) : (s.modDrv f).epoch = s.epoch := rfl
@[simp] theorem modDrv_dsp (s : State) (f) : (s.modDrv f).dsp = s.dsp := rfl
@[simp] theorem modDrv_easels (s : State) (f) : (s.modDrv f).easels = s.easels := rfl
@[simp] theorem modDrv_atelier (s : State) (f) : (s.modDrv f).atelier = s.atelier := rfl
@[simp] theorem modDrv_canvas (s : State) (f) : (s.modDrv f).canvas = s.canvas := rfl
@[simp] theorem modDrv_stk (s : State) (f) : (s.modDrv f).stk = s.stk := rfl
@[simp] theorem modDrv_gdl (s : State) (f) : (s.modDrv f).gdl = s.gdl := rfl
@[simp] theorem modDrv_drv (s : State) (f) : (s.modDrv f).drv = f s.drv := rfl
@[simp] theorem modDrv_air (s : State) (f) : (s.modDrv f).air = s.air := rfl
@[simp] theorem modDrv_rfb (s : State) (f) : (s.modDrv f).rfb = s.rfb := rfl
@[simp] theorem modDrv_tfc (s : State) (f) : (s.modDrv f).tfc = s.tfc := rfl
@[simp] theorem modDrv_twin (s : State) (f) : (s.modDrv f).twin = s.twin := rfl
@[simp] theorem modDrv_pwr (s : State) (f) : (s.modDrv f).pwr = s.pwr := rfl
@[simp] theorem modDrv_gnss (s : State) (f) : (s.modDrv f).gnss = s.gnss := rfl
@[simp] theorem modDrv_servo (s : State) (f) : (s.modDrv f).servo = s.servo := rfl
@[simp] theorem modDrv_tp (s : State) (f) : (s.modDrv f).tp = s.tp := rfl
@[simp] theorem modDrv_eth (s : State) (f) : (s.modDrv f).eth = s.eth := rfl
@[simp] theorem modDrv_pfo (s : State) (f) : (s.modDrv f).pfo = s.pfo := rfl
@[simp] theorem modDrv_regs (s : State) (f) : (s.modDrv f).regs = s.regs := rfl

/-! `modAir` -/

@[simp] theorem modAir_pending (s : State) (f) : (s.modAir f).pending = s.pending := rfl
@[simp] theorem modAir_now (s : State) (f) : (s.modAir f).now = s.now := rfl
@[simp] theorem modAir_draws (s : State) (f) : (s.modAir f).draws = s.draws := rfl
@[simp] theorem modAir_ev (s : State) (f) : (s.modAir f).ev = s.ev := rfl
@[simp] theorem modAir_sec (s : State) (f) : (s.modAir f).sec = s.sec := rfl
@[simp] theorem modAir_pnt (s : State) (f) : (s.modAir f).pnt = s.pnt := rfl
@[simp] theorem modAir_palette (s : State) (f) : (s.modAir f).palette = s.palette := rfl
@[simp] theorem modAir_host (s : State) (f) : (s.modAir f).host = s.host := rfl
@[simp] theorem modAir_tmb (s : State) (f) : (s.modAir f).tmb = s.tmb := rfl
@[simp] theorem modAir_fleet (s : State) (f) : (s.modAir f).fleet = s.fleet := rfl
@[simp] theorem modAir_epoch (s : State) (f) : (s.modAir f).epoch = s.epoch := rfl
@[simp] theorem modAir_dsp (s : State) (f) : (s.modAir f).dsp = s.dsp := rfl
@[simp] theorem modAir_easels (s : State) (f) : (s.modAir f).easels = s.easels := rfl
@[simp] theorem modAir_atelier (s : State) (f) : (s.modAir f).atelier = s.atelier := rfl
@[simp] theorem modAir_canvas (s : State) (f) : (s.modAir f).canvas = s.canvas := rfl
@[simp] theorem modAir_stk (s : State) (f) : (s.modAir f).stk = s.stk := rfl
@[simp] theorem modAir_gdl (s : State) (f) : (s.modAir f).gdl = s.gdl := rfl
@[simp] theorem modAir_drv (s : State) (f) : (s.modAir f).drv = s.drv := rfl
@[simp] theorem modAir_air (s : State) (f) : (s.modAir f).air = f s.air := rfl
@[simp] theorem modAir_rfb (s : State) (f) : (s.modAir f).rfb = s.rfb := rfl
@[simp] theorem modAir_tfc (s : State) (f) : (s.modAir f).tfc = s.tfc := rfl
@[simp] theorem modAir_twin (s : State) (f) : (s.modAir f).twin = s.twin := rfl
@[simp] theorem modAir_pwr (s : State) (f) : (s.modAir f).pwr = s.pwr := rfl
@[simp] theorem modAir_gnss (s : State) (f) : (s.modAir f).gnss = s.gnss := rfl
@[simp] theorem modAir_servo (s : State) (f) : (s.modAir f).servo = s.servo := rfl
@[simp] theorem modAir_tp (s : State) (f) : (s.modAir f).tp = s.tp := rfl
@[simp] theorem modAir_eth (s : State) (f) : (s.modAir f).eth = s.eth := rfl
@[simp] theorem modAir_pfo (s : State) (f) : (s.modAir f).pfo = s.pfo := rfl
@[simp] theorem modAir_regs (s : State) (f) : (s.modAir f).regs = s.regs := rfl

/-! `modRfb` -/

@[simp] theorem modRfb_pending (s : State) (f) : (s.modRfb f).pending = s.pending := rfl
@[simp] theorem modRfb_now (s : State) (f) : (s.modRfb f).now = s.now := rfl
@[simp] theorem modRfb_draws (s : State) (f) : (s.modRfb f).draws = s.draws := rfl
@[simp] theorem modRfb_ev (s : State) (f) : (s.modRfb f).ev = s.ev := rfl
@[simp] theorem modRfb_sec (s : State) (f) : (s.modRfb f).sec = s.sec := rfl
@[simp] theorem modRfb_pnt (s : State) (f) : (s.modRfb f).pnt = s.pnt := rfl
@[simp] theorem modRfb_palette (s : State) (f) : (s.modRfb f).palette = s.palette := rfl
@[simp] theorem modRfb_host (s : State) (f) : (s.modRfb f).host = s.host := rfl
@[simp] theorem modRfb_tmb (s : State) (f) : (s.modRfb f).tmb = s.tmb := rfl
@[simp] theorem modRfb_fleet (s : State) (f) : (s.modRfb f).fleet = s.fleet := rfl
@[simp] theorem modRfb_epoch (s : State) (f) : (s.modRfb f).epoch = s.epoch := rfl
@[simp] theorem modRfb_dsp (s : State) (f) : (s.modRfb f).dsp = s.dsp := rfl
@[simp] theorem modRfb_easels (s : State) (f) : (s.modRfb f).easels = s.easels := rfl
@[simp] theorem modRfb_atelier (s : State) (f) : (s.modRfb f).atelier = s.atelier := rfl
@[simp] theorem modRfb_canvas (s : State) (f) : (s.modRfb f).canvas = s.canvas := rfl
@[simp] theorem modRfb_stk (s : State) (f) : (s.modRfb f).stk = s.stk := rfl
@[simp] theorem modRfb_gdl (s : State) (f) : (s.modRfb f).gdl = s.gdl := rfl
@[simp] theorem modRfb_drv (s : State) (f) : (s.modRfb f).drv = s.drv := rfl
@[simp] theorem modRfb_air (s : State) (f) : (s.modRfb f).air = s.air := rfl
@[simp] theorem modRfb_rfb (s : State) (f) : (s.modRfb f).rfb = f s.rfb := rfl
@[simp] theorem modRfb_tfc (s : State) (f) : (s.modRfb f).tfc = s.tfc := rfl
@[simp] theorem modRfb_twin (s : State) (f) : (s.modRfb f).twin = s.twin := rfl
@[simp] theorem modRfb_pwr (s : State) (f) : (s.modRfb f).pwr = s.pwr := rfl
@[simp] theorem modRfb_gnss (s : State) (f) : (s.modRfb f).gnss = s.gnss := rfl
@[simp] theorem modRfb_servo (s : State) (f) : (s.modRfb f).servo = s.servo := rfl
@[simp] theorem modRfb_tp (s : State) (f) : (s.modRfb f).tp = s.tp := rfl
@[simp] theorem modRfb_eth (s : State) (f) : (s.modRfb f).eth = s.eth := rfl
@[simp] theorem modRfb_pfo (s : State) (f) : (s.modRfb f).pfo = s.pfo := rfl
@[simp] theorem modRfb_regs (s : State) (f) : (s.modRfb f).regs = s.regs := rfl

/-! `modTfc` -/

@[simp] theorem modTfc_pending (s : State) (f) : (s.modTfc f).pending = s.pending := rfl
@[simp] theorem modTfc_now (s : State) (f) : (s.modTfc f).now = s.now := rfl
@[simp] theorem modTfc_draws (s : State) (f) : (s.modTfc f).draws = s.draws := rfl
@[simp] theorem modTfc_ev (s : State) (f) : (s.modTfc f).ev = s.ev := rfl
@[simp] theorem modTfc_sec (s : State) (f) : (s.modTfc f).sec = s.sec := rfl
@[simp] theorem modTfc_pnt (s : State) (f) : (s.modTfc f).pnt = s.pnt := rfl
@[simp] theorem modTfc_palette (s : State) (f) : (s.modTfc f).palette = s.palette := rfl
@[simp] theorem modTfc_host (s : State) (f) : (s.modTfc f).host = s.host := rfl
@[simp] theorem modTfc_tmb (s : State) (f) : (s.modTfc f).tmb = s.tmb := rfl
@[simp] theorem modTfc_fleet (s : State) (f) : (s.modTfc f).fleet = s.fleet := rfl
@[simp] theorem modTfc_epoch (s : State) (f) : (s.modTfc f).epoch = s.epoch := rfl
@[simp] theorem modTfc_dsp (s : State) (f) : (s.modTfc f).dsp = s.dsp := rfl
@[simp] theorem modTfc_easels (s : State) (f) : (s.modTfc f).easels = s.easels := rfl
@[simp] theorem modTfc_atelier (s : State) (f) : (s.modTfc f).atelier = s.atelier := rfl
@[simp] theorem modTfc_canvas (s : State) (f) : (s.modTfc f).canvas = s.canvas := rfl
@[simp] theorem modTfc_stk (s : State) (f) : (s.modTfc f).stk = s.stk := rfl
@[simp] theorem modTfc_gdl (s : State) (f) : (s.modTfc f).gdl = s.gdl := rfl
@[simp] theorem modTfc_drv (s : State) (f) : (s.modTfc f).drv = s.drv := rfl
@[simp] theorem modTfc_air (s : State) (f) : (s.modTfc f).air = s.air := rfl
@[simp] theorem modTfc_rfb (s : State) (f) : (s.modTfc f).rfb = s.rfb := rfl
@[simp] theorem modTfc_tfc (s : State) (f) : (s.modTfc f).tfc = f s.tfc := rfl
@[simp] theorem modTfc_twin (s : State) (f) : (s.modTfc f).twin = s.twin := rfl
@[simp] theorem modTfc_pwr (s : State) (f) : (s.modTfc f).pwr = s.pwr := rfl
@[simp] theorem modTfc_gnss (s : State) (f) : (s.modTfc f).gnss = s.gnss := rfl
@[simp] theorem modTfc_servo (s : State) (f) : (s.modTfc f).servo = s.servo := rfl
@[simp] theorem modTfc_tp (s : State) (f) : (s.modTfc f).tp = s.tp := rfl
@[simp] theorem modTfc_eth (s : State) (f) : (s.modTfc f).eth = s.eth := rfl
@[simp] theorem modTfc_pfo (s : State) (f) : (s.modTfc f).pfo = s.pfo := rfl
@[simp] theorem modTfc_regs (s : State) (f) : (s.modTfc f).regs = s.regs := rfl

/-! `modTwin` -/

@[simp] theorem modTwin_pending (s : State) (f) : (s.modTwin f).pending = s.pending := rfl
@[simp] theorem modTwin_now (s : State) (f) : (s.modTwin f).now = s.now := rfl
@[simp] theorem modTwin_draws (s : State) (f) : (s.modTwin f).draws = s.draws := rfl
@[simp] theorem modTwin_ev (s : State) (f) : (s.modTwin f).ev = s.ev := rfl
@[simp] theorem modTwin_sec (s : State) (f) : (s.modTwin f).sec = s.sec := rfl
@[simp] theorem modTwin_pnt (s : State) (f) : (s.modTwin f).pnt = s.pnt := rfl
@[simp] theorem modTwin_palette (s : State) (f) : (s.modTwin f).palette = s.palette := rfl
@[simp] theorem modTwin_host (s : State) (f) : (s.modTwin f).host = s.host := rfl
@[simp] theorem modTwin_tmb (s : State) (f) : (s.modTwin f).tmb = s.tmb := rfl
@[simp] theorem modTwin_fleet (s : State) (f) : (s.modTwin f).fleet = s.fleet := rfl
@[simp] theorem modTwin_epoch (s : State) (f) : (s.modTwin f).epoch = s.epoch := rfl
@[simp] theorem modTwin_dsp (s : State) (f) : (s.modTwin f).dsp = s.dsp := rfl
@[simp] theorem modTwin_easels (s : State) (f) : (s.modTwin f).easels = s.easels := rfl
@[simp] theorem modTwin_atelier (s : State) (f) : (s.modTwin f).atelier = s.atelier := rfl
@[simp] theorem modTwin_canvas (s : State) (f) : (s.modTwin f).canvas = s.canvas := rfl
@[simp] theorem modTwin_stk (s : State) (f) : (s.modTwin f).stk = s.stk := rfl
@[simp] theorem modTwin_gdl (s : State) (f) : (s.modTwin f).gdl = s.gdl := rfl
@[simp] theorem modTwin_drv (s : State) (f) : (s.modTwin f).drv = s.drv := rfl
@[simp] theorem modTwin_air (s : State) (f) : (s.modTwin f).air = s.air := rfl
@[simp] theorem modTwin_rfb (s : State) (f) : (s.modTwin f).rfb = s.rfb := rfl
@[simp] theorem modTwin_tfc (s : State) (f) : (s.modTwin f).tfc = s.tfc := rfl
@[simp] theorem modTwin_twin (s : State) (f) : (s.modTwin f).twin = f s.twin := rfl
@[simp] theorem modTwin_pwr (s : State) (f) : (s.modTwin f).pwr = s.pwr := rfl
@[simp] theorem modTwin_gnss (s : State) (f) : (s.modTwin f).gnss = s.gnss := rfl
@[simp] theorem modTwin_servo (s : State) (f) : (s.modTwin f).servo = s.servo := rfl
@[simp] theorem modTwin_tp (s : State) (f) : (s.modTwin f).tp = s.tp := rfl
@[simp] theorem modTwin_eth (s : State) (f) : (s.modTwin f).eth = s.eth := rfl
@[simp] theorem modTwin_pfo (s : State) (f) : (s.modTwin f).pfo = s.pfo := rfl
@[simp] theorem modTwin_regs (s : State) (f) : (s.modTwin f).regs = s.regs := rfl

/-! `modPwr` -/

@[simp] theorem modPwr_pending (s : State) (f) : (s.modPwr f).pending = s.pending := rfl
@[simp] theorem modPwr_now (s : State) (f) : (s.modPwr f).now = s.now := rfl
@[simp] theorem modPwr_draws (s : State) (f) : (s.modPwr f).draws = s.draws := rfl
@[simp] theorem modPwr_ev (s : State) (f) : (s.modPwr f).ev = s.ev := rfl
@[simp] theorem modPwr_sec (s : State) (f) : (s.modPwr f).sec = s.sec := rfl
@[simp] theorem modPwr_pnt (s : State) (f) : (s.modPwr f).pnt = s.pnt := rfl
@[simp] theorem modPwr_palette (s : State) (f) : (s.modPwr f).palette = s.palette := rfl
@[simp] theorem modPwr_host (s : State) (f) : (s.modPwr f).host = s.host := rfl
@[simp] theorem modPwr_tmb (s : State) (f) : (s.modPwr f).tmb = s.tmb := rfl
@[simp] theorem modPwr_fleet (s : State) (f) : (s.modPwr f).fleet = s.fleet := rfl
@[simp] theorem modPwr_epoch (s : State) (f) : (s.modPwr f).epoch = s.epoch := rfl
@[simp] theorem modPwr_dsp (s : State) (f) : (s.modPwr f).dsp = s.dsp := rfl
@[simp] theorem modPwr_easels (s : State) (f) : (s.modPwr f).easels = s.easels := rfl
@[simp] theorem modPwr_atelier (s : State) (f) : (s.modPwr f).atelier = s.atelier := rfl
@[simp] theorem modPwr_canvas (s : State) (f) : (s.modPwr f).canvas = s.canvas := rfl
@[simp] theorem modPwr_stk (s : State) (f) : (s.modPwr f).stk = s.stk := rfl
@[simp] theorem modPwr_gdl (s : State) (f) : (s.modPwr f).gdl = s.gdl := rfl
@[simp] theorem modPwr_drv (s : State) (f) : (s.modPwr f).drv = s.drv := rfl
@[simp] theorem modPwr_air (s : State) (f) : (s.modPwr f).air = s.air := rfl
@[simp] theorem modPwr_rfb (s : State) (f) : (s.modPwr f).rfb = s.rfb := rfl
@[simp] theorem modPwr_tfc (s : State) (f) : (s.modPwr f).tfc = s.tfc := rfl
@[simp] theorem modPwr_twin (s : State) (f) : (s.modPwr f).twin = s.twin := rfl
@[simp] theorem modPwr_pwr (s : State) (f) : (s.modPwr f).pwr = f s.pwr := rfl
@[simp] theorem modPwr_gnss (s : State) (f) : (s.modPwr f).gnss = s.gnss := rfl
@[simp] theorem modPwr_servo (s : State) (f) : (s.modPwr f).servo = s.servo := rfl
@[simp] theorem modPwr_tp (s : State) (f) : (s.modPwr f).tp = s.tp := rfl
@[simp] theorem modPwr_eth (s : State) (f) : (s.modPwr f).eth = s.eth := rfl
@[simp] theorem modPwr_pfo (s : State) (f) : (s.modPwr f).pfo = s.pfo := rfl
@[simp] theorem modPwr_regs (s : State) (f) : (s.modPwr f).regs = s.regs := rfl

/-! `modGnss` -/

@[simp] theorem modGnss_pending (s : State) (f) : (s.modGnss f).pending = s.pending := rfl
@[simp] theorem modGnss_now (s : State) (f) : (s.modGnss f).now = s.now := rfl
@[simp] theorem modGnss_draws (s : State) (f) : (s.modGnss f).draws = s.draws := rfl
@[simp] theorem modGnss_ev (s : State) (f) : (s.modGnss f).ev = s.ev := rfl
@[simp] theorem modGnss_sec (s : State) (f) : (s.modGnss f).sec = s.sec := rfl
@[simp] theorem modGnss_pnt (s : State) (f) : (s.modGnss f).pnt = s.pnt := rfl
@[simp] theorem modGnss_palette (s : State) (f) : (s.modGnss f).palette = s.palette := rfl
@[simp] theorem modGnss_host (s : State) (f) : (s.modGnss f).host = s.host := rfl
@[simp] theorem modGnss_tmb (s : State) (f) : (s.modGnss f).tmb = s.tmb := rfl
@[simp] theorem modGnss_fleet (s : State) (f) : (s.modGnss f).fleet = s.fleet := rfl
@[simp] theorem modGnss_epoch (s : State) (f) : (s.modGnss f).epoch = s.epoch := rfl
@[simp] theorem modGnss_dsp (s : State) (f) : (s.modGnss f).dsp = s.dsp := rfl
@[simp] theorem modGnss_easels (s : State) (f) : (s.modGnss f).easels = s.easels := rfl
@[simp] theorem modGnss_atelier (s : State) (f) : (s.modGnss f).atelier = s.atelier := rfl
@[simp] theorem modGnss_canvas (s : State) (f) : (s.modGnss f).canvas = s.canvas := rfl
@[simp] theorem modGnss_stk (s : State) (f) : (s.modGnss f).stk = s.stk := rfl
@[simp] theorem modGnss_gdl (s : State) (f) : (s.modGnss f).gdl = s.gdl := rfl
@[simp] theorem modGnss_drv (s : State) (f) : (s.modGnss f).drv = s.drv := rfl
@[simp] theorem modGnss_air (s : State) (f) : (s.modGnss f).air = s.air := rfl
@[simp] theorem modGnss_rfb (s : State) (f) : (s.modGnss f).rfb = s.rfb := rfl
@[simp] theorem modGnss_tfc (s : State) (f) : (s.modGnss f).tfc = s.tfc := rfl
@[simp] theorem modGnss_twin (s : State) (f) : (s.modGnss f).twin = s.twin := rfl
@[simp] theorem modGnss_pwr (s : State) (f) : (s.modGnss f).pwr = s.pwr := rfl
@[simp] theorem modGnss_gnss (s : State) (f) : (s.modGnss f).gnss = f s.gnss := rfl
@[simp] theorem modGnss_servo (s : State) (f) : (s.modGnss f).servo = s.servo := rfl
@[simp] theorem modGnss_tp (s : State) (f) : (s.modGnss f).tp = s.tp := rfl
@[simp] theorem modGnss_eth (s : State) (f) : (s.modGnss f).eth = s.eth := rfl
@[simp] theorem modGnss_pfo (s : State) (f) : (s.modGnss f).pfo = s.pfo := rfl
@[simp] theorem modGnss_regs (s : State) (f) : (s.modGnss f).regs = s.regs := rfl

/-! `modServo` -/

@[simp] theorem modServo_pending (s : State) (f) : (s.modServo f).pending = s.pending := rfl
@[simp] theorem modServo_now (s : State) (f) : (s.modServo f).now = s.now := rfl
@[simp] theorem modServo_draws (s : State) (f) : (s.modServo f).draws = s.draws := rfl
@[simp] theorem modServo_ev (s : State) (f) : (s.modServo f).ev = s.ev := rfl
@[simp] theorem modServo_sec (s : State) (f) : (s.modServo f).sec = s.sec := rfl
@[simp] theorem modServo_pnt (s : State) (f) : (s.modServo f).pnt = s.pnt := rfl
@[simp] theorem modServo_palette (s : State) (f) : (s.modServo f).palette = s.palette := rfl
@[simp] theorem modServo_host (s : State) (f) : (s.modServo f).host = s.host := rfl
@[simp] theorem modServo_tmb (s : State) (f) : (s.modServo f).tmb = s.tmb := rfl
@[simp] theorem modServo_fleet (s : State) (f) : (s.modServo f).fleet = s.fleet := rfl
@[simp] theorem modServo_epoch (s : State) (f) : (s.modServo f).epoch = s.epoch := rfl
@[simp] theorem modServo_dsp (s : State) (f) : (s.modServo f).dsp = s.dsp := rfl
@[simp] theorem modServo_easels (s : State) (f) : (s.modServo f).easels = s.easels := rfl
@[simp] theorem modServo_atelier (s : State) (f) : (s.modServo f).atelier = s.atelier := rfl
@[simp] theorem modServo_canvas (s : State) (f) : (s.modServo f).canvas = s.canvas := rfl
@[simp] theorem modServo_stk (s : State) (f) : (s.modServo f).stk = s.stk := rfl
@[simp] theorem modServo_gdl (s : State) (f) : (s.modServo f).gdl = s.gdl := rfl
@[simp] theorem modServo_drv (s : State) (f) : (s.modServo f).drv = s.drv := rfl
@[simp] theorem modServo_air (s : State) (f) : (s.modServo f).air = s.air := rfl
@[simp] theorem modServo_rfb (s : State) (f) : (s.modServo f).rfb = s.rfb := rfl
@[simp] theorem modServo_tfc (s : State) (f) : (s.modServo f).tfc = s.tfc := rfl
@[simp] theorem modServo_twin (s : State) (f) : (s.modServo f).twin = s.twin := rfl
@[simp] theorem modServo_pwr (s : State) (f) : (s.modServo f).pwr = s.pwr := rfl
@[simp] theorem modServo_gnss (s : State) (f) : (s.modServo f).gnss = s.gnss := rfl
@[simp] theorem modServo_servo (s : State) (f) : (s.modServo f).servo = f s.servo := rfl
@[simp] theorem modServo_tp (s : State) (f) : (s.modServo f).tp = s.tp := rfl
@[simp] theorem modServo_eth (s : State) (f) : (s.modServo f).eth = s.eth := rfl
@[simp] theorem modServo_pfo (s : State) (f) : (s.modServo f).pfo = s.pfo := rfl
@[simp] theorem modServo_regs (s : State) (f) : (s.modServo f).regs = s.regs := rfl

/-! `modTp` -/

@[simp] theorem modTp_pending (s : State) (f) : (s.modTp f).pending = s.pending := rfl
@[simp] theorem modTp_now (s : State) (f) : (s.modTp f).now = s.now := rfl
@[simp] theorem modTp_draws (s : State) (f) : (s.modTp f).draws = s.draws := rfl
@[simp] theorem modTp_ev (s : State) (f) : (s.modTp f).ev = s.ev := rfl
@[simp] theorem modTp_sec (s : State) (f) : (s.modTp f).sec = s.sec := rfl
@[simp] theorem modTp_pnt (s : State) (f) : (s.modTp f).pnt = s.pnt := rfl
@[simp] theorem modTp_palette (s : State) (f) : (s.modTp f).palette = s.palette := rfl
@[simp] theorem modTp_host (s : State) (f) : (s.modTp f).host = s.host := rfl
@[simp] theorem modTp_tmb (s : State) (f) : (s.modTp f).tmb = s.tmb := rfl
@[simp] theorem modTp_fleet (s : State) (f) : (s.modTp f).fleet = s.fleet := rfl
@[simp] theorem modTp_epoch (s : State) (f) : (s.modTp f).epoch = s.epoch := rfl
@[simp] theorem modTp_dsp (s : State) (f) : (s.modTp f).dsp = s.dsp := rfl
@[simp] theorem modTp_easels (s : State) (f) : (s.modTp f).easels = s.easels := rfl
@[simp] theorem modTp_atelier (s : State) (f) : (s.modTp f).atelier = s.atelier := rfl
@[simp] theorem modTp_canvas (s : State) (f) : (s.modTp f).canvas = s.canvas := rfl
@[simp] theorem modTp_stk (s : State) (f) : (s.modTp f).stk = s.stk := rfl
@[simp] theorem modTp_gdl (s : State) (f) : (s.modTp f).gdl = s.gdl := rfl
@[simp] theorem modTp_drv (s : State) (f) : (s.modTp f).drv = s.drv := rfl
@[simp] theorem modTp_air (s : State) (f) : (s.modTp f).air = s.air := rfl
@[simp] theorem modTp_rfb (s : State) (f) : (s.modTp f).rfb = s.rfb := rfl
@[simp] theorem modTp_tfc (s : State) (f) : (s.modTp f).tfc = s.tfc := rfl
@[simp] theorem modTp_twin (s : State) (f) : (s.modTp f).twin = s.twin := rfl
@[simp] theorem modTp_pwr (s : State) (f) : (s.modTp f).pwr = s.pwr := rfl
@[simp] theorem modTp_gnss (s : State) (f) : (s.modTp f).gnss = s.gnss := rfl
@[simp] theorem modTp_servo (s : State) (f) : (s.modTp f).servo = s.servo := rfl
@[simp] theorem modTp_tp (s : State) (f) : (s.modTp f).tp = f s.tp := rfl
@[simp] theorem modTp_eth (s : State) (f) : (s.modTp f).eth = s.eth := rfl
@[simp] theorem modTp_pfo (s : State) (f) : (s.modTp f).pfo = s.pfo := rfl
@[simp] theorem modTp_regs (s : State) (f) : (s.modTp f).regs = s.regs := rfl

/-! `modPfo` -/

@[simp] theorem modPfo_pending (s : State) (f) : (s.modPfo f).pending = s.pending := rfl
@[simp] theorem modPfo_now (s : State) (f) : (s.modPfo f).now = s.now := rfl
@[simp] theorem modPfo_draws (s : State) (f) : (s.modPfo f).draws = s.draws := rfl
@[simp] theorem modPfo_ev (s : State) (f) : (s.modPfo f).ev = s.ev := rfl
@[simp] theorem modPfo_sec (s : State) (f) : (s.modPfo f).sec = s.sec := rfl
@[simp] theorem modPfo_pnt (s : State) (f) : (s.modPfo f).pnt = s.pnt := rfl
@[simp] theorem modPfo_palette (s : State) (f) : (s.modPfo f).palette = s.palette := rfl
@[simp] theorem modPfo_host (s : State) (f) : (s.modPfo f).host = s.host := rfl
@[simp] theorem modPfo_tmb (s : State) (f) : (s.modPfo f).tmb = s.tmb := rfl
@[simp] theorem modPfo_fleet (s : State) (f) : (s.modPfo f).fleet = s.fleet := rfl
@[simp] theorem modPfo_epoch (s : State) (f) : (s.modPfo f).epoch = s.epoch := rfl
@[simp] theorem modPfo_dsp (s : State) (f) : (s.modPfo f).dsp = s.dsp := rfl
@[simp] theorem modPfo_easels (s : State) (f) : (s.modPfo f).easels = s.easels := rfl
@[simp] theorem modPfo_atelier (s : State) (f) : (s.modPfo f).atelier = s.atelier := rfl
@[simp] theorem modPfo_canvas (s : State) (f) : (s.modPfo f).canvas = s.canvas := rfl
@[simp] theorem modPfo_stk (s : State) (f) : (s.modPfo f).stk = s.stk := rfl
@[simp] theorem modPfo_gdl (s : State) (f) : (s.modPfo f).gdl = s.gdl := rfl
@[simp] theorem modPfo_drv (s : State) (f) : (s.modPfo f).drv = s.drv := rfl
@[simp] theorem modPfo_air (s : State) (f) : (s.modPfo f).air = s.air := rfl
@[simp] theorem modPfo_rfb (s : State) (f) : (s.modPfo f).rfb = s.rfb := rfl
@[simp] theorem modPfo_tfc (s : State) (f) : (s.modPfo f).tfc = s.tfc := rfl
@[simp] theorem modPfo_twin (s : State) (f) : (s.modPfo f).twin = s.twin := rfl
@[simp] theorem modPfo_pwr (s : State) (f) : (s.modPfo f).pwr = s.pwr := rfl
@[simp] theorem modPfo_gnss (s : State) (f) : (s.modPfo f).gnss = s.gnss := rfl
@[simp] theorem modPfo_servo (s : State) (f) : (s.modPfo f).servo = s.servo := rfl
@[simp] theorem modPfo_tp (s : State) (f) : (s.modPfo f).tp = s.tp := rfl
@[simp] theorem modPfo_eth (s : State) (f) : (s.modPfo f).eth = s.eth := rfl
@[simp] theorem modPfo_pfo (s : State) (f) : (s.modPfo f).pfo = f s.pfo := rfl
@[simp] theorem modPfo_regs (s : State) (f) : (s.modPfo f).regs = s.regs := rfl

/-! `put`, `draw`, `setEasel`, `advance` -/

@[simp] theorem put_pending (s : State) (o : Out) : (s.put o).pending = s.pending := rfl
@[simp] theorem put_now (s : State) (o : Out) : (s.put o).now = s.now := rfl
@[simp] theorem put_draws (s : State) (o : Out) : (s.put o).draws = s.draws := rfl
@[simp] theorem put_sec (s : State) (o : Out) : (s.put o).sec = s.sec := rfl
@[simp] theorem put_pnt (s : State) (o : Out) : (s.put o).pnt = s.pnt := rfl
@[simp] theorem put_palette (s : State) (o : Out) : (s.put o).palette = s.palette := rfl
@[simp] theorem put_host (s : State) (o : Out) : (s.put o).host = s.host := rfl
@[simp] theorem put_tmb (s : State) (o : Out) : (s.put o).tmb = s.tmb := rfl
@[simp] theorem put_fleet (s : State) (o : Out) : (s.put o).fleet = s.fleet := rfl
@[simp] theorem put_epoch (s : State) (o : Out) : (s.put o).epoch = s.epoch := rfl
@[simp] theorem put_dsp (s : State) (o : Out) : (s.put o).dsp = s.dsp := rfl
@[simp] theorem put_easels (s : State) (o : Out) : (s.put o).easels = s.easels := rfl
@[simp] theorem put_atelier (s : State) (o : Out) : (s.put o).atelier = s.atelier := rfl
@[simp] theorem put_canvas (s : State) (o : Out) : (s.put o).canvas = s.canvas := rfl
@[simp] theorem put_stk (s : State) (o : Out) : (s.put o).stk = s.stk := rfl
@[simp] theorem put_gdl (s : State) (o : Out) : (s.put o).gdl = s.gdl := rfl
@[simp] theorem put_drv (s : State) (o : Out) : (s.put o).drv = s.drv := rfl
@[simp] theorem put_air (s : State) (o : Out) : (s.put o).air = s.air := rfl
@[simp] theorem put_rfb (s : State) (o : Out) : (s.put o).rfb = s.rfb := rfl
@[simp] theorem put_tfc (s : State) (o : Out) : (s.put o).tfc = s.tfc := rfl
@[simp] theorem put_twin (s : State) (o : Out) : (s.put o).twin = s.twin := rfl
@[simp] theorem put_pwr (s : State) (o : Out) : (s.put o).pwr = s.pwr := rfl
@[simp] theorem put_gnss (s : State) (o : Out) : (s.put o).gnss = s.gnss := rfl
@[simp] theorem put_servo (s : State) (o : Out) : (s.put o).servo = s.servo := rfl
@[simp] theorem put_tp (s : State) (o : Out) : (s.put o).tp = s.tp := rfl
@[simp] theorem put_eth (s : State) (o : Out) : (s.put o).eth = s.eth := rfl
@[simp] theorem put_pfo (s : State) (o : Out) : (s.put o).pfo = s.pfo := rfl
@[simp] theorem put_regs (s : State) (o : Out) : (s.put o).regs = s.regs := rfl
@[simp] theorem put_out (s : State) (o : Out) : (s.put o).ev.out = o :: s.ev.out := rfl
@[simp] theorem draw_pending (s : State) : s.draw.2.pending = s.pending := rfl
@[simp] theorem draw_now (s : State) : s.draw.2.now = s.now := rfl
@[simp] theorem draw_ev (s : State) : s.draw.2.ev = s.ev := rfl
@[simp] theorem draw_sec (s : State) : s.draw.2.sec = s.sec := rfl
@[simp] theorem draw_pnt (s : State) : s.draw.2.pnt = s.pnt := rfl
@[simp] theorem draw_palette (s : State) : s.draw.2.palette = s.palette := rfl
@[simp] theorem draw_host (s : State) : s.draw.2.host = s.host := rfl
@[simp] theorem draw_tmb (s : State) : s.draw.2.tmb = s.tmb := rfl
@[simp] theorem draw_fleet (s : State) : s.draw.2.fleet = s.fleet := rfl
@[simp] theorem draw_epoch (s : State) : s.draw.2.epoch = s.epoch := rfl
@[simp] theorem draw_dsp (s : State) : s.draw.2.dsp = s.dsp := rfl
@[simp] theorem draw_easels (s : State) : s.draw.2.easels = s.easels := rfl
@[simp] theorem draw_atelier (s : State) : s.draw.2.atelier = s.atelier := rfl
@[simp] theorem draw_canvas (s : State) : s.draw.2.canvas = s.canvas := rfl
@[simp] theorem draw_stk (s : State) : s.draw.2.stk = s.stk := rfl
@[simp] theorem draw_gdl (s : State) : s.draw.2.gdl = s.gdl := rfl
@[simp] theorem draw_drv (s : State) : s.draw.2.drv = s.drv := rfl
@[simp] theorem draw_air (s : State) : s.draw.2.air = s.air := rfl
@[simp] theorem draw_rfb (s : State) : s.draw.2.rfb = s.rfb := rfl
@[simp] theorem draw_tfc (s : State) : s.draw.2.tfc = s.tfc := rfl
@[simp] theorem draw_twin (s : State) : s.draw.2.twin = s.twin := rfl
@[simp] theorem draw_pwr (s : State) : s.draw.2.pwr = s.pwr := rfl
@[simp] theorem draw_gnss (s : State) : s.draw.2.gnss = s.gnss := rfl
@[simp] theorem draw_servo (s : State) : s.draw.2.servo = s.servo := rfl
@[simp] theorem draw_tp (s : State) : s.draw.2.tp = s.tp := rfl
@[simp] theorem draw_eth (s : State) : s.draw.2.eth = s.eth := rfl
@[simp] theorem draw_pfo (s : State) : s.draw.2.pfo = s.pfo := rfl
@[simp] theorem draw_regs (s : State) : s.draw.2.regs = s.regs := rfl
@[simp] theorem draw_draws (s : State) : s.draw.2.draws = s.draws + 1 := rfl
@[simp] theorem setEasel_pending (s : State) (k : Fin 8) (e : Easel) : (s.setEasel k e).pending = s.pending := rfl
@[simp] theorem setEasel_now (s : State) (k : Fin 8) (e : Easel) : (s.setEasel k e).now = s.now := rfl
@[simp] theorem setEasel_draws (s : State) (k : Fin 8) (e : Easel) : (s.setEasel k e).draws = s.draws := rfl
@[simp] theorem setEasel_ev (s : State) (k : Fin 8) (e : Easel) : (s.setEasel k e).ev = s.ev := rfl
@[simp] theorem setEasel_sec (s : State) (k : Fin 8) (e : Easel) : (s.setEasel k e).sec = s.sec := rfl
@[simp] theorem setEasel_pnt (s : State) (k : Fin 8) (e : Easel) : (s.setEasel k e).pnt = s.pnt := rfl
@[simp] theorem setEasel_palette (s : State) (k : Fin 8) (e : Easel) : (s.setEasel k e).palette = s.palette := rfl
@[simp] theorem setEasel_host (s : State) (k : Fin 8) (e : Easel) : (s.setEasel k e).host = s.host := rfl
@[simp] theorem setEasel_tmb (s : State) (k : Fin 8) (e : Easel) : (s.setEasel k e).tmb = s.tmb := rfl
@[simp] theorem setEasel_fleet (s : State) (k : Fin 8) (e : Easel) : (s.setEasel k e).fleet = s.fleet := rfl
@[simp] theorem setEasel_epoch (s : State) (k : Fin 8) (e : Easel) : (s.setEasel k e).epoch = s.epoch := rfl
@[simp] theorem setEasel_dsp (s : State) (k : Fin 8) (e : Easel) : (s.setEasel k e).dsp = s.dsp := rfl
@[simp] theorem setEasel_easels (s : State) (k : Fin 8) (e : Easel) : (s.setEasel k e).easels = s.easels.set k e := rfl
@[simp] theorem setEasel_atelier (s : State) (k : Fin 8) (e : Easel) : (s.setEasel k e).atelier = s.atelier := rfl
@[simp] theorem setEasel_canvas (s : State) (k : Fin 8) (e : Easel) : (s.setEasel k e).canvas = s.canvas := rfl
@[simp] theorem setEasel_stk (s : State) (k : Fin 8) (e : Easel) : (s.setEasel k e).stk = s.stk := rfl
@[simp] theorem setEasel_gdl (s : State) (k : Fin 8) (e : Easel) : (s.setEasel k e).gdl = s.gdl := rfl
@[simp] theorem setEasel_drv (s : State) (k : Fin 8) (e : Easel) : (s.setEasel k e).drv = s.drv := rfl
@[simp] theorem setEasel_air (s : State) (k : Fin 8) (e : Easel) : (s.setEasel k e).air = s.air := rfl
@[simp] theorem setEasel_rfb (s : State) (k : Fin 8) (e : Easel) : (s.setEasel k e).rfb = s.rfb := rfl
@[simp] theorem setEasel_tfc (s : State) (k : Fin 8) (e : Easel) : (s.setEasel k e).tfc = s.tfc := rfl
@[simp] theorem setEasel_twin (s : State) (k : Fin 8) (e : Easel) : (s.setEasel k e).twin = s.twin := rfl
@[simp] theorem setEasel_pwr (s : State) (k : Fin 8) (e : Easel) : (s.setEasel k e).pwr = s.pwr := rfl
@[simp] theorem setEasel_gnss (s : State) (k : Fin 8) (e : Easel) : (s.setEasel k e).gnss = s.gnss := rfl
@[simp] theorem setEasel_servo (s : State) (k : Fin 8) (e : Easel) : (s.setEasel k e).servo = s.servo := rfl
@[simp] theorem setEasel_tp (s : State) (k : Fin 8) (e : Easel) : (s.setEasel k e).tp = s.tp := rfl
@[simp] theorem setEasel_eth (s : State) (k : Fin 8) (e : Easel) : (s.setEasel k e).eth = s.eth := rfl
@[simp] theorem setEasel_pfo (s : State) (k : Fin 8) (e : Easel) : (s.setEasel k e).pfo = s.pfo := rfl
@[simp] theorem setEasel_regs (s : State) (k : Fin 8) (e : Easel) : (s.setEasel k e).regs = s.regs := rfl
@[simp] theorem touch_now (s : State) : s.touch.now = s.now := rfl

end Sys2Proof.Machine
end

