-- ==== Sys2Proof/Laws/Easel.lean ====
section
/-! SUPPORT. What running an instruction on an Easel can do: one lemma for each shared operation of the
instructions' meanings. -/

namespace Sys2Proof.Machine

theorem OnlyRecords.refl (s : State) : OnlyRecords s s := rfl

theorem OnlyRecords.trans {s t u : State} (h : OnlyRecords s t) (h' : OnlyRecords t u) : OnlyRecords s u :=
  Eq.trans h' h

theorem onlyRecords_emit (s : State) (e : EvDef) (a b c d : Nat) : OnlyRecords s (s.emit e a b c d) :=
  recordless_emit s e a b c d

/-- Setting the Easels aside, records touch the same. -/
theorem OnlyRecords.easels {s t : State} (h : OnlyRecords s t) (x : Vector Easel 8) :
    OnlyRecords { s with easels := x } { t with easels := x } := by
  unfold OnlyRecords State.recordless at *
  simp only [State.mk.injEq] at *
  exact ⟨h.1, h.2.1, h.2.2.1, trivial, h.2.2.2.2.1, trivial, trivial, h.2.2.2.2.2.2.2.1, h.2.2.2.2.2.2.2.2.1,
    h.2.2.2.2.2.2.2.2.2.1, h.2.2.2.2.2.2.2.2.2.2.1, h.2.2.2.2.2.2.2.2.2.2.2.1, trivial, h.2.2.2.2.2.2.2.2.2.2.2.2.2⟩

/-- The parts of an Easel the issue of an instruction does not touch. -/
def Easel.still (x : Easel) : Tbl Word × Tbl Byte × Tbl Bool × Tbl Bool × List FabReq × Option Bank ×
    Option (Tbl Bool) × Option (Tbl Bool) × RunState :=
  (x.imem, x.scratch, x.scrPoison, x.imemPoison, x.fifo, x.shadow, x.scrKnown, x.shadowKnown, x.run)

/-- One Easel's record of issue changed: its bank is `b`, its still parts and the other Easels are as before. -/
structure Issued (s t : State) (k : Fin 8) (b : Bank) : Prop where
  bank : t.easels[k].bank = b
  still : t.easels[k].still = s.easels[k].still
  others : ∀ j, j ≠ k → t.easels[j] = s.easels[j]
  records : OnlyRecords s { t with easels := s.easels }

theorem getElem_set_self' (v : Vector Easel 8) (k : Fin 8) (x : Easel) : (v.set k x)[k] = x := by simp

theorem getElem_set_ne' (v : Vector Easel 8) {k j : Fin 8} (x : Easel) (h : j ≠ k) : (v.set k x)[j] = v[j] := by
  have : (k : Nat) ≠ j := fun hk => h (Fin.ext hk.symm)
  simp [this]

/-- An update of an Easel that leaves its still parts. -/
theorem issued_modEasel (s : State) (k : Fin 8) (f : Easel → Easel) (h : (f s.easels[k]).still = s.easels[k].still) :
    Issued s (s.modEasel k f) k (f s.easels[k]).bank where
  bank := congrArg Easel.bank (getElem_set_self' ..)
  still := by
    rw [show (s.modEasel k f).easels[k] = f s.easels[k] from getElem_set_self' ..]; exact h
  others := fun j hj => getElem_set_ne' _ _ hj
  records := rfl

theorem issued_emit (s : State) (k : Fin 8) (e : EvDef) (a b c d : Nat) :
    Issued s (s.emit e a b c d) k s.easels[k].bank where
  bank := by rw [emit_easels]
  still := by rw [emit_easels]
  others := fun j _ => by rw [emit_easels]
  records := by
    have h := onlyRecords_emit s e a b c d
    have h2 := h.easels s.easels
    exact h2

theorem Issued.trans {s t u : State} {k : Fin 8} {b c : Bank} (h : Issued s t k b) (h' : Issued t u k c) :
    Issued s u k c where
  bank := h'.bank
  still := h'.still.trans h.still
  others := fun j hj => (h'.others j hj).trans (h.others j hj)
  records := by
    have h2 := h'.records.easels s.easels
    exact h.records.trans h2

theorem Issued.refl (s : State) (k : Fin 8) : Issued s s k s.easels[k].bank := ⟨rfl, rfl, fun _ _ => rfl, rfl⟩

theorem Issued.of_bank {s t : State} {k : Fin 8} {b c : Bank} (h : Issued s t k b) (hb : b = c) : Issued s t k c :=
  hb ▸ h

theorem bank_modEasel (s : State) (k : Fin 8) (f : Easel → Easel) :
    (s.modEasel k f).easels[k].bank = (f s.easels[k]).bank := congrArg Easel.bank (getElem_set_self' ..)

/-- An update that leaves the bank and the still parts, and then an event. -/
theorem issued_modEmit (s : State) (k : Fin 8) (f : Easel → Easel) (e : EvDef) (a b c d : Nat)
    (h : (f s.easels[k]).still = s.easels[k].still) (hb : (f s.easels[k]).bank = s.easels[k].bank) :
    Issued s ((s.modEasel k f).emit e a b c d) k s.easels[k].bank :=
  (issued_modEasel s k f h).trans ((issued_emit _ k e a b c d).of_bank ((bank_modEasel s k f).trans hb))

theorem issued_imemCorrected (s : State) (k : Fin 8) (m : Ecc) (i : Nat) :
    Issued s (s.imemCorrected k m i) k s.easels[k].bank := by
  unfold State.imemCorrected
  split
  · exact issued_modEmit s k _ _ _ _ _ _ rfl rfl
  · exact Issued.refl s k

theorem issued_fetchCorrected (s : State) (e : At) (x : Easel) :
    Issued s (s.fetchCorrected e x) e.k s.easels[e.k].bank := by
  unfold State.fetchCorrected
  have h := issued_imemCorrected s e.k e.fetch x.bank.pc
  dsimp only
  split
  · exact h.trans ((issued_imemCorrected _ e.k e.second _).of_bank h.bank)
  · exact h

theorem issued_haltEasel (s : State) (k : Fin 8) (cause : Nat) :
    Issued s (s.haltEasel k cause) k s.easels[k].bank :=
  issued_modEmit s k (fun x => { x with halted := true, stepOne := false }) _ _ _ _ _ rfl rfl

theorem issued_stepped (s : State) (k : Fin 8) (step : Bool) : Issued s (s.stepped k step) k s.easels[k].bank := by
  unfold State.stepped
  split
  · exact issued_haltEasel s k 1
  · exact issued_modEasel s k (fun x => { x with stepOne := false }) rfl

/-- Running an instruction where the Easel is ready and nothing of its own faults: the bank takes the
instruction's, and the rest is what its act made of it. -/
theorem runOn_ready {s : State} {e : At} {i : EInstr} {x : EAct} {b' : Bank} {s' : State}
    (hr : Ready s e i (x.taken (s.bank e.k))) (hf : x.fault s (s.bank e.k) = none)
    (ha : x.act s (s.bank e.k) = some (b', s')) (hx : x.after = id) :
    Issued s' (s.runOn e i x) e.k ((s.bank e.k).finish b' i (x.taken (s.bank e.k))) := by
  obtain ⟨h1, h2, h3, h4⟩ := hr
  unfold State.bank at *
  unfold State.runOn
  simp only [h1, h2, h3, hf, h4, ha, hx, Bool.not_true, Bool.false_eq_true, if_false, not_true_eq_false, id_eq,
    ne_eq]
  exact (issued_fetchCorrected s' e _).trans ((issued_modEasel _ e.k (fun y =>
    { y with bank := s.easels[e.k].bank.finish b' i (x.taken s.easels[e.k].bank), brkSkip := false }) rfl).trans
      ((issued_stepped _ e.k _).of_bank (bank_modEasel ..)))

/-- What a `still` Easel and kept records give for the statements. -/
theorem Issued.kept {s t : State} {k : Fin 8} {b : Bank} (h : Issued s t k b) : KeptOutside s t k := by
  have hs := h.still
  simp only [Easel.still, Prod.mk.injEq] at hs
  exact ⟨h.records, h.others, hs.1, hs.2.1, hs.2.2.1, hs.2.2.2.1, hs.2.2.2.2.1, hs.2.2.2.2.2.1,
    hs.2.2.2.2.2.2.1, hs.2.2.2.2.2.2.2.1⟩

/-! What the bank is after an instruction's own effect. -/

/-- The registers, stacks and task of a bank. -/
def Bank.regsOf (b : Bank) : (Vector Word 32 × Vector Lanes 16 × Vector Accs 4) × List Nat × TaskCtx × List LoopE × Nat :=
  ((b.g, b.v, b.a), b.rets, b.task, b.loops, b.fabIdx)

theorem foldl_regsOf {α : Type} (f : Bank → α → Bank) (hf : ∀ c x, (f c x).regsOf = c.regsOf) (l : List α) (c : Bank) :
    (l.foldl f c).regsOf = c.regsOf := by
  induction l generalizing c with
  | nil => rfl
  | cons x l ih => rw [List.foldl_cons, ih, hf]

/-- The timeline is no register. -/
theorem advance_regsOf (b : Bank) (u : Usage) (t c : Nat) : (b.advance u t c).regsOf = b.regsOf := by
  have h1 := foldl_regsOf (fun b (x : GReg × Nat) => if x.1 = 0 then b else { b with readyG := b.readyG.set x.1 (t + x.2) })
    (fun c x => by split <;> rfl) u.wg b
  have h2 := fun b => foldl_regsOf (fun b (x : VReg × Nat) => { b with readyV := b.readyV.set x.1 (t + x.2) })
    (fun c x => rfl) u.wv b
  have h3 := fun b => foldl_regsOf (fun b (x : AReg × Nat) =>
    { b with readyA := b.readyA.set x.1 (t + x.2)
             chainA := b.chainA.set x.1 (t + if u.mac = some x.1 then 2 else x.2) }) (fun c x => rfl) u.wa b
  exact ((h3 _).trans (h2 _)).trans h1

theorem advance_regs (b : Bank) (u : Usage) (t c : Nat) :
    (b.advance u t c).g = b.g ∧ (b.advance u t c).v = b.v ∧ (b.advance u t c).a = b.a ∧
    (b.advance u t c).rets = b.rets ∧ (b.advance u t c).task = b.task ∧ (b.advance u t c).loops = b.loops ∧
    (b.advance u t c).fabIdx = b.fabIdx := by
  have h := advance_regsOf b u t c
  simp only [Bank.regsOf, Prod.mk.injEq] at h
  exact ⟨h.1.1, h.1.2.1, h.1.2.2, h.2.1, h.2.2.1, h.2.2.2.1, h.2.2.2.2⟩

theorem finish_regs (old new : Bank) (i : EInstr) (taken : Bool) :
    (old.finish new i taken).g = new.g ∧ (old.finish new i taken).v = new.v ∧
    (old.finish new i taken).a = new.a ∧ (old.finish new i taken).rets = new.rets ∧
    (old.finish new i taken).task = new.task ∧ (old.finish new i taken).fabIdx = new.fabIdx := by
  have hl : ∀ e, (new.loopEnd e).g = new.g ∧ (new.loopEnd e).v = new.v ∧ (new.loopEnd e).a = new.a ∧
      (new.loopEnd e).rets = new.rets ∧ (new.loopEnd e).task = new.task ∧ (new.loopEnd e).fabIdx = new.fabIdx := by
    intro e
    unfold Bank.loopEnd
    repeat' split
    all_goals exact ⟨rfl, rfl, rfl, rfl, rfl, rfl⟩
  unfold Bank.finish
  dsimp only
  obtain ⟨h1, h2, h3, h4, h5, -, h7⟩ := advance_regs
    (if old.atLoopEnd = true then new.loopEnd old.pc else new) (usage i) (old.issueAt (usage i)) (old.cost i taken)
  rw [h1, h2, h3, h4, h5, h7]
  split
  · exact hl _
  · exact ⟨rfl, rfl, rfl, rfl, rfl, rfl⟩

theorem finish_pc (old new : Bank) (i : EInstr) (taken : Bool) (h : old.atLoopEnd = false) :
    (old.finish new i taken).pc = new.pc % 16384 ∧ (old.finish new i taken).loops = new.loops := by
  unfold Bank.finish
  rw [h]
  exact ⟨rfl, (advance_regs new (usage i) (old.issueAt (usage i)) (old.cost i taken)).2.2.2.2.2.1⟩

/-- The bank after a local instruction that leaves stack, loops and task. -/
theorem finish_wentOn {b c : Bank} (i : EInstr) (hr : c.rets = b.rets) (ht : c.task = b.task)
    (hl : c.loops = b.loops) : WentOn b (b.finish { c with pc := b.pc + 1 } i false) := by
  obtain ⟨-, -, -, h4, h5, -⟩ := finish_regs b { c with pc := b.pc + 1 } i false
  refine ⟨h4.trans hr, h5.trans ht, fun h => ?_⟩
  obtain ⟨p, l⟩ := finish_pc b { c with pc := b.pc + 1 } i false h
  exact ⟨l.trans hl, p⟩

/-- A local instruction that writes one general register. -/
theorem runLocal_wroteG {s : State} {e : At} {i : EInstr} {f : Bank → Bank} {d : GReg} {w : Word}
    (hf : f (s.bank e.k) = (s.bank e.k).wg d w) (hr : Ready s e i) :
    ∃ t, s.runLocal e i f = .next t ∧ WroteG (s.bank e.k) (t.bank e.k) d w ∧ KeptOutside s t e.k := by
  have h := runOn_ready (x := { act := fun s b => some ({ f b with pc := b.pc + 1 }, s) }) hr rfl rfl rfl
  refine ⟨_, rfl, ?_, h.kept⟩
  have hb := h.bank
  rw [hf] at hb
  unfold State.bank at *
  rw [hb]
  obtain ⟨h1, h2, h3, -⟩ := finish_regs s.easels[e.k].bank
    { s.easels[e.k].bank.wg d w with pc := s.easels[e.k].bank.pc + 1 } i false
  have hwg : ∀ b : Bank, (b.wg d w).v = b.v ∧ (b.wg d w).a = b.a ∧ (b.wg d w).rets = b.rets ∧
      (b.wg d w).task = b.task ∧ (b.wg d w).loops = b.loops := by
    intro b; unfold Bank.wg; split <;> exact ⟨rfl, rfl, rfl, rfl, rfl⟩
  obtain ⟨w1, w2, w3, w4, w5⟩ := hwg s.easels[e.k].bank
  refine ⟨fun r => ?_, h2.trans w1, h3.trans w2, finish_wentOn i w3 w4 w5⟩
  unfold Bank.rg
  rw [h1]
  unfold Bank.wg
  by_cases hr0 : r = 0
  · simp [hr0]
  · by_cases hd : d = 0
    · subst hd; simp [hr0]
    · by_cases hrd : r = d
      · subst hrd; simp [hr0]
      · have : (d : Nat) ≠ r := fun hk => hrd (Fin.ext hk.symm)
        simp [hr0, hd, hrd, this]

/-- A local instruction that writes one vector register. -/
theorem runLocal_wroteV {s : State} {e : At} {i : EInstr} {f : Bank → Bank} {d : VReg} {x : Lanes}
    (hf : f (s.bank e.k) = (s.bank e.k).wv d x) (hr : Ready s e i) :
    ∃ t, s.runLocal e i f = .next t ∧ WroteV (s.bank e.k) (t.bank e.k) d (fun j => x[j]) ∧ KeptOutside s t e.k := by
  have h := runOn_ready (x := { act := fun s b => some ({ f b with pc := b.pc + 1 }, s) }) hr rfl rfl rfl
  refine ⟨_, rfl, ?_, h.kept⟩
  have hb := h.bank
  rw [hf] at hb
  unfold State.bank at *
  rw [hb]
  obtain ⟨h1, h2, h3, -⟩ := finish_regs s.easels[e.k].bank
    { s.easels[e.k].bank.wv d x with pc := s.easels[e.k].bank.pc + 1 } i false
  refine ⟨fun j => ?_, fun r hrd => ?_, h1, h3, finish_wentOn i rfl rfl rfl⟩
  · unfold Bank.rv; rw [h2]; simp [Bank.wv]
  · have : (d : Nat) ≠ r := fun hk => hrd (Fin.ext hk.symm)
    unfold Bank.rv; rw [h2]; simp [Bank.wv, this]

/-- A local instruction that writes one accumulator. -/
theorem runLocal_wroteA {s : State} {e : At} {i : EInstr} {f : Bank → Bank} {d : AReg} {x : Accs}
    (hf : f (s.bank e.k) = (s.bank e.k).wa d x) (hr : Ready s e i) :
    ∃ t, s.runLocal e i f = .next t ∧ WroteA (s.bank e.k) (t.bank e.k) d (fun j => x[j]) ∧ KeptOutside s t e.k := by
  have h := runOn_ready (x := { act := fun s b => some ({ f b with pc := b.pc + 1 }, s) }) hr rfl rfl rfl
  refine ⟨_, rfl, ?_, h.kept⟩
  have hb := h.bank
  rw [hf] at hb
  unfold State.bank at *
  rw [hb]
  obtain ⟨h1, h2, h3, -⟩ := finish_regs s.easels[e.k].bank
    { s.easels[e.k].bank.wa d x with pc := s.easels[e.k].bank.pc + 1 } i false
  refine ⟨fun j => ?_, fun r hrd => ?_, h1, h2, finish_wentOn i rfl rfl rfl⟩
  · unfold Bank.ra; rw [h3]; simp [Bank.wa]
  · have : (d : Nat) ≠ r := fun hk => hrd (Fin.ext hk.symm)
    unfold Bank.ra; rw [h3]; simp [Bank.wa, this]

end Sys2Proof.Machine
end

