-- ==== Sys2Proof/Laws/Gate.lean ====
section
/-! SUPPORT. What a write under a power state and a session can do. -/

namespace Sys2Proof.Machine

theorem bar_awake {s : State} (h : s.awake = true) (f : State → State) : s.bar f = f s := by
  rw [State.bar, if_pos h]

theorem bar_asleep {s : State} (h : s.awake = false) (f : State → State) : s.bar f = s := by
  rw [State.bar, h, if_neg Bool.false_ne_true]

/-- A write under its session, awake. -/
theorem asRole_open {s : State} {r : Nat} (h : s.awake = true) (hr : r ≤ s.pcieRole) (f : State → State) :
    s.asRole r f = f s.touch := by
  rw [State.asRole, bar_awake h, State.asRoleAny, if_pos hr]

/-- A write without its session, or asleep, is ignored. -/
theorem asRole_shut {s : State} {r : Nat} (h : s.awake = false ∨ s.pcieRole < r) (f : State → State) :
    s.asRole r f = s := by
  rcases h with h | h
  · rw [State.asRole, bar_asleep h]
  · unfold State.asRole State.bar State.asRoleAny
    dsimp only
    rw [if_neg (Nat.not_le.mpr h), ite_self]

/-- Everything a write under a session can do. -/
theorem asRole_cases (s : State) (r : Nat) (f : State → State) :
    (s.awake = true ∧ r ≤ s.pcieRole ∧ s.asRole r f = f s.touch) ∨ s.asRole r f = s := by
  by_cases h : s.awake = true
  · by_cases hr : r ≤ s.pcieRole
    · exact .inl ⟨h, hr, asRole_open h hr f⟩
    · exact .inr (asRole_shut (.inr (by omega)) f)
  · exact .inr (asRole_shut (.inl (by simpa using h)) f)

end Sys2Proof.Machine
end

