-- ==== Sys2Proof/Laws/Tbl.lean ====
section
/-! SUPPORT. Sparse memories: what a read gives after a write, and that every operation keeps the canonical form. -/

namespace Sys2Proof.Machine

variable {α : Type} [DecidableEq α] {d : Nat → α}

theorem tblGet_of_lt {lo : Nat} {t : Tbl α} (h : tblWfFrom d lo t = true) {k : Nat} (hk : k < lo) :
    tblGet d t k = d k := by
  induction t generalizing lo with
  | nil => rfl
  | cons x t ih =>
    simp only [tblWfFrom, Bool.and_eq_true, decide_eq_true_eq] at h
    rw [tblGet, if_neg (by omega)]
    exact ih h.2 (by omega)

theorem tblWfFrom_mono {lo lo' : Nat} {t : Tbl α} (h : tblWfFrom d lo t = true) (hl : lo' ≤ lo) :
    tblWfFrom d lo' t = true := by
  cases t with
  | nil => rfl
  | cons x t =>
    simp only [tblWfFrom, Bool.and_eq_true, decide_eq_true_eq] at h ⊢
    exact ⟨⟨by omega, h.1.2⟩, h.2⟩

theorem tblErase_wf {lo : Nat} {t : Tbl α} (h : tblWfFrom d lo t = true) (k : Nat) :
    tblWfFrom d lo (tblErase t k) = true := by
  induction t generalizing lo with
  | nil => rfl
  | cons x t ih =>
    have h' := h
    simp only [tblWfFrom, Bool.and_eq_true, decide_eq_true_eq] at h
    rw [tblErase]
    split
    · exact tblWfFrom_mono h.2 (by omega)
    · split
      · exact h'
      · simp only [tblWfFrom, Bool.and_eq_true, decide_eq_true_eq]
        exact ⟨h.1, ih h.2⟩

theorem tblInsert_wf {lo : Nat} {t : Tbl α} (h : tblWfFrom d lo t = true) {k : Nat} {v : α} (hk : lo ≤ k)
    (hv : v ≠ d k) : tblWfFrom d lo (tblInsert t k v) = true := by
  induction t generalizing lo with
  | nil => simp [tblInsert, tblWfFrom, hk, hv]
  | cons x t ih =>
    simp only [tblWfFrom, Bool.and_eq_true, decide_eq_true_eq] at h
    rw [tblInsert]
    split
    · subst_vars
      simp only [tblWfFrom, Bool.and_eq_true, decide_eq_true_eq]
      exact ⟨⟨hk, hv⟩, h.2⟩
    · split
      · simp only [tblWfFrom, Bool.and_eq_true, decide_eq_true_eq]
        exact ⟨⟨hk, hv⟩, ⟨by omega, h.1.2⟩, h.2⟩
      · simp only [tblWfFrom, Bool.and_eq_true, decide_eq_true_eq]
        exact ⟨h.1, ih h.2 (by omega)⟩

/-- A write keeps the canonical form. -/
theorem tblPut_wf {t : Tbl α} (h : tblWf d t = true) (k : Nat) (v : α) : tblWf d (tblPut d t k v) = true := by
  unfold tblPut
  split
  · exact tblErase_wf h k
  · exact tblInsert_wf h (Nat.zero_le k) ‹_›

theorem tblMod_wf {t : Tbl α} (h : tblWf d t = true) (k : Nat) (f : α → α) : tblWf d (tblMod d t k f) = true :=
  tblPut_wf h k _

theorem tblPutList_wf {t : Tbl α} (h : tblWf d t = true) (k : Nat) (l : List α) :
    tblWf d (tblPutList d t k l) = true := by
  induction l generalizing t k with
  | nil => exact h
  | cons v vs ih => exact ih (tblPut_wf h k v) _

theorem tblMap_wfFrom {lo : Nat} {t : Tbl α} (h : tblWfFrom d lo t = true) (f : α → α) :
    tblWfFrom d lo (tblMap d f t) = true := by
  induction t generalizing lo with
  | nil => rfl
  | cons x t ih =>
    simp only [tblWfFrom, Bool.and_eq_true, decide_eq_true_eq] at h
    have h2 := ih h.2
    simp only [tblMap, List.map_cons, List.filter_cons] at h2 ⊢
    split
    · simp only [tblWfFrom, Bool.and_eq_true, decide_eq_true_eq]
      exact ⟨⟨h.1.1, of_decide_eq_true ‹_›⟩, h2⟩
    · exact tblWfFrom_mono h2 (by omega)

theorem tblMap_wf {t : Tbl α} (h : tblWf d t = true) (f : α → α) : tblWf d (tblMap d f t) = true :=
  tblMap_wfFrom h f

theorem tblGet_erase_self {lo : Nat} {t : Tbl α} (h : tblWfFrom d lo t = true) (k : Nat) :
    tblGet d (tblErase t k) k = d k := by
  induction t generalizing lo with
  | nil => rfl
  | cons x t ih =>
    simp only [tblWfFrom, Bool.and_eq_true, decide_eq_true_eq] at h
    rw [tblErase]
    split
    · exact tblGet_of_lt h.2 (by omega)
    · split
      · rw [tblGet, if_neg ‹_›]
        exact tblGet_of_lt h.2 (by omega)
      · rw [tblGet, if_neg ‹_›]
        exact ih h.2

omit [DecidableEq α] in
theorem tblGet_erase_ne {t : Tbl α} {k j : Nat} (hj : j ≠ k) : tblGet d (tblErase t k) j = tblGet d t j := by
  induction t with
  | nil => rfl
  | cons x t ih =>
    rw [tblErase]
    split
    · rw [tblGet, if_neg (by omega)]
    · split
      · rfl
      · simp only [tblGet, ih]

omit [DecidableEq α] in
theorem tblGet_insert_self (t : Tbl α) (k : Nat) (v : α) : tblGet d (tblInsert t k v) k = v := by
  induction t with
  | nil => simp [tblInsert, tblGet]
  | cons x t ih =>
    rw [tblInsert]
    split
    · simp [tblGet]
    · split
      · simp [tblGet]
      · rw [tblGet, if_neg ‹_›, ih]

omit [DecidableEq α] in
theorem tblGet_insert_ne {t : Tbl α} {k j : Nat} {v : α} (hj : j ≠ k) :
    tblGet d (tblInsert t k v) j = tblGet d t j := by
  induction t with
  | nil => simp [tblInsert, tblGet, hj]
  | cons x t ih =>
    rw [tblInsert]
    split
    · subst_vars
      simp [tblGet, hj]
    · split
      · simp [tblGet, hj]
      · simp only [tblGet, ih]

/-- A read after a write to the same key gives the value written. -/
theorem tblGet_put_self {t : Tbl α} (h : tblWf d t = true) (k : Nat) (v : α) : tblGet d (tblPut d t k v) k = v := by
  unfold tblPut
  split
  · rw [tblGet_erase_self h]
    exact Eq.symm ‹_›
  · exact tblGet_insert_self t k v

/-- A write leaves every other key alone. -/
theorem tblGet_put_ne {t : Tbl α} {k j : Nat} {v : α} (hj : j ≠ k) :
    tblGet d (tblPut d t k v) j = tblGet d t j := by
  unfold tblPut
  split
  · exact tblGet_erase_ne hj
  · exact tblGet_insert_ne hj

/-- A write of values at consecutive keys leaves every key outside them alone. -/
theorem tblGet_putList_ne {t : Tbl α} {k j : Nat} {l : List α} (hj : j < k ∨ k + l.length ≤ j) :
    tblGet d (tblPutList d t k l) j = tblGet d t j := by
  induction l generalizing t k with
  | nil => rfl
  | cons v vs ih =>
    rw [List.length_cons] at hj
    rw [tblPutList, ih (by omega), tblGet_put_ne (by omega)]

/-- A write of values at consecutive keys is read back. -/
theorem tblGet_putList {t : Tbl α} (h : tblWf d t = true) {k i : Nat} {l : List α} (hi : i < l.length) :
    tblGet d (tblPutList d t k l) (k + i) = l[i] := by
  induction l generalizing t k i with
  | nil => simp at hi
  | cons v vs ih =>
    rw [tblPutList]
    cases i with
    | zero =>
      rw [tblGet_putList_ne (Or.inl (by omega)), Nat.add_zero, tblGet_put_self h]
      rfl
    | succ i =>
      have := ih (tblPut_wf h k v) (k := k + 1) (i := i) (by simpa using hi)
      rw [show k + (i + 1) = k + 1 + i by omega, this]
      rfl

/-- Memory keeps its canonical form over a write of bytes. -/
theorem memWrite_wf {m : Tbl Byte} (h : Memory.wf m = true) (a : Nat) (bs : List Byte) :
    Memory.wf (memWrite m a bs) = true := tblPutList_wf h a bs

end Sys2Proof.Machine
end

