-- ==== Sys2Proof/Tests/Setup.lean ====
section
/-! SUPPORT. Small states for the tests: a running device, and an Easel about to issue an instruction. -/

namespace Sys2Proof.Tests

-- one theorem after another, for memory's sake
set_option Elab.async false

open Sys2Proof Sys2Proof.Machine

/-- The device runs alone, 20 s after its reset, with a MAKER session and no stop. -/
def up : State :=
  { State.reset with
    now := 20 * second
    pwr := { State.reset.pwr with
      state := .run
      booted := true
      refOk := true }
    fleet := { State.reset.fleet with stops := [] }
    tmb := { State.reset.tmb with running := true }
    sec := { State.reset.sec with
      pcie := { Channel.idle with role := 3 }
      svc := { Channel.idle with role := 3 } }
    twin := { State.reset.twin with state := .solo } }

/-- The same device without a session. -/
def plain : State := { up with sec := State.reset.sec }

/-- A unit of a pair whose link is up. -/
def pair : State := (up.setReg rTwnCfg 5).modTwin fun t => { t with
  link := 2
  state := .active
  peer := 3 }

/-- A device whose dispatcher is in test mode. -/
def inTest : State := up.modDsp fun d => { d with mode := .test }

/-- A small state of time: the counter has run to `t`. -/
def atTime (t : Nat) (s : State) : State := s.modTmb fun x => { x with
  raw := t
  running := true }

/-- Easel 0 runs, at index 0 of a program of these words, a task with room in its budget. -/
def easelOf (ws : List Nat) : Easel :=
  { Easel.reset with
    run := .running
    imem := (List.range ws.length).map fun i => (i, BitVec.ofNat 32 (ws.getD i 0))
    bank := { Bank.zero with task := { TaskCtx.none with budget := 100000 } } }

/-- The state with Easel 0 set. -/
def withEasel (s : State) (x : Easel) : State := { s with easels := s.easels.set 0 x }

/-- Easel 0 is about to issue an instruction. -/
def about (i : EInstr) : State := withEasel up (easelOf [(encodeEasel i).1, (encodeEasel i).2])

/-- The same with another bank. -/
def aboutWith (i : EInstr) (f : Bank → Bank) : State :=
  (about i).modEasel 0 fun x => { x with bank := f x.bank }

/-- A plain request. -/
def aReq : FabReq :=
  { op := .fstk, value := 0, task := 0, slot := 0, flow := 0, issuer := 0, urgent := false, level := 0, epoch := 0 }

def at0 : At := { k := 0, fetch := .ok, second := .ok }

/-- `Ready` as a test by evaluation. -/
def readyB (s : State) (e : At) (i : EInstr) (taken : Bool := false) : Bool :=
  s.issues e.k && !s.easels[e.k].fetchBad e && decide (s.easels[e.k].insn = some i) &&
    decide ((s.bank e.k).faultOf i none taken = none)

theorem ready_of {s : State} {e : At} {i : EInstr} {taken : Bool} (h : readyB s e i taken = true) :
    Ready s e i taken := by
  simp only [readyB, Bool.and_eq_true, Bool.not_eq_true', decide_eq_true_eq] at h
  exact ⟨h.1.1.1, h.1.1.2, h.1.2, h.2⟩

/-- What a command answers has a property that can be evaluated. -/
def gives (c : Instr) (s : State) (p : State → Bool) : Bool :=
  match exec c s with
  | .next t => p t
  | _ => false

/-! ## A small Cartoon -/

/-- One task of flow 3 with operand slot 1, ticking every second epoch. -/
def taskBytes : List Byte :=
  toLE 2 3 ++ (toLE 2 16 ++ ([0, 2, 0, 0] ++ (toLE 4 1000 ++ (toLE 2 2 ++ (toLE 2 0 ++ (1 :: List.replicate 15 0))))))

/-- Selector 5 of arrival kind 2 goes to slot 1 of task 0. -/
def routeBytes : List Byte := [2, 1] ++ (toLE 2 5 ++ toLE 4 0)

/-- Two USED squares. -/
def mapBytes : List Byte :=
  toLE 8 0 ++ (toLE 2 0xFFFF ++ (toLE 2 1 ++ (toLE 2 0xFFFF ++ ([1, 0] ++ (toLE 8 0 ++ (toLE 2 0 ++ (toLE 2 0xFFFF ++
    (toLE 2 0xFFFF ++ [1, 0]))))))))

/-- A slot plan of two radio slots, version 1, with one entry: robot 0 on channel 11, uplink in slot 0, downlink
in slot 1. -/
def planBytes : List Byte :=
  [2, 1, 0, 0] ++ (toLE 2 1 ++ (List.replicate 26 0 ++ ([1, 0, 2, 0] ++ (List.replicate 28 0 ++
    (toLE 2 0 ++ ([11, 0x11] ++ (toLE 3 0 ++ (List.replicate 6 0 ++ (toLE 3 1 ++ List.replicate 16 0)))))))))

/-- LOOPS: one profile (1,000 units/s), one route of 1,000 units over the two squares, one guidance descriptor,
one drive descriptor, one Glaze table. -/
def loopBytes : List Byte :=
  toLE 2 1 ++ (toLE 2 1 ++ (toLE 2 1 ++ (toLE 2 1 ++ (toLE 2 1 ++ (toLE 2 0 ++ (toLE 4 2 ++ (List.replicate 16 0 ++
    (toLE 4 1000 ++ (toLE 4 1000 ++ (toLE 4 10000 ++ (toLE 4 1000 ++ (toLE 4 10000 ++ (List.replicate 12 0 ++
      (toLE 4 0 ++ (toLE 4 1000 ++ (toLE 2 2 ++ (List.replicate 6 0 ++
        (toLE 2 0 ++ (toLE 2 0 ++ (toLE 4 0 ++ (toLE 2 1 ++ (toLE 2 0 ++ (toLE 4 500 ++
          (List.replicate 36 0 ++ (toLE 4 100 ++ (toLE 4 100 ++ (toLE 4 50 ++ (toLE 4 50 ++ (List.replicate 12 0 ++
            (List.replicate 16 0 ++ (toLE 4 100 ++ (toLE 4 90 ++ (List.replicate 8 0 ++
              (toLE 4 10 ++ List.replicate 12 0))))))))))))))))))))))))))))))))))

/-- A channel plan of its own. -/
def radioBytes : List Byte := toLE 4 863125 ++ (toLE 2 200 ++ List.replicate 26 0)

def aSection (type : Nat) (b : List Byte) : Section := { type := type, flags := 0, entry := 0, bytes := b }

/-- A Cartoon of that task. -/
def cart : Cartoon :=
  { identity := 7
    version := 2
    predIdentity := 7
    predVersion := 2
    classes := [0, 0, 0, 0]
    epochLen := 1
    pooled := false
    robotFlows := 0
    systemFlows := 1
    tasks := 1
    startupEpochs := 4
    proven := [0, 0, 0, 0]
    length := 1024
    sections := [aSection 0x01 taskBytes, aSection 0x04 routeBytes, aSection 0x13 loopBytes, aSection 0x11 planBytes,
      aSection 0x17 radioBytes] }

/-- The device runs that Cartoon, in epoch 10 of 1 ms. -/
def running : State :=
  ((atTime 10500000 up).modDsp fun d => { d with
    mode := .running
    running := some cart }).modEpoch fun e => { e with
    n := 10
    length := 1000000
    nominal := 10000000
    begun := true }

/-- The same with a FLEET stop active. -/
def stopped : State := running.modFleet fun f => { f with stops := [bootStop] }

end Sys2Proof.Tests
end

