-- ==== Sys2Proof/Tests/Slice0.lean ====
section
/-! SUPPORT. Ill-formed terms the checks of well-formedness refuse, instruction words decoded, and small tests
against the spec's worked examples. -/

namespace Sys2Proof.Tests

-- one theorem after another, for memory's sake
set_option Elab.async false

open Sys2Proof Sys2Proof.Machine

/-! ## Well-formedness -/

/-- R110: a post-increment load into its own base; the same registers are fine in the offset form. -/
theorem test_wf_load :
    (Instr.ld at0 .ok 5 5 true 4).wf = false ∧ (Instr.lda at0 .ok 5 5 true 4).wf = false ∧
      (Instr.ld at0 .ok 5 5 false 4).wf = true ∧ EInstr.wf (.ld 5 5 true 4) = false := by
  decide +kernel

/-- R103: a field that leaves the register. -/
theorem test_wf_field :
    (Instr.ext at0 1 2 4 28).wf = false ∧ (Instr.exts at0 1 2 31 1).wf = false ∧
      (Instr.ins at0 1 2 1 31).wf = false ∧ (Instr.ext at0 1 2 4 27).wf = true := by
  decide +kernel

/-- R112: a branch or jump of offset 0. -/
theorem test_wf_branch :
    (Instr.beq at0 1 2 0).wf = false ∧ (Instr.bne at0 1 2 0).wf = false ∧ (Instr.blt at0 1 2 0).wf = false ∧
      (Instr.bge at0 1 2 0).wf = false ∧ (Instr.bltu at0 1 2 0).wf = false ∧ (Instr.bgeu at0 1 2 0).wf = false ∧
      (Instr.jmp at0 0).wf = false ∧ (Instr.jmp at0 1).wf = true := by
  decide +kernel

/-- R113: a loop of bound 0. R120: FEMIT of registers past g31. -/
theorem test_wf_loop_femit :
    (Instr.loop at0 1 0 9).wf = false ∧ (Instr.loop at0 1 1 9).wf = true ∧
      (Instr.femit at0 1 29 0 0).wf = false ∧ (Instr.femit at0 1 28 0 0).wf = true := by
  decide +kernel

/-- Canvas words with errors are named once each, in rising order. -/
theorem test_wf_rising :
    (Instr.sweepComplete [5, 5]).wf = false ∧ (Instr.grant [9, 2] [] none).wf = false ∧
      (Instr.grant [] [9, 2] none).wf = false ∧ (Instr.block [3, 3]).wf = false ∧ (Instr.unblock [4, 1]).wf = false ∧
      (Instr.stopReleaseWrite 0 [6, 6]).wf = false ∧ (Instr.fstop at0 1 2 .zone [8, 1]).wf = false ∧
      (Instr.fsrel at0 1 2 [8, 8]).wf = false ∧ (Instr.reportHandling [7, 3]).wf = false ∧
      (Instr.withdraw [3, 2]).wf = false ∧ (Instr.robotLost 9 [4, 4]).wf = false ∧
      (Instr.grant [2, 9] [7] none).wf = true := by
  decide +kernel

/-- Lengths: an MPDU has at most 127 bytes, a spectrum 2,048 bins, STAGE_DATA 1 to 4,096 bytes. -/
theorem test_wf_lengths :
    (Instr.stationFrameReceived 0 0 0 (List.replicate 128 0)).wf = false ∧
      (Instr.spectrumEstimate 0 0 0 []).wf = false ∧
      (Instr.stageData 0 0 [] 0).wf = false ∧ (Instr.stageData 0 0 [7] 0).wf = true := by
  decide +kernel

/-- R7, R387: register accesses of 3 or of no bytes, and Canvas reads outside the window or without a finding
for each word. -/
theorem test_wf_accesses :
    (Instr.registerWrite 0x10000 3 0).wf = false ∧ (Instr.registerWrite 0x10000 8 0).wf = true ∧
      (Instr.rcRegisterRead 0x10000 0).wf = false ∧ (Instr.pcieCanvasRead 0x1FFFFFC 1 [.ok]).wf = false ∧
      (Instr.pcieCanvasRead 0x2000000 2 [.ok]).wf = false ∧ (Instr.pcieCanvasRead 0x3FFFFFC 1 [.ok]).wf = true := by
  decide +kernel

/-! ## Instruction words -/

/-- The program of Table 4-17. -/
theorem test_decode_table_4_17 :
    decodeEasel 0x51010000 0x90100000 = some (.lda 8 1 false 0) ∧
      decodeEasel 0x90100000 0xC4400006 = some (.vbcast 0 8) ∧
      decodeEasel 0xC4400006 0xF8000010 = some (.loop 2 16 6) ∧
      decodeEasel 0x48298020 0 = some (.vld 1 9 true 32) ∧
      decodeEasel 0x80840001 0 = some (.lane .vsub 2 1 0) ∧
      decodeEasel 0x88088000 0 = some (.vmac .vmac 0 2 2) ∧
      decodeEasel 0x8CC20000 0 = some (.amov .amov 3 0 8) ∧
      decodeEasel 0x4C6B0000 0 = some (.vst 3 11 false 0) ∧
      decodeEasel 0x54410004 0 = some (.sta 2 1 false 4) ∧
      decodeEasel 0xE4580A10 0 = some (.async .fstk 12 40 1) ∧
      decodeEasel 0xC0000001 0 = some .endTask := by
  decide +kernel

/-- R98, R99, R113: the extension word on its own, an unassigned opcode and function code, a reserved bit, a
missing extension word. -/
theorem test_decode_illegal :
    decodeEasel 0xF8000010 0 = none ∧ decodeEasel 0x34000000 0 = none ∧ decodeEasel 0x0000000F 0 = none ∧
      decodeEasel 0x80840401 0 = none ∧ decodeEasel 0xC4400006 0x90100000 = none := by
  decide +kernel

/-- Words laid out field by field from Table 4-1 and Tables 4-3 to 4-5. -/
theorem test_decode_scalar :
    -- ADD g3, g1, g2: R, op 0x00, d 3, a 1, b 2, func 0x000
    decodeEasel 0b00000000011000010001000000000000 0 = some (.alu .add 3 1 2) ∧
    -- SUBS g31, g30, g29: R, op 0x00, d 31, a 30, b 29, func 0x00D
    decodeEasel 0b00000011111111101110100000001101 0 = some (.alu .subs 31 30 29) ∧
    -- CLZ g4, g5: R, op 0x00, d 4, a 5, b 0, func 0x00E
    decodeEasel 0b00000000100001010000000000001110 0 = some (.clz 4 5) ∧
    -- SLTIU g6, g7, 0xFFFE: I, op 0x06, d 6, a 7
    decodeEasel 0b00011000110001111111111111111110 0 = some (.alui .sltiu 6 7 0xFFFE#16) ∧
    -- LUI g9, 0x8001: I, op 0x08, d 9, a 0
    decodeEasel 0b00100001001000001000000000000001 0 = some (.lui 9 0x8001#16) ∧
    -- SRAI g1, g2, 31: I, op 0x09, imm[15:14] 2, n 31
    decodeEasel 0b00100100001000101000000000011111 0 = some (.shi .sra 1 2 31) ∧
    -- INS g10, g11, 4, 28: I, op 0x0A, imm[15:14] 2, pos 4, len - 1 = 27
    decodeEasel 0b00101001010010111000000010011011 0 = some (.field .ins 10 11 4 27) ∧
    -- MULHU g1, g2, g3: R, op 0x0B, func 0x002
    decodeEasel 0b00101100001000100001100000000010 0 = some (.mul .mulhu 1 2 3) ∧
    -- REMU g1, g2, g3: R, op 0x0C, func 0x003
    decodeEasel 0b00110000001000100001100000000011 0 = some (.div .remu 1 2 3) := by
  decide +kernel

/-- Words laid out field by field from Table 4-1 and Tables 4-6 to 4-9. -/
theorem test_decode_memory_and_vector :
    -- ST g5, [g6-4]: M, op 0x11, t 5, a 6, m 0, off 0x7FFC
    decodeEasel 0b01000100101001100111111111111100 0 = some (.st 5 6 false 0x7FFC#15) ∧
    -- VSTA v15, [g1], 32: M, op 0x17, t[25] 0, v 15, a 1, m 1, off 32
    decodeEasel 0b01011101111000011000000000100000 0 = some (.vsta 15 1 true 32#15) ∧
    -- VSEL v1, v2, v3, v4: V, op 0x20, func 0x00C
    decodeEasel 0b10000000010010001101000000001100 0 = some (.vsel 1 2 3 4) ∧
    -- VSRLI v1, v2, 7: V, op 0x20, func 0x060 + 7
    decodeEasel 0b10000000010010000000000001100111 0 = some (.vshi .srl 1 2 7) ∧
    -- VINS v3, g17, 6: VL, op 0x24, v 3, g 17, lane 6, kind 2
    decodeEasel 0b10010000111000111010000000000000 0 = some (.vins 3 17 6) ∧
    -- VMULH v1, v2, v3: V, op 0x21, func 0x001
    decodeEasel 0b10000100010010001100000000000001 0 = some (.vmul .vmulh 1 2 3) ∧
    -- VMSU a3, v4, v5: VM, op 0x22, acc 3, va 4, vb 5, func 1
    decodeEasel 0b10001011000100010100000000000001 0 = some (.vmac .vmsu 3 4 5) ∧
    -- ALD a2, v9, 31: VA, op 0x23, v 9, acc 2, sh 31, func 5
    decodeEasel 0b10001110011001111100000000000101 0 = some (.ald 2 9 31) := by
  decide +kernel

/-- Words laid out field by field from Table 4-1 and Tables 4-10 to 4-12. -/
theorem test_decode_control_and_fabric :
    -- BGEU g1, g2, 16383: B, op 0x2D, a 1, b 2
    decodeEasel 0b10110100001000100011111111111111 0 = some (.br .bgeu 1 2 16383#14) ∧
    -- CALL 300: J, op 0x2F, target 300
    decodeEasel 0b10111100000000000000000100101100 0 = some (.call 300#14) ∧
    -- LIDX g8: X, op 0x30, d 8, func 4
    decodeEasel 0b11000001000000000000000000000100 0 = some (.lidx 8) ∧
    -- FEMIT g1, g28, 3, 63: FS, op 0x38, sub 6, d 1, s 28, t 3, imm 63
    decodeEasel 0b11100001100000111100000110111111 0 = some (.femit 1 28 3 63) ∧
    -- FMBR g1, g2, 15: FS, op 0x38, sub 5, d 1, s 0, t 2, imm 15
    decodeEasel 0b11100001010000100000000100001111 0 = some (.fmbr 1 2 15) ∧
    -- FPGET g1, 2047, 3: FA, op 0x39, sub 4, s 1, task 2047, slot 3
    decodeEasel 0b11100101000000111111111111110000 0 = some (.async .fpget 1 2047#11 3) := by
  decide +kernel


/-! ## One instruction on an Easel -/

/-- The instruction issues from a bank with these general registers and leaves this value in g3. -/
def leaves (i : EInstr) (c : Instr) (g1 g2 r : Word) : Bool :=
  gives c (aboutWith i fun b => { b with g := (b.g.set 1 g1).set 2 g2 }) fun t => t.easels[0].bank.g[3] == r

/-- R101, R102: ADD wraps, ADDS saturates, SRA takes b[4:0]. -/
theorem test_scalar :
    leaves (.alu .add 3 1 2) (.add at0 3 1 2) 0xFFFFFFFF 2 1 = true ∧
      leaves (.alu .adds 3 1 2) (.adds at0 3 1 2) 0x7FFFFFFF 1 0x7FFFFFFF = true ∧
      leaves (.alu .sra 3 1 2) (.sra at0 3 1 2) 0x80000000 0x21 0xC0000000 = true := by
  decide +kernel

/-- R104: the two corners of DIV and REM. -/
theorem test_divide :
    leaves (.div .div 3 1 2) (.div at0 3 1 2) 7 0 0xFFFFFFFF = true ∧
      leaves (.div .rem 3 1 2) (.rem at0 3 1 2) 7 0 7 = true ∧
      leaves (.div .div 3 1 2) (.div at0 3 1 2) 0x80000000 0xFFFFFFFF 0x80000000 = true ∧
      leaves (.div .rem 3 1 2) (.rem at0 3 1 2) 0x80000000 0xFFFFFFFF 0 = true ∧
      leaves (.div .div 3 1 2) (.div at0 3 1 2) 0xFFFFFFF9 2 0xFFFFFFFD = true := by
  decide +kernel

/-- R103: EXTS of a field of 4 bits at bit 8; INS. -/
theorem test_fields :
    leaves (.field .exts 3 1 8 3) (.exts at0 3 1 8 3) 0x00000C00 0 0xFFFFFFFC = true ∧
      leaves (.field .ext 3 1 8 3) (.ext at0 3 1 8 3) 0x00000C00 0 0xC = true ∧
      leaves (.field .ins 3 1 4 3) (.ins at0 3 1 4 3) 0xF 0 0xF0 = true := by
  decide +kernel

/-- R108: with sh = 8 a lane of 384 gives 1 from AMOV and 2 from AMOVR, a lane of -384 gives -2 and -1. -/
theorem test_amov :
    let acc (x : BitVec 64) (b : Bank) : Bank := { b with a := b.a.set 0 (Vector.replicate 8 x) }
    gives (.amov at0 3 0 8) (aboutWith (.amov .amov 3 0 8) (acc 384)) (fun t => t.easels[0].bank.v[3][7] == 1) ∧
      gives (.amovr at0 3 0 8) (aboutWith (.amov .amovr 3 0 8) (acc 384)) (fun t => t.easels[0].bank.v[3][7] == 2) ∧
      gives (.amov at0 3 0 8) (aboutWith (.amov .amov 3 0 8) (acc (-384))) (fun t => t.easels[0].bank.v[3][7] == -2) ∧
      gives (.amovr at0 3 0 8) (aboutWith (.amov .amovr 3 0 8) (acc (-384)))
        (fun t => t.easels[0].bank.v[3][7] == -1) := by
  decide +kernel

/-- R112, R113: a taken branch, a loop of three iterations, and a loop skipped. -/
theorem test_control :
    gives (.beq at0 0 0 9) (about (.br .beq 0 0 9)) (fun t => t.easels[0].bank.pc == 9) ∧
      gives (.loop at0 1 4 9) (aboutWith (.loop 1 4 9) fun b => { b with g := b.g.set 1 3 })
        (fun t => t.easels[0].bank.pc == 2 && t.easels[0].bank.loops.length == 1) ∧
      gives (.loop at0 1 4 9) (about (.loop 1 4 9))
        (fun t => t.easels[0].bank.pc == 10 && t.easels[0].bank.loops.isEmpty) := by
  decide +kernel

/-- Table 3-21: the task begins after 12 steps of entry, so its first instruction issues at step 12. -/
theorem test_entry : (about (.li 3 5)).easels[0].bank.next = 12 := by decide +kernel

/-! ## Arithmetic of the blocks -/

/-- R354: the worked example of the time base. -/
theorem test_extend_stamp : extendStamp 0xF4147E00 0x186A123500004000 = 0x186A1234F4147E00 := by decide +kernel

/-- R350: the worked example of the time base, half a second after a commit of ±1 ppm. -/
theorem test_corrected :
    let t (rate : Int) : Tmb := { State.reset.tmb with
      rate := rate
      offset := 0
      rateBase := 0 }
    (t 1099512).correctedAt 500000000 = 500000500 ∧ (t (-1099512)).correctedAt 500000000 = 499999499 := by
  decide +kernel

/-- R339: u after 90.1 s of HOLDOVER from 18 ns at the register defaults is 550 ns (the worked example of the
receiver). -/
theorem test_holdover_u :
    let s := up.modServo fun v => { v with u0 := 18 }
    ({ s with now := s.servo.holdAt + 90100000000 }).holdU = 550 := by
  decide +kernel

/-- Table 7-32: the feedback of both paths, the read-ahead and the learned bin. -/
theorem test_guidance :
    pathOut false 24 [(120, 13421773, 0), (520, 838861, 0), (30, 8388608, 0)] = 137 ∧
      pathOut false 16 [(-40, 16384000, 0), (-140, 655360, 0), (15, 32768000, 0)] = -3900 ∧
      integrate false 400 120 100000 = 520 ∧
      (let z : GlazeCfg := { binLen := 250, route := 3, fsh := 6, lead := 2, gamma := 3277, curv := false, gMax := 100000 }
       z.bin 37410 = 149 ∧ z.learn 10240 137 = 13587) := by
  decide +kernel

/-- The feed pusher's profile of the worked example on corridors. -/
def pusher : Profile :=
  { v := 600, a := 300, j := 600, aStop := 1000, jStop := 4000, tReact := 100, tHold := 500, front := 900
    rear := 700, mPos := 100, reverse := true, drive := false, revPct := 100 }

/-- R220, R224: that example's move lasts 22.5 s and ends at 22,000 mm; a stop at 600 mm/s brakes for 0.85 s over
255 mm. -/
theorem test_stroke :
    let p := planPos pusher (10000 * fx) 0 0 (22000 * fx)
    segsDur p.segs = 22500000000 ∧ p.endPos = 22000 * fx ∧
      (let b := planBrake pusher.aStop pusher.jStop 0 (600 * fx) 0
       segsDur b.1 = 850000000 ∧ b.2 = 255 * fx) := by
  decide +kernel

/-- R55, R56: days left at the year 1 and year 5 rates of the worked example, which it gives to three figures. -/
theorem test_days_left :
    ((daysLeftOf 5400 4320 8760 82 10 : Int) - 14381).natAbs ≤ 5 ∧
      ((daysLeftOf 5400 4320 43800 85 10 : Int) - 10950).natAbs ≤ 5 ∧ daysLeftOf 5400 4320 8760 0 10 = 0xFFFF := by
  decide +kernel

/-- R302, R304: the EU defaults on sub-GHz give L = 360 s, a class 1 ceiling of 324 s and a class 2 ceiling of 288 s
(the worked example on ledgers); 285.97 s is under it, 288.69 s is not. -/
theorem test_ledger_ceilings :
    let l : Ledger := { Ledger.default 1 with
      window := 3600
      limit := 1000
      reserve := 100
      keep := 100 }
    let at_ (n : Nat) : Ledger := { l with buckets := [(n, 0)] }
    l.cap = 360000000000 ∧ l.threshold 1 = 324000000000 ∧ l.threshold 2 = 288000000000 ∧
      (at_ 285970000000).allows 2 0 = true ∧ (at_ 288690000000).allows 2 0 = false ∧
      (at_ 288690000000).allows 1 1360000 = true := by
  decide +kernel

/-! ## Published algorithms -/

/-- SHA-256 of "abc" (FIPS 180-4). -/
theorem test_sha256 :
    ofBE (sha256 [0x61, 0x62, 0x63]) = 0xBA7816BF8F01CFEA414140DE5DAE2223B00361A396177A9CB410FF61F20015AD := by
  decide +kernel

/-- AES-128 of FIPS 197, appendix C.1. -/
theorem test_aes :
    aesBlock (aesKeys (toBE 16 0x000102030405060708090A0B0C0D0E0F)) (toBE 16 0x00112233445566778899AABBCCDDEEFF) =
      toBE 16 0x69C4E0D86A7B0430D8CDB78070B4C55A := by
  decide +kernel

/-- CRC-32 of "123456789", the published check value. -/
theorem test_crc32 : crc32 [0x31, 0x32, 0x33, 0x34, 0x35, 0x36, 0x37, 0x38, 0x39] = 0xCBF43926 := by
  decide +kernel

end Sys2Proof.Tests
end

