-- ==== Sys2Proof/Tests/WitnessA.lean ====
section
/-! SUPPORT. States and operands that meet the hypotheses of the statements on stops, the timing contract and
the Easels, clause by clause, at the boundaries of their ranges. -/

namespace Sys2Proof.Tests

-- one theorem after another, for memory's sake
set_option Elab.async false

open Sys2Proof Sys2Proof.Machine

/-! ## Stops (O1, O2) -/

theorem witness_StopSourcesRaiseFleetStops :
    (up.fleet.input false = true ∧ up.pwr.state = .run ∧ up.tmb.running = true ∧ up.follows = false ∧
      up.fleet.fleetActive = false) ∧
    (let s := pair.modTwin fun t => { t with state := .standbyInstep }
     s.fleet.input true = true ∧ s.follows = true ∧ s.pwr.state = .run ∧ s.tmb.running = true ∧ s.twin.link ≠ 0) ∧
    (let s := pair.modTwin fun t => { t with
      state := .standbySyncing
      link := 0 }
     s.follows = true ∧ s.twin.link = 0) ∧
    (let s := { up with pwr := { up.pwr with state := .deep } }
     s.fleet.input false = true ∧ s.pwr.state = .deep) ∧
    (State.reset.fleet.input false = true ∧ State.reset.tmb.running = false) ∧
    (flagOf 1#32 0 = true ∧ up.dpUp = true ∧ flagOf 0xFFFFFFFE#32 0 = false ∧ State.reset.dpUp = false) ∧
    (let s := up.modFleet fun f => { f with stops := [bootStop] }
     s.fleet.input true = true ∧ s.fleet.fleetActive = true ∧ s.follows = false) ∧
    (let s := up.modFleet fun f => { f with lastSeq := 0xFFFF }
     s.fleet.fleetActive = false ∧ s.fleet.lastSeq = 0xFFFF) ∧
    (let s := up.modFleet fun f => { f with
      inputA := false
      differSince := some (up.now - 100 * ms - 1) }
     s.fleet.input false = false ∧ s.fleet.discrepancy = false ∧
      up.now - 100 * ms - 1 + s.fleet.discTime * 10 * ms < s.now ∧
      s.now ≤ up.now - 100 * ms + s.fleet.discTime * 10 * ms) ∧
    (let s := up.modFleet fun f => { f with
      discrepancy := true
      highSince := some (up.now - 100 * ms) }
     s.fleet.discrepancy = true ∧ s.fleet.highSince = some (up.now - 100 * ms) ∧
      up.now - 100 * ms + 100 * ms ≤ s.now) := by decide +kernel

/-- One stop is active, and both inputs have been high for 100 ms. -/
def oneStop (x : Stop) : State := up.modFleet fun f => { f with
  stops := [x]
  highSince := some (up.now - 100 * ms) }

/-- The boot stop of a unit whose cold-started Cartoon runs. -/
def selfRelease : State := ((oneStop bootStop).modFleet fun f => { f with bootHold := false }).modDsp fun d => { d with
  mode := .running
  coldStarted := true }

theorem witness_StopReleasesAndIncarnation :
    (let s := oneStop { bootStop with
      source := 1
      seq := 7 }
     flagOf 0x00070001#32 0 = true ∧ fieldOf 0x00070001#32 16 16 = 7 ∧ 1 ≤ s.pcieRole ∧ s.inputsHigh = true ∧
      s.fleet.discrepancy = false ∧ s.twin.state = .solo) ∧
    (let s := oneStop { bootStop with
      kind := .robot
      source := 4
      seq := 7
      standstill := true }
     s.fleet.fleetActive = false ∧ s.twin.state = .solo ∧ 1 ≤ s.pcieRole) ∧
    (let s := (oneStop { bootStop with
      source := 5
      seq := 7 }).modTfc fun t => { t with sinceLate := 999 }
     s.tfc.sinceLate < 1000 ∧ 1 ≤ s.pcieRole) ∧
    (let s := (oneStop { bootStop with
      kind := .zone
      seq := 7 }).modTwin fun t => { t with state := .standbyInstep }
     s.twin.state ≠ .solo ∧ s.twin.state ≠ .active ∧ 1 ≤ s.pcieRole) ∧
    plain.pcieRole = 0 ∧
    (let s := up.modFleet fun f => { f with
      stops := [bootStop]
      inputA := false
      highSince := none }
     1 ≤ s.pcieRole ∧ s.inputsHigh = false) ∧
    (∀ x ∈ [bootStop], x.seq ≠ fieldOf 0x00070001#32 16 16) ∧
    flagOf 0x00070000#32 0 = false ∧
    (selfRelease.fleet.stops = [bootStop] ∧ bootStop.seq = 0 ∧ selfRelease.fleet.bootHold = false ∧
      selfRelease.inputsHigh = true ∧ selfRelease.dsp.coldStarted = true ∧ selfRelease.dsp.mode = .running ∧
      selfRelease.standby = false) ∧
    (up.fleet.bootHold = true ∧ up.dsp.coldStarted = false) ∧
    (up.fleet.incStored = false ∧ up.pwr.booted = true ∧ up.fleet.incFailAt = none) ∧
    (let s := up.modFleet fun f => { f with incFailAt := some (up.now - second) }
     s.fleet.incStored = false ∧ up.now - second + second ≤ s.now ∧ s.now < up.now - second + 1 + second) ∧
    (up.modFleet fun f => { f with incStored := true }).fleet.incStored = true ∧
    (let s := up.modFleet fun f => { f with superframes := 17 }
     s.fleet.restart = true ∧ 17 ≤ s.fleet.superframes ∧ up.fleet.superframes ≤ 16) := by decide +kernel

/-! ## The timing contract (O3 to O6) -/

theorem witness_LatePolicyWrite :
    up.awake = true ∧ 2 ≤ up.pcieRole ∧ plain.pcieRole < 2 ∧
    (10 ≤ fieldOf 0x000A0403#32 16 16 ∧ 4 ≤ fieldOf 0x000A0403#32 8 7 ∧ fieldOf 0x000A0403#32 0 4 < 4 ∧
      1 ≤ fieldOf 0x000A0403#32 0 4) ∧
    ¬(fieldOf 0x000A0404#32 0 4 < fieldOf 0x000A0404#32 8 7) := by decide +kernel

/-- An epoch whose deadline has come. -/
def dueEpoch : State := atTime (2 * second) (up.modEpoch fun e => { e with begun := true })

theorem witness_LateEpochsAndTheirAnswers :
    (dueEpoch.awake = true ∧ dueEpoch.epoch.begun = true ∧ dueEpoch.epoch.judged = false ∧
      dueEpoch.deadline ≤ dueEpoch.time ∧ dueEpoch.dsp.inSwapEpoch = false ∧
      dueEpoch.workOf dueEpoch.epoch.n = false ∧ dueEpoch.epoch.outLate = false) ∧
    (let s := dueEpoch.modEpoch fun e => { e with outLate := true }
     s.epoch.outLate = true ∧ s.deadline ≤ s.time) ∧
    (let s := up.modTfc fun t => { t with consec := 3 }
     s.dsp.mode ≠ .test ∧ s.tfc.lateCause = false ∧ s.tfc.admitN ≤ s.tfc.consec ∧ s.standby = false ∧
      s.tfc.admitClosed = false) ∧
    (let s := up.modTfc fun t => { t with consec := 16 }
     s.dsp.mode ≠ .test ∧ s.tfc.stopRaised = false ∧ s.tfc.stopN ≤ s.tfc.consec ∧ s.follows = false ∧
      s.fleet.fleetActive = false) ∧
    (let s := (pair.modTwin fun t => { t with state := .standbyInstep }).modTfc fun t => { t with consec := 16 }
     s.follows = true ∧ s.tfc.stopN ≤ s.tfc.consec ∧ s.dsp.mode ≠ .test ∧ s.tfc.stopRaised = false) ∧
    (inTest.dsp.mode = .test ∧ up.tfc.consec < up.tfc.admitN ∧ up.epoch.begun = false ∧
      up.tfc.lateCause = false) ∧
    (let s := up.modTfc fun t => { t with
      lateCause := true
      onTime := 100 }
     s.tfc.lateCause = true ∧ s.tfc.reopenN ≤ s.tfc.onTime ∧ ¬(s.tfc.reopenN ≤ 99)) := by decide +kernel

/-- A region changed. -/
def region0 (f : Region → Region) (s : State) : State :=
  s.modTfc fun t => { t with regions := t.regions.set 0 (f t.regions[0]) }

theorem witness_MonitorAndRails :
    up.awake = true ∧ up.tfc.regions[0].disturbed = false ∧
    (region0 (fun r => { r with disturbed := true }) up).tfc.regions[0].disturbed = true ∧
    (let s := region0 (fun r => { r with chains := r.chains.set 3 { ReplicaChain.reset with bad := 8 } }) up
     s.tfc.regions[0].chains[3].out = false ∧ 8 ≤ s.tfc.regions[0].chains[3].bad ∧
      s.tfc.regions[0].chains[4].bad < 8) ∧
    (let s := region0 (fun r => { r with sensors := r.sensors.set 1 { Sensor.reset with
        since := some (up.now - second) } }) up
     s.tfc.regions[0].sensors[1].out = false ∧ up.now - second + second ≤ s.now ∧
      s.now < up.now - second + 1 + second) ∧
    (let s := up.modTfc fun t => { t with regions := t.regions.map fun r => { r with goodRun := 10 } }
     (∀ n : Fin 4, 10 ≤ s.tfc.regions[n].goodRun) ∧ s.awake = true) ∧
    (let s := up.modTfc fun t => { t with regions := t.regions.map fun r => { r with
        railSet := 605
        railRead := 605
        highSince := some (up.now - second) } }
     s.awake = true ∧ s.tfc.regions[0].lastLower = none ∧ s.tfc.regions[0].highSince = some (up.now - second) ∧
      605 ≤ s.tfc.regions[0].rail ∧
      (∀ p : Fin 4, (s.rails.set 0 (s.tfc.regions[0].rail - 5))[(pairOf p).1] ≤
        (s.rails.set 0 (s.tfc.regions[0].rail - 5))[(pairOf p).2] + 140 ∧
        (s.rails.set 0 (s.tfc.regions[0].rail - 5))[(pairOf p).2] ≤
          (s.rails.set 0 (s.tfc.regions[0].rail - 5))[(pairOf p).1] + 140) ∧
      s.inSkew 0 = false ∧ s.tfc.regions[0].railSet ≠ s.tfc.regions[0].rail - 5) ∧
    (let s := up.modTfc fun t => { t with regions := t.regions.map fun r => { r with
        railSet := 604
        railRead := 604 } }
     s.tfc.regions[0].rail < 605) ∧
    (up.tfc.regions[2].avsFault = false ∧ up.tfc.regions[2].avsSince = none) ∧
    (let s := region0 (fun r => { r with avsSince := some (up.now - ms) }) up
     s.tfc.regions[0].avsSince = some (up.now - ms) ∧ up.now - ms + ms ≤ s.now ∧ s.tfc.regions[0].avsFault = false) ∧
    (let s := region0 (fun r => { r with
        railSet := 700
        avsFault := true
        avsRetryAt := up.now - ms }) up
     s.tfc.regions[0].avsFault = true ∧ s.tfc.regions[0].avsRetryAt + ms ≤ s.now ∧
      (680#12).toNat ≤ s.tfc.regions[0].railSet + 20 ∧ s.tfc.regions[0].railSet ≤ (680#12).toNat + 20 ∧
      s.now < s.tfc.regions[0].avsRetryAt + 1 + ms) := by decide +kernel

/-- A pair of regions changed. -/
def pair0 (f : SkewPair → SkewPair) (s : State) : State :=
  s.modTfc fun t => { t with pairs := t.pairs.set 0 (f t.pairs[0]) }

theorem witness_ContractSkewAndPlans :
    (let s := region0 (fun r => { r with
        railSet := 900
        railRead := 900
        lowRun := 10 }) up
     s.tfc.regions[0].atRisk = false ∧ 900 ≤ s.tfc.regions[0].rail ∧ 10 ≤ s.tfc.regions[0].lowRun) ∧
    (let s := region0 (fun r => { r with breachRun := 2 }) up
     s.tfc.regions[0].breach = false ∧ 2 ≤ s.tfc.regions[0].breachRun) ∧
    (let s := region0 (fun r => { r with goodSince := some (up.now - second) }) up
     s.tfc.regions[0].goodSince = some (up.now - second) ∧ up.now - second + second ≤ s.now) ∧
    (let s := pair0 (fun p => { p with badSince := some (up.now - ms) }) up
     s.tfc.pairs[0].badSince = some (up.now - ms) ∧ up.now - ms + ms ≤ s.now ∧ s.tfc.pairs[0].skew = false) ∧
    (let s := pair0 (fun p => { p with
        okSince := some (up.now - second)
        skew := true }) up
     s.tfc.pairs[0].okSince = some (up.now - second) ∧ up.now - second + second ≤ s.now ∧ s.tfc.pairs[0].skew = true) ∧
    (let s := pair0 (fun p => { p with badSince := some (up.now - 100 * ms) }) up
     s.awake = true ∧ s.tfc.pairs[0].badSince = some (up.now - 100 * ms) ∧ up.now - 100 * ms + 100 * ms ≤ s.now) ∧
    (let s := { up with now := 86400 * second }
     s.awake = true ∧ s.tfc.dayAt + 86400 * second ≤ s.now) ∧
    (up.awake = true ∧ up.tfc.capAt + second ≤ up.now ∧ up.now < up.tfc.dayAt + 86400 * second) ∧
    (let s := up.modTfc fun t => { t with capAt := up.now - second + 1 }
     s.now < s.tfc.capAt + second) ∧
    (up.tfc.regions[0].rail < 900 ∧ up.tfc.regions[0].breachRun < 2 ∧ up.tempDiff 0 ≤ 45) := by decide +kernel

/-! ## Easel instructions (O7 to O19) -/

def scalarForms : List EInstr :=
  [.alu .add 1 2 3, .alu .sub 1 2 3, .alu .and 1 2 3, .alu .or 1 2 3, .alu .xor 1 2 3, .alu .sll 1 2 3, .alu .srl 1 2 3,
   .alu .sra 1 2 3, .alu .slt 1 2 3, .alu .sltu 1 2 3, .alu .min 1 2 3, .alu .max 1 2 3, .alu .adds 1 2 3,
   .alu .subs 0 2 3, .clz 1 2, .alui .addi 1 2 0xFFFF, .alui .andi 1 2 3, .alui .ori 1 2 3, .alui .xori 1 2 3,
   .alui .slti 1 2 0x8000, .alui .sltiu 1 2 3, .li 1 0x8000, .lui 1 0x8000, .shi .sll 1 2 31, .shi .srl 1 2 31,
   .shi .sra 1 2 31]

def laneForms : List EInstr :=
  [.field .ext 1 2 0 31, .field .exts 1 2 31 0, .field .ins 1 2 8 7, .mul .mul 1 2 3, .mul .mulh 1 2 3,
   .mul .mulhu 1 2 3, .div .div 1 2 3, .div .divu 1 2 3, .div .rem 1 2 3, .div .remu 1 2 3, .lane .vadd 1 2 3,
   .lane .vsub 1 2 3, .lane .vand 1 2 3, .lane .vor 1 2 3, .lane .vxor 1 2 3, .lane .vadds 1 2 3, .lane .vsubs 1 2 3,
   .lane .vmin 1 2 3, .lane .vmax 1 2 3, .lane .vceq 1 2 3, .lane .vclt 1 2 3, .lane .vcltu 1 2 3, .vsel 1 2 3 4,
   .vabs 1 2, .vshi .sll 1 2 31, .vshi .srl 1 2 0, .vshi .sra 1 2 31]

def moveForms : List EInstr :=
  [.vbcast 1 2, .vext 1 2 7, .vins 1 2 0, .vmul .vmul 1 2 3, .vmul .vmulh 1 2 3, .vmac .vmac 1 2 3, .vmac .vmsu 1 2 3,
   .amov .amov 1 2 63, .amov .amovr 1 2 0, .ahalf .amovl 1 2, .ahalf .amovh 1 2, .aclr 3, .ald 1 2 31]

def accessForms : List EInstr :=
  [.ld 1 2 false 0, .st 1 2 true 4, .vld 1 2 true 32, .vst 1 2 false 0, .lda 1 2 true 4, .sta 1 2 false 0,
   .vlda 1 2 false 0, .vsta 1 2 true 32, .jmp 1, .call 0x3FFF, .endTask, .ret, .brk, .lidx 5, .loop 1 0xFFFF 0x3FFF]

def fabricForms : List EInstr :=
  [.fcprb 1 2, .fcprbv 1 2, .flock 1 31, .funlock 1 0, .fmbs 1 2 15, .fmbr 1 2 0, .femit 1 28 3 63, .ftime 1 2,
   .fstamp 1, .fstop 1 2 .zone, .fstop 1 2 .robot, .fsrel 1 2, .fpcnt 1 63, .async .fgrant 1 0x7FF 3,
   .async .fstk 1 0 0, .async .floop 1 0 0, .async .fpput 1 0 0, .async .fpget 1 0 0]

/-- One instruction of each form. -/
def forms : List EInstr := scalarForms ++ (laneForms ++ (moveForms ++ (accessForms ++ fabricForms)))

theorem witness_ready : ∀ i ∈ forms, readyB (about i) at0 i = true := by decide +kernel

/-- Each form is well formed, and `witness_ready` gives its readiness. -/
theorem witness_Ready (i : EInstr) (h : i ∈ forms) : Ready (about i) at0 i := ready_of (witness_ready i h)

theorem witness_ClzBounds :
    (32 ≤ 32 ∧ ((about (.clz 1 2)).bank 0).rg 2 = 0 ∧ (0 : Nat) < 2 ^ (32 - 32)) ∧
    (let x := ((aboutWith (.clz 1 2) fun b => b.wg 2 0x80000000#32).bank 0).rg 2
     x.toNat < 2 ^ (32 - 0) ∧ 2 ^ (31 - 0) ≤ x.toNat) := by decide +kernel

theorem witness_FieldBits :
    (∀ i : Fin 32, (0xFFFFFFFF#32).getLsbD i = (decide (i.val ≤ 31) && (0xFFFFFFFF#32).getLsbD (0 + i))) ∧
    (∀ i : Fin 32, (0xFFFFFFFF#32).getLsbD i = (0x80000000#32).getLsbD (31 + min i.val 0)) ∧
    (∀ i : Fin 32, (0x0000AB00#32).getLsbD i =
      if 8 ≤ i.val ∧ i.val ≤ 8 + 7 then (0x000000AB#32).getLsbD (i - 8) else (0#32).getLsbD i) := by decide +kernel

theorem witness_ScratchAccesses :
    (let s := aboutWith (.ld 1 2 false 0) fun b => b.wg 2 0x1FFFC#32
     let ea := (s.bank 0).ea 2 false 0
     readyB s at0 (.ld 1 2 false 0) = true ∧ ea % 4 = 0 ∧ ea + 4 = 0x20000 ∧
      tblGet noMark s.easels[0].scrPoison (ea / 4) = false ∧ s.easels[0].defined (ea / 4) = true) ∧
    (let s := about (.st 1 2 true 4)
     let ea := (s.bank 0).ea 2 true 4
     readyB s at0 (.st 1 2 true 4) = true ∧ ea % 4 = 0 ∧ ea + 4 ≤ 0x20000) ∧
    (let s := aboutWith (.vld 1 2 true 32) fun b => b.wg 2 0x1FFE0#32
     let ea := (s.bank 0).ea 2 true 32
     readyB s at0 (.vld 1 2 true 32) = true ∧ ea % 32 = 0 ∧ ea + 32 = 0x20000 ∧
      ∀ i < 8, tblGet noMark s.easels[0].scrPoison (ea / 4 + i) = false ∧
        s.easels[0].defined (ea / 4 + i) = true) ∧
    (let s := about (.vst 1 2 false 0)
     readyB s at0 (.vst 1 2 false 0) = true ∧ (s.bank 0).ea 2 false 0 = 0) ∧
    (let s := about (.st 1 2 false 2)
     readyB s at0 (.st 1 2 false 2) = true ∧ (s.bank 0).ea 2 false 2 % 4 ≠ 0) ∧
    (let s := aboutWith (.st 1 2 false 0) fun b => b.wg 2 0x20000#32
     readyB s at0 (.st 1 2 false 0) = true ∧ 0x20000 < (s.bank 0).ea 2 false 0 + 4) := by decide +kernel

theorem witness_AtelierAccesses :
    (let s := aboutWith (.lda 1 2 false 0) fun b => b.wg 2 0x13FFFFC#32
     let ea := (s.bank 0).ea 2 false 0
     readyB s at0 (.lda 1 2 false 0) = true ∧ ea % 4 = 0 ∧ 0x1000000 ≤ ea ∧ ea + 4 = 0x1400000 ∧
      tblGet noMark s.atelier.poison ((ea - 0x1000000) / 4) = false ∧
      s.atelier.defined 0 ((ea - 0x1000000) / 4) = true) ∧
    (let s := aboutWith (.sta 1 2 true 4) fun b => b.wg 2 0x1000000#32
     readyB s at0 (.sta 1 2 true 4) = true ∧ (s.bank 0).ea 2 true 4 = 0x1000000) ∧
    (let s := aboutWith (.vlda 1 2 false 0) fun b => b.wg 2 0x13FFFE0#32
     let ea := (s.bank 0).ea 2 false 0
     readyB s at0 (.vlda 1 2 false 0) = true ∧ ea % 32 = 0 ∧ ea + 32 = 0x1400000 ∧
      ∀ i < 8, tblGet noMark s.atelier.poison ((ea - 0x1000000) / 4 + i) = false ∧
        s.atelier.defined 0 ((ea - 0x1000000) / 4 + i) = true) ∧
    (let s := aboutWith (.vsta 1 2 false 0) fun b => b.wg 2 0x1000000#32
     readyB s at0 (.vsta 1 2 false 0) = true ∧ (s.bank 0).ea 2 false 0 = 0x1000000) := by decide +kernel

theorem witness_BranchesJumpsAndCalls :
    (∀ op ∈ [BrOp.beq, .bne, .blt, .bge, .bltu, .bgeu], ∀ taken : Bool,
      readyB (about (.br op 1 2 0x3FFF)) at0 (.br op 1 2 0x3FFF) taken = true) ∧
    (let s := aboutWith (.call 9) fun b => { b with rets := List.replicate 7 1 }
     readyB s at0 (.call 9) = true ∧ (s.bank 0).rets.length < 8) ∧
    (let s := aboutWith (.call 9) fun b => { b with rets := List.replicate 8 1 }
     readyB s at0 (.call 9) = true ∧ 8 ≤ (s.bank 0).rets.length) := by decide +kernel

/-- An open loop that does not end here. -/
def openLoop : LoopE := { start := 2, last := 100, count := 3, done := 1, depth := 0 }

/-- A loop that a caller has open. -/
def outerLoop : LoopE := { openLoop with depth := 1 }

theorem witness_LoopsReturnsAndEnd :
    (let s := aboutWith (.loop 1 5 9) fun b => { (b.wg 1 5) with loops := List.replicate 3 outerLoop }
     readyB s at0 (.loop 1 5 9) = true ∧ (s.bank 0).loops.length < 4 ∧ ((s.bank 0).rg 1).toNat ≤ (5#16).toNat) ∧
    (let s := aboutWith (.loop 1 5 9) fun b => { b with loops := List.replicate 4 outerLoop }
     readyB s at0 (.loop 1 5 9) = true ∧ 4 ≤ (s.bank 0).loops.length) ∧
    (let s := aboutWith (.loop 1 5 9) fun b => b.wg 1 6
     readyB s at0 (.loop 1 5 9) = true ∧ (5#16).toNat < ((s.bank 0).rg 1).toNat) ∧
    ((about (.lidx 5)).bank 0).loopsHere = [] ∧
    (let s := aboutWith (.lidx 5) fun b => { b with loops := [openLoop] }
     readyB s at0 (.lidx 5) = true ∧ (s.bank 0).loopsHere = openLoop :: []) ∧
    (let s := aboutWith .ret fun b => { b with rets := [16383] }
     readyB s at0 .ret = true ∧ (s.bank 0).rets = 16383 :: [] ∧ (s.bank 0).loopsHere = []) ∧
    (readyB (about .ret) at0 .ret = true ∧ ((about .ret).bank 0).rets = []) ∧
    (let s := withEasel inTest (easelOf [(encodeEasel .brk).1])
     readyB s at0 .brk = true ∧ s.dsp.mode = .test) ∧
    (readyB (about .brk) at0 .brk = true ∧ (about .brk).dsp.mode ≠ .test) ∧
    (about .endTask).easels[0].shadow = none ∧
    (let s := (about .endTask).modEasel 0 fun x => { x with shadow := some Bank.zero }
     readyB s at0 .endTask = true ∧ s.easels[0].shadow = some Bank.zero) := by decide +kernel

theorem witness_ReturnStackFaults :
    (let s := aboutWith .ret fun b => { b with
      rets := [5]
      loops := [outerLoop] }
     readyB s at0 .ret = true ∧ (s.bank 0).rets ≠ [] ∧ (s.bank 0).loopsHere ≠ []) ∧
    (let s := aboutWith .ret fun b => { b with
      rets := [5]
      loops := [openLoop] }
     readyB s at0 .ret = true ∧ (s.bank 0).rets ≠ [] ∧ (s.bank 0).loopsHere = []) := by decide +kernel

theorem witness_FabricReadsAndTimes :
    (let s := aboutWith (.fcprb 1 2) fun b => b.wg 2 0x00800000#32
     readyB s at0 (.fcprb 1 2) = true ∧ fieldOf ((s.bank 0).rg 2) 23 9 ≠ 0) ∧
    (let s := aboutWith (.fcprb 1 2) fun b => b.wg 2 0x007FFFFF#32
     readyB s at0 (.fcprb 1 2) = true ∧ fieldOf ((s.bank 0).rg 2) 23 9 = 0) ∧
    (about (.fpcnt 1 63)).standby = false ∧
    (let s := about (.femit 1 28 3 63)
     s.holding (s.bank 0).task = false ∧ (s.ev.bucket (0x20C0 + 63)).tokens ≠ 0 ∧
      (s.ev.bucket (0x20C0 + 63)).due s.epoch.nominal = 0) := by decide +kernel

theorem witness_FabricLocksMailboxesAndStops :
    ((about (.flock 1 31)).standby = false ∧ (about (.flock 1 31)).host.holder 31 = 15) ∧
    (let m : Mbx := { Mbx.unjoined with
       end0 := 1
       end1 := 2
       toEnd1 := { words := List.replicate 15 { word := 7, source := 3, sentAt := 0 }, timedOut := false }
       toEnd0 := { words := [{ word := 7, source := 9, sentAt := 0 }], timedOut := false } }
     let s := (((about (.fmbs 1 2 15)).modCh 15 fun _ => m).modHost fun h => { h with mbxUp := true }).modDsp fun d => { d with
       mode := .running }
     (readyB s at0 (.fmbs 1 2 15) = true ∧ s.standby = false ∧ (s.host.ch 15).has 1 = true ∧ s.endDead 1 = false ∧
      s.endDead ((s.host.ch 15).peer 1) = false ∧ ((s.host.ch 15).outbound 1).words.length = 15)) ∧
    (let m : Mbx := { Mbx.unjoined with
       end0 := 2
       end1 := 1
       toEnd0 := { words := List.replicate 16 { word := 7, source := 3, sentAt := 0 }, timedOut := false }
       toEnd1 := { words := [{ word := 7, source := 9, sentAt := 0 }], timedOut := false } }
     let s := (about (.fmbr 1 2 0)).modCh 0 fun _ => m
     (readyB s at0 (.fmbr 1 2 0) = true ∧ (s.host.ch 0).has 1 = true ∧
      ((s.host.ch 0).inbound 1).words = { word := 7, source := 9, sentAt := 0 } :: [] ∧
      ((s.host.ch 0).outbound 1).words.length = 16)) ∧
    ((about (.fmbr 1 2 0)).host.ch 0).has 1 = false ∧
    (let s := about (.fstop 1 2 .robot)
     s.stopIndexOk .robot ((s.bank 0).rg 2).toNat = true ∧ s.stopIndexOk .zone 0 = false ∧ s.standby = false) ∧
    (let s := (about (.fsrel 1 2)).modFleet fun f => { f with stops := [bootStop] }
     readyB s at0 (.fsrel 1 2) = true ∧ bootStop ∈ s.fleet.stops ∧ bootStop.seq = fieldOf ((s.bank 0).rg 2) 0 16) ∧
    (let x : Stop := { bootStop with
       kind := .robot
       source := 4
       seq := 7
       standstill := true }
     let s := (aboutWith (.fsrel 1 2) fun b => b.wg 2 7).modFleet fun f => { f with stops := [x] }
     readyB s at0 (.fsrel 1 2) = true ∧ s.fleet.stops.find? (·.seq == 7) = some x ∧ s.twin.state = .solo ∧
      s.fleet.fleetActive = false ∧ (∀ y ∈ s.fleet.stops, y.seq ≠ 8)) ∧
    (let x : FabResult := { task := 0, flow := 0, op := 0, d := 55, t := 66 }
     let s := (about (.flock 1 31)).modTwin fun t => { t with
       state := .standbyInstep
       fabric := [{ x with op := 1 }, x] }
     readyB s at0 (.flock 1 31) = true ∧ s.standby = true ∧ (s.twin.fabric.find? fun x =>
      x.task == (s.bank 0).task.task && x.flow == (s.bank 0).task.flow && x.op == (s.bank 0).fabIdx) = some x) := by
  decide +kernel

def aRequest : FabReq :=
  { op := .fstk, value := 0, task := 0, slot := 0, flow := 0, issuer := 0, urgent := false, level := 0, epoch := 0 }

theorem witness_AsynchronousFabricOperations :
    (let s := aboutWith (.async .fgrant 1 0 0) fun b => b.wg 1 0x13FFFE0#32
     let v := ((s.bank 0).rg 1).toNat
     readyB s at0 (.async .fgrant 1 0 0) = true ∧ s.holding (s.bank 0).task = false ∧ v % 32 = 0 ∧ 0x1000000 ≤ v ∧
      v + 32 = 0x1400000 ∧ s.easels[0].fifo.length < 8) ∧
    (let s := aboutWith (.async .fpput 1 0 0) fun b => b.wg 1 0x1000010#32
     readyB s at0 (.async .fpput 1 0 0) = true ∧ ((s.bank 0).rg 1).toNat % 32 ≠ 0) ∧
    (let s := aboutWith (.async .fpget 1 0 0) fun b => b.wg 1 0x1400000#32
     readyB s at0 (.async .fpget 1 0 0) = true ∧ 0x1400000 < ((s.bank 0).rg 1).toNat + 32) ∧
    (let s := (about (.async .fstk 1 0 0)).modEasel 0 fun x => { x with fifo := List.replicate 8 aRequest }
     readyB s at0 (.async .fstk 1 0 0) = true ∧ 8 ≤ s.easels[0].fifo.length) := by decide +kernel

theorem witness_EaselIssueAndIllegal :
    (let s := withEasel up (easelOf [0xFC000000])
     s.issues 0 = true ∧ s.easels[0].insn = none) ∧
    up.issues 0 = false ∧
    (let s := about (.alu .add 1 2 3)
     s.easels[0].insn = some (.alu .add 1 2 3) ∧ (s.bank 0).illegal (.alu .add 1 2 3) = false ∧
      s.easels[0].fetchBad at0 = false) := by decide +kernel

theorem witness_EaselDebugAndScrub :
    (inTest.awake = true ∧ inTest.dsp.mode = .test ∧ 2 ≤ inTest.pcieRole) ∧
    (let s := inTest.modEasel 0 fun x => { x with halted := true, memSpace := true, memWord := 32767 }
     s.easels[0].halted = true ∧ s.halted 0 = true ∧ s.awake = true ∧ s.easels[0].defined 32767 = true ∧
      inTest.halted 0 = false) ∧
    (up.awake = true ∧ up.dsp.mode ≠ .test) ∧
    (let s := withEasel inTest { easelOf [0] with
        brk0En := true
        brk0 := 0 }
     s.breakHere 0 = some 2 ∧ s.awake = true ∧ s.easels[0].run = .running ∧ s.halted 0 = false) ∧
    (up.easels[0].run = .idle ∧ up.easels[0].scrubAt < 16384) ∧
    (up.modEasel 0 fun x => { x with scrubAt := 16383 }).easels[0].scrubAt < 16384 := by decide +kernel

end Sys2Proof.Tests
end

