-- ==== Sys2Proof/Tests/WitnessB.lean ====
section
/-! SUPPORT. States and operands that meet the hypotheses of the statements on the dispatcher, Cartoons, the
Canvas, strokes, loops, the air and the ledgers, clause by clause. -/

namespace Sys2Proof.Tests

-- one theorem after another, for memory's sake
set_option Elab.async false

open Sys2Proof Sys2Proof.Machine

/-! ## The dispatcher (O22 to O24) -/

def someReq (op : AsyncOp) (value : Word) : FabReq := { aReq with
  op := op
  value := value }

theorem witness_OperandsAndReleases :
    (let s := atTime 3000000 (up.modEpoch fun e => { e with
      begun := true
      length := 1000000
      n := 2 })
     s.awake = true ∧ s.twin.state = .solo ∧ s.epoch.begun = true ∧ s.dsp.live = false ∧
      s.epoch.n < s.time / max 1 s.epoch.length ∧ s.twin.entries = []) ∧
    (running.awake = true ∧ running.dsp.live = true ∧ running.epoch.begun = true ∧ running.epoch.ticked = false ∧
      running.taskCount = 1 ∧ (running.task 0).period ≠ 0 ∧
      running.epoch.n % (running.task 0).period = (running.task 0).phase ∧
      running.dsp.quarantine.contains (running.task 0).flow = false ∧ running.dsp.instances = []) ∧
    (let s := running.modDsp fun d => { d with instances := [{ task := 0, slots := [(1, 8)] }] }
     s.dsp.instances = [{ task := 0, slots := [((s.task 0).slot, 8)] }]) ∧
    (let r : StageResult := { stage := 0, task := 0, slot := 1, word := 5 }
     let i : Instance := { task := 0, slots := [(1, 8)] }
     let s := running.modDsp fun d => { d with
       results := [r]
       instances := [i] }
     s.dsp.active = true ∧ r.task < s.taskCount ∧ bitsOf (s.task r.task).mask r.slot 1 = 1 ∧
      s.dsp.quarantine.contains (s.task r.task).flow = false ∧ i.task = r.task ∧
      i.slots.any (·.1 == r.slot) = true ∧ Instance.slots { i with slots := [] } = []) ∧
    (let s := running.modEasel 7 fun x => { x with fifo := [someReq .floop 0] }
     s.awake = true ∧ s.easels[7].fifo = [someReq .floop 0] ∧ s.dsp.reorder = [] ∧ s.gdl.incoming.length < 64) ∧
    (let s := running.modGdl fun g => { g with incoming := List.replicate 64 aReq }
     64 ≤ s.gdl.incoming.length) ∧
    (let s := running.modCanvas fun c => { c with incoming := List.replicate 127 aReq }
     s.canvas.incoming.length < 128) ∧
    (let s := running.modStk fun k => { k with incoming := List.replicate 63 aReq }
     s.stk.incoming.length < 64) ∧
    (let s := running.modDsp fun d => d.modArrivalQ 2 fun q => { q with items := [(5, 9)] }
     s.awake = true ∧ s.dsp.active = true ∧ s.dsp.inSwapEpoch = false ∧ s.standby = false ∧
      s.dsp.running = some cart ∧ (s.dsp.arrivalQ 2).items = (5, 9) :: [] ∧ (s.dsp.arrivalQ 2).owed = [] ∧
      (s.dsp.arrivalQ 2).holdSince = none ∧
      cart.route 2 5 = some { kind := 2, slot := 1, selector := 5, task := 0 } ∧ s.dsp.instances = []) ∧
    (let r : Released := { task := 0, epoch := 10, slots := [(1, 8)], relNo := none }
     let c := { cart with pooled := true }
     let s := ({ running with easels := Vector.ofFn fun (j : Fin 8) => { Easel.reset with
       halted := decide (j < 7) } }).modDsp fun d => { d with
       mode := .test
       running := some c
       released := [r] }
     s.awake = true ∧ c.pooled = true ∧ s.dsp.live = true ∧ (∀ j : Fin 8, s.easels[j].run = .idle) ∧
      (∀ j : Fin 8, s.halted j = decide (j < 7)) ∧ s.dsp.released = [r] ∧ r.relNo = none) ∧
    (let s := running.modDsp fun d => { d with
      mode := .stopping
      stopEpoch := 9 }
     (∀ j : Fin 8, s.easels[j].run ≠ .faultExit) ∧ s.dsp.mode = .stopping ∧ s.dsp.stopEpoch < s.epoch.n) := by
  decide +kernel

def aRes : StageResult := { stage := 0, task := 0, slot := 1, word := 5 }

/-- The state with these instances of the small Cartoon's task. -/
def withInst (l : List Instance) (s : State := running) : State := s.modDsp fun d => { d with instances := l }

/-- One released task; of a POOLED Cartoon Easel 7 alone is free for it, of a BOUND one Easel 0 is its flow's. -/
def releasedFor (pooled : Bool) : State :=
  ({ running with easels := Vector.ofFn fun (j : Fin 8) => { Easel.reset with
    halted := decide (j < 7) && pooled } }).modDsp fun d => { d with
      mode := .test
      running := some { cart with pooled := pooled }
      released := [{ task := 0, epoch := 10, slots := [(1, 8)], relNo := none }] }

theorem witness_OperandsAndReleases_edges :
    (State.reset.runsEpochs = false) ∧
    (let s := atTime 3000000 (up.modEpoch fun e => { e with
       begun := true
       length := 1000000
       n := 3 })
     s.runsEpochs = true ∧ s.twin.state ≠ .standbySyncing ∧ s.time / max 1 s.epoch.length ≤ s.epoch.n) ∧
    (let s := withInst [{ task := 0, slots := [(0, 3)] }]
     s.tickDue 0 ∧ s.dsp.instances.find? (·.task == 0) = some { task := 0, slots := [(0, 3)] } ∧
      (s.task 0).slot ≠ 0 ∧ (¬ (running.modEpoch fun e => { e with n := 11 }).tickDue 0)) ∧
    (let s := withInst [{ task := 0, slots := [] }] (running.modDsp fun d => { d with results := [aRes, aRes] })
     s.dsp.results = aRes :: [aRes] ∧ s.dsp.active = true ∧
      s.dsp.instances.find? (·.task == aRes.task) = some { task := 0, slots := [] }) ∧
    (running.dsp.used + slotCount (running.task 0).mask + 513 ≤ 4096 ∧ up.dsp.active = false ∧
      (running.modDsp fun d => { d with quarantine := [3] }).dsp.quarantine.contains (running.task 0).flow = true) ∧
    (let s := (running.modEasel 7 fun x => { x with fifo := [someReq .fgrant 0, aReq] }).modCanvas fun c => { c with
       incoming := List.replicate 128 aReq }
     s.easels[7].fifo = someReq .fgrant 0 :: [aReq] ∧ s.hostTurn = false ∧
      128 ≤ s.canvas.incoming.length + bit s.hostTurn) ∧
    ((someReq .fpput 0).op = .fpput ∧ (someReq .fpget 0).op = .fpget ∧ aReq.op = .fstk) ∧
    (let s := releasedFor true
     let r : Released := { task := 0, epoch := 10, slots := [(1, 8)], relNo := none }
     s.firstRun (s.sortRel s.dsp.released) = ([], some r) ∧ s.idle 7 = true ∧ (∀ j : Fin 8, j < 7 → s.idle j = false) ∧
      bitsOf (s.task r.task).mask 1 1 = 1) ∧
    (let s := releasedFor false
     let r : Released := { task := 0, epoch := 10, slots := [(1, 8)], relNo := none }
     s.firstRun (s.sortRel s.dsp.released) = ([], some r) ∧ s.idle 0 = true ∧
      ∀ x ∈ s.dsp.released, s.flowEasel (s.task x.task).flow = 0) ∧
    (let s := up.modEasel 2 fun x => { x with run := .faultExit }
     s.awake = true ∧ s.dsp.mode = .empty ∧ s.easels[2].run = .faultExit ∧ s.easels[2].shadow = none) := by
  unfold State.tickDue
  decide +kernel

def stagedCart : StagedImage := { cartoon := cart, bytes := [] }

/-- Fit for a start, a checked image staged, a FLEET stop active. -/
def staged : State := ((up.modTfc fun t => { t with ready := true }).modDsp fun d => { d with
  staged := some stagedCart }).modFleet fun f => { f with stops := [bootStop] }

theorem witness_CartoonCommands :
    (plain.awake = true ∧ plain.pcieRole = 0) ∧
    (staged.awake = true ∧ 2 ≤ staged.pcieRole ∧ staged.twin.state = .solo ∧ staged.dsp.isBusy = false ∧
      staged.dsp.mode = .empty ∧ staged.fleet.fleetActive = true ∧ staged.dsp.staged = some stagedCart ∧
      staged.startBad stagedCart.cartoon = none) ∧
    (stopped.dsp.live = true ∧ stopped.fleet.fleetActive = true ∧ stopped.dsp.mode ≠ .empty ∧ 2 ≤ stopped.pcieRole) ∧
    running.fleet.fleetActive = false ∧
    (running.modDsp fun d => { d with mode := .test }).dsp.mode = .test ∧
    (running.modDsp fun d => { d with mode := .swapPending }).dsp.isBusy = false ∧
    (let s := running.modDsp fun d => { d with staged := some stagedCart }
     s.dsp.mode = .running ∧ s.dsp.staged = some stagedCart ∧ s.dsp.running = some cart ∧
      stagedCart.cartoon.predIdentity = cart.identity ∧ stagedCart.cartoon.predVersion = cart.version ∧
      swapCondition cart stagedCart.cartoon = none ∧ contractBad stagedCart.cartoon s.caps = none ∧
      s.swapEpochFor s.dsp.swapEpochReg = some 13) ∧
    (let s := up.modDsp fun d => { d with
      busy := 1
      loadLen := 8388608 }
     s.dsp.busy = 1 ∧ lengthOk s.dsp.loadLen = true) ∧
    (let s := running.modDsp fun d => { d with
      mode := .stopping
      stopEpoch := 9 }
     s.stopDue = true) := by decide +kernel

theorem witness_CartoonCommands_edges :
    (¬ plain.takes 2 true ∧ ¬ plain.takes 1 true ∧ ¬ plain.takes 2 false ∧ staged.takes 2 true ∧ staged.takes 1 true ∧
      staged.takes 2 false) ∧
    (let s := pair.modTwin fun t => { t with state := .standbyInstep }
     s.awake = true ∧ ¬ s.takes 2 true ∧ s.rbit rTwnCfg 0 = true ∧ s.serving = false) ∧
    (let s := up.modDsp fun d => { d with busy := 6 }
     s.awake = true ∧ ¬ s.takes 1 true) ∧
    (let s := running.modDsp fun d => { d with mode := .swapPending }
     s.takes 2 true ∧ s.dsp.mode = .swapPending) ∧
    (stopped.takes 1 true ∧ running.takes 1 true ∧ running.dsp.mode ≠ .empty ∧ running.takes 2 false ∧
      running.dsp.mode ≠ .test ∧ up.stopDue = false ∧ up.dsp.busy ≠ 1) ∧
    (let s := running.modDsp fun d => { d with
       busy := 1
       loadLen := 100 }
     s.dsp.busy = 1 ∧ lengthOk s.dsp.loadLen = false) := by
  unfold State.takes
  refine ⟨?_, ?_, ?_, ?_, ?_, ?_⟩ <;> decide +kernel

theorem witness_CartoonsStoredSwappedAndKeys :
    (staged.awake = true ∧ 2 ≤ staged.pcieRole ∧ staged.dsp.isBusy = false ∧ staged.dsp.staged.isSome = true) ∧
    (let s := staged.modDsp fun d => { d with busy := 6 }
     s.dsp.busy = 6 ∧ s.pwr.dip = false ∧ s.dsp.staged = some stagedCart) ∧
    (let s := staged.modDsp fun d => { d with autoloadDue := true }
     s.pwr.booted = true ∧ s.dsp.autoloadDue = true ∧ s.twin.state = .solo ∧ s.dsp.mode = .empty ∧
      s.dsp.storedValid = false) ∧
    (let s := staged.modDsp fun d => { d with
      autoloadDue := true
      storedValid := true }
     s.dsp.storedValid = true ∧ s.fit = true ∧ (s.modTfc fun t => { t with ready := false }).fit = false) ∧
    (let s := (running.modDsp fun d => { d with
       mode := .swapPending
       swapE := 10
       deferrals := 15 }).modEpoch fun e => { e with prevLate := true }
     s.swapDue = true ∧ s.epoch.prevLate = true ∧ s.dsp.deferrals = 15) ∧
    (let s := running.modDsp fun d => { d with
       mode := .swapPending
       inSwapEpoch := true
       staged := some stagedCart }
     s.dsp.mode = .swapPending ∧ s.dsp.inSwapEpoch = true ∧ s.outstanding = false ∧
      s.dsp.staged = some stagedCart ∧ s.dsp.running = some cart) ∧
    (let s := running.modDsp fun d => { d with startup := true }
     s.dsp.running = some cart ∧ s.dsp.startup = true ∧ s.dsp.startupLeft = 0) ∧
    (let s := running.modDsp fun d => { d with
       releases := [(3, 2, 9)]
       quarantine := [3] }
     s.dsp.releases = [(3, 2, 9)] ∧ 9 < s.epoch.n ∧ s.dsp.live = true ∧ s.dsp.inSwapEpoch = false ∧
      s.dsp.quarantine = [3] ∧ flagOf 0x80000003#32 31 = true ∧
      s.dsp.quarantine.contains (fieldOf 0x80000003#32 0 9) = true ∧ 1 ≤ s.pcieRole ∧ s.standby = false) ∧
    (flagOf 0x80000003#32 31 = true ∧ flagOf 3#32 31 = false) ∧
    (let s := up.modDsp fun d => { d with keyWords := List.replicate 12 9 }
     3 ≤ s.pcieRole ∧ s.dsp.keys[3].state = 0 ∧ s.dsp.keyWords.length = 12 ∧ plain.pcieRole < 3) := by
  decide +kernel

theorem witness_CartoonsStoredSwappedAndKeys_edges :
    (staged.takes 2 false ∧ up.takes 2 false ∧ up.dsp.staged = none ∧ staged.dsp.busy ≠ 6) ∧
    (let s := (pair.modTwin fun t => { t with state := .standbyInstep }).modDsp fun d => { d with autoloadDue := true }
     s.pwr.booted = true ∧ s.dsp.autoloadDue = true ∧ s.dsp.mode = .empty ∧ s.serving = false) ∧
    (let s := (running.modDsp fun d => { d with
       mode := .swapPending
       swapE := 10 })
     s.awake = true ∧ s.swapDue = true ∧ s.epoch.prevLate = false ∧ s.inService = [] ∧ s.dsp.released = [] ∧
      s.dsp.deferrals < 15) ∧
    (running.dsp.mode ≠ .swapPending ∧ running.dsp.running = some cart ∧ running.dsp.startup = false ∧
      (∀ r ∈ running.dsp.releases, running.epoch.n ≤ r.2.2) ∧ plain.awake = true ∧ plain.pcieRole = 0) := by
  unfold State.takes
  decide +kernel

/-! ## The Canvas (O25, O26) -/

/-- A Canvas of two squares with slots of 250 ms, in slot 3, its robots reported; the air counts superframes under
the small plan. -/
def canv : State :=
  (((atTime 765000000 up).modCanvas fun c => { c with
    n := 2
    map := mapBytes
    period := 4
    lostTime := 10
    lostHops := 1
    k := 3
    kA := 3
    tA := 760000000
    robots := [(0, { CRobot.reset with
      reported := true
      square := some 0
      lastReport := some 660000000 })] }).modAir fun a => { a with
    plan := some planBytes
    counting := true
    superframe := 5
    sfStart := 760000000
    tables := a.tables.set 0 [(0, { Station.empty with provisioned := true })] }).modEpoch fun e => { e with
    n := 10
    length := 1000000
    nominal := 760000000
    begun := true }

/-- Words of a descriptor's entry. -/
def entryW (square enter exit park : Nat) : List Byte := toLE 4 (packNat [(0, 16, square), (16, 7, enter), (23, 7, exit), (30, 1, park)])

def header (op who gen count halo deliver : Nat) : List Byte :=
  toLE 1 op ++ (toLE 1 who ++ (toLE 2 gen ++ (toLE 2 count ++ (toLE 1 halo ++ (toLE 1 0 ++ (toLE 2 deliver ++ (toLE 2 0 ++
    (toLE 4 77 ++ toLE 16 0))))))))

/-- GRANT of square 0 in slots 4 to 6 and of square 1 from slot 6 on, parked. -/
def grantD : List Byte := header 0 0 0xFFFF 2 0 20 ++ (entryW 0 4 6 0 ++ entryW 1 6 6 1)

def withdrawD : List Byte := header 1 0 9 0 0 0
def blockD : List Byte := header 2 0x80 0 1 128 0 ++ entryW 1 0 0 0
def unblockD : List Byte := header 3 0xFF 0 1 0 0 ++ entryW 1 5 9 0

def asked (d : List Byte) : State := canv.modCanvas fun c => { c with batch := [.host d] }

/-- A well-formed request of the host at the head. -/
def wellAsked (d : List Byte) : Bool :=
  decide (32 ≤ d.length) && descForm d && (badEntry canv.canvas (descOf d)).isNone

def aGrant : Grant :=
  { robot := 0
    gen := 9
    tag := 1
    state := .queued
    voided := false
    ends := 20
    deliverBy := 900000000
    frames := 1
    due := none }

theorem witness_GrantsHoldWholeOrNotAtAll :
    (wellAsked grantD = true ∧ wellAsked withdrawD = true ∧ wellAsked blockD = true ∧ wellAsked unblockD = true) ∧
    (let s := asked grantD
     let h := descOf grantD
     s.canvas.batch = [.host grantD] ∧ h.op = 0 ∧ s.grantChecks h = none ∧
      (Canvas.phase1 h.who h.gen [] 8194 (s.canvas.marks h) [] s.canvas).fail = none ∧
      (s.canvas.marks h).length ≤ 8194 ∧
      2 ≤ s.air.dlCount h.who (s.canvas.tA + 1000000) (s.canvas.tA + h.deliver * 1000000)) ∧
    (let s := (asked grantD).modCanvas fun c => { c with robots := [] }
     (s.grantChecks (descOf grantD)).isSome = true) ∧
    (let h := descOf grantD
     let s := (asked grantD).modCanvas fun c => { c with cells := [(134, { Cell.free with
       state := .held
       who := 5 })] }
     s.grantChecks h = none ∧ (Canvas.phase1 h.who h.gen [] 8194 (s.canvas.marks h) [] s.canvas).fail.isSome = true) ∧
    (let h := descOf withdrawD
     let s := (asked withdrawD).modCanvas fun c => { c with grants := [aGrant] }
     h.op = 1 ∧ aGrant ∈ s.canvas.liveOf s.canvas.kA h.who ∧ aGrant.gen = h.gen ∧ aGrant.state = .queued ∧
      aGrant.voided = false) ∧
    (let h := descOf blockD
     let s := asked blockD
     h.op = 2 ∧ h.halo = 128 ∧
      s.canvas.fits ((sortNat (h.entries.map (·.square))).filter s.canvas.used) = true) ∧
    (descOf unblockD).op = 3 ∧
    (let h := descOf grantD
     let s := (asked grantD).modAir fun a => { a with counting := false }
     s.grantChecks h = none ∧ (Canvas.phase1 h.who h.gen [] 8194 (s.canvas.marks h) [] s.canvas).fail = none ∧
      s.air.dlCount h.who (s.canvas.tA + 1000000) (s.canvas.tA + h.deliver * 1000000) < 2) ∧
    (let h := descOf grantD
     let s := asked grantD
     0 < (s.canvas.marks h).length ∧ (Canvas.phase1 h.who h.gen [] 0 (s.canvas.marks h) [] s.canvas).fail = none) ∧
    (let k : Commit := { desc := grantD, todo := [], undo := [(5, Cell.free), (6, Cell.free)], second := true }
     let s := (asked grantD).modCanvas fun c => { c with
       commit := some k
       cells := [(5, Cell.blocked 3)] }
     s.canvas.commit = some k ∧ s.canvas.batch = [.host grantD] ∧ s.standby = false ∧
      s.canvas.cell 5 = Cell.blocked 3 ∧ ∀ x ∈ k.undo, x.2.state ≠ .held) ∧
    (let s := (asked grantD).modCanvas fun c => { c with hostBusy := true }
     s.canvas.hostBusy = true ∧ s.canvas.commit = none ∧ s.standby = false ∧
      s.descBytes (.host grantD) = some grantD ∧ tblWf cellDefault s.canvas.cells = true) ∧
    (gives (.grant [] [] none) (asked grantD) (fun t => (t.canvas.cell 4).robotHeld 0) = true ∧
      gives (.block []) ((asked blockD).modCanvas fun c => { c with cells := [(134, { Cell.free with
        state := .held
        who := 5 })] }) (fun t => (t.canvas.cell 134).state = .held) = true) := by decide +kernel

def aCReport : CReport :=
  { robot := 0, square := some 0, standstill := false, token := none, time := 760000000, epoch := 9, sf := 5, flags := 0 }

theorem witness_CanvasTimeReportsAndProbes :
    (let s := canv.modTmb fun x => { x with raw := 1000000000 }
     s.canvas.period ≠ 0 ∧ (s.canvas.k + 1) * s.canvas.periodNs = s.time) ∧
    (let x : Sweep := { column := 127, nominal := 757000000, late := false }
     let s := canv.modCanvas fun c => { c with sweeps := [x] }
     s.canvas.sweeps = x :: [] ∧ x.column < 128 ∧ x.late = false ∧ x.nominal + 8 * ms = s.time) ∧
    (let r := aCReport
     let s := canv.modCanvas fun c => { c with reports := [r] }
     s.canvas.batch = [] ∧ s.batchReady = true ∧ s.canvas.hostReq = none ∧ s.canvas.due = [] ∧
      s.canvas.reports ≠ [] ∧ (∀ r ∈ s.canvas.reports, r.epoch < s.epoch.n) ∧
      (s.modCanvas fun c => { c with batch := [.report r] }).canvas.batch = [.report r]) ∧
    (canv.awake = true ∧ 1 ≤ canv.pcieRole ∧ flagOf 1#32 0 = true ∧ canv.canvas.hostBusy = false ∧
      canv.serving = true ∧ (canv.modCanvas fun c => { c with hostBusy := true }).canvas.hostBusy = true) ∧
    (let g := { aGrant with due := some (.delivered, 9) }
     let s := canv.modCanvas fun c => { c with grants := [g] }
     s.canvas.grants = [g] ∧ 9 < s.epoch.n ∧ g.due = some (.delivered, 9)) ∧
    (let g := { aGrant with due := some (.undelivered 2, 9) }
     let s := canv.modCanvas fun c => { c with grants := [g] }
     s.canvas.grants = [g] ∧ 9 < s.epoch.n ∧ g.due = some (.undelivered 2, 9)) ∧
    (let s := canv.modCanvas fun c => { c with batch := [.lost 0 760000000] }
     s.canvas.batch = .lost (0 : BitVec 8).toNat 760000000 :: [] ∧ s.standby = false ∧
      (s.canvas.robot 0).lastReport = some 660000000 ∧ (s.canvas.robot 0).lost = false ∧
      660000000 + s.canvas.lostTime * 10 * ms = 760000000 ∧ s.lostSquares 0 = [0, 1] ∧
      s.canvas.fits (s.lostSquares 0) = true) ∧
    (let s := canv.modTmb fun x => { x with raw := 1000000000 }
     s.canvas.commit = none ∧ canv.time < (canv.canvas.k + 1) * canv.canvas.periodNs) ∧
    (let s := canv.modCanvas fun c => { c with
       hostReq := some (9, grantD)
       due := [aReq] }
     s.canvas.batch = [] ∧ s.batchReady = true ∧ s.standby = false ∧ s.canvas.hostReq = some (9, grantD) ∧
      9 < s.epoch.n) ∧
    (let s := canv.modTwin fun t => { t with state := .faulted }
     s.awake = true ∧ s.canvas.hostBusy = false ∧ s.serving = false ∧ canv.canvas.incoming.length < 128) ∧
    ((∀ x ∈ canv.canvas.sweeps, x.late = true) ∧ (∀ g ∈ canv.canvas.grants, g.due = none)) ∧
    (canv.canvas.used ((4 * canv.canvas.scrubAt + 3) / 128) = true ∧ State.reset.dpUp = false) ∧
    ((∀ h ∈ canv.canvas.holds, h.rest = []) ∧ canv.dpUp = true ∧ 16 < 17) := by
  refine ⟨?_, ?_, ?_, ?_, ?_, ?_, ?_, ?_, ?_, ?_, ?_, ?_, ?_⟩ <;> decide +kernel

/-! ## Strokes and loops (O27, O28) -/

/-- A request of a robot channel at the head of the stroke batch. -/
def strokeReq (op ch arg : Nat) : FabReq := someReq .fstk (pack [(28, 4, op), (19, 9, ch), (0, 19, arg)])

def aChan : Chan := { Chan.reset with route := some 0 }

def stroked (op arg : Nat) (f : Chan → Chan) : State :=
  (running.modStk fun k => { k with
    batch := [.easel (strokeReq op 255 arg)]
    tp := 10000000
    chans := [(255, f aChan)] }).modCanvas fun c => { c with period := 4 }

/-- Moving at 1 unit/s. -/
def moving (k : Stroke) : Stroke := { k with
  kind := .speed
  endSpeed := fx }

theorem witness_StrokeRequests :
    (let s := running.modStk fun k => { k with due := [strokeReq 7 0 0, strokeReq 0 255 1] }
     s.stk.batch = [] ∧ s.batchReady = true ∧ s.stk.inputs = [] ∧ s.stk.gates = [] ∧ s.gdl.due = [] ∧
      s.gdl.batch = [] ∧ (∀ r ∈ s.stk.due, fieldOf r.value 28 4 < 8)) ∧
    (let s := stroked 0 125 id
     let r := strokeReq 0 255 125
     let c := tblGet chanDefault s.stk.chans 255
     s.stk.batch = [.easel r] ∧ 255 = fieldOf r.value 19 9 ∧ 125 = fieldOf r.value 0 19 ∧ fieldOf r.value 28 4 = 0 ∧
      c.held = false ∧ c.route = some 0 ∧
      s.profileOf 255 c.profile = some (profileAt s.loops 0) ∧ s.routeOf 0 = some (routeDefAt s.loops 0) ∧
      (routeDefAt s.loops 0).covers (125 * 8 : Nat) = true ∧
      (planPos (profileAt s.loops 0) 0 0 0 ((125 * 8 : Nat) * fx)).behind = false ∧
      c.stroke.at s.stk.tp = (0, 0, 0)) ∧
    (tblGet chanDefault (stroked 0 125 fun c => { c with held := true }).stk.chans 255).held = true ∧
    (let s := stroked 1 (2 ^ 19 - 5) id
     let p := profileAt s.loops 0
     let w : Int := max (-(p.v * fx)) (min (signedOf 19 (2 ^ 19 - 5) * 1 * fx) (p.v * fx))
     fieldOf (strokeReq 1 255 (2 ^ 19 - 5)).value 28 4 = 1 ∧ w = -(5 * fx) ∧ (planSpeed p 0 0 0 (5 * fx)).behind = false) ∧
    (let s := stroked 2 0 fun c => { c with
       kept := true
       stroke := moving c.stroke }
     fieldOf (strokeReq 2 255 0).value 28 4 = 2 ∧ (tblGet chanDefault s.stk.chans 255).kept = true) ∧
    (let s := stroked 3 0 fun c => { c with remain := -8 }
     fieldOf (strokeReq 3 255 0).value 28 4 = 3 ∧ (tblGet chanDefault s.stk.chans 255).remain ≠ 0 ∧
      aChan.remain = 0) ∧
    (let s := stroked 4 131070 id
     let p := profileAt s.loops 0
     let k := (tblGet chanDefault s.stk.chans 255).stroke.from s.stk.tp
     let es := (corridor p (routeDefAt s.loops 0) k s.canvas.periodNs).2
     fieldOf (strokeReq 4 255 131070).value 28 4 = 4 ∧ 131070 < 2 ^ 17 ∧ k.kind ≠ .speed ∧
      (corridor p (routeDefAt s.loops 0) k s.canvas.periodNs).1 = 0 ∧
      inAtelier (atlBase + 32 * 131070) (32 + 4 * es.length) = true) ∧
    (moving aChan.stroke).kind = .speed ∧
    (let s := stroked 5 0 id
     fieldOf (strokeReq 5 255 0).value 28 4 = 5 ∧ (s.profileOf 255 0).isSome = true ∧ s.profileOf 255 1 = none) ∧
    (let s := stroked 6 0 fun c => { c with stroke := moving c.stroke }
     fieldOf (strokeReq 6 255 0).value 28 4 = 6 ∧ (s.routeOf 0).isSome = true ∧
      ((tblGet chanDefault s.stk.chans 255).stroke.at s.stk.tp).2.1 ≠ 0 ∧ (aChan.stroke.at 10000000).2.1 = 0) ∧
    (let s := stroked 7 0 fun c => { c with lastS := some 640 }
     fieldOf (strokeReq 7 255 0).value 28 4 = 7 ∧ (tblGet chanDefault s.stk.chans 255).lastS = some 640 ∧
      aChan.lastS = none) := by decide +kernel

/-- The small Cartoon with its profile that of a drive, and drive 7 taking an Easel's moves. -/
def withDrive : State := (running.modDsp fun d => { d with
  running := some { cart with sections := cart.sections.set 2 (aSection 0x13 (loopBytes.set 62 2)) } }).modDrv fun d =>
    { d with ch := d.ch.set 7 { Drv.reset with mode := 1, st := .following } }

theorem witness_StrokeRequests_edges :
    (let s := running.modStk fun k => { k with
       due := [strokeReq 7 0 0]
       gates := [(9, 3, true), (10, 3, false)]
       inputs := [(9, .stop 3 7), (10, .stop 4 8)] }
     s.stk.batch = [] ∧ s.batchReady = true ∧ (9, StkInput.stop 3 7) ∈ s.stk.inputs ∧ 9 < s.epoch.n ∧
      ¬ 10 < s.epoch.n) ∧
    ((stroked 0 125 id).stk.batch ≠ []) ∧
    (running.accepts (.easel (strokeReq 6 263 0)) = false ∧ running.accepts (.easel (strokeReq 0 263 0)) = false ∧
      running.accepts (.easel (strokeReq 5 264 0)) = false ∧ running.accepts (.easel (strokeReq 5 263 0)) = true ∧
      withDrive.accepts (.easel (strokeReq 0 263 5)) = true ∧ withDrive.accepts (.easel (strokeReq 4 263 0)) = false ∧
      running.accepts (.easel (strokeReq 7 255 0)) = true) ∧
    (withDrive.profileOf 263 0 = some (profileAt withDrive.loops 0) ∧ withDrive.profileOf 255 0 = none ∧
      running.profileOf 255 1 = none ∧ (StkReq.gate 7 true).chan = 263 ∧ (StkReq.gate 7 true).cmd = 0 ∧
      (planPos (profileAt withDrive.loops 0) 0 0 0 ((16 * 5 : Nat) * fx)).behind = false ∧
      (planPos (profileAt withDrive.loops 0) 0 0 0 ((withDrive.drv.ch[7].gatePos true : Nat) * fx)).behind = false) ∧
    ((routeDefAt running.loops 0).covers (126 * 8 : Nat) = false ∧ (routeDefAt running.loops 0).covers 1001 = false) ∧
    ((planPos (profileAt running.loops 0) (900 * fx) (900 * fx) 0 ((800 : Nat) * fx)).behind = true) ∧
    (signedOf 19 (2 ^ 19 - 5) = -5 ∧ signedOf 19 200000 = 200000 ∧
      (planSpeed (profileAt running.loops 0) 0 0 0 ((profileAt running.loops 0).v * fx)).behind = false) ∧
    (let k := { moving aChan.stroke with kind := .braking }
     k.kind = .braking ∧ aChan.kept = false ∧ k.moving 10000000 = true ∧ k.turning 10000000 = false ∧
      (aChan.stroke.kind ≠ .braking)) ∧
    (let p := profileAt running.loops 0
     let x := planPos p (900 * fx) (900 * fx) 0 (900 * fx)
     x.behind = true) ∧
    (let p := profileAt running.loops 0
     let k := { aChan.stroke with
       segs := [{ dur := ms, s := 0, v := 0, a := 0, j := 0 }]
       t0 := 10000000
       endPos := 900 * fx }.from 10000000
     k.kind ≠ .speed ∧ inAtelier (atlBase + 32 * 131071) (32 + 4 * 7) = false ∧
      (corridor p (routeDefAt running.loops 0) k 4).1 = 3) ∧
    (let k := { aChan.stroke with
       t0 := 10000000
       reversed := true
       turn := 1 }
     k.turning 10000000 = true ∧ k.turning 10000001 = false) ∧
    ((running.routeOf 0).isSome = true ∧ running.routeOf 1 = none ∧ (withDrive.drv.ch[7].gatePos true : Nat) = 0) := by
  decide +kernel

def loopReq (op loop arg : Nat) : FabReq := someReq .floop (pack [(28, 4, op), (19, 9, loop), (0, 19, arg)])

def looped (r : FabReq) (loop : Nat) (l : LoopSt) : State := running.modGdl fun g => { g with
  batch := [r]
  loops := [(loop, l)] }

def enabledLoop : LoopSt := { LoopSt.reset with enabled := true }

def aReport : GdlReport :=
  { robot := 0, tRep := 8100000, sRep := 0, eY := 0, ePsi := 0, vRep := 0, slotStart := 8000000, slotEnd := 10000000 }

def aTrim : Trim := { robot := 0, slotEnd := 10000000, ready := 10100000, v := 1, k := 1 }

/-- Robot 0's downlink slot has begun, its trims staged. -/
def phase : State := (running.modGdl fun g => { g with
  trims := [aTrim]
  loops := [(0, enabledLoop)] }).modAir fun a => { a with
    plan := some planBytes
    counting := true
    slot := 1
    slotStart := 10400000
    sfStart := 8400000 }

theorem witness_GuidanceLoops :
    (let s := looped (loopReq 0 255 0) 255 LoopSt.reset
     let r := loopReq 0 255 0
     s.gdl.batch = [r] ∧ fieldOf r.value 19 9 = 255 ∧ fieldOf r.value 28 4 = 0 ∧ fieldOf r.value 0 19 = 0 ∧
      0 < (loopsHdr s.loops).gc) ∧
    (fieldOf (loopReq 1 271 0).value 19 9 = 271 ∧ fieldOf (loopReq 1 271 0).value 28 4 = 1 ∧
      ((looped (loopReq 1 271 0) 271 enabledLoop).gdl.loop 271).enabled = true ∧
      ((looped (loopReq 1 271 0) 271 LoopSt.reset).gdl.loop 271).enabled = false) ∧
    (fieldOf (loopReq 2 0 0).value 28 4 = 2 ∧ ((looped (loopReq 2 0 0) 0 enabledLoop).gdl.loop 0).enabled = true) ∧
    (fieldOf (loopReq 3 0 0).value 28 4 = 3 ∧ 0 < (loopsHdr running.loops).zc) ∧
    (fieldOf (loopReq 4 9 1).value 28 4 = 4 ∧ fieldOf (loopReq 4 9 1).value 0 19 = 1) ∧
    (let s := (running.modGdl fun g => { g with
       reports := [aReport]
       loops := [(0, enabledLoop)] })
     s.gdl.reports = aReport :: [] ∧ aReport.slotEnd ≤ s.time ∧ (s.gdl.loop aReport.robot).enabled = true ∧
      s.gdesc (s.gdl.loop aReport.robot).desc = some (gdescAt s.loops 0) ∧
      aReport.slotStart ≤ extendStamp aReport.tRep aReport.slotStart + 500 * ms ∧
      extendStamp aReport.tRep aReport.slotStart ≤ aReport.slotEnd ∧ s.fleet.covered aReport.robot = false) ∧
    (running.gdl.loop aReport.robot).enabled = false ∧
    ((aReport.slotEnd : Int) < extendStamp 10000001 aReport.slotStart) ∧
    (let x := aTrim
     let s := phase
     (s.air.downNow 0).any (·.station == 0) = true ∧ (s.air.downNow 1).any (·.station == 0) = false ∧
      tblGet (fun _ => none) s.gdl.out 0 = none ∧ s.gdl.trims = [x] ∧ x.slotEnd + 400000 ≤ s.air.spanStart 0 ∧
      (s.gdl.loop 0).enabled = true ∧ s.fleet.covered 0 = false ∧ x.ready + 200 ≤ s.air.spanStart 0) ∧
    ((phase.air.spanStart 0) < 10399801 + 200) ∧
    (running.drv.blockDue = false) ∧
    (let s := (running.modDrv fun d => { d with
       blockDue := true
       ch := d.ch.set 7 { Drv.reset with st := .homing } }).modGdl fun g => { g with loops := [(270, enabledLoop)] }
     s.drv.blockDue = true ∧ (s.gdl.loop (256 + 2 * 7)).enabled = true ∧ s.drv.ch[7].suspended = false ∧
      (s.gdl.loop 270).desc < (loopsHdr s.loops).dc ∧
      (∀ i, 256 ≤ i → i ≠ 256 + 2 * 7 → (s.gdl.loop i).enabled = false)) := by
  refine ⟨?_, ?_, ?_, ?_, ?_, ?_, ?_, ?_, ?_, ?_, ?_, ?_⟩ <;> try decide +kernel
  refine ⟨by decide +kernel, by decide +kernel, by decide +kernel, by decide +kernel, fun i _ h => ?_⟩
  have h : i ≠ 270 := by omega
  simp [Gdl.loop, State.modGdl, tblGet, h, loopDefault, LoopSt.reset]

def withReport (x : GdlReport) (l : LoopSt) : State := running.modGdl fun g => { g with
  reports := [x]
  loops := [(0, l)] }

/-- Drive 7 has a duty staged, its loop of phase A enabled. -/
def stagedDuty : State := (running.modDrv fun d => { d with
  ch := d.ch.set 7 { Drv.reset with
    st := .homing
    a := { Drv.reset.a with staged := some (55, 0) } } }).modGdl fun g => { g with loops := [(270, enabledLoop)] }

theorem witness_GuidanceLoops_edges :
    (let s := running
     bitsOf 0x4000 6 2 = 0 ∧ bitsOf 0x4000 14 1 = 1 ∧ bitsOf 0x4000 8 6 < (loopsHdr s.loops).zc ∧
      (tblGet chanDefault s.stk.chans 255).route ≠ some (glazeAt s.loops (bitsOf 0x4000 8 6)).route ∧
      bitsOf 0x4000 0 6 < (loopsHdr s.loops).gc ∧ (loopsHdr s.loops).gc ≤ bitsOf 1 0 6 ∧
      (loopsHdr s.loops).dc ≤ bitsOf 1 0 6 ∧ 0 < (loopsHdr s.loops).dc ∧ bitsOf 0x8000 15 1 = 1) ∧
    (let s := (looped (loopReq 0 255 0xC000) 255 LoopSt.reset).modStk fun k => { k with chans := [(255, aChan)] }
     (tblGet chanDefault s.stk.chans 255).route = some (glazeAt s.loops (bitsOf 0xC000 8 6)).route) ∧
    (fieldOf (loopReq 0 271 0).value 19 9 = 271 ∧
      ((looped (loopReq 2 271 0) 271 LoopSt.reset).gdl.loop 271).enabled = false ∧
      ((looped (loopReq 4 255 1) 255 enabledLoop).gdl.loop 255).enabled = true ∧
      ((looped (loopReq 4 255 0) 255 LoopSt.reset).gdl.loop 255).enabled = false) ∧
    (let s := (withReport aReport enabledLoop).modGdl fun g => { g with batch := [loopReq 3 0 0] }
     s.gdl.reports = aReport :: [] ∧ s.clearsFirst aReport = true) ∧
    (let x := { aReport with slotEnd := 10500001 }
     (withReport x enabledLoop).time < x.slotEnd) ∧
    (let x := { aReport with tRep := 100000001 }
     let s := withReport x enabledLoop
     x.slotEnd ≤ s.time ∧ s.clearsFirst x = false ∧ (s.gdl.loop x.robot).enabled = true ∧ x.stale = true) ∧
    (let s := (withReport aReport enabledLoop).modFleet fun f => { f with stops := [bootStop] }
     aReport.stale = false ∧ s.clearsFirst aReport = false ∧ s.fleet.covered aReport.robot = true ∧
      (s.gdesc (s.gdl.loop aReport.robot).desc).isSome = true) ∧
    (let s := (withReport aReport enabledLoop).modStk fun k => { k with chans := [(0, aChan)] }
     s.onRoute aReport = true ∧ s.phasePassed aReport = false ∧
      (withReport aReport enabledLoop).onRoute aReport = false) ∧
    (let s := (withReport aReport enabledLoop).modGdl fun g => { g with
       out := tblPut (fun _ => none) g.out 0 (some (10400000, none)) }
     s.phasePassed aReport = true) ∧
    (let s := phase.modGdl fun g => { g with trims := [{ aTrim with ready := 10399801 }] }
     s.gdl.trims.getLast? = some { aTrim with ready := 10399801 } ∧ phase.air.spanStart 0 < 10399801 + 200 ∧
      (s.gdl.reports.any fun x => x.robot == 0 && decide (x.slotEnd + 400000 ≤ s.air.spanStart 0) && s.trimDue x)
        = false) ∧
    (let s := phase.modGdl fun g => { g with
       trims := []
       reports := [aReport] }
     (s.modStk fun k => { k with chans := [(0, aChan)] }).gdl.trims = [] ∧
      ((s.modStk fun k => { k with chans := [(0, aChan)] }).gdl.reports.any fun x =>
        x.robot == 0 && decide (x.slotEnd + 400000 ≤ s.air.spanStart 0) &&
          (s.modStk fun k => { k with chans := [(0, aChan)] }).trimDue x) = true) ∧
    (let s := phase.modGdl fun g => { g with trims := [] }
     s.gdl.reports = [] ∧ s.gdl.trims = []) ∧
    (let s := stagedDuty
     s.drv.ch[7].centre < s.time / 50000 ∧ (s.gdl.loop (256 + 2 * 7)).enabled = true ∧ s.drv.ch[7].suspended = false ∧
      s.drv.ch[7].a.readyAt (s.time / 50000) = some 55 ∧
      (s.time / 50000 ≤ (s.modDrv fun d => { d with
        ch := d.ch.set 7 { d.ch[7] with centre := 210 } }).drv.ch[7].centre)) := by
  decide +kernel

/-! ## The air and the ledgers (O29 to O31) -/

/-- A ledger with settings of its own. -/
def aLedger : Ledger :=
  { lbt := false
    power := true
    limit := 1000
    window := 3600
    reserve := 100
    keep := 100
    ccaThr := -80
    ccaTime := 16
    eirpMax := 20
    buckets := List.replicate 64 (0, 0)
    start := 0
    hold1 := none
    hold2 := none
    overdraw := false
    held1 := 0
    held2 := 0
    lbtBusy := 0 }

/-- The air is on, in superframe 5 of the small plan, in robot 0's uplink slot, its entry ACTIVE. -/
def onAir : State :=
  (((running.setReg rAirCfg 0xBEEF03FF).modAir fun a => { a with
    plan := some planBytes
    counting := true
    superframe := 5
    slotStart := 10400000
    sfStart := 10400000
    tables := a.tables.set 0 [(0, { Station.empty with
      ext := 0x1122334455667788
      state := 2
      channel := 11 })] }).modRfb fun r => { r with
    ledgers := #v[aLedger, aLedger]
    retained := none }).modPalette fun p => { p with queues := p.queues.map fun q => { q with limit := 100 } }

/-- UDATA of robot 0 on channel 11, sealed under its key. -/
def udataFrame : List Byte :=
  let hdr := toLE 2 0xA849 ++ toLE 1 77 ++ toLE 2 0xBEEF ++ toLE 2 0 ++ toLE 2 0x100 ++ [0x26#8]
  sealEnc (onAir.keyOf 0 0) (nonceOf 0x1122334455667788 (frameCounter 5 0 0) 6) hdr [6, 0xAA]

/-- The frame is opened under the state's present counter, and not under the next superframe's. -/
def udataOpens : Bool :=
  match parseMpdu onAir.panId udataFrame with
  | none => false
  | some m =>
    let opened (sf : Nat) := ccmOpen (onAir.keyOf 0 0) (nonceOf 0x1122334455667788 (frameCounter sf 0 0) 6) m.hdr m.body m.mic
    m.level == 6 && m.short == some 0x100 && m.seq == 77 && opened 5 == some [6, 0xAA] && opened 6 == none &&
      stationPayloadOk false true [6, 0xAA]

theorem witness_StationFrames_sealed : udataOpens = true := by decide +kernel

theorem witness_StationFrames_unsealed :
    onAir.airOn = true ∧ parseMpdu onAir.panId [] = none ∧ (onAir.air.station 0 0).state = 2 ∧
      (onAir.air.station 0 0).ext = 0x1122334455667788 ∧ onAir.air.superframe = 5 ∧ onAir.air.spanSlot 0 = 0 := by
  decide +kernel

def aRx (payload : List Byte) : Rx :=
  { chain := 0, channel := 11, station := 0, ext := 0x99, seq := 77, sfd := 10500000, endT := 10500000, rssi := 200
    payload := payload, sf := 5, slotStart := 8400000, slotEnd := 10400000, offset := 0, isNew := false
    forwarded := false }

def heard (payload : List Byte) : State := onAir.modAir fun a => { a with rx := [aRx payload] }

def aFrame : TxFrame := { chain := 0, channel := 26, station := 0, seq := 5, kind := .grant 0 9, endT := 10000000 }

theorem witness_StationFrames :
    (let s := onAir
     let e := s.air.station 0 0
     s.air.offsetOf 0 0 (s.air.nominalSfd 0) = some 0 ∧ (0 : Int).natAbs ≤ s.air.window 0 0 e 0 (s.air.nominalSfd 0) ∧
      s.serving = true ∧ e.isDup 77 s.air.superframe = false ∧ s.rxRoom 0 (aRx [6, 0xAA]) = true ∧
      (s.air.station 0 9).state = 0) ∧
    (let s := heard (1 :: List.replicate 16 0)
     s.air.rx = [aRx (1 :: List.replicate 16 0)] ∧ leAt (1 :: List.replicate 16 (0 : Byte)) 0 1 % 16 = 1 ∧
      (s.air.assign 0 0).isSome = true) ∧
    (leAt [(6 : Byte), 1] 0 1 % 16 = 6) ∧
    (let s := heard [5, 0, 0]
     leAt [(5 : Byte), 0, 0] 0 1 % 16 = 5 ∧ s.joinIndex 0 0x99 = some (1023, 2) ∧ s.serving = true ∧
      s.rxRoom (chainOf (aRx [5, 0, 0])) { aRx [5, 0, 0] with
        station := 1023
        isNew := true } = true) ∧
    (let s := (heard [5, 0, 0]).modAir fun a => { a with tables := a.tables.set 0 [(1023, { Station.empty with state := 1 })] }
     s.joinIndex (chainOf (aRx [5, 0, 0])) 0x99 = none) ∧
    (let g := { aGrant with state := .sent }
     let s := (onAir.modAir fun a => { a with onAir := [aFrame] }).modCanvas fun c => { c with grants := [g] }
     s.airOn = true ∧ s.standby = false ∧ s.air.onAir = [aFrame] ∧
      aFrame.acked 0 (11 + 15) 5 (10000000 + 192000 + 16000) = true ∧ aFrame.kind = .grant g.robot g.gen ∧
      s.canvas.grants = [g] ∧ g.due = none ∧ g.state = .sent) ∧
    (let e := { Station.empty with
       state := 1
       age := 3000 }
     let s := onAir.modAir fun a => { a with tables := a.tables.set 1 [(1023, e)] }
     e = s.air.station 1 1023 ∧ e.state = 1 ∧ e.provisioned = false ∧ s.rf rAirAge 0 16 = e.age ∧
      (onAir.air.station 0 0).age < onAir.rf rAirAge 0 16) ∧
    (let s := onAir.setReg rAirStIdx 0x80001FF8
     s.awake = true ∧ 2 ≤ s.pcieRole ∧ s.stIdx = (1, 1023)) ∧
    (let s := onAir.modAir fun a => { a with tables := a.tables.set 0 [(0, { Station.empty with provisioned := true })] }
     (s.air.station 0 s.air.scrubAt).provisioned = true) ∧
    (onAir.air.keyWords.length < 3 ∧ onAir.air.keyKind = 0 ∧
      (onAir.modAir fun a => { a with keyWords := [1, 2, 3] }).air.keyWords.length = 3 ∧
      4 ≤ (onAir.modAir fun a => { a with keyWords := [1, 2, 3, 4] }).air.keyWords.length) := by decide +kernel

theorem witness_StationFrames_edges :
    (State.reset.airOn = false ∧ onAir.airOn = true ∧
      onAir.blanked 0 (onAir.sfdStamp 0 0) udataFrame.length = false ∧ (parseMpdu onAir.panId udataFrame).isSome = true) ∧
    (let s := onAir.modPalette fun p => { p with queues := p.queues.map fun q => { q with limit := 0 } }
     s.rxRoom 0 (aRx [6, 0xAA]) = false) ∧
    (let s := onAir.modTwin fun t => { t with
       state := .standbyInstep
       link := 1 }
     s.standby = true ∧ s.airOn = true) ∧
    (let s := heard (1 :: List.replicate 16 0)
     (s.air.rx.find? fun x => leAt x.payload 0 1 % 16 == 1) = some (aRx (1 :: List.replicate 16 0))) ∧
    (let x := { aRx (1 :: List.replicate 16 0) with station := 9 }
     onAir.air.assign x.chain x.station = none) ∧
    (let s := heard [6, 1]
     (s.air.rx.find? fun x => leAt x.payload 0 1 % 16 == 6) = some (aRx [6, 1]) ∧
      (∀ x ∈ s.air.rx, leAt x.payload 0 1 % 16 ≠ 1)) ∧
    (let s := heard [5, 0, 0]
     (s.air.rx.find? fun x => leAt x.payload 0 1 % 16 == 5) = some (aRx [5, 0, 0]) ∧ (aRx [5, 0, 0]).forwarded = false) ∧
    (∀ f ∈ onAir.air.onAir, f.acked 0 26 5 0 = false) ∧
    (plain.pcieRole < 2 ∧ onAir.awake = true ∧ 2 ≤ onAir.pcieRole) := by decide +kernel

def aBurst : Burst :=
  { seq := 1, kind := 0, frame := [], num := 0, dsn := 5, mpdu := [1], g1 := 0, t0 := 10500000, done24 := 0, doneSub := 0
    end24 := 0, subEnd := 0, echo := 0 }

/-- Superframe 0 waits: the incarnation stored and the plan in force at these device times. -/
def uncounted (stored plan : Nat) : State :=
  (onAir.modAir fun a => { a with
    counting := false
    planAt := plan }).modFleet fun f => { f with
      incStored := true
      incStoredAt := stored }

theorem witness_SuperframesSlotsAndBursts :
    (let s := uncounted 9999999 0
     s.air.plan = some planBytes ∧ s.time / slotNs * slotNs = 10000000 ∧ s.air.counting = false ∧
      s.fleet.incStored = true ∧ s.fleet.incStoredAt < 10000000 ∧ s.air.planAt < 10000000 ∧
      10000000 ≤ (uncounted 0 10000000).air.planAt ∧ 10000000 ≤ (uncounted 10000000 0).fleet.incStoredAt ∧
      onAir.fleet.incStored = false ∧ up.air.plan = none) ∧
    (let s := onAir.modAir fun a => { a with
       slot := 1
       slotStart := 8500000
       sfStart := 6500000 }
     s.air.counting = true ∧ s.air.sfStart ≤ s.air.slotStart ∧ planLen planBytes ≤ s.air.slot + 1 ∧
      s.air.slotStart + slotNs ≤ s.time) ∧
    (onAir.air.counting = true ∧ onAir.time < onAir.air.slotStart + slotNs) ∧
    (let s := onAir.modAir fun a => { a with
       slot := 1
       slotStart := 8500000
       sfStart := 10500000 }
     s.air.slotStart + slotNs = s.time ∧ s.air.slotStart < s.air.sfStart) ∧
    (let s := onAir.modAir fun a => { a with
       slotStart := 8500000
       sfStart := 8500000 }
     s.air.slotStart + slotNs = s.time ∧ s.air.sfStart ≤ s.air.slotStart ∧ s.air.slot + 1 < planLen planBytes) ∧
    (running.air.plan = none ∧ running.awake = true ∧ running.air.boundary < running.time / slotNs) ∧
    (let s := onAir.modAir fun a => { a with nextPlan := some (5, planBytes) }
     s.air.nextPlan = some (5, planBytes) ∧ s.air.counting = true ∧ 5 ≤ s.air.superframe ∧ s.air.superframe < 6 ∧
      onAir.air.nextPlan = none) ∧
    (let s := onAir.modAir fun a => { a with burst := some aBurst }
     s.air.burst = some aBurst ∧ aBurst.next 0 = some 10500000 ∧ 10500000 ≤ s.time ∧ aBurst.mpdu ≠ [] ∧
      s.rfb.power[0].p.isSome = true ∧ aBurst.next 1 = some 10500000 ∧ s.rfb.power[1].p.isSome = true ∧
      (s.modAir fun a => { a with plan := some (planBytes.set 2 1) }).subSilent = false) ∧
    (let b := { aBurst with done24 := 1 }
     b.next 0 = some 15500000 ∧ onAir.time < 15500000 ∧ onAir.air.burst = none) ∧
    (let s := (atTime (11 * second) pair).modAir fun a => { a with
       agreeSince := some second
       echo := true }
     s.air.agreeSince = some second ∧ s.air.echo = true ∧ s.twin.link ≠ 0 ∧ second + 10 * second ≤ s.time ∧
      pair.air.echo = false) := by
  decide +kernel

theorem witness_LedgersAndPower :
    (let s := onAir
     s.now < ({ aLedger with start := s.now }).start + aLedger.bucketNs ∧ s.pwr.state = .run ∧
      ({ aLedger with window := 1 }).start + ({ aLedger with window := 1 }).bucketNs ≤ s.now) ∧
    ((({ up with now := 60 * second }).rfb.snapAt + 60 * second ≤ 60 * second) ∧ up.pwr.dip = false ∧ up.awake = true ∧
      up.now < up.rfb.snapAt + 60 * second ∧ State.reset.awake = false) ∧
    (let s := { up with now := 60 * second }
     (s.modPwr fun p => { p with dip := true }).pwr.dip = true ∧ s.pwr.state ≠ .deep ∧ s.pwr.state ≠ .off) ∧
    (onAir.awake = true ∧ 2 ≤ onAir.pcieRole ∧ plain.pcieRole < 2 ∧ (0 : Fin 2).val = onAir.rf rLdgIdx 0 1 ∧
      (1 : Fin 2).val = (onAir.setReg rLdgIdx 1).rf rLdgIdx 0 1) ∧
    ((aLedger.write .cfg 0x03E80E10).valid = true ∧ (aLedger.write .cfg 0x03E80E11).valid = false ∧
      (aLedger.write .res 0x01F401F3).valid = true ∧ (aLedger.write .res 0x01F401F4).valid = false ∧
      (aLedger.write .rf 0x00005014).valid = true ∧ (aLedger.write .rf 0x00005114).valid = false) ∧
    (let s := onAir.modRfb fun r => { r with radio := some radioBytes }
     leastDbm 0 ≤ s.rfb.compute 0) ∧
    (let s := onAir.modRfb fun r => { r with
       radio := some radioBytes
       ledgers := #v[{ aLedger with eirpMax := -60 }, aLedger] }
     s.rfb.compute 0 < leastDbm 0) := by decide +kernel

end Sys2Proof.Tests
end

