-- ==== Sys2Proof/Tests/WitnessC.lean ====
section
/-! SUPPORT. States and operands that meet the hypotheses of the statements on the receiver, time, the network,
the host interfaces, the Palette and the twin pair, clause by clause. -/

namespace Sys2Proof.Tests

-- one theorem after another, for memory's sake
set_option Elab.async false

open Sys2Proof Sys2Proof.Machine

/-! ## The receiver and time (O32 to O35) -/

def gps : SvSlot := { SvSlot.free with
  prn := 5
  tracked := true
  lowSince := some 0 }

def gnss (f : Gnss → Gnss) (s : State := up) : State := s.modGnss f

def engaged (since : Nat) : Notch := { on := true, bin := 9, lowSince := some since }

/-- Two satellites of system 3 in view, which `someSky` uses. -/
def lowSat : SvInView := { sys := 3, prn := 5, elev := 20, healthy := true }
def highSat : SvInView := { sys := 3, prn := 6, elev := 30, healthy := true }
def someSky : State := up.setReg rGnsCfg 0x00078000

/-- A spectrum with one strong bin. -/
def oneBin : List Nat := List.replicate 9 10 ++ [99] ++ List.replicate 20 10

/-- Both antennas are biased, antenna 1 with this fault since 10 s ago. -/
def faulty (f : Nat) : State := (gnss fun g => { g with
  ant := g.ant.set 1 { fault := f, triedAt := up.now - 10 * second } }).setReg rGnsCfg 0x00C00000

def capturing (t : Nat) : State := atTime t (gnss fun g => { g with
  capBusy := true
  capAt := 9000000
  capCount := 61 })

theorem witness_GnssSatellitesAntennaAndCapture :
    (let s := someSky
     s.gnss.freeSlot = some 0 ∧ s.qualifies lowSat = true ∧ s.qualifies highSat = true ∧
      s.qualifies { lowSat with healthy := false } = false) ∧
    (let s := gnss (fun g => { g with slots := (g.slots.map fun _ => gps).set 63 SvSlot.free }) someSky
     s.gnss.freeSlot = some 63 ∧ s.qualifies highSat = true) ∧
    ((gnss (fun g => { g with slots := g.slots.map fun _ => gps }) someSky).gnss.freeSlot = none) ∧
    (let s := { gnss (fun g => { g with slots := g.slots.set 63 gps }) with now := 60 * second }
     s.gnss.slots[63].lowSince = some 0 ∧ 0 + 60 * second ≤ s.now ∧ ({ s with now := 60 * second - 1 }).now < 60 * second) ∧
    (up.awake = true ∧ up.rf rGnsJam 0 8 < 200 + 55 ∧ up.notchMode 1 2 = 1) ∧
    (let s := (up.setReg rGnsJam 0).setReg (rGnsNotch 1 2) 0x10000005
     s.awake = true ∧ s.rf rGnsJam 0 8 < 1) ∧
    (let s := [0, 1, 2, 3].foldl (fun s k => s.setReg (rGnsNotch 1 k) 0) up
     s.awake = true ∧ (∀ k : Fin 4, s.notchMode 1 k ≠ 1)) ∧
    (let s := [0, 1, 3].foldl (fun s k => s.setReg (rGnsNotch 1 k) 0) up
     s.notchMode 1 2 = 1 ∧ s.gnss.notches[notchIx 1 2].on = false ∧ (∀ m : Fin 4, m ≠ 2 → s.notchMode 1 m ≠ 1) ∧
      strongest oneBin (s.heldBins 1) = some 9 ∧ medianBin oneBin + s.notchThr 1 2 < oneBin.getD 9 0) ∧
    ({ up with pwr := { up.pwr with state := .sleep } }).awake = false ∧
    (let n := engaged (up.now - second)
     let s := gnss fun g => { g with notches := g.notches.set 7 n }
     n = s.gnss.notches[notchIx 1 3] ∧ n.on = true ∧ n.lowSince = some (up.now - second) ∧
      up.now - second + second ≤ s.now ∧ s.now < up.now - second + 1 + second) := by decide +kernel

theorem witness_GnssSatellitesAntennaAndCapture_edges :
    ((faulty 0).rbit rGnsCfg (22 + 1) = true ∧ (faulty 0).gnss.ant[1].fault = 0 ∧ (2#16).toNat < 3 ∧
      ¬ (3#16).toNat < 3 ∧ ¬ 60 < (60#16).toNat ∧ 60 < (61#16).toNat) ∧
    ((faulty 1).gnss.ant[1].fault = 1 ∧ (faulty 2).gnss.ant[1].fault = 2 ∧
      (faulty 1).gnss.ant[1].triedAt + 10 * second ≤ (faulty 1).now ∧
      ({ faulty 1 with now := up.now - 1 }).now < (faulty 1).gnss.ant[1].triedAt + 10 * second) ∧
    ((up.setReg rGnsCfg 0).rbit rGnsCfg 22 = false) ∧
    (up.gnss.capBusy = false ∧ 2 ≤ up.pcieRole ∧ flagOf 0xA0100000#32 31 = true ∧
      1 ≤ fieldOf 0xA0100000#32 0 21 ∧ fieldOf 0xA0100000#32 0 21 = 2 ^ 20 ∧ 2 ^ 20 < fieldOf 0xA0100001#32 0 21 ∧
      flagOf 0x20100000#32 31 = false ∧ fieldOf 0xA0000000#32 0 21 = 0) ∧
    (let s := capturing 10000000
     s.gnss.capBusy = true ∧ s.gnss.capAt + s.gnss.capCount * 100000 / 6144 ≤ s.time) ∧
    (let s := capturing 9000990
     s.time < s.gnss.capAt + s.gnss.capCount * 100000 / 6144) ∧
    (let s := { up with now := 3600 * second }
     s.gnss.navSavedAt + 3600 * second ≤ s.now ∧ up.now < up.gnss.navSavedAt + 3600 * second) ∧
    ((atTime second up).gnss.rateSetAt < (atTime second up).time / second ∧
      up.time / second ≤ up.gnss.rateSetAt) := by decide +kernel

/-- A Cartoon with a GNSS section runs; a survey has given its ARP. -/
def withArp (ts : TimeState) (desc : Bool) (b : List Byte) : State := ((running.modDsp fun d => { d with
  running := some { cart with sections := [aSection 0x12 b] } }).modGnss fun g => { g with
    arp := some (1, 2, 3)
    arpDue := true
    descDue := desc }).modServo fun v => { v with ts := ts }

/-- The GNSS section whose messages carry the antenna's height. -/
def highArp : List Byte := List.replicate 32 1

theorem witness_SurveysAndCorrections :
    (let s := atTime second up
     ratePeriod s.gnss.rate = second ∧ s.awake = true ∧ s.pwr.booted = true ∧
      s.gnss.lastEpoch < s.time / second * second ∧ up.time / second * second ≤ up.gnss.lastEpoch) ∧
    ({ up with pwr := { up.pwr with booted := false } }).pwr.booted = false ∧
    (2 ≤ up.pcieRole ∧ flagOf 0x80000000#32 31 = true ∧ flagOf 0#32 31 = false ∧ up.awake = true ∧
      (up.setReg rGnsCfg 0).posMode ≠ 2 ∧ up.posMode ≠ 2 ∧ plain.pcieRole < 2 ∧ plain.awake = true) ∧
    (let s := { (gnss fun g => { g with survey := 1 }).setReg rGnsSurvey 0x01000000 with now := 3600 * second }
     s.gnss.survey = 1 ∧ s.gnss.surveyAt + s.rf rGnsSurvey 24 7 * 3600 * second ≤ s.now ∧
      ({ s with now := 3600 * second - 1 }).now < s.gnss.surveyAt + s.rf rGnsSurvey 24 7 * 3600 * second) ∧
    ((0x1FFFFFF#64).toNat % 2 ^ 24 ≠ regReset rGnsAnt ∧ (1#64).toNat ≠ regReset (rGnsFix 2)) ∧
    (let s := { (gnss fun g => { g with farSince := some second }) with now := 61 * second }
     s.gnss.farSince = some second ∧ s.gnss.mismatch = false ∧ second + 60 * second ≤ s.now) ∧
    (let s := { (gnss fun g => { g with farSince := some second }) with now := 61 * second - 1 }
     s.gnss.farSince = some second ∧ s.now < second + 60 * second) ∧
    (let s := { (gnss fun g => { g with
       nearSince := some second
       mismatch := true }) with now := 61 * second }
     s.gnss.nearSince = some second ∧ s.gnss.mismatch = true ∧ second + 60 * second ≤ s.now ∧
      ({ s with now := 61 * second - 1 }).now < second + 60 * second) := by decide +kernel

theorem witness_SurveysAndCorrections_edges :
    (let s := withArp .locked true highArp
     s.gnssSection = some highArp ∧ s.gnss.arp = some (1, 2, 3) ∧ s.gnss.arpDue = true ∧ s.gnss.descDue = true ∧
      s.serving = true ∧ s.withheldCauses = 0) ∧
    (let s := withArp .locked false (List.replicate 32 0)
     s.gnssSection = some (List.replicate 32 0) ∧ s.gnss.descDue = false ∧ leAt (List.replicate 32 0) 9 1 ≠ 1) ∧
    ((withArp .untrusted true highArp).withheldCauses ≠ 0) ∧
    (let s := (withArp .locked true highArp).modTwin fun t => { t with state := .standbyInstep }
     s.serving = false ∧ s.gnss.arpDue = true) ∧
    (let s := gnss (fun g => { g with arpDue := false }) (withArp .locked true highArp)
     s.gnss.arpDue = false ∧ s.gnss.descDue = true ∧ s.serving = true) := by decide +kernel

def servo (f : Servo → Servo) (s : State := up) : State := s.modServo f

/-- A step of +5 ns waits since device time 0. -/
def stepping : State := atTime 2000000 (servo fun x => { x with stepDue := some (5, 0) })

/-- A latch of source 24 that the handler delivers at tick 9. -/
def delivering (raw : Nat) : Tmb := { up.tmb with
  raw := raw
  stamps := up.tmb.stamps.set 24 { up.tmb.stamps[24] with latched := some (5, 6) }
  handler := some (24, 9) }

theorem witness_TimeServoAndCounter :
    (let s := servo fun x => { x with
       ts := .recovering
       inLockSince := some (up.now - 10 * second) }
     s.tmb.following = false ∧ s.servo.ts = .recovering ∧ s.servo.inLockSince = some (up.now - 10 * second) ∧
      up.now - 10 * second + 10 * second ≤ s.now ∧ ({ s with now := up.now - 1 }).now < up.now - 10 * second + 10 * second) ∧
    (let s := servo fun x => { x with ts := .locked }
     s.servo.ts = .locked ∧ s.servo.lastValid + s.lossTime ≤ s.now ∧
      (servo fun x => { x with lastValid := up.now }).now < up.now + s.lossTime) ∧
    (let s := (servo fun x => { x with ts := .holdover }).setReg rGnsHold 0x00010101
     s.servo.ts = .holdover ∧ s.servo.uAt + 100 * ms ≤ s.now ∧ s.holdU ≤ s.holdLimit ∧
      ({ s with now := 2000 * second }).holdLimit < ({ s with now := 2000 * second }).holdU) ∧
    (let s := servo fun x => { x with jumpSince := some 0 }
     s.servo.jumpSince = some 0 ∧ 0 + 60 * second ≤ ({ s with now := 60 * second }).now ∧
      ({ s with now := 60 * second - 1 }).now < 0 + 60 * second) ∧
    (let s := stepping.modFleet fun f => { f with stops := [bootStop] }
     s.servo.stepDue = some (5, 0) ∧ s.boundaryDue 0 = true ∧ s.stepBar 5 = none ∧ stepping.stepBar 5 = some 1 ∧
      s.stepBar (-5) = some 0 ∧ stepping.boundaryDue 3000000 = false) := by decide +kernel

theorem witness_TimeServoAndCounter_pulse :
    (let s := atTime (second - 1) (servo fun x => { x with ts := .locked })
     (s.time + 1) / s.tpPeriod * s.tpPeriod = second ∧ s.pwr.booted = true ∧ s.tp.lastDue < second ∧
      s.servo.ts = .locked ∧ s.tp.lastRaw = none ∧ (s.time + 1) / s.tpPeriod * s.tpPeriod ≤
        (s.modTp fun t => { t with lastDue := second }).tp.lastDue) ∧
    (let s := (atTime (second - 1) (servo fun x => { x with ts := .locked })).modTp fun t => { t with
       lastRaw := some (second / 2 - 1) }
     s.tpPeriod ≤ 2 * (s.tmb.raw - (second / 2 - 1)) ∧ 2 * (s.tmb.raw - second / 2) < s.tpPeriod) ∧
    (let s := (atTime (second - 1) up).setReg rGnsTp 0
     s.servo.ts = .untrusted ∧ s.rbit rGnsTp 25 = false ∧ s.tp.lastDue < second) ∧
    ((atTime (2 ^ 34) up).tmb.rateBase + 2 ^ 34 ≤ (atTime (2 ^ 34) up).tmb.raw ∧ up.tmb.raw < up.tmb.rateBase + 2 ^ 34) ∧
    (let s := servo fun x => { x with ts := .locked }
     s.pwr.rtcAt + second ≤ s.now) := by decide +kernel

theorem witness_TimeServoAndCounter_stamps :
    (up.stampOn 24 = true ∧ up.tmb.stamps[24].latched = none ∧ up.tmb.handler = none ∧
      ({ up with tmb := delivering 8 }).tmb.stamps[24].latched ≠ none ∧ up.stampOn 0 = false) ∧
    ((delivering 8).handler = some (24, 9) ∧ (delivering 8).stamps[24].latched = some (5, 6) ∧ (delivering 8).raw < 9 ∧
      9 ≤ (delivering 9).raw) ∧
    (let s := (atTime 2000000 (servo fun x => { x with srcAt := some 0 })).modTmb fun t => { t with src := 2 }
     s.servo.srcAt = some 0 ∧ s.tmb.following = false ∧ s.tmb.src ≠ s.tmb.srcUsed ∧ s.boundaryDue 0 = true ∧
      (s.modTmb fun t => { t with raw := 1999999 }).boundaryDue 0 = false ∧
      (s.modTmb fun t => { t with src := t.srcUsed }).tmb.src = s.tmb.srcUsed) ∧
    (let s := up.modTmb fun t => { t with srcUsed := 2 }
     plain.pcieRole < 2 ∧ 2 ≤ s.pcieRole ∧ s.free = true ∧ s.time < (1#64).toNat ∧ (0#64).toNat ≤ s.time ∧
      up.free = false ∧ (0x7FFFFFFF#32).toInt.natAbs > 2 ^ 28 ∧ (0xFFFFFFFF#32).toInt.natAbs ≤ 2 ^ 28) := by decide +kernel

/-- Port 1 on, with a link, an address and a role of PTP. -/
def ethUp (role : Nat) : State :=
  { up with
    regs := [(rEthCfg 1, 1), (rEthIp 1, 0xC0A80001), (rEthMac 1, 0x020000000001), (rEthPtp 1, role)]
    eth := up.eth.set 1 { EthPort.reset with link := true } }

def withQ (q : Nat) (ps : List Packet) (s : State) : State := s.modPalette fun p => p.modQ q fun x => { x with packets := ps }

/-- Broadcast of an experimental type, 14 bytes, and one of 1,514; an ARP request and a PTP event. -/
def shortFrame : List Byte := List.replicate 6 0xFF ++ (List.replicate 6 2 ++ [0x88, 0xB5])
def longFrame : List Byte := shortFrame ++ List.replicate 1500 7
def arpAsk : List Byte := List.replicate 6 0xFF ++ (List.replicate 6 2 ++ [0x08, 0x06, 0, 1, 8, 0, 6, 4, 0, 1, 2, 3, 4, 5,
  6, 7, 192, 168, 0, 9, 0, 0, 0, 0, 0, 0, 192, 168, 0, 1])
def ptpEvent : List Byte := [0x01, 0x1B, 0x19, 0, 0, 0] ++ (List.replicate 6 2 ++ [0x88, 0xF7] ++ List.replicate 44 0)

def aMsg : PtpMsg := { domain := 0, seq := 4, source := 77, corr := 0, time := 9, twoStep := true }

/-- A master heard twice. -/
def aMaster : Master :=
  { prio1 := 1, cls := 6, accuracy := 0x20, variance := 0, prio2 := 1, identity := 7, steps := 0, sender := 77
    heardAt := 20 * second, before := some (19 * second) }

/-- A client of that master. -/
def withEx (x : Option PtpEx) : State :=
  let s := ethUp 2
  { s with eth := s.eth.set 1 { s.eth[1] with
    masters := [aMaster]
    best := some aMaster
    ex := x } }

theorem witness_EthernetAndPtp :
    ((ethUp 0).eth[1].link = true ∧ up.eth[1].link ≠ true) ∧
    (let k : Packet := { level := 7, bytes := shortFrame }
     let s := withQ 18 [{ k with level := 0 }, k] (ethUp 0)
     (s.palette.q 18).headIndex = some 1 ∧ (s.palette.q 18).packets[1]? = some k ∧ s.ethOn 1 = true ∧
      s.eth[1].link = true ∧ egressOk k.bytes = true ∧ egressOk longFrame = true ∧ egressOk [1] = false) ∧
    (let s := (withQ 18 [{ level := 0, bytes := [] }] up).modPalette fun p => p.modQ 18 fun x => { x with
       headSince := some (up.now - 10 * ms) }
     (s.palette.q 18).headIndex = some 0 ∧ s.eth[1].link = false ∧
      (s.palette.q 18).headSince = some (up.now - 10 * ms) ∧ up.now - 10 * ms + 10 * ms ≤ s.now ∧
      ({ s with now := up.now - 1 }).now < up.now - 10 * ms + 10 * ms) ∧
    (let s := ethUp 0
     let k : Packet := { level := 0, bytes := toLE 8 (codeOf 64 (s.rxTime 1)) ++ longFrame }
     shortFrame.length = 14 ∧ longFrame.length = 1514 ∧ s.forUs 1 longFrame = true ∧ s.isPtp 1 longFrame = false ∧
      s.isArp 1 longFrame = false ∧ s.standby = false ∧ s.palette.rebuilds = [] ∧
      s.palette.admits 20 k.cells = true ∧ s.forUs 1 shortFrame = true ∧
      s.forUs 1 (0#8 :: shortFrame) = false ∧ s.isArp 1 arpAsk = true ∧ s.isPtp 1 arpAsk = false ∧
      s.forUs 1 arpAsk = true ∧ (ethUp 1).isPtp 1 ptpEvent = true ∧ (ethUp 1).forUs 1 ptpEvent = true ∧
      ((ethUp 0).modTwin fun t => { t with state := .standbyInstep }).standby = true) ∧
    ((ethUp 0).ethIp 1 ≠ 0 ∧ (ethUp 0).ethIp 1 < 2 ^ 32) := by decide +kernel

theorem witness_EthernetAndPtp_ptp :
    (let s := ethUp 1
     s.ptpRole 1 1 = true ∧ s.elapsed s.eth[1].syncAt (s.syncPeriod 1) = true ∧
      s.elapsed s.eth[1].annAt (s.annPeriod 1) = true ∧ s.elapsed (some s.now) (s.syncPeriod 1) = false ∧
      s.elapsed (some s.now) (s.annPeriod 1) = false ∧ s.inDomain 1 aMsg = true ∧ s.rbit (rEthPtp 1) 2 = false ∧
      s.inDomain 1 { aMsg with domain := 1 } = false ∧ (ethUp 5).rbit (rEthPtp 1) 2 = true ∧
      (ethUp 5).ptpRole 1 1 = true ∧ (ethUp 5).ethIp 1 ≠ 0) ∧
    (let s := ethUp 2
     s.ptpRole 1 2 = true ∧ s.inDomain 1 aMsg = true ∧ s.eth[1].masters = [] ∧ s.eth[1].best = none) ∧
    (let s := withEx none
     s.eth[1].masters = [aMaster] ∧ aMaster.sender = aMsg.source.toNat ∧ s.now < aMaster.heardAt + 4 * s.annPeriod 1 ∧
      s.eth[1].best.map (·.identity) ≠ some 9 ∧ s.eth[1].best.map (·.identity) = some 7) ∧
    (let x : PtpEx := { syncSeq := 4, t1 := none, t2 := 100, reqSeq := none, t3 := 0 }
     (withEx none).fromBest 1 aMsg = true ∧ (withEx (some x)).eth[1].ex = some x ∧ x.syncSeq = aMsg.seq.toNat ∧
      x.t1 = none ∧ ({ x with t1 := some 50 }).reqSeq = none ∧ (ethUp 2).fromBest 1 aMsg = false ∧
      (withEx none).fromBest 1 { aMsg with source := 4 } = false) ∧
    (let x : PtpEx := { syncSeq := 4, t1 := some 50, t2 := 100, reqSeq := some 4, t3 := 120 }
     let s := withEx (some x)
     s.eth[1].ex = some x ∧ x.t1 = some 50 ∧ x.reqSeq = some aMsg.seq.toNat ∧ s.portId 1 < 2 ^ 80 ∧
      s.fromBest 1 aMsg = true ∧ s.tmb.following = false ∧
      (s.modTmb fun t => { t with srcUsed := 1 }).tmb.srcUsed = 1 ∧ s.ptpRole 1 2 = true ∧
      s.elapsed s.eth[1].reqAt second = true ∧ s.elapsed (some (up.now - 1)) second = false) := by decide +kernel

/-! ## Locks, mailboxes, ports and the Palette (O36 to O44) -/

/-- A channel between two parties with these words under way. -/
def joined (a b : Nat) (out back : List MbxWord) : Mbx := { Mbx.unjoined with
  end0 := a
  end1 := b
  toEnd1 := { words := out, timedOut := false }
  toEnd0 := { words := back, timedOut := false } }

def aWord : MbxWord := { word := 5, source := 9, sentAt := 0 }

/-- Both clocked ends alive, channel 3 joined as given. -/
def mail (m : Mbx) : State := (up.modHost fun h => { h with
  mbxUp := true
  dpEn := true
  supervisorUp := true }).modCh 3 fun _ => m

theorem witness_LockReadsAcquire :
    (up.awake = true ∧ up.dpUp = true ∧ up.host.holder 31 = 15 ∧ Arb.chosen ≠ .tie) ∧
    (let s := up.modHost fun h => (h.setHolder 0 9).setHolder 31 10
     s.host.holder 0 = 9 ∧ s.host.holder 31 = 10 ∧ s.host.holder 1 = 15) := by decide +kernel

theorem witness_LockReleases :
    (plain.awake = true ∧ plain.pcieRole < 2 ∧ 2 ≤ up.pcieRole ∧ up.dpUp = true ∧ flagOf 0x8000001F#32 31 = true) ∧
    ((up.modHost fun h => h.setHolder 31 7).host.holder (Fin.ofNat 32 (fieldOf 0x8000001F#32 0 5)) ≠ 15) := by
  decide +kernel

theorem witness_MailboxSendAndTake :
    (let s := mail (joined 2 3 (List.replicate 15 aWord) [aWord])
     s.awake = true ∧ (s.host.ch 3).has 2 = true ∧ s.endDead 2 = false ∧ s.endDead ((s.host.ch 3).peer 2) = false ∧
      ((s.host.ch 3).outbound 2).words.length = 15 ∧ ((s.host.ch 3).inbound 2).words = aWord :: []) ∧
    ((mail (joined 2 3 (List.replicate 16 aWord) [])).host.ch 3).toEnd1.words.length = 16 ∧
    (mail (joined 2 1 [] [])).endDead 1 = true ∧
    (let s := mail (joined 3 2 [] [aWord, aWord])
     s.dpUp = true ∧ (s.host.ch 3).has 3 = true ∧ ((s.host.ch 3).inbound 3).words = aWord :: [aWord] ∧
      s.endDead 3 = false ∧ s.endDead ((s.host.ch 3).peer 3) = false ∧ ((s.host.ch 3).outbound 3).words.length < 16 ∧
      (s.host.ch 4).has 3 = false ∧ (s.host.ch 4).has 2 = false) := by decide +kernel

theorem witness_MailboxTimeoutsAndDeath :
    (let s := mail (joined 2 3 [aWord] [])
     (s.host.ch 3).toEnd1.words = aWord :: [] ∧ (s.host.ch 3).toEnd1.timedOut = false ∧
      aWord.sentAt + (s.host.ch 3).tmo * us < s.now ∧ (s.host.ch 3).end0 = 2 ∧ (s.host.ch 3).has 2 = true ∧
      s.host.mbxUp = true ∧ 1 ≤ s.pcieRole ∧ s.awake = true ∧ s.host.dpEn = true ∧ 2 ≤ s.pcieRole ∧ s.dpUp = true) ∧
    (let s := (mail Mbx.unjoined).modCh 15 fun m => { m with
       toEnd1 := { words := [aWord], timedOut := false }
       toEnd0 := { words := List.replicate 15 aWord, timedOut := false } }
     (s.host.ch 15).end0 = 2 ∧ (s.host.ch 15).end1 = 4 ∧ (s.host.ch 15).toEnd1.words = aWord :: [] ∧
      s.host.supervisorUp = true ∧ s.host.mbxUp = true ∧ (s.host.ch 15).toEnd0.words.length < 16 ∧
      s.host.mbxOwed = 0) := by decide +kernel

def aJob (q len : Nat) : PortJob := { addr := 0x1000, queue := q, level := 3, len := len }

def putting (j : PortJob) : State := up.modHost fun h => { h with putJob := some j }

/-- A get of queue 63, which the host may read. -/
def getting (len : Nat) (ps : List Packet) : State :=
  (up.modHost fun h => { h with getJob := some (aJob 63 len) }).modPalette fun p =>
    p.modQ 63 fun x => { x with
      packets := ps
      access := 15 }

theorem witness_HostPorts :
    (1 ≤ up.pcieRole ∧ flagOf 0x80000000#32 31 = true ∧ up.awake = true ∧ up.host.putJob = none ∧
      up.host.getJob = none ∧ (putting (aJob 23 1)).host.putJob = some (aJob 23 1) ∧
      (getting 1 []).host.getJob = some (aJob 63 1)) ∧
    (let s := putting (aJob 23 2048)
     s.host.putJob = some (aJob 23 2048) ∧ s.palette.rebuilds = [] ∧ s.palette.hostPut 23 = true ∧
      s.palette.admits 23 (cellsFor 2048) = true ∧ s.palette.admits 23 (cellsFor 1) = true ∧
      s.palette.hostPut 0 = false) ∧
    (let k : Packet := { level := 2, bytes := List.replicate 2048 1 }
     let s := getting 2048 [k]
     s.host.getJob = some (aJob 63 2048) ∧ s.palette.hostGet 63 = true ∧ (s.palette.q 63).head = some k ∧
      1 ≤ k.bytes.length ∧ k.bytes.length ≤ 2048) := by decide +kernel

def ring (f : Evq → Evq) : State := up.modHost fun h => { h with evq := h.evq.set 7 (f { Evq.reset with en := true }) }

theorem witness_EventQueueRings :
    (1 ≤ up.pcieRole ∧ flagOf 0x80000000#32 31 = true ∧ (up.host.q 7).en = false ∧ up.awake = true) ∧
    (let k : Packet := { level := 0, bytes := List.replicate 32 0 }
     let s := withQ 31 [k] (ring fun q => { q with
       head := 15
       tail := 8 })
     (s.host.q 7).en = true ∧ (s.host.q 7).room = true ∧ (s.palette.q 31).head = some k) ∧
    (((ring fun q => { q with tail := 1 }).host.q 7).room = false) ∧
    (let s := ring fun q => { q with
       unsignalled := 1
       firstAt := up.now - 100 * us }
     (s.host.q 7).unsignalled ≠ 0 ∧ (s.host.q 7).firstAt + (s.host.q 7).modTime * us ≤ s.now) := by decide +kernel

theorem witness_FlushRebuildAndPartials :
    (1 ≤ up.pcieRole ∧ flagOf 0x8000003F#32 31 = true ∧ up.readBegun (fieldOf 0x8000003F#32 0 6) = false ∧
      up.awake = true) ∧
    (let s := up.modPalette fun p => { p with flushes := [{ queue := 63, role := 2 }] }
     s.palette.flushes = [{ queue := (63 : Fin 64), role := 2 }] ∧ s.readBegun 63 = false) ∧
    (let s := up.modPalette fun p => { p with rebuilds := [(5, 2, 0)] }
     s.palette.waiting = [] ∧ s.palette.rebuilds = [(5, 2, 0)] ∧ up.palette.rebuilds = []) ∧
    (let x : PartialPut := { queue := 63, cells := 3, since := up.now - ms }
     let s := up.modPalette fun p => { p with parts := [x] }
     s.palette.parts = [x] ∧ x.queue = (63 : Fin 64) ∧ x.since + ms ≤ s.now) := by decide +kernel

theorem witness_DirectPortWords :
    up.dpUp = true ∧ (0#24) ≠ 2 ∧ (0#24).toNat < 0x20 ∧ (0x1F#24).toNat < 0x20 ∧ 0x4F < (0x50#24).toNat ∧
      0x4F < (0xFFFFFF#24).toNat := by decide +kernel

/-- An Easel's request whose descriptor stands at the start of the Atelier. -/
def palReq (put : Bool) (w : Word) (s : State := up) : State :=
  (s.modAtelier fun a => a.write atlBase (toLE 4 w.toNat)).modPalette fun p => { p with
    jobs := [{ put := put, addr := atlBase, task := 1, slot := 2, flow := 3 }] }

theorem witness_EaselPaletteRequests :
    (let s := palReq true 0x08000700
     let w := s.atelier.word atlBase
     s.palette.jobs = { put := true, addr := atlBase, task := 1, slot := 2, flow := 3 } :: [] ∧
      s.palette.rebuilds = [] ∧ s.palDescOk true atlBase = true ∧ s.palette.easelPut (fieldOf w 0 6) = true ∧
      s.palette.admits (fieldOf w 0 6) (cellsFor (fieldOf w 16 16)) = true) ∧
    (let k : Packet := { level := 1, bytes := [1, 2, 3] }
     let s := withQ 48 [k] (palReq false 0x00030030)
     let w := s.atelier.word atlBase
     s.palDescOk false atlBase = true ∧ s.palette.easelGet (fieldOf w 0 6) = true ∧
      (s.palette.q (fieldOf w 0 6)).head = some k ∧ 1 ≤ k.bytes.length ∧ k.bytes.length ≤ fieldOf w 16 16) ∧
    (let s := palReq false 0x08010030
     s.palette.rebuilds = [] ∧ s.palDescOk false atlBase = false) := by decide +kernel

/-- The device without power for its direct port. -/
def unpowered : State := { up with pwr := { up.pwr with
  booted := false
  state := .off } }

theorem witness_LocksAndMailboxes_edges :
    (Arb.tie ≠ .chosen ∧ up.host.dpEn = false ∧ (up.modHost fun h => { h with dpEn := true }).host.dpEn = true ∧
      up.dpUp = true ∧ (up.modHost fun h => { h with dpEn := true }).dpUp = true) ∧
    ((up.modHost fun h => h.setHolder 31 10).host.holder 31 = 10 ∧ (up.modHost fun h => h.setHolder 31 9).host.holder 31 = 9 ∧
      flagOf 0x0000001F#32 31 = false ∧ up.host.holder (Fin.ofNat 32 (fieldOf 0x8000001F#32 0 5)) = 15) ∧
    (let s := mail (joined 3 2 [] (List.replicate 16 aWord))
     (s.host.ch 3).has 3 = true ∧ s.endDead 3 = false ∧ s.endDead ((s.host.ch 3).peer 3) = false ∧
      16 ≤ ((mail (joined 3 2 (List.replicate 16 aWord) [])).host.ch 3).toEnd1.words.length) ∧
    (let s := mail (joined 3 1 [] [])
     (s.host.ch 3).has 3 = true ∧ s.endDead ((s.host.ch 3).peer 3) = true ∧ ((s.host.ch 3).inbound 3).words = []) ∧
    (let s := mail (joined 3 2 [aWord] [aWord])
     (s.host.ch 3).toEnd0.words = aWord :: [] ∧ (s.host.ch 3).toEnd0.timedOut = false ∧
      aWord.sentAt + (s.host.ch 3).tmo * us < s.now ∧
      ({ s with now := 0 }).now ≤ aWord.sentAt + (s.host.ch 3).tmo * us) ∧
    (let s := mail (joined 2 3 [aWord] [aWord])
     (s.host.ch 3).has 2 = true ∧ s.host.mbxUp = true ∧ s.host.dpEn = true ∧ (s.host.ch 3).has 3 = true) ∧
    ((up.modHost fun h => { h with supervisorUp := false }).host.supervisorUp = false ∧
      (((mail Mbx.unjoined).host.ch 15).inbound 4).words = [] ∧ (mail Mbx.unjoined).host.mbxOwed = 0) := by decide +kernel

theorem witness_HostPorts_edges :
    (flagOf 0x073F0FFF#32 31 = false ∧ up.host.putJob = none ∧ up.host.getJob = none ∧ up.palette.rebuilds = [] ∧
      (up.modPalette fun p => { p with rebuilds := [(5, 2, 0)] }).palette.rebuilds ≠ []) ∧
    (let s := (putting (aJob 23 1)).modPalette fun p => p.modQ 23 fun x => { x with limit := 0 }
     s.palette.hostPut 23 = true ∧ s.palette.admits 23 (cellsFor 1) = false ∧ s.standby = false) ∧
    ((aJob 23 0).len = 0 ∧ 2048 < (aJob 23 2049).len ∧ (putting (aJob 0 48)).palette.hostPut 0 = false) ∧
    (let s := (putting (aJob 23 2048)).modTwin fun t => { t with state := .standbyInstep }
     s.standby = true ∧ s.palette.rebuilds = []) ∧
    (let k : Packet := { level := 2, bytes := List.replicate 2048 1 }
     let s := getting 2047 [k]
     s.palette.hostGet 63 = true ∧ (s.palette.q 63).head = some k ∧ 2047 < k.bytes.length ∧
      ((getting 2048 []).palette.q 63).head = none ∧ up.palette.hostGet 0 = false) := by decide +kernel

theorem witness_EventQueueRings_edges :
    (flagOf 0x84FFFFFF#32 31 = true ∧ fieldOf 0x84FFFFFF#32 24 5 = 4 ∧ flagOf 0x03FFFFFF#32 31 = false ∧
      (ring id).host.q 7 = { Evq.reset with en := true } ∧ fieldOf 0x90000000#32 24 5 = 16) ∧
    (let k : Packet := { level := 0, bytes := List.replicate 32 5 }
     let s := withQ 31 [k, k] (ring fun q => { q with
       head := 14
       tail := 8
       modCount := 5
       modTime := 7
       urgent := true })
     (s.host.q 7).room = true ∧ ¬ (s.host.q 7).modCount ≤ (s.host.q 7).unsignalled + 1 ∧ (s.host.q 7).modTime ≠ 0 ∧
      3 ≤ (k.bytes.getD 2 0).toNat) ∧
    ((up.host.q 7).en = false ∧ ((ring id).palette.q (24 + 7)).head = none ∧ ((ring id).host.q 7).unsignalled = 0) ∧
    (let s := ring fun q => { q with
       unsignalled := 1
       modTime := 100
       firstAt := up.now - 100 * us + 1 }
     s.now < (s.host.q 7).firstAt + (s.host.q 7).modTime * us) := by decide +kernel

theorem witness_FlushRebuildAndPartials_edges :
    (flagOf 0x0000003F#32 31 = false ∧
      (up.modHost fun h => { h with getJob := some (aJob 63 5) }).readBegun (fieldOf 0x8000003F#32 0 6) = true) ∧
    (let s := (up.modHost fun h => { h with getJob := some (aJob 63 5) }).modPalette fun p => { p with
       flushes := [{ queue := 3, role := 2 }, { queue := 63, role := 2 }] }
     s.palette.flushes.find? (·.queue == (63 : Fin 64).val) = some { queue := 63, role := 2 } ∧ s.readBegun 63 = true ∧
      s.palette.flushes.find? (·.queue == (17 : Fin 64).val) = none) ∧
    (let k : Packet := { level := 2, bytes := List.replicate 100 1 }
     let s := up.modPalette fun p => { p with waiting := [{ queue := 5, packet := k }] }
     s.palette.waiting = [{ queue := 5, packet := k }] ∧ s.palette.rebuilds = [] ∧ s.palette.admits 5 k.cells = true) ∧
    (let x : PartialPut := { queue := 63, cells := 3, since := up.now - ms }
     let s := up.modPalette fun p => { p with parts := [{ x with queue := 4 }, x] }
     s.palette.parts.find? (fun y => y.queue == (63 : Fin 64).val && s.past y.since ms) = some x ∧
      ({ s with now := up.now - 1 }).now < x.since + ms) := by decide +kernel

theorem witness_DirectPortAndEaselRequests_edges :
    (unpowered.dpUp = false ∧ (0x1F#24) ≠ 2 ∧ up.palette.jobs = []) ∧
    (let s := palReq true 0x00010014
     let w := s.atelier.word atlBase
     s.palDescOk true atlBase = true ∧ s.palette.easelPut (fieldOf w 0 6) = false) ∧
    (let s := palReq false 0x00010011
     let w := s.atelier.word atlBase
     s.palDescOk false atlBase = true ∧ s.palette.easelGet (fieldOf w 0 6) = false) ∧
    (let s := palReq false 0x00020030
     let w := s.atelier.word atlBase
     s.palDescOk false atlBase = true ∧ s.palette.easelGet (fieldOf w 0 6) = true ∧
      (s.palette.q (fieldOf w 0 6)).head = none) ∧
    (let s := (palReq true 0x00010700).modPalette fun p => p.modQ 0 fun x => { x with limit := 0 }
     let w := s.atelier.word atlBase
     s.palDescOk true atlBase = true ∧ s.palette.easelPut (fieldOf w 0 6) = true ∧
      s.palette.admits (fieldOf w 0 6) (cellsFor (fieldOf w 16 16)) = false) := by decide +kernel

/-! ## The twin pair (O45, O46) -/

def twin (f : Twin → Twin) (s : State := pair) : State := s.modTwin f

def inStep : State := twin fun t => { t with state := .standbyInstep }
def syncing : State := twin fun t => { t with
  state := .standbySyncing
  snapshotE := some 0 }

/-- The pair's active counts superframes under the small plan. -/
def onPlan : State := (atTime 10500000 pair).modAir fun a => { a with
  plan := some planBytes
  counting := true
  sfStart := 8500000 }

def aHealth : Health := { pass := 63, cap := 400, rssi := -60, delta := 3 }

def heardRx : Rx :=
  { chain := 0, channel := 11, station := 5, ext := 1, seq := 1, sfd := 0, endT := 0, rssi := 0, payload := [6, 1], sf := 0
    slotStart := 0, slotEnd := 0, offset := 0, isNew := false, forwarded := false }

theorem witness_TwinStates_first :
    (pair.awake = true ∧ pair.paired = true ∧ pair.twin.link = 2 ∧ (twin fun t => { t with link := 0 }).twin.link = 0 ∧
      pair.twin.state = .active ∧ inStep.twin.state = .standbyInstep) ∧
    (let s := inStep.modTwin fun t => { t with
       hbIn := true
       link := 0 }
     s.twin.hbIn = true ∧ s.twin.link = 0 ∧ s.twin.state = .standbyInstep ∧ pair.twin.hbIn = false) ∧
    (pair.linked = true ∧ true ≠ pair.twin.seatB) ∧
    (let s := twin fun t => { t with state := .isolated }
     s.twin.state = .isolated ∧ s.twin.isolateHeld = false ∧ s.linked = true) ∧
    (let s := twin fun t => { t with state := .solo }
     s.twin.state = .solo ∧ s.linked = true) ∧
    (inStep.linked = true ∧ inStep.twin.blocked = false ∧
      (inStep.modTwin fun t => { t with blocked := true }).twin.blocked = true) ∧
    (let s := (twin fun t => { t with state := .faulted }).setReg rTwnCfg 7
     s.linked = true ∧ s.twin.state = .faulted ∧ s.rbit rTwnCfg 1 = true) ∧
    (let s := (twin fun t => { t with
       state := .isolated
       link := 0
       listenSince := some 4
       fromInstep := true }).modFleet fun f => { f with superframes := 10 }
     s.awake = true ∧ s.paired = true ∧ s.twin.state = .isolated ∧ s.twin.isolateHeld = false ∧ s.twin.link = 0 ∧
      s.twin.listenSince = some 4 ∧ 4 + s.twin.listenFor ≤ s.fleet.superframes ∧ s.twin.fromInstep = true ∧
      s.twin.blocked = false) := by decide +kernel

theorem witness_TwinStates_second :
    (let s := pair.setReg rTwnCfg 1
     s.rbit rTwnCfg 2 = false ∧ s.twin.fromInstep = false) ∧
    (plain.pcieRole = 0 ∧ 2 ≤ onPlan.pcieRole ∧ onPlan.twin.state = .active ∧ onPlan.twin.peer = 3 ∧
      onPlan.twin.blocked = false ∧ onPlan.switchSuperframe.isSome = true ∧ onPlan.awake = true) ∧
    ((twin fun t => { t with isolateHeld := true }).twin.isolateHeld = true ∧ pair.twin.isolateHeld = false) ∧
    (let s := onPlan.modTwin fun t => { t with switchAt := some 0 }
     s.twin.switchAt = some 0 ∧ s.twin.state = .active ∧ s.twin.peer = 3 ∧ 0 ≤ s.air.superframe ∧ s.air.superframe < 1) ∧
    (let s := twin fun t => { t with
       state := .faulted
       faultedAt := up.now - second }
     s.twin.thirdFail = false ∧ s.twin.faultedAt + second ≤ s.now) ∧
    (inStep.twin.healthAt + 10 * second ≤ inStep.now ∧ aHealth.pass % 64 = 63) ∧
    (let s := inStep.modFleet fun f => { f with stops := [bootStop] }
     pair.serving = true ∧ bootStop.kind = .fleet ∧ pair.fleet.fleetActive = false ∧ s.standby = true ∧
      s.fleet.stops = [bootStop] ∧ bootStop.seq = (BitVec.ofNat 16 bootStop.seq).toNat) ∧
    ((pair.air.station (chainOf heardRx) heardRx.station).isDup heardRx.seq heardRx.sf = false ∧
      pair.rxRoom (chainOf heardRx) heardRx = true) ∧
    (let s := twin fun t => { t with hbServedAt := some (up.now - 50 * ms) }
     s.pwr.booted = true ∧ s.twin.hbServedAt = some (up.now - 50 * ms) ∧ up.now - 50 * ms + 50 * ms ≤ s.now) := by decide +kernel

/-- A ZONE stop. -/
def zoneStop : Stop := { bootStop with
  kind := .zone
  seq := 9 }

/-- What a self-test of every part in order observes. -/
def healthObs : HealthObs :=
  { cells := true
    sent24 := List.replicate 16 (some (-60))
    heard24 := List.replicate 16 (some (-60))
    sentSub := List.replicate 16 (some (-60))
    heardSub := List.replicate 16 (some (-60))
    sats := []
    delta := 4 }

/-- A unit held out of the pair, or one that listens since superframe 4. -/
def isolated (f : Twin → Twin) : State := twin fun t => f { t with state := .isolated }

theorem witness_TwinStates_edges :
    (let s := twin fun t => { t with link := 1 }
     s.twin.link ≠ 2 ∧ s.twin.link ≠ 0 ∧ s.awake = true ∧ s.paired = true ∧
      (s.modTwin fun t => { t with hbIn := true }).twin.hbIn = true) ∧
    (syncing.linked = true ∧ pair.standby = false ∧
      ((twin fun t => { t with state := .faulted }).setReg rTwnCfg 5).rbit rTwnCfg 1 = false) ∧
    (let s := isolated fun t => { t with
       link := 0
       listenSince := some 4 }
     s.air.counting = false ∧ s.twin.listenSince = some 4 ∧ s.twin.fromInstep = false ∧ s.paired = true ∧
      (s.setReg rTwnCfg 7).rbit rTwnCfg 2 = true ∧ (s.setReg rTwnCfg 1).rbit rTwnCfg 2 = false ∧
      pair.twin.state ≠ .isolated) ∧
    ((twin fun t => { t with seatB := true }).twin.seatB ≠ false ∧
      (twin fun t => { t with isolateHeld := true }).awake = true) ∧
    (plain.awake = true ∧ pair.twin.blocked = false ∧ 2 ≤ pair.pcieRole ∧ 1 ≤ inStep.pcieRole ∧
      inStep.twin.state ≠ .active ∧ up.paired = false ∧ pair.twin.switchAt = none) ∧
    (let s := twin fun t => { t with
       state := .faulted
       faultedAt := up.now - second + 1 }
     s.twin.thirdFail = false ∧ s.now < s.twin.faultedAt + second) ∧
    (let s := inStep.modTwin fun t => { t with healthAt := up.now - 10 * second + 1 }
     s.now < s.twin.healthAt + 10 * second ∧ inStep.linked = true ∧ bitsOf (inStep.selfTest healthObs).pass 1 1 = 1 ∧
      (inStep.modTwin fun t => { t with eccAt := some 5 }).twin.eccAt = some 5) ∧
    (let s := isolated id
     s.serving = false ∧ s.standby = false ∧ s.linked = true ∧ (∀ y ∈ s.fleet.stops, y.seq ≠ zoneStop.seq) ∧
      (∃ y ∈ (s.modFleet fun f => { f with stops := [zoneStop] }).fleet.stops, y.seq = zoneStop.seq)) ∧
    (inStep.standby = true ∧ inStep.canvas.batch = [] ∧ inStep.serving = false ∧
      (∀ y ∈ inStep.fleet.stops, y.seq ≠ (8#16).toNat)) ∧
    (let x := { heardRx with payload := [5, 1] }
     leAt x.payload 0 1 % 16 = 5 ∧ leAt heardRx.payload 0 1 % 16 ≠ 5 ∧
      ((pair.modAir fun a => { a with tables := (a.tables.set 0 [(5, { Station.empty with hist := [(1, 0)] })]) }).air.station
        (chainOf heardRx) heardRx.station).isDup heardRx.seq pair.air.superframe = true) ∧
    (let s := twin fun t => { t with
       hbServedAt := some (up.now - 50 * ms + 1)
       hbOut := 1 }
     s.twin.hbServedAt = some (up.now - 50 * ms + 1) ∧ s.now < up.now - 50 * ms + 1 + 50 * ms ∧ s.twin.hbOut ≠ 0) := by
  decide +kernel

/-- The standby has digest 7 of epoch 3 of its own, and the partner's is missing. -/
def waiting (misses : Nat) : State := (inStep.modTwin fun t => { t with
  own := [(3, 7)]
  misses := misses }).modEpoch fun e => { e with n := 19 }

theorem witness_TwinLogDigestsAndTransfers :
    (syncing.linked = true ∧ syncing.twin.state = .standbySyncing ∧ syncing.twin.loaded = false ∧
      (∀ h, LogEntry.admission true ≠ .start h) ∧ (∀ r, LogEntry.admission true ≠ .cartoonStop r)) ∧
    (inStep.linked = true ∧ inStep.twin.state = .standbyInstep ∧ inStep.twin.entries = [] ∧ 0 ≤ inStep.epoch.n ∧
      inStep.standby = true ∧ inStep.twin.lastClosed = none) ∧
    (pair.twin.state = .active ∧ pair.twin.lastAck = none ∧ up.batchReady = true ∧ pair.batchReady = false) ∧
    (let s := (atTime (2 * second) (inStep.modTwin fun t => { t with lastClosed := some 8 })).modEpoch fun e => { e with
       n := 10
       nominal := 1000000 }
     s.twin.lastClosed = some 8 ∧ 8 + 1 < s.epoch.n ∧ s.epoch.nominal + 20 * us ≤ s.time ∧
      (s.modEpoch fun e => { e with n := 9 }).epoch.n ≤ 8 + 1) ∧
    (let d : Digest := { epoch := 0, sum := 7, ordinals := [] }
     let s := (twin fun t => { t with peer := 2 }).modEv fun e => { e with past := [d] }
     s.ev.past = d :: [] ∧ s.linked = true ∧ s.keepsOwn = false ∧ s.workOf d.epoch = false ∧
      ((s.modDsp fun x => { x with released := [{ task := 0, epoch := 0, slots := [], relNo := none }] }).workOf 0 = true)) ∧
    ((waiting 0).twin.state = .standbyInstep ∧ (waiting 0).twin.own = [(3, 7)] ∧ (waiting 0).twin.theirs = [] ∧
      (waiting 0).linked = true ∧ (waiting 0).twin.misses = 0 ∧ (waiting 1).twin.misses = 1 ∧
      3 + 16 ≤ (waiting 1).epoch.n ∧ ((waiting 1).modEpoch fun e => { e with n := 18 }).epoch.n < 3 + 16) ∧
    (syncing.twin.entries = [] ∧ syncing.twin.image = none ∧ syncing.standby = true) ∧
    (let s := twin fun t => { t with snapshotE := some 0 }
     s.twin.state = .active ∧ s.twin.snapshotE = some s.epoch.n ∧ s.twin.sent = 0 ∧ s.linked = true) ∧
    (let s := syncing.modTwin fun t => { t with
       loaded := true
       matched := 64 }
     s.twin.snapshotE = some 0 ∧ s.twin.loaded = true ∧ s.epoch.n = s.time / max 1 s.epoch.length ∧
      64 ≤ s.twin.matched ∧ syncing.twin.matched < 64) ∧
    (let s := atTime (30 * second) syncing
     0 * max 1 s.epoch.length + 30 * second ≤ s.time ∧ syncing.time < 0 * max 1 syncing.epoch.length + 30 * second) ∧
    (let s := syncing.modTwin fun t => { t with failedAt := some (up.now - 10 * second) }
     s.twin.failedAt = some (up.now - 10 * second) ∧ up.now - 10 * second + 10 * second ≤ s.now) ∧
    (let s := inStep.modTwin fun t => { t with joined := true }
     s.standby = true ∧ s.twin.joined = true ∧ inStep.twin.joined = false ∧
      (10000000 : Int) < 5 * (((inStep.time : Int) - 0) - ((0 : Int) - 3000000)) - inStep.tmb.asym) := by
  refine ⟨⟨by decide +kernel, by decide +kernel, by decide +kernel, by simp, by simp⟩, ?_⟩
  decide +kernel

/-- The active has a snapshot under way. -/
def snapping : State := twin fun t => { t with
  peer := 2
  snapshotE := some 5 }

theorem witness_TwinLogDigestsAndTransfers_edges :
    (syncing.transferring = true ∧ syncing.linked = true ∧ pair.standby = false ∧ inStep.twin.state ≠ .active) ∧
    (let d : Digest := { epoch := 0, sum := 7, ordinals := [] }
     let s := pair.modEv fun e => { e with past := [d] }
     s.ev.past = d :: [] ∧ s.keepsOwn = true ∧ s.workOf d.epoch = false ∧ s.twin.theirs = []) ∧
    (up.keepsOwn = false ∧ ((waiting 1).modEpoch fun e => { e with n := 18 }).twin.own = [(3, 7)]) ∧
    ((pair.modPfo fun p => { p with sharing := true }).pfo.sharing = true ∧ pair.pfo.sharing = false) ∧
    (let s := syncing.modTwin fun t => { t with
       loaded := true
       matched := 63 }
     s.twin.snapshotE = some 0 ∧ s.twin.matched < 64) ∧
    ((twin fun t => { t with fails := 2 }).twin.fails = 2 ∧ syncing.twin.fails < 2) ∧
    (let s := syncing.modTwin fun t => { t with failedAt := some (up.now - 10 * second + 1) }
     s.now < up.now - 10 * second + 1 + 10 * second) ∧
    (snapping.transferring = true ∧ (snapping.modTwin fun t => { t with link := 0 }).transferring = true ∧
      (snapping.modTwin fun t => { t with link := 0 }).twin.link = 0 ∧ syncing.standby = true ∧
      snapping.dsp.live = false ∧ pair.transferring = false) ∧
    (pair.twin.snapshotE = none ∧ inStep.twin.state ≠ .standbySyncing ∧ pair.twin.snapshotE ≠ some pair.epoch.n) ∧
    (let th := 5 * (((inStep.tmb.stamps[24].last : Int) - 0) - ((0 : Int) - 300)) - inStep.tmb.asym
     inStep.standby = true ∧ inStep.twin.joined = false ∧ -10000000 ≤ th ∧ th ≤ 10000000) ∧
    (5 * (((inStep.tmb.stamps[24].last : Int) - 0) - ((3000000 : Int) - 0)) - inStep.tmb.asym < -10000000) ∧
    (snapping.twin.state = .active ∧ snapping.twin.peer = 2 ∧ (isolated id).standby = false ∧
      (isolated id).twin.state ≠ .active) := by decide +kernel

end Sys2Proof.Tests
end

