-- ==== Sys2Proof/Tests/WitnessD.lean ====
section
/-! SUPPORT. States and operands that meet the hypotheses of the statements on passage drives, security,
Portfolios, power and the whole machine, clause by clause. -/

namespace Sys2Proof.Tests

-- one theorem after another, for memory's sake
set_option Elab.async false

open Sys2Proof Sys2Proof.Machine

/-! ## Passage drives (O47) -/

/-- A channel entry: step size 1/256, standstill after 100 ms, four edges of chatter, a lag of 2, homing within 10
steps, offset 0. -/
def entryB : List Byte := (List.range 64).map fun i =>
  if i = 10 then 100 else if i = 24 then 4 else if i = 30 then 2 else if i = 36 then 10 else 0

def aDrive : Drv := { Drv.reset with
  entry := entryB
  mode := 1
  standstill := false }

/-- Channel 7 as given. -/
def drive (f : Drv → Drv) (s : State := up) : State := s.modDrv fun d => { d with ch := d.ch.set 7 (f aDrive) }

def aHoming (step : Nat) (f : Homing → Homing := id) : Drv → Drv := fun x => { x with
  st := .homing
  homing := some (f { step := step, move := .restAt 0 0, startM := 0, start := 0, seek := 4, failed := false }) }

def drivePacket (c d v : Nat) : List Byte := toLE 1 c ++ (toLE 1 d ++ (toLE 1 v ++ toLE 5 0))

def sentDrive (b : List Byte) (s : State) : State := s.modPalette fun p => p.modQ 51 fun x => { x with
  packets := [{ level := 0, bytes := b }] }

theorem witness_PassageDrives_moves :
    (let s := drive fun x => { x with st := .unhomed }
     s.drv.ch[7].next = none ∧ s.drv.ch[7].st = .unhomed) ∧
    (let s := drive fun x => { x with st := .following }
     s.drv.ch[7].next = none ∧ s.drv.ch[7].st = .following ∧ s.drv.ch[7].home.active = false ∧
      s.drv.ch[7].far.active = false) ∧
    (let s := drive fun x => { x with moved := up.now - 100 * ms }
     s.drv.ch[7].standstill = false ∧ s.drv.ch[7].moved + s.drv.ch[7].fld 10 2 * ms = s.now) ∧
    (let s := atTime (20 * ms) (drive fun x => { x with
       st := .follow
       lastEdge := some 0 })
     s.drv.ch[7].st = .follow ∧ s.drv.ch[7].lastEdge = some 0 ∧ 0 + 20 * ms = s.time ∧ up.drv.ch[7].st ≠ .follow) ∧
    (true = (false == (aDrive.fld 3 1 % 2 == 1)) ∧ false = (true == (aDrive.fld 3 1 % 2 == 1))) ∧
    (let x := { aDrive with home := { Limit.idle with edges := [up.now, up.now - 100 * ms] } }
     x.home.chatter = false ∧ true ≠ x.home.level ∧
      (x.home.edges.filter fun e => decide (up.now ≤ e + 100 * ms)).length + 1 < x.fld 24 1) ∧
    (let x := { aDrive with
       st := .following
       home := { Limit.idle with level := true } }
     true = x.home.level ∧ true ≠ x.home.active ∧ x.home.changed + x.fld 7 1 * 100000 ≤ up.now) ∧
    (let s := drive fun x => { x with far := { Limit.idle with
       chatter := true
       changed := up.now - second } }
     s.drv.ch[7].far.chatter = true ∧ s.drv.ch[7].far.level = false ∧ s.drv.ch[7].far.changed + second ≤ s.now ∧
      up.drv.ch[7].far.chatter = false) := by decide +kernel

theorem witness_PassageDrives_homing :
    (let s := drive (fun x => { aHoming 1 id x with home := { Limit.idle with active := true } })
     s.drv.ch[7].homing.isSome = true ∧ s.drv.ch[7].home.active = true) ∧
    (let s := drive (fun x => { aHoming 1 id x with m := 2560 * fx })
     s.drv.ch[7].home.active = false ∧ (s.drv.ch[7].fld 36 4 : Int) * 256 ≤ |s.drv.ch[7].mUnits - 0|) ∧
    (let s := drive (aHoming 3)
     s.drv.ch[7].home.active = false ∧ s.drv.ch[7].homing.map (·.step) = some 3) ∧
    (let s := drive (aHoming 5)
     s.drv.ch[7].homing.map (·.move.moving s.time) = some false) := by decide +kernel

theorem witness_PassageDrives_packets :
    (let s := sentDrive (drivePacket 1 7 0) (drive fun x => { x with st := .following })
     (s.palette.q 51).head = some { level := 0, bytes := drivePacket 1 7 0 } ∧
      drvPacket (drivePacket 1 7 0) = some (1, 7) ∧ s.drv.ch[7].mode = 1 ∧ s.drv.ch[7].st = .following ∧
      (drive fun x => { x with st := .fault }).drv.ch[7].st = .fault) ∧
    (drvPacket (drivePacket 2 7 0) = some (2, 7) ∧ (drive fun x => { x with st := .fault }).drv.ch[7].mode = 1) ∧
    (let s := drive fun x => { x with moved := up.now - 100 * ms }
     drvPacket (drivePacket 3 7 2) = some (3, 7) ∧ s.drv.ch[7].auto = false ∧ s.drv.ch[7].st ≠ .homing ∧
      s.drv.ch[7].moved + 100 * ms ≤ s.now ∧ leAt (drivePacket 3 7 2) 2 1 = 2) ∧
    (drvPacket (drivePacket 3 8 2) = none ∧ drvPacket (drivePacket 4 0 0) = none ∧ drvPacket (drivePacket 0 0 0) = none) ∧
    (let s := up.modDrv fun d => { d with stallWait := some (up.now - 100 * ms) }
     s.drv.stallWait = some (up.now - 100 * ms) ∧ up.now - 100 * ms + 100 * ms ≤ s.now) := by decide +kernel

/-- Limit `far` of the drive as given. -/
def limited (l : Limit) : Drv := { aDrive with far := l }

theorem witness_PassageDrives_edges :
    (let s := drive fun x => { x with moved := up.now - 100 * ms + 1 }
     s.drv.ch[7].standstill = false ∧ s.now < s.drv.ch[7].moved + s.drv.ch[7].fld 10 2 * ms ∧
      up.drv.ch[7].standstill = true) ∧
    (let s := atTime (20 * ms - 1) (drive fun x => { x with
       st := .follow
       p := 512
       lastEdge := some 0 })
     s.drv.ch[7].st = .follow ∧ s.time < 0 + 20 * ms ∧
      (s.drv.ch[7].fld 30 2 : Int) * 256 * fx < |(512 + 256) * fx - s.drv.ch[7].m| ∧
      ¬ (s.drv.ch[7].fld 30 2 : Int) * 256 * fx < |(512 - 256) * fx - s.drv.ch[7].m|) ∧
    (let x := limited { Limit.idle with edges := [up.now, up.now - 100 * ms, up.now - 1] }
     x.far.chatter = false ∧ true ≠ x.far.level ∧
      x.fld 24 1 ≤ (x.far.edges.filter fun e => decide (up.now ≤ e + 100 * ms)).length + 1) ∧
    (let x := limited { Limit.idle with chatter := true }
     true ≠ x.far.level ∧ x.far.chatter = true ∧ false = x.far.level) ∧
    (let x := limited { Limit.idle with active := true }
     x.st = .off ∧ false = x.far.level ∧ x.far.chatter = false ∧ false ≠ x.far.active ∧
      x.far.changed + x.fld 7 1 * 100000 ≤ up.now ∧ Limit.idle.active = false ∧
      (limited { Limit.idle with active := true }).far.active = true) ∧
    (let x := { limited { Limit.idle with level := true } with st := .homing }
     x.st = .homing ∧ true = x.far.level ∧ true ≠ x.far.active ∧ x.far.chatter = false) ∧
    (let l := { Limit.idle with
       chatter := true
       changed := up.now - second + 1 }
     l.chatter = true ∧ l.level = false ∧ up.now < l.changed + second) ∧
    (let s := drive (fun x => { aHoming 1 id x with m := 2559 * fx })
     s.drv.ch[7].home.active = false ∧ |s.drv.ch[7].mUnits - 0| < (s.drv.ch[7].fld 36 4 : Int) * 256) ∧
    (let k := { Stroke.restAt 0 0 with endSpeed := fx }
     (Stroke.restAt 0 0).moving up.time = false ∧ k.moving up.time = true) ∧
    (let s := drive (fun x => { aHoming 3 id x with home := { Limit.idle with active := true } })
     s.drv.ch[7].home.active = true) ∧
    (let s := drive (aHoming 2 fun h => { h with failed := true })
     s.drv.ch[7].homing.map (fun h => (h.failed, h.move.moving s.time)) = some (true, false) ∧
      up.drv.ch[7].homing = none) ∧
    (let s := drive fun x => { x with moved := up.now - 100 * ms + 1 }
     s.now < s.drv.ch[7].moved + 100 * ms ∧ drvPacket (drivePacket 3 7 3) = some (3, 7) ∧
      2 < leAt (drivePacket 3 7 3) 2 1 ∧ (drive fun x => { x with mode := 2 }).drv.ch[7].mode ≠ 1 ∧
      (up.palette.q 51).head = none ∧ up.now < up.now + 100 * ms) := by decide +kernel

/-! ## Sessions, keys, events and the Pentimento (O48 to O51) -/

theorem witness_SessionsOpenByProof :
    ((3 : Fin 4) ≠ 0 ∧ up.sec.pcie.lockoutEnd ≤ up.now ∧ up.awake = true) ∧
    (let s := up.modSec fun c => { c with pcie := { c.pcie with lockoutEnd := up.now + 1 } }
     s.now < s.sec.pcie.lockoutEnd) ∧
    (let s := up.modSec fun c => { c with pcie := { c.pcie with fails := 3 } }
     3 ≤ s.sec.pcie.fails) ∧
    (plain.roleOf (plain.chan false) = 0 ∧ up.roleOf (up.chan true) ≠ 0 ∧
      (plain.chan true).chalAt + 10 * second ≤ plain.now ∧ (plain.chan true).lockoutEnd ≤ plain.now) := by
  decide +kernel

theorem witness_RoleKeys :
    (let s := up.modSec fun c => { c with keyWords := List.replicate 8 7 }
     s.awake = true ∧ s.keyVerdict 1 = 0 ∧ s.keyVerdict 2 = 0 ∧ s.keyVerdict 0 = 5) ∧
    (up.keyVerdict 3 = 2 ∨ up.keyVerdict 3 = 4) ∧ plain.keyVerdict 1 = 1 ∧
    (up.modSec fun c => { c with keyWords := List.replicate 8 0xFFFFFFFF }).keyVerdict 1 = 3 := by decide +kernel

def aBucket : Bucket := {}

theorem witness_RateLimitSettings :
    (let s := atTime second up
     aBucket = s.ev.bucket 0x1020 ∧ hasBucket (0x1020#16).toNat = true ∧ isDetCode (0x1020#16).toNat = false ∧
      aBucket.suppressed = 0 ∧ aBucket.due s.time ≠ 0) ∧
    (plain.awake = true ∧ plain.pcieRole < 2 ∧ 2 ≤ up.pcieRole ∧ fieldOf 0x00010100#32 16 16 ≠ 0 ∧
      fieldOf 0x00010100#32 8 8 ≠ 0 ∧ fieldOf 0x00000100#32 16 16 = 0 ∧ fieldOf 0x00010000#32 8 8 = 0 ∧
      hasBucket (up.modEv fun e => { e with rlIdx := 0x20FF }).ev.rlIdx = true) ∧
    (let b := { aBucket with
       setIn := some 0
       nextBurst := 1 }
     let s := (up.modEv fun e => { e with buckets := [(0x1020, b)] }).modEpoch fun e => { e with n := 1 }
     s.ev.buckets = [(0x1020, b)] ∧ b.setIn = some 0 ∧ 0 < s.epoch.n ∧ b.due (s.recTime (!isDetCode 0x1020)) = 0) := by
  decide +kernel

def aRecord : Record :=
  { code := 0x1020, severity := 1, linkPlane := true, unit := 0, seq := 1, time := 0, p0 := 0, p1 := 0, p2 := 0, p3 := 0 }

def log (next : Nat) : State := up.modPnt fun p => { p with
  next := next
  buffer := [aRecord] }

theorem witness_PentimentoLog :
    ((log 65533).pnt.full = false ∧ (log 65533).pnt.clearing = false ∧ (log 65533).pwr.dip = false ∧
      (log 65533).pnt.buffer = aRecord :: [] ∧ (log 65533).pnt.next < 65534 ∧ (log 65534).pnt.next = 65534 ∧
      (1 : BitVec 4) ≠ 0) ∧
    (up.modPnt fun p => { p with full := true }).pnt.full = true ∧
    (up.modPnt fun p => { p with clearing := true }).pnt.clearing = true ∧ up.awake = true := by decide +kernel

/-- A challenge for role 1 is held, its key all ones. -/
def challenged (f : Channel → Channel) : State := up.modSec fun c => { c with
  operatorKeys := [List.replicate 32 1]
  pcie := f { c.pcie with
    chalHeld := true
    chalAt := up.now
    chalRole := 1
    role := 0 } }

theorem witness_SessionsKeysAndLog_edges :
    (let s := challenged id
     s.awake = true ∧ s.sec.pcie.chalHeld = true ∧ s.now < s.sec.pcie.chalAt + 10 * second ∧
      s.sec.key s.sec.pcie.chalRole = some (List.replicate 32 1) ∧ (s.chan false).chalHeld = true ∧
      s.now < (s.chan false).chalAt + 10 * second) ∧
    ((up.modSec fun c => { c with pcie := { c.pcie with lockoutEnd := up.now + 1 } }).now <
      ((up.modSec fun c => { c with pcie := { c.pcie with lockoutEnd := up.now + 1 } }).chan false).lockoutEnd) ∧
    (plain.mayProgram 1 = false ∧ up.mayProgram 1 = true) ∧
    (let b := { aBucket with suppressed := 5 }
     let s := (atTime second up).modEv fun e => e.setBucket 0x1020 b
     s.ev.bucket (0x1020#16).toNat = b ∧ b.suppressed ≠ 0 ∧ b.due s.time ≠ 0) ∧
    (hasBucket (0x20#16).toNat = false ∧ aBucket.due 20000000 = 0) ∧
    (let s := up.modEv fun e => { e with buckets := [(0x1020, { aBucket with tokens := 1 })] }
     (s.ev.bucket 0x1020).setIn = none ∧ s.ev.bucket 0x1020 ≠ bucketDefault 0x1020) ∧
    (let s := atTime second up
     s.recTime (!isDetCode 0x1020) ≠ 0) ∧
    (up.pnt.buffer = [] ∧ (up.modPnt fun p => { p with clearing := true }).pnt.clearing = true ∧
      up.pnt.clearing = false ∧ fieldOf 0x80000000#32 0 16 = up.pnt.gen % 2 ^ 16) := by decide +kernel

/-! ## The service port and Portfolios (O52, O53) -/

def pfo (f : Pfo → Pfo) (s : State := up) : State := s.modPfo f

/-- A manifest header in range, length 1,056. -/
def manifest : List Byte :=
  toLE 4 0x4F465450 ++ (toLE 2 1 ++ ([1, 64] ++ (toLE 4 1056 ++ (toLE 4 9 ++ List.replicate 48 0))))

def loading (n : Nat) (b : List Byte) : State := pfo fun p => { p with
  staging := 1
  owner := 1
  length := n
  bytes := b }

def inTrial (s : State) : State := pfo (fun p => { p with recs := p.recs.map fun r => r.map fun x => { x with state := 1 } }) s

theorem witness_ServicePortAndStaging :
    (up.svcUp = true ∧ up.pfo.ready = none ∧ up.pfo.lastSeq ≠ some (0xFFFF#16).toNat) ∧
    ((pfo fun p => { p with ready := some [1] }).pfo.ready = some [1]) ∧
    ((pfo fun p => { p with lastSeq := some 0xFFFF }).pfo.lastSeq = some (0xFFFF#16).toNat) ∧
    (up.pwr.inRecovery = false ∧ 1 ≤ (3#8).toNat ∧ (3#8).toNat ≤ 3 ∧ up.sec.svc.lockoutEnd ≤ up.now) ∧
    (let s := up.modSec fun c => { c with svc := { c.svc with lockoutEnd := up.now + 1 } }
     s.now < s.sec.svc.lockoutEnd) ∧
    (let s := up.modSec fun c => { c with
       operatorKeys := [List.replicate 32 1]
       svc := { c.svc with
         chalHeld := true
         chalAt := up.now
         chalRole := 1 } }
     s.pwr.inRecovery = false ∧ s.chalValid s.sec.svc = true ∧ s.sec.key s.sec.svc.chalRole = some (List.replicate 32 1)) ∧
    (1 ≤ up.svcRole ∧ plain.svcRole = 0 ∧ plain.pwr.inRecovery = false) ∧
    (up.svcAllows 2 = true ∧ pfoLengthOk (1056#32).toNat = true ∧ pfoLengthOk (16777216#32).toNat = true ∧
      pfoLengthOk (1055#32).toNat = false ∧ up.pfo.owner ≠ 2 ∧ up.pwr.dip = false ∧
      (pfo fun p => { p with owner := 2 }).pfo.owner = 2) ∧
    (let s := loading 1056 (List.replicate 1055 0)
     s.ownsStaging = true ∧ s.pfo.bytes.length + [(0 : Byte)].length ≤ s.pfo.length ∧
      (1055#32).toNat = s.pfo.bytes.length ∧ (1054#32).toNat ≠ s.pfo.bytes.length ∧ s.pfo.bytes.length ≠ s.pfo.length) ∧
    (let s := loading 1056 (manifest ++ List.replicate 992 0)
     s.ownsStaging = true ∧ s.pfo.bytes.length = s.pfo.length ∧ manifestOk s.pfo.bytes = true ∧ s.pwr.dip = false) ∧
    (2 ≤ up.svcRole ∧ (inTrial up).pfo.record.state = 1 ∧ up.pfo.record.state ≠ 1 ∧ up.ownsStaging = false) ∧
    (let s := (loading 1056 []).modSec fun c => { c with svc := { c.svc with role := 0 } }
     s.pfo.owner = 1 ∧ s.svcAllows 2 = false) ∧
    (let s := { loading 1056 [] with now := 60 * second }
     s.pfo.owner ≠ 0 ∧ s.pfo.dataAt + 60 * second ≤ s.now ∧ up.now < up.pfo.dataAt + 60 * second) := by decide +kernel

/-- Not yet booted, a Portfolio of SET_VERSION 9 staged. -/
def examined : State := (pfo fun p => { p with
  staging := 2
  bytes := manifest }).modPwr fun p => { p with
    state := .off
    booted := false }

theorem witness_PortfolioExaminationAndActivation :
    (up.pfo.staging ≠ 2 ∧ examined.pwr.state = .off ∧ examined.pwr.refOk = true ∧ examined.pwr.inRecovery = false ∧
      examined.pfo.staging = 2 ∧ examined.pfo.record.setVersion ≠ leAt examined.pfo.bytes 12 4) ∧
    (let s := examined.modPfo fun p => { p with recs := p.recs.map fun r => r.map fun x => { x with
       setVersion := 9
       svn := 64 } }
     s.pfo.record.setVersion = leAt s.pfo.bytes 12 4 ∧ s.pfo.record.svn = leAt s.pfo.bytes 7 1) ∧
    (plain.awake = true ∧ plain.pcieRole < 2 ∧ 2 ≤ up.pcieRole ∧ (inTrial up).pfo.record.state = 1 ∧
      up.pwr.dip = false ∧ up.pfo.record.state ≠ 1) ∧
    (let s := pfo (fun p => { p with staging := 2 }) pair
     s.twin.state = .active ∧ s.twin.link ≠ 0 ∧ s.pfo.staging = 2 ∧ 2 ≤ s.pcieRole) ∧
    (let s := pfo fun p => { p with keyWords := List.replicate 12 1 }
     s.pfo.keyWords.length ≤ 12 ∧ 3 ≤ s.pcieRole ∧ s.pfo.keys[3].state = 0 ∧ s.pfo.keyWords.length = 12) ∧
    (12 < (pfo fun p => { p with keyWords := List.replicate 13 1 }).pfo.keyWords.length ∧
      (pfo fun p => { p with keys := p.keys.set 3 { state := 2, hash := [] } }).pfo.keys[3].state ≠ 0 ∧
      plain.pcieRole < 3) ∧
    (let s := pfo (fun p => { p with recs := p.recs.map fun r => r.map fun x => { x with attempts := 1 } })
       (up.modTwin fun t => { t with hbServedAt := some up.now })
     s.pwr.booted = true ∧ s.twin.hbServedAt = some up.now ∧ s.pfo.record.state = 2 ∧ s.now < up.now + 50 * ms ∧
      s.pfo.upAt + 10 * second ≤ s.now ∧ s.pfo.record.attempts ≠ 0 ∧
      (s.modPfo fun p => { p with upAt := up.now }).now < up.now + 10 * second) := by decide +kernel

/-- The device stands in recovery. -/
def recovering : State := { up with pwr := { up.pwr with inRecovery := true } }

/-- A claim of the staging bank over the twin link waits. -/
def claiming (n : Nat) : State := { pfo (fun p => { p with claim := some (manifest ++ List.replicate 992 0) }) with now := n }

theorem witness_ServicePortAndPortfolios_edges :
    ((up.modPwr fun p => { p with booted := false, state := .off }).svcUp = false) ∧
    (recovering.svcUp = true ∧ recovering.pwr.inRecovery = true ∧ (0#8).toNat = 0 ∧ 3 < (4#8).toNat) ∧
    (plain.sec.svc.chalHeld = false ∧ plain.chalValid plain.sec.svc = false ∧ plain.svcAllows 2 = false ∧
      plain.svcRole < 2 ∧ plain.svcUp = true) ∧
    ((pfo fun p => { p with owner := 2 }).svcAllows 2 = true) ∧
    (up.pfo.owner = 0) ∧
    ((claiming 5).now % (100 * us) ≠ 0 ∧ (claiming second).now % (100 * us) = 0 ∧ (claiming second).pfo.owner ≠ 1 ∧
      pfoLengthOk (manifest ++ List.replicate 992 0).length = true ∧
      manifestOk (manifest ++ List.replicate 992 0) = true ∧ (claiming second).pwr.dip = false ∧
      ((claiming second).modPfo fun p => { p with owner := 1 }).pfo.owner = 1) ∧
    (up.twin.state ≠ .active ∧ plain.awake = true ∧ up.awake = true ∧ (1 : BitVec 4) ≠ 0) ∧
    (up.twin.hbServedAt = none ∧ examined.pwr.booted = false ∧ up.pfo.record.attempts = 0) := by decide +kernel

/-! ## Power, resets and registers (O54, O55) -/

def pwr (f : Pwr → Pwr) (s : State := up) : State := s.modPwr f

def liveGrant : Grant :=
  { robot := 0, gen := 9, tag := 1, state := .queued, voided := false, ends := 20, deliverBy := 1, frames := 1, due := none }

theorem witness_PowerStatesAndWakes_requests :
    (up.pwr.state = .run ∧ up.pwr.pending = none ∧ plain.pcieRole = 0 ∧ plain.pwr.state = .run ∧
      1 ≤ up.pcieRole ∧ up.grantLive = false ∧ up.pwr.dip = false ∧ up.powered = true) ∧
    ((up.modSec fun c => { c with pcie := { c.pcie with role := 1 } }).pcieRole = 1) ∧
    ((up.modCanvas fun c => { c with grants := [liveGrant] }).grantLive = true) ∧
    ((pwr fun p => { p with dip := true }).pwr.dip = true ∧ (pwr fun p => { p with state := .quiet }).pwr.state = .quiet) ∧
    (let s := (up.modFleet fun f => { f with stops := [bootStop] }).setReg rPwrCmp 0
     2 ≤ s.pcieRole ∧ s.grantLive = false ∧ s.fleet.fleetActive = true ∧ s.rbit rPwrCmp 31 = false ∧ s.pwr.dip = false ∧
      s.pwr.pending = none) ∧
    (let s := pwr fun p => { p with state := .sleep }
     s.pwr.state = .sleep ∧ 1 ≤ s.pcieRole ∧ s.pwr.changing = false) ∧
    (let s := pwr fun p => { p with
       state := .sleep
       wake := some (0, .run) }
     1 ≤ s.pcieRole ∧ s.pwr.changing = true ∧ s.powerBar .run = some 7) := by decide +kernel

theorem witness_PowerStatesAndWakes_changes :
    (let s := atTime slotNs (pwr fun p => { p with pending := some (.quiet, 1) })
     s.pwr.pending = some (.quiet, 1) ∧ s.slotSince s.pwr.pendingAt = true ∧
      (s.modPwr fun p => { p with pendingAt := slotNs }).slotSince slotNs = false) ∧
    (let s := atTime 2000000 (pwr fun p => { p with
       state := .quiet
       pending := some (.run, 1) })
     s.pwr.pending = some (.run, 1) ∧ s.boundaryDue s.pwr.pendingAt = true ∧ s.boundaryDue 2000000 = false) ∧
    (let s := pwr (fun p => { p with pending := some (.sleep, 1) }) running
     s.pwr.pending = some (.sleep, 1) ∧ s.epochSince s.pwr.pendingAt = true ∧ s.inService = []) ∧
    ((withEasel up (easelOf [])).inService ≠ []) ∧
    (let s := pwr fun p => { p with pending := some (.deep, 2) }
     s.pwr.pending = some (.deep, 2) ∧ s.pwr.flashBegun = false ∧ (s.modPwr fun p => { p with flashBegun := true }).pwr.flashBegun = true) ∧
    (let s := pwr fun p => { p with
       state := .sleep
       wake := some (1, .run) }
     s.pwr.state = .sleep ∧ s.pwr.wake = some (1, .run) ∧ s.pwr.toDeep = false) ∧
    ((pwr fun p => { p with
       state := .sleep
       pending := some (.deep, 2) }).pwr.toDeep = true) ∧
    (let s := pwr fun p => { p with cmp2 := true }
     s.pwr.state ≠ .deep ∧ s.pwr.booted = true ∧ s.pwr.cmp2 = true ∧ s.follows = false ∧ up.pwr.cmp2 = false) ∧
    (let s := pwr fun p => { p with state := .sleep }
     s.pwr.wake = none ∧ s.alarmDue = false ∧ up.pwr.state ≠ .sleep) ∧
    (let s := pwr fun p => { p with state := .deep }
     s.pwr.state = .deep ∧ s.pwr.cmp2 = false ∧ s.pwr.tamper = false ∧ s.alarmDue = false ∧ up.pwr.state ≠ .deep) ∧
    (up.powered = true ∧ up.pwr.tamper = false ∧ (pwr fun p => { p with tamper := true }).pwr.tamper = true) ∧
    (440 ≤ fieldOf 0x01B801A4#32 16 9 ∧ fieldOf 0x01B801A4#32 16 9 ≤ 490 ∧ 400 ≤ fieldOf 0x01B801A4#32 0 9 ∧
      fieldOf 0x01B801A4#32 0 9 ≤ 450 ∧ fieldOf 0x01B801A4#32 0 9 + 20 ≤ fieldOf 0x01B801A4#32 16 9 ∧
      fieldOf 0x01B801A5#32 16 9 < fieldOf 0x01B801A5#32 0 9 + 20 ∧ 400 ≤ fieldOf 0x01B801A5#32 0 9) := by
  decide +kernel

def bootObs : BootObs :=
  { seatB := false, clkSel := false, recoveryN := true, retOk := true, snaps := (true, true), configs := (true, true)
    recs := (true, true), banks := (true, true), partner := none }

theorem witness_ResetsBootAndRegisters :
    (up.tmb.running = true ∧ (up.modTmb fun t => { t with running := false }).tmb.running = false) ∧
    (up.pwr.state ≠ .deep ∧ up.pwr.booted = true ∧ up.awake = true ∧
      up.pwr.servedAt + up.rf rPwrWdt 0 16 * 10 * ms ≤ up.now ∧ up.powered = true ∧ 2 ≤ up.pcieRole ∧
      plain.pcieRole < 2) ∧
    (let s := pwr fun p => { p with servedAt := up.now }
     s.now < s.pwr.servedAt + s.rf rPwrWdt 0 16 * 10 * ms) ∧
    (let s := pwr fun p => { p with
       state := .off
       booted := false
       last := { p.last with
         kind := 3
         time := up.now - ms } }
     s.pwr.state = .off ∧ s.pwr.inRecovery = false ∧ s.pwr.refOk = true ∧ s.pfo.staging ≠ 2 ∧
      s.pwr.last.time + ms ≤ s.now ∧ (s.pfo.readFlash bootObs).choose bootObs.recoveryN = .inr (0, none) ∧
      ({ bootObs with recoveryN := false }).recoveryN = false) ∧
    (let s := pwr fun p => { p with
       last := { p.last with
         kind := 3
         time := up.now } }
     s.pwr.last.kind ≠ 0 ∧ s.now < s.pwr.last.time + ms) ∧
    (let s := pwr fun p => { p with
       flash := [.nav [1]]
       flashBegun := true }
     s.pwr.flash = .nav [1] :: [] ∧ s.pwr.flashBegun = true ∧ up.pwr.flash = []) ∧
    (let s := pwr fun p => { p with cfgBusy := true }
     s.pwr.cfgBusy = true ∧ s.pwr.dip = false ∧ s.pwr.cfgQueued = false ∧ up.pwr.cfgBusy = false ∧ (1 : BitVec 4) ≠ 0) ∧
    ((0x130012#24).toNat ≠ (regAt (0x130012#24).toNat).1 ∧ (8 : Fin 9).val ≠ (regAt (0x130010#24).toNat).2 ∧
      (pwr fun p => { p with state := .sleep }).awake = false ∧ up.tfc.lateOut < 2 ^ 32) ∧
    (up.host.linkUp = false ∧ (up.modHost fun h => { h with linkUp := true }).host.linkUp = true) := by decide +kernel

/-- Deep, with CMP2 and TAMPER_N waiting. -/
def deepWaiting : State := pwr fun p => { p with
  state := .deep
  cmp2 := true
  tamper := true }

theorem witness_PowerStatesAndWakes_edges :
    (up.powerBar .quiet = none ∧ plain.powerBar .run = some 1 ∧ plain.powerBar .deep = some 1 ∧
      (plain.modPwr fun p => { p with state := .sleep }).powerBar .sleep = some 1 ∧
      (pwr fun p => { p with state := .sleep }).powerBar .quiet = none ∧
      (pwr fun p => { p with state := .quiet }).powerBar .sleep = none) ∧
    (let s := (up.modFleet fun f => { f with stops := [bootStop] }).setReg rPwrCmp 0
     s.powered = true ∧ s.powerBar .deep = none) ∧
    (let s := pwr fun p => { p with state := .quiet }
     s.pwr.state = .quiet ∧ 1 ≤ s.pcieRole ∧ s.pwr.pending = none ∧ s.pwr.state ≠ .run) ∧
    ((pwr fun p => { p with state := .off }).powered = false) ∧
    (let s := pwr fun p => { p with pending := some (.sleep, 1) }
     s.epochSince s.pwr.pendingAt = false ∧ up.pwr.pending = none) ∧
    ((deepWaiting.setReg rPwrCmp 0xE0000000).rbit rPwrCmp 31 = true ∧ deepWaiting.pwr.cmp2 = true ∧
      (deepWaiting.setReg rPwrCmp 0x60000000).rbit rPwrCmp 31 = false ∧
      (deepWaiting.setReg rPwrCmp 0x60000000).rbit rPwrCmp 30 = true ∧
      (deepWaiting.setReg rPwrCmp 0).rbit rPwrCmp 30 = false ∧ deepWaiting.alarmDue = false) ∧
    ((pwr fun p => { p with dip := true }).pwr.dip = true ∧
      fieldOf 0#32 16 9 < 440 ∧ 490 < fieldOf 0x01FF01A4#32 16 9 ∧ 450 < fieldOf 0x01B801FF#32 0 9) := by decide +kernel

theorem witness_ResetsBootAndRegisters_edges :
    (up.tripping = false ∧ (pwr fun p => { p with state := .deep }).pwr.state = .deep) ∧
    (let s := exec .cmp1Trip up
     (match s with
      | .next t => t.tripping
      | _ => false) = true) ∧
    ((up.modPfo fun p => { p with staging := 2 }).pfo.staging = 2 ∧
      (up.pfo.readFlash { bootObs with banks := (false, false) }).choose true = .inl 0 ∧
      ((up.modPfo fun p => { p with
        banks := #v[some factoryBank, some factoryBank]
        recs := p.recs.map fun r => r.map fun x => { x with
          state := 1
          attempts := 3 } }).pfo.readFlash bootObs).choose true = .inr (1, some 1)) ∧
    (let s := pwr fun p => { p with
       flash := [.survey 1 2 3, .plan 4 []]
       flashBegun := true }
     s.pwr.flash = .survey 1 2 3 :: [.plan 4 []] ∧ s.pwr.flashBegun = true) ∧
    ((pwr fun p => { p with
       flash := [.plan 4 []]
       flashBegun := true }).pwr.flash = .plan 4 [] :: []) ∧
    (up.answers rTwnCfg = true ∧ ownRow rTwnCfg = false ∧ (regDef rTwnCfg).map (·.role) = some 2 ∧
      regAt rTwnCfg = (rTwnCfg, 4) ∧ rTwnCfg / 65536 ≠ 3 ∧ (regDef rAirStIdx).map (·.role) = some 0 ∧
      up.pcieRole = 3 ∧ plain.pcieRole = 0) := by decide +kernel

/-! ## The whole machine (O56 to O60) -/

theorem witness_StepRunsTheFrontCommand : State.reset.pending = [] := by decide +kernel

theorem witness_EveryCommandAnswersANextState : gives .capRefresh up (fun _ => true) = true := by decide +kernel

theorem witness_EaselWordsDecodeToTheirInstruction :
    (EInstr.alu .add 15 0 15).wf = true ∧ (EInstr.loop 15 0xFFFF 0x3FFF).wf = true ∧ (EInstr.vlda 7 15 true 0x7FE0).wf = true ∧
      (EInstr.async .fpget 15 0x7FF 3).wf = true := by decide +kernel

theorem witness_StacksMemoriesQueueAndClockThroughEveryStep : Sound up := by
  refine ⟨fun k => ⟨?_, fun b h => ?_, ?_⟩, by decide +kernel, by decide +kernel, ?_⟩
  · exact (by decide +kernel : ∀ k : Fin 8, up.easels[k].bank.rets.length ≤ 8 ∧ up.easels[k].bank.loops.length ≤ 4) k
  · have := (by decide +kernel : ∀ k : Fin 8, up.easels[k].shadow = none) k
    simp_all
  · exact (by decide +kernel : ∀ k : Fin 8, Memory.wf up.easels[k].scratch = true) k
  · have : up.pending = [] := by decide +kernel
    simp [this]

/-- A step from it answers a next state. -/
theorem witness_step : (match step { up with pending := [.capRefresh] } with
    | .next t => decide (t.pending = [])
    | _ => false) = true := by decide +kernel

end Sys2Proof.Tests
end

section
/-! The scope statements: every command answers a next state, and what the reset state holds. -/

namespace Sys2Proof.Machine

/-! ## Every command answers a next state -/

/-- A read of a block that may not answer, and a command that a power state may bar. -/
theorem runs_of_ite {c : Instr} {s a b : State} {p : Prop} [Decidable p]
    (h : exec c s = if p then .next a else .next b) : Runs c s := by
  rw [Runs, h]
  split <;> exact ⟨_, rfl⟩

/-- Settles O57. The reads of the bus and the key commands choose between two next states; the meaning of
every other command is a next state as it stands. -/
theorem everyCommandAnswersANextState : Obligations.EveryCommandAnswersANextState := by
  intro c s
  cases c
  case capDataRead | easMemDataRead | hostLockRead | hostMbxRx | dpTimeRead | dpProbeCountRead | dpCanvasProbe
      | dpLockRead | dpMbxTake | dpMbxStatusRead | keyProgram | dspKeyProgram | dspKeyRevoke | pfoKeyProgram
      | pfoKeyRevoke => exact runs_of_ite rfl
  all_goals exact ⟨_, rfl⟩

/-! ## The reset state -/

theorem easelsFit_replicate {x : Easel} (hb : x.bank.fits) (hs : x.shadow = none) (hm : Memory.wf x.scratch = true) :
    easelsFit (Vector.replicate 8 x) := by
  intro k
  have hk : (Vector.replicate 8 x)[k] = x := by simp
  rw [hk]
  exact ⟨hb, by simp [hs], hm⟩

theorem sound_reset : Sound State.reset :=
  ⟨easelsFit_replicate ⟨by decide, by decide⟩ rfl rfl, rfl, rfl, by simp [State.reset]⟩

theorem roleOf_idle (s : State) : s.roleOf Channel.idle = 0 := by
  rw [State.roleOf]
  exact ite_self _

/-- Settles O60: the fields read off the reset state, the roles by the idle channels, the Palette by its empty
queues, and the invariant by the empty memories and the blank Easels. -/
theorem resetLeavesTheBootStopAndEmptyDevice : Obligations.ResetLeavesTheBootStopAndEmptyDevice :=
  have boot : State.reset.fleet.stops = [bootStop] := rfl
  have empty : State.reset.palette.inUse = 0 := by decide +kernel
  have wdt : State.reset.reg rPwrWdt = 100 := by decide +kernel
  ⟨boot, rfl, rfl, rfl, rfl, rfl, rfl, rfl, rfl, rfl, empty, roleOf_idle _, roleOf_idle _, rfl, rfl, rfl, rfl, rfl, rfl,
    rfl, rfl, wdt, sound_reset⟩

end Sys2Proof.Machine
end

section
/-! The platform of a boot: world time, the power state and the Portfolio. Records, the restoring of what was
kept, a new incarnation and a change of the unit's state all leave it as it was. -/

namespace Sys2Proof.Machine

/-- A fold keeps what each of its steps keeps. -/
theorem foldl_keeps {α β : Type} (p : State → β) (f : State → α → State) (h : ∀ s a, p (f s a) = p s) (l : List α)
    (s : State) : p (l.foldl f s) = p s := by
  induction l generalizing s with
  | nil => rfl
  | cons a l ih => rw [List.foldl_cons, ih, h]

def State.platform (s : State) : Nat × Pwr × Pfo := (s.now, s.pwr, s.pfo)

theorem now_of_platform {s t : State} (h : t.platform = s.platform) : t.now = s.now := congrArg (·.1) h
theorem pfo_of_platform {s t : State} (h : t.platform = s.platform) : t.pfo = s.pfo := congrArg (·.2.2) h

@[simp] theorem platform_modEv (s : State) (f) : (s.modEv f).platform = s.platform := rfl
@[simp] theorem platform_modPnt (s : State) (f) : (s.modPnt f).platform = s.platform := rfl
@[simp] theorem platform_modPalette (s : State) (f) : (s.modPalette f).platform = s.platform := rfl
@[simp] theorem platform_modHost (s : State) (f) : (s.modHost f).platform = s.platform := rfl
@[simp] theorem platform_modFleet (s : State) (f) : (s.modFleet f).platform = s.platform := rfl
@[simp] theorem platform_modDsp (s : State) (f) : (s.modDsp f).platform = s.platform := rfl
@[simp] theorem platform_modCanvas (s : State) (f) : (s.modCanvas f).platform = s.platform := rfl
@[simp] theorem platform_modStk (s : State) (f) : (s.modStk f).platform = s.platform := rfl
@[simp] theorem platform_modGdl (s : State) (f) : (s.modGdl f).platform = s.platform := rfl
@[simp] theorem platform_modDrv (s : State) (f) : (s.modDrv f).platform = s.platform := rfl
@[simp] theorem platform_modAir (s : State) (f) : (s.modAir f).platform = s.platform := rfl
@[simp] theorem platform_modRfb (s : State) (f) : (s.modRfb f).platform = s.platform := rfl
@[simp] theorem platform_modTfc (s : State) (f) : (s.modTfc f).platform = s.platform := rfl
@[simp] theorem platform_modTwin (s : State) (f) : (s.modTwin f).platform = s.platform := rfl
@[simp] theorem platform_modGnss (s : State) (f) : (s.modGnss f).platform = s.platform := rfl
@[simp] theorem platform_put (s : State) (o : Out) : (s.put o).platform = s.platform := rfl
@[simp] theorem platform_emit (s : State) (e : EvDef) (a b c d : Nat) : (s.emit e a b c d).platform = s.platform :=
  (congrArg State.platform (recordless_emit s e a b c d) :)
@[simp] theorem platform_pntGap (s : State) : s.pntGap.platform = s.platform :=
  (congrArg State.platform (recordless_pntGap s) :)

/-! ## What a boot restores -/

@[simp] theorem platform_restoreRetained (s : State) (valid : Bool) :
    (s.restoreRetained valid).platform = s.platform := rfl

@[simp] theorem platform_retentionRecords (s : State) (valid : Bool) :
    (s.retentionRecords valid).platform = s.platform := by
  unfold State.retentionRecords
  split
  · rw [platform_emit]
  · split <;> split
    · rw [platform_emit]
    · rw [platform_pntGap, platform_modPnt, platform_emit]
    · rfl
    · rw [platform_pntGap, platform_modPnt]

theorem platform_setOwn {s t : State} {a v : Nat} (h : s.setOwn a v = some t) : t.platform = s.platform := by
  unfold State.setOwn at h
  split at h
  case h_4 =>
    obtain rfl := Option.some.inj h
    generalize (if fieldOf (lo32 v) 0 2 = 3 then 0 else fieldOf (lo32 v) 0 2) = src
    split <;> rfl
  all_goals cases h
  all_goals rfl

theorem platform_applySaved (s : State) (x : Nat × Nat) : (s.applySaved x).platform = s.platform := by
  unfold State.applySaved
  dsimp only
  split
  · rfl
  · split
    next h => exact platform_setOwn h
    next =>
      split
      case h_7 => split <;> rfl
      all_goals rfl

@[simp] theorem platform_applyConfig (s : State) (l : List (Nat × Nat)) : (s.applyConfig l).platform = s.platform :=
  foldl_keeps State.platform _ platform_applySaved l s

@[simp] theorem platform_modLedger (s : State) (b : Fin 2) (f) : (s.modLedger b f).platform = s.platform := rfl

@[simp] theorem platform_recompute (s : State) (c : Fin 2) : (s.recompute c).platform = s.platform := by
  unfold State.recompute
  dsimp only
  split <;> simp

theorem platform_judgeClass (s : State) (b : Fin 2) (cls charge : Nat) :
    (s.judgeClass b cls charge).platform = s.platform := by
  unfold State.judgeClass
  dsimp only
  split <;> simp

theorem platform_judgeOver (s : State) (b : Fin 2) : (s.judgeOver b).platform = s.platform := by
  unfold State.judgeOver
  dsimp only
  split <;> simp

@[simp] theorem platform_judgeBoth (s : State) (b : Fin 2) : (s.judgeBoth b).platform = s.platform := by
  rw [State.judgeBoth, platform_judgeOver, platform_judgeClass, platform_judgeClass]

theorem platform_restoreLedger (s : State) (b : Fin 2) : (s.restoreLedger b).platform = s.platform := by
  simp [State.restoreLedger]

@[simp] theorem platform_restoreLedgers (s : State) : s.restoreLedgers.platform = s.platform := by
  rw [State.restoreLedgers, platform_restoreLedger, platform_restoreLedger]

@[simp] theorem platform_firstTime (s : State) (partner : Option Nat) :
    (s.firstTime partner).platform = s.platform := rfl

theorem platform_modStation (s : State) (chain : Fin 2) (i : Nat) (f : Station → Station) :
    (s.modStation chain i f).platform = s.platform := rfl

@[simp] theorem platform_restoreStations (s : State) : s.restoreStations.platform = s.platform := by
  unfold State.restoreStations
  exact foldl_keeps State.platform _ (fun s _ => platform_modStation s ..) _ s

/-! ## A new incarnation -/

theorem platform_stopDrive (q : Nat) (s : State) (d : Fin 8) : (s.stopDrive q d).platform = s.platform := by
  unfold State.stopDrive
  dsimp only
  split <;> rfl

theorem platform_persistCheck (s : State) (l c i : Nat) : (s.persistCheck l c i).platform = s.platform := by
  unfold State.persistCheck
  split <;> simp

theorem platform_setLost (s : State) (r : Nat) (p : Nat → Bool) : (s.setLost r p).2.platform = s.platform := by
  unfold State.setLost
  split
  · rfl
  · rw [platform_persistCheck, platform_modCanvas]

@[simp] theorem platform_canvasStart (s : State) : s.canvasStart.platform = s.platform := by
  unfold State.canvasStart
  rw [foldl_keeps State.platform _ (fun s r => platform_setLost s r _), platform_modCanvas]

@[simp] theorem platform_newIncarnation (s : State) (kind : Nat) : (s.newIncarnation kind).platform = s.platform := by
  simp [State.newIncarnation, State.clearErrors, foldl_keeps State.platform _ (platform_stopDrive 0)]

/-! ## The unit's state -/

@[simp] theorem platform_endChange (s : State) (party : Nat) (dead : Bool) :
    (s.endChange party dead).platform = s.platform := by
  refine foldl_keeps State.platform _ (fun s c => ?_) _ s
  dsimp only
  split
  · rw [platform_emit]
    split <;> rfl
  · rfl

theorem platform_easelEnds (s : State) (was : Bool) : (s.easelEnds was).platform = s.platform := by
  unfold State.easelEnds
  split <;> simp

theorem platform_restream (s : State) : s.restream.platform = s.platform := by
  unfold State.restream
  dsimp only
  split
  · rw [platform_modGnss, platform_modGnss]
  · split
    · rw [platform_emit, platform_modGnss, platform_modGnss]
    · split
      · rw [platform_emit, platform_modGnss, platform_modGnss]
      · rw [platform_modGnss]

theorem platform_follow (s : State) : s.follow.platform = s.platform := by
  unfold State.follow
  split <;> rfl

theorem platform_setTwin (s : State) (new : TwinState) : (s.setTwin new).platform = s.platform := by
  unfold State.setTwin
  dsimp only
  split
  · rfl
  · rw [platform_restream, platform_easelEnds, platform_emit]
    split
    · rw [platform_follow, platform_modTwin]
    · rw [platform_put, platform_follow, platform_modTwin]

theorem platform_bootTwin (s : State) : s.bootTwin.platform = s.platform := by
  unfold State.bootTwin
  split
  · rfl
  · exact platform_setTwin s .solo

end Sys2Proof.Machine
end

section
/-! Resets (R512, R513) and the boot after one (R494 to R498, R515). -/

namespace Sys2Proof.Machine

/-! ## What a reset leaves -/

/-- What is done before a reset takes hold. -/
def State.beforeReset (s : State) (ci1 : Bool) : State :=
  if ci1 && (s.awake || s.pwr.state == .sleep) then s.closeAtReset.resign.retain else s

theorem resetDevice_eq (s : State) (kind cause : Nat) :
    s.resetDevice kind cause =
      ((s.beforeReset (!(kind == 0 && cause == 0))).cleared
        { kind := kind, cause := cause, ci1Kept := !(kind == 0 && cause == 0), was := s.pwr.state.code
          time := s.now }).holdOutputs :=
  rfl

/-- Keys, Portfolio, counter and pair. -/
def State.lasting (s : State) : Sec × Pfo × Tmb × Twin := (s.sec, s.pfo, s.tmb, s.twin)

theorem lasting_emit (s : State) (e : EvDef) (a b c d : Nat) : (s.emit e a b c d).lasting = s.lasting :=
  (congrArg State.lasting (recordless_emit s e a b c d) :)

theorem lasting_closeAtReset (s : State) : s.closeAtReset.lasting = s.lasting := by
  unfold State.closeAtReset
  refine foldl_keeps State.lasting _ (fun s svc => ?_) _ s
  dsimp only
  split
  · rfl
  · exact lasting_emit ..

theorem lasting_resign (s : State) : s.resign.lasting = s.lasting := by
  unfold State.resign
  split <;> rfl

theorem lasting_retain (s : State) : s.retain.lasting = s.lasting := rfl

theorem lasting_beforeReset (s : State) (ci1 : Bool) : (s.beforeReset ci1).lasting = s.lasting := by
  unfold State.beforeReset
  split
  · rw [lasting_retain, lasting_resign, lasting_closeAtReset]
  · rfl

/-- The kind and cause that Table 17-4 gives are shown, and the device waits for its boot. -/
theorem resetDevice_pwr (s : State) (kind cause : Nat) :
    (s.resetDevice kind cause).pwr.state = .off ∧ (s.resetDevice kind cause).pwr.last.kind = kind ∧
      (s.resetDevice kind cause).pwr.last.cause = cause ∧ (s.resetDevice kind cause).pwr.booted = false := by
  rw [resetDevice_eq]
  exact ⟨rfl, rfl, rfl, rfl⟩

/-- The Portfolio's fuse, the MAKER keys and the seat outlast every reset. -/
theorem resetDevice_lasting (s : State) (kind cause : Nat) :
    (s.resetDevice kind cause).pfo.fuse = s.pfo.fuse ∧
      (s.resetDevice kind cause).sec.makerKeys = s.sec.makerKeys ∧
      (s.resetDevice kind cause).twin.seatB = s.twin.seatB := by
  have h := lasting_beforeReset s (!(kind == 0 && cause == 0))
  rw [resetDevice_eq]
  generalize s.beforeReset (!(kind == 0 && cause == 0)) = u at h ⊢
  exact ⟨congrArg (·.2.1.fuse) h, congrArg (·.1.makerKeys) h, congrArg (·.2.2.2.seatB) h⟩

/-- The counter goes on through a reset that is no POR. -/
theorem resetDevice_raw (s : State) {kind : Nat} (hk : kind ≠ 0) (cause : Nat) :
    (s.resetDevice kind cause).tmb.raw = s.tmb.raw := by
  have h := lasting_beforeReset s (!(kind == 0 && cause == 0))
  have held : (kind != 0) = true := by simpa using hk
  rw [resetDevice_eq]
  generalize s.beforeReset (!(kind == 0 && cause == 0)) = u at h ⊢
  calc ((u.cleared _).holdOutputs).tmb.raw = (u.tmb.afterReset (kind != 0)).raw := rfl
    _ = u.tmb.raw := by rw [held]; rfl
    _ = s.tmb.raw := congrArg (·.2.2.1.raw) h

theorem past_iff (s : State) (since d : Nat) : s.past since d = true ↔ since + d ≤ s.now := decide_eq_true_iff

theorem cmp1Trip_resets (s : State) :
    ∃ t, exec .cmp1Trip s = .next t ∧ t.pwr.state = .off ∧ t.pwr.last.kind = 0 ∧ t.pwr.last.cause = 1 ∧
      t.pwr.vsysLow = true ∧ t.pfo.fuse = s.pfo.fuse ∧ t.sec.makerKeys = s.sec.makerKeys :=
  have ⟨off, kind, cause, _⟩ := resetDevice_pwr s 0 1
  have ⟨fuse, keys, _⟩ := resetDevice_lasting s 0 1
  ⟨_, rfl, off, kind, cause, rfl, fuse, keys⟩

theorem resetNLow_deep {s : State} (h : s.pwr.state = .deep) : exec .resetNLow s = .next (s.deepWake 4) :=
  congrArg Host.Outcome.next (if_pos h)

theorem resetNLow_tripping {s : State} (h : s.pwr.state ≠ .deep) (ht : s.tripping = true) :
    exec .resetNLow s = .next s :=
  congrArg Host.Outcome.next ((if_neg h).trans (if_pos ht))

theorem resetNLow_resets {s : State} (h : s.pwr.state ≠ .deep) (ht : s.tripping = false) :
    exec .resetNLow s = .next (s.resetDevice 1 3) :=
  congrArg Host.Outcome.next ((if_neg h).trans (if_neg (by simp [ht])))

theorem watchdogExpiry_eq (s : State) (hb : s.pwr.booted = true) (ha : s.awake = true) :
    exec .watchdogExpiry s =
      .next (if s.pwr.servedAt + s.rf rPwrWdt 0 16 * 10 * ms ≤ s.now then s.resetDevice 2 4 else s) := by
  refine congrArg Host.Outcome.next (if_congr ?_ rfl rfl)
  rw [hb, ha, Bool.true_and, Bool.true_and, past_iff]

theorem watchdogService_eq (s : State) (hb : s.pwr.booted = true) (ha : s.awake = true) :
    exec .watchdogService s = .next (if s.tmb.running then s.modPwr fun p => { p with servedAt := s.now } else s) := by
  refine congrArg Host.Outcome.next (if_congr ?_ rfl rfl)
  rw [hb, ha, Bool.true_and, Bool.true_and]

/-- The watchdog is paused where the device is not awake. -/
theorem watchdog_asleep {s : State} (ha : s.awake = false) :
    exec .watchdogExpiry s = .next s ∧ exec .watchdogService s = .next s := by
  constructor <;> refine congrArg Host.Outcome.next (if_neg ?_) <;> simp [ha]

theorem pwrSoft_open {s : State} (hp : s.powered = true) (hr : 2 ≤ s.pcieRole) :
    exec .pwrSoft s = .next (s.resetDevice 3 8) :=
  congrArg Host.Outcome.next (if_pos ⟨hp, hr⟩)

theorem pwrSoft_shut {s : State} (h : s.pcieRole < 2 ∨ s.powered = false) : exec .pwrSoft s = .next s := by
  refine congrArg Host.Outcome.next (if_neg ?_)
  rintro ⟨hp, hr⟩
  rcases h with h | h
  · omega
  · simp [hp] at h

theorem ci1PowerRegained_resets (s : State) :
    ∃ t, exec .ci1PowerRegained s = .next t ∧ t.pwr.state = .off ∧ t.pwr.last.kind = 0 ∧ t.pwr.last.cause = 0 ∧
      t.pwr.resets = 0 ∧ t.pwr.rtcValid = false ∧ t.pwr.ret = none :=
  have ⟨off, kind, cause, _⟩ := resetDevice_pwr s 0 0
  ⟨_, rfl, off, kind, cause, rfl, rfl, rfl⟩

/-! ## The bank-select record -/

theorem record_of_recs {p q : Pfo} (h : p.recs = q.recs) : p.record = q.record := by rw [Pfo.record, Pfo.record, h]

/-- A record written goes over both copies, under the next SEQ. -/
theorem record_write (p : Pfo) (r : BankRec) : (p.write r).record = { r with seq := (p.record.seq + 1) % 2 ^ 32 } := by
  simp [Pfo.record, Pfo.write]

theorem record_raiseFuse (p : Pfo) : p.raiseFuse.record = p.record := by
  unfold Pfo.raiseFuse
  split <;> rfl

theorem record_attempt (p : Pfo) (bank : Nat) :
    (p.attempt bank false).record =
      { p.record with seq := (p.record.seq + 1) % 2 ^ 32, attempts := p.record.attempts + 1 } :=
  record_write p { p.record with attempts := p.record.attempts + 1 }

theorem record_revert (p : Pfo) (bank : Nat) :
    (p.attempt bank true).record =
      { seq := (p.record.seq + 1) % 2 ^ 32, bank := bank, state := 2, attempts := 0, svn := (p.bankSet bank).2
        setVersion := (p.bankSet bank).1 } :=
  record_write p _

/-! ## The boot -/

/-- World time, and what the ROM has written: the bank that runs and the record. -/
def State.romKept (s : State) : Nat × Nat × Vector (Option BankRec) 2 := (s.now, s.pfo.running, s.pfo.recs)

theorem romKept_of_platform {s t : State} (h : t.platform = s.platform) : t.romKept = s.romKept := by
  rw [State.romKept, State.romKept, now_of_platform h, pfo_of_platform h]

theorem romKept_emit (s : State) (e : EvDef) (a b c d : Nat) : (s.emit e a b c d).romKept = s.romKept :=
  romKept_of_platform (platform_emit s e a b c d)

theorem romKept_dropStaging (s : State) (cause : Nat) : (s.dropStaging cause).romKept = s.romKept :=
  romKept_emit ..

theorem romKept_clearFindings (s : State) :
    (s.modPfo fun p => { p with exam := none, recCause := none }).romKept = s.romKept := rfl

theorem romKept_portfolioRecords (s : State) (reverted : Option Nat) :
    (s.portfolioRecords reverted).romKept = s.romKept := by
  unfold State.portfolioRecords
  dsimp only
  rw [romKept_clearFindings]
  repeat' split
  all_goals simp only [romKept_emit]

theorem platform_bootRestore (s : State) (x : BootObs) (valid : Bool) :
    (s.bootRestore x valid).platform = s.platform := by
  unfold State.bootRestore
  dsimp only
  rw [platform_modTfc, platform_restoreLedgers]
  split
  · rw [platform_applyConfig, platform_retentionRecords, platform_restoreRetained]
  · rw [platform_retentionRecords, platform_restoreRetained]

theorem romKept_bootFinish (s : State) (x : BootObs) (reverted : Option Nat) :
    (s.bootFinish x reverted).romKept = s.romKept := by
  have incarnation : ∀ (s : State) (kind : Nat), (s.restoreStations.newIncarnation kind).romKept = s.romKept :=
    fun s kind => romKept_of_platform ((platform_newIncarnation ..).trans (platform_restoreStations s))
  have first : ∀ (s : State) (p : Option Nat), (s.firstTime p).romKept = s.romKept :=
    fun s p => romKept_of_platform (platform_firstTime s p)
  unfold State.bootFinish
  dsimp only
  generalize (if s.paired then x.partner else none) = partner
  split
  · rw [romKept_emit, incarnation, romKept_portfolioRecords]
    split
    · rw [romKept_dropStaging, first]
    · rw [first]
  · rw [incarnation, romKept_portfolioRecords]
    split
    · rw [romKept_dropStaging, first]
    · rw [first]

theorem platform_setBooted (s : State) :
    s.setBooted.platform =
      (s.now, { s.pwr with state := .run, booted := true, servedAt := s.now, wake := none, cmp2 := false },
        { s.pfo with upAt := s.now }) := by
  unfold State.setBooted
  dsimp only
  split
  · rw [platform_modFleet, platform_emit, platform_endChange, platform_modHost, platform_modFleet, platform_modDsp]
    rfl
  · rw [platform_emit, platform_endChange, platform_modHost, platform_modFleet, platform_modDsp]
    rfl

/-- A set's boot up to BOOTED, where the retention area is taken as valid or not. -/
def State.beforeBooted (s : State) (x : BootObs) (bank : Nat) (reverted : Option Nat) (valid : Bool) : State :=
  ((s.bootRom x bank reverted.isSome valid).bootRestore x valid).bootFinish x reverted

theorem bootSet_eq (s : State) (x : BootObs) (bank : Nat) (reverted : Option Nat) :
    s.bootSet x bank reverted =
      (s.beforeBooted x bank reverted (x.retOk && s.pwr.ret.isSome)).setBooted.bootTwin := rfl

theorem romKept_modPwr (s : State) (f) : (s.modPwr f).romKept = s.romKept := rfl
theorem romKept_modRfb (s : State) (f) : (s.modRfb f).romKept = s.romKept := rfl

theorem romKept_bootRom (s : State) (x : BootObs) (bank : Nat) (again valid : Bool) :
    (s.bootRom x bank again valid).romKept = (s.now, bank, (s.pfo.attempt bank again).raiseFuse.recs) := by
  unfold State.bootRom
  dsimp only
  rw [romKept_modPwr, romKept_modRfb]
  rfl

theorem romKept_beforeBooted (s : State) (x : BootObs) (bank : Nat) (reverted : Option Nat) (valid : Bool) :
    (s.beforeBooted x bank reverted valid).romKept =
      (s.now, bank, (s.pfo.attempt bank reverted.isSome).raiseFuse.recs) := by
  rw [State.beforeBooted, romKept_bootFinish, romKept_of_platform (platform_bootRestore _ x valid), romKept_bootRom]

theorem platform_booted (s : State) :
    s.setBooted.bootTwin.platform =
      (s.now, { s.pwr with state := .run, booted := true, servedAt := s.now, wake := none, cmp2 := false },
        { s.pfo with upAt := s.now }) :=
  (platform_bootTwin _).trans (platform_setBooted s)

/-- A set that boots runs from then on, with the record the ROM wrote. -/
theorem bootSet_runs (s : State) (x : BootObs) (bank : Nat) (reverted : Option Nat) :
    (s.bootSet x bank reverted).pwr.state = .run ∧ (s.bootSet x bank reverted).pwr.booted = true ∧
      (s.bootSet x bank reverted).pwr.servedAt = s.now ∧ (s.bootSet x bank reverted).pfo.running = bank ∧
      (s.bootSet x bank reverted).pfo.record = (s.pfo.attempt bank reverted.isSome).record := by
  rw [bootSet_eq]
  generalize (x.retOk && s.pwr.ret.isSome) = valid
  have kept := romKept_beforeBooted s x bank reverted valid
  generalize s.beforeBooted x bank reverted valid = u at kept ⊢
  have pwr : u.setBooted.bootTwin.pwr = _ := congrArg (·.2.1) (platform_booted u)
  have pfo : u.setBooted.bootTwin.pfo = _ := congrArg (·.2.2) (platform_booted u)
  have recs : u.pfo.recs = (s.pfo.attempt bank reverted.isSome).raiseFuse.recs := congrArg (·.2.2) kept
  rw [pwr, pfo]
  exact ⟨rfl, rfl, congrArg (·.1) kept, congrArg (·.2.1) kept,
    (record_of_recs recs).trans (record_raiseFuse _)⟩

/-- What the straps and the flash show is taken in before the ROM decides. -/
def State.bootSeen (s : State) (x : BootObs) : State :=
  ((s.modTwin fun t => { t with seatB := x.seatB, peerSeatB := !x.seatB }).modPwr fun p =>
    { p with clkSel := x.clkSel, recovery := !x.recoveryN, vsysLow := false }).modPfo fun p => p.readFlash x

/-- What R515 has a boot wait for. -/
def State.bootWaits (s : State) : Prop :=
  s.pwr.state ≠ .off ∨ s.pwr.refOk = false ∨ s.pfo.staging = 2 ∨ s.pwr.inRecovery = true ∨
    (s.pwr.last.kind ≠ 0 ∧ s.now < s.pwr.last.time + ms)

theorem bootWaits_iff (s : State) :
    (s.pwr.state ≠ .off ∨ s.pwr.inRecovery ∨ !s.pwr.refOk ∨ s.pfo.staging = 2
      ∨ (s.pwr.last.kind ≠ 0 ∧ !s.past s.pwr.last.time ms)) ↔ s.bootWaits := by
  have hp : (!s.past s.pwr.last.time ms) = true ↔ s.now < s.pwr.last.time + ms := by
    simp [State.past]
  have hr : (!s.pwr.refOk) = true ↔ s.pwr.refOk = false := by simp
  rw [State.bootWaits, hp, hr]
  constructor
  · rintro (h | h | h | h | h)
    exacts [.inl h, .inr (.inr (.inr (.inl h))), .inr (.inl h), .inr (.inr (.inl h)), .inr (.inr (.inr (.inr h)))]
  · rintro (h | h | h | h | h)
    exacts [.inl h, .inr (.inr (.inl h)), .inr (.inr (.inr (.inl h))), .inr (.inl h), .inr (.inr (.inr (.inr h)))]

theorem boot_waits {s : State} (h : s.bootWaits) (x : BootObs) : exec (.boot x) s = .next s :=
  congrArg Host.Outcome.next (if_pos ((bootWaits_iff s).mpr h))

/-- The device is ready to boot: what a boot waits for has come. -/
theorem not_bootWaits {s : State} (off : s.pwr.state = .off) (recovered : s.pwr.inRecovery = false)
    (ref : s.pwr.refOk = true) (stg : s.pfo.staging ≠ 2)
    (time : s.pwr.last.kind = 0 ∨ s.pwr.last.time + ms ≤ s.now) : ¬ s.bootWaits := by
  rintro (h | h | h | h | ⟨hk, ht⟩)
  · exact h off
  · simp [ref] at h
  · exact stg h
  · simp [recovered] at h
  · omega

/-- The ROM enters recovery. -/
theorem boot_recovers {s : State} {x : BootObs} {c : Nat} (h : ¬ s.bootWaits)
    (hc : (s.pfo.readFlash x).choose x.recoveryN = .inl c) :
    ∃ t, exec (.boot x) s = .next t ∧ t.pwr.state = s.pwr.state ∧ t.pwr.inRecovery = true ∧
      t.pwr.booted = s.pwr.booted ∧ t.pfo.recCause = some c := by
  refine ⟨_, congrArg Host.Outcome.next (if_neg (mt (bootWaits_iff s).mp h)), ?_⟩
  dsimp only [modPfo_pfo, modPwr_pfo, modTwin_pfo]
  rw [hc]
  exact ⟨rfl, rfl, rfl, rfl⟩

/-- The ROM lets a bank run. -/
theorem boot_runs {s : State} {x : BootObs} {b : Nat} {r : Option Nat} (h : ¬ s.bootWaits)
    (hc : (s.pfo.readFlash x).choose x.recoveryN = .inr (b, r)) :
    exec (.boot x) s = .next ((s.bootSeen x).bootSet x b r) := by
  refine congrArg Host.Outcome.next ((if_neg (mt (bootWaits_iff s).mp h)).trans ?_)
  dsimp only [modPfo_pfo, modPwr_pfo, modTwin_pfo]
  rw [hc]
  rfl

theorem choose_recoveryN (p : Pfo) : p.choose false = .inl 2 := rfl

end Sys2Proof.Machine
end

section
/-! Flash operations (R541), the saved configuration (R517) and plain register accesses (R6, R7). -/

namespace Sys2Proof.Machine

/-! ## Flash operations -/

theorem flashStored_pwr (s : State) (w : FlashWrite) : (s.flashStored w).pwr = s.pwr := by
  cases w <;> rfl

theorem flashOperationDone_ends {s : State} {w : FlashWrite} {rest : List FlashWrite} (hf : s.pwr.flash = w :: rest)
    (hb : s.pwr.flashBegun = true) (st : BitVec 4) :
    exec (.flashOperationDone st) s =
      .next ((if st = 0 then s.flashStored w else s).modPwr fun p =>
        { p with flash := rest, flashBegun := !rest.isEmpty && !p.flashHeld }) := by
  refine congrArg Host.Outcome.next ?_
  rw [hf, hb]
  rfl

theorem flashOperationDone_idle {s : State} (h : s.pwr.flash = [] ∨ s.pwr.flashBegun = false) (st : BitVec 4) :
    exec (.flashOperationDone st) s = .next s := by
  refine congrArg Host.Outcome.next ?_
  split
  · rfl
  next hf =>
    rcases h with h | h
    · rw [h] at hf; cases hf
    · rw [h]; rfl

/-! ## The saved configuration -/

theorem answers_configSave (s : State) : s.answers 0x130018 = true := by simp [State.answers]

theorem configSave_shut {s : State} (h : s.pcieRole < 2) :
    exec .configSave s = .next (s.modPwr fun p => { p with cfgResult := 1 }) := by
  change execConfigSave s = _
  unfold execConfigSave
  rw [answers_configSave, if_neg (by simp), if_pos h]

/-- A save asked for under a role. -/
def State.askSave (s : State) (role : Nat) : State := s.modPwr fun p => { p with cfgRole := role }

theorem askSave_cfgBusy (s : State) (role : Nat) : (s.touch.askSave role).pwr.cfgBusy = s.pwr.cfgBusy := rfl

/-- The save begins, and waits on a dip. -/
theorem askSave_begins (s : State) (role : Nat) :
    (s.touch.askSave role).beginSave.pwr.cfgBusy = true ∧
      (s.touch.askSave role).beginSave.pwr.cfgResult = if s.pwr.dip then 3 else s.pwr.cfgResult := ⟨rfl, rfl⟩

theorem configSave_open {s : State} (h : 2 ≤ s.pcieRole) :
    exec .configSave s = .next
      (if s.pwr.cfgBusy then (s.touch.askSave s.touch.pcieRole).modPwr fun p => { p with cfgQueued := true }
      else (s.touch.askSave s.touch.pcieRole).beginSave) := by
  rw [← askSave_cfgBusy s s.touch.pcieRole]
  change execConfigSave s = _
  unfold execConfigSave
  rw [answers_configSave, if_neg (by simp), if_neg (Nat.not_lt.mpr h)]
  rfl

theorem configSave_begins {s : State} (h : 2 ≤ s.pcieRole) (hb : s.pwr.cfgBusy = false) :
    ∃ t, exec .configSave s = .next t ∧ t.pwr.cfgBusy = true ∧
      t.pwr.cfgResult = if s.pwr.dip then 3 else s.pwr.cfgResult :=
  ⟨(s.touch.askSave s.touch.pcieRole).beginSave,
    (configSave_open h).trans (congrArg Host.Outcome.next (if_neg (by simp [hb]))), askSave_begins ..⟩

theorem configSave_queues {s : State} (h : 2 ≤ s.pcieRole) (hb : s.pwr.cfgBusy = true) :
    ∃ t, exec .configSave s = .next t ∧ t.pwr.cfgQueued = true :=
  ⟨(s.touch.askSave s.touch.pcieRole).modPwr fun p => { p with cfgQueued := true },
    (configSave_open h).trans (congrArg Host.Outcome.next (if_pos hb)), rfl⟩

theorem configSaveDone_idle {s : State} (h : s.pwr.cfgBusy = false) (st : BitVec 4) :
    exec (.configSaveDone st) s = .next s :=
  congrArg Host.Outcome.next (if_pos (by simp [h]))

/-- A save that ends with nothing waiting: the values in force are stored, or they are not. -/
theorem configSaveDone_ends {s : State} (hb : s.pwr.cfgBusy = true) (hd : s.pwr.dip = false)
    (hq : s.pwr.cfgQueued = false) (st : BitVec 4) :
    exec (.configSaveDone st) s = .next
      (if st = 0 then
        (((s.modPwr fun p => p.keepSaved s.savedConfig).modPwr fun p =>
          { p with cfgBusy := false, cfgResult := 0 }).emit evConfigSaved s.savedFields s.pwr.cfgRole)
      else (s.modPwr fun p => { p with cfgBusy := false, cfgResult := 2 }).emit evConfigSaveFail st.toNat) := by
  refine congrArg Host.Outcome.next ((if_neg (by simp [hb, hd])).trans ?_)
  by_cases h : st = 0
  · simp only [if_pos h]
    refine if_neg ?_
    rw [emit_pwr]
    exact ne_true_of_eq_false hq
  · simp only [if_neg h]
    refine if_neg ?_
    rw [emit_pwr]
    exact ne_true_of_eq_false hq

/-! ## Bytes of a register -/

theorem length_toLE (w n : Nat) : (toLE w n).length = w := by
  induction w generalizing n with
  | zero => rfl
  | succ w ih => simp [toLE, ih]

theorem ofLE_toLE (w n : Nat) : ofLE (toLE w n) = n % 256 ^ w := by
  induction w generalizing n with
  | zero => simp [toLE, ofLE, Nat.mod_one]
  | succ w ih =>
    rw [toLE, ofLE, ih, BitVec.toNat_ofNat, show 2 ^ 8 = 256 from rfl, pow_succ', Nat.mod_mul]

theorem bytesAt_whole (l : List Byte) : bytesAt l 0 l.length = l := by
  simp [bytesAt]

/-! ## Reads -/

/-- A register read at its address and size gives all its bytes, once. -/
theorem readBytes_whole {a w : Nat} (h : regAt a = (a, w + 1)) (n : Nat) (s : State) :
    State.readBytes (n + 1) a (w + 1) s = (toLE (w + 1) (s.readReg a).1, (s.readReg a).2) := by
  have done : ∀ b (t : State), State.readBytes n b 0 t = ([], t) := by
    intro b t
    cases n <;> rfl
  have all := bytesAt_whole (toLE (w + 1) (s.readReg a).1)
  rw [length_toLE] at all
  rw [State.readBytes, if_neg (Nat.succ_ne_zero w), h]
  simp only [Nat.add_sub_cancel_left, Nat.min_self, Nat.sub_self, done, all, List.append_nil]

theorem rcRegisterRead_whole {addr : BitVec 24} (h : regAt addr.toNat = (addr.toNat, 4)) (s : State) :
    exec (.rcRegisterRead addr 4) s =
      .next ((s.readReg addr.toNat).2.put (.busRead ((s.readReg addr.toNat).1 % 2 ^ 32))) := by
  have hb := readBytes_whole h 3 s
  have hv := ofLE_toLE 4 (s.readReg addr.toNat).1
  change Host.Outcome.next ((State.readBytes 4 addr.toNat 4 s).2.put
    (.busRead (ofLE (State.readBytes 4 addr.toNat 4 s).1))) = _
  rw [hb, hv]
  norm_num

theorem rcRegisterRead_puts (addr : BitVec 24) (len : Fin 9) (s : State) :
    ∃ t v, exec (.rcRegisterRead addr len) s = .next t ∧ t.ev.out.head? = some (.busRead v) :=
  ⟨_, _, rfl, rfl⟩

theorem readReg_shut {s : State} {a : Nat} (h : s.answers a = false) : s.readReg a = (0, s) := by
  rw [State.readReg, h]
  rfl

theorem readReg_gctlId (s : State) : s.readReg 0 = (gctlId.toNat, s) := by
  have h : s.answers 0 = true := by simp [State.answers]
  rw [State.readReg, h]
  rfl

theorem answers_awake {s : State} (h : s.awake = true) (a : Nat) : s.answers a = true := by
  rw [State.answers, h]
  rfl

theorem readReg_late {s : State} (h : s.awake = true) :
    s.readReg 0x10010 = (s.tfc.lateOut, s.modTfc fun t => { t with lateOut := 0 }) := by
  rw [State.readReg, answers_awake h]
  rfl

/-! ## Writes -/

theorem registerWrite_whole {addr : BitVec 24} {len : Fin 9} (h : regAt addr.toNat = (addr.toNat, len.val))
    (v : BitVec 64) (s : State) : exec (.registerWrite addr len v) s = .next (s.writeReg addr.toNat v.toNat) := by
  have hw : execRegisterWrite addr len v s = .next
      (if addr.toNat = (regAt addr.toNat).1 ∧ len.val = (regAt addr.toNat).2
        then s.writeReg (regAt addr.toNat).1 v.toNat else s) := rfl
  refine hw.trans (congrArg Host.Outcome.next ?_)
  rw [h, if_pos ⟨rfl, rfl⟩]

theorem registerWrite_partial {addr : BitVec 24} {len : Fin 9}
    (h : addr.toNat ≠ (regAt addr.toNat).1 ∨ len.val ≠ (regAt addr.toNat).2) (v : BitVec 64) (s : State) :
    exec (.registerWrite addr len v) s = .next s :=
  congrArg Host.Outcome.next (if_neg fun ⟨ha, hl⟩ => h.elim (· ha) (· hl))

/-- The write of a stored register that answers. -/
theorem writeReg_stored {s : State} {a : Nat} {d : RegDef} (ha : s.answers a = true) (he : a / 65536 ≠ 3)
    (hd : regDef a = some d) (ho : ownRow a = false) (v : Nat) :
    s.writeReg a v = if d.role = 0 then s.storeReg a v else s.asRoleAny d.role fun s => s.storeReg a v := by
  rw [State.writeReg, ha, if_neg (by simp), if_neg he, hd]
  simp only [ho, Bool.false_eq_true, if_false]

theorem writeReg_shut {s : State} {a : Nat} (ha : s.answers a = false) (v : Nat) : s.writeReg a v = s := by
  rw [State.writeReg, ha]
  rfl

theorem registerWrite_stored {addr : BitVec 24} {len : Fin 9} {d : RegDef} {s : State}
    (ha : s.answers addr.toNat = true) (he : addr.toNat / 65536 ≠ 3) (hd : regDef addr.toNat = some d)
    (ho : ownRow addr.toNat = false) (hw : regAt addr.toNat = (addr.toNat, len.val)) (v : BitVec 64) :
    (d.role = 0 → exec (.registerWrite addr len v) s = .next (s.storeReg addr.toNat v.toNat)) ∧
    (d.role ≠ 0 → d.role ≤ s.pcieRole →
      exec (.registerWrite addr len v) s = .next (s.touch.storeReg addr.toNat v.toNat)) ∧
    (d.role ≠ 0 → s.pcieRole < d.role → exec (.registerWrite addr len v) s = .next s) := by
  rw [registerWrite_whole hw, writeReg_stored ha he hd ho]
  refine ⟨fun h => ?_, fun h hr => ?_, fun h hr => ?_⟩
  · rw [if_pos h]
  · rw [if_neg h, State.asRoleAny, if_pos hr]
  · rw [if_neg h, State.asRoleAny, if_neg (by omega)]

/-! ### The watchdog period -/

def wdtDef : RegDef := { addr := rPwrWdt, bytes := 4, mask := 0xFFFF, reset := 100, role := 2 }

theorem regDef_wdt : regDef rPwrWdt = some wdtDef := by decide +kernel

/-- A period out of range reads back as 100. -/
theorem fixReg_wdt {v : Nat} (hv : v < 65536) : fixReg rPwrWdt v = if 10 ≤ v ∧ v ≤ 1000 then v else 100 := by
  have hf : fixReg rPwrWdt v = fixField 0 16 (fun x => decide (x < 10) || decide (1000 < x)) 100 v := rfl
  have hbits : bitsOf v 0 16 = v := by simp [bitsOf, Nat.mod_eq_of_lt hv]
  rw [hf, fixField, setField, hbits]
  by_cases h : 10 ≤ v ∧ v ≤ 1000
  · rw [if_pos h, if_neg (by simp; omega)]
  · rw [if_neg h, if_pos (by simp; omega)]
    simp

theorem storeReg_wdt (s : State) (v : Nat) :
    s.storeReg rPwrWdt v =
      s.setReg rPwrWdt (if 10 ≤ v % 65536 ∧ v % 65536 ≤ 1000 then v % 65536 else 100) := by
  have hm : v &&& wdtDef.mask = v % 65536 := Nat.and_two_pow_sub_one_eq_mod v 16
  rw [State.storeReg, regDef_wdt]
  dsimp only
  rw [hm, fixReg_wdt (Nat.mod_lt _ (by norm_num))]
  rfl

theorem regAt_wdt : regAt rPwrWdt = (rPwrWdt, 4) := by decide +kernel

end Sys2Proof.Machine
end

section
/-! The PCIe link and the event queues (R388). A record never changes which event queues are enabled, nor
anything of the host interface outside them. -/

namespace Sys2Proof.Machine

/-! ## Which event queues are enabled -/

def State.evqOn (s : State) : Vector Bool 8 := s.host.evq.map (·.en)

theorem evqOn_modEvq (s : State) (n : Nat) (f : Evq → Evq) (h : ∀ q, (f q).en = q.en) :
    (s.modHost fun x => x.modEvq n f).evqOn = s.evqOn := by
  simp only [State.evqOn, State.modHost, HostIf.modEvq]
  split
  · ext i hi
    rw [Vector.getElem_map, Vector.getElem_map, Vector.getElem_set]
    split
    next hn => subst hn; exact h _
    · rfl
  · rfl

theorem evqOn_stageEvq (s : State) (n : Nat) (r : Record) : (s.stageEvq n r).evqOn = s.evqOn := by
  unfold State.stageEvq
  dsimp only
  split
  · rfl
  · exact evqOn_modEvq _ _ _ fun _ => rfl

theorem evqOn_stagePnt (s : State) (r : Record) : (s.stagePnt r).evqOn = s.evqOn := by
  unfold State.stagePnt
  split
  · rfl
  · split <;> rfl

theorem evqOn_stageAll (s : State) (r : Record) (n : Nat) : (s.stageAll r n).evqOn = s.evqOn := by
  unfold State.stageAll
  refine foldl_keeps State.evqOn _ (fun s m => ?_) _ s
  split
  · exact evqOn_stageEvq s m r
  · rfl

theorem evqOn_arriveRec (s : State) (r : Record) : (s.arriveRec r).evqOn = s.evqOn := rfl

theorem evqOn_deliverOut (s : State) (r : Record) (n : Nat) : (s.deliverOut r n).evqOn = s.evqOn := by
  rw [State.deliverOut, evqOn_arriveRec, evqOn_stageAll]

theorem evqOn_deliver (s : State) (r : Record) (n : Nat) : (s.deliver r n).evqOn = s.evqOn := by
  unfold State.deliver
  dsimp only
  split
  · rw [evqOn_stagePnt, evqOn_deliverOut]
  · exact evqOn_deliverOut s r n

theorem evqOn_makeRecord (s : State) (code sev : Nat) (link : Bool) (t a b c d : Nat) :
    (s.makeRecord code sev link t a b c d).2.evqOn = s.evqOn := rfl

theorem evqOn_evqLost (s : State) (n : Nat) : (s.evqLost n).evqOn = s.evqOn := by
  unfold State.evqLost
  dsimp only
  split
  · rw [evqOn_deliver]
    exact evqOn_modEvq _ _ _ fun _ => rfl
  · rfl

theorem evqOn_pntGap (s : State) : s.pntGap.evqOn = s.evqOn := by
  unfold State.pntGap
  split
  · dsimp only
    rw [evqOn_deliverOut, evqOn_stagePnt]
    rfl
  · rfl

theorem evqOn_beforeRecord (s : State) (code sev : Nat) : (s.beforeRecord code sev).evqOn = s.evqOn := by
  have lost : ∀ (p : Record) (s : State), ((List.range 8).foldl
      (fun s n => if (s.host.q n).admits p then s.evqLost n else s) s).evqOn = s.evqOn := by
    intro p s
    refine foldl_keeps State.evqOn _ (fun s n => ?_) _ s
    split
    · exact evqOn_evqLost s n
    · rfl
  unfold State.beforeRecord
  dsimp only
  split
  · rw [evqOn_pntGap, lost]
  · rw [lost]

theorem evqOn_recordNow (s : State) (code sev : Nat) (link : Bool) (t a b c d : Nat) :
    (s.recordNow code sev link t a b c d).evqOn = s.evqOn := by
  unfold State.recordNow
  dsimp only
  rw [evqOn_deliver, evqOn_makeRecord, evqOn_beforeRecord]

theorem evqOn_modEv (s : State) (f) : (s.modEv f).evqOn = s.evqOn := rfl

theorem evqOn_refill (s : State) (code : Nat) (link : Bool) : (s.refill code link).evqOn = s.evqOn := by
  unfold State.refill
  dsimp only
  split
  · rfl
  · split
    · rfl
    · rw [evqOn_recordNow, evqOn_modEv]

theorem evqOn_emitLimited (s : State) (code sev : Nat) (link : Bool) (t a b c d : Nat) :
    (s.emitLimited code sev link t a b c d).2.evqOn = s.evqOn := by
  rw [← evqOn_refill s code link, State.emitLimited]
  generalize s.refill code link = u
  by_cases h : (u.ev.bucket code).tokens = 0
  · rw [if_pos h, evqOn_modEv]
  · rw [if_neg h, evqOn_recordNow, evqOn_modEv]

/-- An event enables and disables no event queue. -/
theorem evqOn_emit (s : State) (e : EvDef) (a b c d : Nat) : (s.emit e a b c d).evqOn = s.evqOn := by
  rw [State.emit, State.emitAt]
  generalize hasBucket e.code = limited
  cases limited
  · rw [if_neg Bool.false_ne_true, evqOn_recordNow]
  · rw [if_pos rfl, evqOn_emitLimited]

/-! ## The bus -/

/-- The link, bus mastering and the enabled event queues. -/
def State.bus (s : State) : Bool × Bool × Vector Bool 8 := (s.host.linkUp, s.host.busMaster, s.evqOn)

/-- The host interface but for its event queues. -/
theorem emit_host (s : State) (e : EvDef) (a b c d : Nat) :
    { (s.emit e a b c d).host with evq := HostIf.reset.evq } = { s.host with evq := HostIf.reset.evq } :=
  (congrArg State.host (recordless_emit s e a b c d) :)

theorem emit_linkUp (s : State) (e : EvDef) (a b c d : Nat) : (s.emit e a b c d).host.linkUp = s.host.linkUp :=
  (congrArg HostIf.linkUp (emit_host s e a b c d) :)

theorem emit_busMaster (s : State) (e : EvDef) (a b c d : Nat) :
    (s.emit e a b c d).host.busMaster = s.host.busMaster :=
  (congrArg HostIf.busMaster (emit_host s e a b c d) :)

theorem emit_speed (s : State) (e : EvDef) (a b c d : Nat) : (s.emit e a b c d).host.speed = s.host.speed :=
  (congrArg HostIf.speed (emit_host s e a b c d) :)

theorem emit_width (s : State) (e : EvDef) (a b c d : Nat) : (s.emit e a b c d).host.width = s.host.width :=
  (congrArg HostIf.width (emit_host s e a b c d) :)

theorem linkUp_of_bus {s t : State} (h : t.bus = s.bus) : t.host.linkUp = s.host.linkUp := congrArg (·.1) h
theorem busMaster_of_bus {s t : State} (h : t.bus = s.bus) : t.host.busMaster = s.host.busMaster :=
  congrArg (·.2.1) h
theorem evqOn_of_bus {s t : State} (h : t.bus = s.bus) : t.evqOn = s.evqOn := congrArg (·.2.2) h

theorem bus_emit (s : State) (e : EvDef) (a b c d : Nat) : (s.emit e a b c d).bus = s.bus := by
  rw [State.bus, State.bus, emit_linkUp, emit_busMaster, evqOn_emit]

theorem bus_endChange (s : State) (party : Nat) (dead : Bool) : (s.endChange party dead).bus = s.bus := by
  unfold State.endChange
  refine foldl_keeps State.bus _ (fun s c => ?_) _ s
  dsimp only
  split
  · rw [bus_emit]
    split <;> rfl
  · rfl

theorem bus_freeLocksOf (s : State) (mine : Nat → Bool) (cause : Nat) : (s.freeLocksOf mine cause).bus = s.bus := by
  have forced : ∀ (s : State) (k : Fin 32), (s.forceFree k cause).bus = s.bus := by
    intro s k
    unfold State.forceFree
    dsimp only
    split
    · rfl
    · rw [bus_emit]
      rfl
  unfold State.freeLocksOf
  refine foldl_keeps State.bus _ (fun s k => ?_) _ s
  split
  · exact forced s k
  · rfl

theorem bus_refuse (s : State) (cmd code : Nat) : (s.refuse cmd code).bus = s.bus := by
  unfold State.refuse State.result
  dsimp only
  split
  · rfl
  · rw [bus_emit]
    rfl

/-- The PCIe session owns no staging bank, so its end drops none. -/
theorem closeSession_pcie {s : State} (h : s.sec.pcie.role ≠ 0) (cause : Nat) :
    s.closeSession false cause =
      (s.modChan false fun c => { c with role := 0 }).emit evSessionClosed 0 s.sec.pcie.role
        (if s.roleOf s.sec.pcie = 0 then 1 else cause) :=
  if_neg h

theorem closeSession_none {s : State} (h : s.sec.pcie.role = 0) (cause : Nat) : s.closeSession false cause = s :=
  if_pos h

theorem bus_closeSession (s : State) (cause : Nat) : (s.closeSession false cause).bus = s.bus := by
  by_cases h : s.sec.pcie.role = 0
  · rw [closeSession_none h]
  · rw [closeSession_pcie h, bus_emit]
    rfl

theorem closeSession_role (s : State) (cause : Nat) : (s.closeSession false cause).sec.pcie.role = 0 := by
  by_cases h : s.sec.pcie.role = 0
  · rw [closeSession_none h, h]
  · rw [closeSession_pcie h, emit_sec]
    rfl

/-! ## The PCIe reset and the link's return -/

/-- A PCIe reset ends what the host drives itself. -/
def State.busReset (s : State) : State :=
  s.modHost fun h =>
    { h with evq := h.evq.map fun q => { q with en := false }, putJob := none, getJob := none, busMaster := false }

/-- The host's end of the mailboxes is dead. -/
def State.mailboxesGone (s : State) : State :=
  if s.host.mbxUp then (s.modHost fun h => { h with mbxUp := false }).endChange 2 true else s

/-- A load under way is given up. -/
def State.loadGone (s : State) : State :=
  if s.dsp.busy = 1 then (s.modDsp fun d => { d with busy := 0 }).refuse 1 17 else s

/-- A PCIe reset ends what the host holds in the device, its session last. -/
def State.hostGone (s : State) : State :=
  ((s.mailboxesGone.freeLocksOf (· == 9) 2).loadGone).closeSession false 3

theorem pcieReset_eq (kind : PcieReset) (s : State) :
    exec (.pcieReset kind) s = .next
      (if kind = .linkLoss ∧ s.busReset.hostGone.host.linkUp then
        (s.busReset.hostGone.modHost fun h => { h with linkUp := false }).emit evPcieLink 0 0 0
      else s.busReset.hostGone) := by
  change execPcieReset kind s = _
  unfold execPcieReset State.hostGone State.loadGone State.mailboxesGone State.busReset
  rfl

theorem bus_mailboxesGone (s : State) : s.mailboxesGone.bus = s.bus := by
  unfold State.mailboxesGone
  split
  · rw [bus_endChange]
    rfl
  · rfl

theorem bus_loadGone (s : State) : s.loadGone.bus = s.bus := by
  unfold State.loadGone
  split
  · rw [bus_refuse]
    rfl
  · rfl

theorem bus_hostGone (s : State) : s.hostGone.bus = s.bus := by
  rw [State.hostGone, bus_closeSession, bus_loadGone, bus_freeLocksOf, bus_mailboxesGone]

theorem hostGone_role (s : State) : s.hostGone.sec.pcie.role = 0 := by
  rw [State.hostGone, closeSession_role]

theorem evq_en (s : State) (n : Fin 8) : s.host.evq[n].en = s.evqOn[n] := by simp [State.evqOn]

theorem busReset_evqOn (s : State) (n : Fin 8) : s.busReset.evqOn[n] = false := by
  simp [State.evqOn, State.busReset]

theorem pcieReset_disables (kind : PcieReset) (s : State) :
    ∃ t, exec (.pcieReset kind) s = .next t ∧ t.host.busMaster = false ∧ t.sec.pcie.role = 0 ∧
      (∀ n : Fin 8, t.host.evq[n].en = false) ∧ t.host.linkUp = (s.host.linkUp && kind != .linkLoss) := by
  have role := hostGone_role s.busReset
  have bus := bus_hostGone s.busReset
  have link : s.busReset.hostGone.host.linkUp = s.host.linkUp := linkUp_of_bus (s := s.busReset) bus
  have master : s.busReset.hostGone.host.busMaster = false := busMaster_of_bus (s := s.busReset) bus
  have on : s.busReset.hostGone.evqOn = s.busReset.evqOn := evqOn_of_bus bus
  rw [pcieReset_eq]
  generalize s.busReset.hostGone = u at role link master on ⊢
  by_cases h : kind = .linkLoss ∧ u.host.linkUp
  · refine ⟨_, congrArg Host.Outcome.next (if_pos h), ?_, ?_, fun n => ?_, ?_⟩
    · rw [emit_busMaster]; exact master
    · rw [emit_sec]; exact role
    · rw [evq_en, evqOn_emit]
      exact (congrArg (·[n]) on).trans (busReset_evqOn s n)
    · rw [emit_linkUp, h.1]
      simp
  · refine ⟨_, congrArg Host.Outcome.next (if_neg h), master, role, fun n => ?_, ?_⟩
    · rw [evq_en, on, busReset_evqOn]
    · rw [link] at h ⊢
      cases hl : s.host.linkUp
      · rfl
      · simpa [hl] using h

theorem pcieLinkReturn_up {s : State} (h : s.host.linkUp = true) (speed width : Nat) (m : Bool) :
    exec (.pcieLinkReturn speed width m) s = .next s :=
  congrArg Host.Outcome.next (if_pos h)

theorem pcieLinkReturn_returns {s : State} (h : s.host.linkUp = false) (speed width : Nat) (m : Bool) :
    ∃ t, exec (.pcieLinkReturn speed width m) s = .next t ∧ t.host.linkUp = true ∧ t.host.speed = speed ∧
      t.host.width = width ∧ t.host.busMaster = m ∧ Logged t evPcieLink 1 speed width 0 := by
  refine ⟨_, congrArg Host.Outcome.next (if_neg (by simp [h])), ?_, ?_, ?_, ?_, _, rfl⟩
  · rw [emit_linkUp]; rfl
  · rw [emit_speed]; rfl
  · rw [emit_width]; rfl
  · rw [emit_busMaster]; rfl

end Sys2Proof.Machine
end

section
/-! Resets, boot, flash operations, saves, register accesses and the PCIe link, as O55 states them. -/

namespace Sys2Proof.Machine

theorem resetNLow_wakes {s : State} (h : s.pwr.state = .deep) :
    ∃ t, exec .resetNLow s = .next t ∧ t.pwr.state = .off ∧ t.pwr.last.cause = 2 ∧ t.pwr.wake = some (4, .deep) :=
  have ⟨off, _, cause, _⟩ := resetDevice_pwr s 0 2
  ⟨_, resetNLow_deep h, off, cause, rfl⟩

theorem resetNLow_kind {s : State} (h : s.pwr.state ≠ .deep) (ht : s.tripping = false) :
    ∃ t, exec .resetNLow s = .next t ∧ t.pwr.state = .off ∧ t.pwr.last.kind = 1 ∧ t.pwr.last.cause = 3 ∧
      t.pwr.booted = false ∧ t.tmb.raw = s.tmb.raw :=
  have ⟨off, kind, cause, booted⟩ := resetDevice_pwr s 1 3
  ⟨_, resetNLow_resets h ht, off, kind, cause, booted, resetDevice_raw s one_ne_zero 3⟩

theorem watchdogExpiry_resets {s : State} (hb : s.pwr.booted = true) (ha : s.awake = true)
    (h : s.pwr.servedAt + s.rf rPwrWdt 0 16 * 10 * ms ≤ s.now) :
    ∃ t, exec .watchdogExpiry s = .next t ∧ t.pwr.state = .off ∧ t.pwr.last.kind = 2 ∧ t.pwr.last.cause = 4 :=
  have ⟨off, kind, cause, _⟩ := resetDevice_pwr s 2 4
  ⟨_, (watchdogExpiry_eq s hb ha).trans (congrArg _ (if_pos h)), off, kind, cause⟩

theorem pwrSoft_resets {s : State} (hp : s.powered = true) (hr : 2 ≤ s.pcieRole) :
    ∃ t, exec .pwrSoft s = .next t ∧ t.pwr.state = .off ∧ t.pwr.last.kind = 3 ∧ t.pwr.last.cause = 8 ∧
      t.twin.seatB = s.twin.seatB :=
  have ⟨off, kind, cause, _⟩ := resetDevice_pwr s 3 8
  have ⟨_, _, seat⟩ := resetDevice_lasting s 3 8
  ⟨_, pwrSoft_open hp hr, off, kind, cause, seat⟩

/-- A chosen bank runs with one attempt more. -/
theorem boot_attempts {s : State} {x : BootObs} {b : Nat} (h : ¬ s.bootWaits)
    (hc : (s.pfo.readFlash x).choose x.recoveryN = .inr (b, none)) :
    ∃ t, exec (.boot x) s = .next t ∧ t.pwr.state = .run ∧ t.pwr.booted = true ∧ t.pwr.servedAt = s.now ∧
      t.pfo.running = b ∧ t.pfo.record.attempts = (s.pfo.readFlash x).record.attempts + 1 := by
  obtain ⟨run, booted, served, running, record⟩ := bootSet_runs (s.bootSeen x) x b none
  refine ⟨_, boot_runs h hc, run, booted, served, running, ?_⟩
  exact congrArg BankRec.attempts (record.trans (record_attempt _ b))

/-- A bank reverted to runs with a CONFIRMED record. -/
theorem boot_reverts {s : State} {x : BootObs} {b v : Nat} (h : ¬ s.bootWaits)
    (hc : (s.pfo.readFlash x).choose x.recoveryN = .inr (b, some v)) :
    ∃ t, exec (.boot x) s = .next t ∧ t.pwr.state = .run ∧ t.pwr.booted = true ∧ t.pfo.running = b ∧
      t.pfo.record.bank = b ∧ t.pfo.record.state = 2 ∧ t.pfo.record.attempts = 0 := by
  obtain ⟨run, booted, -, running, record⟩ := bootSet_runs (s.bootSeen x) x b (some v)
  refine ⟨_, boot_runs h hc, run, booted, running, ?_⟩
  rw [record.trans (record_revert _ b)]
  exact ⟨rfl, rfl, rfl⟩

/-- What the write at the head of the queue stores, where it verified. -/
theorem flashOperationDone_stores {s : State} {w : FlashWrite} {rest : List FlashWrite} (hf : s.pwr.flash = w :: rest)
    (hb : s.pwr.flashBegun = true) (st : BitVec 4) :
    ∃ t, exec (.flashOperationDone st) s = .next t ∧ t.pwr.flash = rest ∧
      t.pwr.flashBegun = (!rest.isEmpty && !s.pwr.flashHeld) ∧
      t.gnss = (if st = 0 then (s.flashStored w).gnss else s.gnss) ∧
      t.tfc = (if st = 0 then (s.flashStored w).tfc else s.tfc) := by
  refine ⟨_, flashOperationDone_ends hf hb st, rfl, ?_, apply_ite State.gnss .., apply_ite State.tfc ..⟩
  have pwr : (if st = 0 then s.flashStored w else s).pwr = s.pwr := by
    split
    · exact flashStored_pwr s w
    · rfl
  rw [modPwr_pwr, pwr]

theorem configSaveDone_stores {s : State} (hb : s.pwr.cfgBusy = true) (hd : s.pwr.dip = false)
    (hq : s.pwr.cfgQueued = false) {st : BitVec 4} (h : st = 0) :
    ∃ t, exec (.configSaveDone st) s = .next t ∧ t.pwr.cfgBusy = false ∧ t.pwr.cfgResult = 0 ∧
      t.pwr.saved = (s.savedConfig :: s.pwr.saved).take 2 ∧ Logged t evConfigSaved s.savedFields s.pwr.cfgRole 0 0 := by
  refine ⟨_, (configSaveDone_ends hb hd hq st).trans (congrArg _ (if_pos h)), ?_, ?_, ?_, _, rfl⟩
  all_goals rw [emit_pwr]; rfl

theorem configSaveDone_fails {s : State} (hb : s.pwr.cfgBusy = true) (hd : s.pwr.dip = false)
    (hq : s.pwr.cfgQueued = false) {st : BitVec 4} (h : st ≠ 0) :
    ∃ t, exec (.configSaveDone st) s = .next t ∧ t.pwr.cfgBusy = false ∧ t.pwr.cfgResult = 2 ∧
      t.pwr.saved = s.pwr.saved ∧ Logged t evConfigSaveFail st.toNat 0 0 0 := by
  refine ⟨_, (configSaveDone_ends hb hd hq st).trans (congrArg _ (if_neg h)), ?_, ?_, ?_, _, rfl⟩
  all_goals rw [emit_pwr]; rfl

/-! ### Single registers -/

theorem registerWrite_wdt (v : BitVec 64) (s : State) :
    (s.pcieRole < 2 → exec (.registerWrite 0x130010 4 v) s = .next s) ∧
    (2 ≤ s.pcieRole → exec (.registerWrite 0x130010 4 v) s = .next (s.touch.setReg rPwrWdt
      (if 10 ≤ v.toNat % 65536 ∧ v.toNat % 65536 ≤ 1000 then v.toNat % 65536 else 100))) := by
  have answers : s.answers rPwrWdt = true := by simp [State.answers, rPwrWdt]
  obtain ⟨-, opened, shut⟩ := registerWrite_stored (addr := 0x130010) (len := 4) (d := wdtDef) answers
    (by decide) regDef_wdt (by decide) regAt_wdt v
  refine ⟨shut two_ne_zero, fun h => ?_⟩
  rw [← storeReg_wdt]
  exact opened two_ne_zero h

theorem regAt_palIdx : regAt 0xC0010 = (0xC0010, 4) := by decide +kernel

theorem registerWrite_palIdx_awake (v : BitVec 64) {s : State} (h : s.awake = true) :
    exec (.registerWrite 0xC0010 4 v) s =
      .next (s.modPalette fun p => { p with idx := fieldOf (lo32 v.toNat) 0 6 }) := by
  have unstored : regDef 0xC0010 = none := by decide +kernel
  refine (registerWrite_whole (addr := 0xC0010) (len := 4) regAt_palIdx v s).trans (congrArg _ ?_)
  change s.writeReg 0xC0010 v.toNat = _
  rw [State.writeReg, answers_awake h, unstored]
  rfl

theorem registerWrite_palIdx_asleep (v : BitVec 64) {s : State} (h : s.awake = false) :
    exec (.registerWrite 0xC0010 4 v) s = .next s := by
  have shut : s.answers 0xC0010 = false := by simp [State.answers, h]
  exact (registerWrite_whole (addr := 0xC0010) (len := 4) regAt_palIdx v s).trans (congrArg _ (writeReg_shut shut _))

theorem rcRegisterRead_gctlId (s : State) : exec (.rcRegisterRead 0 4) s = .next (s.put (.busRead gctlId.toNat)) := by
  refine (rcRegisterRead_whole (addr := 0) (by decide +kernel) s).trans ?_
  change Host.Outcome.next ((s.readReg 0).2.put (.busRead ((s.readReg 0).1 % 2 ^ 32))) = _
  rw [readReg_gctlId, Nat.mod_eq_of_lt gctlId.isLt]

theorem regAt_late : regAt 0x10010 = (0x10010, 4) := by decide +kernel

theorem rcRegisterRead_late_asleep {s : State} (h : s.awake = false) :
    exec (.rcRegisterRead 0x10010 4) s = .next (s.put (.busRead 0)) := by
  have shut : s.answers 0x10010 = false := by simp [State.answers, h]
  refine (rcRegisterRead_whole (addr := 0x10010) regAt_late s).trans ?_
  change Host.Outcome.next ((s.readReg 0x10010).2.put (.busRead ((s.readReg 0x10010).1 % 2 ^ 32))) = _
  rw [readReg_shut shut, Nat.zero_mod]

theorem rcRegisterRead_late_awake {s : State} (h : s.awake = true) (hl : s.tfc.lateOut < 2 ^ 32) :
    exec (.rcRegisterRead 0x10010 4) s =
      .next ((s.modTfc fun t => { t with lateOut := 0 }).put (.busRead s.tfc.lateOut)) := by
  refine (rcRegisterRead_whole (addr := 0x10010) regAt_late s).trans ?_
  change Host.Outcome.next ((s.readReg 0x10010).2.put (.busRead ((s.readReg 0x10010).1 % 2 ^ 32))) = _
  rw [readReg_late h, Nat.mod_eq_of_lt hl]

/-- Settles O55, command by command: a reset by what `resetDevice` leaves, a boot by the bank the ROM chooses, an
access by the register at its address, and the PCIe reset by what no record touches. -/
theorem resetsBootAndRegisters : Obligations.ResetsBootAndRegisters := by
  refine ⟨fun s => ⟨cmp1Trip_resets s, resetNLow_wakes, resetNLow_tripping, resetNLow_kind, fun hb ha => ?_,
      pwrSoft_resets, pwrSoft_shut, watchdog_asleep, ci1PowerRegained_resets s⟩,
    fun x s => ⟨fun h => boot_waits h x, fun off recovered ref stg time => ?_⟩,
    fun st rest s hb => ⟨fun x y z hf => ?_, fun h l hf => ?_⟩,
    fun st l rest s => ⟨fun hf hb => ?_, fun h => flashOperationDone_idle h st⟩,
    fun s => ⟨configSave_shut, fun h => ⟨configSave_begins h, configSave_queues h⟩, fun st =>
      ⟨fun h => configSaveDone_idle h st, fun hb hd hq =>
        ⟨configSaveDone_stores hb hd hq, configSaveDone_fails hb hd hq⟩⟩⟩,
    fun addr len v d s ha he hd ho hw => registerWrite_stored ha he hd ho hw v,
    rcRegisterRead_puts,
    fun addr len v s => ⟨fun h => registerWrite_partial h v s, (registerWrite_wdt v s).1, (registerWrite_wdt v s).2,
      registerWrite_palIdx_awake v, registerWrite_palIdx_asleep v, rcRegisterRead_gctlId s, rcRegisterRead_late_asleep,
      rcRegisterRead_late_awake⟩,
    fun kind s => ⟨pcieReset_disables kind s, fun speed width m =>
      ⟨fun h => pcieLinkReturn_up h speed width m, fun h => pcieLinkReturn_returns h speed width m⟩⟩⟩
  · exact ⟨watchdogExpiry_resets hb ha,
      fun h => (watchdogExpiry_eq s hb ha).trans (congrArg _ (if_neg (Nat.not_le.mpr h))),
      fun h => (watchdogService_eq s hb ha).trans (congrArg _ (if_pos h)),
      fun h => (watchdogService_eq s hb ha).trans (congrArg _ (if_neg (by simp [h])))⟩
  · have ready := not_bootWaits off recovered ref stg time
    refine ⟨fun h => ?_, fun b => boot_attempts ready, fun b v => boot_reverts ready, fun c hc => ?_⟩
    · obtain ⟨t, ht, state, recovery, -, cause⟩ := boot_recovers ready (x := x) (by rw [h, choose_recoveryN])
      exact ⟨t, ht, state.trans off, recovery, cause⟩
    · obtain ⟨t, ht, -, recovery, booted, cause⟩ := boot_recovers ready hc
      exact ⟨t, ht, recovery, booted, cause⟩
  · obtain ⟨t, ht, flash, -, gnss, -⟩ := flashOperationDone_stores hf hb st
    exact ⟨t, ht, flash, gnss⟩
  · obtain ⟨t, ht, flash, -, -, tfc⟩ := flashOperationDone_stores hf hb st
    exact ⟨t, ht, flash, tfc⟩
  · obtain ⟨t, ht, flash, begun, gnss, -⟩ := flashOperationDone_stores hf hb st
    exact ⟨t, ht, flash, begun, gnss⟩

end Sys2Proof.Machine
end

section
/-! Stops: what raising one does to the fleet's words. A stop's grants, strokes, zones, records and burst leave them
as they are (R19 to R27, R283). -/

namespace Sys2Proof.Machine

@[simp] theorem logInput_fleet (s : State) (x : LogEntry) : (s.logInput x).fleet = s.fleet := by
  unfold State.logInput
  split <;> rfl

/-! ## What a stop does outside the fleet's words -/

@[simp] theorem voidGrants_fleet (s : State) (mine : Nat → Bool) (seq : Nat) :
    (s.voidGrants mine seq).fleet = s.fleet := by
  refine foldl_keeps State.fleet _ (fun s g => ?_) _ _
  split
  · rw [emit_fleet]
  · rfl

@[simp] theorem stopDrive_fleet (q : Nat) (s : State) (d : Fin 8) : (s.stopDrive q d).fleet = s.fleet := by
  unfold State.stopDrive
  dsimp only
  split <;> rfl

@[simp] theorem clearErrors_fleet (s : State) (x : Stop) : (s.clearErrors x).fleet = s.fleet := rfl

@[simp] theorem persistCheck_fleet (s : State) (l c i : Nat) : (s.persistCheck l c i).fleet = s.fleet := by
  unfold State.persistCheck
  split
  · rfl
  · rw [emit_fleet, modCanvas_fleet]

@[simp] theorem blockZone_fleet (s : State) (x : Stop) : (s.blockZone x).fleet = s.fleet :=
  persistCheck_fleet _ _ _ _

/-- A stop's effects add it to the active stops, and its sequence number becomes the last one. -/
theorem stopEffects_fleet (s : State) (x : Stop) :
    (s.stopEffects x).fleet =
      { s.fleet with stops := s.fleet.stops ++ [x], lastSeq := x.seq, framesSent := s.fleet.framesSent + 1 } := by
  unfold State.stopEffects
  dsimp only
  split
  · rw [foldl_keeps State.fleet _ (stopDrive_fleet x.seq)]
    simp
  · simp
  · simp

/-! ## The burst of a stop -/

@[simp] theorem endBurst_fleet (s : State) : s.endBurst.fleet = s.fleet := by
  unfold State.endBurst
  split
  · rfl
  · split
    · rfl
    · rw [emit_fleet, modAir_fleet]

@[simp] theorem abortFrames_fleet (s : State) (t : Nat) : (s.abortFrames t).fleet = s.fleet := rfl

@[simp] theorem beginBurst_fleet (s : State) (b : Burst) : (s.beginBurst b).fleet = s.fleet := by
  unfold State.beginBurst
  split
  next _ u heq =>
  rw [put_fleet, modAir_fleet, abortFrames_fleet]
  split at heq
  · cases heq
    exact emit_fleet ..
  · cases heq
    rfl

@[simp] theorem startBurst_fleet (s : State) (b : Burst) (hard placed : Bool) :
    (s.startBurst b hard placed).fleet = s.fleet := by
  simp only [State.startBurst, apply_ite State.fleet, beginBurst_fleet, modAir_fleet, endBurst_fleet, ite_self]

/-! ## Raising -/

/-- Only an active FLEET stop subsumes a FLEET stop (Table 1-5). -/
theorem subsumes_fleet (f : Fleet) {x : Stop} (h : x.kind = .fleet) : f.subsumes x = f.fleetActive := by
  simp [Fleet.subsumes, h]

/-- The FLEET stop that a source raises next. -/
def State.nextFleetStop (s : State) (source : Nat) : Stop :=
  { kind := .fleet, seq := nextSeq s.fleet.lastSeq, source := source, index := 0, squares := [],
    robots := s.canvas.holders [], standstill := false }

theorem raiseStop_subsumed {s : State} (h : s.fleet.fleetActive = true) (source : Nat) :
    (s.raiseStop .fleet source 0 []).2.2.fleet = { s.fleet with lastSource := source } := by
  have active : (s.modFleet fun f => { f with lastSource := source }).fleet.subsumes (s.nextFleetStop source) = true :=
    (subsumes_fleet _ rfl).trans h
  refine (congrArg (fun x : Bool × Nat × State => x.2.2.fleet) (if_pos active)).trans ?_
  rw [emit_fleet, logInput_fleet, modFleet_fleet]

theorem raiseStop_joins {s : State} (h : s.fleet.fleetActive = false) (source : Nat) :
    (s.raiseStop .fleet source 0 []).2.2.fleet =
      { s.fleet with
        lastSource := source
        stops := s.fleet.stops ++ [s.nextFleetStop source]
        lastSeq := nextSeq s.fleet.lastSeq
        framesSent := s.fleet.framesSent + 1 } := by
  have alone :
      ¬ (s.modFleet fun f => { f with lastSource := source }).fleet.subsumes (s.nextFleetStop source) = true :=
    ne_true_of_eq_false ((subsumes_fleet _ rfl).trans h)
  refine (congrArg (fun x : Bool × Nat × State => x.2.2.fleet) (if_neg alone)).trans ?_
  rw [apply_ite State.fleet, put_fleet, ite_self, startBurst_fleet]
  dsimp only
  rw [stopEffects_fleet, emit_fleet, logInput_fleet, modFleet_fleet]
  rfl

/-- A raised FLEET stop joins the active stops, unless one of its kind is active (R25, R26). -/
theorem raiseStop_raises (s : State) (source : Nat) : RaisedFleet s (s.raiseStop .fleet source 0 []).2.2 source := by
  cases h : s.fleet.fleetActive
  · rw [RaisedFleet, raiseStop_joins h, h]
    exact ⟨rfl, nofun, fun _ => ⟨s.nextFleetStop source, rfl, rfl, rfl, rfl, rfl⟩⟩
  · rw [RaisedFleet, raiseStop_subsumed h, h]
    exact ⟨rfl, fun _ => ⟨rfl, rfl⟩, nofun⟩

theorem raiseStop_input (s : State) (source : Nat) (b : Bool) :
    (s.raiseStop .fleet source 0 []).2.2.fleet.input b = s.fleet.input b := by
  cases h : s.fleet.fleetActive
  · rw [raiseStop_joins h]
    rfl
  · rw [raiseStop_subsumed h]
    rfl

/-! ## A stop of the unit's own source -/

/-- A hard-wired source in SLEEP asks for the device to wake (R505). -/
def State.wokenBy (s : State) (source : Nat) : State :=
  if s.pwr.state = .sleep ∧ source ≤ 2 then s.modPwr fun p => { p with wake := some (1, p.prior) } else s

@[simp] theorem wokenBy_fleet (s : State) (source : Nat) : (s.wokenBy source).fleet = s.fleet := by
  unfold State.wokenBy
  split <;> rfl

@[simp] theorem wokenBy_twin (s : State) (source : Nat) : (s.wokenBy source).twin = s.twin := by
  unfold State.wokenBy
  split <;> rfl

@[simp] theorem wokenBy_ev (s : State) (source : Nat) : (s.wokenBy source).ev = s.ev := by
  unfold State.wokenBy
  split <;> rfl

theorem wokenBy_follows (s : State) (source : Nat) : (s.wokenBy source).follows = s.follows := by
  simp [State.follows, State.standby]

/-- Where this unit sequences its stops it raises one. -/
theorem raiseOwn_sequenced {s : State} (h : s.follows = false) (source : Nat) :
    s.raiseOwn source = ((s.wokenBy source).raiseStop .fleet source 0 []).2.2 :=
  if_neg (ne_true_of_eq_false ((wokenBy_follows s source).trans h))

/-- Where the partner sequences them the stop is relayed, or only recorded (R424). -/
theorem raiseOwn_relayed {s : State} (h : s.follows = true) (source : Nat) :
    s.raiseOwn source = if s.twin.link = 0 then (s.wokenBy source).emit evStopRaised 0 0 source 0
      else (s.wokenBy source).put (.twin (.stop { bootStop with source := source } false none)) := by
  rw [← wokenBy_twin s source]
  exact if_pos ((wokenBy_follows s source).trans h)

theorem raiseOwn_raises {s : State} (h : s.follows = false) (source : Nat) :
    RaisedFleet s (s.raiseOwn source) source := by
  have raised := raiseStop_raises (s.wokenBy source) source
  rwa [RaisedFleet, wokenBy_fleet, ← raiseOwn_sequenced h] at raised

theorem raiseOwn_relays {s : State} (h : s.follows = true) (source : Nat) :
    RelayedFleet s (s.raiseOwn source) source := by
  rw [RelayedFleet, raiseOwn_relayed h]
  by_cases hl : s.twin.link = 0
  · rw [if_pos hl, if_pos hl, emit_fleet, wokenBy_fleet]
    exact ⟨rfl, _, rfl⟩
  · rw [if_neg hl, if_neg hl, put_out, put_fleet, wokenBy_fleet, wokenBy_ev]
    exact ⟨rfl, rfl⟩

/-- A stop leaves the level of the stop inputs. -/
theorem raiseOwn_input (s : State) (source : Nat) (b : Bool) :
    (s.raiseOwn source).fleet.input b = s.fleet.input b := by
  cases h : s.follows
  · rw [raiseOwn_sequenced h, raiseStop_input, wokenBy_fleet]
  · rw [raiseOwn_relayed h]
    split <;> simp

end Sys2Proof.Machine
end

section
/-! The stop inputs, the stop word and the comparison of the inputs, as O1 states them. -/

namespace Sys2Proof.Machine

/-! ## The level of the inputs -/

@[simp] theorem setInput_stops (f : Fleet) (b high : Bool) (now : Nat) : (f.setInput b high now).stops = f.stops := by
  cases b <;> rfl

@[simp] theorem setInput_lastSeq (f : Fleet) (b high : Bool) (now : Nat) :
    (f.setInput b high now).lastSeq = f.lastSeq := by
  cases b <;> rfl

@[simp] theorem setInput_input (f : Fleet) (b high : Bool) (now : Nat) : (f.setInput b high now).input b = high := by
  cases b <;> rfl

@[simp] theorem setInput_input_other (f : Fleet) (b high : Bool) (now : Nat) :
    (f.setInput b high now).input (!b) = f.input (!b) := by
  cases b <;> rfl

/-! ## Raising and relaying look at the stops, the partner and the trace alone -/

theorem RaisedFleet.of_stops {s u t : State} {source : Nat} (h : RaisedFleet u t source)
    (stops : u.fleet.stops = s.fleet.stops) (last : u.fleet.lastSeq = s.fleet.lastSeq) : RaisedFleet s t source := by
  rwa [RaisedFleet, Fleet.fleetActive, stops, last] at h

theorem RelayedFleet.of_stops {s u t : State} {source : Nat} (h : RelayedFleet u t source)
    (stops : u.fleet.stops = s.fleet.stops) (twin : u.twin = s.twin) (ev : u.ev = s.ev) : RelayedFleet s t source := by
  rwa [RelayedFleet, stops, twin, ev] at h

/-! ## The fall of an input -/

/-- CMP2 latches a fall in DEEP, while DEEP is entered, and while CI2 of a booted device is halted (R23, R507,
Table 18-12). -/
def State.fallLatches (s : State) : Bool :=
  s.pwr.state == .deep || s.pwr.toDeep || (s.pwr.booted && !s.tmb.running)

/-- The fall shows in the level, and CMP2 latches it. -/
def State.fallSeen (s : State) (b : Bool) : State :=
  if s.fallLatches then (s.modFleet fun f => f.setInput b false s.now).modPwr fun p => { p with cmp2 := true }
  else s.modFleet fun f => f.setInput b false s.now

@[simp] theorem fallSeen_fleet (s : State) (b : Bool) : (s.fallSeen b).fleet = s.fleet.setInput b false s.now := by
  unfold State.fallSeen
  split <;> rfl

@[simp] theorem fallSeen_tmb (s : State) (b : Bool) : (s.fallSeen b).tmb = s.tmb := by
  unfold State.fallSeen
  split <;> rfl

@[simp] theorem fallSeen_twin (s : State) (b : Bool) : (s.fallSeen b).twin = s.twin := by
  unfold State.fallSeen
  split <;> rfl

@[simp] theorem fallSeen_ev (s : State) (b : Bool) : (s.fallSeen b).ev = s.ev := by
  unfold State.fallSeen
  split <;> rfl

@[simp] theorem fallSeen_pwrState (s : State) (b : Bool) : (s.fallSeen b).pwr.state = s.pwr.state := by
  unfold State.fallSeen
  split <;> rfl

theorem fallSeen_follows (s : State) (b : Bool) : (s.fallSeen b).follows = s.follows := by
  simp [State.follows, State.standby]

theorem fallSeen_cmp2 (s : State) (b : Bool) : (s.fallSeen b).pwr.cmp2 = (s.pwr.cmp2 || s.fallLatches) := by
  unfold State.fallSeen
  cases s.fallLatches
  · exact (Bool.or_false _).symm
  · exact (Bool.or_true _).symm

theorem stopInputFall_low {b : Bool} {s : State} (h : s.fleet.input b = false) :
    exec (.stopInputFall b) s = .next s :=
  congrArg Host.Outcome.next (if_pos (by simp [h]))

theorem stopInputFall_eq {b : Bool} {s : State} (h : s.fleet.input b = true) :
    exec (.stopInputFall b) s = .next
      (if (s.fallSeen b).pwr.state = .deep then s.fallSeen b
        else if (s.fallSeen b).pwr.state = .off ∨ !(s.fallSeen b).tmb.running then s.fallSeen b
        else (s.fallSeen b).raiseOwn 0) :=
  congrArg Host.Outcome.next (if_neg (by simp [h]))

/-- No stop comes of a fall in DEEP, in a reset or without the reference. -/
theorem stopInputFall_silent {b : Bool} {s : State} (hi : s.fleet.input b = true)
    (h : s.pwr.state = .deep ∨ s.pwr.state = .off ∨ s.tmb.running = false) :
    exec (.stopInputFall b) s = .next (s.fallSeen b) := by
  rw [stopInputFall_eq hi, fallSeen_pwrState, fallSeen_tmb]
  by_cases hd : s.pwr.state = .deep
  · rw [if_pos hd]
  · rw [if_neg hd, if_pos (by simpa [hd] using h)]

theorem stopInputFall_stops {b : Bool} {s : State} (hi : s.fleet.input b = true) (hd : s.pwr.state ≠ .deep)
    (ho : s.pwr.state ≠ .off) (hr : s.tmb.running = true) :
    exec (.stopInputFall b) s = .next ((s.fallSeen b).raiseOwn 0) := by
  rw [stopInputFall_eq hi, fallSeen_pwrState, fallSeen_tmb, if_neg hd, if_neg (by simp [ho, hr])]

theorem fallStop_input (s : State) (b : Bool) : ((s.fallSeen b).raiseOwn 0).fleet.input b = false := by
  rw [raiseOwn_input, fallSeen_fleet, setInput_input]

theorem fallStop_raises {s : State} (h : s.follows = false) (b : Bool) :
    RaisedFleet s ((s.fallSeen b).raiseOwn 0) 0 :=
  (raiseOwn_raises ((fallSeen_follows s b).trans h) 0).of_stops (by simp) (by simp)

theorem fallStop_relays {s : State} (h : s.follows = true) (b : Bool) :
    RelayedFleet s ((s.fallSeen b).raiseOwn 0) 0 :=
  (raiseOwn_relays ((fallSeen_follows s b).trans h) 0).of_stops (by simp) (fallSeen_twin s b) (fallSeen_ev s b)

/-! ## The rise of an input -/

theorem stopInputRise_high {b : Bool} {s : State} (h : s.fleet.input b = true) : exec (.stopInputRise b) s = .next s :=
  congrArg Host.Outcome.next (if_pos h)

theorem stopInputRise_low {b : Bool} {s : State} (h : s.fleet.input b = false) :
    exec (.stopInputRise b) s = .next (s.modFleet fun f => f.setInput b true s.now) :=
  congrArg Host.Outcome.next (if_neg (ne_true_of_eq_false h))

/-! ## The stop word -/

theorem fleetStopWrite_taken {dp : Bool} {w : Word} {s : State} (hw : flagOf w 0 = true)
    (hd : dp = true → s.dpUp = true) :
    exec (.fleetStopWrite dp w) s = .next (s.raiseOwn (if dp then 2 else 1)) := by
  refine congrArg Host.Outcome.next (if_pos ?_)
  cases dp
  · simp [hw]
  · simp [hw, hd]

theorem fleetStopWrite_ignored {dp : Bool} {w : Word} {s : State}
    (h : flagOf w 0 = false ∨ (dp = true ∧ s.dpUp = false)) : exec (.fleetStopWrite dp w) s = .next s := by
  refine congrArg Host.Outcome.next (if_neg ?_)
  rcases h with h | ⟨hd, hu⟩
  · simp [h]
  · simp [hd, hu]

/-! ## The comparison of the inputs -/

theorem stopInputDiscrepancy_eq {s : State} {t0 : Nat} (ht : s.fleet.differSince = some t0)
    (hd : s.fleet.discrepancy = false) :
    exec .stopInputDiscrepancy s = .next
      (if t0 + s.fleet.discTime * 10 * ms < s.now then
        (s.modFleet fun f => { f with discrepancy := true }).emit evStopInputDiscrepancy (bit s.fleet.inputA)
          ((s.now - t0) / ms)
      else s) := by
  change execStopInputDiscrepancy s = _
  simp [execStopInputDiscrepancy, ht, hd]

theorem inputsHigh_eq {s : State} {t0 : Nat} (h : s.fleet.highSince = some t0) :
    s.inputsHigh = s.past t0 (100 * ms) := by
  rw [State.inputsHigh, h]

theorem discrepancyClear_eq {s : State} {t0 : Nat} (hd : s.fleet.discrepancy = true)
    (ht : s.fleet.highSince = some t0) :
    exec .discrepancyClear s = .next (if t0 + 100 * ms ≤ s.now then
      s.modFleet fun f => { f with discrepancy := false } else s) := by
  refine congrArg Host.Outcome.next (if_congr ?_ rfl rfl)
  rw [hd, Bool.true_and, inputsHigh_eq ht, past_iff]

/-- Settles O1: each source of the unit's own comes to `raiseOwn`, which raises the stop or relays it. -/
theorem stopSourcesRaiseFleetStops : Obligations.StopSourcesRaiseFleetStops := by
  refine ⟨fun b s hi => ⟨fun hd ho hr => ⟨fun hf => ?_, fun hf _ => ?_⟩, fun h => ?_⟩,
    fun b s => stopInputFall_low,
    fun dp w s hw hd => ⟨fun hf => ?_, fun hf _ => ?_⟩,
    fun dp w s => fleetStopWrite_ignored,
    fun b s hi => ?_,
    fun b s => stopInputRise_high,
    fun t0 s ht hd => ⟨fun h => ?_, fun h => ?_⟩,
    fun t0 s => discrepancyClear_eq⟩
  · exact ⟨_, stopInputFall_stops hi hd ho hr, fallStop_input s b, fallStop_raises hf b⟩
  · exact ⟨_, stopInputFall_stops hi hd ho hr, fallStop_input s b, fallStop_relays hf b⟩
  · refine ⟨_, stopInputFall_silent hi h, by simp, by simp, ?_⟩
    rw [fallSeen_cmp2, State.fallLatches, Bool.or_assoc, Bool.or_assoc, Bool.or_assoc]
  · exact ⟨_, fleetStopWrite_taken hw hd, raiseOwn_raises hf _⟩
  · exact ⟨_, fleetStopWrite_taken hw hd, raiseOwn_relays hf _⟩
  · exact ⟨_, stopInputRise_low hi, by simp, by simp, by simp, rfl⟩
  · refine ⟨_, (stopInputDiscrepancy_eq ht hd).trans (congrArg _ (if_pos h)), ?_, ?_, _, rfl⟩
    all_goals rw [emit_fleet]; rfl
  · exact (stopInputDiscrepancy_eq ht hd).trans (congrArg _ (if_neg (Nat.not_lt.mpr h)))

end Sys2Proof.Machine
end

section
/-! The release of a stop and the fleet incarnation, as O2 states them. -/

namespace Sys2Proof.Machine

/-! ## The codes of Table 1-9 -/

/-- What codes 3 to 7 ask of an active stop, the lowest first (Table 1-9). -/
theorem releaseCode_found {s : State} {x : Stop} {q : Nat} (h : s.fleet.stops.find? (·.seq == q) = some x) :
    s.releaseCode q =
      if x.kind = .fleet ∧ !s.inputsHigh then 3
      else if x.kind = .fleet ∧ x.source = 5 ∧ s.tfc.sinceLate < 1000 then 4
      else if x.kind = .fleet ∧ s.fleet.discrepancy then 5
      else if s.twin.state ≠ .solo ∧ s.twin.state ≠ .active then 6
      else if x.kind ≠ .fleet ∧ (s.fleet.fleetActive ∨ (x.kind = .robot ∧ x.source = 4 ∧ !x.standstill)) then 7
      else 0 := by
  rw [State.releaseCode, h]

theorem releaseCode_unknown {s : State} {q : Nat} (h : s.fleet.stops.find? (·.seq == q) = none) :
    s.releaseCode q = 2 := by
  rw [State.releaseCode, h]

theorem ite_code_eq_zero {p : Prop} [Decidable p] {n k : Nat} : (if p then n + 1 else k) = 0 ↔ ¬ p ∧ k = 0 := by
  split_ifs with h <;> simp [h]

/-- No code fails exactly where Table 1-6 allows the release: codes 3 to 5 are of a FLEET stop alone, 7 of the
others. -/
theorem releaseCode_eq_zero_iff {s : State} {x : Stop} {q : Nat} (hx : s.fleet.stops.find? (·.seq == q) = some x) :
    s.releaseCode q = 0 ↔ MayRelease s x := by
  rw [releaseCode_found hx, MayRelease]
  iterate 5 rw [ite_code_eq_zero]
  by_cases hk : x.kind = .fleet
  · grind
  · grind

/-- A code that fails for an active stop is 3 or more. -/
theorem three_le_releaseCode {s : State} {x : Stop} {q : Nat} (hx : s.fleet.stops.find? (·.seq == q) = some x)
    (h : s.releaseCode q ≠ 0) : 3 ≤ s.releaseCode q := by
  rw [releaseCode_found hx] at h ⊢
  split_ifs at h ⊢ <;> omega

/-! ## The release -/

theorem canvasEcc_fleet (s : State) (w : Nat) : (s.canvasEcc w).fleet = s.fleet := by
  rw [State.canvasEcc, emit_fleet, modCanvas_fleet, logInput_fleet]

@[simp] theorem eccWhere_fleet (s : State) (bad : List (BitVec 21)) (p : Nat → Bool) :
    (s.eccWhere bad p).fleet = s.fleet :=
  foldl_keeps State.fleet _ canvasEcc_fleet _ s

@[simp] theorem logInput_dsp (s : State) (x : LogEntry) : (s.logInput x).dsp = s.dsp := by
  unfold State.logInput
  split <;> rfl

/-- A stop that is over is no longer among the active stops. -/
def State.stopOver (s : State) (x : Stop) (role : Nat) : State :=
  (s.modFleet fun f => { f with stops := f.stops.filter (·.seq != x.seq) }).emit evStopReleased x.kind.code x.seq role

@[simp] theorem stopOver_fleet (s : State) (x : Stop) (role : Nat) :
    (s.stopOver x role).fleet = { s.fleet with stops := s.fleet.stops.filter (·.seq != x.seq) } :=
  emit_fleet ..

theorem quiet_mode (d : Dsp) : d.quiet.mode = d.mode := rfl

/-- An event leaves the dispatcher's mode. -/
theorem emit_mode (s : State) (e : EvDef) (a b c d : Nat) : (s.emit e a b c d).dsp.mode = s.dsp.mode := by
  rw [← quiet_mode, emit_dsp, quiet_mode]

theorem stopOver_mode (s : State) (x : Stop) (role : Nat) : (s.stopOver x role).dsp.mode = s.dsp.mode := by
  rw [State.stopOver, emit_mode, modFleet_dsp]

/-- The squares of a ZONE stop that is over are freed. -/
def State.zoneFreed (s : State) (x : Stop) : State :=
  if x.kind = .zone then s.modCanvas fun c => c.unblockZone x.seq else s

/-- A Cartoon in test mode ends with the FLEET release (R158). -/
def State.testEnded (s : State) (x : Stop) (role : Nat) : State :=
  if x.kind = .fleet ∧ s.dsp.mode = .test then
    s.modDsp fun d => { d with mode := .stopping, stopRole := role, stopCmd := 0, stopEpoch := s.epoch.n }
  else s

theorem endStop_eq (s : State) (x : Stop) (role : Nat) :
    s.endStop x role = ((s.stopOver x role).zoneFreed x).testEnded x role := rfl

@[simp] theorem zoneFreed_fleet (s : State) (x : Stop) : (s.zoneFreed x).fleet = s.fleet := by
  unfold State.zoneFreed
  split <;> rfl

@[simp] theorem testEnded_fleet (s : State) (x : Stop) (role : Nat) : (s.testEnded x role).fleet = s.fleet := by
  unfold State.testEnded
  split <;> rfl

/-- Outside test mode the end of a stop that is no ZONE stop is its record alone. -/
theorem endStop_recorded {s : State} {x : Stop} (hk : x.kind ≠ .zone) (hm : s.dsp.mode ≠ .test) (role : Nat) :
    s.endStop x role = s.stopOver x role := by
  have whole : (s.stopOver x role).zoneFreed x = s.stopOver x role := if_neg hk
  rw [endStop_eq, whole]
  exact if_neg fun h => hm ((stopOver_mode s x role).symm.trans h.2)

/-- A release as it is sent to the partner and shown in REL_RESULT (R31, R32). -/
def State.releaseSent (s : State) (x : Stop) (role : Nat) : State :=
  let u := s.logInput (.release x.seq role s.canvas.place)
  let v := if u.twin.state = .active then u.put (.twin (.release x.seq role)) else u
  v.modFleet fun f => { f with relResult := 0 }

theorem releaseStop_eq (s : State) (x : Stop) (role : Nat) :
    s.releaseStop x role = (s.releaseSent x role).endStop x role := rfl

@[simp] theorem releaseSent_fleet (s : State) (x : Stop) (role : Nat) :
    (s.releaseSent x role).fleet = { s.fleet with relResult := 0 } := by
  rw [State.releaseSent, modFleet_fleet, apply_ite State.fleet, put_fleet, ite_self, logInput_fleet]

theorem releaseSent_mode (s : State) (x : Stop) (role : Nat) : (s.releaseSent x role).dsp.mode = s.dsp.mode := by
  rw [State.releaseSent, modFleet_dsp, apply_ite State.dsp, put_dsp, ite_self, logInput_dsp]

theorem releaseStop_fleet (s : State) (x : Stop) (role : Nat) :
    (s.releaseStop x role).fleet =
      { s.fleet with
        stops := s.fleet.stops.filter (·.seq != x.seq)
        relResult := 0 } := by
  rw [releaseStop_eq, endStop_eq, testEnded_fleet, zoneFreed_fleet, stopOver_fleet, releaseSent_fleet]

/-! ## A release is judged -/

/-- A release is refused with a code (R29). -/
def State.refuseRelease (s : State) (q code role : Nat) : State :=
  (s.modFleet fun f => { f with relResult := code }).emit evStopReleaseRefused q code role

theorem refuseRelease_fleet (s : State) (q code role : Nat) :
    (s.refuseRelease q code role).fleet = { s.fleet with relResult := code } := by
  rw [State.refuseRelease, emit_fleet, modFleet_fleet]

theorem judgeRelease_refuses {s : State} {q role code : Nat} {code1 : Bool}
    (h : (if code1 then 1 else s.releaseCode q) = code) (hc : code ≠ 0) (bad : List (BitVec 21)) :
    (s.judgeRelease q role code1 bad).2 = s.refuseRelease q code role := by
  rw [State.judgeRelease, h]
  split
  · exact absurd rfl hc
  · rfl

theorem judgeRelease_releases {s : State} {x : Stop} {q : Nat} (hx : s.fleet.stops.find? (·.seq == q) = some x)
    (h : s.releaseCode q = 0) (role : Nat) (bad : List (BitVec 21)) :
    (s.judgeRelease q role false bad).2 = (s.eccWhere bad (inSquares x.squares)).releaseStop x role := by
  simp only [State.judgeRelease, h, hx]
  rfl

theorem stopReleaseWrite_idle {w : Word} (h : flagOf w 0 = false) (bad : List (BitVec 21)) (s : State) :
    exec (.stopReleaseWrite w bad) s = .next s :=
  congrArg Host.Outcome.next (if_pos (by simp [h]))

theorem stopReleaseWrite_unopened {w : Word} (hw : flagOf w 0 = true) {s : State} (h : s.pcieRole = 0)
    (bad : List (BitVec 21)) :
    exec (.stopReleaseWrite w bad) s = .next (s.refuseRelease (fieldOf w 16 16) 1 5) := by
  have refused : (s.judgeRelease (fieldOf w 16 16) 5 true bad).2 = s.refuseRelease (fieldOf w 16 16) 1 5 :=
    judgeRelease_refuses rfl one_ne_zero bad
  rw [← refused]
  exact congrArg Host.Outcome.next ((if_neg (by simp [hw])).trans (if_pos h))

theorem stopReleaseWrite_judged {w : Word} (hw : flagOf w 0 = true) {s : State} (h : 1 ≤ s.pcieRole)
    (bad : List (BitVec 21)) :
    exec (.stopReleaseWrite w bad) s = .next (s.touch.judgeRelease (fieldOf w 16 16) s.pcieRole false bad).2 :=
  congrArg Host.Outcome.next ((if_neg (by simp [hw])).trans (if_neg (Nat.ne_of_gt h)))

/-- The idle time that a write restarts has no part in the codes. -/
theorem releaseCode_touch (s : State) (q : Nat) : s.touch.releaseCode q = s.releaseCode q := rfl

/-- A code that fails leaves the stops, and is recorded. -/
theorem stopReleaseWrite_refused {w : Word} (hw : flagOf w 0 = true) {s : State} (hr : 1 ≤ s.pcieRole) {code : Nat}
    (hc : s.releaseCode (fieldOf w 16 16) = code) (h0 : code ≠ 0) (bad : List (BitVec 21)) :
    ∃ t, exec (.stopReleaseWrite w bad) s = .next t ∧ t.fleet.stops = s.fleet.stops ∧ t.fleet.relResult = code ∧
      Logged t evStopReleaseRefused (fieldOf w 16 16) code s.pcieRole 0 := by
  refine ⟨s.touch.refuseRelease (fieldOf w 16 16) code s.pcieRole, ?_, ?_, ?_, _, rfl⟩
  · rw [stopReleaseWrite_judged hw hr, judgeRelease_refuses (code1 := false) ((releaseCode_touch s _).trans hc) h0]
  · rw [refuseRelease_fleet]
    rfl
  · rw [refuseRelease_fleet]

/-- A release that no code refuses ends the stops of its sequence, and no other. -/
theorem stopReleaseWrite_releases {w : Word} (hw : flagOf w 0 = true) {s : State} (hr : 1 ≤ s.pcieRole) {x : Stop}
    (hx : s.fleet.stops.find? (·.seq == fieldOf w 16 16) = some x) (h : MayRelease s x) (bad : List (BitVec 21)) :
    ∃ t, exec (.stopReleaseWrite w bad) s = .next t ∧
      t.fleet.stops = (s.fleet.stops.filter fun y => y.seq != fieldOf w 16 16) ∧ t.fleet.relResult = 0 ∧
      t.fleet.incarnation = s.fleet.incarnation := by
  have seq : x.seq = fieldOf w 16 16 := by simpa using List.find?_some hx
  have allowed : s.touch.releaseCode (fieldOf w 16 16) = 0 :=
    (releaseCode_touch s _).trans ((releaseCode_eq_zero_iff hx).mpr h)
  have judged := judgeRelease_releases (s := s.touch) hx allowed s.pcieRole bad
  refine ⟨_, (stopReleaseWrite_judged hw hr bad).trans (congrArg _ judged), ?_⟩
  rw [releaseStop_fleet, eccWhere_fleet, seq]
  exact ⟨rfl, rfl, rfl⟩

theorem releaseCode_inputs {s : State} {x : Stop} {q : Nat} (hx : s.fleet.stops.find? (·.seq == q) = some x)
    (hk : x.kind = .fleet) (hi : s.inputsHigh = false) : s.releaseCode q = 3 := by
  rw [releaseCode_found hx, if_pos (by simp [hk, hi])]

theorem releaseCode_standby {s : State} {x : Stop} {q : Nat} (hx : s.fleet.stops.find? (·.seq == q) = some x)
    (hk : x.kind ≠ .fleet) (solo : s.twin.state ≠ .solo) (active : s.twin.state ≠ .active) : s.releaseCode q = 6 := by
  simp [releaseCode_found hx, hk, solo, active]

/-! ## The boot stop -/

theorem bootStopSelfRelease_one {s : State} {x : Stop} (h : s.fleet.stops = [x]) :
    exec .bootStopSelfRelease s = .next
      (if x.seq == 0 && !s.fleet.bootHold && s.inputsHigh && s.dsp.coldStarted &&
          (s.dsp.mode == .running || s.dsp.mode == .swapPending) && !s.standby then s.releaseStop x 4
        else s) := by
  change execBootStopSelfRelease s = _
  rw [execBootStopSelfRelease, h]

theorem releaseStop_bootStop_logged {s : State} (h : s.dsp.mode ≠ .test) :
    Logged (s.releaseStop bootStop 4) evStopReleased 0 0 4 0 :=
  ⟨_, endStop_recorded (s := s.releaseSent bootStop 4) (by decide) (by rwa [releaseSent_mode]) 4⟩

theorem bootStopSelfRelease_releases {s : State} {x : Stop} (hs : s.fleet.stops = [x]) (hq : x.seq = 0)
    (hb : s.fleet.bootHold = false) (hi : s.inputsHigh = true) (hc : s.dsp.coldStarted = true)
    (hm : s.dsp.mode = .running ∨ s.dsp.mode = .swapPending) (hst : s.standby = false) :
    exec .bootStopSelfRelease s = .next (s.releaseStop x 4) :=
  (bootStopSelfRelease_one hs).trans (congrArg _ (if_pos (by simp [hq, hb, hi, hc, hm, hst])))

theorem bootStopSelfRelease_stays {s : State} (h : s.fleet.bootHold = true ∨ s.inputsHigh = false ∨
    s.dsp.coldStarted = false ∨ s.dsp.mode = .test ∨ 1 < s.fleet.stops.length) :
    exec .bootStopSelfRelease s = .next s := by
  cases hs : s.fleet.stops with
  | nil =>
    change execBootStopSelfRelease s = _
    rw [execBootStopSelfRelease, hs]
  | cons x rest =>
    cases rest with
    | nil =>
      refine (bootStopSelfRelease_one hs).trans (congrArg _ (if_neg ?_))
      simp only [hs, List.length_singleton, lt_irrefl, or_false] at h
      rcases h with h | h | h | h <;> simp [h]
    | cons y rest =>
      change execBootStopSelfRelease s = _
      rw [execBootStopSelfRelease, hs]

/-! ## The incarnation -/

theorem storeIncarnation_success_eq (s : State) :
    s.storeIncarnation 0 = (s.modFleet fun f =>
      { f with storedIncarnation := f.incarnation, incStored := true, incStoredAt := s.time, incFailAt := none }).emit
        evIncarnationNew s.fleet.incarnation s.fleet.storedIncarnation s.fleet.incKind :=
  if_pos rfl

theorem storeIncarnation_failure_eq (s : State) {n : Nat} (h : n ≠ 0) :
    s.storeIncarnation n = (s.modFleet fun f => { f with incFailAt := some s.now }).emit
      evIncarnationStoreFail s.fleet.incarnation n :=
  if_neg h

theorem storeIncarnation_stores (s : State) :
    (s.storeIncarnation 0).fleet.incarnation = s.fleet.incarnation ∧ (s.storeIncarnation 0).fleet.incStored = true ∧
      (s.storeIncarnation 0).fleet.storedIncarnation = s.fleet.incarnation ∧
      Logged (s.storeIncarnation 0) evIncarnationNew s.fleet.incarnation s.fleet.storedIncarnation
        s.fleet.incKind 0 := by
  rw [storeIncarnation_success_eq, emit_fleet]
  exact ⟨rfl, rfl, rfl, _, rfl⟩

theorem storeIncarnation_fails (s : State) {n : Nat} (h : n ≠ 0) :
    (s.storeIncarnation n).fleet = { s.fleet with incFailAt := some s.now } ∧
      Logged (s.storeIncarnation n) evIncarnationStoreFail s.fleet.incarnation n 0 0 := by
  rw [storeIncarnation_failure_eq s h, emit_fleet]
  exact ⟨rfl, _, rfl⟩

/-- What a store of an incarnation not yet stored leaves, by its flash status (R15). -/
theorem storeIncarnation_outcome {s : State} (hs : s.fleet.incStored = false) (status : BitVec 4) :
    (s.storeIncarnation status.toNat).fleet.incarnation = s.fleet.incarnation ∧
    (status = 0 → (s.storeIncarnation status.toNat).fleet.incStored = true ∧
      (s.storeIncarnation status.toNat).fleet.storedIncarnation = s.fleet.incarnation ∧
      Logged (s.storeIncarnation status.toNat) evIncarnationNew s.fleet.incarnation s.fleet.storedIncarnation
        s.fleet.incKind 0) ∧
    (status ≠ 0 → (s.storeIncarnation status.toNat).fleet.incStored = false ∧
      (s.storeIncarnation status.toNat).fleet.incFailAt = some s.now ∧
      (s.storeIncarnation status.toNat).fleet.storedIncarnation = s.fleet.storedIncarnation ∧
      Logged (s.storeIncarnation status.toNat) evIncarnationStoreFail s.fleet.incarnation status.toNat 0 0) := by
  by_cases h : status = 0
  · obtain ⟨incarnation, stored⟩ := storeIncarnation_stores s
    subst h
    exact ⟨incarnation, fun _ => stored, fun h => absurd rfl h⟩
  · obtain ⟨fleet, logged⟩ := storeIncarnation_fails s (BitVec.toNat_ne.mp h)
    rw [fleet]
    exact ⟨rfl, fun h0 => absurd h0 h, fun _ => ⟨hs, rfl, rfl, logged⟩⟩

theorem incarnationStore_stored {s : State} (h : s.fleet.incStored = true) (status : BitVec 4) :
    exec (.incarnationStore status) s = .next s :=
  congrArg Host.Outcome.next (if_neg (by simp [h]))

theorem incarnationStore_stores {s : State} (hb : s.pwr.booted = true) (hs : s.fleet.incStored = false)
    (hf : s.fleet.incFailAt = none) (status : BitVec 4) :
    exec (.incarnationStore status) s = .next (s.storeIncarnation status.toNat) :=
  congrArg Host.Outcome.next (if_pos (by simp [hb, hs, hf]))

theorem incarnationStoreRetry_eq {s : State} {t0 : Nat} (hf : s.fleet.incFailAt = some t0) (status : BitVec 4) :
    exec (.incarnationStoreRetry status) s =
      .next (if !s.fleet.incStored && s.past t0 second then s.storeIncarnation status.toNat else s) := by
  change execIncarnationStoreRetry status s = _
  rw [execIncarnationStoreRetry, hf]

theorem incarnationStoreRetry_stored {s : State} (h : s.fleet.incStored = true) (status : BitVec 4) :
    exec (.incarnationStoreRetry status) s = .next s := by
  cases hf : s.fleet.incFailAt with
  | none =>
    change execIncarnationStoreRetry status s = _
    rw [execIncarnationStoreRetry, hf]
  | some t0 => exact (incarnationStoreRetry_eq hf status).trans (congrArg _ (if_neg (by simp [h])))

theorem incarnationStoreRetry_due {s : State} {t0 : Nat} (hs : s.fleet.incStored = false)
    (hf : s.fleet.incFailAt = some t0) (status : BitVec 4) :
    exec (.incarnationStoreRetry status) s =
      .next (if t0 + second ≤ s.now then s.storeIncarnation status.toNat else s) := by
  refine (incarnationStoreRetry_eq hf status).trans (congrArg _ (if_congr ?_ rfl rfl))
  rw [hs, Bool.not_false, Bool.true_and, past_iff]

theorem restartEnd_ends {s : State} (hr : s.fleet.restart = true) (h : 17 ≤ s.fleet.superframes) :
    exec .restartEnd s =
      .next ((s.modFleet fun f => { f with restart := false }).emit evRestartEnd s.fleet.incarnation) :=
  congrArg Host.Outcome.next (if_pos (by simp [hr, h]))

theorem restartEnd_waits {s : State} (h : s.fleet.restart = false ∨ s.fleet.superframes ≤ 16) :
    exec .restartEnd s = .next s := by
  refine congrArg Host.Outcome.next (if_neg ?_)
  rcases h with h | h
  · simp [h]
  · simp [Nat.lt_succ_of_le h]

/-- Settles O2: a release by its code, the boot stop by its release, the incarnation by its store. -/
theorem stopReleasesAndIncarnation : Obligations.StopReleasesAndIncarnation := by
  refine ⟨fun w bad s hw => ⟨fun x hx hr => ⟨fun h => stopReleaseWrite_releases hw hr hx h bad, fun h => ?_,
        fun hk hi => ?_, fun hk solo active => ?_⟩, fun h => ?_, fun h hr => ?_⟩,
    fun w bad s h => stopReleaseWrite_idle h bad s,
    fun x s hs hq hb hi hc hm hst => ?_,
    fun s => bootStopSelfRelease_stays,
    fun status s hb hs hf => ?_,
    fun status t0 s hs hf => ⟨fun h => ?_, fun h => ?_⟩,
    fun s h status => ⟨incarnationStore_stored h status, incarnationStoreRetry_stored h status⟩,
    fun s hr h => ⟨_, restartEnd_ends hr h, by rw [emit_fleet]; rfl, _, rfl⟩,
    fun s => restartEnd_waits⟩
  · have fails : s.releaseCode (fieldOf w 16 16) ≠ 0 := fun hc => h ((releaseCode_eq_zero_iff hx).mp hc)
    obtain ⟨t, ht, stops, code, logged⟩ := stopReleaseWrite_refused hw hr rfl fails bad
    exact ⟨t, ht, stops, code ▸ three_le_releaseCode hx fails, code ▸ logged⟩
  · obtain ⟨t, ht, -, code, -⟩ := stopReleaseWrite_refused hw hr (releaseCode_inputs hx hk hi) three_ne_zero bad
    exact ⟨t, ht, code⟩
  · obtain ⟨t, ht, -, code, -⟩ :=
      stopReleaseWrite_refused hw hr (releaseCode_standby hx hk solo active) (by decide) bad
    exact ⟨t, ht, code⟩
  · refine ⟨_, stopReleaseWrite_unopened hw h bad, ?_, ?_, _, rfl⟩ <;> rw [refuseRelease_fleet]
  · have none : s.fleet.stops.find? (·.seq == fieldOf w 16 16) = none := by simpa using h
    exact stopReleaseWrite_refused hw hr (releaseCode_unknown none) two_ne_zero bad
  · refine ⟨_, bootStopSelfRelease_releases hs hq hb hi hc hm hst, ?_, ?_, ?_⟩
    · simp [releaseStop_fleet, hs]
    · rw [releaseStop_fleet]
    · rintro rfl
      exact releaseStop_bootStop_logged (by rcases hm with hm | hm <;> simp [hm])
  · exact ⟨_, incarnationStore_stores hb hs hf status, storeIncarnation_outcome hs status⟩
  · obtain ⟨incarnation, stores, fails⟩ := storeIncarnation_outcome hs status
    refine ⟨_, (incarnationStoreRetry_due hs hf status).trans (congrArg _ (if_pos h)), incarnation, stores,
      fun hn => ?_⟩
    obtain ⟨stored, failed, -, logged⟩ := fails hn
    exact ⟨stored, failed, logged⟩
  · exact (incarnationStoreRetry_due hs hf status).trans (congrArg _ (if_neg (Nat.not_le.mpr h)))

end Sys2Proof.Machine
end

section
/-! The timing fabric and the guidance engine under a stop: records, inputs of the log and a stop's grants, strokes,
zones and burst leave their words, but for the following-error counts that a stop clears (R237). -/

namespace Sys2Proof.Machine

/-- The words of the timing fabric and of the guidance engine. -/
def State.timing (s : State) : Tfc × Gdl := (s.tfc, s.gdl)

theorem tfc_of_timing {s t : State} (h : t.timing = s.timing) : t.tfc = s.tfc := congrArg (·.1) h
theorem gdl_of_timing {s t : State} (h : t.timing = s.timing) : t.gdl = s.gdl := congrArg (·.2) h

@[simp] theorem timing_modPalette (s : State) (f) : (s.modPalette f).timing = s.timing := rfl
@[simp] theorem timing_modPwr (s : State) (f) : (s.modPwr f).timing = s.timing := rfl
@[simp] theorem timing_modFleet (s : State) (f) : (s.modFleet f).timing = s.timing := rfl
@[simp] theorem timing_modCanvas (s : State) (f) : (s.modCanvas f).timing = s.timing := rfl
@[simp] theorem timing_modStk (s : State) (f) : (s.modStk f).timing = s.timing := rfl
@[simp] theorem timing_modAir (s : State) (f) : (s.modAir f).timing = s.timing := rfl
@[simp] theorem timing_put (s : State) (o : Out) : (s.put o).timing = s.timing := rfl
@[simp] theorem timing_draws (s : State) (n : Nat) : ({ s with draws := n } : State).timing = s.timing := rfl
@[simp] theorem timing_emit (s : State) (e : EvDef) (a b c d : Nat) : (s.emit e a b c d).timing = s.timing :=
  (congrArg State.timing (recordless_emit s e a b c d) :)

@[simp] theorem timing_logInput (s : State) (x : LogEntry) : (s.logInput x).timing = s.timing := by
  unfold State.logInput
  split <;> rfl

/-! ## What a stop does -/

@[simp] theorem timing_voidGrants (s : State) (mine : Nat → Bool) (seq : Nat) :
    (s.voidGrants mine seq).timing = s.timing := by
  refine foldl_keeps State.timing _ (fun s g => ?_) _ _
  split
  · rw [timing_emit]
  · rfl

@[simp] theorem timing_stopDrive (q : Nat) (s : State) (d : Fin 8) : (s.stopDrive q d).timing = s.timing := by
  unfold State.stopDrive
  dsimp only
  split <;> rfl

@[simp] theorem timing_blockZone (s : State) (x : Stop) : (s.blockZone x).timing = s.timing := by
  unfold State.blockZone State.persistCheck
  dsimp only
  split <;> simp

/-- The following-error counts of the robots that a stop covers are cleared. -/
def Gdl.calmed (g : Gdl) (x : Stop) : Gdl :=
  { g with
    loops := ((g.loops.map (·.1)).filter fun i => decide (i < 256) && x.covers i).foldl
      (fun (t : Tbl LoopSt) (i : Nat) => tblMod loopDefault t i fun l =>
        { l with
          feStart := none
          feMs := 0 }) g.loops }

theorem timing_clearErrors (s : State) (x : Stop) : (s.clearErrors x).timing = (s.tfc, s.gdl.calmed x) := rfl

theorem timing_stopEffects (s : State) (x : Stop) : (s.stopEffects x).timing = (s.tfc, s.gdl.calmed x) := by
  have cleared (u : State) (h : u.timing = s.timing) : (u.clearErrors x).timing = (s.tfc, s.gdl.calmed x) := by
    rw [timing_clearErrors, tfc_of_timing h, gdl_of_timing h]
  unfold State.stopEffects
  dsimp only
  split
  · rw [foldl_keeps State.timing _ (timing_stopDrive x.seq), timing_modAir, timing_modStk]
    exact cleared _ (by simp)
  · rw [timing_blockZone, timing_modStk]
    exact cleared _ (by simp)
  · rw [timing_modStk]
    exact cleared _ (by simp)

@[simp] theorem timing_endBurst (s : State) : s.endBurst.timing = s.timing := by
  unfold State.endBurst
  split
  · rfl
  · split
    · rfl
    · rw [timing_emit, timing_modAir]

@[simp] theorem timing_abortFrames (s : State) (t : Nat) : (s.abortFrames t).timing = s.timing := rfl

@[simp] theorem timing_beginBurst (s : State) (b : Burst) : (s.beginBurst b).timing = s.timing := by
  unfold State.beginBurst
  split
  next _ u heq =>
  rw [timing_put, timing_modAir, timing_abortFrames]
  split at heq
  · cases heq
    exact timing_emit ..
  · cases heq
    rfl

@[simp] theorem timing_startBurst (s : State) (b : Burst) (hard placed : Bool) :
    (s.startBurst b hard placed).timing = s.timing := by
  simp only [State.startBurst, apply_ite State.timing, timing_beginBurst, timing_modAir, timing_endBurst, ite_self]

/-- The stop of a kind and source that comes next. -/
def State.nextStop (s : State) (kind : StopKind) (source index : Nat) (qs : List Nat) : Stop :=
  { kind := kind, seq := nextSeq s.fleet.lastSeq, source := source, index := index, squares := qs,
    robots := s.canvas.holders qs, standstill := false }

/-- A raised stop leaves the timing fabric, and of the guidance engine changes the following-error counts alone. -/
theorem raiseStop_timing (s : State) (kind : StopKind) (source index : Nat) (qs : List Nat) :
    ∃ g, (s.raiseStop kind source index qs).2.2.timing = (s.tfc, g) ∧ (g = s.gdl ∨ ∃ x, g = s.gdl.calmed x) := by
  by_cases h : (s.modFleet fun f => { f with lastSource := source }).fleet.subsumes
      (s.nextStop kind source index qs) = true
  · refine ⟨s.gdl, (congrArg (fun y : Bool × Nat × State => y.2.2.timing) (if_pos h)).trans ?_, .inl rfl⟩
    rw [timing_emit, timing_logInput, timing_modFleet]
    rfl
  · refine ⟨_, (congrArg (fun y : Bool × Nat × State => y.2.2.timing) (if_neg h)).trans ?_,
      .inr ⟨s.nextStop kind source index qs, rfl⟩⟩
    rw [apply_ite State.timing, timing_put, ite_self, timing_startBurst]
    dsimp only
    rw [timing_draws, timing_stopEffects]
    have kept (u : State) (hu : u.timing = s.timing) (x : Stop) :
        (u.tfc, u.gdl.calmed x) = (s.tfc, s.gdl.calmed x) := by
      rw [tfc_of_timing hu, gdl_of_timing hu]
    refine kept _ ?_ _
    rw [timing_emit, timing_logInput, timing_modFleet]

theorem raiseStop_tfc (s : State) (kind : StopKind) (source index : Nat) (qs : List Nat) :
    (s.raiseStop kind source index qs).2.2.tfc = s.tfc := by
  obtain ⟨g, h, -⟩ := raiseStop_timing s kind source index qs
  exact congrArg (·.1) h

@[simp] theorem timing_wokenBy (s : State) (source : Nat) : (s.wokenBy source).timing = s.timing := by
  unfold State.wokenBy
  split <;> rfl

/-- A stop of the unit's own source leaves the timing fabric. -/
theorem raiseOwn_tfc (s : State) (source : Nat) : (s.raiseOwn source).tfc = s.tfc := by
  have woken : (s.wokenBy source).tfc = s.tfc := tfc_of_timing (timing_wokenBy s source)
  cases h : s.follows
  · rw [raiseOwn_sequenced h, raiseStop_tfc, woken]
  · rw [raiseOwn_relayed h]
    split
    · rw [emit_tfc, woken]
    · rw [put_tfc, woken]

end Sys2Proof.Machine
end

section
/-! The late-epoch policy and admission (R43 to R50), as O3 and O4 state them. -/

namespace Sys2Proof.Machine

/-! ## A write of TFC_POLICY -/

theorem policyOk_iff (reopen stop lo : Nat) :
    policyOk reopen stop lo = true ↔
      10 ≤ reopen ∧ reopen ≤ 1000 ∧ 4 ≤ stop ∧ stop ≤ 64 ∧ 1 ≤ lo ∧ lo ≤ 8 ∧ lo < stop := by
  simp [policyOk, and_assoc]

/-- TFC_POLICY as a write of it in force leaves it (R48). -/
def Tfc.policyWritten (t : Tfc) (w : Word) : Tfc :=
  if policyOk (fieldOf w 16 16) (fieldOf w 8 7) (fieldOf w 0 4) then
    { t with
      reopenN := fieldOf w 16 16
      stopN := fieldOf w 8 7
      admitN := fieldOf w 0 4 }
  else { t with cfgErr := true }

theorem tfcPolicyWrite_open {s : State} (ha : s.awake = true) (hr : 2 ≤ s.pcieRole) (w : Word) :
    exec (.tfcPolicyWrite w) s = .next (s.touch.modTfc fun t => t.policyWritten w) := by
  refine congrArg Host.Outcome.next ((asRole_open ha hr _).trans ?_)
  unfold Tfc.policyWritten
  split <;> rfl

/-- Settles O3: the session opens the write, and the ranges of R48 choose what it does. -/
theorem latePolicyWrite : Obligations.LatePolicyWrite := by
  intro w s ha
  refine ⟨fun hr => ⟨_, tfcPolicyWrite_open ha hr w, ?_, rfl⟩,
    fun hr => congrArg Host.Outcome.next (asRole_shut (.inr hr) _)⟩
  rw [modTfc_tfc, Tfc.policyWritten]
  by_cases h : policyOk (fieldOf w 16 16) (fieldOf w 8 7) (fieldOf w 0 4) = true
  · rw [if_pos h, if_pos ((policyOk_iff ..).mp h)]
    rfl
  · rw [if_neg h, if_neg (h ∘ (policyOk_iff ..).mpr)]
    rfl

/-! ## Admission -/

@[simp] theorem logInput_tfc (s : State) (x : LogEntry) : (s.logInput x).tfc = s.tfc :=
  tfc_of_timing (timing_logInput s x)

@[simp] theorem setAdmission_tfc (s : State) (closed : Bool) : (s.setAdmission closed).tfc = s.tfc := by
  unfold State.setAdmission
  dsimp only
  split
  · rw [logInput_tfc]
  · rw [modCanvas_tfc, logInput_tfc]

/-- Admission follows the causes and the power hold (R49). -/
theorem recause_tfc (s : State) : ∃ since, s.recause.tfc =
    { s.tfc with
      admitCause := s.tfc.causes
      admitHold := s.pwr.hold
      admitClosed := s.tfc.causes != 0 || s.pwr.hold
      closedAt := since } := by
  unfold State.recause
  dsimp only
  split
  · rw [emit_tfc, setAdmission_tfc]
    exact ⟨_, rfl⟩
  · split
    · rw [emit_tfc, setAdmission_tfc]
      exact ⟨_, rfl⟩
    · exact ⟨_, rfl⟩

theorem recause_admitClosed (s : State) : s.recause.tfc.admitClosed = (s.recause.tfc.causes != 0 || s.pwr.hold) := by
  obtain ⟨since, h⟩ := recause_tfc s
  rw [h]
  rfl

@[simp] theorem recause_regions (s : State) : s.recause.tfc.regions = s.tfc.regions := by
  obtain ⟨since, h⟩ := recause_tfc s
  rw [h]

@[simp] theorem recause_pairs (s : State) : s.recause.tfc.pairs = s.tfc.pairs := by
  obtain ⟨since, h⟩ := recause_tfc s
  rw [h]

@[simp] theorem recause_lateCause (s : State) : s.recause.tfc.lateCause = s.tfc.lateCause := by
  obtain ⟨since, h⟩ := recause_tfc s
  rw [h]

/-- A cause of ADMIT_CAUSE is there (R49). -/
theorem causes_ne_zero (t : Tfc) :
    (t.causes != 0) =
      (t.lateCause || t.regions.any (·.breach) || t.pairs.any (·.skew) || t.regions.any (·.avsFault)) := by
  rw [Tfc.causes]
  generalize t.regions.any (·.breach) = b, t.pairs.any (·.skew) = c, t.regions.any (·.avsFault) = d
  cases t.lateCause <;> cases b <;> cases c <;> cases d <;> rfl

/-- Any cause closes admission. -/
theorem recause_closes {s : State} (h : (s.tfc.lateCause || s.tfc.regions.any (·.breach) || s.tfc.pairs.any (·.skew) ||
    s.tfc.regions.any (·.avsFault)) = true) : s.recause.tfc.admitClosed = true := by
  obtain ⟨since, hr⟩ := recause_tfc s
  rw [hr]
  simp [causes_ne_zero, h]

/-- Where admission closes, the Canvas of a unit that is no standby takes it (R419). -/
theorem recause_shuts {s : State} (hc : s.tfc.causes != 0) (ho : s.tfc.admitClosed = false) (hs : s.standby = false) :
    s.recause.canvas.admitShut = true := by
  have standby (u : State) (x : LogEntry) (h : u.standby = false) : (u.logInput x).standby = false := by
    unfold State.logInput
    split <;> exact h
  have shut (u : State) (h : u.standby = false) : (u.setAdmission true).canvas.admitShut = true := by
    rw [State.setAdmission, if_neg (by simp [standby u _ h])]
    rfl
  unfold State.recause
  dsimp only
  rw [if_pos (by simp [hc, ho]), emit_canvas]
  exact shut _ hs

/-! ## The deadline -/

/-- EPOCH_LATE is recorded for the late epochs whose work is complete, and they leave the list. -/
theorem lateCheck_records (s : State) : ∃ l, OnlyRecords (s.modTfc fun t => { t with lates := l }) s.lateCheck := by
  unfold State.lateCheck
  dsimp only
  exact ⟨_, foldl_recordless _ (fun s _ => recordless_emit s ..) _ _⟩

theorem lateCheck_tfc (s : State) : ∃ l, s.lateCheck.tfc = { s.tfc with lates := l } := by
  obtain ⟨l, h⟩ := lateCheck_records s
  exact ⟨l, (congrArg State.tfc h :)⟩

@[simp] theorem lateCheck_epoch (s : State) : s.lateCheck.epoch = s.epoch := by
  obtain ⟨l, h⟩ := lateCheck_records s
  exact (congrArg State.epoch h :)

@[simp] theorem lateCheck_gdl (s : State) : s.lateCheck.gdl = s.gdl := by
  obtain ⟨l, h⟩ := lateCheck_records s
  exact (congrArg State.gdl h :)

@[simp] theorem closeLog_tfc (s : State) : s.closeLog.tfc = s.tfc := by
  unfold State.closeLog
  split_ifs <;> rfl

@[simp] theorem closeLog_epoch (s : State) : s.closeLog.epoch = s.epoch := by
  unfold State.closeLog
  split_ifs <;> rfl

/-- What an epoch is judged by: a task, an output or a trim of its own is missing, and it is no swap epoch (R43,
R156). -/
def State.missesDeadline (s : State) : Bool :=
  !s.dsp.inSwapEpoch && (s.workOf s.epoch.n || s.epoch.outLate || s.trimsOwed s.epoch.nominal)

theorem missesDeadline_iff (s : State) :
    s.missesDeadline = true ↔ s.dsp.inSwapEpoch = false ∧
      (s.workOf s.epoch.n = true ∨ s.epoch.outLate = true ∨ s.trimsOwed s.epoch.nominal = true) := by
  simp [State.missesDeadline, or_assoc]

/-- The epoch is marked as judged, and its log is closed. -/
def State.marked (s : State) (late : Bool) : State :=
  (s.modEpoch fun e => { e with judged := true, late := late }).closeLog

theorem epochDeadline_judges {s : State} (ha : s.awake = true) (hb : s.epoch.begun = true) (hj : s.epoch.judged = false)
    (h : s.deadline ≤ s.time) :
    exec .epochDeadline s = .next ((if s.missesDeadline then (s.marked s.missesDeadline).judgedLate
      else (s.marked s.missesDeadline).judgedOnTime).modEpoch fun e => { e with outLate := false }) :=
  congrArg Host.Outcome.next (if_neg (by simp [ha, hb, hj, h]))

theorem epochDeadline_waits {s : State}
    (h : s.awake = false ∨ s.epoch.begun = false ∨ s.epoch.judged = true ∨ s.time < s.deadline) :
    exec .epochDeadline s = .next s :=
  congrArg Host.Outcome.next (if_pos (by simpa [or_assoc] using h))

theorem judgedLate_counts (s : State) :
    s.judgedLate.tfc.consec = satAdd 7 s.tfc.consec 1 ∧ s.judgedLate.tfc.total = satAdd 24 s.tfc.total 1 ∧
      s.judgedLate.tfc.onTime = 0 ∧ s.judgedLate.epoch = s.epoch := by
  unfold State.judgedLate
  dsimp only
  generalize hu : s.modTfc _ = u
  obtain ⟨l, hl⟩ := lateCheck_tfc u
  rw [hl, lateCheck_epoch]
  subst hu
  exact ⟨rfl, rfl, rfl, rfl⟩

theorem epochDeadline_late {s : State} (ha : s.awake = true) (hb : s.epoch.begun = true) (hj : s.epoch.judged = false)
    (h : s.deadline ≤ s.time) (hl : s.missesDeadline = true) :
    ∃ t, exec .epochDeadline s = .next t ∧ t.epoch.judged = true ∧ t.epoch.n = s.epoch.n ∧
      t.tfc.consec = satAdd 7 s.tfc.consec 1 ∧ t.tfc.total = satAdd 24 s.tfc.total 1 ∧ t.tfc.onTime = 0 ∧
      t.epoch.late = true := by
  obtain ⟨consec, total, onTime, epoch⟩ := judgedLate_counts (s.marked true)
  refine ⟨_, epochDeadline_judges ha hb hj h, ?_⟩
  rw [hl, if_pos rfl, modEpoch_epoch, modEpoch_tfc, consec, total, onTime, epoch, State.marked, closeLog_epoch,
    closeLog_tfc]
  exact ⟨rfl, rfl, rfl, rfl, rfl, rfl⟩

theorem epochDeadline_onTime {s : State} (ha : s.awake = true) (hb : s.epoch.begun = true)
    (hj : s.epoch.judged = false) (h : s.deadline ≤ s.time) (hl : s.missesDeadline = false) :
    ∃ t, exec .epochDeadline s = .next t ∧ t.epoch.judged = true ∧ t.epoch.n = s.epoch.n ∧
      t.tfc.consec = 0 ∧ t.tfc.onTime = s.tfc.onTime + 1 ∧ t.tfc.total = s.tfc.total ∧ t.epoch.late = false := by
  refine ⟨_, epochDeadline_judges ha hb hj h, ?_⟩
  rw [hl, if_neg Bool.false_ne_true, State.judgedOnTime, modEpoch_epoch, modEpoch_tfc, modTfc_epoch, modTfc_tfc,
    State.marked, closeLog_epoch, closeLog_tfc]
  exact ⟨rfl, rfl, rfl, rfl, rfl, rfl⟩

/-! ## The answers of Table 2-5 -/

theorem admitNReached_closes {s : State} (hm : s.dsp.mode ≠ .test) (hc : s.tfc.lateCause = false)
    (h : s.tfc.admitN ≤ s.tfc.consec) :
    exec .admitNReached s = .next (s.modTfc fun t => { t with lateCause := true }).recause :=
  congrArg Host.Outcome.next (if_neg (by simp [hm, hc, h]))

theorem stopNReached_stops {s : State} (hm : s.dsp.mode ≠ .test) (hr : s.tfc.stopRaised = false)
    (h : s.tfc.stopN ≤ s.tfc.consec) :
    exec .stopNReached s = .next ((s.modTfc fun t => { t with stopRaised := true }).raiseOwn 5) :=
  congrArg Host.Outcome.next (if_neg (by simp [hm, hr, h]))

theorem stopN_raised (s : State) :
    ((s.modTfc fun t => { t with stopRaised := true }).raiseOwn 5).tfc.stopRaised = true := by
  rw [raiseOwn_tfc]
  rfl

theorem latenessCleared_clears {s : State} (hc : s.tfc.lateCause = true) (h : s.tfc.reopenN ≤ s.tfc.onTime) :
    exec .latenessCleared s = .next (s.modTfc fun t => { t with lateCause := false }).recause :=
  congrArg Host.Outcome.next (if_pos (by simp [hc, h]))

/-- Settles O4: the deadline by what is missing at it, and each answer of Table 2-5 by its count. -/
theorem lateEpochsAndTheirAnswers : Obligations.LateEpochsAndTheirAnswers := by
  refine ⟨fun s ha hb hj h => ?_, fun s => epochDeadline_waits, fun s hm hc h => ?_,
    fun s hm hr h => ⟨fun hf => ?_, fun hf => ?_⟩, fun s h => ?_, fun s h => ?_, fun s hc h => ?_, fun s h => ?_⟩
  · simp only [← missesDeadline_iff]
    cases hl : s.missesDeadline
    · exact epochDeadline_onTime ha hb hj h hl
    · exact epochDeadline_late ha hb hj h hl
  · refine ⟨_, admitNReached_closes hm hc h, by simp, recause_closes (by simp), fun ho hs => ?_⟩
    exact recause_shuts (by simp [causes_ne_zero]) ho hs
  · exact ⟨_, stopNReached_stops hm hr h, stopN_raised s, (raiseOwn_raises (by exact hf) 5).of_stops rfl rfl⟩
  · exact ⟨_, stopNReached_stops hm hr h, stopN_raised s, (raiseOwn_relays (by exact hf) 5).of_stops rfl rfl rfl⟩
  · exact congrArg Host.Outcome.next (if_pos (by simpa using h))
  · exact congrArg Host.Outcome.next (if_pos (by simpa using h))
  · exact ⟨_, latenessCleared_clears hc h, by simp, recause_admitClosed _⟩
  · exact congrArg Host.Outcome.next (if_neg (by rcases h with h | h <;> simp [h]))

end Sys2Proof.Machine
end

section
/-! The regions of the timing fabric: what an update of one leaves of it and of the others (R36, R51 to R64). -/

namespace Sys2Proof.Machine

/-! ## One region -/

theorem vector_set_self {α : Type} {k : Nat} (v : Vector α k) (n : Fin k) (x : α) : (v.set n x)[n] = x := by simp

theorem vector_set_ne {α : Type} {k : Nat} (v : Vector α k) {n m : Fin k} (x : α) (h : m ≠ n) :
    (v.set n x)[m] = v[m] := by
  have : (n : Nat) ≠ m := fun hk => h (Fin.ext hk.symm)
  simp [this]

theorem vector_any_of_getElem {α : Type} {k : Nat} {v : Vector α k} {p : α → Bool} {n : Fin k} (h : p v[n] = true) :
    v.any p = true :=
  Vector.any_eq_true.mpr ⟨n, n.isLt, h⟩

@[simp] theorem modRegion_self (s : State) (n : Fin 4) (f) :
    (s.modRegion n f).tfc.regions[n] = f s.tfc.regions[n] :=
  vector_set_self ..

theorem modRegion_ne (s : State) {n m : Fin 4} (f) (h : m ≠ n) : (s.modRegion n f).tfc.regions[m] = s.tfc.regions[m] :=
  vector_set_ne _ _ h

@[simp] theorem modRegion_pwr (s : State) (n : Fin 4) (f) : (s.modRegion n f).pwr = s.pwr := rfl
@[simp] theorem modRegion_target (s : State) (n m : Fin 4) (f) : (s.modRegion n f).target m = s.target m := rfl

/-! ## What is done to each region in turn -/

/-- A pass over the indices of a table acts on each entry once, in a setting that it keeps. -/
theorem foldl_each {γ α : Type} {k : Nat} {c : State → γ} {v : State → Vector α k} {f : State → Fin k → State}
    {R : γ → Fin k → α → α → Prop} (hc : ∀ s i, c (f s i) = c s)
    (hne : ∀ s i j, j ≠ i → (v (f s i))[j] = (v s)[j]) (hR : ∀ s i, R (c s) i (v s)[i] (v (f s i))[i]) (s : State)
    (i : Fin k) : R (c s) i (v s)[i] (v ((List.finRange k).foldl f s))[i] := by
  have others : ∀ (l : List (Fin k)) (u : State), i ∉ l → (v (l.foldl f u))[i] = (v u)[i] := by
    intro l
    induction l with
    | nil => exact fun _ _ => rfl
    | cons j l ih =>
      intro u h
      rw [List.mem_cons, not_or] at h
      rw [List.foldl_cons, ih _ h.2, hne _ _ _ h.1]
  have acts : ∀ (l : List (Fin k)) (u : State), l.Nodup → i ∈ l → R (c u) i (v u)[i] (v (l.foldl f u))[i] := by
    intro l
    induction l with
    | nil => exact fun _ _ h => absurd h List.not_mem_nil
    | cons j l ih =>
      intro u hn h
      obtain ⟨hj, hn⟩ := List.nodup_cons.mp hn
      rw [List.foldl_cons]
      by_cases hij : i = j
      · subst hij
        rw [others l _ hj]
        exact hR u i
      · have rest := ih (f u j) hn ((List.mem_cons.mp h).resolve_left hij)
        rwa [hc, hne u j i hij] at rest
  exact acts _ s (List.nodup_finRange k) (List.mem_finRange i)

/-! ## Readings: what the control of the rails leaves -/

/-- The rate, the readback and the run below target of a region. -/
def Region.reading (r : Region) : Nat × Nat × Nat := (r.rate, r.railRead, r.lowRun)

def State.readings (s : State) : Vector (Nat × Nat × Nat) 4 := s.tfc.regions.map Region.reading

theorem readings_getElem (s : State) (n : Fin 4) : s.readings[n] = s.tfc.regions[n].reading := by
  simp [State.readings]

theorem readings_put (s : State) (o : Out) : (s.put o).readings = s.readings := rfl

theorem readings_modRegion (s : State) (n : Fin 4) {f : Region → Region} (h : ∀ r, (f r).reading = r.reading) :
    (s.modRegion n f).readings = s.readings := by
  refine Vector.ext fun i hi => ?_
  rw [show (s.modRegion n f).readings[i] = (s.modRegion n f).readings[(⟨i, hi⟩ : Fin 4)] from rfl,
    show s.readings[i] = s.readings[(⟨i, hi⟩ : Fin 4)] from rfl, readings_getElem, readings_getElem]
  by_cases hn : (⟨i, hi⟩ : Fin 4) = n
  · rw [hn, modRegion_self, h]
  · rw [modRegion_ne s f hn]

theorem readings_setRail (s : State) (n : Fin 4) (mv : Nat) : (s.setRail n mv).readings = s.readings := by
  unfold State.setRail
  split
  · rfl
  · rw [readings_put]
    exact readings_modRegion s n fun _ => rfl

theorem readings_setRails (s : State) (goal : Vector Nat 4) : (s.setRails goal).readings = s.readings := by
  refine foldl_keeps State.readings _ (fun s n => ?_) _ s
  split
  · rfl
  · exact readings_setRail ..

theorem readings_raiseRail (s : State) (n : Fin 4) : (s.raiseRail n).readings = s.readings := by
  unfold State.raiseRail
  dsimp only
  rw [apply_ite State.readings, readings_modRegion _ n fun _ => ?_, readings_setRails, ite_self]
  rfl

end Sys2Proof.Machine
end

section
/-! Monitor windows, exclusions, rail steps and AVSBus faults, as O5 states them. -/

namespace Sys2Proof.Machine

/-! ## The end of a window -/

/-- The sensors and the readback of a region are read, and the pairs are watched. -/
def State.windowRead (s : State) (n : Fin 4) (temps : Vector (BitVec 8) 4) (mv : Nat) : State :=
  (s.modRegion n fun r => (r.readTemps temps s.now).readRail mv s.now).watchPairs

/-- A kept window: what it shows, and the raise of a rail below target. -/
def State.windowKept (s : State) (n : Fin 4) (rates : Vector Nat 16) : State :=
  let m := medianN (s.tfc.regions[n].inUse rates)
  let u := s.modRegion n fun r =>
    ((r.watchChains rates m).kept m (s.target n) (contractRate (s.classOf n)) s.tfc.hyst s.now).smooth m
      (baseRate n r.railRead (r.temp s.tfc.tdesign))
  if m < u.target n ∧ !u.inSkew n then u.raiseRail n else u

theorem monitorWindowEnd_eq {s : State} (ha : s.awake = true) (n : Fin 4) (rates : Vector (BitVec 16) 16)
    (temps : Vector (BitVec 8) 4) (read : BitVec 12) :
    exec (.monitorWindowEnd n rates temps read) s = .next
      (if (s.windowRead n temps read.toNat).tfc.regions[n].disturbed then
        (s.windowRead n temps read.toNat).modRegion n fun r => { r with disturbed := false }
      else (s.windowRead n temps read.toNat).windowKept n (rates.map (·.toNat))) :=
  congrArg Host.Outcome.next (if_neg (by simp [ha]))

theorem watchPairs_regions (s : State) : s.watchPairs.tfc.regions = s.tfc.regions :=
  foldl_keeps (fun u => u.tfc.regions) State.watchPair (fun _ _ => rfl) _ s

theorem watchPairs_target (s : State) (n : Fin 4) : s.watchPairs.target n = s.target n :=
  foldl_keeps (fun u => u.target n) State.watchPair (fun _ _ => rfl) _ s

theorem windowRead_region (s : State) (n : Fin 4) (temps : Vector (BitVec 8) 4) (mv : Nat) :
    (s.windowRead n temps mv).tfc.regions[n] = (s.tfc.regions[n].readTemps temps s.now).readRail mv s.now := by
  rw [State.windowRead, watchPairs_regions, modRegion_self]

theorem windowRead_target (s : State) (n : Fin 4) (temps : Vector (BitVec 8) 4) (mv : Nat) :
    (s.windowRead n temps mv).target n = s.target n := by
  rw [State.windowRead, watchPairs_target, modRegion_target]

theorem smooth_reading (r : Region) (rate base : Nat) : (r.smooth rate base).reading = r.reading := by
  unfold Region.smooth
  split <;> rfl

/-- A kept window shows the median of its chains and counts the run below target. -/
theorem windowKept_reading (s : State) (n : Fin 4) (rates : Vector Nat 16) :
    (s.windowKept n rates).tfc.regions[n].reading =
      (medianN (s.tfc.regions[n].inUse rates), s.tfc.regions[n].railRead,
        if s.target n ≤ medianN (s.tfc.regions[n].inUse rates) then 0 else s.tfc.regions[n].lowRun + 1) := by
  rw [← readings_getElem]
  unfold State.windowKept
  dsimp only
  rw [apply_ite State.readings, readings_raiseRail, ite_self, readings_getElem, modRegion_self, smooth_reading]
  simp [Region.reading, Region.kept, Region.watchChains]

theorem monitorWindowEnd_disturbed {s : State} (ha : s.awake = true) {n : Fin 4}
    (hd : s.tfc.regions[n].disturbed = true) (rates : Vector (BitVec 16) 16) (temps : Vector (BitVec 8) 4)
    (read : BitVec 12) :
    ∃ t, exec (.monitorWindowEnd n rates temps read) s = .next t ∧ t.tfc.regions[n].railRead = read.toNat ∧
      t.tfc.regions[n].disturbed = false ∧ t.tfc.regions[n].rate = s.tfc.regions[n].rate ∧
      t.tfc.regions[n].lowRun = s.tfc.regions[n].lowRun := by
  refine ⟨_, (monitorWindowEnd_eq ha n rates temps read).trans (congrArg _ (if_pos ?_)), ?_⟩
  · rw [windowRead_region]
    exact hd
  · rw [modRegion_self, windowRead_region]
    exact ⟨rfl, rfl, rfl, rfl⟩

theorem monitorWindowEnd_kept {s : State} (ha : s.awake = true) {n : Fin 4}
    (hd : s.tfc.regions[n].disturbed = false) (rates : Vector (BitVec 16) 16) (temps : Vector (BitVec 8) 4)
    (read : BitVec 12) :
    ∃ t, exec (.monitorWindowEnd n rates temps read) s = .next t ∧ t.tfc.regions[n].railRead = read.toNat ∧
      t.tfc.regions[n].rate = medianN (s.tfc.regions[n].inUse (rates.map (·.toNat))) ∧
      t.tfc.regions[n].lowRun = (if s.target n ≤ t.tfc.regions[n].rate then 0 else s.tfc.regions[n].lowRun + 1) := by
  refine ⟨_, (monitorWindowEnd_eq ha n rates temps read).trans (congrArg _ (if_neg ?_)), ?_⟩
  · rw [windowRead_region]
    exact ne_true_of_eq_false hd
  · have shown := windowKept_reading (s.windowRead n temps read.toNat) n (rates.map (·.toNat))
    rw [windowRead_target, windowRead_region] at shown
    simp only [Region.reading, Prod.mk.injEq] at shown
    obtain ⟨rate, railRead, lowRun⟩ := shown
    exact ⟨railRead, rate, lowRun.trans (by rw [rate]; rfl)⟩

/-! ## Exclusions and READY -/

theorem chainExcluded_excludes {n : Fin 4} {i : Fin 16} {s : State} (ha : s.awake = true)
    (ho : s.tfc.regions[n].chains[i].out = false) (hb : 8 ≤ s.tfc.regions[n].chains[i].bad) :
    ∃ t, exec (.chainExcluded n i) s = .next t ∧ t.tfc.regions[n].chains[i].out = true ∧
      Logged t evMonitorSensorFault (n + 1) 0 i s.tfc.regions[n].chains[i].dev := by
  have due : ¬ ((!s.awake) = true ∨ (s.region n).chains[i].out = true ∨ (s.region n).chains[i].bad < 8) := by
    rw [State.region, ha, ho]
    simpa using hb
  refine ⟨_, congrArg Host.Outcome.next (if_neg due), ?_, _, rfl⟩
  rw [emit_tfc, modRegion_self]
  exact congrArg ReplicaChain.out (vector_set_self ..)

theorem chainExcluded_stays {n : Fin 4} {i : Fin 16} {s : State} (hb : s.tfc.regions[n].chains[i].bad < 8) :
    exec (.chainExcluded n i) s = .next s :=
  congrArg Host.Outcome.next (if_pos (.inr (.inr hb)))

theorem sensorExcluded_eq {n i : Fin 4} {t0 : Nat} {s : State} (ha : s.awake = true)
    (ho : s.tfc.regions[n].sensors[i].out = false) (hs : s.tfc.regions[n].sensors[i].since = some t0) :
    exec (.sensorExcluded n i) s = .next (if t0 + second ≤ s.now then
      (s.modRegion n fun r =>
        { r with sensors := r.sensors.set i { s.tfc.regions[n].sensors[i] with out := true } }).emit
        evMonitorSensorFault (n + 1) 1 i (s.tfc.regions[n].sensorDev i)
      else s) := by
  change execSensorExcluded n i s = _
  rw [execSensorExcluded, State.region]
  dsimp only
  rw [hs]
  refine congrArg Host.Outcome.next (if_congr ?_ rfl rfl)
  rw [ha, ho, Bool.not_false, Bool.true_and, Bool.true_and, past_iff]

theorem sensorExcluded_excludes {n i : Fin 4} {t0 : Nat} {s : State} (ha : s.awake = true)
    (ho : s.tfc.regions[n].sensors[i].out = false) (hs : s.tfc.regions[n].sensors[i].since = some t0)
    (h : t0 + second ≤ s.now) :
    ∃ t, exec (.sensorExcluded n i) s = .next t ∧ t.tfc.regions[n].sensors[i].out = true ∧
      Logged t evMonitorSensorFault (n + 1) 1 i (s.tfc.regions[n].sensorDev i) := by
  refine ⟨_, (sensorExcluded_eq ha ho hs).trans (congrArg _ (if_pos h)), ?_, _, rfl⟩
  rw [emit_tfc, modRegion_self]
  exact congrArg Sensor.out (vector_set_self ..)

theorem readySet_eq {s : State} (ha : s.awake = true) :
    exec .readySet s = .next (if ∀ n : Fin 4, 10 ≤ s.tfc.regions[n].goodRun then
      s.modTfc fun t => { t with ready := true } else s) := by
  refine congrArg Host.Outcome.next (if_congr ?_ rfl rfl)
  rw [ha, Bool.true_and, Vector.all_eq_true]
  simp [Fin.forall_iff]

/-! ## Steps of a rail -/

theorem closeUp_close {goal : Vector Nat 4} {p : Fin 4}
    (h : goal[(pairOf p).1] ≤ goal[(pairOf p).2] + 140 ∧ goal[(pairOf p).2] ≤ goal[(pairOf p).1] + 140) :
    closeUp goal p = goal := by
  unfold closeUp
  dsimp only
  rw [if_neg (Nat.not_lt.mpr h.2), if_neg (Nat.not_lt.mpr h.1)]

/-- Rails within the limit of R62 of each other stay. -/
theorem closeAll_close {goal : Vector Nat 4} (h : ∀ p : Fin 4,
    goal[(pairOf p).1] ≤ goal[(pairOf p).2] + 140 ∧ goal[(pairOf p).2] ≤ goal[(pairOf p).1] + 140) :
    closeAll goal = goal := by
  have pass : ∀ l : List (Fin 4), l.foldl closeUp goal = goal := List.foldl_fixed' fun p => closeUp_close (h p)
  exact List.foldl_fixed' (f := fun g (_ : Nat) => (List.finRange 4).foldl closeUp g) (fun _ => pass _) (List.range 4)

theorem setRail_same {s : State} {n : Fin 4} {mv : Nat} (h : s.tfc.regions[n].railSet = mv) : s.setRail n mv = s :=
  if_pos h

theorem setRail_writes {s : State} {n : Fin 4} {mv : Nat} (h : s.tfc.regions[n].railSet ≠ mv) :
    s.setRail n mv = (s.modRegion n fun r => { r with railSet := mv, disturbed := true }).put (.avs (n + 1) mv) :=
  if_neg h

theorem setRail_railSet (s : State) (n : Fin 4) (mv : Nat) : (s.setRail n mv).tfc.regions[n].railSet = mv := by
  by_cases h : s.tfc.regions[n].railSet = mv
  · rw [setRail_same h, h]
  · rw [setRail_writes h, put_tfc, modRegion_self]

theorem setRail_ne (s : State) {n m : Fin 4} (mv : Nat) (h : m ≠ n) :
    (s.setRail n mv).tfc.regions[m] = s.tfc.regions[m] := by
  by_cases hs : s.tfc.regions[n].railSet = mv
  · rw [setRail_same hs]
  · rw [setRail_writes hs, put_tfc, modRegion_ne _ _ h]

theorem setRail_out {s : State} {n : Fin 4} {mv : Nat} (h : s.tfc.regions[n].railSet ≠ mv) :
    (s.setRail n mv).ev.out = .avs (n + 1) mv :: s.ev.out := by
  rw [setRail_writes h, put_out]
  rfl

theorem railLower_lowers {n : Fin 4} {s : State} {t0 : Nat} {goal : Vector Nat 4} (ha : s.awake = true)
    (hg : goal = s.rails.set n (s.tfc.regions[n].rail - 5)) (hf : 605 ≤ s.tfc.regions[n].rail)
    (hl : ∀ t1, s.tfc.regions[n].lastLower = some t1 → t1 + second ≤ s.now)
    (hs : s.tfc.regions[n].highSince = some t0) (ht : t0 + second ≤ s.now)
    (hc : ∀ p : Fin 4, goal[(pairOf p).1] ≤ goal[(pairOf p).2] + 140 ∧ goal[(pairOf p).2] ≤ goal[(pairOf p).1] + 140)
    (hk : s.inSkew n = false) :
    exec (.railLower n) s = .next ((s.setRail n (s.tfc.regions[n].rail - 5)).modRegion n fun r =>
      { r with lastLower := some s.now }) := by
  have free : (match s.tfc.regions[n].lastLower with
      | some t => s.past t second
      | none => true) = true := by
    split
    next t h => exact (past_iff ..).mpr (hl t h)
    next => rfl
  have due : s.past t0 second = true := (past_iff ..).mpr ht
  have close : closeAll (s.rails.set n (s.tfc.regions[n].rail - 5)) = s.rails.set n (s.tfc.regions[n].rail - 5) :=
    hg ▸ closeAll_close hc
  change execRailLower n s = _
  rw [execRailLower, State.region]
  rw [hs]
  refine congrArg Host.Outcome.next (if_pos ?_)
  simp only [Bool.and_eq_true]
  exact ⟨⟨⟨⟨⟨ha, free⟩, due⟩, decide_eq_true hf⟩, beq_iff_eq.mpr close⟩, by rw [hk]; rfl⟩

theorem railLower_stays {n : Fin 4} {s : State}
    (h : s.tfc.regions[n].rail < 605 ∨ s.tfc.regions[n].highSince = none ∨ s.inSkew n = true) :
    exec (.railLower n) s = .next s := by
  change execRailLower n s = _
  rw [execRailLower, State.region]
  refine congrArg Host.Outcome.next (if_neg ?_)
  simp only [Bool.and_eq_true, not_and]
  rintro ⟨⟨⟨-, due⟩, floor⟩, -⟩ skew
  rcases h with h | h | h
  · exact absurd (of_decide_eq_true floor) (Nat.not_le.mpr h)
  · rw [h] at due
    exact Bool.false_ne_true due
  · rw [h] at skew
    exact Bool.false_ne_true skew

/-! ## AVSBus faults -/

/-- The readback has been off for 1 ms. -/
def State.avsOff (s : State) (n : Fin 4) : Bool :=
  match s.tfc.regions[n].avsSince with
  | some t => s.past t ms
  | none => false

theorem avsOff_iff (s : State) (n : Fin 4) :
    s.avsOff n = true ↔ ∃ t0, s.tfc.regions[n].avsSince = some t0 ∧ t0 + ms ≤ s.now := by
  unfold State.avsOff
  split
  next t h => simp [-Fin.getElem_fin, past_iff, h]
  next h => simp [-Fin.getElem_fin, h]

theorem avsFault_eq {n : Fin 4} {s : State} (ha : s.awake = true) (hf : s.tfc.regions[n].avsFault = false)
    (nack : Bool) (status : BitVec 16) :
    exec (.avsFault n nack status) s = .next (if nack || s.avsOff n then
      ((s.modRegion n fun r => { r with avsFault := true, avsRetryAt := s.now }).emit evAvsFault (n + 1)
        s.tfc.regions[n].railSet s.tfc.regions[n].railRead status.toNat).recause else s) := by
  by_cases h : (nack || s.avsOff n) = true
  · have due : ¬ (!s.awake || s.tfc.regions[n].avsFault || !(nack || s.avsOff n)) = true := by rw [ha, hf, h]; decide
    rw [if_pos h]
    exact congrArg Host.Outcome.next (if_neg due)
  · have idle : (!s.awake || s.tfc.regions[n].avsFault || !(nack || s.avsOff n)) = true := by simp [h]
    rw [if_neg h]
    exact congrArg Host.Outcome.next (if_pos idle)

theorem avsFault_sets {n : Fin 4} {s : State} {nack : Bool} (ha : s.awake = true)
    (hf : s.tfc.regions[n].avsFault = false)
    (h : nack = true ∨ ∃ t0, s.tfc.regions[n].avsSince = some t0 ∧ t0 + ms ≤ s.now) (status : BitVec 16) :
    ∃ t, exec (.avsFault n nack status) s = .next t ∧ t.tfc.regions[n].avsFault = true ∧
      t.tfc.regions[n].avsRetryAt = s.now ∧ t.tfc.admitClosed = true := by
  rw [← avsOff_iff, ← Bool.or_eq_true] at h
  refine ⟨_, (avsFault_eq ha hf nack status).trans (congrArg _ (if_pos h)), ?_, ?_, recause_closes ?_⟩
  · rw [recause_regions, emit_tfc, modRegion_self]
  · rw [recause_regions, emit_tfc, modRegion_self]
  · rw [emit_tfc]
    simp only [Bool.or_eq_true]
    exact .inr (vector_any_of_getElem (n := n) (by rw [modRegion_self]))

theorem avsFault_stays {n : Fin 4} {s : State} (ha : s.awake = true) (hf : s.tfc.regions[n].avsFault = false)
    (h : ∀ t0, s.tfc.regions[n].avsSince = some t0 → s.now < t0 + ms) (status : BitVec 16) :
    exec (.avsFault n false status) s = .next s := by
  have steady : ¬ s.avsOff n = true := fun off => by
    obtain ⟨t0, ht, hp⟩ := (avsOff_iff ..).mp off
    exact absurd hp (Nat.not_le.mpr (h t0 ht))
  exact (avsFault_eq ha hf false status).trans (congrArg _ (if_neg (by simpa using steady)))

/-- A retry as it goes out, with the readback that came. -/
def State.retried (s : State) (n : Fin 4) (nack : Bool) (read : Nat) : State :=
  (s.modRegion n fun r =>
    { r.readRail read s.now with avsRetryAt := s.now, disturbed := r.disturbed || !nack }).put
      (.avs (n + 1) s.tfc.regions[n].railSet)

theorem retried_region (s : State) (n : Fin 4) (nack : Bool) (read : Nat) :
    (s.retried n nack read).tfc.regions[n] =
      { s.tfc.regions[n].readRail read s.now with
        avsRetryAt := s.now
        disturbed := s.tfc.regions[n].disturbed || !nack } := by
  rw [State.retried, put_tfc, modRegion_self]

theorem avsRetry_eq {n : Fin 4} {s : State} (ha : s.awake = true) (hf : s.tfc.regions[n].avsFault = true)
    (h : s.tfc.regions[n].avsRetryAt + ms ≤ s.now) (nack : Bool) (read : BitVec 12) :
    exec (.avsRetry n nack read) s = .next
      (if nack || (s.retried n nack read.toNat).tfc.regions[n].avsSince.isSome then s.retried n nack read.toNat
      else ((s.retried n nack read.toNat).modRegion n fun r => { r with avsFault := false }).recause) := by
  refine congrArg Host.Outcome.next (if_neg ?_)
  have due : s.past s.tfc.regions[n].avsRetryAt ms = true := (past_iff ..).mpr h
  simp [-Fin.getElem_fin, State.region, ha, hf, due]

theorem avsRetry_waits {n : Fin 4} {s : State} (h : s.now < s.tfc.regions[n].avsRetryAt + ms) (nack : Bool)
    (read : BitVec 12) : exec (.avsRetry n nack read) s = .next s := by
  refine congrArg Host.Outcome.next (if_pos ?_)
  have early : s.past s.tfc.regions[n].avsRetryAt ms = false := decide_eq_false (Nat.not_le.mpr h)
  simp [-Fin.getElem_fin, State.region, early]

/-- A readback within 20 mV of the value set agrees (R59). -/
theorem readRail_agrees {r : Region} {mv : Nat} (hl : mv ≤ r.railSet + 20) (hh : r.railSet ≤ mv + 20) (now : Nat) :
    (r.readRail mv now).avsSince = none := by
  have near : ¬ 20 < max mv r.railSet - min mv r.railSet := by omega
  simp [Region.readRail, near]

theorem avsRetry_retries {n : Fin 4} {s : State} (ha : s.awake = true) (hf : s.tfc.regions[n].avsFault = true)
    (h : s.tfc.regions[n].avsRetryAt + ms ≤ s.now) (nack : Bool) (read : BitVec 12) :
    ∃ t, exec (.avsRetry n nack read) s = .next t ∧ t.tfc.regions[n].avsRetryAt = s.now ∧
      t.tfc.regions[n].railRead = read.toNat ∧ t.tfc.regions[n].railSet = s.tfc.regions[n].railSet ∧
      (nack = true → t.tfc.regions[n].avsFault = true) ∧
      (nack = false → read.toNat ≤ s.tfc.regions[n].railSet + 20 → s.tfc.regions[n].railSet ≤ read.toNat + 20 →
        t.tfc.regions[n].avsFault = false) := by
  rw [avsRetry_eq ha hf h]
  by_cases off : (nack || (s.retried n nack read.toNat).tfc.regions[n].avsSince.isSome) = true
  · rw [if_pos off]
    refine ⟨_, rfl, ?_⟩
    rw [retried_region] at off ⊢
    refine ⟨rfl, rfl, rfl, fun _ => hf, fun hn hl hh => ?_⟩
    have agrees : (s.tfc.regions[n].readRail read.toNat s.now).avsSince = none := readRail_agrees hl hh s.now
    simp [-Fin.getElem_fin, hn, agrees] at off
  · rw [if_neg off]
    refine ⟨_, rfl, ?_⟩
    rw [recause_regions, modRegion_self, retried_region]
    exact ⟨rfl, rfl, rfl, fun hn => absurd (by simp [hn]) off, fun _ _ _ => rfl⟩

/-- Settles O5: a window by what it reads and shows, each exclusion, rail step and AVSBus fault by its condition. -/
theorem monitorAndRails : Obligations.MonitorAndRails := by
  refine ⟨fun n rates temps read s ha => ?_,
    fun n i s ha ho => ⟨chainExcluded_excludes ha ho, chainExcluded_stays⟩,
    fun n i t0 s ha ho hs => ⟨sensorExcluded_excludes ha ho hs,
      fun h => (sensorExcluded_eq ha ho hs).trans (congrArg _ (if_neg (Nat.not_le.mpr h)))⟩,
    fun s => readySet_eq,
    fun n s t0 goal ha hg hf hl hs ht hc hk => ⟨_, railLower_lowers ha hg hf hl hs ht hc hk, ?_, ?_, fun h => ?_,
      fun m hm => ?_⟩,
    fun n s => railLower_stays,
    fun n nack status s ha hf => ⟨fun h => avsFault_sets ha hf h status, ?_⟩,
    fun n nack read s ha hf => ⟨fun h => avsRetry_retries ha hf h nack read, fun h => avsRetry_waits h nack read⟩⟩
  · cases hd : s.tfc.regions[n].disturbed
    · obtain ⟨t, ht, railRead, rate, lowRun⟩ := monitorWindowEnd_kept ha hd rates temps read
      exact ⟨t, ht, railRead, nofun, fun _ => ⟨rate, lowRun⟩⟩
    · obtain ⟨t, ht, railRead, kept⟩ := monitorWindowEnd_disturbed ha hd rates temps read
      exact ⟨t, ht, railRead, fun _ => kept, nofun⟩
  · rw [modRegion_self]
    exact setRail_railSet ..
  · rw [modRegion_self]
  · exact setRail_out h
  · rw [modRegion_ne _ _ hm, setRail_ne _ _ hm]
  · rintro rfl h
    exact avsFault_stays ha hf h status

end Sys2Proof.Machine
end

section
/-! Contract flags, neighbour skew and the margin plan, as O6 states them. -/

namespace Sys2Proof.Machine

/-! ## The contract -/

theorem contractAtRisk_sets {n : Fin 4} {s : State} (ha : s.awake = true) (hr : s.tfc.regions[n].atRisk = false)
    (hv : 900 ≤ s.tfc.regions[n].rail) (hl : 10 ≤ s.tfc.regions[n].lowRun) :
    ∃ t, exec (.contractAtRisk n) s = .next t ∧ t.tfc.regions[n].atRisk = true ∧ Logged t evContractAtRisk (n + 1)
      s.tfc.regions[n].rate s.tfc.regions[n].railRead (par (s.tfc.regions[n].temp s.tfc.tdesign)) := by
  have due : ¬ ((!s.awake) = true ∨ s.tfc.regions[n].atRisk = true ∨ s.tfc.regions[n].rail < 900 ∨
      s.tfc.regions[n].lowRun < 10) := by
    rw [ha, hr]
    simp only [Bool.not_true, Bool.false_eq_true, false_or, not_or]
    exact ⟨Nat.not_lt.mpr hv, Nat.not_lt.mpr hl⟩
  refine ⟨_, congrArg Host.Outcome.next (if_neg due), ?_, _, rfl⟩
  rw [emit_tfc, modRegion_self]

theorem contractAtRisk_stays {n : Fin 4} {s : State}
    (h : s.tfc.regions[n].atRisk = true ∨ s.tfc.regions[n].rail < 900 ∨ s.tfc.regions[n].lowRun < 10) :
    exec (.contractAtRisk n) s = .next s :=
  congrArg Host.Outcome.next (if_pos (.inr h))

theorem contractBreach_sets {n : Fin 4} {s : State} (ha : s.awake = true) (hb : s.tfc.regions[n].breach = false)
    (hr : 2 ≤ s.tfc.regions[n].breachRun) :
    ∃ t, exec (.contractBreach n) s = .next t ∧ t.tfc.regions[n].breach = true ∧ t.tfc.admitClosed = true := by
  have due : ¬ ((!s.awake) = true ∨ s.tfc.regions[n].breach = true ∨ s.tfc.regions[n].breachRun < 2) := by
    rw [ha, hb]
    simp only [Bool.not_true, Bool.false_eq_true, false_or]
    exact Nat.not_lt.mpr hr
  refine ⟨_, congrArg Host.Outcome.next (if_neg due), ?_, recause_closes ?_⟩
  · rw [recause_regions, emit_tfc, modRegion_self]
  · rw [emit_tfc]
    simp only [Bool.or_eq_true]
    exact .inl (.inl (.inr (vector_any_of_getElem (n := n) (by rw [modRegion_self]))))

theorem contractBreach_stays {n : Fin 4} {s : State}
    (h : s.tfc.regions[n].breach = true ∨ s.tfc.regions[n].breachRun < 2) : exec (.contractBreach n) s = .next s :=
  congrArg Host.Outcome.next (if_pos (.inr h))

/-- AT_RISK of a region clears with its record. -/
def State.riskOver (s : State) (n : Fin 4) : State :=
  if s.tfc.regions[n].atRisk then
    (s.modRegion n fun r => { r with atRisk := false }).emit evContractRestored (n + 1) s.tfc.regions[n].rate
  else s

/-- BREACH of a region clears with its record. -/
def State.breachOver (s : State) (n : Fin 4) (rate : Nat) : State :=
  (s.modRegion n fun r => { r with breach := false }).emit evContractRestored (n + 1) rate

theorem riskOver_region (s : State) (n : Fin 4) :
    (s.riskOver n).tfc.regions[n] = { s.tfc.regions[n] with atRisk := false } := by
  cases h : s.tfc.regions[n].atRisk
  · rw [State.riskOver, if_neg (ne_true_of_eq_false h), ← h]
  · rw [State.riskOver, if_pos h, emit_tfc, modRegion_self]

theorem breachOver_region (s : State) (n : Fin 4) (rate : Nat) :
    (s.breachOver n rate).tfc.regions[n] = { s.tfc.regions[n] with breach := false } := by
  rw [State.breachOver, emit_tfc, modRegion_self]

theorem riskOver_pwr (s : State) (n : Fin 4) : (s.riskOver n).pwr = s.pwr := by
  unfold State.riskOver
  split
  · rw [emit_pwr, modRegion_pwr]
  · rfl

theorem contractRestored_eq {n : Fin 4} {t0 : Nat} {s : State} (ha : s.awake = true)
    (hg : s.tfc.regions[n].goodSince = some t0) :
    exec (.contractRestored n) s = .next (if t0 + second ≤ s.now then
      (if s.tfc.regions[n].breach then ((s.riskOver n).breachOver n s.tfc.regions[n].rate).recause else s.riskOver n)
      else s) := by
  change execContractRestored n s = _
  rw [execContractRestored, State.region]
  dsimp only
  rw [hg, ha]
  by_cases h : t0 + second ≤ s.now
  · rw [if_pos h]
    exact congrArg Host.Outcome.next (if_neg (by simp [(past_iff ..).mpr h]))
  · rw [if_neg h]
    exact congrArg Host.Outcome.next (if_pos (by simp [State.past, h]))

theorem contractRestored_clears {n : Fin 4} {t0 : Nat} {s : State} (ha : s.awake = true)
    (hg : s.tfc.regions[n].goodSince = some t0) (h : t0 + second ≤ s.now) :
    ∃ t, exec (.contractRestored n) s = .next t ∧ t.tfc.regions[n].atRisk = false ∧ t.tfc.regions[n].breach = false ∧
      (s.tfc.regions[n].breach = true → t.tfc.admitClosed = (t.tfc.causes != 0 || s.pwr.hold)) := by
  refine ⟨_, (contractRestored_eq ha hg).trans (congrArg _ (if_pos h)), ?_⟩
  cases hb : s.tfc.regions[n].breach
  · rw [if_neg Bool.false_ne_true, riskOver_region]
    exact ⟨rfl, hb, nofun⟩
  · rw [if_pos rfl]
    refine ⟨?_, ?_, fun _ => ?_⟩
    · rw [recause_regions, breachOver_region, riskOver_region]
    · rw [recause_regions, breachOver_region]
    · rw [recause_admitClosed, State.breachOver, emit_pwr, modRegion_pwr, riskOver_pwr]

/-! ## Skew -/

theorem setSkew_self (s : State) (p : Fin 4) (b : Bool) : (s.setSkew p b).tfc.pairs[p].skew = b :=
  congrArg SkewPair.skew (vector_set_self ..)

theorem regionSkew_eq {p : Fin 4} {t0 : Nat} {s : State} (ha : s.awake = true)
    (hb : s.tfc.pairs[p].badSince = some t0) (hs : s.tfc.pairs[p].skew = false) :
    exec (.regionSkew p) s = .next (if t0 + ms ≤ s.now then
      ((s.setSkew p true).emit evRegionSkew p (s.railDiff p) (s.tempDiff p) 1).recause else s) := by
  change execRegionSkew p s = _
  rw [execRegionSkew, hb]
  refine congrArg Host.Outcome.next (if_congr ?_ rfl rfl)
  rw [ha, hs, Bool.not_false, Bool.true_and, Bool.true_and, past_iff]

theorem regionSkew_sets {p : Fin 4} {t0 : Nat} {s : State} (ha : s.awake = true)
    (hb : s.tfc.pairs[p].badSince = some t0) (hs : s.tfc.pairs[p].skew = false) (h : t0 + ms ≤ s.now) :
    ∃ t, exec (.regionSkew p) s = .next t ∧ t.tfc.pairs[p].skew = true ∧ t.tfc.admitClosed = true := by
  refine ⟨_, (regionSkew_eq ha hb hs).trans (congrArg _ (if_pos h)), ?_, recause_closes ?_⟩
  · rw [recause_pairs, emit_tfc, setSkew_self]
  · rw [emit_tfc]
    simp only [Bool.or_eq_true]
    exact .inl (.inr (vector_any_of_getElem (n := p) (setSkew_self s p true)))

theorem regionSkewClear_eq {p : Fin 4} {t0 : Nat} {s : State} (ha : s.awake = true)
    (ho : s.tfc.pairs[p].okSince = some t0) (hs : s.tfc.pairs[p].skew = true) :
    exec (.regionSkewClear p) s = .next (if t0 + second ≤ s.now then
      ((s.setSkew p false).emit evRegionSkew p (s.railDiff p) (s.tempDiff p) 0).recause else s) := by
  change execRegionSkewClear p s = _
  rw [execRegionSkewClear, ho]
  refine congrArg Host.Outcome.next (if_congr ?_ rfl rfl)
  rw [ha, hs, Bool.true_and, Bool.true_and, past_iff]

theorem regionSkewClear_clears {p : Fin 4} {t0 : Nat} {s : State} (ha : s.awake = true)
    (ho : s.tfc.pairs[p].okSince = some t0) (hs : s.tfc.pairs[p].skew = true) (h : t0 + second ≤ s.now) :
    ∃ t, exec (.regionSkewClear p) s = .next t ∧ t.tfc.pairs[p].skew = false := by
  refine ⟨_, (regionSkewClear_eq ha ho hs).trans (congrArg _ (if_pos h)), ?_⟩
  rw [recause_pairs, emit_tfc, setSkew_self]

theorem skewReset_resets {p : Fin 4} {t0 : Nat} {s : State} (ha : s.awake = true)
    (h : 45 < s.tempDiff p ∨ (s.tfc.pairs[p].badSince = some t0 ∧ t0 + 100 * ms ≤ s.now)) :
    ∃ t, exec (.skewReset p) s = .next t ∧ t.pwr.state = .off ∧ t.pwr.last.kind = 2 ∧ t.pwr.last.cause = 5 := by
  have due : s.skewReset p = true := by
    unfold State.skewReset
    rw [Bool.or_eq_true]
    refine h.imp decide_eq_true fun ⟨hb, hp⟩ => ?_
    rw [hb]
    exact (past_iff ..).mpr hp
  obtain ⟨off, kind, cause, -⟩ := resetDevice_pwr s 2 5
  exact ⟨_, congrArg Host.Outcome.next (if_pos (by rw [ha, due]; rfl)), off, kind, cause⟩

/-! ## The daily sample and CAP -/

theorem target_of_records {s t : State} (h : OnlyRecords s t) (n : Fin 4) : t.target n = s.target n :=
  (congrArg (fun u : State => u.target n) h :)

theorem tfc_of_records {s t : State} (h : OnlyRecords s t) : t.tfc = s.tfc := (congrArg State.tfc h :)

/-- The sample of a region and the plan that follows from it. -/
def State.planned (s : State) (n : Fin 4) : State :=
  s.modRegion n fun r => (r.sample s.tfc.hours).plan n s.tfc (s.target n)

theorem marginPlan_records (s : State) (n : Fin 4) : OnlyRecords (s.planned n) (s.marginPlan n) := by
  have planned := onlyRecords_emit (s.planned n) evMarginPlan (n + 1) ((s.planned n).region n).daysLeft
    ((s.planned n).region n).railDesign (codeOf 24 ((s.planned n).region n).ppm)
  unfold State.marginPlan
  dsimp only
  split
  · exact planned.trans (onlyRecords_emit ..)
  · exact planned

/-- What a plan is made from besides its region: TDESIGN, the hours and the targets. -/
def State.planBasis (s : State) : Nat × Nat × (Fin 4 → Nat) := (s.tfc.tdesign, s.tfc.hours, fun n => s.target n)

theorem marginPlan_planBasis (s : State) (n : Fin 4) : (s.marginPlan n).planBasis = s.planBasis := by
  have records := marginPlan_records s n
  rw [State.planBasis, tfc_of_records records, funext (target_of_records records)]
  rfl

theorem marginPlan_dayAt (s : State) (n : Fin 4) : (s.marginPlan n).tfc.dayAt = s.tfc.dayAt := by
  rw [tfc_of_records (marginPlan_records s n)]
  rfl

/-- The plan and the sum that a daily sample leaves in a region. -/
def Sampled (basis : Nat × Nat × (Fin 4 → Nat)) (n : Fin 4) (r r' : Region) : Prop :=
  r'.railDesign = railDesignOf n basis.1 (basis.2.2 n) r.ppm ∧ r'.sumXX = r.sumXX + rootHours basis.2.1 ^ 2

theorem marginPlan_sampled (s : State) (n : Fin 4) :
    Sampled s.planBasis n s.tfc.regions[n] (s.marginPlan n).tfc.regions[n] := by
  rw [tfc_of_records (marginPlan_records s n), State.planned, modRegion_self]
  exact ⟨rfl, congrArg (_ + ·) (sq _).symm⟩

theorem marginPlan_ne (s : State) (n m : Fin 4) (h : m ≠ n) :
    (s.marginPlan n).tfc.regions[m] = s.tfc.regions[m] := by
  rw [tfc_of_records (marginPlan_records s n), State.planned, modRegion_ne _ _ h]

/-- A day of operation has passed: each region is sampled and planned. -/
def State.daySampled (s : State) : State :=
  (List.finRange 4).foldl State.marginPlan (s.modTfc fun t => { t with dayAt := s.now, hours := t.hours + 24 })

theorem daySampled_planBasis (s : State) :
    s.daySampled.planBasis = (s.tfc.tdesign, s.tfc.hours + 24, fun n => s.target n) :=
  foldl_keeps State.planBasis _ marginPlan_planBasis _ _

theorem daySampled_hours (s : State) : s.daySampled.tfc.hours = s.tfc.hours + 24 := by
  have basis := daySampled_planBasis s
  rw [State.planBasis, Prod.mk.injEq, Prod.mk.injEq] at basis
  obtain ⟨-, hours, -⟩ := basis
  exact hours

theorem daySampled_dayAt (s : State) : s.daySampled.tfc.dayAt = s.now :=
  foldl_keeps (fun u => u.tfc.dayAt) _ marginPlan_dayAt _ _

theorem daySampled_sampled (s : State) (n : Fin 4) :
    Sampled (s.tfc.tdesign, s.tfc.hours + 24, fun n => s.target n) n s.tfc.regions[n] s.daySampled.tfc.regions[n] :=
  foldl_each (v := fun u => u.tfc.regions) marginPlan_planBasis marginPlan_ne marginPlan_sampled _ n

theorem dailySample_samples {s : State} (ha : s.awake = true) (h : s.tfc.dayAt + 86400 * second ≤ s.now) :
    exec .dailySample s = .next (s.daySampled.flashWrite
      (.plan s.daySampled.tfc.hours (s.daySampled.tfc.regions.toList.map Region.planCopy))) :=
  congrArg Host.Outcome.next (if_neg (by simp [ha, (past_iff ..).mpr h]))

theorem flashWrite_tfc (s : State) (w : FlashWrite) : (s.flashWrite w).tfc = s.tfc := rfl

theorem dailySample_waits {s : State} (h : s.now < s.tfc.dayAt + 86400 * second) : exec .dailySample s = .next s :=
  congrArg Host.Outcome.next (if_pos (by simp [State.past, h]))

/-- CAP of a region is found anew. -/
def State.recap (s : State) (n : Fin 4) : State :=
  s.modRegion n fun r => { r with cap := r.capOf n s.tfc.tdesign s.tfc.guard }

theorem capRefresh_refreshes {s : State} (ha : s.awake = true) (h : s.tfc.capAt + second ≤ s.now) :
    exec .capRefresh s =
      .next ((List.finRange 4).foldl State.recap (s.modTfc fun t => { t with capAt := s.now })) :=
  congrArg Host.Outcome.next (if_neg (by simp [ha, (past_iff ..).mpr h]))

theorem capRefresh_waits {s : State} (h : s.now < s.tfc.capAt + second) : exec .capRefresh s = .next s :=
  congrArg Host.Outcome.next (if_pos (by simp [State.past, h]))

theorem recap_settings (s : State) (n : Fin 4) :
    ((s.recap n).tfc.tdesign, (s.recap n).tfc.guard) = (s.tfc.tdesign, s.tfc.guard) := rfl

theorem recap_ne (s : State) (n m : Fin 4) (h : m ≠ n) : (s.recap n).tfc.regions[m] = s.tfc.regions[m] :=
  modRegion_ne s _ h

theorem recap_cap (s : State) (n : Fin 4) :
    (s.recap n).tfc.regions[n].cap = s.tfc.regions[n].capOf n s.tfc.tdesign s.tfc.guard := by
  rw [State.recap, modRegion_self]

theorem recaps_cap (s : State) (n : Fin 4) :
    ((List.finRange 4).foldl State.recap s).tfc.regions[n].cap =
      s.tfc.regions[n].capOf n s.tfc.tdesign s.tfc.guard :=
  foldl_each (f := State.recap) (c := fun u => (u.tfc.tdesign, u.tfc.guard)) (v := fun u => u.tfc.regions)
    (R := fun c n r r' => r'.cap = r.capOf n c.1 c.2) recap_settings recap_ne recap_cap s n

theorem recaps_capAt (s : State) : ((List.finRange 4).foldl State.recap s).tfc.capAt = s.tfc.capAt :=
  foldl_keeps (fun u => u.tfc.capAt) State.recap (fun _ _ => rfl) _ s

/-- CAP of every region follows from TDESIGN and GUARD once a second. -/
theorem capRefresh_caps {s : State} (ha : s.awake = true) (h : s.tfc.capAt + second ≤ s.now) :
    ∃ t, exec .capRefresh s = .next t ∧ t.tfc.capAt = s.now ∧
      ∀ n : Fin 4, t.tfc.regions[n].cap = s.tfc.regions[n].capOf n s.tfc.tdesign s.tfc.guard := by
  refine ⟨_, capRefresh_refreshes ha h, ?_, fun n => ?_⟩
  · rw [recaps_capAt]
    rfl
  · rw [recaps_cap]
    rfl

/-- The 24 h that end with a sample count as operating hours, and every region has its plan and its sum. -/
theorem dailySample_plans {s : State} (ha : s.awake = true) (h : s.tfc.dayAt + 86400 * second ≤ s.now) :
    ∃ t, exec .dailySample s = .next t ∧ t.tfc.hours = s.tfc.hours + 24 ∧ t.tfc.dayAt = s.now ∧
      ∀ n : Fin 4, t.tfc.regions[n].railDesign = railDesignOf n s.tfc.tdesign (s.target n) s.tfc.regions[n].ppm ∧
        t.tfc.regions[n].sumXX = s.tfc.regions[n].sumXX + rootHours (s.tfc.hours + 24) ^ 2 := by
  refine ⟨_, dailySample_samples ha h, ?_, ?_, fun n => ?_⟩ <;> rw [flashWrite_tfc]
  · exact daySampled_hours s
  · exact daySampled_dayAt s
  · exact daySampled_sampled s n

/-- Settles O6: each flag by its run or its time, the daily plan and CAP region by region. -/
theorem contractSkewAndPlans : Obligations.ContractSkewAndPlans := by
  refine ⟨fun n s ha => ⟨contractAtRisk_sets ha, contractAtRisk_stays, contractBreach_sets ha, contractBreach_stays,
      fun t0 hg => ⟨contractRestored_clears ha hg, fun h => ?_⟩⟩,
    fun p t0 s ha => ⟨fun hb hs => ⟨regionSkew_sets ha hb hs, fun h => ?_⟩,
      fun ho hs => ⟨regionSkewClear_clears ha ho hs, fun h => ?_⟩, skewReset_resets ha⟩,
    fun s ha => ⟨dailySample_plans ha, dailySample_waits, capRefresh_caps ha, capRefresh_waits⟩⟩
  · exact (contractRestored_eq ha hg).trans (congrArg _ (if_neg (Nat.not_le.mpr h)))
  · exact (regionSkew_eq ha hb hs).trans (congrArg _ (if_neg (Nat.not_le.mpr h)))
  · exact (regionSkewClear_eq ha ho hs).trans (congrArg _ (if_neg (Nat.not_le.mpr h)))

end Sys2Proof.Machine
end

section
/-! Loop submissions (R242), as O28 states them. -/

namespace Sys2Proof.Machine

/-! ## The table of loops -/

/-- A read after a write of a value that is not the default, in any table. -/
theorem tblGet_put_of_ne {α : Type} [DecidableEq α] {d : Nat → α} {k : Nat} {v : α} (h : v ≠ d k) (t : Tbl α) :
    tblGet d (tblPut d t k v) k = v := by
  rw [tblPut, if_neg h, tblGet_insert_self]

theorem ne_loopDefault {l : LoopSt} (h : l.enabled = true) (i : Nat) : l ≠ loopDefault i := by
  rintro rfl
  exact Bool.false_ne_true h

theorem modLoop_self {s : State} {i : Nat} {f : LoopSt → LoopSt} (h : (f (s.gdl.loop i)).enabled = true) :
    (s.modLoop i f).gdl.loop i = f (s.gdl.loop i) :=
  tblGet_put_of_ne (ne_loopDefault h i) _

theorem modLoop_ne (s : State) {i j : Nat} (f : LoopSt → LoopSt) (h : j ≠ i) :
    (s.modLoop i f).gdl.loop j = s.gdl.loop j :=
  tblGet_put_ne h

/-! ## A submission and its answer -/

/-- The submission at the head has its result word, and it left the batch, with those behind it that name no
command. -/
def LoopAnswered (s t : State) (r : FabReq) (rest : List FabReq) (st loop : Nat) : Prop :=
  (∃ pre, rest = pre ++ t.gdl.batch) ∧
    ∃ more, t.dsp.results = s.dsp.results ++ StageResult.mk 2 r.task r.slot (loopWord st loop) :: more

/-- The submission at the head of the batch is of this loop of the table, with this argument. -/
def State.heads (s : State) (r : FabReq) (rest : List FabReq) (loop arg : Nat) : Prop :=
  s.gdl.batch = r :: rest ∧ loop = fieldOf r.value 19 9 ∧ loop ≤ 271 ∧ arg = fieldOf r.value 0 19

/-- Submissions that name no command leave the batch with their results, and nothing else of the engine changes. -/
theorem dropLoop_drops (n : Nat) (s : State) :
    (∃ pre, s.gdl.batch = pre ++ (s.dropLoop n).gdl.batch) ∧
      (s.dropLoop n).gdl = { s.gdl with batch := (s.dropLoop n).gdl.batch } ∧
      ∃ more, (s.dropLoop n).dsp.results = s.dsp.results ++ more := by
  have stays (s : State) : (∃ pre, s.gdl.batch = pre ++ s.gdl.batch) ∧ s.gdl = { s.gdl with batch := s.gdl.batch } ∧
      ∃ more, s.dsp.results = s.dsp.results ++ more := ⟨⟨[], rfl⟩, rfl, [], (List.append_nil _).symm⟩
  induction n generalizing s with
  | zero => exact stays s
  | succ n ih =>
    rw [State.dropLoop]
    split
    next r rest hb =>
      split
      next =>
        obtain ⟨⟨pre, hp⟩, gdl, more, hm⟩ := ih (State.finishLoop r 1 s)
        refine ⟨⟨r :: pre, ?_⟩, gdl, StageResult.mk 2 r.task r.slot (loopWord 1 (fieldOf r.value 19 9)) :: more, ?_⟩
        · rw [List.cons_append, ← hp, hb]
          exact congrArg (r :: ·) (congrArg (List.drop 1) hb).symm
        · rw [hm]
          exact List.append_assoc ..
      next => exact stays s
    next => exact stays s

/-- A command on a loop of the table has its status and its effect. -/
theorem withLoop_answers {i : Instr} {s u : State} {r : FabReq} {rest : List FabReq} {cmd loop arg st : Nat}
    {f : State → Nat → Nat → Nat × State} (hx : exec i s = s.withLoop cmd f)
    (hh : s.heads r rest loop arg) (hc : fieldOf r.value 28 4 = cmd) (hf : f s loop arg = (st, u))
    (batch : u.gdl.batch = s.gdl.batch) (results : u.dsp.results = s.dsp.results) :
    ∃ t, exec i s = .next t ∧ LoopAnswered s t r rest st loop ∧
      t.gdl = { u.gdl with batch := t.gdl.batch } := by
  obtain ⟨hb, hl, hm, ha⟩ := hh
  have taken : s.withLoop cmd f =
      .next ((State.finishLoop r st u).dropLoop (State.finishLoop r st u).gdl.batch.length) := by
    rw [State.withLoop, hb]
    dsimp only
    rw [if_neg (not_not.mpr hc), ← hl, if_neg (Nat.not_lt.mpr hm), ← ha, hf]
  obtain ⟨⟨pre, hp⟩, gdl, more, hr⟩ :=
    dropLoop_drops (State.finishLoop r st u).gdl.batch.length (State.finishLoop r st u)
  have behind : (State.finishLoop r st u).gdl.batch = rest := by
    rw [show (State.finishLoop r st u).gdl.batch = u.gdl.batch.drop 1 from rfl, batch, hb]
    rfl
  refine ⟨_, hx.trans taken, ⟨⟨pre, behind.symm.trans hp⟩, more, ?_⟩, gdl⟩
  rw [hr, show (State.finishLoop r st u).dsp.results =
    u.dsp.results ++ [StageResult.mk 2 r.task r.slot (loopWord st (fieldOf r.value 19 9))] from rfl, results, ← hl]
  exact List.append_assoc ..

/-! ## Each command -/

section
variable {s : State} {r : FabReq} {rest : List FabReq} {loop arg : Nat}

/-- Descriptors of a loop's kind (Table 7-15). -/
def State.descCount (s : State) (loop : Nat) : Nat :=
  if loop < 256 then (loopsHdr s.loops).gc else (loopsHdr s.loops).dc

/-- Where Glaze is asked for, its table is another route's (R241). -/
def State.glazeMismatch (s : State) (loop arg : Nat) : Bool :=
  (bitsOf arg 14 1 == 1 || bitsOf arg 15 1 == 1) &&
    (if loop < 256 then (tblGet chanDefault s.stk.chans loop).route else none) !=
      some (glazeAt s.loops (bitsOf arg 8 6)).route

/-- A loop as ENABLE sets it. -/
def LoopSt.enabledBy (l : LoopSt) (arg : Nat) (mis : Bool) : LoopSt :=
  { l with
    enabled := true
    desc := bitsOf arg 0 6
    glaze := bitsOf arg 8 6
    glazeOn := bitsOf arg 14 1 == 1 && !mis
    learn := bitsOf arg 15 1 == 1
    mismatch := mis
    iS := 0
    iY := 0
    feStart := none
    feMs := 0 }

/-- The argument of an ENABLE names a Glaze table that exists, where it asks for one. -/
def State.enableOk (s : State) (arg : Nat) : Prop :=
  arg < 2 ^ 16 ∧ bitsOf arg 6 2 = 0 ∧
    ((bitsOf arg 14 1 == 1) = true ∨ (bitsOf arg 15 1 == 1) = true → bitsOf arg 8 6 < (loopsHdr s.loops).zc)

/-- ENABLE of a loop: its status and its effect. -/
def State.enableLoop (s : State) (loop arg : Nat) : Nat × State :=
  if bitsOf arg 6 2 ≠ 0 ∨ 2 ^ 16 ≤ arg ∨
    ((bitsOf arg 14 1 == 1 || bitsOf arg 15 1 == 1) = true ∧ (loopsHdr s.loops).zc ≤ bitsOf arg 8 6) then (1, s)
  else if s.descCount loop ≤ bitsOf arg 0 6 then (2, s)
  else (if s.glazeMismatch loop arg then 3 else 0,
    s.modLoop loop fun l => l.enabledBy arg (s.glazeMismatch loop arg))

/-- DISABLE of a loop: its status and its effect. -/
def State.disableLoop (s : State) (loop arg : Nat) : Nat × State :=
  let (st, s) := s.onLoop loop (arg == 0) fun l => { l with enabled := false }
  (st, if st = 0 then s.modGdl fun g => { g with trims := g.trims.filter (·.robot != loop) } else s)

theorem loopEnable_eq (s : State) : exec .loopEnable s = s.withLoop 0 State.enableLoop := rfl
theorem loopDisable_eq (s : State) : exec .loopDisable s = s.withLoop 1 State.disableLoop := rfl
theorem loopReset_eq (s : State) : exec .loopReset s = s.withLoop 2 fun s loop arg =>
    s.onLoop loop (arg == 0) fun l => { l with iS := 0, iY := 0 } := rfl
theorem glazeClear_eq (s : State) : exec .glazeClear s = s.withLoop 3 fun s loop arg =>
    if loop ≠ 0 ∨ (loopsHdr s.loops).zc ≤ arg then (1, s)
    else (0, s.modGdl fun g => { g with glaze := g.glaze.filter fun x => x.1 / 256 ≠ arg }) := rfl
theorem learn_eq (s : State) : exec .learn s = s.withLoop 4 fun s loop arg =>
    s.onLoop loop (decide (arg < 2)) fun l => { l with learn := arg == 1 } := rfl

theorem enableOk_not_bad (h : s.enableOk arg) :
    ¬ (bitsOf arg 6 2 ≠ 0 ∨ 2 ^ 16 ≤ arg ∨
      ((bitsOf arg 14 1 == 1 || bitsOf arg 15 1 == 1) = true ∧ (loopsHdr s.loops).zc ≤ bitsOf arg 8 6)) := by
  obtain ⟨range, zero, table⟩ := h
  rintro (h | h | ⟨asked, missing⟩)
  · exact h zero
  · exact absurd range (Nat.not_lt.mpr h)
  · exact absurd (table (Bool.or_eq_true _ _ ▸ asked)) (Nat.not_lt.mpr missing)

theorem loopEnable_enables (hh : s.heads r rest loop arg) (hc : fieldOf r.value 28 4 = 0) (ok : s.enableOk arg)
    (hd : bitsOf arg 0 6 < s.descCount loop) :
    ∃ t, exec .loopEnable s = .next t ∧ LoopAnswered s t r rest (if s.glazeMismatch loop arg then 3 else 0) loop ∧
      t.gdl.loop loop = (s.gdl.loop loop).enabledBy arg (s.glazeMismatch loop arg) := by
  obtain ⟨t, ht, answered, gdl⟩ := withLoop_answers (loopEnable_eq s) hh hc
    ((if_neg (enableOk_not_bad ok)).trans (if_neg (Nat.not_le.mpr hd))) rfl rfl
  refine ⟨t, ht, answered, ?_⟩
  rw [gdl]
  exact modLoop_self (f := fun l => l.enabledBy arg (s.glazeMismatch loop arg)) rfl

theorem loopEnable_undescribed (hh : s.heads r rest loop arg) (hc : fieldOf r.value 28 4 = 0) (ok : s.enableOk arg)
    (hd : s.descCount loop ≤ bitsOf arg 0 6) :
    ∃ t, exec .loopEnable s = .next t ∧ LoopAnswered s t r rest 2 loop ∧ t.gdl.loops = s.gdl.loops := by
  obtain ⟨t, ht, answered, gdl⟩ := withLoop_answers (loopEnable_eq s) hh hc
    ((if_neg (enableOk_not_bad ok)).trans (if_pos hd)) rfl rfl
  exact ⟨t, ht, answered, by rw [gdl]⟩

theorem onLoop_enabled {ok : Bool} (h : ok = true) (he : (s.gdl.loop loop).enabled = true) (f : LoopSt → LoopSt) :
    s.onLoop loop ok f = (0, s.modLoop loop f) := by
  rw [State.onLoop, h, he]
  rfl

theorem onLoop_disabled {ok : Bool} (h : ok = true) (he : (s.gdl.loop loop).enabled = false) (f : LoopSt → LoopSt) :
    s.onLoop loop ok f = (4, s) := by
  rw [State.onLoop, h, he]
  rfl

theorem loopDisable_enabled (hh : s.heads r rest loop arg) (hc : fieldOf r.value 28 4 = 1) (h0 : arg = 0)
    (he : (s.gdl.loop loop).enabled = true) :
    ∃ t, exec .loopDisable s = .next t ∧ LoopAnswered s t r rest 0 loop ∧
      t.gdl.loops = tblMod loopDefault s.gdl.loops loop (fun l => { l with enabled := false }) ∧
      t.gdl.trims = s.gdl.trims.filter (·.robot != loop) := by
  obtain ⟨t, ht, answered, gdl⟩ := withLoop_answers (loopDisable_eq s)
    (u := (s.modLoop loop fun l => { l with enabled := false }).modGdl fun g =>
      { g with trims := g.trims.filter (·.robot != loop) }) hh hc
    (by rw [State.disableLoop, onLoop_enabled (beq_iff_eq.mpr h0) he]; rfl) rfl rfl
  refine ⟨t, ht, answered, ?_⟩
  rw [gdl]
  exact ⟨rfl, rfl⟩

theorem loopDisable_disabled (hh : s.heads r rest loop arg) (hc : fieldOf r.value 28 4 = 1) (h0 : arg = 0)
    (he : (s.gdl.loop loop).enabled = false) :
    ∃ t, exec .loopDisable s = .next t ∧ LoopAnswered s t r rest 4 loop ∧ t.gdl.loops = s.gdl.loops ∧
      t.gdl.trims = s.gdl.trims := by
  obtain ⟨t, ht, answered, gdl⟩ := withLoop_answers (loopDisable_eq s) (u := s) hh hc
    (by rw [State.disableLoop, onLoop_disabled (beq_iff_eq.mpr h0) he]; rfl) rfl rfl
  refine ⟨t, ht, answered, ?_⟩
  rw [gdl]
  exact ⟨rfl, rfl⟩

theorem loopReset_enabled (hh : s.heads r rest loop arg) (hc : fieldOf r.value 28 4 = 2) (h0 : arg = 0)
    (he : (s.gdl.loop loop).enabled = true) :
    ∃ t, exec .loopReset s = .next t ∧ LoopAnswered s t r rest 0 loop ∧
      t.gdl.loop loop = { s.gdl.loop loop with iS := 0, iY := 0 } := by
  obtain ⟨t, ht, answered, gdl⟩ :=
    withLoop_answers (loopReset_eq s) hh hc (onLoop_enabled (beq_iff_eq.mpr h0) he _) rfl rfl
  refine ⟨t, ht, answered, ?_⟩
  rw [gdl]
  exact modLoop_self (f := fun l => { l with iS := 0, iY := 0 }) he

theorem loopReset_disabled (hh : s.heads r rest loop arg) (hc : fieldOf r.value 28 4 = 2) (h0 : arg = 0)
    (he : (s.gdl.loop loop).enabled = false) :
    ∃ t, exec .loopReset s = .next t ∧ LoopAnswered s t r rest 4 loop ∧ t.gdl.loops = s.gdl.loops := by
  obtain ⟨t, ht, answered, gdl⟩ :=
    withLoop_answers (loopReset_eq s) hh hc (onLoop_disabled (beq_iff_eq.mpr h0) he _) rfl rfl
  exact ⟨t, ht, answered, by rw [gdl]⟩

theorem learn_enabled (hh : s.heads r rest loop arg) (hc : fieldOf r.value 28 4 = 4) (h2 : arg < 2)
    (he : (s.gdl.loop loop).enabled = true) :
    ∃ t, exec .learn s = .next t ∧ LoopAnswered s t r rest 0 loop ∧ (t.gdl.loop loop).learn = (arg == 1) := by
  obtain ⟨t, ht, answered, gdl⟩ :=
    withLoop_answers (learn_eq s) hh hc (onLoop_enabled (decide_eq_true h2) he _) rfl rfl
  refine ⟨t, ht, answered, ?_⟩
  rw [gdl]
  exact congrArg LoopSt.learn (modLoop_self (f := fun l => { l with learn := arg == 1 }) he)

theorem learn_disabled (hh : s.heads r rest loop arg) (hc : fieldOf r.value 28 4 = 4) (h2 : arg < 2)
    (he : (s.gdl.loop loop).enabled = false) :
    ∃ t, exec .learn s = .next t ∧ LoopAnswered s t r rest 4 loop ∧ t.gdl.loops = s.gdl.loops := by
  obtain ⟨t, ht, answered, gdl⟩ :=
    withLoop_answers (learn_eq s) hh hc (onLoop_disabled (decide_eq_true h2) he _) rfl rfl
  exact ⟨t, ht, answered, by rw [gdl]⟩

/-- A table with the entries of some keys left out reads as its default there and as before elsewhere. -/
theorem tblGet_filter {α : Type} (d : Nat → α) (p : Nat → Bool) (t : Tbl α) (k : Nat) :
    tblGet d (t.filter fun x => p x.1) k = if p k then tblGet d t k else d k := by
  induction t with
  | nil => simp [tblGet]
  | cons x t ih =>
    rw [List.filter_cons, tblGet]
    by_cases hk : k = x.1
    · subst hk
      cases hp : p x.1
      · rw [if_neg Bool.false_ne_true, ih, hp]
        rfl
      · simp [tblGet]
    · rw [if_neg hk, ← ih]
      split
      · rw [tblGet, if_neg hk]
      · rfl

theorem glazeClear_clears (hh : s.heads r rest loop arg) (hc : fieldOf r.value 28 4 = 3) (h0 : loop = 0)
    (hz : arg < (loopsHdr s.loops).zc) :
    ∃ t, exec .glazeClear s = .next t ∧ LoopAnswered s t r rest 0 loop ∧ (∀ b < 256, t.gdl.bin arg b = 0) ∧
      ∀ z b, z ≠ arg → b < 256 → t.gdl.bin z b = s.gdl.bin z b := by
  have good : ¬ (loop ≠ 0 ∨ (loopsHdr s.loops).zc ≤ arg) := by simp [h0, hz]
  obtain ⟨t, ht, answered, gdl⟩ := withLoop_answers (glazeClear_eq s) hh hc (if_neg good) rfl rfl
  have bin (z b : Nat) : t.gdl.bin z b = if (z * 256 + b) / 256 ≠ arg then s.gdl.bin z b else 0 := by
    rw [gdl]
    refine (tblGet_filter zeroInt (fun k => decide (k / 256 ≠ arg)) s.gdl.glaze (z * 256 + b)).trans ?_
    exact if_congr decide_eq_true_iff rfl rfl
  refine ⟨t, ht, answered, fun b h => ?_, fun z b hne h => ?_⟩
  · rw [bin, if_neg (by omega)]
  · rw [bin, if_pos (by omega)]

end

end Sys2Proof.Machine
end

section
/-! Reports of the guidance engine (R231, R233, R235 to R237, R239), as O28 states them. -/

namespace Sys2Proof.Machine

/-! ## Limits -/

theorem abs_clampTo_le (l : Nat) (x : Int) : |clampTo l x| ≤ l := by
  rw [clampTo, abs_le]
  omega

theorem abs_clampS_le (x : Int) : |clampS 16 x| ≤ |x| := by
  have low := neg_abs_le x
  have high := le_abs_self x
  rw [clampS, abs_le]
  omega

/-- An integrator stays within its limit. -/
theorem abs_integrate_le (q15 : Bool) (i e : Int) (l : Nat) : |integrate q15 i e l| ≤ l := by
  cases q15
  · exact abs_clampTo_le ..
  · exact (abs_clampS_le _).trans (abs_clampTo_le ..)

/-! ## What supervision leaves of the engine -/

/-- The words of the engine that a report's trim passes through. -/
def Gdl.flow (g : Gdl) : List GdlReport × List Trim × Nat × Tbl (Option (Nat × Option (Int × Int))) :=
  (g.reports, g.trims, g.computed, g.out)

/-- The words of a loop that steer. -/
def LoopSt.steer (l : LoopSt) : Bool × Int × Int × Int := (l.enabled, l.iS, l.iY, l.eY)

/-- The flow is as it was, and so is the steering of loop `i` where it is enabled. -/
def KeepsCourse (i : Nat) (g g' : Gdl) : Prop :=
  g'.flow = g.flow ∧ ((g.loop i).enabled = true → (g'.loop i).steer = (g.loop i).steer)

theorem KeepsCourse.refl (i : Nat) (g : Gdl) : KeepsCourse i g g := ⟨rfl, fun _ => rfl⟩

theorem enabled_of_steer {l l' : LoopSt} (h : l'.steer = l.steer) : l'.enabled = l.enabled := congrArg (·.1) h

theorem KeepsCourse.trans {i : Nat} {g g' g'' : Gdl} (h : KeepsCourse i g g') (h' : KeepsCourse i g' g'') :
    KeepsCourse i g g'' := by
  obtain ⟨flow, steer⟩ := h
  obtain ⟨flow', steer'⟩ := h'
  exact ⟨flow'.trans flow, fun e => (steer' ((enabled_of_steer (steer e)).trans e)).trans (steer e)⟩

/-- An update of any loop that leaves its steering. -/
theorem keepsCourse_tblMod (i j : Nat) (g : Gdl) {f : LoopSt → LoopSt} (hf : ∀ l, (f l).steer = l.steer) :
    KeepsCourse i g { g with loops := tblMod loopDefault g.loops j f } := by
  refine ⟨rfl, fun e => ?_⟩
  by_cases h : i = j
  · subst h
    have fe : (f (g.loop i)).enabled = true := (enabled_of_steer (hf _)).trans e
    exact (congrArg LoopSt.steer (tblGet_put_of_ne (ne_loopDefault fe i) g.loops)).trans (hf _)
  · exact congrArg LoopSt.steer (tblGet_put_ne h)

/-- A loop's following-error count is cleared. -/
def calmLoop (t : Tbl LoopSt) (i : Nat) : Tbl LoopSt :=
  tblMod loopDefault t i fun l => { l with feStart := none, feMs := 0 }

theorem keepsCourse_calmed (i : Nat) (g : Gdl) (x : Stop) : KeepsCourse i g (g.calmed x) := by
  have pass (js : List Nat) (g : Gdl) : KeepsCourse i g { g with loops := js.foldl calmLoop g.loops } := by
    induction js generalizing g with
    | nil => exact .refl i g
    | cons j js ih =>
      exact (keepsCourse_tblMod i j g (f := fun l => { l with feStart := none, feMs := 0 }) fun _ => rfl).trans
        (ih { g with loops := calmLoop g.loops j })
  exact pass _ g

theorem keepsCourse_raiseStop (i : Nat) (s : State) (kind : StopKind) (source index : Nat) (qs : List Nat) :
    KeepsCourse i s.gdl (s.raiseStop kind source index qs).2.2.gdl := by
  obtain ⟨g, hg, kept⟩ := raiseStop_timing s kind source index qs
  rw [show (s.raiseStop kind source index qs).2.2.gdl = g from congrArg (·.2) hg]
  obtain rfl | ⟨x, rfl⟩ := kept
  · exact .refl i _
  · exact keepsCourse_calmed i _ x

theorem keepsCourse_followErr (i : Nat) (s : State) (r : Nat) (g : GDesc) (beyond : Bool) (t eS eY : Int) :
    KeepsCourse i s.gdl (s.followErr r g beyond t eS eY).gdl := by
  unfold State.followErr
  dsimp only
  split
  next => exact keepsCourse_tblMod i r s.gdl fun _ => rfl
  split
  next => exact keepsCourse_tblMod i r s.gdl fun _ => rfl
  next =>
    rw [emit_gdl]
    split
    · exact keepsCourse_tblMod i r s.gdl fun _ => rfl
    · exact (keepsCourse_tblMod i r s.gdl
        (f := fun l => { l with feStart := none, feMs := 0, trips := satAdd 16 l.trips 1 }) fun _ => rfl).trans
        (keepsCourse_raiseStop i _ .robot 4 r [])

/-! ## What a report forms -/

/-- What a computation forms: the along-track error, the integrators, the feedbacks and the trims. -/
structure Formed where
  eS : Int
  iS : Int
  iY : Int
  fbV : Int
  fbK : Int
  tv : Int
  tk : Int

/-- The integrators and the trims are within their descriptor's limits. -/
def Formed.within (f : Formed) (g : GDesc) : Prop :=
  |f.iS| ≤ g.iMaxS ∧ |f.iY| ≤ g.iMaxY ∧ |f.tv| ≤ g.trimV ∧ |f.tk| ≤ g.trimK

/-- A loop with what a report forms. -/
def LoopSt.taking (l : LoopSt) (x : GdlReport) (f : Formed) (off held : Bool) : LoopSt :=
  { l with
    iS := if held then l.iS else f.iS
    iY := if held then l.iY else f.iY
    eS := f.eS
    eY := x.eY
    trimV := if off || held then l.trimV else f.tv
    trimK := if off || held then l.trimK else f.tk }

/-- The loop takes what a report forms. -/
def State.took (s : State) (x : GdlReport) (f : Formed) (off held : Bool) : State :=
  (s.modLoop x.robot fun l => l.taking x f off held).modGdl fun y => { y with computed := satAdd 10 y.computed 1 }

/-- The trim of a report. -/
def Formed.trim (f : Formed) (x : GdlReport) (now : Nat) : Trim :=
  { robot := x.robot, slotEnd := x.slotEnd, ready := now, v := f.tv, k := f.tk }

/-- A trim that has a phase is staged. -/
def State.offered (s : State) (x : GdlReport) (f : Formed) (off held : Bool) (route : Nat) : State :=
  if off then s.emit evReportOffRoute x.robot (par x.sRep) route
  else if held || s.phasePassed x then s
  else (s.modGdl fun y => { y with trims := y.trims ++ [f.trim x s.time] }).item 4 x.robot
    (toLE 4 (par f.tv) ++ toLE 4 (par f.tk) ++ [0])

/-- Supervision, suspended under a stop. -/
def State.supervised (s : State) (x : GdlReport) (g : GDesc) (t eS : Int) (beyond held : Bool) : State :=
  if held then s.modLoop x.robot fun l => { l with feStart := none, feMs := 0 }
  else s.followErr x.robot g beyond t eS x.eY

theorem computeReport_eq (s : State) (x : GdlReport) (t : Int) (l : LoopSt) (g : GDesc) (held : Bool) :
    ∃ (f : Formed) (route : Nat) (beyond : Bool), f.within g ∧ s.computeReport x t l g held =
      (((if held then s else s.glazeLearn x.robot l x.sRep x.vRep f.fbV f.fbK).took x f (!s.onRoute x) held).offered x f
        (!s.onRoute x) held route).supervised x g t f.eS beyond held := by
  unfold State.computeReport
  dsimp only
  generalize (tblGet chanDefault s.stk.chans x.robot).stroke.at t = pl
  obtain ⟨p, v, a⟩ := pl
  exact ⟨⟨_, _, _, _, _, _, _⟩, _, _, ⟨abs_integrate_le .., abs_integrate_le .., abs_clampTo_le .., abs_clampTo_le ..⟩,
    rfl⟩

/-- Nothing changed in the flow and in the loops, and no time passed. -/
def OnlyLearns (s t : State) : Prop :=
  (∃ z a, t.gdl = { s.gdl with glaze := z, satAt := a }) ∧ t.time = s.time

theorem glazeLearn_learns (s : State) (r : Nat) (l : LoopSt) (sRep vRep fbV fbK : Int) :
    OnlyLearns s (s.glazeLearn r l sRep vRep fbV fbK) := by
  have nothing : OnlyLearns s s := ⟨⟨_, _, rfl⟩, rfl⟩
  unfold State.glazeLearn
  dsimp only
  split
  next z _ =>
    refine iteInduction (motive := OnlyLearns s) (fun _ => ?_) fun _ => nothing
    refine iteInduction (motive := OnlyLearns s) (fun _ => ?_) fun _ => ⟨⟨_, _, rfl⟩, rfl⟩
    refine ⟨⟨_, _, (emit_gdl ..).trans rfl⟩, ?_⟩
    simp [State.time]
  next => exact nothing

theorem took_steer {s : State} {x : GdlReport} (he : (s.gdl.loop x.robot).enabled = true) (f : Formed)
    (off held : Bool) : ((s.took x f off held).gdl.loop x.robot).steer =
      (true, if held then (s.gdl.loop x.robot).iS else f.iS, if held then (s.gdl.loop x.robot).iY else f.iY, x.eY) := by
  refine (congrArg LoopSt.steer (modLoop_self (f := fun l => l.taking x f off held) he)).trans ?_
  rw [LoopSt.steer, LoopSt.taking, he]

/-- The trim that a report stages, if any: under a stop, off its route and after its phase it stages none. -/
def State.newTrims (s : State) (x : GdlReport) (f : Formed) (off held : Bool) : List Trim :=
  if off || held || s.phasePassed x then [] else [f.trim x s.time]

theorem offered_gdl (s : State) (x : GdlReport) (f : Formed) (off held : Bool) (route : Nat) :
    (s.offered x f off held route).gdl = 
      { s.gdl with trims := s.gdl.trims ++ s.newTrims x f off held } := by
  unfold State.offered State.newTrims
  cases off
  · cases hp : held || s.phasePassed x
    · rw [if_neg Bool.false_ne_true, if_neg Bool.false_ne_true, Bool.false_or, hp]
      rfl
    · rw [if_neg Bool.false_ne_true, if_pos rfl, Bool.false_or, hp, if_pos rfl, List.append_nil]
  · rw [if_pos rfl, emit_gdl, Bool.true_or, Bool.true_or, if_pos rfl, List.append_nil]

theorem keepsCourse_supervised (s : State) (x : GdlReport) (g : GDesc) (t eS : Int) (beyond held : Bool) :
    KeepsCourse x.robot s.gdl (s.supervised x g t eS beyond held).gdl := by
  unfold State.supervised
  split
  · exact keepsCourse_tblMod _ _ s.gdl fun _ => rfl
  · exact keepsCourse_followErr ..

/-- A computation forms values within their limits: the loop takes them, its integrators held under a stop, and a trim
that has a phase is staged. -/
theorem computeReport_forms {s : State} {x : GdlReport} (he : (s.gdl.loop x.robot).enabled = true) (t : Int)
    (l : LoopSt) (g : GDesc) (held : Bool) : ∃ f : Formed, f.within g ∧
      (s.computeReport x t l g held).gdl.flow = (s.gdl.reports,
        s.gdl.trims ++ s.newTrims x f (!s.onRoute x) held, satAdd 10 s.gdl.computed 1, s.gdl.out) ∧
      ((s.computeReport x t l g held).gdl.loop x.robot).steer =
        (true, if held then (s.gdl.loop x.robot).iS else f.iS,
          if held then (s.gdl.loop x.robot).iY else f.iY, x.eY) := by
  obtain ⟨f, route, beyond, within, eq⟩ := computeReport_eq s x t l g held
  rw [eq]
  obtain ⟨⟨z, a, gdl⟩, time⟩ : OnlyLearns s (if held then s else s.glazeLearn x.robot l x.sRep x.vRep f.fbV f.fbK) :=
    iteInduction (fun _ => ⟨⟨_, _, rfl⟩, rfl⟩) fun _ => glazeLearn_learns ..
  generalize (if held then s else s.glazeLearn x.robot l x.sRep x.vRep f.fbV f.fbK) = u at gdl time ⊢
  have loop : u.gdl.loop x.robot = s.gdl.loop x.robot := by rw [gdl]; rfl
  have took := took_steer (s := u) (loop ▸ he) f (!s.onRoute x) held
  obtain ⟨flow, steer⟩ := keepsCourse_supervised
    ((u.took x f (!s.onRoute x) held).offered x f (!s.onRoute x) held route) x g t f.eS beyond held
  rw [offered_gdl] at flow steer
  refine ⟨f, within, flow.trans ?_, (steer (congrArg (·.1) took)).trans (loop ▸ took)⟩
  have passed : (u.took x f (!s.onRoute x) held).phasePassed x = s.phasePassed x := by
    rw [State.phasePassed, State.phasePassed, show (u.took x f (!s.onRoute x) held).gdl.out = s.gdl.out by
      rw [show (u.took x f (!s.onRoute x) held).gdl.out = u.gdl.out from rfl, gdl]]
  rw [State.newTrims, passed, show (u.took x f (!s.onRoute x) held).time = s.time from time, Gdl.flow]
  dsimp only
  rw [show (u.took x f (!s.onRoute x) held).gdl.trims = u.gdl.trims from rfl,
    show (u.took x f (!s.onRoute x) held).gdl.reports = u.gdl.reports from rfl,
    show (u.took x f (!s.onRoute x) held).gdl.computed = satAdd 10 u.gdl.computed 1 from rfl,
    show (u.took x f (!s.onRoute x) held).gdl.out = u.gdl.out from rfl, gdl]
  rfl

/-! ## A report's turn -/

section
variable {s : State} {x : GdlReport} {rest : List GdlReport}

theorem guidanceReport_waits (hr : s.gdl.reports = x :: rest) (h : s.time < x.slotEnd ∨ s.clearsFirst x = true) :
    exec .guidanceReport s = .next s := by
  refine congrArg Host.Outcome.next ?_
  rw [hr]
  exact if_pos (by simpa using h)

theorem guidanceReport_takes (hr : s.gdl.reports = x :: rest) (ht : x.slotEnd ≤ s.time)
    (hc : s.clearsFirst x = false) : exec .guidanceReport s =
      .next ((s.modGdl fun y => { y with reports := rest }).takeReportIn x).lateCheck := by
  refine congrArg Host.Outcome.next ?_
  rw [hr]
  exact if_neg (by simp [hc, Nat.not_lt.mpr ht])

theorem takeReportIn_disabled (he : (s.gdl.loop x.robot).enabled = false) : s.takeReportIn x = s := by
  rw [State.takeReportIn, he]
  rfl

theorem takeReportIn_stale (he : (s.gdl.loop x.robot).enabled = true) (hx : x.stale = true) :
    s.takeReportIn x = s.modGdl fun y => { y with stale := satAdd 12 y.stale 1 } := by
  rw [State.takeReportIn, he, hx]
  rfl

theorem takeReportIn_computes {g : GDesc} (he : (s.gdl.loop x.robot).enabled = true) (hx : x.stale = false)
    (hg : s.gdesc (s.gdl.loop x.robot).desc = some g) :
    s.takeReportIn x = s.computeReport x x.at (s.gdl.loop x.robot) g (s.fleet.covered x.robot) := by
  rw [State.takeReportIn, if_neg (by simp [he]), if_neg (by simp [hx]), hg]

/-- A report that is taken: its trim where it has a phase, its loop's integrators, its error and the count. -/
theorem guidanceReport_computes {g : GDesc} (hr : s.gdl.reports = x :: rest) (ht : x.slotEnd ≤ s.time)
    (hc : s.clearsFirst x = false) (he : (s.gdl.loop x.robot).enabled = true)
    (hg : s.gdesc (s.gdl.loop x.robot).desc = some g) (hx : x.stale = false) :
    ∃ (t : State) (f : Formed), exec .guidanceReport s = .next t ∧ f.within g ∧
      t.gdl.flow = (rest, s.gdl.trims ++ s.newTrims x f (!s.onRoute x) (s.fleet.covered x.robot),
        satAdd 10 s.gdl.computed 1, s.gdl.out) ∧
      (t.gdl.loop x.robot).steer = (true, if s.fleet.covered x.robot then (s.gdl.loop x.robot).iS else f.iS,
        if s.fleet.covered x.robot then (s.gdl.loop x.robot).iY else f.iY, x.eY) := by
  obtain ⟨f, within, flow, steer⟩ := computeReport_forms (s := s.modGdl fun y => { y with reports := rest }) he x.at
    (s.gdl.loop x.robot) g (s.fleet.covered x.robot)
  refine ⟨_, f, guidanceReport_takes hr ht hc, within, ?_⟩
  rw [takeReportIn_computes (s := s.modGdl fun y => { y with reports := rest }) he hx hg, lateCheck_gdl]
  exact ⟨flow, steer⟩

end

end Sys2Proof.Machine
end

section
/-! Trims at their phase, and a drive's duties (R46, R236, R238), as O28 states them. -/

namespace Sys2Proof.Machine

/-! ## Late outputs -/

@[simp] theorem lateOutput_gdl (s : State) (kind index : Nat) : (s.lateOutput kind index).gdl = s.gdl := emit_gdl ..
@[simp] theorem lateOutput_air (s : State) (kind index : Nat) : (s.lateOutput kind index).air = s.air := emit_air ..
@[simp] theorem lateOutput_drv (s : State) (kind index : Nat) : (s.lateOutput kind index).drv = s.drv := emit_drv ..

@[simp] theorem lateOutput_tfc (s : State) (kind index : Nat) :
    (s.lateOutput kind index).tfc = { s.tfc with lateOut := satAdd 32 s.tfc.lateOut 1 } := emit_tfc ..

@[simp] theorem lateOutput_outLate (s : State) (kind index : Nat) : (s.lateOutput kind index).epoch.outLate = true :=
  (congrArg Epoch.outLate (emit_epoch ..)).trans rfl

/-! ## A robot's trims -/

/-- A report of the phase that has no trim yet owes one. -/
def State.owes (s : State) (r phase : Nat) : Bool :=
  s.gdl.reports.any fun x => x.robot == r && decide (x.slotEnd + 400000 ≤ phase) && s.trimDue x

/-- The trims staged for the phase. -/
def State.trimsOf (s : State) (r phase : Nat) : List Trim :=
  s.gdl.trims.filter fun x => x.robot == r && decide (x.slotEnd + 400000 ≤ phase)

/-- The trims of a phase leave, those that are not released counted as superseded. -/
def State.withdrawn (s : State) (r phase : Nat) : State :=
  s.modGdl fun g =>
    { g with
      trims := g.trims.filter fun x => !(x.robot == r && decide (x.slotEnd + 400000 ≤ phase))
      superseded := satAdd 10 g.superseded ((s.trimsOf r phase).length - bit !(s.owes r phase)) }

/-- What the phase released is kept. -/
def State.phaseServed (s : State) (r phase : Nat) (x : Option (Int × Int)) : State :=
  s.modGdl fun g => { g with out := tblPut (fun _ => none) g.out r (some (phase, x)) }

section
variable {s : State} {r phase : Nat}

theorem releaseTrim_once (h : ∀ p x, tblGet (fun _ => none) s.gdl.out r = some (p, x) → p ≠ phase) (sent : Bool) :
    s.releaseTrim r phase sent = State.releaseTrim.go r phase sent s := by
  unfold State.releaseTrim
  split
  next p x hp => exact if_neg (h p x hp)
  next => rfl

/-- A phase of a robot whose loop is enabled and that no stop covers, not served before. -/
def State.serves (s : State) (r phase : Nat) : Prop :=
  (∀ p x, tblGet (fun _ => none) s.gdl.out r = some (p, x) → p ≠ phase) ∧ (s.gdl.loop r).enabled = true ∧
    s.fleet.covered r = false

/-- The phase is served without a trim, and counted as a late output. -/
def State.lateServed (s : State) (r phase : Nat) : State :=
  ((s.withdrawn r phase).lateOutput 0 r).phaseServed r phase none

theorem releaseTrim_eq (h : s.serves r phase) : (s.releaseTrim r phase true).2 =
    if s.owes r phase then s.lateServed r phase
    else (s.trimsOf r phase).getLast?.elim ((s.withdrawn r phase).phaseServed r phase none) fun x =>
      if phase < x.ready + 200 then s.lateServed r phase
      else (s.withdrawn r phase).phaseServed r phase (some (x.v, x.k)) := by
  obtain ⟨new, enabled, free⟩ := h
  rw [releaseTrim_once new, State.releaseTrim.go, State.lateServed, State.withdrawn]
  dsimp only
  rw [enabled, free]
  cases owes : s.owes r phase
  · rw [State.owes] at owes
    rw [owes]
    cases last : (s.trimsOf r phase).getLast? with
    | none =>
      rw [State.trimsOf] at last
      rw [last]
      rfl
    | some x =>
      rw [State.trimsOf] at last
      rw [last]
      exact apply_ite Prod.snd (phase < x.ready + 200) _ _
  · rw [State.owes] at owes
    rw [owes]
    rfl

theorem releaseTrim_late (h : s.serves r phase)
    (late : s.owes r phase = true ∨ ∃ x, (s.trimsOf r phase).getLast? = some x ∧ phase < x.ready + 200) :
    (s.releaseTrim r phase true).2 = s.lateServed r phase := by
  rw [releaseTrim_eq h]
  split
  next => rfl
  next owes =>
    obtain ⟨x, last, behind⟩ := late.resolve_left owes
    rw [last, Option.elim_some, if_pos behind]

theorem releaseTrim_inTime (h : s.serves r phase) {x : Trim} (owes : s.owes r phase = false)
    (last : (s.trimsOf r phase).getLast? = some x) (ready : x.ready + 200 ≤ phase) :
    (s.releaseTrim r phase true).2 = (s.withdrawn r phase).phaseServed r phase (some (x.v, x.k)) := by
  rw [releaseTrim_eq h, owes, last, Option.elim_some, if_neg Bool.false_ne_true, if_neg (Nat.not_lt.mpr ready)]

theorem releaseTrim_none (h : s.serves r phase) (owes : s.owes r phase = false) (none : s.trimsOf r phase = []) :
    (s.releaseTrim r phase true).2 = (s.withdrawn r phase).phaseServed r phase .none := by
  rw [releaseTrim_eq h, owes, none]
  rfl

theorem releaseTrim_elim {P : State → Prop} (h : s.serves r phase) (late : P (s.lateServed r phase))
    (served : ∀ x, P ((s.withdrawn r phase).phaseServed r phase x)) : P (s.releaseTrim r phase true).2 := by
  rw [releaseTrim_eq h]
  split
  next => exact late
  next =>
    cases (s.trimsOf r phase).getLast? with
    | none => exact served none
    | some x =>
      rw [Option.elim_some]
      split
      next => exact late
      next => exact served _

theorem phaseServed_gdl (s : State) (r phase : Nat) (x : Option (Int × Int)) : (s.phaseServed r phase x).gdl =
    { s.gdl with out := tblPut (fun _ => none) s.gdl.out r (some (phase, x)) } := rfl

theorem phaseServed_air (s : State) (r phase : Nat) (x) : (s.phaseServed r phase x).air = s.air := rfl
theorem phaseServed_tfc (s : State) (r phase : Nat) (x) : (s.phaseServed r phase x).tfc = s.tfc := rfl
theorem phaseServed_epoch (s : State) (r phase : Nat) (x) : (s.phaseServed r phase x).epoch = s.epoch := rfl

theorem lateServed_gdl (s : State) (r phase : Nat) :
    (s.lateServed r phase).gdl = ((s.withdrawn r phase).phaseServed r phase none).gdl := by
  rw [State.lateServed, phaseServed_gdl, phaseServed_gdl, lateOutput_gdl]

theorem lateServed_air (s : State) (r phase : Nat) : (s.lateServed r phase).air = s.air := by
  rw [State.lateServed, phaseServed_air, lateOutput_air, State.withdrawn]
  rfl

theorem lateServed_lateOut (s : State) (r phase : Nat) :
    (s.lateServed r phase).tfc.lateOut = satAdd 32 s.tfc.lateOut 1 := by
  rw [State.lateServed, phaseServed_tfc, lateOutput_tfc, State.withdrawn]
  rfl

theorem lateServed_outLate (s : State) (r phase : Nat) : (s.lateServed r phase).epoch.outLate = true := by
  rw [State.lateServed, phaseServed_epoch, lateOutput_outLate]

theorem releaseTrim_trims (h : s.serves r phase) : (s.releaseTrim r phase true).2.gdl.trims =
    s.gdl.trims.filter fun x => !(x.robot == r && decide (x.slotEnd + 400000 ≤ phase)) :=
  releaseTrim_elim (P := fun t => t.gdl.trims = (s.withdrawn r phase).gdl.trims) h (by rw [lateServed_gdl]; rfl)
    fun _ => rfl

theorem releaseTrim_air (h : s.serves r phase) : (s.releaseTrim r phase true).2.air = s.air :=
  releaseTrim_elim (P := fun t => t.air = s.air) h (lateServed_air s r phase) fun _ => rfl

/-! ## The phase of a robot in one chain -/

theorem trimPhase_serves {c : Fin 2} (h : (s.air.downNow c).any (·.station == r) = true)
    (hp : phase = s.air.spanStart c.val) : s.trimPhase r c = (s.releaseTrim r phase true).2 := by
  rw [State.trimPhase, if_pos h, hp]

theorem trimPhase_idle {c : Fin 2} (h : (s.air.downNow c).any (·.station == r) = false) : s.trimPhase r c = s :=
  if_neg (by rw [h]; exact Bool.false_ne_true)

/-- The phase of a robot that has its slot in one chain alone. -/
theorem outputPhase_trim {r : Fin 256} {c : Fin 2} (h : s.serves r phase)
    (here : (s.air.downNow c).any (·.station == r.val) = true)
    (there : ∀ c', c' ≠ c → (s.air.downNow c').any (·.station == r.val) = false) (hp : phase = s.air.spanStart c) :
    exec (.outputPhase 0 r) s = .next (s.releaseTrim r phase true).2 := by
  refine congrArg Host.Outcome.next ((if_pos r.isLt).trans ?_)
  have idle (c' : Fin 2) (hc : c' ≠ c) :
      (s.releaseTrim r phase true).2.trimPhase r c' = (s.releaseTrim r phase true).2 :=
    trimPhase_idle (by rw [releaseTrim_air h]; exact there c' hc)
  obtain rfl | rfl : c = 0 ∨ c = 1 := by omega
  · rw [trimPhase_serves here hp, idle 1 (by decide)]
  · rw [trimPhase_idle (there 0 (by decide)), trimPhase_serves here hp]

end

/-! ## A drive's duties -/

/-- Phase A of a drive, and phase B where `b` is set. -/
def Drv.phase (x : Drv) (b : Bool) : PhaseSt := if b then x.b else x.a

def Drv.withPhase (x : Drv) (b : Bool) (ph : PhaseSt) : Drv := if b then { x with b := ph } else { x with a := ph }

@[simp] theorem phase_withPhase (x : Drv) (b : Bool) (ph : PhaseSt) : (x.withPhase b ph).phase b = ph := by
  cases b <;> rfl

@[simp] theorem phase_withPhase_other (x : Drv) (b : Bool) (ph : PhaseSt) :
    (x.withPhase b ph).phase (!b) = x.phase (!b) := by
  cases b <;> rfl

theorem phaseA_withPhaseB (x : Drv) (ph : PhaseSt) : (x.withPhase true ph).phase false = x.phase false := rfl

@[simp] theorem suspended_withPhase (x : Drv) (b : Bool) (ph : PhaseSt) :
    (x.withPhase b ph).suspended = x.suspended := by
  cases b <;> rfl

/-- The loop of a phase. -/
def phaseLoop (d : Fin 8) (b : Bool) : Nat := 256 + 2 * d.val + bit b

theorem phaseLoop_true (d : Fin 8) : phaseLoop d true = 257 + 2 * d.val := by
  rw [phaseLoop, bit, if_pos rfl]
  omega

/-- The duty that a phase has from a centre. -/
def State.dutyAt (s : State) (centre : Nat) (d : Fin 8) (b : Bool) : Int :=
  if (s.gdl.loop (phaseLoop d b)).enabled && !s.drv.ch[d].suspended then
    ((s.drv.ch[d].phase b).readyAt centre).getD (s.drv.ch[d].phase b).duty
  else 0

theorem releasePhase_drv (s : State) (centre : Nat) (d : Fin 8) (b : Bool) : ∃ due,
    (s.releasePhase centre d b).drv = { s.drv with ch := s.drv.ch.set d (s.drv.ch[d].withPhase b
      { s.drv.ch[d].phase b with duty := s.dutyAt centre d b, staged := none, due := due }) } := by
  refine ⟨(s.gdl.loop (phaseLoop d b)).enabled && !s.drv.ch[d].suspended, ?_⟩
  rw [State.releasePhase]
  dsimp only
  refine iteInduction (motive := fun t : State => t.drv = _) (fun _ => (lateOutput_drv ..).trans ?_) fun _ => ?_
  · rfl
  · rfl

theorem releasePhase_ch (s : State) (centre : Nat) (d : Fin 8) (b : Bool) : ∃ due,
    (s.releasePhase centre d b).drv.ch[d] = s.drv.ch[d].withPhase b
      { s.drv.ch[d].phase b with duty := s.dutyAt centre d b, staged := none, due := due } := by
  obtain ⟨due, drv⟩ := releasePhase_drv s centre d b
  exact ⟨due, by rw [drv]; exact vector_set_self ..⟩

theorem releasePhase_gdl (s : State) (centre : Nat) (d : Fin 8) (b : Bool) :
    (s.releasePhase centre d b).gdl = s.gdl := by
  rw [State.releasePhase]
  exact iteInduction (motive := fun t : State => t.gdl = s.gdl) (fun _ => lateOutput_gdl ..) fun _ => rfl

theorem dutyAt_of_other {s : State} {centre : Nat} {d : Fin 8} {b : Bool} :
    (s.releasePhase centre d b).dutyAt centre d (!b) = s.dutyAt centre d (!b) := by
  obtain ⟨due, ch⟩ := releasePhase_ch s centre d b
  rw [State.dutyAt, State.dutyAt, releasePhase_gdl, ch, suspended_withPhase, phase_withPhase_other]

theorem phase_centre (x : Drv) (centre : Nat) (b : Bool) : ({ x with centre := centre } : Drv).phase b = x.phase b := by
  cases b <;> rfl

/-- At a period centre the duties of both phases are released. -/
theorem outputPhase_duties {s : State} {centre : Nat} {d : Fin 8} (hc : centre = s.time / 50000)
    (h : s.drv.ch[d].centre < centre) : ∃ t, exec (.outputPhase 1 d) s = .next t ∧ t.drv.ch[d].centre = centre ∧
      ∀ b, (t.drv.ch[d].phase b).staged = none ∧ (t.drv.ch[d].phase b).duty = s.dutyAt centre d b := by
  let u := (s.releasePhase centre d false).releasePhase centre d true
  have due : (u.modDrvCh d fun x => { x with centre := centre }).drv.ch[d] = { u.drv.ch[d] with centre := centre } :=
    vector_set_self ..
  refine ⟨u.modDrvCh d fun x => { x with centre := centre }, ?_, by rw [due], fun b => ?_⟩
  · refine congrArg Host.Outcome.next ((dif_pos d.isLt).trans ?_)
    rw [← hc]
    exact if_pos h
  · rw [due, phase_centre]
    obtain ⟨_, a⟩ := releasePhase_ch s centre d false
    obtain ⟨_, b'⟩ := releasePhase_ch (s.releasePhase centre d false) centre d true
    cases b
    · rw [b', phaseA_withPhaseB, a, phase_withPhase]
      exact ⟨rfl, rfl⟩
    · rw [b', phase_withPhase]
      exact ⟨rfl, dutyAt_of_other (b := false)⟩

theorem outputPhase_once {s : State} {d : Fin 8} (h : s.time / 50000 ≤ s.drv.ch[d].centre) :
    exec (.outputPhase 1 d) s = .next s :=
  congrArg Host.Outcome.next ((dif_pos d.isLt).trans (if_neg (Nat.not_lt.mpr h)))

/-! ## The drive loop block -/

theorem abs_compute_le (g : DDesc) (i e : Int) : |(g.compute i e).2| ≤ g.dutyMax := by
  rw [DDesc.compute]
  split
  · exact abs_clampTo_le ..
  · exact abs_clampTo_le ..

/-- What the block's computations read and keep: the time, the loop descriptors and the loops' selection of them. -/
def State.loopBasis (s : State) : Nat × List Byte × (Nat → Bool × Nat) :=
  (s.time, s.loops, fun i => ((s.gdl.loop i).enabled, (s.gdl.loop i).desc))

/-- A phase of a drive that is not suspended has a duty staged within its limit, where its loop is enabled and
described, and is as it was where it is disabled; the rest of the drive is as it was. -/
def Stages (basis : Nat × List Byte × (Nat → Bool × Nat)) (d : Fin 8) (b : Bool) (x x' : Drv) : Prop :=
  x'.suspended = x.suspended ∧ x'.phase (!b) = x.phase (!b) ∧
    (x.suspended = false → (basis.2.2 (phaseLoop d b)).1 = true →
      (basis.2.2 (phaseLoop d b)).2 < (loopsHdr basis.2.1).dc → ∃ u, (x'.phase b).staged = some (u, basis.1) ∧
        |u| ≤ (ddescAt basis.2.1 (basis.2.2 (phaseLoop d b)).2).dutyMax) ∧
    ((basis.2.2 (phaseLoop d b)).1 = false → x'.phase b = x.phase b)

/-- A loop has its computation in the block. -/
def State.loopRuns (s : State) (d : Fin 8) (b : Bool) : Bool :=
  (s.gdl.loop (phaseLoop d b)).enabled && !s.drv.ch[d].suspended &&
    !decide ((loopsHdr s.loops).dc ≤ (s.gdl.loop (phaseLoop d b)).desc)

theorem loopRuns_not (s : State) (d : Fin 8) (b : Bool) : (!(s.gdl.loop (phaseLoop d b)).enabled ||
    s.drv.ch[d].suspended || decide ((loopsHdr s.loops).dc ≤ (s.gdl.loop (phaseLoop d b)).desc)) = !s.loopRuns d b := by
  rw [State.loopRuns, Bool.not_and, Bool.not_and, Bool.not_not, Bool.not_not]

theorem driveLoop_idle {s : State} {d : Fin 8} {b : Bool} (h : s.loopRuns d b = false) : s.driveLoop d b = s :=
  if_pos ((loopRuns_not s d b).trans (by rw [h]; rfl))

/-- A computation of a drive loop: its integrator and its duty. -/
def State.loopDuty (s : State) (d : Fin 8) (b : Bool) : Int × Int :=
  (ddescAt s.loops (s.gdl.loop (phaseLoop d b)).desc).compute (s.gdl.loop (phaseLoop d b)).iS
    ((s.drv.ch[d].phase b).ref - (s.drv.ch[d].phase b).i)

/-- A drive loop's computation is kept, and its duty staged. -/
def State.loopStaged (s : State) (d : Fin 8) (b : Bool) (c : Int × Int) : State :=
  (s.modLoop (phaseLoop d b) fun l => { l with iS := c.1, trimV := c.2 }).modDrv fun y =>
    { y with ch := y.ch.set d (s.drv.ch[d].withPhase b { s.drv.ch[d].phase b with staged := some (c.2, s.time) }) }

theorem driveLoop_runs {s : State} {d : Fin 8} {b : Bool} (h : s.loopRuns d b = true) :
    s.driveLoop d b = s.loopStaged d b (s.loopDuty d b) := by
  refine (if_neg (ne_of_eq_of_ne ((loopRuns_not s d b).trans (by rw [h]; rfl)) Bool.false_ne_true)).trans ?_
  cases b
  · rfl
  · rfl

/-- What a computation keeps holds after it, where it holds with the computed duty staged. -/
theorem driveLoop_elim {P : State → Prop} {s : State} {d : Fin 8} {b : Bool} (idle : P s)
    (runs : s.loopRuns d b = true → P (s.loopStaged d b (s.loopDuty d b))) : P (s.driveLoop d b) := by
  cases h : s.loopRuns d b
  · rwa [driveLoop_idle h]
  · rw [driveLoop_runs h]
    exact runs h

theorem loopRuns_enabled {s : State} {d : Fin 8} {b : Bool} (h : s.loopRuns d b = true) :
    (s.gdl.loop (phaseLoop d b)).enabled = true := by
  rw [State.loopRuns, Bool.and_eq_true, Bool.and_eq_true] at h
  exact h.1.1

theorem driveLoop_basis (s : State) (d : Fin 8) (b : Bool) : (s.driveLoop d b).loopBasis = s.loopBasis := by
  refine driveLoop_elim (P := fun t => t.loopBasis = s.loopBasis) rfl fun h => ?_
  refine Prod.ext rfl (Prod.ext rfl (funext fun i => ?_))
  by_cases hi : i = phaseLoop d b
  · subst hi
    have kept := congrArg (fun l : LoopSt => (l.enabled, l.desc)) (modLoop_self
      (f := fun l => { l with iS := (s.loopDuty d b).1, trimV := (s.loopDuty d b).2 }) (loopRuns_enabled h))
    exact kept
  · exact congrArg (fun l : LoopSt => (l.enabled, l.desc)) (modLoop_ne s _ hi)

theorem driveLoop_ne (s : State) {d j : Fin 8} (b : Bool) (h : j ≠ d) : (s.driveLoop d b).drv.ch[j] = s.drv.ch[j] :=
  driveLoop_elim (P := fun t => t.drv.ch[j] = s.drv.ch[j]) rfl fun _ => vector_set_ne _ _ h

theorem driveLoop_blockDue (s : State) (d : Fin 8) (b : Bool) : (s.driveLoop d b).drv.blockDue = s.drv.blockDue :=
  driveLoop_elim (P := fun t => t.drv.blockDue = s.drv.blockDue) rfl fun _ => rfl

theorem driveLoop_stages (s : State) (d : Fin 8) (b : Bool) :
    Stages s.loopBasis d b s.drv.ch[d] (s.driveLoop d b).drv.ch[d] := by
  cases h : s.loopRuns d b
  · rw [driveLoop_idle h]
    refine ⟨rfl, rfl, fun free enabled described => ?_, fun _ => rfl⟩
    have runs : s.loopRuns d b = true := by
      rw [State.loopRuns, free, Bool.and_eq_true, Bool.and_eq_true]
      exact ⟨⟨enabled, rfl⟩, congrArg not (decide_eq_false (Nat.not_le.mpr described))⟩
    exact absurd (h.symm.trans runs) Bool.false_ne_true
  · rw [driveLoop_runs h, show (s.loopStaged d b (s.loopDuty d b)).drv.ch[d] = s.drv.ch[d].withPhase b
      { s.drv.ch[d].phase b with staged := some ((s.loopDuty d b).2, s.time) } from vector_set_self ..]
    refine ⟨suspended_withPhase .., phase_withPhase_other .., fun _ _ _ => ⟨(s.loopDuty d b).2, ?_, ?_⟩, fun off => ?_⟩
    · rw [phase_withPhase]
      rfl
    · exact abs_compute_le ..
    · exact absurd (off.symm.trans (loopRuns_enabled h)) Bool.false_ne_true

/-- Both phases of a drive. -/
def State.driveLoops (s : State) (d : Fin 8) : State := (s.driveLoop d false).driveLoop d true

/-- The block stages the duties of every drive. -/
theorem driveLoops_stages (s : State) (d : Fin 8) : ∃ x, Stages s.loopBasis d false s.drv.ch[d] x ∧
    Stages s.loopBasis d true x ((List.finRange 8).foldl State.driveLoops s).drv.ch[d] :=
  foldl_each (c := State.loopBasis) (v := fun s => s.drv.ch) (f := State.driveLoops)
    (R := fun basis d x x' => ∃ y, Stages basis d false x y ∧ Stages basis d true y x')
    (fun s d => (driveLoop_basis ..).trans (driveLoop_basis s d false))
    (fun s _ _ h => (driveLoop_ne _ true h).trans (driveLoop_ne s false h))
    (fun s d => ⟨_, driveLoop_stages s d false,
      driveLoop_basis s d false ▸ driveLoop_stages (s.driveLoop d false) d true⟩) s d

/-- The block, in its run. -/
def State.blockRun (s : State) : State :=
  (List.finRange 8).foldl State.driveLoops (s.modDrv fun y => { y with blockDue := false })

theorem driveLoopBlock_runs {s : State} (h : s.drv.blockDue = true) : exec .driveLoopBlock s = .next s.blockRun :=
  congrArg Host.Outcome.next (if_neg (by rw [h]; decide))

theorem driveLoopBlock_waits {s : State} (h : s.drv.blockDue = false) : exec .driveLoopBlock s = .next s :=
  congrArg Host.Outcome.next (if_pos (by rw [h]; rfl))

theorem driveLoops_blockDue (s : State) :
    ((List.finRange 8).foldl State.driveLoops s).drv.blockDue = s.drv.blockDue :=
  foldl_keeps (fun s => s.drv.blockDue) State.driveLoops
    (fun s d => (driveLoop_blockDue _ d true).trans (driveLoop_blockDue s d false)) _ s

theorem blockRun_blockDue (s : State) : s.blockRun.drv.blockDue = false := by
  rw [State.blockRun, driveLoops_blockDue]
  rfl

theorem blockRun_stages (s : State) (d : Fin 8) : ∃ x, Stages s.loopBasis d false s.drv.ch[d] x ∧
    Stages s.loopBasis d true x s.blockRun.drv.ch[d] := by
  rw [State.blockRun]
  exact driveLoops_stages (s.modDrv fun y => { y with blockDue := false }) d

end Sys2Proof.Machine
end

section
/-! The guidance engine as a whole (R46, R230 to R242): O28. -/

namespace Sys2Proof.Machine

/-- A report that is taken under a stop forms no trim, and the integrators hold. -/
theorem newTrims_held (s : State) (x : GdlReport) (f : Formed) (off : Bool) : s.newTrims x f off true = [] :=
  if_pos (by rw [Bool.or_true, Bool.true_or])

theorem newTrims_none {s : State} {x : GdlReport} (h : s.onRoute x = false ∨ s.phasePassed x = true) (f : Formed)
    (held : Bool) : s.newTrims x f (!s.onRoute x) held = [] :=
  if_pos (by obtain h | h := h <;> simp [h])

theorem newTrims_free {s : State} {x : GdlReport} (ho : s.onRoute x = true) (hp : s.phasePassed x = false)
    (f : Formed) : s.newTrims x f (!s.onRoute x) false = [f.trim x s.time] :=
  if_neg (by simp [ho, hp])

/-- A block leaves both phases of a drive that is not suspended staged or as they were. -/
theorem blockRun_phase {s : State} {d : Fin 8} (free : s.drv.ch[d].suspended = false) (b : Bool) :
    ((s.gdl.loop (phaseLoop d b)).enabled = true →
      (s.gdl.loop (phaseLoop d b)).desc < (loopsHdr s.loops).dc →
      ∃ u, (s.blockRun.drv.ch[d].phase b).staged = some (u, s.time) ∧
        |u| ≤ (ddescAt s.loops (s.gdl.loop (phaseLoop d b)).desc).dutyMax) ∧
    ((s.gdl.loop (phaseLoop d b)).enabled = false → s.blockRun.drv.ch[d].phase b = s.drv.ch[d].phase b) := by
  obtain ⟨x, ⟨still, b_same, a_staged, a_same⟩, -, a_kept, b_staged, b_kept⟩ := blockRun_stages s d
  cases b
  · rw [show s.blockRun.drv.ch[d].phase false = x.phase false from a_kept]
    exact ⟨a_staged free, a_same⟩
  · rw [← show x.phase true = s.drv.ch[d].phase true from b_same]
    exact ⟨b_staged (still.trans free), b_kept⟩

/-- Settles O28: a submission, a report, a phase and the drive loop block each by the lemmas about its steps. -/
theorem guidanceLoops : Obligations.GuidanceLoops := by
  unfold Obligations.GuidanceLoops
  refine ⟨fun r rest loop arg s hb hl hm ha => ⟨?enable, ?disable, ?reset, ?clear, ?learn⟩,
    fun x rest s hr => ⟨guidanceReport_waits hr, fun ht hc => ⟨?disabled, ?stale, ?taken⟩⟩, ?trim, ?duty, ?pulse,
    fun s => ⟨driveLoopBlock_waits, ?block⟩⟩
  case enable =>
    rintro hc range zero _ _ _ rfl rfl table rfl
    have ok : s.enableOk arg := ⟨range, zero, table⟩
    refine ⟨fun hd => ?_, fun hd => loopEnable_undescribed ⟨hb, hl, hm, ha⟩ hc ok hd⟩
    obtain ⟨t, ht, answered, loop⟩ := loopEnable_enables ⟨hb, hl, hm, ha⟩ hc ok hd
    refine ⟨t, ht, answered, ?_⟩
    rw [loop]
    exact ⟨rfl, rfl, rfl, rfl, rfl, rfl⟩
  case disable =>
    exact fun hc h0 => ⟨loopDisable_enabled ⟨hb, hl, hm, ha⟩ hc h0, loopDisable_disabled ⟨hb, hl, hm, ha⟩ hc h0⟩
  case reset =>
    refine fun hc h0 => ⟨fun he => ?_, loopReset_disabled ⟨hb, hl, hm, ha⟩ hc h0⟩
    obtain ⟨t, ht, answered, loop⟩ := loopReset_enabled ⟨hb, hl, hm, ha⟩ hc h0 he
    refine ⟨t, ht, answered, ?_⟩
    rw [loop]
    exact ⟨rfl, rfl, he⟩
  case clear => exact fun hc h0 hz => glazeClear_clears ⟨hb, hl, hm, ha⟩ hc h0 hz
  case learn => exact fun hc h2 => ⟨learn_enabled ⟨hb, hl, hm, ha⟩ hc h2, learn_disabled ⟨hb, hl, hm, ha⟩ hc h2⟩
  case disabled =>
    intro he
    refine ⟨_, guidanceReport_takes hr ht hc, ?_⟩
    rw [lateCheck_gdl, takeReportIn_disabled (s := s.modGdl fun y => { y with reports := rest }) he]
    rfl
  case stale =>
    intro he hx
    refine ⟨_, guidanceReport_takes hr ht hc, ?_⟩
    rw [lateCheck_gdl, takeReportIn_stale (s := s.modGdl fun y => { y with reports := rest }) he hx]
    rfl
  case taken =>
    intro g he hg hx
    obtain ⟨t, f, step, ⟨iS, iY, tv, tk⟩, flow, steer⟩ := guidanceReport_computes hr ht hc he hg hx
    simp only [Gdl.flow, LoopSt.steer, Prod.mk.injEq] at flow steer
    obtain ⟨reports, trims, computed, -⟩ := flow
    obtain ⟨-, tS, tY, eY⟩ := steer
    refine ⟨t, step, reports, computed, eY, fun covered => ?_, fun free => ?_⟩
    · rw [trims, tS, tY, covered, newTrims_held, List.append_nil]
      exact ⟨rfl, rfl, rfl⟩
    · rw [trims, tS, tY, free]
      refine ⟨iS, iY, fun ho hp => ⟨f.trim x s.time, ?_, rfl, rfl, rfl, tv, tk⟩, fun none => ?_⟩
      · rw [newTrims_free ho hp]
      · rw [newTrims_none none, List.append_nil]
  case trim =>
    intro r c phase s here there hp new enabled free owed elig
    have serves : s.serves r phase := ⟨new, enabled, free⟩
    refine ⟨_, outputPhase_trim serves here there hp, releaseTrim_trims serves, fun x owes last ready => ?_,
      fun late => ?_, fun owes none => ?_⟩
    · rw [releaseTrim_inTime serves owes last ready]
      exact ⟨rfl, rfl⟩
    · rw [releaseTrim_late serves late, lateServed_lateOut, lateServed_outLate, lateServed_gdl]
      exact ⟨rfl, rfl, rfl⟩
    · rw [releaseTrim_none serves owes none]
      exact ⟨rfl, rfl⟩
  case duty =>
    rintro d _ s rfl
    refine ⟨outputPhase_once, fun h => ?_⟩
    obtain ⟨t, step, centre, duties⟩ := outputPhase_duties rfl h
    obtain ⟨aStaged, aDuty⟩ := duties false
    obtain ⟨bStaged, bDuty⟩ := duties true
    rw [← phaseLoop_true]
    exact ⟨t, step, centre, aStaged, bStaged, aDuty, bDuty⟩
  case pulse => exact fun _ _ => rfl
  case block =>
    refine fun due => ⟨_, driveLoopBlock_runs due, blockRun_blockDue s, fun d free => ?_⟩
    obtain ⟨a, a'⟩ := blockRun_phase free false
    obtain ⟨b, -⟩ := blockRun_phase free true
    generalize s.blockRun.drv.ch[d] = x at a a' b ⊢
    rw [← phaseLoop_true]
    exact ⟨a, a', b⟩

end Sys2Proof.Machine
end

section
/-! Instruction words of an Easel (Tables 4-1 to 4-12): a word is its fields side by side, a field reads what was
put there, and so each word decodes to its instruction. -/

namespace Sys2Proof

open Sys2Proof.Machine

/-! ## Fields side by side -/

/-- The number `x` above the `k` bits of `y`. -/
def above (x k y : Nat) : Nat := x * 2 ^ k + y

/-- A field below the boundary reads the lower part. -/
theorem bitsOf_above_low {x k y l w : Nat} (h : l + w ≤ k) : bitsOf (above x k y) l w = bitsOf y l w := by
  obtain ⟨m, rfl⟩ := Nat.exists_eq_add_of_le h
  have e : x * 2 ^ (l + w + m) + y = y + 2 ^ l * (2 ^ w * (x * 2 ^ m)) := by ring
  rw [bitsOf, bitsOf, above, e, Nat.add_mul_div_left _ _ (Nat.two_pow_pos l), Nat.add_mul_mod_self_left]

/-- A field from the boundary on reads the upper part. -/
theorem bitsOf_above_high {x k y l w : Nat} (hy : y < 2 ^ k) (h : k ≤ l) :
    bitsOf (above x k y) l w = bitsOf x (l - k) w := by
  obtain ⟨m, rfl⟩ := Nat.exists_eq_add_of_le h
  rw [bitsOf, bitsOf, above, Nat.pow_add, ← Nat.div_div_eq_div_mul, Nat.mul_comm x,
    Nat.mul_add_div (Nat.two_pow_pos k), Nat.div_eq_of_lt hy, Nat.add_zero, Nat.add_sub_cancel_left]

/-- A field over the boundary reads some of each part. -/
theorem bitsOf_above_across {x k y l w : Nat} (hy : y < 2 ^ k) (hl : l < k) (hk : k < l + w) :
    bitsOf (above x k y) l w = bitsOf x 0 (l + w - k) * 2 ^ (k - l) + bitsOf y l (k - l) := by
  obtain ⟨m, rfl⟩ := Nat.exists_eq_add_of_lt hl
  obtain ⟨n, hn⟩ := Nat.exists_eq_add_of_lt hk
  obtain rfl : w = (m + 1) + (n + 1) := by omega
  have hq : y / 2 ^ l < 2 ^ (m + 1) := by
    rw [Nat.div_lt_iff_lt_mul (Nat.two_pow_pos l), ← Nat.pow_add]
    exact lt_of_lt_of_eq hy (by congr 1; omega)
  have e : x * 2 ^ (l + m + 1) + y = y + 2 ^ l * (2 ^ (m + 1) * x) := by ring
  have h1 : l + (m + 1 + (n + 1)) - (l + m + 1) = n + 1 := by omega
  have h2 : l + m + 1 - l = m + 1 := by omega
  rw [bitsOf, bitsOf, bitsOf, above, h1, h2, e, Nat.add_mul_div_left _ _ (Nat.two_pow_pos l),
    Nat.pow_add 2 (m + 1) (n + 1), Nat.mod_mul, Nat.add_mul_mod_self_left, Nat.add_mul_div_left _ _ (Nat.two_pow_pos
      (m + 1)),
    Nat.div_eq_of_lt hq, Nat.pow_zero, Nat.div_one, Nat.zero_add, Nat.mul_comm (2 ^ (m + 1)), Nat.add_comm]

@[simp] theorem bitsOf_whole {x w : Nat} (h : x < 2 ^ w) : bitsOf x 0 w = x := by
  rw [bitsOf, Nat.pow_zero, Nat.div_one, Nat.mod_eq_of_lt h]

@[simp] theorem bitsOf_past {x l w : Nat} (h : x < 2 ^ l) : bitsOf x l w = 0 := by
  rw [bitsOf, Nat.div_eq_of_lt h, Nat.zero_mod]

@[simp] theorem bitsOf_bit (b : Bool) : bitsOf (bit b) 0 1 = bit b := by cases b <;> rfl
@[simp] theorem bit_eq_one (b : Bool) : bit b = 1 ↔ b = true := by cases b <;> decide
@[simp] theorem bit_beq_one (b : Bool) : (bit b == 1) = b := by cases b <;> rfl

/-! ## Words taken apart

A word of a format is a chain of parts from bit 0 up. Decoding is shown for any word with these parts, so that no
proof computes with the word itself. -/

/-- What every field of `w` reads, where `w` is `x` above the `k` bits of `y`. -/
def Parts (w x k y : Nat) : Prop := ∀ l n : Nat, bitsOf w l n =
  if l + n ≤ k then bitsOf y l n else if k ≤ l then bitsOf x (l - k) n
  else bitsOf x 0 (l + n - k) * 2 ^ (k - l) + bitsOf y l (k - l)

theorem parts_above {x k y : Nat} (hy : y < 2 ^ k) : Parts (above x k y) x k y := by
  intro l n
  split_ifs with h h'
  · exact bitsOf_above_low h
  · exact bitsOf_above_high hy h'
  · exact bitsOf_above_across hy (by omega) (by omega)

/-! The parts of each format (Table 4-1). -/

def WordR (w op d a b f : Nat) : Prop := ∃ x y z, Parts w x 11 f ∧ Parts x y 5 b ∧ Parts y z 5 a ∧ Parts z op 5 d

def WordI (w op d a imm : Nat) : Prop := ∃ x y, Parts w x 16 imm ∧ Parts x y 5 a ∧ Parts y op 5 d

def WordM (w op t a m off : Nat) : Prop := ∃ x y z, Parts w x 15 off ∧ Parts x y 1 m ∧ Parts y z 5 a ∧ Parts z op 5 t

def WordV (w op vd va vb vc f : Nat) : Prop :=
  ∃ x y z u, Parts w x 10 f ∧ Parts x y 4 vc ∧ Parts y z 4 vb ∧ Parts z u 4 va ∧ Parts u op 4 vd

def WordVL (w v g lane kind : Nat) : Prop :=
  ∃ x y z u, Parts w x 12 0 ∧ Parts x y 2 kind ∧ Parts y z 3 lane ∧ Parts z u 5 g ∧ Parts u 0x24 4 v

def WordVM (w acc va vb f : Nat) : Prop :=
  ∃ x y z u, Parts w x 14 f ∧ Parts x y 4 vb ∧ Parts y z 4 va ∧ Parts z u 2 0 ∧ Parts u 0x22 2 acc

def WordVA (w v acc sh f : Nat) : Prop :=
  ∃ x y z, Parts w x 14 f ∧ Parts x y 6 sh ∧ Parts y z 2 acc ∧ Parts z 0x23 4 v

def WordB (w op a b off : Nat) : Prop := ∃ x y, Parts w x 16 off ∧ Parts x y 5 b ∧ Parts y op 5 a

def WordJ (w op off : Nat) : Prop := Parts w op 26 off

def WordX (w d f : Nat) : Prop := ∃ x, Parts w x 21 f ∧ Parts x 0x30 5 d

def WordFS (w sub d s t imm : Nat) : Prop :=
  ∃ x y z u, Parts w x 7 imm ∧ Parts x y 5 t ∧ Parts y z 5 s ∧ Parts z u 5 d ∧ Parts u 0x38 4 sub

def WordFA (w sub s task slot : Nat) : Prop :=
  ∃ x y z u, Parts w x 4 0 ∧ Parts x y 2 slot ∧ Parts y z 11 task ∧ Parts z u 5 s ∧ Parts u 0x39 4 sub

theorem wordOf_fmtR {op d a b f : Nat} (hd : d < 32 := by omega) (ha : a < 32 := by omega) (hb : b < 32 := by omega)
    (hf : f < 2048 := by omega) :
    WordR (fmtR op d a b f) op d a b f := by
  rw [show fmtR op d a b f = above (above (above (above op 5 d) 5 a) 5 b) 11 f by unfold fmtR above; ring]
  exact ⟨_, _, _, parts_above hf, parts_above hb, parts_above ha, parts_above hd⟩

theorem wordOf_fmtI {op d a imm : Nat} (hd : d < 32 := by omega) (ha : a < 32 := by omega) (himm : imm < 65536 :=
    by omega) :
    WordI (fmtI op d a imm) op d a imm := by
  rw [show fmtI op d a imm = above (above (above op 5 d) 5 a) 16 imm by unfold fmtI above; ring]
  exact ⟨_, _, parts_above himm, parts_above ha, parts_above hd⟩

theorem wordOf_fmtM {op t a m off : Nat} (ht : t < 32 := by omega) (ha : a < 32 := by omega) (hm : m < 2 := by omega)
    (hoff : off < 32768 := by omega) :
    WordM (fmtM op t a m off) op t a m off := by
  rw [show fmtM op t a m off = above (above (above (above op 5 t) 5 a) 1 m) 15 off by unfold fmtM above; ring]
  exact ⟨_, _, _, parts_above hoff, parts_above hm, parts_above ha, parts_above ht⟩

theorem wordOf_fmtV {op vd va vb vc f : Nat} (hvd : vd < 16 := by omega) (hva : va < 16 := by omega) (hvb : vb < 16 :=
    by omega) (hvc : vc < 16 := by omega) (hf : f < 1024 := by omega) :
    WordV (fmtV op vd va vb vc f) op vd va vb vc f := by
  rw [show fmtV op vd va vb vc f = above (above (above (above (above op 4 vd) 4 va) 4 vb) 4 vc) 10 f
    by unfold fmtV above; ring]
  exact ⟨_, _, _, _, parts_above hf, parts_above hvc, parts_above hvb, parts_above hva, parts_above hvd⟩

theorem wordOf_fmtVL {v g lane kind : Nat} (hv : v < 16 := by omega) (hg : g < 32 := by omega) (hlane : lane < 8 :=
    by omega) (hkind : kind < 4 := by omega) :
    WordVL (fmtVL v g lane kind) v g lane kind := by
  rw [show fmtVL v g lane kind = above (above (above (above (above 0x24 4 v) 5 g) 3 lane) 2 kind) 12 0
    by unfold fmtVL above; ring]
  exact ⟨_, _, _, _, parts_above (by decide), parts_above hkind, parts_above hlane, parts_above hg, parts_above hv⟩

theorem wordOf_fmtVM {acc va vb f : Nat} (hacc : acc < 4 := by omega) (hva : va < 16 := by omega) (hvb : vb < 16 :=
    by omega) (hf : f < 16384 := by omega) :
    WordVM (fmtVM acc va vb f) acc va vb f := by
  rw [show fmtVM acc va vb f = above (above (above (above (above 0x22 2 acc) 2 0) 4 va) 4 vb) 14 f
    by unfold fmtVM above; ring]
  exact ⟨_, _, _, _, parts_above hf, parts_above hvb, parts_above hva, parts_above (by decide), parts_above hacc⟩

theorem wordOf_fmtVA {v acc sh f : Nat} (hv : v < 16 := by omega) (hacc : acc < 4 := by omega) (hsh : sh < 64 :=
    by omega) (hf : f < 16384 := by omega) :
    WordVA (fmtVA v acc sh f) v acc sh f := by
  rw [show fmtVA v acc sh f = above (above (above (above 0x23 4 v) 2 acc) 6 sh) 14 f by unfold fmtVA above; ring]
  exact ⟨_, _, _, parts_above hf, parts_above hsh, parts_above hacc, parts_above hv⟩

theorem wordOf_fmtB {op a b off : Nat} (ha : a < 32 := by omega) (hb : b < 32 := by omega) (hoff : off < 65536 :=
    by omega) :
    WordB (fmtB op a b off) op a b off := by
  rw [show fmtB op a b off = above (above (above op 5 a) 5 b) 16 off by unfold fmtB above; ring]
  exact ⟨_, _, parts_above hoff, parts_above hb, parts_above ha⟩

theorem wordOf_fmtJ {op off : Nat} (hoff : off < 67108864 := by omega) :
    WordJ (fmtJ op off) op off := by
  rw [show fmtJ op off = above op 26 off by unfold fmtJ above; ring]
  exact parts_above hoff

theorem wordOf_fmtX {d f : Nat} (hd : d < 32 := by omega) (hf : f < 2097152 := by omega) :
    WordX (fmtX d f) d f := by
  rw [show fmtX d f = above (above 0x30 5 d) 21 f by unfold fmtX above; ring]
  exact ⟨_, parts_above hf, parts_above hd⟩

theorem wordOf_fmtFS {sub d s t imm : Nat} (hsub : sub < 16 := by omega) (hd : d < 32 := by omega) (hs : s < 32 :=
    by omega) (ht : t < 32 := by omega) (himm : imm < 128 := by omega) :
    WordFS (fmtFS sub d s t imm) sub d s t imm := by
  rw [show fmtFS sub d s t imm = above (above (above (above (above 0x38 4 sub) 5 d) 5 s) 5 t) 7 imm
    by unfold fmtFS above; ring]
  exact ⟨_, _, _, _, parts_above himm, parts_above ht, parts_above hs, parts_above hd, parts_above hsub⟩

theorem wordOf_fmtFA {sub s task slot : Nat} (hsub : sub < 16 := by omega) (hs : s < 32 := by omega)
    (htask : task < 2048 := by omega) (hslot : slot < 4 := by omega) :
    WordFA (fmtFA sub s task slot) sub s task slot := by
  rw [show fmtFA sub s task slot = above (above (above (above (above 0x39 4 sub) 5 s) 11 task) 2 slot) 4 0
    by unfold fmtFA above; ring]
  exact ⟨_, _, _, _, parts_above (by decide), parts_above hslot, parts_above htask, parts_above hs, parts_above hsub⟩

/-! ## Function codes -/

theorem aluOfFunc_aluFunc (op : AluOp) : aluOfFunc (aluFunc op) = some op := by cases op <;> rfl
theorem aluFunc_lt (op : AluOp) : aluFunc op < 2048 := by cases op <;> decide
theorem shOfCode_shCode (op : ShOp) : shOfCode (shCode op) = some op := by cases op <;> rfl
theorem shCode_lt (op : ShOp) : shCode op < 4 := by cases op <;> decide
theorem fieldOfCode_fieldCode (op : FieldOp) : fieldOfCode (fieldCode op) = some op := by cases op <;> rfl
theorem fieldCode_lt (op : FieldOp) : fieldCode op < 4 := by cases op <;> decide
theorem mulOfFunc_mulFunc (op : MulOp) : mulOfFunc (mulFunc op) = some op := by cases op <;> rfl
theorem mulFunc_lt (op : MulOp) : mulFunc op < 2048 := by cases op <;> decide
theorem divOfFunc_divFunc (op : DivOp) : divOfFunc (divFunc op) = some op := by cases op <;> rfl
theorem divFunc_lt (op : DivOp) : divFunc op < 2048 := by cases op <;> decide
theorem laneOfFunc_laneFunc (op : LaneOp) : laneOfFunc (laneFunc op) = some op := by cases op <;> rfl
theorem laneFunc_lt (op : LaneOp) : laneFunc op < 1024 := by cases op <;> decide
theorem asyncOfSub_asyncSub (op : AsyncOp) : asyncOfSub (asyncSub op) = some op := by cases op <;> rfl
theorem asyncSub_lt (op : AsyncOp) : asyncSub op < 16 := by cases op <;> decide

/-! ## Decoding, by instruction -/

section
variable {w w1 : Nat}

theorem decode_alu {op : AluOp} {d a b : GReg} (h : WordR w 0x00 d a b (aluFunc op)) :
    decodeEasel w w1 = some (.alu op d a b) := by
  obtain ⟨x, y, z, hf, hb, ha, hd⟩ := h
  have := aluFunc_lt op
  simp (disch := omega) [decodeEasel, decodeAlu, aluOfFunc_aluFunc, fin5, hf _ _, hb _ _, ha _ _, hd _ _]

theorem decode_clz {d a : GReg} (h : WordR w 0x00 d a 0 0x00E) :
    decodeEasel w w1 = some (.clz d a) := by
  obtain ⟨x, y, z, hf, hb, ha, hd⟩ := h
  simp (disch := omega) [decodeEasel, decodeAlu, aluOfFunc, onlyIf, fin5, hf _ _, hb _ _, ha _ _, hd _ _]

theorem decode_alui {op : ImmOp} {d a : GReg} {imm : BitVec 16} (h : WordI w (immOpcode op) d a imm.toNat) :
    decodeEasel w w1 = some (.alui op d a imm) := by
  obtain ⟨x, y, hi, ha, hd⟩ := h
  cases op <;>
  simp (disch := omega) [decodeEasel, immOpcode, fin5, hi _ _, ha _ _, hd _ _]

theorem decode_li {d : GReg} {imm : BitVec 16} (h : WordI w 0x07 d 0 imm.toNat) :
    decodeEasel w w1 = some (.li d imm) := by
  obtain ⟨x, y, hi, ha, hd⟩ := h
  simp (disch := omega) [decodeEasel, onlyIf, fin5, hi _ _, ha _ _, hd _ _]

theorem decode_lui {d : GReg} {imm : BitVec 16} (h : WordI w 0x08 d 0 imm.toNat) :
    decodeEasel w w1 = some (.lui d imm) := by
  obtain ⟨x, y, hi, ha, hd⟩ := h
  simp (disch := omega) [decodeEasel, onlyIf, fin5, hi _ _, ha _ _, hd _ _]

theorem decode_mul {op : MulOp} {d a b : GReg} (h : WordR w 0x0B d a b (mulFunc op)) :
    decodeEasel w w1 = some (.mul op d a b) := by
  obtain ⟨x, y, z, hf, hb, ha, hd⟩ := h
  have := mulFunc_lt op
  simp (disch := omega) [decodeEasel, decodeMul, mulOfFunc_mulFunc, fin5, hf _ _, hb _ _, ha _ _, hd _ _]

theorem decode_div {op : DivOp} {d a b : GReg} (h : WordR w 0x0C d a b (divFunc op)) :
    decodeEasel w w1 = some (.div op d a b) := by
  obtain ⟨x, y, z, hf, hb, ha, hd⟩ := h
  have := divFunc_lt op
  simp (disch := omega) [decodeEasel, decodeDiv, divOfFunc_divFunc, fin5, hf _ _, hb _ _, ha _ _, hd _ _]

theorem decode_ld {t a : GReg} {post : Bool} {off : BitVec 15} (hl : post = true → ¬t = a) (h : WordM w 0x10 t a
    (bit post) off.toNat) :
    decodeEasel w w1 = some (.ld t a post off) := by
  obtain ⟨x, y, z, ho, hm, ha, ht⟩ := h
  simpa (disch := omega) [decodeEasel, postOf, offOf, fin5, onlyIf, loadOk, Fin.val_inj, ho _ _, hm _ _, ha _ _,
    ht _ _] using hl

theorem decode_st {t a : GReg} {post : Bool} {off : BitVec 15} (h : WordM w 0x11 t a (bit post) off.toNat) :
    decodeEasel w w1 = some (.st t a post off) := by
  obtain ⟨x, y, z, ho, hm, ha, ht⟩ := h
  simp (disch := omega) [decodeEasel, postOf, offOf, fin5, ho _ _, hm _ _, ha _ _, ht _ _]

theorem decode_vld {v : VReg} {a : GReg} {post : Bool} {off : BitVec 15} (h : WordM w 0x12 v a (bit post) off.toNat) :
    decodeEasel w w1 = some (.vld v a post off) := by
  obtain ⟨x, y, z, ho, hm, ha, ht⟩ := h
  simp (disch := omega) [decodeEasel, postOf, offOf, fin5, fin4, vecOk, onlyIf, ho _ _, hm _ _, ha _ _, ht _ _]

theorem decode_vst {v : VReg} {a : GReg} {post : Bool} {off : BitVec 15} (h : WordM w 0x13 v a (bit post) off.toNat) :
    decodeEasel w w1 = some (.vst v a post off) := by
  obtain ⟨x, y, z, ho, hm, ha, ht⟩ := h
  simp (disch := omega) [decodeEasel, postOf, offOf, fin5, fin4, vecOk, onlyIf, ho _ _, hm _ _, ha _ _, ht _ _]

theorem decode_lda {t a : GReg} {post : Bool} {off : BitVec 15} (hl : post = true → ¬t = a) (h : WordM w 0x14 t a
    (bit post) off.toNat) :
    decodeEasel w w1 = some (.lda t a post off) := by
  obtain ⟨x, y, z, ho, hm, ha, ht⟩ := h
  simpa (disch := omega) [decodeEasel, postOf, offOf, fin5, onlyIf, loadOk, Fin.val_inj, ho _ _, hm _ _, ha _ _,
    ht _ _] using hl

theorem decode_sta {t a : GReg} {post : Bool} {off : BitVec 15} (h : WordM w 0x15 t a (bit post) off.toNat) :
    decodeEasel w w1 = some (.sta t a post off) := by
  obtain ⟨x, y, z, ho, hm, ha, ht⟩ := h
  simp (disch := omega) [decodeEasel, postOf, offOf, fin5, ho _ _, hm _ _, ha _ _, ht _ _]

theorem decode_vlda {v : VReg} {a : GReg} {post : Bool} {off : BitVec 15} (h : WordM w 0x16 v a
    (bit post) off.toNat) :
    decodeEasel w w1 = some (.vlda v a post off) := by
  obtain ⟨x, y, z, ho, hm, ha, ht⟩ := h
  simp (disch := omega) [decodeEasel, postOf, offOf, fin5, fin4, vecOk, onlyIf, ho _ _, hm _ _, ha _ _, ht _ _]

theorem decode_vsta {v : VReg} {a : GReg} {post : Bool} {off : BitVec 15} (h : WordM w 0x17 v a
    (bit post) off.toNat) :
    decodeEasel w w1 = some (.vsta v a post off) := by
  obtain ⟨x, y, z, ho, hm, ha, ht⟩ := h
  simp (disch := omega) [decodeEasel, postOf, offOf, fin5, fin4, vecOk, onlyIf, ho _ _, hm _ _, ha _ _, ht _ _]

theorem decode_lane {op : LaneOp} {vd va vb : VReg} (h : WordV w 0x20 vd va vb 0 (laneFunc op)) :
    decodeEasel w w1 = some (.lane op vd va vb) := by
  obtain ⟨x, y, z, u, hf, hc, hb, ha, hd⟩ := h
  have := laneFunc_lt op
  simp (disch := omega) [decodeEasel, decodeLane, laneOfFunc_laneFunc, onlyIf, fin4, hf _ _, hc _ _, hb _ _, ha _ _,
    hd _ _]

theorem decode_vsel {vd va vb vc : VReg} (h : WordV w 0x20 vd va vb vc 0x00C) :
    decodeEasel w w1 = some (.vsel vd va vb vc) := by
  obtain ⟨x, y, z, u, hf, hc, hb, ha, hd⟩ := h
  simp (disch := omega) [decodeEasel, decodeLane, laneOfFunc, fin4, hf _ _, hc _ _, hb _ _, ha _ _, hd _ _]

theorem decode_vabs {vd va : VReg} (h : WordV w 0x20 vd va 0 0 0x00D) :
    decodeEasel w w1 = some (.vabs vd va) := by
  obtain ⟨x, y, z, u, hf, hc, hb, ha, hd⟩ := h
  simp (disch := omega) [decodeEasel, decodeLane, laneOfFunc, onlyIf, fin4, hf _ _, hc _ _, hb _ _, ha _ _, hd _ _]

theorem decode_vmul {op : VMulOp} {vd va vb : VReg} (h : WordV w 0x21 vd va vb 0 (vmulFunc op)) :
    decodeEasel w w1 = some (.vmul op vd va vb) := by
  obtain ⟨x, y, z, u, hf, hc, hb, ha, hd⟩ := h
  cases op <;>
  simp (disch := omega) [decodeEasel, decodeVMul, vmulFunc, onlyIf, fin4, hf _ _, hc _ _, hb _ _, ha _ _, hd _ _]

theorem decode_vbcast {v : VReg} {g : GReg} (h : WordVL w v g 0 0) :
    decodeEasel w w1 = some (.vbcast v g) := by
  obtain ⟨x, y, z, p, hf, hk, hl, hg, hv⟩ := h
  simp (disch := omega) [decodeEasel, decodeVL, onlyIf, fin4, fin5, hf _ _, hk _ _, hl _ _, hg _ _, hv _ _]

theorem decode_vext {v : VReg} {g : GReg} {lane : Fin 8} (h : WordVL w v g lane 1) :
    decodeEasel w w1 = some (.vext g v lane) := by
  obtain ⟨x, y, z, p, hf, hk, hl, hg, hv⟩ := h
  simp (disch := omega) [decodeEasel, decodeVL, fin3, fin4, fin5, hf _ _, hk _ _, hl _ _, hg _ _, hv _ _]

theorem decode_vins {v : VReg} {g : GReg} {lane : Fin 8} (h : WordVL w v g lane 2) :
    decodeEasel w w1 = some (.vins v g lane) := by
  obtain ⟨x, y, z, p, hf, hk, hl, hg, hv⟩ := h
  simp (disch := omega) [decodeEasel, decodeVL, fin3, fin4, fin5, hf _ _, hk _ _, hl _ _, hg _ _, hv _ _]

theorem decode_vmac {op : MacOp} {acc : AReg} {va vb : VReg} (h : WordVM w acc va vb (macFunc op)) :
    decodeEasel w w1 = some (.vmac op acc va vb) := by
  obtain ⟨x, y, z, p, hf, hb, ha, h0, hc⟩ := h
  cases op <;>
  simp (disch := omega) [decodeEasel, decodeMac, macFunc, onlyIf, fin2, fin4, hf _ _, hb _ _, ha _ _, h0 _ _, hc _ _]

theorem decode_amov {op : AmovOp} {v : VReg} {acc : AReg} {sh : Fin 64} (h : WordVA w v acc sh (amovFunc op)) :
    decodeEasel w w1 = some (.amov op v acc sh) := by
  obtain ⟨x, y, z, hf, hs, hc, hv⟩ := h
  cases op <;>
  simp (disch := omega) [decodeEasel, decodeAmov, amovFunc, fin2, fin4, fin6, hf _ _, hs _ _, hc _ _, hv _ _]

theorem decode_ahalf {op : AhalfOp} {v : VReg} {acc : AReg} (h : WordVA w v acc 0 (ahalfFunc op)) :
    decodeEasel w w1 = some (.ahalf op v acc) := by
  obtain ⟨x, y, z, hf, hs, hc, hv⟩ := h
  cases op <;>
  simp (disch := omega) [decodeEasel, decodeAmov, ahalfFunc, onlyIf, fin2, fin4, hf _ _, hs _ _, hc _ _, hv _ _]

theorem decode_aclr {acc : AReg} (h : WordVA w 0 acc 0 4) :
    decodeEasel w w1 = some (.aclr acc) := by
  obtain ⟨x, y, z, hf, hs, hc, hv⟩ := h
  simp (disch := omega) [decodeEasel, decodeAmov, onlyIf, fin2, hf _ _, hs _ _, hc _ _, hv _ _]

theorem decode_ald {acc : AReg} {v : VReg} {sh : Fin 32} (h : WordVA w v acc sh 5) :
    decodeEasel w w1 = some (.ald acc v sh) := by
  obtain ⟨x, y, z, hf, hs, hc, hv⟩ := h
  simp (disch := omega) [decodeEasel, decodeAmov, onlyIf, fin2, fin4, fin5, hf _ _, hs _ _, hc _ _, hv _ _]

theorem decode_br {op : BrOp} {a b : GReg} {off : BitVec 14} (hne : off.toNat ≠ 0) (h : WordB w
    (brOpcode op) a b off.toNat) :
    decodeEasel w w1 = some (.br op a b off) := by
  obtain ⟨x, y, ho, hb, ha⟩ := h
  cases op <;>
  simp (disch := omega) [decodeEasel, decodeBr, brOpcode, onlyIf, fin5, hne, ho _ _, hb _ _, ha _ _]

theorem decode_jmp {off : BitVec 14} (hne : off.toNat ≠ 0) (h : WordJ w 0x2E off.toNat) :
    decodeEasel w w1 = some (.jmp off) := by
  simp (disch := omega) [decodeEasel, onlyIf, hne, h _ _]

theorem decode_call {target : BitVec 14} (h : WordJ w 0x2F target.toNat) :
    decodeEasel w w1 = some (.call target) := by
  simp (disch := omega) [decodeEasel, onlyIf, h _ _]

theorem decode_endTask  (h : WordX w 0 1) :
    decodeEasel w w1 = some (.endTask) := by
  obtain ⟨x, hf, hd⟩ := h
  simp (disch := omega) [decodeEasel, decodeX, onlyIf, hf _ _, hd _ _]

theorem decode_ret  (h : WordX w 0 2) :
    decodeEasel w w1 = some (.ret) := by
  obtain ⟨x, hf, hd⟩ := h
  simp (disch := omega) [decodeEasel, decodeX, onlyIf, hf _ _, hd _ _]

theorem decode_brk  (h : WordX w 0 3) :
    decodeEasel w w1 = some (.brk) := by
  obtain ⟨x, hf, hd⟩ := h
  simp (disch := omega) [decodeEasel, decodeX, onlyIf, hf _ _, hd _ _]

theorem decode_lidx {d : GReg} (h : WordX w d 4) :
    decodeEasel w w1 = some (.lidx d) := by
  obtain ⟨x, hf, hd⟩ := h
  simp (disch := omega) [decodeEasel, decodeX, fin5, hf _ _, hd _ _]

theorem decode_fcprb {d s : GReg} (h : WordFS w 0x0 d s 0 0) :
    decodeEasel w w1 = some (.fcprb d s) := by
  obtain ⟨x, y, z, u, hi, ht, hs, hd, hu⟩ := h
  simp (disch := omega) [decodeEasel, decodeFS, onlyIf, fin5, hi _ _, ht _ _, hs _ _, hd _ _, hu _ _]

theorem decode_fcprbv {v : VReg} {s : GReg} (h : WordFS w 0x1 v s 0 0) :
    decodeEasel w w1 = some (.fcprbv v s) := by
  obtain ⟨x, y, z, u, hi, ht, hs, hd, hu⟩ := h
  simp (disch := omega) [decodeEasel, decodeFS, onlyIf, fin4, fin5, hi _ _, ht _ _, hs _ _, hd _ _, hu _ _]

theorem decode_flock {d : GReg} {n : Fin 32} (h : WordFS w 0x2 d 0 0 n) :
    decodeEasel w w1 = some (.flock d n) := by
  obtain ⟨x, y, z, u, hi, ht, hs, hd, hu⟩ := h
  simp (disch := omega) [decodeEasel, decodeFS, onlyIf, fin5, hi _ _, ht _ _, hs _ _, hd _ _, hu _ _]

theorem decode_funlock {d : GReg} {n : Fin 32} (h : WordFS w 0x3 d 0 0 n) :
    decodeEasel w w1 = some (.funlock d n) := by
  obtain ⟨x, y, z, u, hi, ht, hs, hd, hu⟩ := h
  simp (disch := omega) [decodeEasel, decodeFS, onlyIf, fin5, hi _ _, ht _ _, hs _ _, hd _ _, hu _ _]

theorem decode_fmbs {d s : GReg} {ch : Fin 16} (h : WordFS w 0x4 d s 0 ch) :
    decodeEasel w w1 = some (.fmbs d s ch) := by
  obtain ⟨x, y, z, u, hi, ht, hs, hd, hu⟩ := h
  simp (disch := omega) [decodeEasel, decodeFS, onlyIf, fin4, fin5, hi _ _, ht _ _, hs _ _, hd _ _, hu _ _]

theorem decode_fmbr {d t : GReg} {ch : Fin 16} (h : WordFS w 0x5 d 0 t ch) :
    decodeEasel w w1 = some (.fmbr d t ch) := by
  obtain ⟨x, y, z, u, hi, ht, hs, hd, hu⟩ := h
  simp (disch := omega) [decodeEasel, decodeFS, onlyIf, fin4, fin5, hi _ _, ht _ _, hs _ _, hd _ _, hu _ _]

theorem decode_femit {d s : GReg} {sev : Fin 4} {n : Fin 64} (hr : s.val ≤ 28) (h : WordFS w 0x6 d s sev n) :
    decodeEasel w w1 = some (.femit d s sev n) := by
  obtain ⟨x, y, z, u, hi, ht, hs, hd, hu⟩ := h
  simp (disch := omega) [decodeEasel, decodeFS, onlyIf, fin2, fin5, fin6, hr, Nat.le_of_lt_succ sev.isLt, hi _ _,
    ht _ _, hs _ _, hd _ _, hu _ _]

theorem decode_ftime {d t : GReg} (h : WordFS w 0x7 d 0 t 0) :
    decodeEasel w w1 = some (.ftime d t) := by
  obtain ⟨x, y, z, u, hi, ht, hs, hd, hu⟩ := h
  simp (disch := omega) [decodeEasel, decodeFS, onlyIf, fin5, hi _ _, ht _ _, hs _ _, hd _ _, hu _ _]

theorem decode_fstamp {d : GReg} (h : WordFS w 0x8 d 0 0 0) :
    decodeEasel w w1 = some (.fstamp d) := by
  obtain ⟨x, y, z, u, hi, ht, hs, hd, hu⟩ := h
  simp (disch := omega) [decodeEasel, decodeFS, onlyIf, fin5, hi _ _, ht _ _, hs _ _, hd _ _, hu _ _]

theorem decode_fstop {d s : GReg} {op : StopArg} (h : WordFS w 0x9 d s 0 (stopCode op)) :
    decodeEasel w w1 = some (.fstop d s op) := by
  obtain ⟨x, y, z, u, hi, ht, hs, hd, hu⟩ := h
  cases op <;>
  simp (disch := omega) [decodeEasel, decodeFS, stopCode, fin5, hi _ _, ht _ _, hs _ _, hd _ _, hu _ _]

theorem decode_fsrel {d s : GReg} (h : WordFS w 0xA d s 0 0) :
    decodeEasel w w1 = some (.fsrel d s) := by
  obtain ⟨x, y, z, u, hi, ht, hs, hd, hu⟩ := h
  simp (disch := omega) [decodeEasel, decodeFS, onlyIf, fin5, hi _ _, ht _ _, hs _ _, hd _ _, hu _ _]

theorem decode_fpcnt {d : GReg} {q : Fin 64} (h : WordFS w 0xB d 0 0 q) :
    decodeEasel w w1 = some (.fpcnt d q) := by
  obtain ⟨x, y, z, u, hi, ht, hs, hd, hu⟩ := h
  simp (disch := omega) [decodeEasel, decodeFS, onlyIf, fin5, fin6, hi _ _, ht _ _, hs _ _, hd _ _, hu _ _]

theorem decode_async {op : AsyncOp} {s : GReg} {task : BitVec 11} {slot : Fin 4} (h : WordFA w
    (asyncSub op) s task.toNat slot) :
    decodeEasel w w1 = some (.async op s task slot) := by
  obtain ⟨x, y, z, u, h0, hl, ht, hs, hu⟩ := h
  have := asyncSub_lt op
  simp (disch := omega) [decodeEasel, decodeFA, asyncOfSub_asyncSub, onlyIf, fin2, fin5, h0 _ _, hl _ _, ht _ _,
    hs _ _, hu _ _]

theorem decode_shi {op : ShOp} {d a : GReg} {n : Fin 32} (h : WordI w 0x09 d a (above (shCode op) 14 n)) :
    decodeEasel w w1 = some (.shi op d a n) := by
  obtain ⟨x, y, hi, ha, hd⟩ := h
  have := shCode_lt op
  have hn := parts_above (x := shCode op) (k := 14) (y := n) (by omega)
  simp (disch := omega) [decodeEasel, decodeShift, shOfCode_shCode, onlyIf, fin5, hi _ _, hn _ _, ha _ _, hd _ _]

theorem decode_field {op : FieldOp} {d a : GReg} {pos len1 : Fin 32} (hl : pos.val + (len1.val + 1) ≤ 32)
    (h : WordI w 0x0A d a (above (fieldCode op) 14 (above pos 5 len1))) :
    decodeEasel w w1 = some (.field op d a pos len1) := by
  obtain ⟨x, y, hi, ha, hd⟩ := h
  have := fieldCode_lt op
  have hq := parts_above (x := pos) (k := 5) (y := len1) (by omega)
  have hn := parts_above (x := fieldCode op) (k := 14) (y := above pos 5 len1) (by unfold above; omega)
  simp (disch := omega) [decodeEasel, decodeField, fieldOfCode_fieldCode, onlyIf, fin5, hl, hi _ _, hn _ _, hq _ _,
    ha _ _,
    hd _ _]

/-- Function codes from 14 on name no lane operation of Table 4-6. -/
theorem laneOfFunc_none {n : Nat} (h : 14 ≤ n) : laneOfFunc n = none := by
  unfold laneOfFunc
  split <;> first | omega | rfl

theorem decode_vshi {op : ShOp} {vd va : VReg} {n : Fin 32}
    (h : WordV w 0x20 vd va 0 0 (above (2 + shCode op) 5 n)) : decodeEasel w w1 = some (.vshi op vd va n) := by
  obtain ⟨x, y, z, u, hf, hc, hb, ha, hd⟩ := h
  have hn (k : Nat) := parts_above (x := k) (k := 5) (y := n) (by omega)
  cases op <;>
  · simp (disch := omega) [decodeEasel, decodeLane, shCode, laneOfFunc_none, onlyIf, fin4, fin5, hf _ _, hn _ _ _,
      hc _ _, hb _ _, ha _ _, hd _ _]
    rw [if_neg (by omega), if_neg (by omega)]

/-- LOOP's first word and its extension word. -/
theorem decode_loop {c : GReg} {bound : BitVec 16} {last : BitVec 14} {x : Nat} (hne : bound.toNat ≠ 0)
    (hl : Parts w x 21 last.toNat) (hc : Parts x 0x31 5 c) (h1 : Parts w1 0x3E 26 bound.toNat) :
    decodeEasel w w1 = some (.loop c bound last) := by
  simp (disch := omega) [decodeEasel, decodeLoop, onlyIf, fin5, hne, hl _ _, hc _ _, h1 _ _]

end

/-! ## Encoding -/

theorem bit_lt (b : Bool) : bit b < 2 := by cases b <;> decide

theorem toNat_ne_zero {n : Nat} {x : BitVec n} (h : (x != 0#n) = true) : x.toNat ≠ 0 := by
  intro e
  simp [BitVec.eq_of_toNat_eq (y := 0#n) (by simpa using e)] at h

theorem loadWf_iff {t a : GReg} {post : Bool} : loadWf t a post = true ↔ (post = true → ¬t = a) := by
  cases post <;> simp [loadWf]

theorem decodeEasel_encodeEasel {i : EInstr} (h : i.wf = true) :
    decodeEasel (encodeEasel i).1 (encodeEasel i).2 = some i := by
  cases i with
  | alu op d a b =>
    have := aluFunc_lt op
    exact decode_alu wordOf_fmtR
  | clz d a => exact decode_clz wordOf_fmtR
  | alui op d a imm => exact decode_alui wordOf_fmtI
  | li d imm => exact decode_li wordOf_fmtI
  | lui d imm => exact decode_lui wordOf_fmtI
  | shi op d a n =>
    have := shCode_lt op
    exact decode_shi wordOf_fmtI
  | field op d a pos len1 =>
    have := fieldCode_lt op
    have e : fieldCode op * 2 ^ 14 + pos * 2 ^ 5 + len1 = above (fieldCode op) 14 (above pos 5 len1) := by
      unfold above; omega
    rw [encodeEasel, e]
    exact decode_field (of_decide_eq_true h) (wordOf_fmtI (himm := by unfold above; omega))
  | mul op d a b =>
    have := mulFunc_lt op
    exact decode_mul wordOf_fmtR
  | div op d a b =>
    have := divFunc_lt op
    exact decode_div wordOf_fmtR
  | ld t a post off =>
    have := bit_lt post
    exact decode_ld (loadWf_iff.mp h) wordOf_fmtM
  | st t a post off =>
    have := bit_lt post
    exact decode_st wordOf_fmtM
  | vld v a post off =>
    have := bit_lt post
    exact decode_vld wordOf_fmtM
  | vst v a post off =>
    have := bit_lt post
    exact decode_vst wordOf_fmtM
  | lda t a post off =>
    have := bit_lt post
    exact decode_lda (loadWf_iff.mp h) wordOf_fmtM
  | sta t a post off =>
    have := bit_lt post
    exact decode_sta wordOf_fmtM
  | vlda v a post off =>
    have := bit_lt post
    exact decode_vlda wordOf_fmtM
  | vsta v a post off =>
    have := bit_lt post
    exact decode_vsta wordOf_fmtM
  | lane op vd va vb =>
    have := laneFunc_lt op
    exact decode_lane wordOf_fmtV
  | vsel vd va vb vc => exact decode_vsel wordOf_fmtV
  | vabs vd va => exact decode_vabs wordOf_fmtV
  | vshi op vd va n =>
    have := shCode_lt op
    have e : 0x040 + shCode op * 0x20 + n = above (2 + shCode op) 5 n := by unfold above; omega
    rw [encodeEasel, e]
    exact decode_vshi (wordOf_fmtV (hf := by unfold above; omega))
  | vbcast v g => exact decode_vbcast wordOf_fmtVL
  | vext g v lane => exact decode_vext wordOf_fmtVL
  | vins v g lane => exact decode_vins wordOf_fmtVL
  | vmul op vd va vb => cases op <;> exact decode_vmul (wordOf_fmtV (hf := by decide))
  | vmac op acc va vb => cases op <;> exact decode_vmac (wordOf_fmtVM (hf := by decide))
  | amov op v acc sh => cases op <;> exact decode_amov (wordOf_fmtVA (hf := by decide))
  | ahalf op v acc => cases op <;> exact decode_ahalf (wordOf_fmtVA (hf := by decide))
  | aclr acc => exact decode_aclr wordOf_fmtVA
  | ald acc v sh => exact decode_ald wordOf_fmtVA
  | br op a b off => exact decode_br (toNat_ne_zero h) wordOf_fmtB
  | jmp off => exact decode_jmp (toNat_ne_zero h) wordOf_fmtJ
  | call target => exact decode_call wordOf_fmtJ
  | endTask => exact decode_endTask wordOf_fmtX
  | ret => exact decode_ret wordOf_fmtX
  | brk => exact decode_brk wordOf_fmtX
  | lidx d => exact decode_lidx wordOf_fmtX
  | loop c bound last =>
    rw [encodeEasel, show 0x31 * 2 ^ 26 + c * 2 ^ 21 + last.toNat = above (above 0x31 5 c) 21 last.toNat by
      unfold above; ring]
    exact decode_loop (toNat_ne_zero h) (parts_above (by omega)) (parts_above (by omega)) (parts_above (by omega))
  | fcprb d s => exact decode_fcprb wordOf_fmtFS
  | fcprbv v s => exact decode_fcprbv wordOf_fmtFS
  | flock d n => exact decode_flock wordOf_fmtFS
  | funlock d n => exact decode_funlock wordOf_fmtFS
  | fmbs d s ch => exact decode_fmbs wordOf_fmtFS
  | fmbr d t ch => exact decode_fmbr wordOf_fmtFS
  | femit d s sev n => exact decode_femit (of_decide_eq_true h) wordOf_fmtFS
  | ftime d t => exact decode_ftime wordOf_fmtFS
  | fstamp d => exact decode_fstamp wordOf_fmtFS
  | fstop d s kind => cases kind <;> exact decode_fstop (wordOf_fmtFS (himm := by decide))
  | fsrel d s => exact decode_fsrel wordOf_fmtFS
  | fpcnt d q => exact decode_fpcnt wordOf_fmtFS
  | async op s task slot =>
    have := asyncSub_lt op
    exact decode_async wordOf_fmtFA

/-- Settles O58: by the instruction, each with the parts of its word. -/
theorem easelWordsDecodeToTheirInstruction : Obligations.EaselWordsDecodeToTheirInstruction :=
  fun _ => decodeEasel_encodeEasel

end Sys2Proof
end

section
/-! A fault of an Easel and the end of its task (R83, R85, R90, R91): what the trace, held outputs, quarantine and
late epochs leave of the Easels and memories, and what becomes of the Easel itself. -/

namespace Sys2Proof.Machine

/-! ## What the end of work leaves -/

/-- An Easel with its request FIFO set aside. -/
def Easel.sansFifo (x : Easel) : Easel := { x with fifo := [] }

/-- The queue of commands, world time, the Easels with their FIFOs set aside, and the memories: what outputs that
leave, records and the dispatcher's bookkeeping do not touch. -/
def State.posted (s : State) : List Instr × Nat × Vector Easel 8 × Tbl Byte × Canvas :=
  (s.pending, s.now, s.easels.map Easel.sansFifo, s.atelier.mem, s.canvas)

theorem easel_of_posted {s t : State} (h : t.posted = s.posted) (k : Fin 8) :
    t.easels[k].sansFifo = s.easels[k].sansFifo := by
  have := congrArg (fun p => p.2.2.1[k]) h
  simpa [State.posted] using this

@[simp] theorem posted_modEv (s : State) (f) : (s.modEv f).posted = s.posted := rfl
@[simp] theorem posted_modDsp (s : State) (f) : (s.modDsp f).posted = s.posted := rfl
@[simp] theorem posted_modTfc (s : State) (f) : (s.modTfc f).posted = s.posted := rfl

theorem posted_of_recordless {s t : State} (h : t.recordless = s.recordless) : t.posted = s.posted := by
  have h1 : t.recordless.posted = s.recordless.posted := congrArg State.posted h
  exact h1

@[simp] theorem posted_emit (s : State) (e : EvDef) (a b c d : Nat) : (s.emit e a b c d).posted = s.posted :=
  posted_of_recordless (recordless_emit ..)

@[simp] theorem posted_modAtelier (s : State) {f : Atelier → Atelier} (h : (f s.atelier).mem = s.atelier.mem) :
    (s.modAtelier f).posted = s.posted := by
  simp only [State.posted, State.modAtelier, h]

/-- An update of an Easel that touches its FIFO alone. -/
theorem posted_modEasel (s : State) (k : Fin 8) {f : Easel → Easel} (h :
    (f s.easels[k]).sansFifo = s.easels[k].sansFifo) :
    (s.modEasel k f).posted = s.posted := by
  have e : (s.easels.set k (f s.easels[k])).map Easel.sansFifo = s.easels.map Easel.sansFifo := by
    rw [Vector.map_set, h, ← Vector.map_set]
    simp
  simp only [State.posted, State.modEasel, State.setEasel, e]

@[simp] theorem posted_pushReq (s : State) (k : Fin 8) (r : FabReq) : (s.pushReq k r).posted = s.posted :=
  posted_modEasel s k rfl

@[simp] theorem posted_trace (s : State) (kind easel : Nat) (t : TaskCtx) (data : Nat) :
    (s.trace kind easel t data).posted = s.posted := by
  unfold State.trace
  split
  · rfl
  · split <;> rfl

@[simp] theorem posted_programEvent (s : State) (code sev t a b c d : Nat) :
    (s.programEvent code sev t a b c d).2.posted = s.posted :=
  posted_of_recordless (recordless_emitAt ..)

theorem posted_leave (l : List HeldOut) (s : State) : (State.leave l s).2.posted = s.posted := by
  fun_induction State.leave l s with
  | case1 s => rfl
  | case2 code sev n t a b c d rest s ih => rw [ih, State.inEpoch, posted_modEv, posted_programEvent, posted_modEv]
  | case3 k r rest s k' h ih => rw [ih, posted_pushReq]
  | case4 => rfl

theorem posted_drainFlow (flow n : Nat) (s : State) : (s.drainFlow flow n).posted = s.posted := by
  induction n generalizing s with
  | zero => rfl
  | succ n ih =>
    unfold State.drainFlow
    split
    · rfl
    · dsimp only
      split <;> simp [ih, posted_leave]

@[simp] theorem posted_drainHeld (s : State) (flow : Nat) : (s.drainHeld flow).posted = s.posted :=
  posted_drainFlow ..

@[simp] theorem posted_endHeld (s : State) (t : TaskCtx) : (s.endHeld t).posted = s.posted := by
  simp [State.endHeld]

theorem foldl_posted {α : Type} {f : State → α → State} (h : ∀ s a, (f s a).posted = s.posted) (l : List α)
    (s : State) : (l.foldl f s).posted = s.posted := by
  induction l generalizing s with
  | nil => rfl
  | cons a l ih => rw [List.foldl_cons, ih, h]

@[simp] theorem posted_lateCheck (s : State) : s.lateCheck.posted = s.posted := by
  simp [State.lateCheck, foldl_posted]

@[simp] theorem posted_pastIn (s : State) (k : Fin 8) (t : TaskCtx) : (s.pastIn k t).posted = s.posted := rfl

@[simp] theorem posted_workEnds (s : State) (k : Fin 8) (t : TaskCtx) : (s.workEnds k t).posted = s.posted := by
  simp [State.workEnds]

@[simp] theorem posted_quarantine (s : State) (flow easel code : Nat) :
    (s.quarantine flow easel code).posted = s.posted := by
  unfold State.quarantine
  split <;> simp

/-! ## A fault -/

/-- An Easel in fault exit, its stacks discarded (R90). -/
def Easel.faulted (x : Easel) (code : Nat) (addr : Word) : Easel :=
  { x with run := .faultExit, brkSkip := false, faultCount := satAdd 8 x.faultCount 1, faultCode := code
           faultPc := x.bank.pc, faultAddr := addr, bank := { x.bank with loops := [], rets := [] } }

theorem easels_modEasel_self (s : State) (k : Fin 8) (f : Easel → Easel) :
    (s.modEasel k f).easels[k] = f s.easels[k] := getElem_set_self' ..

theorem easels_modEasel_ne (s : State) {k j : Fin 8} (f : Easel → Easel) (h : j ≠ k) :
    (s.modEasel k f).easels[j] = s.easels[j] := getElem_set_ne' _ _ h

theorem easels_haltEasel (s : State) (k : Fin 8) (cause : Nat) :
    (s.haltEasel k cause).easels[k] = { s.easels[k] with halted := true, stepOne := false } := by
  rw [State.haltEasel, emit_easels, easels_modEasel_self]

/-- After a fault, but for the FIFO and the halt of a stepped instruction. -/
theorem easelFault_easel (s : State) (k : Fin 8) (code : Nat) (addr : Word) : ∃ fifo halted stepOne,
    (s.easelFault k code addr).easels[k] =
      { s.easels[k].faulted code addr with fifo := fifo, halted := halted, stepOne := stepOne } := by
  have h : ∀ t : State, t.easels[k].sansFifo = (s.easels[k].faulted code addr).sansFifo →
      t.easels[k] = { s.easels[k].faulted code addr with fifo := t.easels[k].fifo } := by
    intro t ht
    have := congrArg (fun x : Easel => { x with fifo := t.easels[k].fifo }) ht
    exact this
  unfold State.easelFault
  dsimp only
  generalize hu : State.workEnds _ k _ = u
  have hp : u.posted = ((s.emit evEaselFault k code (65536 * s.easels[k].bank.task.task + s.easels[k].bank.task.flow)
      s.easels[k].bank.pc).modEasel k fun x => x.faulted code addr).posted := by
    rw [← hu, posted_workEnds, posted_quarantine, posted_pastIn, posted_endHeld, posted_trace]
    rfl
  have e := h u (by rw [easel_of_posted hp k, easels_modEasel_self, emit_easels])
  split
  · exact ⟨u.easels[k].fifo, true, false, by rw [easels_haltEasel, e]⟩
  · exact ⟨u.easels[k].fifo, _, _, e⟩

/-! ## Running an instruction that faults -/

/-- Where neither ILLEGAL nor BUDGET stops an instruction, a fault of its own is the one raised (Table 3-5). -/
theorem faultOf_own {b : Bank} {i : EInstr} {taken taken' : Bool} (h : b.faultOf i none taken = none)
    (f : Nat × Word) :
    b.faultOf i (some f) taken' = some f := by
  unfold Bank.faultOf at *
  split at h
  · simp at h
  · rw [if_neg ‹_›]

theorem illegal_of_faultOf {b : Bank} {i : EInstr} {taken : Bool} (h : b.faultOf i none taken = none) :
    b.illegal i = false := by
  unfold Bank.faultOf at h
  split at h
  · simp at h
  · exact Bool.eq_false_iff.mpr ‹_›

/-- A control instruction that may run does not stand at a loop's end (R114). -/
theorem not_atLoopEnd {b : Bank} {i : EInstr} {taken : Bool} (h : b.faultOf i none taken = none)
    (hc : isControl i = true) : b.atLoopEnd = false := by
  have := illegal_of_faultOf h
  simp only [Bank.illegal, hc, Bool.and_true, Bool.or_eq_false_iff] at this
  exact this.1

theorem runOn_faults {s : State} {e : At} {i : EInstr} {x : EAct} {code : Nat} {addr : Word} (hr : Ready s e i)
    (hf : x.fault s (s.bank e.k) = some (code, addr)) :
    s.runOn e i x = (s.fetchCorrected e s.easels[e.k]).easelFault e.k code addr := by
  obtain ⟨h1, h2, h3, h4⟩ := hr
  have h5 := faultOf_own (taken' := x.taken (s.bank e.k)) h4 (code, addr)
  unfold State.bank at *
  unfold State.runOn
  simp only [h1, h2, h3, hf, h5, Bool.not_true, Bool.false_eq_true, if_false, not_true_eq_false, ne_eq]

/-- The Easel of a faulting instruction. -/
theorem runOn_faultExit {s : State} {e : At} {i : EInstr} {x : EAct} {code : Nat} {addr : Word} (hr : Ready s e i)
    (hf : x.fault s (s.bank e.k) = some (code, addr)) :
    (s.runOn e i x).easels[e.k].run = .faultExit ∧ (s.runOn e i x).easels[e.k].faultCode = code := by
  rw [runOn_faults hr hf]
  obtain ⟨f, h, st, he⟩ := easelFault_easel (s.fetchCorrected e s.easels[e.k]) e.k code addr
  rw [he]
  exact ⟨rfl, rfl⟩

/-- Running an instruction where the Easel is ready and nothing of its own faults, up to what follows its issue. -/
theorem runOn_issues {s : State} {e : At} {i : EInstr} {x : EAct} {b' : Bank} {s' : State}
    (hr : Ready s e i (x.taken (s.bank e.k))) (hf : x.fault s (s.bank e.k) = none)
    (ha : x.act s (s.bank e.k) = some (b', s')) :
    ∃ u, Issued s' u e.k ((s.bank e.k).finish b' i (x.taken (s.bank e.k))) ∧
      s.runOn e i x = (x.after u).stepped e.k s.easels[e.k].stepOne := by
  obtain ⟨h1, h2, h3, h4⟩ := hr
  unfold State.bank at *
  unfold State.runOn
  simp only [h1, h2, h3, hf, h4, ha, Bool.not_true, Bool.false_eq_true, if_false, not_true_eq_false, ne_eq]
  exact ⟨_, (issued_fetchCorrected s' e _).trans (issued_modEasel _ e.k (fun y =>
    { y with bank := s.easels[e.k].bank.finish b' i (x.taken s.easels[e.k].bank), brkSkip := false }) rfl), rfl⟩

end Sys2Proof.Machine
end

section
/-! LOOP, LIDX, RET, BREAK and END (R83, R85, R112 to R116), as O15 states them. -/

namespace Sys2Proof.Machine

/-! ## The bank after a control instruction -/

theorem finish_control {b c : Bank} {i : EInstr} (h : b.faultOf i none false = none) (hc : isControl i = true) :
    (b.finish c i false).pc = c.pc % 16384 ∧ (b.finish c i false).loops = c.loops ∧
    (b.finish c i false).rets = c.rets ∧ (b.finish c i false).g = c.g := by
  obtain ⟨hp, hl⟩ := finish_pc b c i false (not_atLoopEnd h hc)
  obtain ⟨hg, -, -, hr, -, -⟩ := finish_regs b c i false
  exact ⟨hp, hl, hr, hg⟩

/-- A control instruction that touches its bank alone, where its Easel is ready for it and it does not fault. -/
theorem runOn_control {s : State} {e : At} {i : EInstr} {x : EAct} {b' : Bank} (hr : Ready s e i)
    (hc : isControl i = true) (ht : x.taken (s.bank e.k) = false) (hf : x.fault s (s.bank e.k) = none)
    (ha : x.act s (s.bank e.k) = some (b', s)) (hx : x.after = id) : ∃ t, Host.Outcome.next (s.runOn e i x) =
      (.next t : Res) ∧
      (t.bank e.k).pc = b'.pc % 16384 ∧ (t.bank e.k).loops = b'.loops ∧ (t.bank e.k).rets = b'.rets ∧
      (t.bank e.k).g = b'.g ∧ KeptOutside s t e.k := by
  have h := runOn_ready (x := x) (by rw [ht]; exact hr) hf ha hx
  obtain ⟨hp, hl, hs, hg⟩ := finish_control (c := b') hr.2.2.2 hc
  rw [ht] at h
  refine ⟨_, rfl, ?_⟩
  rw [State.bank, h.bank]
  exact ⟨hp, hl, hs, hg, h.kept⟩

/-! ## The end of a task -/

theorem bank_stepped (s : State) (k : Fin 8) (step : Bool) : (s.stepped k step).easels[k].bank = s.easels[k].bank :=
  (issued_stepped s k step).bank

theorem still_stepped (s : State) (k : Fin 8) (step : Bool) :
    (s.stepped k step).easels[k].still = s.easels[k].still :=
  (issued_stepped s k step).still

theorem run_of_still {x y : Easel} (h : x.still = y.still) : x.run = y.run := congrArg (·.2.2.2.2.2.2.2.2) h
theorem shadow_of_still {x y : Easel} (h : x.still = y.still) : x.shadow = y.shadow := congrArg (·.2.2.2.2.2.1) h

theorem easel_trace (s : State) (k : Fin 8) (kind easel : Nat) (t : TaskCtx) (data : Nat) :
    (s.trace kind easel t data).easels[k].sansFifo = s.easels[k].sansFifo := easel_of_posted (posted_trace ..) k

theorem easel_settle_shadow {s : State} {k : Fin 8} {b : Bank} (h : s.easels[k].shadow = some b) :
    (s.settle k).easels[k].run = .running ∧ (s.settle k).easels[k].bank = b ∧
      (s.settle k).easels[k].shadow = none := by
  unfold State.settle
  rw [h]
  dsimp only
  have e := easel_trace (s.modEasel k fun x => { x with run := .running, shadow := none, bank := b
                                                        scrKnown := x.knownBack, shadowKnown := none }) k 3 k b.task 0
  rw [easels_modEasel_self] at e
  exact ⟨congrArg Easel.run e, congrArg Easel.bank e, congrArg Easel.shadow e⟩

theorem easel_settle_idle {s : State} {k : Fin 8} (h : s.easels[k].shadow = none) :
    (s.settle k).easels[k] = { s.easels[k] with run := .idle } := by
  unfold State.settle
  rw [h]
  exact easels_modEasel_self ..

/-- END before the shadow bank is restored: the stacks are discarded and the Easel does not run (R116). -/
theorem endTask_eq (s : State) (k : Fin 8) : ∃ u : State, s.endTask k = u.settle k ∧
    u.easels[k].sansFifo =
      ({ s.easels[k] with
        run := .idle, bank := { s.easels[k].bank with loops := [], rets := [] } } : Easel).sansFifo := by
  refine ⟨_, rfl, ?_⟩
  rw [easel_of_posted (s := s.modEasel k fun x =>
    { x with run := .idle, bank := { x.bank with loops := [], rets := [] } })
    (by rw [posted_workEnds, posted_endHeld, posted_trace]), easels_modEasel_self]

theorem endTask_idle {s : State} {k : Fin 8} (h : s.easels[k].shadow = none) :
    (s.endTask k).easels[k].run = .idle ∧ (s.endTask k).easels[k].bank.loops = [] ∧
    (s.endTask k).easels[k].bank.rets = [] := by
  obtain ⟨u, hu, e⟩ := endTask_eq s k
  rw [hu, easel_settle_idle ((congrArg Easel.shadow e).trans h)]
  exact ⟨rfl, congrArg (·.bank.loops) e, congrArg (·.bank.rets) e⟩

theorem endTask_restores {s : State} {k : Fin 8} {b : Bank} (h : s.easels[k].shadow = some b) :
    (s.endTask k).easels[k].run = .running ∧ (s.endTask k).easels[k].bank = b ∧
    (s.endTask k).easels[k].shadow = none := by
  obtain ⟨u, hu, e⟩ := endTask_eq s k
  rw [hu]
  exact easel_settle_shadow ((congrArg Easel.shadow e).trans h)

/-- END of an Easel ready for it: its task ends, and a stepped Easel halts again. -/
theorem endI_ends {s : State} {e : At} (hr : Ready s e .endTask) : ∃ u : State, exec (.endI e) s =
      .next ((u.endTask e.k).stepped e.k s.easels[e.k].stepOne) ∧ u.easels[e.k].shadow = s.easels[e.k].shadow := by
  obtain ⟨u, hi, h⟩ :=
    runOn_issues (x := { act := fun s k => some (k, s), after := fun s => s.endTask e.k }) hr rfl rfl
  exact ⟨u, congrArg Host.Outcome.next h, shadow_of_still hi.still⟩

/-! ## BREAK -/

theorem halted_stepped {s : State} {k : Fin 8} (h : s.easels[k].halted = true) (step : Bool) :
    (s.stepped k step).easels[k].halted = true := by
  unfold State.stepped
  simp only [h, Bool.not_true, Bool.and_false, Bool.false_eq_true, if_false]
  rw [easels_modEasel_self]
  exact h

theorem breakI_halts {s : State} {e : At} (hr : Ready s e .brk) (hm : s.dsp.mode = .test) :
    ∃ t, exec (.breakI e) s = .next t ∧ t.easels[e.k].halted = true ∧
      (t.bank e.k).pc = ((s.bank e.k).pc + 1) % 16384 ∧ (t.bank e.k).g = (s.bank e.k).g := by
  obtain ⟨u, hi, h⟩ := runOn_issues (x :=
    { fault := fun s _ => if s.dsp.mode = .test then none else some (3, 0)
      act := fun s k => some ({ k with pc := k.pc + 1 }, s)
      after := fun s => s.haltEasel e.k 4 }) hr (if_pos hm) rfl
  obtain ⟨hp, -, -, hg⟩ := finish_control (c := { s.bank e.k with pc := (s.bank e.k).pc + 1 }) hr.2.2.2 rfl
  refine ⟨_, congrArg Host.Outcome.next h, halted_stepped (by rw [easels_haltEasel]) _, ?_, ?_⟩
  all_goals rw [State.bank, bank_stepped, easels_haltEasel]; dsimp only; rw [hi.bank]
  · exact hp
  · exact hg

/-! ## The statement -/

/-- Settles O15: each instruction by what its Easel's bank takes, or by the fault it raises. -/
theorem loopsReturnsAndEnd : Obligations.LoopsReturnsAndEnd := by
  refine ⟨fun e c bound last s n hn hr => ⟨fun hl hb => ?_, fun h => ?_⟩,
    fun e d s => ⟨fun h => ?_, fun l rest h => ?_⟩, fun e s hr => ⟨fun x rest hx hl => ?_, fun h => ?_⟩,
    fun e s hr => ⟨fun h => breakI_halts hr h, fun h => ?_⟩, fun e s hr => ⟨fun h => ?_, fun b h => ?_⟩⟩
  · subst hn
    obtain ⟨t, ht, hp, hls, hrs, hg, hk⟩ := runOn_control (x := {
      fault := fun _ k => if 4 ≤ k.loops.length then some (4, 0)
        else if bound.toNat < (k.rg c).toNat then some (5, k.rg c) else none
      act := fun s k => some (if (k.rg c).toNat = 0 then { k with pc := last.toNat + 1 }
          else { k with
            loops := { start := (k.pc + 2) % 16384, last := last.toNat, count := (k.rg c).toNat, done := 0
                       depth := k.rets.length } :: k.loops
            pc := k.pc + 2 }, s) }) hr rfl rfl (by
        dsimp only; rw [if_neg (by omega), if_neg (by omega)]) rfl rfl
    refine ⟨t, ht, ?_, ?_, ?_, ?_, hk⟩
    · rw [hp]; split <;> rfl
    · rw [hls]; split <;> rfl
    · rw [hrs]; split <;> rfl
    · rw [hg]; split <;> rfl
  · subst hn
    by_cases h4 : 4 ≤ (s.bank e.k).loops.length
    · rw [if_pos h4]
      exact ⟨_, rfl, runOn_faultExit hr (if_pos h4)⟩
    · rw [if_neg h4]
      exact ⟨_, rfl, runOn_faultExit hr ((if_neg h4).trans (if_pos (h.resolve_left h4)))⟩
  · exact runLocal_wroteG (by rw [h]; rfl)
  · exact runLocal_wroteG (by rw [h]; rfl)
  · obtain ⟨t, ht, hp, -, hrs, hg, hk⟩ := runOn_control (x := {
      fault := fun _ k => if k.rets = [] ∨ k.loopsHere ≠ [] then some (4, 0) else none
      act := fun s k => some (match k.rets with
        | x :: rest => { k with rets := rest, pc := x }
        | [] => k, s) }) (b' := { s.bank e.k with rets := rest, pc := x }) hr rfl rfl (if_neg (by simp [hx, hl])) (by
        dsimp only; rw [hx]) rfl
    exact ⟨t, ht, hp, hrs, hg, hk⟩
  · exact ⟨_, rfl, runOn_faultExit hr (if_pos h)⟩
  · exact ⟨_, rfl, runOn_faultExit hr (if_neg h)⟩
  · obtain ⟨u, hu, hs⟩ := endI_ends hr
    obtain ⟨h1, h2, h3⟩ := endTask_idle (hs.trans h)
    refine ⟨_, hu, (run_of_still (still_stepped ..)).trans h1, ?_⟩
    rw [State.bank, bank_stepped]
    exact ⟨h2, h3⟩
  · obtain ⟨u, hu, hs⟩ := endI_ends hr
    obtain ⟨h1, h2, h3⟩ := endTask_restores (hs.trans h)
    exact ⟨_, hu, (run_of_still (still_stepped ..)).trans h1, (bank_stepped ..).trans h2,
      (shadow_of_still (still_stepped ..)).trans h3⟩

end Sys2Proof.Machine
end

section
/-! ILLEGAL words, fetches that cannot be corrected, and Easels that do not issue (R75, R95, R99), as O20 states
them. -/

namespace Sys2Proof.Machine

/-- An Easel in fault exit keeps its registers and memories, and shows the index it faulted at. -/
theorem easelFault_kept (s : State) (k : Fin 8) (code : Nat) (addr : Word) :
    (s.easelFault k code addr).easels[k].run = .faultExit ∧
    (s.easelFault k code addr).easels[k].faultCode = code ∧
    (s.easelFault k code addr).easels[k].faultPc = s.easels[k].bank.pc ∧
    (s.easelFault k code addr).easels[k].bank.g = s.easels[k].bank.g ∧
    (s.easelFault k code addr).easels[k].scratch = s.easels[k].scratch ∧
    (s.easelFault k code addr).easels[k].imem = s.easels[k].imem := by
  obtain ⟨f, h, st, e⟩ := easelFault_easel s k code addr
  rw [e]
  exact ⟨rfl, rfl, rfl, rfl, rfl, rfl⟩

/-- A bad fetch faults ECC_IMEM before anything else. -/
theorem illegalInstruction_fetchBad {e : At} {s : State} (hi : s.issues e.k = true)
    (hf : s.easels[e.k].fetchBad e = true) : exec (.illegalInstruction e) s = .next (s.easelFault e.k 1 0) := by
  show execIllegalInstruction e s = _
  unfold execIllegalInstruction
  simp only [hi, hf, Bool.not_true, Bool.false_eq_true, if_false, if_true]

/-- A word that is no instruction faults ILLEGAL. -/
theorem illegalInstruction_noWord {e : At} {s : State} (hi : s.issues e.k = true)
    (hf : s.easels[e.k].fetchBad e = false) (hw : s.easels[e.k].insn = none) :
    exec (.illegalInstruction e) s = .next ((s.fetchCorrected e s.easels[e.k]).easelFault e.k 2 0) := by
  show execIllegalInstruction e s = _
  unfold execIllegalInstruction
  simp only [hi, hf, hw, Bool.not_true, Bool.false_eq_true, if_false, if_true]

/-- An instruction that is legal where it stands is none of ILLEGAL_INSTRUCTION's. -/
theorem illegalInstruction_legal {e : At} {s : State} {i : EInstr} (hw : s.easels[e.k].insn = some i)
    (hl : (s.bank e.k).illegal i = false) (hf : s.easels[e.k].fetchBad e = false) :
    exec (.illegalInstruction e) s = .next s := by
  unfold State.bank at hl
  show execIllegalInstruction e s = _
  unfold execIllegalInstruction
  simp only [hf, hw, hl, Bool.false_eq_true, if_false, ite_self]

theorem illegalInstruction_still {e : At} {s : State} (hi : s.issues e.k = false) :
    exec (.illegalInstruction e) s = .next s := by
  show execIllegalInstruction e s = _
  unfold execIllegalInstruction
  simp only [hi, Bool.not_false, if_true]

/-- An Easel that does not issue runs no instruction. -/
theorem runOn_still {e : At} {s : State} (hi : s.issues e.k = false) (i : EInstr) (x : EAct) : s.runOn e i x = s := by
  unfold State.runOn
  simp only [hi, Bool.not_false, if_true]

/-- Settles O20: a bad fetch, a word that is no instruction, an Easel that stands still, a legal word. -/
theorem easelIssueAndIllegal : Obligations.EaselIssueAndIllegal := by
  refine ⟨fun e s hi hw => ?_, fun e s hi => ⟨illegalInstruction_still hi, fun d a b => ?_, ?_,
    fun m t a post off => ?_⟩,
    fun e s i hw hl hf => illegalInstruction_legal hw hl hf⟩
  · cases hf : s.easels[e.k].fetchBad e with
    | true => exact ⟨_, illegalInstruction_fetchBad hi hf, easelFault_kept ..⟩
    | false =>
      have hc := issued_fetchCorrected s e s.easels[e.k]
      obtain ⟨-, -, himem, hscratch, -⟩ := hc.kept
      have h := easelFault_kept (s.fetchCorrected e s.easels[e.k]) e.k 2 0
      rw [hc.bank, himem, hscratch] at h
      exact ⟨_, illegalInstruction_noWord hi hf hw, h⟩
  · exact congrArg Host.Outcome.next (runOn_still hi _ _)
  · exact congrArg Host.Outcome.next (runOn_still hi _ _)
  · exact congrArg Host.Outcome.next (runOn_still hi _ _)

end Sys2Proof.Machine
end

section
/-! Halting and stepping an Easel, its memory window, and scrubbing (R76, R95 to R97, Table 3-18), as O21 states
them. -/

namespace Sys2Proof.Machine

/-! ## Debug writes -/

/-- A debug write that acts (R95). -/
theorem debugWrite_open {s : State} (ha : s.awake = true) (hm : s.dsp.mode = .test) (hr : 2 ≤ s.pcieRole)
    (k : Fin 8) (f : State → State) : s.debugWrite k f = f s.touch := by
  rw [State.debugWrite, bar_awake ha, if_pos ⟨hm, hr⟩]

/-- A debug write elsewhere sets DBG_REFUSED alone. -/
theorem debugWrite_shut {s : State} (ha : s.awake = true) (h : s.dsp.mode ≠ .test ∨ s.pcieRole < 2) (k : Fin 8)
    (f : State → State) : s.debugWrite k f = s.modEasel k fun x => { x with dbgRefused := true } := by
  rw [State.debugWrite, bar_awake ha, if_neg]
  rintro ⟨hm, hr⟩
  exact h.elim (fun h => h hm) (by omega)

theorem easels_touch (s : State) : s.touch.easels = s.easels := rfl

theorem easels_setBrk (s : State) (k : Fin 8) (brk : BitVec 2) (halt : Bool) :
    (s.setBrk k brk halt).easels[k] = { s.easels[k] with
      brk0En := bitsOf brk.toNat 0 1 == 1, brk1En := bitsOf brk.toNat 1 1 == 1, haltBit := halt } :=
  easels_modEasel_self ..

theorem easHalt_halts {s : State} (ha : s.awake = true) (hm : s.dsp.mode = .test) (hr : 2 ≤ s.pcieRole) (k : Fin 8)
    (brk : BitVec 2) : ∃ t, exec (.easHalt k brk) s = .next t ∧ t.easels[k].halted = true ∧
      t.easels[k].bank = s.easels[k].bank := by
  refine ⟨_, congrArg Host.Outcome.next (debugWrite_open ha hm hr k _), ?_⟩
  have e := easels_setBrk s.touch k brk true
  dsimp only
  split
  · exact ⟨‹_›, (congrArg Easel.bank e :)⟩
  · rw [easels_haltEasel]
    exact ⟨rfl, (congrArg Easel.bank e :)⟩

theorem easResume_resumes {s : State} (ha : s.awake = true) (hm : s.dsp.mode = .test) (hr : 2 ≤ s.pcieRole)
    (k : Fin 8) (brk : BitVec 2) : ∃ t, exec (.easResume k brk) s = .next t ∧ t.easels[k].halted = false ∧
      t.easels[k].bank = s.easels[k].bank := by
  refine ⟨_, congrArg Host.Outcome.next (debugWrite_open ha hm hr k _), ?_⟩
  rw [easels_modEasel_self, easels_setBrk]
  exact ⟨rfl, rfl⟩

theorem easStep_steps {s : State} (ha : s.awake = true) (hm : s.dsp.mode = .test) (hr : 2 ≤ s.pcieRole) {k : Fin 8}
    (hh : s.easels[k].halted = true) (brk : BitVec 2) : ∃ t, exec (.easStep k brk) s = .next t ∧
      t.easels[k].halted = false ∧ t.easels[k].stepOne = true := by
  have e : (s.touch.setBrk k brk true).easels[k].halted = true := by rw [easels_setBrk]; exact hh
  refine ⟨_, congrArg Host.Outcome.next (debugWrite_open ha hm hr k _), ?_⟩
  rw [if_pos e, easels_modEasel_self]
  exact ⟨rfl, rfl⟩

/-! ## The memory window (Table 3-18) -/

theorem memWord_writeMem (x : Easel) (w : Word) : (x.writeMem w).memWord = x.memWord := by
  unfold Easel.writeMem
  split <;> rfl

theorem writeMem_imem {x : Easel} (h : x.memSpace = false) (w : Word) :
    (x.writeMem w).imem = tblPut imemFill x.imem (x.memWord % 16384) w ∧ (x.writeMem w).scratch = x.scratch := by
  simp [Easel.writeMem, h]

theorem writeMem_scratch {x : Easel} (h : x.memSpace = true) (w : Word) :
    (x.writeMem w).scratch = memWrite x.scratch (4 * x.memWord) (toLE 4 w.toNat) ∧
    (x.writeMem w).imem = x.imem := by
  simp [Easel.writeMem, h]

theorem easMemDataWrite_easel {s : State} (ha : s.awake = true) (hm : s.dsp.mode = .test) (hr : 2 ≤ s.pcieRole)
    (k : Fin 8) (w : Word) : ∃ t, exec (.easMemDataWrite k w) s = .next t ∧
      t.easels[k] = (s.easels[k].writeMem w).nextWord :=
  ⟨_, congrArg Host.Outcome.next (debugWrite_open ha hm hr k _), easels_modEasel_self ..⟩

/-- A count kept with an Easel and its record leave the window's word. -/
theorem memWord_modEmit (s : State) (k : Fin 8) {f : Easel → Easel} (h : ∀ x, (f x).memWord = x.memWord)
    (e : EvDef) (a b c d : Nat) : ((s.modEasel k f).emit e a b c d).easels[k].memWord = s.easels[k].memWord := by
  rw [emit_easels, easels_modEasel_self, h]

theorem memWord_imemCorrected (s : State) (k : Fin 8) (m : Ecc) (i : Nat) :
    (s.imemCorrected k m i).easels[k].memWord = s.easels[k].memWord := by
  by_cases h : m = .corrected
  · have e := memWord_modEmit s k (f := fun x => { x with imemCorr := satAdd 16 x.imemCorr 1 }) (fun _ => rfl)
      evEccCorrected k 0 (4 * i) 0
    rwa [← show s.imemCorrected k m i = _ from if_pos h] at e
  · rw [show s.imemCorrected k m i = s from if_neg h]

theorem memWord_scratchCorrected (k : Fin 8) (ms : List Ecc) (s : State) (ea : Nat) :
    (s.scratchCorrected k ms ea).easels[k].memWord = s.easels[k].memWord := by
  induction ms generalizing s ea with
  | nil => rfl
  | cons m ms ih =>
    rw [State.scratchCorrected, ih]
    by_cases h : m = .corrected
    · have e := memWord_modEmit s k (f := fun x => { x with scrCorr := satAdd 16 x.scrCorr 1 }) (fun _ => rfl)
        evEccCorrected k 1 ea 0
      simp only [if_pos h]
      exact e
    · simp only [if_neg h]

theorem memWord_memDataRead (s : State) (k : Fin 8) (m : Ecc) :
    (s.memDataRead k m).2.easels[k].memWord = s.easels[k].memWord := by
  unfold State.memDataRead
  dsimp only
  split
  · rfl
  · dsimp only
    split
    · exact memWord_scratchCorrected ..
    · exact memWord_imemCorrected ..

theorem memDataRead_defined {s : State} {k : Fin 8} {m : Ecc} (hb : s.easels[k].memBad m = false)
    (hd : s.easels[k].memSpace = false ∨ s.easels[k].defined s.easels[k].memWord = true) :
    (s.memDataRead k m).1 = s.easels[k].memData.toNat := by
  unfold State.memDataRead
  have : (s.easels[k].memBad m || s.easels[k].memSpace && !s.easels[k].defined s.easels[k].memWord) = false := by
    rcases hd with h | h <;> simp [-Fin.getElem_fin, hb, h]
  simp only [this, Bool.false_eq_true, if_false]

/-- A read of EAS_MEM_DATA, awake: what the window shows, and the next word. -/
theorem easMemDataRead_shows {s : State} (ha : s.awake = true) (k : Fin 8) (m : Ecc) :
    exec (.easMemDataRead k m) s =
      .next (((if s.halted k then s.memDataRead k m else (0, s)).2.modEasel k Easel.nextWord).put
        (.busRead (if s.halted k then s.memDataRead k m else (0, s)).1)) := by
  show execEasMemDataRead k m s = _
  unfold execEasMemDataRead State.barRead
  rw [if_pos ha]

theorem memWord_nextWord (x : Easel) : x.nextWord.memWord = (x.memWord + 1) % 32768 := rfl

/-! ## Breakpoints -/

theorem breakpointHit_halts {s : State} {k : Fin 8} {cause : Nat} (hb : s.breakHere k = some cause)
    (ha : s.awake = true) (hr : s.easels[k].run = .running) (hh : s.halted k = false) :
    exec (.breakpointHit k) s = .next ((s.modEasel k fun x => { x with brkSkip := true }).haltEasel k cause) := by
  show execBreakpointHit k s = _
  unfold execBreakpointHit
  simp only [hb, ha, hr, hh, beq_self_eq_true, Bool.not_false, Bool.and_true, if_true]

/-! ## Scrubbing (R76) -/

/-- EASEL_SCRUB of an idle Easel. -/
theorem easelScrub_idle {s : State} {k : Fin 8} (ha : s.awake = true) (hi : s.easels[k].run = .idle) :
    exec (.easelScrub k .ok) s = .next (s.modEasel k fun x => { x with scrubAt := (x.scrubAt + 1) % 49152 }) := by
  show execEaselScrub k .ok s = _
  unfold execEaselScrub
  simp only [ha, hi, Bool.not_true, Bool.false_or, bne_self_eq_false, Bool.false_eq_true, if_false]

/-- An instruction word found uncorrectable is poisoned and recorded by its byte address. -/
theorem easelScrub_poisons {s : State} {k : Fin 8} (ha : s.awake = true) (hi : s.easels[k].run = .idle)
    (hw : s.easels[k].scrubAt < 16384) : ∃ u : State,
      exec (.easelScrub k .uncorrectable) s = .next (u.emit evEccPoisoned k 0 (4 * s.easels[k].scrubAt)) ∧
      u.easels[k].imemPoison = tblPut noMark s.easels[k].imemPoison s.easels[k].scrubAt true := by
  have hd : decide (16384 ≤ s.easels[k].scrubAt) = false := by simpa using hw
  show ∃ u : State, execEaselScrub k .uncorrectable s = _ ∧ _
  unfold execEaselScrub
  simp only [ha, hi, hd, Bool.not_true, Bool.false_or, bne_self_eq_false, Bool.false_eq_true, if_false]
  exact ⟨_, rfl, by rw [easels_modEasel_self, easels_modEasel_self]⟩

theorem atelierWord_frame (s : State) (i : Nat) (m : Ecc) :
    (s.atelierWord i m).atelier.mem = s.atelier.mem ∧ (s.atelierWord i m).atelier.scrubAt = s.atelier.scrubAt := by
  cases m <;> simp [State.atelierWord]

/-- A poisoned word stays so. -/
theorem atelierWord_keeps {s : State} {j : Nat} (h : tblGet noMark s.atelier.poison j = true) (i : Nat) (m : Ecc) :
    tblGet noMark (s.atelierWord i m).atelier.poison j = true := by
  cases m with
  | ok => exact h
  | corrected => simpa [State.atelierWord] using h
  | uncorrectable =>
    by_cases hj : j = i
    · subst hj
      simp [State.atelierWord, tblPut, noMark, tblGet_insert_self]
    · simp [State.atelierWord, tblGet_put_ne hj, h]

theorem atelierWord_poisons (s : State) (i : Nat) :
    tblGet noMark (s.atelierWord i .uncorrectable).atelier.poison i = true := by
  simp [State.atelierWord, tblPut, noMark, tblGet_insert_self]

section
variable (u : Nat) (ms : Vector Ecc 8)

theorem atelierWords_frame (l : List (Fin 8)) (s : State) :
    (l.foldl (fun s i => s.atelierWord (8 * u + i) ms[i]) s).atelier.mem = s.atelier.mem ∧
    (l.foldl (fun s i => s.atelierWord (8 * u + i) ms[i]) s).atelier.scrubAt = s.atelier.scrubAt := by
  induction l generalizing s with
  | nil => exact ⟨rfl, rfl⟩
  | cons i l ih =>
    obtain ⟨hm, hs⟩ := ih (s.atelierWord (8 * u + i) ms[i])
    obtain ⟨hm', hs'⟩ := atelierWord_frame s (8 * u + i) ms[i]
    exact ⟨hm.trans hm', hs.trans hs'⟩

theorem atelierWords_keep {j : Nat} (l : List (Fin 8)) {s : State} (h : tblGet noMark s.atelier.poison j = true) :
    tblGet noMark (l.foldl (fun s i => s.atelierWord (8 * u + i) ms[i]) s).atelier.poison j = true := by
  induction l generalizing s with
  | nil => exact h
  | cons i l ih => exact ih (atelierWord_keeps h _ _)

theorem atelierWords_poison {i : Fin 8} (hi : ms[i] = .uncorrectable) {l : List (Fin 8)} (hl : i ∈ l) (s : State) :
    tblGet noMark (l.foldl (fun s i => s.atelierWord (8 * u + i) ms[i]) s).atelier.poison (8 * u + i) = true := by
  induction l generalizing s with
  | nil => simp at hl
  | cons j l ih =>
    by_cases hj : i = j
    · subst hj
      exact atelierWords_keep u ms l (by dsimp only; rw [hi]; exact atelierWord_poisons ..)
    · exact ih (List.mem_of_ne_of_mem hj hl) _

end

theorem atelierWords_clean (u : Nat) (l : List (Fin 8)) (s : State) :
    l.foldl (fun (s : State) (i : Fin 8) => s.atelierWord (8 * u + i) (Vector.replicate 8 Ecc.ok)[i]) s = s := by
  induction l with
  | nil => rfl
  | cons i l ih => rw [List.foldl_cons, Fin.getElem_fin, Vector.getElem_replicate]; exact ih

theorem atelierScrub_awake {s : State} (ha : s.awake = true) (ms : Vector Ecc 8) :
    exec (.atelierScrub ms) s = .next ((List.finRange 8).foldl
      (fun (s' : State) (i : Fin 8) => s'.atelierWord (8 * s.atelier.scrubAt + i) ms[i])
      (s.modAtelier fun x => { x with scrubAt := (x.scrubAt + 1) % 131072 })) := by
  show execAtelierScrub ms s = _
  unfold execAtelierScrub
  simp only [ha, Bool.not_true, Bool.false_eq_true, if_false]

/-! ## The statement -/

/-- Settles O21: debug writes by the gate they pass, reads by what the window shows, scrubbing word by word. -/
theorem easelDebugAndScrub : Obligations.EaselDebugAndScrub := by
  refine ⟨fun k brk s ha hm hr => ⟨easHalt_halts ha hm hr k brk, easResume_resumes ha hm hr k brk,
      fun hh => easStep_steps ha hm hr hh brk, fun w => ?_⟩, fun k brk w s ha h => ?_, fun k m s ha => ?_,
    fun k cause s hb ha hr hh => ?_, fun k s ha hi => ⟨?_, fun hw => ?_⟩, fun s ha => ?_, fun ms s ha => ?_⟩
  · obtain ⟨t, ht, e⟩ := easMemDataWrite_easel ha hm hr k w
    refine ⟨t, ht, ?_, fun h => ?_, fun h => ?_⟩ <;> rw [e]
    · rw [memWord_nextWord, memWord_writeMem]
    · exact writeMem_imem h w
    · exact writeMem_scratch h w
  · have (f : State → State) :=
      congrArg (Host.Outcome.next (φ := Fault) (ρ := Refusal)) (debugWrite_shut ha h k f)
    exact ⟨_, rfl, this _, this _, this _, this _⟩
  · refine ⟨_, easMemDataRead_shows ha k m, fun hh => ?_, fun hh hb hd => ?_, ?_⟩
    · simp only [hh, Bool.false_eq_true, if_false]
      rfl
    · rw [if_pos hh, memDataRead_defined hb hd]
      rfl
    · rw [put_easels, easels_modEasel_self, memWord_nextWord]
      split
      · rw [memWord_memDataRead]
      · rfl
  · refine ⟨_, breakpointHit_halts hb ha hr hh, ?_, ?_, ?_⟩
    · rw [easels_haltEasel]
    · rw [easels_haltEasel, easels_modEasel_self]
    · exact ⟨_, by rw [State.haltEasel, easels_modEasel_self]⟩
  · exact ⟨_, easelScrub_idle ha hi, easels_modEasel_self ..⟩
  · obtain ⟨u, hu, hp⟩ := easelScrub_poisons ha hi hw
    exact ⟨_, hu, by rw [emit_easels]; exact hp, u, rfl⟩
  · exact ⟨_, atelierScrub_awake ha _, by rw [atelierWords_clean]; rfl⟩
  · obtain ⟨hm, hs⟩ := atelierWords_frame s.atelier.scrubAt ms (List.finRange 8)
      (s.modAtelier fun x => { x with scrubAt := (x.scrubAt + 1) % 131072 })
    exact ⟨_, atelierScrub_awake ha ms, hm, hs, fun i hi =>
      atelierWords_poison s.atelier.scrubAt ms hi (List.mem_finRange i) _⟩

end Sys2Proof.Machine
end

section
/-! The dispatcher's epochs (R144 to R152): what traces, records and outputs that leave keep of the dispatcher, what
fills an operand, and what follows at a boundary, a tick, a result and an arrival. -/

namespace Sys2Proof.Machine

/-! ## What traces, records and outputs that leave keep -/

/-- The dispatcher with its trace, its arrival queues, its drop counters and its held outputs set aside. -/
def Dsp.plan (d : Dsp) : Dsp :=
  { d.quiet with reorder := [], trace := Dsp.reset.trace, traceNext := 0, traceFull := false, traceLost := 0 }

theorem plan_of_recordless {s t : State} (h : t.recordless = s.recordless) : t.dsp.plan = s.dsp.plan :=
  (congrArg (fun u => u.dsp.plan) h :)

@[simp] theorem plan_emit (s : State) (e : EvDef) (a b c d : Nat) : (s.emit e a b c d).dsp.plan = s.dsp.plan :=
  plan_of_recordless (recordless_emit ..)

@[simp] theorem plan_programEvent (s : State) (code sev t a b c d : Nat) :
    (s.programEvent code sev t a b c d).2.dsp.plan = s.dsp.plan :=
  plan_of_recordless (recordless_emitAt ..)

/-- A trace entry touches the trace alone. -/
theorem trace_eq (s : State) (kind easel : Nat) (t : TaskCtx) (data : Nat) :
    ∃ d : Dsp, s.trace kind easel t data = { s with dsp := d } ∧ d.plan = s.dsp.plan := by
  unfold State.trace
  split
  · exact ⟨s.dsp, rfl, rfl⟩
  · split
    · exact ⟨_, rfl, rfl⟩
    · exact ⟨_, rfl, rfl⟩

section
variable (s : State) (kind easel : Nat) (t : TaskCtx) (data : Nat)

@[simp] theorem plan_trace : (s.trace kind easel t data).dsp.plan = s.dsp.plan := by
  obtain ⟨d, h, hp⟩ := trace_eq s kind easel t data
  rw [h, ← hp]

theorem trace_easels : (s.trace kind easel t data).easels = s.easels := by
  obtain ⟨d, h, -⟩ := trace_eq s kind easel t data
  rw [h]

theorem trace_epoch : (s.trace kind easel t data).epoch = s.epoch := by
  obtain ⟨d, h, -⟩ := trace_eq s kind easel t data
  rw [h]

theorem trace_canvas : (s.trace kind easel t data).canvas = s.canvas := by
  obtain ⟨d, h, -⟩ := trace_eq s kind easel t data
  rw [h]

theorem trace_stk : (s.trace kind easel t data).stk = s.stk := by
  obtain ⟨d, h, -⟩ := trace_eq s kind easel t data
  rw [h]

theorem trace_gdl : (s.trace kind easel t data).gdl = s.gdl := by
  obtain ⟨d, h, -⟩ := trace_eq s kind easel t data
  rw [h]

end

theorem plan_leave (l : List HeldOut) (s : State) : (State.leave l s).2.dsp.plan = s.dsp.plan := by
  fun_induction State.leave l s with
  | case1 s => rfl
  | case2 code sev n t a b c d rest s ih => rw [ih, State.inEpoch, modEv_dsp, plan_programEvent, modEv_dsp]
  | case3 k r rest s k' h ih => rw [ih]; rfl
  | case4 => rfl

theorem plan_drainFlow (flow n : Nat) (s : State) : (s.drainFlow flow n).dsp.plan = s.dsp.plan := by
  induction n generalizing s with
  | zero => rfl
  | succ n ih =>
    unfold State.drainFlow
    split
    · rfl
    · rename_i h _
      dsimp only
      split
      · exact (ih _).trans (plan_leave h.outs s)
      · exact plan_leave h.outs s

@[simp] theorem plan_drainHeld (s : State) (flow : Nat) : (s.drainHeld flow).dsp.plan = s.dsp.plan :=
  plan_drainFlow ..

@[simp] theorem plan_lateCheck (s : State) : s.lateCheck.dsp.plan = s.dsp.plan := by
  obtain ⟨l, h⟩ := lateCheck_records s
  exact (plan_of_recordless (s := s.modTfc _) h :)

theorem quarantine_of_plan {d e : Dsp} (h : e.plan = d.plan) : e.quarantine = d.quarantine :=
  (congrArg Dsp.quarantine h :)

theorem results_of_plan {d e : Dsp} (h : e.plan = d.plan) : e.results = d.results := (congrArg Dsp.results h :)

theorem instances_of_plan {d e : Dsp} (h : e.plan = d.plan) : e.instances = d.instances :=
  (congrArg Dsp.instances h :)

theorem released_of_plan {d e : Dsp} (h : e.plan = d.plan) : e.released = d.released := (congrArg Dsp.released h :)

theorem running_of_plan {d e : Dsp} (h : e.plan = d.plan) : e.running = d.running := (congrArg Dsp.running h :)

theorem mode_of_plan {d e : Dsp} (h : e.plan = d.plan) : e.mode = d.mode := (congrArg Dsp.mode h :)

/-- A flow that is not quarantined yet becomes so. -/
theorem quarantine_eq {s : State} {flow : Nat} (h : ¬ s.dsp.quarantine.contains flow = true) (easel code : Nat) :
    ∃ (u : State) (n : Nat), flow ∈ u.dsp.quarantine ∧ u.dsp.results = s.dsp.results ∧
      s.quarantine flow easel code = ((u.drainHeld flow).emit evFlowQuarantined flow n easel code).lateCheck := by
  refine ⟨_, _, ?_, ?_, if_neg h⟩
  · exact List.mem_append_right _ (List.mem_singleton_self flow)
  · rfl

theorem quarantine_adds (s : State) (flow easel code : Nat) :
    flow ∈ (s.quarantine flow easel code).dsp.quarantine ∧
    (s.quarantine flow easel code).dsp.results = s.dsp.results := by
  by_cases h : s.dsp.quarantine.contains flow = true
  · rw [show s.quarantine flow easel code = s from if_pos h]
    exact ⟨List.contains_iff_mem.mp h, rfl⟩
  · obtain ⟨u, n, hf, hr, e⟩ := quarantine_eq h easel code
    have hp : ((u.drainHeld flow).emit evFlowQuarantined flow n easel code).lateCheck.dsp.plan = u.dsp.plan := by
      rw [plan_lateCheck, plan_emit, plan_drainHeld]
    rw [e, quarantine_of_plan hp, results_of_plan hp]
    exact ⟨hf, hr⟩

theorem resultFault_quarantines (s : State) (flow : Nat) :
    flow ∈ (s.resultFault flow).dsp.quarantine ∧ (s.resultFault flow).dsp.results = s.dsp.results :=
  quarantine_adds s.draw.2.draw.2 flow s.draw.1 s.draw.2.draw.1

/-! ## Filling an operand (R145) -/

theorem task_of_running {s t : State} (h : t.dsp.running = s.dsp.running) (i : Nat) : t.task i = s.task i := by
  simp only [State.task, State.section, h]

section
variable {s : State} {task slot : Nat} (w : Word)

/-- A free operand of an instance there is. -/
theorem fill_there {i : Instance} (hi : s.dsp.instances.find? (·.task == task) = some i)
    (hs : i.slots.any (·.1 == slot) = false) (spare : Nat) :
    s.fill task slot w spare = (.done, s.modDsp fun d => { d with instances := d.instances.map fun j =>
      if j.task = task then { j with slots := j.slots ++ [(slot, w)] } else j }) := by
  unfold State.fill
  rw [hi]
  simp only [hs, Bool.false_eq_true, if_false]

/-- An operand that is filled. -/
theorem fill_taken {i : Instance} (hi : s.dsp.instances.find? (·.task == task) = some i)
    (hs : i.slots.any (·.1 == slot) = true) (spare : Nat) : s.fill task slot w spare = (.taken, s) := by
  unfold State.fill
  rw [hi]
  simp only [hs, if_true]

/-- The first operand of an instance, where it leaves room. -/
theorem fill_first (hi : s.dsp.instances.find? (·.task == task) = none) {spare : Nat}
    (hr : s.dsp.used + slotCount (s.task task).mask + spare ≤ 4096) : ∃ high,
    s.fill task slot w spare = (.done, s.modDsp fun d =>
      { d with instances := insertInst { task := task, slots := [(slot, w)] } d.instances, high := high }) := by
  unfold State.fill
  rw [hi]
  dsimp only
  rw [if_neg (by omega)]
  exact ⟨_, rfl⟩

end

theorem find_none_of_ne {l : List Instance} {task : Nat} (h : ∀ i ∈ l, i.task ≠ task) :
    l.find? (·.task == task) = none := by
  simpa [List.find?_eq_none] using h

theorem find_insertInst_ne {i : Instance} {n : Nat} (h : i.task ≠ n) (l : List Instance) :
    (insertInst i l).find? (·.task == n) = l.find? (·.task == n) := by
  induction l with
  | nil => simp [insertInst, h]
  | cons j l ih =>
    rw [insertInst]
    split
    · simp [List.find?_cons, h]
    · rw [List.find?_cons, ih, List.find?_cons]

/-- Writing an operand of task `m` leaves the first instance of task `n ≠ m`. -/
theorem find_mapSlots_ne {m n : Nat} (h : m ≠ n) (x : Nat × Word) (l : List Instance) :
    (l.map fun j : Instance => if j.task = m then { j with slots := j.slots ++ [x] } else j).find? (·.task == n) =
      l.find? (·.task == n) := by
  induction l with
  | nil => rfl
  | cons j l ih =>
    rw [List.map_cons, List.find?_cons, List.find?_cons, ih]
    by_cases hj : j.task = m
    · have : (j.task == n) = false := by simpa [hj] using h
      simp only [if_pos hj, this]
    · simp only [if_neg hj]

theorem find_mapSlots_self {n : Nat} {j : Instance} (x : Nat × Word) {l : List Instance}
    (h : l.find? (·.task == n) = some j) :
    (l.map fun j : Instance => if j.task = n then { j with slots := j.slots ++ [x] } else j).find? (·.task == n) =
      some { j with slots := j.slots ++ [x] } := by
  induction l with
  | nil => simp at h
  | cons i l ih =>
    rw [List.find?_cons] at h
    rw [List.map_cons, List.find?_cons]
    by_cases hi : i.task = n
    · simp only [hi, beq_self_eq_true, Option.some.injEq] at h
      simp [h ▸ hi, h]
    · have : (i.task == n) = false := by simpa using hi
      rw [this] at h
      simp only [if_neg hi, this, ih h]

end Sys2Proof.Machine
end

section
/-! The commands of the dispatcher at a boundary, a tick, a result, a request that drains, an arrival and a decision
(R91, R125, R144 to R152), as O22 states them. -/

namespace Sys2Proof.Machine

/-! ## The boundary (R144, R146) -/

theorem numberRel_frame (s : State) (r : Released) : ∃ d : Dsp, s.numberRel r = { s with dsp := d } ∧
    d.instances = s.dsp.instances := by
  unfold State.numberRel
  dsimp only
  split
  · exact ⟨_, rfl, rfl⟩
  · exact ⟨_, rfl, rfl⟩

theorem foldl_numberRel_frame (l : List Released) (s : State) : ∃ d : Dsp,
    l.foldl State.numberRel s = { s with dsp := d } ∧ d.instances = s.dsp.instances := by
  induction l generalizing s with
  | nil => exact ⟨s.dsp, rfl, rfl⟩
  | cons r l ih =>
    obtain ⟨d, h, hi⟩ := numberRel_frame s r
    obtain ⟨d', h', hi'⟩ := ih (s.numberRel r)
    exact ⟨d', by rw [List.foldl_cons, h', h], by rw [hi', h, hi]⟩

/-- A release touches the dispatcher alone, and takes the full instances out of the matching store. -/
theorem releaseTasks_frame (s : State) : ∃ d : Dsp, s.releaseTasks = { s with dsp := d } ∧
    d.instances = s.dsp.instances.filter fun i => !i.full (s.task i.task).mask := by
  unfold State.releaseTasks
  dsimp only
  generalize s.sortRel _ = rs
  generalize hu : s.modDsp _ = u
  obtain ⟨d, h, hi⟩ := foldl_numberRel_frame rs u
  obtain ⟨d', h', hp⟩ := trace_eq (rs.foldl State.numberRel u) 6 15 TaskCtx.none rs.length
  refine ⟨d', ?_, ?_⟩
  · rw [h', h, ← hu]
    rfl
  · rw [instances_of_plan hp, h, hi, ← hu]
    simp [List.partition_eq_filter_filter, Function.comp_def]

theorem applyLog_of_later {s : State} {n : Nat} (h : ∀ x ∈ s.twin.entries, n < x.1) : s.applyLog n = s := by
  have hp : s.twin.entries.partition (fun x => decide (x.1 ≤ n) && s.placed x.2) = ([], s.twin.entries) := by
    rw [List.partition_eq_filter_filter, Prod.mk.injEq, List.filter_eq_nil_iff, List.filter_eq_self]
    refine ⟨fun x hx => ?_, fun x hx => ?_⟩ <;> simp [Nat.not_le.mpr (h x hx)]
  unfold State.applyLog
  simp only [hp]
  rfl

/-- The boundary of epoch `n` before its log is applied. -/
def State.turned (s : State) (n : Nat) : State :=
  (((s.modEv fun e => e.turnDigest n (s.standby || s.twin.state == .active)).modEpoch fun e =>
    e.turn n).turnStages).modDsp Dsp.turn

theorem beginEpoch_eq {s : State} {n : Nat} (h : ∀ x ∈ s.twin.entries, n < x.1) :
    s.beginEpoch n = if (s.turned n).dsp.live && !(s.turned n).dsp.inSwapEpoch && !(s.turned n).swapDue
      then (s.turned n).releaseTasks else s.turned n := by
  have e : (s.turned n).applyLog n = s.turned n := applyLog_of_later h
  rw [← e]
  rfl

theorem beginEpoch_frame {s : State} {n : Nat} (h : ∀ x ∈ s.twin.entries, n < x.1) : ∃ d : Dsp,
    s.beginEpoch n = { s.turned n with dsp := d } ∧ (s.dsp.live = true → s.dsp.mode ≠ .swapPending →
      d.instances = s.dsp.instances.filter fun i => !i.full (s.task i.task).mask) := by
  rw [beginEpoch_eq h]
  obtain ⟨d, hd, hi⟩ := releaseTasks_frame (s.turned n)
  split
  · exact ⟨d, hd, fun _ _ => hi⟩
  · rename_i hc
    refine ⟨(s.turned n).dsp, rfl, fun hl hm => absurd ?_ hc⟩
    have hb : (s.dsp.mode == .swapPending) = false := by simpa using hm
    have h1 : (s.turned n).dsp.live = true := hl
    have h2 : (s.turned n).dsp.inSwapEpoch = false := by
      show (s.dsp.mode == .swapPending && s.dsp.inSwapEpoch) = false
      rw [hb, Bool.false_and]
    have h3 : (s.turned n).swapDue = false := by
      show (s.dsp.mode == .swapPending && _ && _ && _) = false
      simp only [hb, Bool.false_and]
    rw [h1, h2, h3]
    rfl

theorem epochBoundary_begins {s : State} {n : Nat} (hr : s.runsEpochs = true) (hs : s.twin.state ≠ .standbySyncing)
    (hn : n = s.time / max 1 s.epoch.length) (he : s.epoch.begun = false ∨ s.epoch.n < n) :
    exec .epochBoundary s = .next (s.beginEpoch n) := by
  have : s.nextEpoch = some n := by
    unfold State.nextEpoch
    rw [if_neg hs, ← hn, if_pos (by simpa using he)]
  show execEpochBoundary s = _
  simp [execEpochBoundary, hr, this]

theorem epochBoundary_stays {s : State} (h : s.runsEpochs = false ∨ (s.twin.state ≠ .standbySyncing ∧
    s.epoch.begun = true ∧ s.time / max 1 s.epoch.length ≤ s.epoch.n)) : exec .epochBoundary s = .next s := by
  show execEpochBoundary s = _
  obtain hr | ⟨hs, hb, hn⟩ := h
  · simp [execEpochBoundary, hr]
  · have : s.nextEpoch = none := by
      unfold State.nextEpoch
      rw [if_neg hs, if_neg (by simpa [hb] using hn)]
    simp [execEpochBoundary, this]

/-! ## Ticks (R149) -/

/-- What ticks read: the running Cartoon, the quarantined flows and the epoch. -/
def State.ticking (s : State) : Option Cartoon × List Nat × Epoch := (s.dsp.running, s.dsp.quarantine, s.epoch)

theorem tickDue_of_ticking {s t : State} (h : t.ticking = s.ticking) (i : Nat) : t.tickDue i ↔ s.tickDue i := by
  simp only [State.ticking, Prod.mk.injEq] at h
  obtain ⟨hr, hq, he⟩ := h
  simp only [State.tickDue, State.taskCount, task_of_running hr, hr, hq, he]

theorem tickTask_undue {s : State} {i : Nat} (hi : i < s.taskCount) (h : ¬ s.tickDue i) : s.tickTask i = s := by
  unfold State.tickTask
  refine if_pos ?_
  simp only [State.tickDue, hi, true_and, not_and, Bool.not_eq_false] at h
  by_cases h1 : (s.task i).period = 0
  · exact .inl h1
  · by_cases h2 : s.epoch.n % (s.task i).period = (s.task i).phase
    · exact .inr (.inr (h h1 h2))
    · exact .inr (.inl h2)

theorem tickTask_due {s : State} {i : Nat} (h : s.tickDue i) : s.tickTask i =
    match s.fill i (s.task i).slot (lo32 s.epoch.n) 0 with
    | (.done, s) => s
    | (_, s) => s.emit evTickOverrun i (s.epoch.n % 2 ^ 32) := by
  obtain ⟨-, hp, hm, hq⟩ := h
  unfold State.tickTask
  exact if_neg (by simp only [hp, hm, hq, not_true_eq_false, Bool.false_eq_true, or_self, not_false_eq_true, ne_eq])

/-- What filling an operand of task `m` keeps. -/
theorem fill_keeps (s : State) (m slot : Nat) (w : Word) (spare : Nat) :
    (s.fill m slot w spare).2.ticking = s.ticking ∧ ∀ n, m ≠ n →
      (s.fill m slot w spare).2.dsp.instances.find? (·.task == n) = s.dsp.instances.find? (·.task == n) := by
  unfold State.fill
  split
  · split
    · exact ⟨rfl, fun _ _ => rfl⟩
    · exact ⟨rfl, fun _ h => find_mapSlots_ne h ..⟩
  · split
    · exact ⟨rfl, fun _ _ => rfl⟩
    · exact ⟨rfl, fun _ h => find_insertInst_ne h _⟩

theorem ticking_emit (s : State) (e : EvDef) (a b c d : Nat) : (s.emit e a b c d).ticking = s.ticking := by
  have h := plan_emit s e a b c d
  rw [State.ticking, running_of_plan h, quarantine_of_plan h, emit_epoch]
  rfl

theorem tickTask_keeps (s : State) (i : Nat) : (s.tickTask i).ticking = s.ticking ∧ ∀ n, i ≠ n →
    (s.tickTask i).dsp.instances.find? (·.task == n) = s.dsp.instances.find? (·.task == n) := by
  have hf := fill_keeps s i (s.task i).slot (lo32 s.epoch.n) 0
  unfold State.tickTask
  dsimp only
  split
  · exact ⟨rfl, fun _ _ => rfl⟩
  · split
    · rename_i h
      rwa [h] at hf
    · rename_i h
      rw [h] at hf
      rw [ticking_emit, instances_of_plan (plan_emit ..)]
      exact hf

theorem foldl_tickTask_keeps (l : List Nat) (s : State) : (l.foldl State.tickTask s).ticking = s.ticking ∧
    ∀ n, n ∉ l → (l.foldl State.tickTask s).dsp.instances.find? (·.task == n) =
      s.dsp.instances.find? (·.task == n) := by
  induction l generalizing s with
  | nil => exact ⟨rfl, fun _ _ => rfl⟩
  | cons i l ih =>
    obtain ⟨h1, h2⟩ := tickTask_keeps s i
    obtain ⟨h3, h4⟩ := ih (s.tickTask i)
    refine ⟨h3.trans h1, fun n hn => (h4 n fun h => hn (List.mem_cons_of_mem i h)).trans (h2 n ?_)⟩
    rintro rfl
    exact hn List.mem_cons_self

/-- A due tick fills its operand, and no other tick takes it back. -/
theorem ticks_fill {l : List Nat} (hl : l.Nodup) {i : Nat} (hi : i ∈ l) {s : State} {j : Instance} (hd : s.tickDue i)
    (hj : s.dsp.instances.find? (·.task == i) = some j) (hs : j.slots.any (·.1 == (s.task i).slot) = false) :
    (l.foldl State.tickTask s).dsp.instances.find? (·.task == i) =
      some { j with slots := j.slots ++ [((s.task i).slot, lo32 s.epoch.n)] } := by
  obtain ⟨a, b, rfl⟩ := List.append_of_mem hi
  have hn := (List.nodup_middle.mp hl).notMem
  rw [List.foldl_append, List.foldl_cons]
  obtain ⟨ha, hf⟩ := foldl_tickTask_keeps a s
  generalize a.foldl State.tickTask s = u at ha hf
  have ht := ha
  simp only [State.ticking, Prod.mk.injEq] at ht
  obtain ⟨hr, -, he⟩ := ht
  rw [(foldl_tickTask_keeps b _).2 i (fun h => hn (List.mem_append_right a h)),
    tickTask_due ((tickDue_of_ticking ha i).mpr hd), task_of_running hr, he,
    fill_there _ (hf i (fun h => hn (List.mem_append_left b h)) ▸ hj) hs]
  exact find_mapSlots_self _ (hf i (fun h => hn (List.mem_append_left b h)) ▸ hj)

theorem ticks_undue {l : List Nat} {s : State} (hl : ∀ i ∈ l, i < s.taskCount) (h : ∀ i, ¬ s.tickDue i) :
    l.foldl State.tickTask s = s := by
  induction l with
  | nil => rfl
  | cons i l ih =>
    rw [List.foldl_cons, tickTask_undue (hl i List.mem_cons_self) (h i)]
    exact ih fun i hi => hl i (List.mem_cons_of_mem _ hi)

theorem taskTick_ticks {s : State} (ha : s.awake = true) (hl : s.dsp.live = true) (hb : s.epoch.begun = true)
    (ht : s.epoch.ticked = false) : exec .taskTick s = .next ((List.range s.taskCount).foldl State.tickTask
      (s.modEpoch fun e => { e with ticked := true })) := by
  show execTaskTick s = _
  simp [execTaskTick, ha, hl, hb, ht]

theorem used_nil {d : Dsp} (h : d.instances = []) : d.used = 0 := by
  simp [Dsp.used, h]

theorem slotCount_le (m : Nat) : slotCount m ≤ 4 := by
  have h (k : Nat) : bitsOf m k 1 ≤ 1 := by
    have := Nat.mod_lt (m / 2 ^ k) (show 0 < 2 ^ 1 by omega)
    unfold bitsOf
    omega
  have h0 := h 0
  have h1 := h 1
  have h2 := h 2
  have h3 := h 3
  unfold slotCount
  omega

/-- The tick of a task without an instance, with the matching store empty. -/
theorem tickTask_first {s : State} {i : Nat} (hd : s.tickDue i) (h : s.dsp.instances = []) :
    (s.tickTask i).dsp.instances = [{ task := i, slots := [((s.task i).slot, lo32 s.epoch.n)] }] := by
  have hr : s.dsp.used + slotCount (s.task i).mask + 0 ≤ 4096 := by
    rw [used_nil h]
    have := slotCount_le (s.task i).mask
    omega
  obtain ⟨high, hf⟩ := fill_first (slot := (s.task i).slot) (lo32 s.epoch.n) (by rw [h]; rfl) hr
  rw [tickTask_due hd, hf]
  show insertInst _ s.dsp.instances = _
  rw [h]
  rfl

/-- The tick of a filled operand is an overrun. -/
theorem tickTask_overrun {s : State} {i : Nat} (hd : s.tickDue i) {j : Instance}
    (hj : s.dsp.instances.find? (·.task == i) = some j) (hs : j.slots.any (·.1 == (s.task i).slot) = true) :
    s.tickTask i = s.emit evTickOverrun i (s.epoch.n % 2 ^ 32) := by
  rw [tickTask_due hd, fill_taken _ hj hs]

/-! ## Results (R147) -/

/-- The oldest result is off its way. -/
def State.resultOff (s : State) (rest : List StageResult) : State := s.modDsp fun d => { d with results := rest }

section
variable {s : State} {r : StageResult} {rest : List StageResult}

theorem continuationResult_fills (hr : s.dsp.results = r :: rest) (ha : s.dsp.active = true)
    (hc : r.task < s.taskCount) (hm : bitsOf (s.task r.task).mask r.slot 1 = 1)
    (hq : s.dsp.quarantine.contains (s.task r.task).flow = false) : exec .continuationResult s =
      .next (match (s.resultOff rest).fill r.task r.slot r.word 0 with
        | (.done, u) => u
        | (.taken, u) => (u.emit evOperandCollision (s.task r.task).flow r.task r.slot r.stage).resultFault
            (s.task r.task).flow
        | (.noRoom, u) => (u.emit evMatchStoreExhausted (s.task r.task).flow r.task u.dsp.used).resultFault
            (s.task r.task).flow) := by
  have hc' : decide (s.taskCount ≤ r.task) = false := by simpa using hc
  have hg : (!s.dsp.active || decide (s.taskCount ≤ r.task) || decide (bitsOf (s.task r.task).mask r.slot 1 = 0)) =
      false := by simp [ha, hc', hm]
  show execContinuationResult s = _
  unfold execContinuationResult
  rw [hr]
  refine congrArg Host.Outcome.next ?_
  exact (if_neg (Bool.eq_false_iff.mp hg)).trans (if_neg (Bool.eq_false_iff.mp hq))

/-- A result for no task that runs, or for a quarantined flow, leaves the matching store. -/
theorem continuationResult_vanishes (hr : s.dsp.results = r :: rest)
    (h : s.dsp.active = false ∨ s.taskCount ≤ r.task ∨ s.dsp.quarantine.contains (s.task r.task).flow = true) :
    ∃ t, exec .continuationResult s = .next t ∧ t.dsp.results = rest ∧ t.dsp.instances = s.dsp.instances := by
  show ∃ t, execContinuationResult s = .next t ∧ _
  unfold execContinuationResult
  rw [hr]
  refine ⟨_, rfl, ?_⟩
  dsimp only
  split
  · exact ⟨rfl, rfl⟩
  · rename_i hg
    split
    · rw [results_of_plan (plan_emit ..), instances_of_plan (plan_emit ..)]
      exact ⟨rfl, rfl⟩
    · rename_i hq
      simp only [Bool.or_eq_true, Bool.not_eq_true', decide_eq_true_eq, not_or, Bool.not_eq_false] at hg
      obtain ⟨⟨ha, hc⟩, -⟩ := hg
      exact absurd h (not_or.mpr ⟨Bool.eq_false_iff.not_left.mpr ha, not_or.mpr ⟨hc, hq⟩⟩)

theorem find_resultOff {task : Nat} {i : Option Instance} (h : s.dsp.instances.find? (·.task == task) = i) :
    (s.resultOff rest).dsp.instances.find? (·.task == task) = i := h

end


/-! ## Requests that drain (R125) -/

/-- A stage that has room takes the head of an Easel's FIFO. -/
theorem fabricRequestDrain_passes {s : State} {k : Fin 8} {r : FabReq} {rest : List FabReq} {u : State}
    (ha : s.awake = true) (hf : s.easels[k].fifo = r :: rest) (h : s.accept r = some u) (hu : u.dsp.reorder = []) :
    exec (.fabricRequestDrain k) s = .next (u.modEasel k fun x => { x with fifo := rest }) := by
  show execFabricRequestDrain k s = _
  unfold execFabricRequestDrain
  rw [hf]
  have e : (u.modEasel k fun x => { x with fifo := rest }).dsp.reorder = [] := hu
  simp only [ha, h, Bool.not_true, Bool.false_eq_true, if_false, e]
  rfl

/-- A stage without room leaves it. -/
theorem fabricRequestDrain_waits {s : State} {k : Fin 8} {r : FabReq} {rest : List FabReq}
    (ha : s.awake = true) (hf : s.easels[k].fifo = r :: rest) (h : s.accept r = none) :
    exec (.fabricRequestDrain k) s = .next s := by
  show execFabricRequestDrain k s = _
  unfold execFabricRequestDrain
  rw [hf]
  simp only [ha, h, Bool.not_true, Bool.false_eq_true, if_false]

theorem fifo_drained (u : State) (k : Fin 8) (rest : List FabReq) :
    (u.modEasel k fun x => { x with fifo := rest }).easels[k].fifo = rest := by
  rw [easels_modEasel_self]

section
variable {s : State} {r : FabReq}

theorem accept_fgrant (ho : r.op = .fgrant) (h : s.canvas.incoming.length + bit s.hostTurn < 128) :
    s.accept r = some (s.modCanvas fun c => { c with incoming := c.incoming ++ [r] }) := by
  simp only [State.accept, ho, if_pos h]

theorem accept_fgrant_full (ho : r.op = .fgrant) (h : 128 ≤ s.canvas.incoming.length + bit s.hostTurn) :
    s.accept r = none := by
  simp only [State.accept, ho, if_neg (Nat.not_lt.mpr h)]

theorem accept_fstk (ho : r.op = .fstk) (h : s.stk.incoming.length < 64) :
    s.accept r = some (s.modStk fun x => { x with incoming := x.incoming ++ [r] }) := by
  simp only [State.accept, ho, if_pos h]

theorem accept_floop (ho : r.op = .floop) (h : s.gdl.incoming.length < 64) :
    s.accept r = some (s.modGdl fun x => { x with incoming := x.incoming ++ [r] }) := by
  simp only [State.accept, ho, if_pos h]

theorem accept_floop_full (ho : r.op = .floop) (h : 64 ≤ s.gdl.incoming.length) : s.accept r = none := by
  simp only [State.accept, ho, if_neg (Nat.not_lt.mpr h)]

theorem accept_palette (ho : r.op = .fpput ∨ r.op = .fpget) : ∃ j : PalJob,
    s.accept r = some (s.modPalette fun p => { p with jobs := p.jobs ++ [j] }) := by
  obtain ho | ho := ho
  · simp only [State.accept, ho]
    exact ⟨_, rfl⟩
  · simp only [State.accept, ho]
    exact ⟨_, rfl⟩

end

/-! ## Arrivals (R148) -/

section
variable {k : Fin 6} {sel : Nat} {w : Word} {rest : List (Nat × Word)} {c : Cartoon} {r : Route} {s : State}

variable (ha : s.awake = true) (hd : s.dsp.active = true) (hw : s.dsp.inSwapEpoch = false)
  (hs : s.standby = false) (hc : s.dsp.running = some c)
  (hq : (s.dsp.arrivalQ (k + 1)).items = (sel, w) :: rest) (hr : c.route (k + 1) sel = some r)
  (hf : s.dsp.quarantine.contains (s.task r.task).flow = false)
include ha hd hw hs hc hq hr hf

/-- An arrival that fills its operand is logged and leaves its queue. -/
theorem arrivalDrain_done {u : State} (h : s.fill r.task r.slot w 513 = (.done, u)) :
    exec (.arrivalDrain k) s = .next
      ((u.logInput (.arrival (k + 1) sel w (u.arrivalPacket (k + 1) sel w))).unhold (k + 1)) := by
  show execArrivalDrain k s = _
  unfold execArrivalDrain
  simp only [hq, hc, hr, ha, hd, hw, hs, hf, h, Bool.not_true, Bool.or_self, Bool.false_eq_true, if_false]

/-- An arrival whose operand is filled waits at the head of its queue. -/
theorem arrivalDrain_taken {u : State} (h : s.fill r.task r.slot w 513 = (.taken, u)) :
    exec (.arrivalDrain k) s = .next (u.modDsp fun d => d.modArrivalQ (k + 1) fun q =>
      { q with holdSince := some (q.holdSince.getD u.now) }) := by
  show execArrivalDrain k s = _
  unfold execArrivalDrain
  simp only [hq, hc, hr, ha, hd, hw, hs, hf, h, Bool.not_true, Bool.or_self, Bool.false_eq_true, if_false]

end

section
variable {k : Fin 6} {s : State}

theorem instances_modArrivalQ (d : Dsp) (kind : Nat) (f : ArrivalQ → ArrivalQ) :
    (d.modArrivalQ kind f).instances = d.instances :=
  (congrArg Dsp.instances (quiet_modArrivalQ d kind f) :)

/-- The queue of a kind after its update. -/
theorem arrivalQ_modArrivalQ (d : Dsp) (k : Fin 6) (f : ArrivalQ → ArrivalQ) :
    (d.modArrivalQ (k + 1) f).arrivalQ (k + 1) = f (d.arrivalQ (k + 1)) := by
  simp [Dsp.modArrivalQ, Dsp.arrivalQ]

theorem unhold_instances (s : State) (kind : Nat) : (s.unhold kind).dsp.instances = s.dsp.instances := by
  unfold State.unhold
  dsimp only
  split
  · split
    · rw [instances_of_plan (plan_emit ..)]
      exact instances_modArrivalQ ..
    · exact instances_modArrivalQ ..
  · exact instances_modArrivalQ ..

theorem unhold_items (h : (s.dsp.arrivalQ (k + 1)).holdSince = none) :
    ((s.unhold (k + 1)).dsp.arrivalQ (k + 1)).items =
      (s.dsp.arrivalQ (k + 1)).items.drop 1 ++ (s.dsp.arrivalQ (k + 1)).owed.take 1 := by
  unfold State.unhold
  simp only [h]
  exact congrArg ArrivalQ.items (arrivalQ_modArrivalQ s.dsp k _)

end


/-! ## Decisions (R82, R85, R150 to R152) -/

/-- A task that enters an idle Easel, up to the trace of its entry. -/
theorem enter_eq {s : State} {k : Fin 8} (hi : s.easels[k].run = .idle) (r : Released) :
    ∃ (d : Dsp → Dsp) (f : Easel → Easel) (n : Nat),
      s.enter k r = ((s.modDsp d).modEasel k f).trace 0 k ((s.task r.task).bank r).task n ∧
      (d s.dsp).released = s.dsp.released.erase r ∧ (d s.dsp).running = s.dsp.running ∧
      ∀ x, (f x).run = .running ∧ (f x).bank = (s.task r.task).bank r ∧
        (f x).scrKnown = if s.pooled then some [] else none := by
  have hn : ¬ s.easels[k].run = .running := by rw [hi]; decide
  unfold State.enter
  simp only [if_neg hn]
  exact ⟨_, _, _, rfl, rfl, rfl, fun x => ⟨rfl, rfl, rfl⟩⟩

theorem enter_enters {s : State} {k : Fin 8} (hi : s.easels[k].run = .idle) (r : Released) :
    (s.enter k r).easels[k].run = .running ∧ (s.enter k r).easels[k].bank = (s.task r.task).bank r ∧
    (s.enter k r).easels[k].scrKnown = (if s.pooled then some [] else none) ∧
    ∀ j, j ≠ k → (s.enter k r).easels[j] = s.easels[j] := by
  obtain ⟨d, f, n, h, -, -, hf⟩ := enter_eq hi r
  obtain ⟨hr, hb, hk⟩ := hf s.easels[k]
  have e : (s.enter k r).easels = ((s.modDsp d).modEasel k f).easels := by rw [h, trace_easels]
  have ek : (s.enter k r).easels[k] = f s.easels[k] := by rw [e]; exact easels_modEasel_self ..
  rw [ek]
  exact ⟨hr, hb, hk, fun j hj => by rw [e]; exact easels_modEasel_ne _ _ hj⟩

theorem enter_dsp {s : State} {k : Fin 8} (hi : s.easels[k].run = .idle) (r : Released) :
    (s.enter k r).dsp.released = s.dsp.released.erase r ∧ (s.enter k r).dsp.running = s.dsp.running := by
  obtain ⟨d, f, n, h, hd, hr, -⟩ := enter_eq hi r
  rw [h, released_of_plan (plan_trace ..), running_of_plan (plan_trace ..)]
  exact ⟨hd, hr⟩

/-- The slot of a declared operand as a task's bank shows it. -/
theorem bank_slot {t : TaskDef} {r : Released} {x : Fin 4} {w : Word} (hm : bitsOf t.mask x 1 = 1)
    (hs : r.slots.find? (·.1 == x.val) = some (x.val, w)) : (t.bank r).rg (Fin.ofNat 32 (x + 1)) = w := by
  fin_cases x <;> simp_all [TaskDef.bank, Bank.rg]

theorem foldl_trace {α : Type} {f : State → α → State} (h : ∀ s a, ∃ d : Dsp, f s a = { s with dsp := d } ∧
    d.plan = s.dsp.plan) (l : List α) (s : State) : ∃ d : Dsp, l.foldl f s = { s with dsp := d } ∧
    d.plan = s.dsp.plan := by
  induction l generalizing s with
  | nil => exact ⟨s.dsp, rfl, rfl⟩
  | cons a l ih =>
    obtain ⟨d, hd, hp⟩ := h s a
    obtain ⟨d', hd', hp'⟩ := ih (f s a)
    exact ⟨d', by rw [List.foldl_cons, hd', hd], by rw [hp', hd, hp]⟩

/-- Blocked tasks are traced alone. -/
theorem blockAll_eq (s : State) (easel : Nat) (l : List (Released × Nat)) : ∃ d : Dsp,
    s.blockAll easel l = { s with dsp := d } ∧ d.plan = s.dsp.plan :=
  foldl_trace (fun _ _ => trace_eq ..) l s

theorem settleFaults_eq {s : State} (h : ∀ j : Fin 8, s.easels[j].run ≠ .faultExit) : s.settleFaults = s := by
  have (l : List (Fin 8)) : l.foldl (fun (s : State) (k : Fin 8) =>
      if s.easels[k].run = .faultExit then s.settle k else s) s = s := by
    induction l with
    | nil => rfl
    | cons k l ih => rw [List.foldl_cons, if_neg (h k), ih]
  exact this _


/-! ### One decision -/

theorem running_eq {s : State} {k : Fin 8} (h : s.idle k = true) : s.easels[k].run = .idle := by
  simp only [State.idle, Bool.and_eq_true, beq_iff_eq] at h
  exact h.1

theorem finRange_split (k : Fin 8) : List.finRange 8 = (List.finRange 8).take k ++ k :: (List.finRange 8).drop (k + 1) ∧
    (∀ j ∈ (List.finRange 8).take k, j < k) ∧ k ∉ (List.finRange 8).drop (k + 1) := by
  revert k
  decide

/-- The lowest Easel that takes a task. -/
theorem find_idle {s : State} {k : Fin 8} (hk : s.idle k = true) (h : ∀ j : Fin 8, j < k → s.idle j = false) :
    (List.finRange 8).find? s.idle = some k := by
  obtain ⟨e, hl, -⟩ := finRange_split k
  exact List.find?_eq_some_iff_append.mpr ⟨hk, _, _, e, fun j hj => by rw [h j (hl j hj)]; rfl⟩

theorem sortRel_nil (s : State) : s.sortRel [] = [] := rfl

/-- POOLED dispatch where an Easel is idle: the first one takes the first task that may run (R152). -/
theorem decidePooled_enters {s : State} {k : Fin 8} {r : Released} {l : List (Released × Nat)}
    (hf : s.firstRun (s.sortRel s.dsp.released) = (l, some r)) (hk : s.idle k = true)
    (h : ∀ j : Fin 8, j < k → s.idle j = false) : s.decidePooled = (s.blockAll 15 l).enter k r := by
  obtain ⟨d, hd, hp⟩ := blockAll_eq s 15 l
  have hi : (s.blockAll 15 l).idle = s.idle := by
    funext j
    rw [State.idle, State.idle, State.halted, State.halted, hd, mode_of_plan hp]
  unfold State.decidePooled
  rw [hf]
  simp only [hi, find_idle hk h]

/-- Every released task is of a flow of Easel `k`. -/
def State.boundTo (s : State) (k : Fin 8) : Prop :=
  ∀ x ∈ s.dsp.released, s.flowEasel (s.task x.task).flow = k.val

theorem flowEasel_of_running {s t : State} (h : t.dsp.running = s.dsp.running) (n : Nat) :
    t.flowEasel n = s.flowEasel n := by
  simp only [State.flowEasel, State.section, h]

/-- BOUND dispatch: an Easel of which no flow has a released task takes none. -/
theorem decideBound_other {s : State} {k j : Fin 8} (h : s.boundTo k) (hj : j ≠ k) : s.decideBound j = s := by
  have e : s.dsp.released.filter (fun r => s.flowEasel (s.task r.task).flow == j.val) = [] := by
    rw [List.filter_eq_nil_iff]
    intro x hx
    rw [h x hx, beq_iff_eq]
    exact fun hk => hj (Fin.ext hk.symm)
  unfold State.decideBound
  simp only [e, sortRel_nil]
  rfl

/-- BOUND dispatch: an idle Easel takes the first task of its flows that may run (R151). -/
theorem decideBound_enters {s : State} {k : Fin 8} {r : Released} {l : List (Released × Nat)} (h : s.boundTo k)
    (hf : s.firstRun (s.sortRel s.dsp.released) = (l, some r)) (hk : s.idle k = true) :
    s.decideBound k = (s.blockAll k l).enter k r := by
  have e : s.dsp.released.filter (fun r => s.flowEasel (s.task r.task).flow == k.val) = s.dsp.released := by
    rw [List.filter_eq_self]
    intro x hx
    rw [h x hx, beq_self_eq_true]
  obtain ⟨d, hd, hp⟩ := blockAll_eq s k l
  have hi : (s.blockAll k l).idle k = true := by
    rw [← hk, State.idle, State.idle, State.halted, State.halted, hd, mode_of_plan hp]
  unfold State.decideBound
  simp only [e, hf]
  unfold State.offerTask
  simp only [hi, if_true]

theorem foldl_others {l : List (Fin 8)} {s : State} {k : Fin 8} (h : s.boundTo k) (hl : k ∉ l) :
    l.foldl State.decideBound s = s := by
  induction l with
  | nil => rfl
  | cons j l ih =>
    rw [List.foldl_cons, decideBound_other h fun e => hl (e ▸ List.mem_cons_self)]
    exact ih fun hk => hl (List.mem_cons_of_mem _ hk)

theorem boundTo_enter {s : State} {k : Fin 8} {r : Released} {l : List (Released × Nat)} (h : s.boundTo k)
    (hk : s.easels[k].run = .idle) : ((s.blockAll k l).enter k r).boundTo k := by
  obtain ⟨d, hd, hp⟩ := blockAll_eq s k l
  have hi : (s.blockAll k l).easels[k].run = .idle := by rw [hd]; exact hk
  obtain ⟨hr, hn⟩ := enter_dsp hi r
  have hn' : ((s.blockAll k l).enter k r).dsp.running = s.dsp.running := by rw [hn, hd]; exact running_of_plan hp
  intro x hx
  rw [flowEasel_of_running hn', task_of_running hn']
  rw [hr, hd, released_of_plan hp] at hx
  exact h x (List.mem_of_mem_erase hx)

/-- A decision where one Easel is to take a task: what the blocked tasks leave in the trace, and the task enters. -/
theorem dispatchDecision_enters {s : State} {k : Fin 8} {c : Cartoon} {r : Released} {l : List (Released × Nat)}
    (ha : s.awake = true) (hc : s.dsp.running = some c) (hl : s.dsp.live = true)
    (hx : ∀ j : Fin 8, s.easels[j].run ≠ .faultExit)
    (hf : s.firstRun (s.sortRel s.dsp.released) = (l, some r)) (hk : s.idle k = true)
    (hp : c.pooled = true → ∀ j : Fin 8, j < k → s.idle j = false)
    (hb : c.pooled = false → s.boundTo k) :
    ∃ easel, exec .dispatchDecision s = .next ((s.blockAll easel l).enter k r) := by
  have hm : ¬ (s.dsp.mode = .empty ∨ s.dsp.mode = .stopping ∧ s.dsp.stopEpoch < s.epoch.n) := by
    rintro (h | ⟨h, -⟩) <;> simp [Dsp.live, h] at hl
  show ∃ easel, execDispatchDecision s = _
  unfold execDispatchDecision
  simp only [ha, settleFaults_eq hx, hc, if_neg hm, Bool.not_true, Bool.false_eq_true, if_false]
  cases h : c.pooled with
  | true =>
    rw [if_pos rfl, decidePooled_enters hf hk (hp h)]
    exact ⟨15, rfl⟩
  | false =>
    obtain ⟨e, hlt, hn⟩ := finRange_split k
    rw [if_neg Bool.false_ne_true, e, List.foldl_append, List.foldl_cons,
      foldl_others (hb h) fun hk => absurd (hlt k hk) (lt_irrefl k), decideBound_enters (hb h) hf hk,
      foldl_others (boundTo_enter (hb h) (running_eq hk)) hn]
    exact ⟨k, rfl⟩

/-! ### Easels in fault exit -/

theorem settle_other {s : State} {j k : Fin 8} (h : j ≠ k) : (s.settle k).easels[j] = s.easels[j] := by
  unfold State.settle
  split
  · rw [trace_easels]
    exact easels_modEasel_ne _ _ h
  · exact easels_modEasel_ne _ _ h

theorem settle_plan (s : State) (k : Fin 8) : (s.settle k).dsp.plan = s.dsp.plan := by
  unfold State.settle
  split
  · exact plan_trace ..
  · rfl

/-- An Easel in fault exit goes on. -/
def State.settleFault (s : State) (k : Fin 8) : State := if s.easels[k].run = .faultExit then s.settle k else s

theorem settleFaults_fold (s : State) : s.settleFaults = (List.finRange 8).foldl State.settleFault s := rfl

theorem settleFault_keeps {s : State} {j k : Fin 8} (h : j ≠ k) : (s.settleFault k).easels[j] = s.easels[j] := by
  by_cases hx : s.easels[k].run = .faultExit
  · rw [State.settleFault, if_pos hx, settle_other h]
  · rw [State.settleFault, if_neg hx]

theorem foldl_settleFault_keeps {j : Fin 8} {l : List (Fin 8)} (h : j ∉ l) (s : State) :
    (l.foldl State.settleFault s).easels[j] = s.easels[j] := by
  induction l generalizing s with
  | nil => rfl
  | cons k l ih =>
    rw [List.foldl_cons, ih fun hj => h (List.mem_cons_of_mem k hj),
      settleFault_keeps fun hj => h (List.mem_cons.mpr (.inl hj))]

theorem settleFaults_plan (s : State) : s.settleFaults.dsp.plan = s.dsp.plan := by
  refine foldl_keeps (fun s => s.dsp.plan) _ (fun s k => ?_) _ s
  split
  · exact settle_plan s k
  · rfl

theorem settleFaults_idles {s : State} {k : Fin 8} (hx : s.easels[k].run = .faultExit)
    (hs : s.easels[k].shadow = none) : s.settleFaults.easels[k].run = .idle := by
  obtain ⟨e, hlt, hn⟩ := finRange_split k
  rw [settleFaults_fold, e, List.foldl_append, List.foldl_cons, foldl_settleFault_keeps hn]
  have hk := foldl_settleFault_keeps (fun hk => absurd (hlt k hk) (lt_irrefl k)) s
  generalize ((List.finRange 8).take k).foldl State.settleFault s = u at hk
  rw [← hk] at hx hs
  rw [State.settleFault, if_pos hx, easel_settle_idle hs]

/-- With no Cartoon nothing is dispatched. -/
theorem dispatchDecision_empty {s : State} (ha : s.awake = true) (hm : s.dsp.mode = .empty) :
    exec .dispatchDecision s = .next s.settleFaults := by
  have hm' : s.settleFaults.dsp.mode = .empty := (mode_of_plan (settleFaults_plan s)).trans hm
  show execDispatchDecision s = _
  unfold execDispatchDecision
  simp only [ha, hm', true_or, if_true, Bool.not_true, Bool.false_eq_true, if_false]
  split <;> rfl

theorem dispatchDecision_stopped {s : State} (hx : ∀ j : Fin 8, s.easels[j].run ≠ .faultExit)
    (hm : s.dsp.mode = .stopping) (he : s.dsp.stopEpoch < s.epoch.n) : exec .dispatchDecision s = .next s := by
  show execDispatchDecision s = _
  unfold execDispatchDecision
  simp only [settleFaults_eq hx, hm, he, and_self, or_true, if_true]
  split
  · rfl
  · split <;> rfl

/-! ## The statement -/

theorem boundary_clause {n : Nat} {s : State} (hr : s.runsEpochs = true) (hs : s.twin.state ≠ .standbySyncing)
    (hn : n = s.time / max 1 s.epoch.length) (he : s.epoch.begun = false ∨ s.epoch.n < n)
    (hl : ∀ x ∈ s.twin.entries, n < x.1) : ∃ t, exec .epochBoundary s = .next t ∧
      t.epoch.n = n ∧ t.epoch.nominal = n * max 1 s.epoch.length ∧ t.epoch.begun = true ∧
      t.epoch.judged = false ∧ t.epoch.ticked = false ∧ t.epoch.late = false ∧
      t.canvas = { s.canvas with due := s.canvas.due ++ s.canvas.incoming, incoming := [] } ∧
      t.stk = { s.stk with due := s.stk.due ++ s.stk.incoming, incoming := [] } ∧
      t.gdl = { s.gdl with due := s.gdl.due ++ s.gdl.incoming, incoming := [] } ∧
      (s.dsp.live = true → s.dsp.mode ≠ .swapPending →
        t.dsp.instances = s.dsp.instances.filter fun i => !i.full (s.task i.task).mask) := by
  obtain ⟨d, hd, hi⟩ := beginEpoch_frame hl
  refine ⟨_, epochBoundary_begins hr hs hn he, ?_⟩
  rw [hd]
  exact ⟨rfl, rfl, rfl, rfl, rfl, rfl, rfl, rfl, rfl, hi⟩

theorem ticks_epoch (l : List Nat) (s : State) : (l.foldl State.tickTask s).epoch = s.epoch :=
  (congrArg (fun p => p.2.2) (foldl_tickTask_keeps l s).1 :)

theorem tick_clause {s : State} (ha : s.awake = true) (hl : s.dsp.live = true) (hb : s.epoch.begun = true)
    (ht : s.epoch.ticked = false) : ∃ t, exec .taskTick s = .next t ∧ t.epoch = { s.epoch with ticked := true } ∧
      (∀ i j, s.tickDue i → s.dsp.instances.find? (·.task == i) = some j →
        j.slots.any (·.1 == (s.task i).slot) = false →
        ∃ j' ∈ t.dsp.instances, j'.task = i ∧ ((s.task i).slot, lo32 s.epoch.n) ∈ j'.slots) ∧
      ((∀ i, ¬ s.tickDue i) → t.dsp = s.dsp) ∧
      (s.taskCount = 1 → s.tickDue 0 → s.dsp.instances = [] →
        t.dsp.instances = [{ task := 0, slots := [((s.task 0).slot, lo32 s.epoch.n)] }]) ∧
      (s.taskCount = 1 → s.tickDue 0 → ∀ w, s.dsp.instances = [{ task := 0, slots := [((s.task 0).slot, w)] }] →
        t.dsp.instances = s.dsp.instances ∧ Logged t evTickOverrun 0 (s.epoch.n % 2 ^ 32) 0 0) := by
  refine ⟨_, taskTick_ticks ha hl hb ht, ticks_epoch .., fun i j hd hj hs => ?_, fun h => ?_, fun hc hd hn => ?_,
    fun hc hd w hi => ?_⟩
  · have hf := ticks_fill List.nodup_range (List.mem_range.mpr hd.1)
      (s := s.modEpoch fun e => { e with ticked := true }) hd hj hs
    have := List.find?_some hf
    exact ⟨_, List.mem_of_find?_eq_some hf, by simpa using this, List.mem_append_right _ (List.mem_singleton_self _)⟩
  · have e := ticks_undue (s := s.modEpoch fun e => { e with ticked := true })
      (fun i hi => List.mem_range.mp hi) h
    exact (congrArg State.dsp e :)
  · rw [hc]
    exact tickTask_first (s := s.modEpoch fun e => { e with ticked := true }) hd hn
  · have e := tickTask_overrun (s := s.modEpoch fun e => { e with ticked := true }) hd
      (j := { task := 0, slots := [((s.task 0).slot, w)] }) (by rw [modEpoch_dsp, hi]; rfl) (by simp; rfl)
    rw [hc]
    show ((s.modEpoch _).tickTask 0).dsp.instances = _ ∧ Logged ((s.modEpoch _).tickTask 0) _ _ _ _ _
    rw [e]
    exact ⟨instances_of_plan (plan_emit ..), _, rfl⟩

theorem result_clause {r : StageResult} {rest : List StageResult} {s : State} (hr : s.dsp.results = r :: rest)
    (ha : s.dsp.active = true) (hc : r.task < s.taskCount) (hm : bitsOf (s.task r.task).mask r.slot 1 = 1)
    (hq : s.dsp.quarantine.contains (s.task r.task).flow = false) :
    (∀ i, s.dsp.instances.find? (·.task == r.task) = some i → i.slots.any (·.1 == r.slot) = false →
      ∃ t, exec .continuationResult s = .next t ∧ t.dsp.results = rest ∧
        t.dsp.instances = s.dsp.instances.map fun (j : Instance) =>
          if j.task = r.task then { j with slots := j.slots ++ [(r.slot, r.word)] } else j) ∧
    ((∀ i ∈ s.dsp.instances, i.task ≠ r.task) → s.dsp.used + slotCount (s.task r.task).mask ≤ 4096 →
      ∃ t, exec .continuationResult s = .next t ∧ t.dsp.results = rest ∧
        t.dsp.instances = insertInst { task := r.task, slots := [(r.slot, r.word)] } s.dsp.instances) ∧
    (∀ i, s.dsp.instances.find? (·.task == r.task) = some i → i.slots.any (·.1 == r.slot) = true →
      ∃ t, exec .continuationResult s = .next t ∧ t.dsp.results = rest ∧
        (s.task r.task).flow ∈ t.dsp.quarantine) := by
  rw [continuationResult_fills hr ha hc hm hq]
  refine ⟨fun i hi hs => ?_, fun hn hroom => ?_, fun i hi hs => ?_⟩
  · rw [fill_there r.word (find_resultOff hi) hs]
    exact ⟨_, rfl, rfl, rfl⟩
  · obtain ⟨high, h⟩ := fill_first (slot := r.slot) (spare := 0) r.word
      (find_resultOff (rest := rest) (find_none_of_ne hn)) hroom
    rw [h]
    exact ⟨_, rfl, rfl, rfl⟩
  · rw [fill_taken r.word (find_resultOff hi) hs]
    obtain ⟨hq, he⟩ := resultFault_quarantines ((s.resultOff rest).emit evOperandCollision (s.task r.task).flow r.task
      r.slot r.stage) (s.task r.task).flow
    exact ⟨_, rfl, he.trans (results_of_plan (plan_emit ..)), hq⟩

theorem drain_clause {k : Fin 8} {r : FabReq} {rest : List FabReq} {s : State} (ha : s.awake = true)
    (hf : s.easels[k].fifo = r :: rest) (hh : s.dsp.reorder = []) :
    (r.op = .fgrant → s.canvas.incoming.length + bit s.hostTurn < 128 → ∃ t,
      exec (.fabricRequestDrain k) s = .next t ∧ t.easels[k].fifo = rest ∧
      t.canvas.incoming = s.canvas.incoming ++ [r]) ∧
    (r.op = .fgrant → 128 ≤ s.canvas.incoming.length + bit s.hostTurn → exec (.fabricRequestDrain k) s = .next s) ∧
    (r.op = .fstk → s.stk.incoming.length < 64 → ∃ t, exec (.fabricRequestDrain k) s = .next t ∧
      t.easels[k].fifo = rest ∧ t.stk.incoming = s.stk.incoming ++ [r]) ∧
    (r.op = .floop → s.gdl.incoming.length < 64 → ∃ t, exec (.fabricRequestDrain k) s = .next t ∧
      t.easels[k].fifo = rest ∧ t.gdl.incoming = s.gdl.incoming ++ [r]) ∧
    (r.op = .floop → 64 ≤ s.gdl.incoming.length → exec (.fabricRequestDrain k) s = .next s) ∧
    (r.op = .fpput ∨ r.op = .fpget → ∃ t, exec (.fabricRequestDrain k) s = .next t ∧ t.easels[k].fifo = rest ∧
      t.palette.jobs.length = s.palette.jobs.length + 1) := by
  refine ⟨fun ho h => ⟨_, fabricRequestDrain_passes ha hf (accept_fgrant ho h) hh, fifo_drained .., rfl⟩,
    fun ho h => fabricRequestDrain_waits ha hf (accept_fgrant_full ho h),
    fun ho h => ⟨_, fabricRequestDrain_passes ha hf (accept_fstk ho h) hh, fifo_drained .., rfl⟩,
    fun ho h => ⟨_, fabricRequestDrain_passes ha hf (accept_floop ho h) hh, fifo_drained .., rfl⟩,
    fun ho h => fabricRequestDrain_waits ha hf (accept_floop_full ho h), fun ho => ?_⟩
  obtain ⟨j, h⟩ := accept_palette ho
  exact ⟨_, fabricRequestDrain_passes ha hf h hh, fifo_drained .., List.length_append⟩

theorem bank_regs (t : TaskDef) (r : Released) : (t.bank r).pc = t.entry ∧ (t.bank r).rg 5 = lo32 r.task ∧
    (t.bank r).rg 6 = lo32 t.flow ∧ (t.bank r).rg 7 = lo32 r.epoch := by
  refine ⟨rfl, ?_, ?_, ?_⟩ <;> simp [TaskDef.bank, Bank.rg]

/-- What a task finds in the Easel it enters. -/
theorem bank_clause {s : State} {k : Fin 8} {r : Released} (hb : s.bank k = (s.task r.task).bank r) :
    (s.bank k).pc = (s.task r.task).entry ∧ (s.bank k).rg 5 = lo32 r.task ∧
    (s.bank k).rg 6 = lo32 (s.task r.task).flow ∧ (s.bank k).rg 7 = lo32 r.epoch ∧
    ∀ x : Fin 4, ∀ w, bitsOf (s.task r.task).mask x 1 = 1 → r.slots.find? (·.1 == x.val) = some (x.val, w) →
      (s.bank k).rg (Fin.ofNat 32 (x + 1)) = w := by
  rw [hb]
  obtain ⟨hpc, h5, h6, h7⟩ := bank_regs (s.task r.task) r
  exact ⟨hpc, h5, h6, h7, fun x w hm hs => bank_slot hm hs⟩

/-- Settles O22, command by command. -/
theorem operandsAndReleases : Obligations.OperandsAndReleases := by
  refine ⟨fun n s hr hs hn he hl => boundary_clause hr hs hn he hl, fun s h => epochBoundary_stays h,
    fun s ha hl hb ht => tick_clause ha hl hb ht,
    fun r rest s hr => ⟨fun ha hc hm hq => result_clause hr ha hc hm hq, continuationResult_vanishes hr⟩,
    fun k r rest s ha hf hh => drain_clause ha hf hh,
    fun k sel w rest c r s ha hd hw hs hc hq hr hf => ⟨fun i hi hs' => ?_, fun hn hroom => ?_, fun i hi hs' => ?_⟩,
    fun k c r l s ha hc hl hx hf hk hp hb => ?_,
    fun k s ha hm hx hs => ⟨_, dispatchDecision_empty ha hm, settleFaults_idles hx hs⟩,
    fun s hx hm he => dispatchDecision_stopped hx hm he⟩
  · refine ⟨_, arrivalDrain_done ha hd hw hs hc hq hr hf (fill_there w hi hs' 513), ?_⟩
    rw [unhold_instances, logInput_dsp]
    rfl
  · obtain ⟨high, h⟩ := fill_first (slot := r.slot) w (find_none_of_ne hn) hroom
    refine ⟨_, arrivalDrain_done ha hd hw hs hc hq hr hf h, ?_, fun hh => ?_⟩
    · rw [unhold_instances, logInput_dsp]
      rfl
    · rw [unhold_items (by rw [logInput_dsp]; exact hh), logInput_dsp]
      show (s.dsp.arrivalQ (k + 1)).items.drop 1 ++ _ = _
      rw [hq]
      rfl
  · refine ⟨_, arrivalDrain_taken ha hd hw hs hc hq hr hf (fill_taken w hi hs' 513), instances_modArrivalQ .., ?_⟩
    rw [modDsp_dsp, arrivalQ_modArrivalQ]
    exact hq
  · obtain ⟨easel, h⟩ := dispatchDecision_enters ha hc hl hx hf hk hp hb
    obtain ⟨d, hd, hpl⟩ := blockAll_eq s easel l
    generalize s.blockAll easel l = u at h hd
    have he : u.easels = s.easels := by rw [hd]
    have hrun : u.dsp.running = s.dsp.running := by rw [hd]; exact running_of_plan hpl
    have hrel : u.dsp.released = s.dsp.released := by rw [hd]; exact released_of_plan hpl
    have hi : u.easels[k].run = .idle := by rw [he]; exact running_eq hk
    obtain ⟨hr, hb, hn, ho⟩ := enter_enters hi r
    obtain ⟨hrel', hrun'⟩ := enter_dsp hi r
    have ht : (u.enter k r).task r.task = s.task r.task := task_of_running (hrun'.trans hrun) _
    rw [task_of_running hrun, ← ht] at hb
    obtain ⟨hpc, h5, h6, h7, hs⟩ := bank_clause hb
    rw [ht] at hpc h6 hs
    refine ⟨_, h, hrel'.trans (by rw [hrel]), hr, hpc, h5, h6, h7, hs, fun hc' w => ?_, fun j hj => ?_⟩
    · have hpo : u.pooled = true := by
        rw [State.pooled, hrun, hc]
        exact hc'
      rw [Easel.defined, hn, hpo]
      rfl
    · rw [ho j hj, he]

end Sys2Proof.Machine
end

section
/-! Releases of quarantined flows (R93), which O24 misstates: a DSP_QREL write restarts the idle time of its session
before the role is read, and with an idle time of 0 a session whose last use lies ahead of world time so ends at
once. The idle time is written as 1 s to 3600 s, so no run reaches such a state. -/

namespace Sys2Proof.Machine

/-- A write that asks for the release of a quarantined flow enters the role its session has after the write. -/
theorem flowReleaseWrite_asks {w : Word} {s : State} (ha : s.awake = true) (hr : 1 ≤ s.pcieRole)
    (hs : s.standby = false) (hw : flagOf w 31 = true) (hq : s.dsp.quarantine.contains (fieldOf w 0 9) = true) :
    ∃ t, exec (.flowReleaseWrite w) s = .next t ∧
      t.dsp.releases = s.dsp.releases ++ [(fieldOf w 0 9, s.touch.pcieRole, s.epoch.n)] := by
  have hq' : s.touch.dsp.quarantine.contains (fieldOf w 0 9) = true := hq
  have hs' : s.touch.standby = false := hs
  refine ⟨_, congrArg Host.Outcome.next (asRole_open ha hr _), ?_⟩
  simp only [hw, hq', hs', Bool.not_true, Bool.or_self, Bool.false_eq_true, if_false]
  rw [modDsp_dsp, logInput_dsp]
  rfl

/-- A quarantined flow, and a session of role 1 whose last use lies ahead, with an idle time of 0. -/
def lapsing : State :=
  { State.reset with
    pwr := { State.reset.pwr with state := .run }
    sec := { State.reset.sec with
      idle := 0
      pcie := { State.reset.sec.pcie with role := 1, lastUse := 1 } }
    dsp := { State.reset.dsp with quarantine := [0] } }

theorem lapsing_pcieRole : lapsing.pcieRole = 1 := by decide

theorem lapsing_touch_pcieRole : lapsing.touch.pcieRole = 0 := by decide

/-- Refutes O24: the release is entered under the role 0 that the session has after its write, not under the 1 it
had before. -/
theorem not_cartoonsStoredSwappedAndKeys : ¬ Obligations.CartoonsStoredSwappedAndKeys := by
  rintro ⟨-, -, -, -, -, hwrite, -⟩
  have ha : lapsing.awake = true := by decide
  have hr : 1 ≤ lapsing.pcieRole := lapsing_pcieRole.ge
  have hs : lapsing.standby = false := by decide
  have hw : flagOf (0x80000000 : Word) 31 = true := by decide
  have hq : lapsing.dsp.quarantine.contains (fieldOf (0x80000000 : Word) 0 9) = true := by decide
  obtain ⟨asks, -⟩ := hwrite 0x80000000 lapsing ha
  obtain ⟨t, ht, hd⟩ := asks hr hs hw hq
  obtain ⟨t', ht', hd'⟩ := flowReleaseWrite_asks ha hr hs hw hq
  obtain rfl : t = t' := Host.Outcome.next.inj (ht.symm.trans ht')
  have e := (congrArg Dsp.releases hd).symm.trans hd'
  rw [lapsing_pcieRole, lapsing_touch_pcieRole] at e
  exact absurd e (by decide)

end Sys2Proof.Machine
end

section
/-! What the invariant of every step speaks of (R80, R81, R113, R428): the queue, world time, the stacks, shadow banks
and scratches of the Easels, the Atelier and the Canvas. Most operations leave all of it. -/

namespace Sys2Proof.Machine

/-- The stacks, the shadow bank and the scratch of an Easel. -/
structure EaselGuard where
  rets : List Nat
  loops : List LoopE
  shadow : Option Bank
  scratch : Tbl Byte

/-- The queue, world time, and what the invariant speaks of. -/
structure Guard where
  pending : List Instr
  now : Nat
  easels : Vector EaselGuard 8
  atelier : Tbl Byte
  cells : Tbl Cell

def Easel.guarded (x : Easel) : EaselGuard := ⟨x.bank.rets, x.bank.loops, x.shadow, x.scratch⟩

def State.guarded (s : State) : Guard :=
  ⟨s.pending, s.now, s.easels.map Easel.guarded, s.atelier.mem, s.canvas.cells⟩

theorem guarded_of_recordless {s t : State} (h : t.recordless = s.recordless) : t.guarded = s.guarded :=
  (congrArg State.guarded h :)

@[simp] theorem guarded_emit (s : State) (e : EvDef) (a b c d : Nat) : (s.emit e a b c d).guarded = s.guarded :=
  guarded_of_recordless (recordless_emit ..)

@[simp] theorem guarded_emitAt (s : State) (code sev : Nat) (link : Bool) (t a b c d : Nat) :
    (s.emitAt code sev link t a b c d).2.guarded = s.guarded :=
  guarded_of_recordless (recordless_emitAt ..)

@[simp] theorem guarded_ite (p : Prop) [Decidable p] (s t : State) :
    (if p then s else t).guarded = if p then s.guarded else t.guarded := apply_ite ..

@[simp] theorem guarded_foldl {α : Type} {f : State → α → State} (h : ∀ s a, (f s a).guarded = s.guarded) (l : List α)
    (s : State) : (l.foldl f s).guarded = s.guarded :=
  foldl_keeps State.guarded f h l s

theorem guarded_modEasel (s : State) (k : Fin 8) {f : Easel → Easel}
    (h : (f s.easels[k]).guarded = s.easels[k].guarded) : (s.modEasel k f).guarded = s.guarded := by
  have e : (s.easels.set k (f s.easels[k])).map Easel.guarded = s.easels.map Easel.guarded := by
    rw [Vector.map_set, h, ← Vector.map_set]
    simp
  simp only [State.guarded, State.modEasel, State.setEasel, e]

@[simp] theorem guarded_modEv (s : State) (f) : (s.modEv f).guarded = s.guarded := (rfl)
@[simp] theorem guarded_modSec (s : State) (f) : (s.modSec f).guarded = s.guarded := (rfl)
@[simp] theorem guarded_modPnt (s : State) (f) : (s.modPnt f).guarded = s.guarded := (rfl)
@[simp] theorem guarded_modPalette (s : State) (f) : (s.modPalette f).guarded = s.guarded := (rfl)
@[simp] theorem guarded_modHost (s : State) (f) : (s.modHost f).guarded = s.guarded := (rfl)
@[simp] theorem guarded_modTmb (s : State) (f) : (s.modTmb f).guarded = s.guarded := (rfl)
@[simp] theorem guarded_modFleet (s : State) (f) : (s.modFleet f).guarded = s.guarded := (rfl)
@[simp] theorem guarded_modEpoch (s : State) (f) : (s.modEpoch f).guarded = s.guarded := (rfl)
@[simp] theorem guarded_modDsp (s : State) (f) : (s.modDsp f).guarded = s.guarded := (rfl)
@[simp] theorem guarded_modStk (s : State) (f) : (s.modStk f).guarded = s.guarded := (rfl)
@[simp] theorem guarded_modGdl (s : State) (f) : (s.modGdl f).guarded = s.guarded := (rfl)
@[simp] theorem guarded_modDrv (s : State) (f) : (s.modDrv f).guarded = s.guarded := (rfl)
@[simp] theorem guarded_modAir (s : State) (f) : (s.modAir f).guarded = s.guarded := (rfl)
@[simp] theorem guarded_modRfb (s : State) (f) : (s.modRfb f).guarded = s.guarded := (rfl)
@[simp] theorem guarded_modTfc (s : State) (f) : (s.modTfc f).guarded = s.guarded := (rfl)
@[simp] theorem guarded_modTwin (s : State) (f) : (s.modTwin f).guarded = s.guarded := (rfl)
@[simp] theorem guarded_modPwr (s : State) (f) : (s.modPwr f).guarded = s.guarded := (rfl)
@[simp] theorem guarded_modGnss (s : State) (f) : (s.modGnss f).guarded = s.guarded := (rfl)
@[simp] theorem guarded_modServo (s : State) (f) : (s.modServo f).guarded = s.guarded := (rfl)
@[simp] theorem guarded_modTp (s : State) (f) : (s.modTp f).guarded = s.guarded := (rfl)
@[simp] theorem guarded_modPfo (s : State) (f) : (s.modPfo f).guarded = s.guarded := (rfl)
@[simp] theorem guarded_modPort (s : State) (p : Fin 2) (f) : (s.modPort p f).guarded = s.guarded := (rfl)
@[simp] theorem guarded_setReg (s : State) (a v : Nat) : (s.setReg a v).guarded = s.guarded := (rfl)

@[simp] theorem guarded_modCanvas (s : State) {f : Canvas → Canvas} (h : (f s.canvas).cells = s.canvas.cells) :
    (s.modCanvas f).guarded = s.guarded := by
  simp only [State.guarded, State.modCanvas, h]

@[simp] theorem guarded_modAtelier (s : State) {f : Atelier → Atelier} (h : (f s.atelier).mem = s.atelier.mem) :
    (s.modAtelier f).guarded = s.guarded := by
  simp only [State.guarded, State.modAtelier, h]

/-! ## The invariant of a guard, and what keeps it -/

def EaselGuard.fit (x : EaselGuard) : Prop :=
  (x.rets.length ≤ 8 ∧ x.loops.length ≤ 4) ∧ (∀ b, x.shadow = some b → b.fits) ∧ Memory.wf x.scratch = true

def Guard.fit (g : Guard) : Prop :=
  (∀ k : Fin 8, g.easels[k].fit) ∧ Memory.wf g.atelier = true ∧ tblWf cellDefault g.cells = true

theorem easels_guarded (s : State) (k : Fin 8) : s.guarded.easels[k] = s.easels[k].guarded := by
  simp [State.guarded]

theorem fit_guarded (s : State) : s.guarded.fit ↔
    easelsFit s.easels ∧ Memory.wf s.atelier.mem = true ∧ tblWf cellDefault s.canvas.cells = true := by
  simp only [Guard.fit, easels_guarded]
  rfl

/-- The queue and world time are as they were, and the invariant holds on. -/
structure Kept (g g' : Guard) : Prop where
  pending : g'.pending = g.pending
  now : g'.now = g.now
  fit : g.fit → g'.fit

@[simp] theorem Kept.refl (g : Guard) : Kept g g := ⟨rfl, rfl, id⟩

theorem kept_of_eq {g : Guard} {s t : State} (e : t.guarded = s.guarded) (h : Kept g s.guarded) :
    Kept g t.guarded := e ▸ h

@[simp] theorem kept_ite (g a b : Guard) (p : Prop) [Decidable p] :
    Kept g (if p then a else b) ↔ if p then Kept g a else Kept g b := by
  split <;> rfl

theorem kept_foldl {α : Type} {g : Guard} {f : State → α → State}
    (hf : ∀ s a, Kept g s.guarded → Kept g (f s a).guarded) (l : List α) {s : State} (h : Kept g s.guarded) :
    Kept g (l.foldl f s).guarded := by
  induction l generalizing s with
  | nil => exact h
  | cons a l ih => exact ih (hf s a h)

section
variable {g : Guard} {s : State} (h : Kept g s.guarded)
include h

theorem kept_modCanvas {f : Canvas → Canvas}
    (hf : tblWf cellDefault s.canvas.cells = true → tblWf cellDefault (f s.canvas).cells = true) :
    Kept g (s.modCanvas f).guarded where
  pending := h.pending
  now := h.now
  fit := fun hg =>
    have ⟨he, hm, hc⟩ := (fit_guarded s).mp (h.fit hg)
    (fit_guarded _).mpr ⟨he, hm, hf hc⟩

theorem kept_modAtelier {f : Atelier → Atelier}
    (hf : Memory.wf s.atelier.mem = true → Memory.wf (f s.atelier).mem = true) :
    Kept g (s.modAtelier f).guarded where
  pending := h.pending
  now := h.now
  fit := fun hg =>
    have ⟨he, hm, hc⟩ := (fit_guarded s).mp (h.fit hg)
    (fit_guarded _).mpr ⟨he, hf hm, hc⟩

theorem kept_modEasel {k : Fin 8} {f : Easel → Easel}
    (hf : s.easels[k].guarded.fit → (f s.easels[k]).guarded.fit) : Kept g (s.modEasel k f).guarded where
  pending := h.pending
  now := h.now
  fit := fun hg => by
    obtain ⟨he, hm, hc⟩ := (fit_guarded s).mp (h.fit hg)
    refine (fit_guarded _).mpr ⟨fun j => ?_, hm, hc⟩
    by_cases hj : j = k
    · subst hj
      rw [easels_modEasel_self]
      exact hf (he j)
    · rw [easels_modEasel_ne _ _ hj]
      exact he j

end

end Sys2Proof.Machine
end

section
/-! What the operations leave: events, registers and free values. They leave all that the invariant of every
step speaks of, or keep it. -/

namespace Sys2Proof.Machine

@[simp] theorem guarded_put (s : State) (o : Out) : (s.put o).guarded = s.guarded := by
  simp [State.put]

@[simp] theorem guarded_draw (s : State) : s.draw.2.guarded = s.guarded := (rfl)

@[simp] theorem guarded_bar (s : State) (f : State → State) (hf : ∀ s : State, (f s).guarded = s.guarded) :
    (s.bar f).guarded = s.guarded := by
  simp [State.bar, hf]

theorem kept_bar {g : Guard} {s : State} (h : Kept g s.guarded) {f : State → State}
    (hf : ∀ s, Kept g s.guarded → Kept g (f s).guarded) : Kept g (s.bar f).guarded := by
  unfold State.bar
  split
  · exact hf s h
  · exact h

@[simp] theorem guarded_touch (s : State) : s.touch.guarded = s.guarded := by
  simp [State.touch]

@[simp] theorem guarded_inEpoch (s : State) (n : Nat) (f : State → State)
    (hf : ∀ s : State, (f s).guarded = s.guarded) : (s.inEpoch n f).guarded = s.guarded := by
  simp [State.inEpoch, hf]

@[simp] theorem guarded_item (s : State) (kind key : Nat) (body : List Byte) :
    (s.item kind key body).guarded = s.guarded := by
  simp [State.item]

@[simp] theorem guarded_logInput (s : State) (x : LogEntry) : (s.logInput x).guarded = s.guarded := by
  simp [State.logInput]

@[simp] theorem guarded_logAt (s : State) (e : Nat) (x : LogEntry) : (s.logAt e x).guarded = s.guarded := by
  simp [State.logAt]

@[simp] theorem guarded_flashWrite (s : State) (w : FlashWrite) : (s.flashWrite w).guarded = s.guarded := by
  simp [State.flashWrite]

@[simp] theorem guarded_lateOutput (s : State) (kind index : Nat) :
    (s.lateOutput kind index).guarded = s.guarded := by
  simp [State.lateOutput]

@[simp] theorem guarded_pushResult (s : State) (stage task slot : Nat) (w : Word) :
    (s.pushResult stage task slot w).guarded = s.guarded := by
  simp [State.pushResult]

end Sys2Proof.Machine
end

section
/-! What the operations leave: sessions, keys and the Pentimento (R460 to R484). They leave all that the
invariant of every step speaks of, or keep it. -/

namespace Sys2Proof.Machine

@[simp] theorem guarded_modChan (s : State) (svc : Bool) (f : Channel → Channel) :
    (s.modChan svc f).guarded = s.guarded := by
  simp [State.modChan]

@[simp] theorem guarded_asRoleAny (s : State) (r : Nat) (f : State → State)
    (hf : ∀ s : State, (f s).guarded = s.guarded) : (s.asRoleAny r f).guarded = s.guarded := by
  simp [State.asRoleAny, hf]

@[simp] theorem guarded_asRole (s : State) (r : Nat) (f : State → State)
    (hf : ∀ s : State, (f s).guarded = s.guarded) : (s.asRole r f).guarded = s.guarded := by
  simp [State.asRole, hf]

theorem kept_asRole {g : Guard} {s : State} (h : Kept g s.guarded) {r : Nat} {f : State → State}
    (hf : ∀ s, Kept g s.guarded → Kept g (f s).guarded) : Kept g (s.asRole r f).guarded := by
  obtain ⟨-, -, e⟩ | e := asRole_cases s r f
  · rw [e]
    exact hf _ h
  · rw [e]
    exact h

@[simp] theorem guarded_dropStaging (s : State) (cause : Nat) : (s.dropStaging cause).guarded = s.guarded := by
  simp [State.dropStaging]

@[simp] theorem guarded_ownerGone (s : State) (svc : Bool) : (s.ownerGone svc).guarded = s.guarded := by
  simp [State.ownerGone]

@[simp] theorem guarded_closeSession (s : State) (svc : Bool) (cause : Nat) :
    (s.closeSession svc cause).guarded = s.guarded := by
  simp [State.closeSession]

@[simp] theorem guarded_openSession (s : State) (svc : Bool) (role : Nat) (chal : List Byte) :
    (s.openSession svc role chal).guarded = s.guarded := by
  simp [State.openSession]

@[simp] theorem guarded_proveSession (s : State) (svc : Bool) (response : List Byte) :
    (s.proveSession svc response).2.guarded = s.guarded := by
  unfold State.proveSession
  dsimp only
  split <;> [split; skip] <;> simp

@[simp] theorem guarded_closeRole (s : State) (role : Nat) : (s.closeRole role).guarded = s.guarded := by
  simp [State.closeRole]

@[simp] theorem guarded_refillCode (s : State) (code : Nat) : (s.refillCode code).guarded = s.guarded :=
  guarded_of_recordless (recordless_refill ..)

@[simp] theorem guarded_logFull (s : State) : s.logFull.guarded = s.guarded := by
  unfold State.logFull
  split
  · exact guarded_of_recordless (recordless_deliverOut ..)
  · rfl

end Sys2Proof.Machine
end

section
/-! What the operations leave: cells of the Canvas, which keep their canonical form (R171 to R176). They leave
all that the invariant of every step speaks of, or keep it. -/

namespace Sys2Proof.Machine

/-! ### The Canvas stays in canonical form -/

/-- The cells are in canonical form. -/
def Canvas.wf (c : Canvas) : Prop := tblWf cellDefault c.cells = true

theorem tblFilter_wfFrom {α : Type} [DecidableEq α] {d : Nat → α} {lo : Nat} {t : Tbl α}
    (h : tblWfFrom d lo t = true) (p : Nat × α → Bool) : tblWfFrom d lo (t.filter p) = true := by
  induction t generalizing lo with
  | nil => rfl
  | cons x t ih =>
    obtain ⟨j, v⟩ := x
    simp only [tblWfFrom, Bool.and_eq_true, decide_eq_true_eq] at h
    obtain ⟨⟨hj, hv⟩, ht⟩ := h
    rw [List.filter_cons]
    split
    · simp only [tblWfFrom, Bool.and_eq_true, decide_eq_true_eq]
      exact ⟨⟨hj, hv⟩, ih ht⟩
    · exact tblWfFrom_mono (ih ht) (by omega)

section
variable {c : Canvas} (h : c.wf)
include h

theorem setCell_wf (i : Nat) (v : Cell) : (c.setCell i v).wf := by
  unfold Canvas.setCell
  split
  · exact tblPut_wf h i v
  · exact h

omit h in
theorem foldl_wf {α : Type} {f : Canvas → α → Canvas} (hf : ∀ c a, c.wf → (f c a).wf) (l : List α) {c : Canvas}
    (h : c.wf) : (l.foldl f c).wf := by
  induction l generalizing c with
  | nil => exact h
  | cons a l ih => exact ih (hf c a h)

omit h in
theorem foldl_snd_wf {α β : Type} {f : β × Canvas → α → β × Canvas} (hf : ∀ x a, x.2.wf → (f x a).2.wf) (l : List α)
    {x : β × Canvas} (h : x.2.wf) : (l.foldl f x).2.wf := by
  induction l generalizing x with
  | nil => exact h
  | cons a l ih => exact ih (hf x a h)

theorem blockWord_wf (w : Nat) : (c.blockWord w).wf := foldl_wf (fun _ _ hc => setCell_wf hc _ _) _ h

theorem freeIf_wf (p : Cell → Bool) (is : List Nat) : (c.freeIf p is).2.wf :=
  foldl_snd_wf (fun x i hx => by
    split
    · exact setCell_wf hx _ _
    · exact hx) is h

theorem setFree_wf (v : Nat → Cell) (is : List Nat) : (c.setFree v is).2.wf :=
  foldl_snd_wf (fun x i hx => by
    split
    · exact setCell_wf hx _ _
    · exact hx) is h

theorem blockSquares_wf (o : HoldOwner) (reason index : Nat) (qs : List Nat) (p : Nat → Bool) :
    (c.blockSquares o reason index qs p).2.2.wf := by
  unfold Canvas.blockSquares
  exact setFree_wf (by exact h) _ _

theorem sweepColumn_wf (col : Nat) : (c.sweepColumn col).wf :=
  foldl_wf (fun _ _ hc => setCell_wf hc _ _) _ (tblFilter_wfFrom h _)

theorem clearLost_wf (r : Nat) : (c.clearLost r).wf := by
  unfold Canvas.clearLost
  split
  · exact h
  · exact freeIf_wf (by exact h) _ _

end

@[simp] theorem kept_canvasEcc {g : Guard} {s : State} (h : Kept g s.guarded) (w : Nat) :
    Kept g (s.canvasEcc w).guarded := by
  unfold State.canvasEcc
  dsimp only
  rw [guarded_emit]
  exact kept_modCanvas (kept_of_eq (guarded_logInput ..) h) fun hc => blockWord_wf hc w

@[simp] theorem kept_canvasEccs {g : Guard} {s : State} (h : Kept g s.guarded) (ws : List Nat) :
    Kept g (s.canvasEccs ws).guarded :=
  kept_foldl (fun _ _ hs => kept_canvasEcc hs _) ws h

@[simp] theorem kept_eccWhere {g : Guard} {s : State} (h : Kept g s.guarded) (bad : List (BitVec 21))
    (p : Nat → Bool) : Kept g (s.eccWhere bad p).guarded := by
  simp [State.eccWhere, h]

@[simp] theorem kept_probe {g : Guard} {s : State} (h : Kept g s.guarded) (i : Nat) (m : Ecc) :
    Kept g (s.probe i m).2.guarded := by
  unfold State.probe
  split <;> simp [h]

@[simp] theorem kept_probes {g : Guard} {s : State} (h : Kept g s.guarded) (l : List (Nat × Ecc)) :
    Kept g (s.probes l).2.guarded := by
  simp [State.probes, h]

@[simp] theorem guarded_persistCheck (s : State) (left cause index : Nat) :
    (s.persistCheck left cause index).guarded = s.guarded := by
  simp [State.persistCheck]

@[simp] theorem kept_setLost {g : Guard} {s : State} (h : Kept g s.guarded) (r : Nat) (p : Nat → Bool) :
    Kept g (s.setLost r p).2.guarded := by
  unfold State.setLost
  split
  · exact h
  · exact kept_of_eq (guarded_persistCheck ..) (kept_modCanvas h fun hc => blockSquares_wf hc _ _ _ _ _)

@[simp] theorem kept_canvasStart {g : Guard} {s : State} (h : Kept g s.guarded) :
    Kept g s.canvasStart.guarded :=
  kept_foldl (fun _ _ hs => kept_setLost hs _ _) _ (kept_modCanvas h fun _ => rfl)

end Sys2Proof.Machine
end

section
/-! What the operations leave: stops and their release (R20 to R35). They leave all that the invariant of every
step speaks of, or keep it. -/

namespace Sys2Proof.Machine

theorem unblockZone_wf {c : Canvas} (h : c.wf) (seq : Nat) : (c.unblockZone seq).wf := by
  unfold Canvas.unblockZone
  split
  · exact h
  · exact freeIf_wf (by exact h) _ _

@[simp] theorem guarded_voidGrants (s : State) (mine : Nat → Bool) (seq : Nat) :
    (s.voidGrants mine seq).guarded = s.guarded := by
  simp [State.voidGrants]

@[simp] theorem kept_blockZone {g : Guard} {s : State} (h : Kept g s.guarded) (x : Stop) :
    Kept g (s.blockZone x).guarded :=
  kept_of_eq (guarded_persistCheck ..) (kept_modCanvas h fun hc => blockSquares_wf hc _ _ _ _ _)

@[simp] theorem guarded_stopDrive (seq : Nat) (s : State) (d : Fin 8) :
    (s.stopDrive seq d).guarded = s.guarded := by
  simp [State.stopDrive]

@[simp] theorem guarded_clearErrors (s : State) (x : Stop) : (s.clearErrors x).guarded = s.guarded := by
  simp [State.clearErrors]

@[simp] theorem kept_stopEffects {g : Guard} {s : State} (h : Kept g s.guarded) (x : Stop) :
    Kept g (s.stopEffects x).guarded := by
  unfold State.stopEffects
  dsimp only
  split
  · simp [h]
  · exact kept_blockZone (by simp [h]) x
  · simp [h]

@[simp] theorem guarded_endBurst (s : State) : s.endBurst.guarded = s.guarded := by
  unfold State.endBurst
  split <;> simp

@[simp] theorem guarded_abortFrames (s : State) (t : Nat) : (s.abortFrames t).guarded = s.guarded := (rfl)

@[simp] theorem guarded_beginBurst (s : State) (b : Burst) : (s.beginBurst b).guarded = s.guarded := by
  unfold State.beginBurst
  cases s.air.burst <;> simp

@[simp] theorem guarded_startBurst (s : State) (b : Burst) (hard placed : Bool) :
    (s.startBurst b hard placed).guarded = s.guarded := by
  simp [State.startBurst]

@[simp] theorem kept_raiseStop {g : Guard} {s : State} (h : Kept g s.guarded) (kind : StopKind) (source index : Nat)
    (squares : List Nat) : Kept g (s.raiseStop kind source index squares).2.2.guarded := by
  unfold State.raiseStop
  dsimp only
  (repeat' split) <;> simp [h]

@[simp] theorem kept_raiseOwn {g : Guard} {s : State} (h : Kept g s.guarded) (source : Nat) :
    Kept g (s.raiseOwn source).guarded := by
  simp [State.raiseOwn, h]

theorem kept_unblock {g : Guard} {s : State} (h : Kept g s.guarded) (seq : Nat) (p : Prop) [Decidable p] :
    Kept g (if p then s.modCanvas fun c => c.unblockZone seq else s).guarded := by
  split
  · exact kept_modCanvas h fun hc => unblockZone_wf hc seq
  · exact h

theorem kept_testStop {g : Guard} {s : State} (h : Kept g s.guarded) (f : Dsp → Dsp) (p : Prop) [Decidable p] :
    Kept g (if p then s.modDsp f else s).guarded := by
  split <;> simp [h]

@[simp] theorem kept_endStop {g : Guard} {s : State} (h : Kept g s.guarded) (x : Stop) (role : Nat) :
    Kept g (s.endStop x role).guarded :=
  kept_testStop (kept_unblock (kept_of_eq (guarded_emit ..) (kept_of_eq (guarded_modFleet ..) h)) _ _) _ _

@[simp] theorem kept_releaseStop {g : Guard} {s : State} (h : Kept g s.guarded) (x : Stop) (role : Nat) :
    Kept g (s.releaseStop x role).guarded := by
  simp [State.releaseStop, h]

@[simp] theorem kept_judgeRelease {g : Guard} {s : State} (h : Kept g s.guarded) (seq role : Nat) (code1 : Bool)
    (bad : List (BitVec 21)) : Kept g (s.judgeRelease seq role code1 bad).2.guarded := by
  unfold State.judgeRelease
  dsimp only
  split <;> simp [h]

@[simp] theorem kept_applyStop {g : Guard} {s : State} (h : Kept g s.guarded) (x : Stop) (subsumed : Bool) :
    Kept g (s.applyStop x subsumed).guarded := by
  simp [State.applyStop, h]

@[simp] theorem kept_applyRelease {g : Guard} {s : State} (h : Kept g s.guarded) (seq role : Nat) :
    Kept g (s.applyRelease seq role).guarded := by
  unfold State.applyRelease
  split <;> simp [h]

@[simp] theorem kept_takePlaced {g : Guard} {s : State} (h : Kept g s.guarded) : Kept g s.takePlaced.guarded := by
  unfold State.takePlaced
  dsimp only
  split
  · exact h
  · refine kept_foldl (fun t x ht => ?_) _ (by simpa using h)
    split <;> simp [ht]

@[simp] theorem guarded_storeIncarnation (s : State) (status : Nat) :
    (s.storeIncarnation status).guarded = s.guarded := by
  simp [State.storeIncarnation]

@[simp] theorem kept_newIncarnation {g : Guard} {s : State} (h : Kept g s.guarded) (kind : Nat) :
    Kept g (s.newIncarnation kind).guarded := by
  unfold State.newIncarnation
  dsimp only
  refine kept_canvasStart (kept_of_eq ?_ h)
  rw [guarded_foldl fun s d => guarded_stopDrive .., guarded_clearErrors, guarded_modStk, guarded_modPalette,
    guarded_modAir, guarded_modStk, guarded_modCanvas _ rfl, guarded_modFleet]

end Sys2Proof.Machine
end

section
/-! What the operations leave: the Palette (R374 to R378). They leave all that the invariant of every step
speaks of, or keep it. -/

namespace Sys2Proof.Machine

@[simp] theorem guarded_discardQueue (s : State) (q : Nat) : (s.discardQueue q).2.2.guarded = s.guarded := by
  simp [State.discardQueue]

@[simp] theorem guarded_linkFault (s : State) (q : Nat) : (s.linkFault q).guarded = s.guarded := by
  simp [State.linkFault]

@[simp] theorem guarded_crcDrop (s : State) (q len reader : Nat) :
    (s.crcDrop q len reader).guarded = s.guarded := by
  simp [State.crcDrop]

@[simp] theorem guarded_readOut (s : State) (q i reader : Nat) (ro : ReadOut) :
    (s.readOut q i reader ro).2.guarded = s.guarded := by
  unfold State.readOut
  dsimp only
  (repeat' split) <;> simp

@[simp] theorem guarded_readHead (s : State) (q reader : Nat) (ro : ReadOut) :
    (s.readHead q reader ro).2.guarded = s.guarded := by
  unfold State.readHead
  split <;> simp

@[simp] theorem guarded_countBad (s : State) (q : Nat) : (s.countBad q).guarded = s.guarded := by
  simp [State.countBad]

@[simp] theorem guarded_arrivalFor (s : State) (q : Nat) (k : Packet) : (s.arrivalFor q k).guarded = s.guarded := by
  unfold State.arrivalFor
  split <;> simp

@[simp] theorem guarded_putPacket (s : State) (q : Nat) (k : Packet) : (s.putPacket q k).2.guarded = s.guarded := by
  simp [State.putPacket]

@[simp] theorem guarded_offerPacket (s : State) (q : Nat) (k : Packet) :
    (s.offerPacket q k).2.guarded = s.guarded := by
  unfold State.offerPacket
  split <;> simp

@[simp] theorem guarded_flushNow (s : State) (q role : Nat) : (s.flushNow q role).guarded = s.guarded := by
  simp [State.flushNow]

@[simp] theorem guarded_putWaited (s : State) (w : WaitingPut) : (s.putWaited w).guarded = s.guarded := by
  simp [State.putWaited]

@[simp] theorem guarded_easelPut (s : State) (a : Nat) : (s.easelPut a).2.2.guarded = s.guarded := by
  unfold State.easelPut
  dsimp only
  (repeat' split) <;> simp

@[simp] theorem guarded_getPacket (s : State) (q cap reader : Nat) (ro : ReadOut) :
    (s.getPacket q cap reader ro).2.2.guarded = s.guarded := by
  have hr := guarded_readHead s q reader ro
  unfold State.getPacket
  split
  · rfl
  · split
    · rfl
    · split <;> (rename_i e; rw [e] at hr; exact hr)

theorem write_wf {t : Atelier} (h : Memory.wf t.mem = true) (a : Nat) (bs : List Byte) :
    Memory.wf (t.write a bs).mem = true := memWrite_wf h _ bs

@[simp] theorem kept_easelGet {g : Guard} {s : State} (h : Kept g s.guarded) (a : Nat) (ro : ReadOut) :
    Kept g (s.easelGet a ro).2.2.guarded := by
  unfold State.easelGet
  dsimp only
  split
  · exact h
  · split
    · exact h
    · refine kept_modAtelier (kept_of_eq (guarded_getPacket ..) h) fun hm => ?_
      split
      · exact hm
      · exact write_wf hm _ _

end Sys2Proof.Machine
end

section
/-! What the operations leave: the issue of an instruction, faults and the end of a task (R81 to R96). They
leave all that the invariant of every step speaks of, or keep it. -/

namespace Sys2Proof.Machine

@[simp] theorem guarded_trace (s : State) (kind easel : Nat) (t : TaskCtx) (data : Nat) :
    (s.trace kind easel t data).guarded = s.guarded := by
  simp [State.trace]

@[simp] theorem guarded_lateCheck (s : State) : s.lateCheck.guarded = s.guarded := by
  simp [State.lateCheck]

@[simp] theorem guarded_pastIn (s : State) (k : Fin 8) (t : TaskCtx) : (s.pastIn k t).guarded = s.guarded := by
  simp [State.pastIn]

@[simp] theorem guarded_workEnds (s : State) (k : Fin 8) (t : TaskCtx) : (s.workEnds k t).guarded = s.guarded := by
  simp [State.workEnds]

@[simp] theorem guarded_programEvent (s : State) (code sev time : Nat) (p0 p1 p2 p3 : Nat) :
    (s.programEvent code sev time p0 p1 p2 p3).2.guarded = s.guarded := by
  simp [State.programEvent]

@[simp] theorem guarded_pushReq (s : State) (k : Fin 8) (r : FabReq) : (s.pushReq k r).guarded = s.guarded :=
  guarded_modEasel s k rfl

theorem guarded_of_posted {s t : State} (h : t.posted = s.posted) : t.guarded = s.guarded := by
  simp only [State.posted, Prod.mk.injEq] at h
  obtain ⟨hp, hn, he, hm, hc⟩ := h
  have hg : t.easels.map Easel.guarded = s.easels.map Easel.guarded := by
    have (v : Vector Easel 8) : v.map Easel.guarded = (v.map Easel.sansFifo).map Easel.guarded := by
      rw [Vector.map_map]
      rfl
    rw [this, he, ← this]
  simp only [State.guarded, hp, hn, hg, hm, hc]

@[simp] theorem guarded_drainHeld (s : State) (flow : Nat) : (s.drainHeld flow).guarded = s.guarded :=
  guarded_of_posted (posted_drainHeld ..)

@[simp] theorem guarded_hold (s : State) (t : TaskCtx) (o : HeldOut) : (s.hold t o).guarded = s.guarded := by
  simp [State.hold]

@[simp] theorem guarded_endHeld (s : State) (t : TaskCtx) : (s.endHeld t).guarded = s.guarded := by
  simp [State.endHeld]

@[simp] theorem guarded_quarantine (s : State) (flow easel code : Nat) :
    (s.quarantine flow easel code).guarded = s.guarded := by
  simp [State.quarantine]

@[simp] theorem guarded_haltEasel (s : State) (k : Fin 8) (cause : Nat) :
    (s.haltEasel k cause).guarded = s.guarded := by
  rw [State.haltEasel, guarded_emit, guarded_modEasel s k rfl]

/-- Discarded stacks keep within their bounds. -/
theorem emptied_fit {x y : EaselGuard} (h : x.fit) (hy : y = { x with rets := [], loops := [] }) : y.fit := by
  subst hy
  exact ⟨⟨Nat.zero_le _, Nat.zero_le _⟩, h.2⟩

/-- The stacks are discarded; all else that the invariant speaks of stays (R90). -/
@[simp] theorem kept_easelFault {g : Guard} {s : State} (h : Kept g s.guarded) (k : Fin 8) (code : Nat)
    (addr : Word) : Kept g (s.easelFault k code addr).guarded := by
  unfold State.easelFault
  dsimp only
  have hv := kept_of_eq (guarded_emit s evEaselFault k code
    (65536 * s.easels[k].bank.task.task + s.easels[k].bank.task.flow) s.easels[k].bank.pc) h
  generalize s.emit evEaselFault _ _ _ _ = v at hv
  have hu (f : Easel → Easel) (hf : v.easels[k].guarded.fit → (f v.easels[k]).guarded.fit) (c : Nat) (t : TaskCtx) :
      Kept g (((((v.modEasel k f).trace 5 k t c).endHeld t).pastIn k t).quarantine t.flow k c
        |>.workEnds k t).guarded := by
    rw [guarded_workEnds, guarded_quarantine, guarded_pastIn, guarded_endHeld, guarded_trace]
    exact kept_modEasel hv hf
  have hf : v.easels[k].guarded.fit → (v.easels[k].faulted code addr).guarded.fit := fun h => emptied_fit h rfl
  split
  · exact kept_of_eq (guarded_haltEasel ..) (hu (fun x => x.faulted code addr) hf _ _)
  · exact hu (fun x => x.faulted code addr) hf _ _

@[simp] theorem kept_settle {g : Guard} {s : State} (h : Kept g s.guarded) (k : Fin 8) :
    Kept g (s.settle k).guarded := by
  unfold State.settle
  split
  · rename_i b hb
    rw [guarded_trace]
    exact kept_modEasel h fun hf => ⟨hf.2.1 b hb, fun b' hb' => by simp [Easel.guarded] at hb', hf.2.2⟩
  · exact kept_of_eq (guarded_modEasel s k rfl) h

@[simp] theorem kept_endTask {g : Guard} {s : State} (h : Kept g s.guarded) (k : Fin 8) :
    Kept g (s.endTask k).guarded := by
  unfold State.endTask
  dsimp only
  refine kept_settle ?_ k
  rw [guarded_workEnds, guarded_endHeld, guarded_trace]
  exact kept_modEasel h fun hf => emptied_fit hf rfl

@[simp] theorem guarded_imemCorrected (s : State) (k : Fin 8) (m : Ecc) (i : Nat) :
    (s.imemCorrected k m i).guarded = s.guarded := by
  unfold State.imemCorrected
  split
  · rw [guarded_emit, guarded_modEasel s k rfl]
  · rfl

@[simp] theorem guarded_fetchCorrected (s : State) (e : At) (x : Easel) :
    (s.fetchCorrected e x).guarded = s.guarded := by
  unfold State.fetchCorrected
  dsimp only
  split <;> simp

@[simp] theorem guarded_stepped (s : State) (k : Fin 8) (step : Bool) : (s.stepped k step).guarded = s.guarded := by
  unfold State.stepped
  split
  · exact guarded_haltEasel ..
  · exact guarded_modEasel s k rfl

/-! ### The Easel's instructions -/

theorem loopEnd_loops (b : Bank) (e : Nat) :
    (b.loopEnd e).loops.length ≤ b.loops.length ∧ (b.loopEnd e).rets = b.rets := by
  unfold Bank.loopEnd
  split
  · rename_i l rest hl
    split <;> simp [hl]
  · exact ⟨le_rfl, rfl⟩

/-- The timeline and the loop-end step keep a bank within its stacks. -/
theorem finish_fits {b' : Bank} (h : b'.fits) (b : Bank) (i : EInstr) (taken : Bool) :
    (b.finish b' i taken).fits := by
  obtain ⟨hr, hl⟩ := h
  have hloops : (b.finish b' i taken).loops =
      (if b.atLoopEnd then b'.loopEnd b.pc else b').loops := by
    obtain ⟨-, -, -, -, -, h6, -⟩ := advance_regs (if b.atLoopEnd = true then b'.loopEnd b.pc else b') (usage i)
      (b.issueAt (usage i)) (b.cost i taken)
    exact h6
  obtain ⟨-, -, -, hrets, -, -⟩ := finish_regs b b' i taken
  refine ⟨by rw [hrets]; exact hr, ?_⟩
  rw [hloops]
  split
  · exact (loopEnd_loops b' b.pc).1.trans hl
  · exact hl

/-- A bank that keeps within its stacks is written. -/
theorem kept_setBank {g : Guard} {s : State} (h : Kept g s.guarded) (k : Fin 8) {b : Bank} (hb : g.fit → b.fits) :
    Kept g (s.modEasel k fun y => { y with bank := b, brkSkip := false }).guarded where
  pending := h.pending
  now := h.now
  fit := fun hg => (kept_modEasel (f := fun y => { y with bank := b, brkSkip := false }) (Kept.refl s.guarded)
    fun hf => ⟨hb hg, hf.2⟩).fit (h.fit hg)

theorem bank_fits {g : Guard} {s : State} (h : Kept g s.guarded) (hg : g.fit) (k : Fin 8) :
    s.easels[k].bank.fits :=
  (((fit_guarded s).mp (h.fit hg)).1 k).1

/-- What the act of an instruction and what follows its issue must keep, for the instruction to. -/
structure EAct.Keeps (x : EAct) (g : Guard) (s : State) (b : Bank) : Prop where
  act : x.fault s b = none → ∀ b' s', x.act s b = some (b', s') → Kept g s'.guarded ∧ (b.fits → b'.fits)
  after : ∀ s, Kept g s.guarded → Kept g (x.after s).guarded

theorem own_of_faultOf_none {b : Bank} {i : EInstr} {own : Option (Nat × Word)} {taken : Bool}
    (e : b.faultOf i own taken = none) : own = none := by
  unfold Bank.faultOf at e
  cases own with
  | none => rfl
  | some f => split at e <;> simp at e

theorem kept_runOn {g : Guard} {s : State} (h : Kept g s.guarded) (e : At) (i : EInstr) {x : EAct}
    (hx : x.Keeps g s s.easels[e.k].bank) : Kept g (s.runOn e i x).guarded := by
  unfold State.runOn
  dsimp only
  split
  · exact h
  · split
    · exact kept_easelFault h ..
    · split
      · exact h
      · split
        · exact kept_easelFault (kept_of_eq (guarded_fetchCorrected ..) h) ..
        · rename_i hf
          split
          · exact h
          · rename_i b' s' ha
            obtain ⟨hs, hb⟩ := hx.act (own_of_faultOf_none hf) b' s' ha
            refine kept_of_eq (guarded_stepped ..) (hx.after _ (kept_setBank ?_ e.k fun hg => ?_))
            · exact kept_of_eq (guarded_fetchCorrected ..) hs
            · exact finish_fits (hb (bank_fits h hg e.k)) ..

/-- An instruction's act that leaves the state keeps what its own effect on the bank does. -/
theorem keeps_act {x : EAct} {g : Guard} {s : State} (h : Kept g s.guarded) {b b' : Bank}
    (ha : x.act s b = some (b', s)) (hb : x.fault s b = none → b.fits → b'.fits)
    (haf : ∀ s, Kept g s.guarded → Kept g (x.after s).guarded) : x.Keeps g s b where
  act := fun hf c t e => by
    rw [ha, Option.some.injEq, Prod.mk.injEq] at e
    obtain ⟨rfl, rfl⟩ := e
    exact ⟨h, hb hf⟩
  after := haf

end Sys2Proof.Machine
end

section
/-! What the operations leave: gates and the now column (R171, R458). They leave all that the invariant of every
step speaks of, or keep it. -/

namespace Sys2Proof.Machine

@[simp] theorem guarded_judgeWant (now epoch : Nat) (s : State) (d : Fin 8) :
    (s.judgeWant now epoch d).guarded = s.guarded := by
  simp [State.judgeWant]

@[simp] theorem guarded_judgeWants (s : State) (now epoch : Nat) :
    (s.judgeWants now epoch).guarded = s.guarded := by
  simp [State.judgeWants]

@[simp] theorem guarded_gateNotOpen (s : State) (now : Nat) (d : Fin 8) :
    (s.gateNotOpen now d).guarded = s.guarded := by
  simp [State.gateNotOpen]

@[simp] theorem guarded_gatesNotOpen (s : State) (now : Nat) : (s.gatesNotOpen now).guarded = s.guarded := by
  simp [State.gatesNotOpen]

@[simp] theorem kept_passColumns {g : Guard} {s : State} (h : Kept g s.guarded) (k t : Nat) :
    Kept g (s.passColumns k t).guarded := by
  have hw (f : Canvas → Canvas) (p : Nat × Cell → Bool) (hf : (f s.canvas).cells = s.canvas.cells.filter p) :
      Kept g (s.modCanvas f).guarded :=
    kept_modCanvas h fun hc => by rw [hf]; exact tblFilter_wfFrom hc p
  unfold State.passColumns
  dsimp only
  split
  · exact hw _ _ rfl
  · rw [guarded_gatesNotOpen, guarded_judgeWants]
    exact hw _ _ rfl

end Sys2Proof.Machine
end

section
/-! What the operations leave: the time servo. They leave all that the invariant of every step speaks of, or
keep it. -/

namespace Sys2Proof.Machine

@[simp] theorem guarded_restream (s : State) : s.restream.guarded = s.guarded := by
  simp [State.restream]

@[simp] theorem guarded_setTime (s : State) (new : TimeState) (u : Option Nat) :
    (s.setTime new u).guarded = s.guarded := by
  simp [State.setTime]

@[simp] theorem guarded_enterHoldover (s : State) : s.enterHoldover.guarded = s.guarded := by
  simp [State.enterHoldover]

@[simp] theorem guarded_refreshHold (s : State) : s.refreshHold.guarded = s.guarded := by
  simp [State.refreshHold]

@[simp] theorem guarded_pendStep (s : State) (d : Int) (reason : Nat) :
    (s.pendStep d reason).guarded = s.guarded := by
  simp [State.pendStep]

@[simp] theorem kept_stepTime {g : Guard} {s : State} (h : Kept g s.guarded) (d : Nat) :
    Kept g (s.stepTime d).guarded := by
  have ht (x : Tmb) : Kept g ({ s with tmb := x } : State).guarded := h
  unfold State.stepTime
  dsimp only
  split
  · rw [guarded_modAir]
    exact ht _
  · refine kept_passColumns ?_ _ _
    rw [guarded_modAir]
    exact ht _

@[simp] theorem guarded_slew (s : State) (x : Soln) : (s.slew x).guarded = s.guarded := (rfl)

@[simp] theorem guarded_afterSolution (s : State) (x : Soln) : (s.afterSolution x).guarded = s.guarded := by
  unfold State.afterSolution
  split <;> simp

@[simp] theorem guarded_acceptSoln (s : State) (x : Soln) : (s.acceptSoln x).guarded = s.guarded := by
  unfold State.acceptSoln
  dsimp only
  split <;> [skip; split] <;> simp

@[simp] theorem guarded_jumpSoln (s : State) (x : Soln) : (s.jumpSoln x).guarded = s.guarded := by
  simp [State.jumpSoln]

@[simp] theorem guarded_takeSoln (s : State) (x : Soln) : (s.takeSoln x).guarded = s.guarded := by
  simp [State.takeSoln]

@[simp] theorem guarded_noSoln (s : State) : s.noSoln.guarded = s.guarded := by
  simp [State.noSoln]

@[simp] theorem guarded_pastLeap (s : State) : s.pastLeap.guarded = s.guarded := by
  simp [State.pastLeap]

@[simp] theorem guarded_stampLost (s : State) (i : Fin 25) : (s.stampLost i).guarded = s.guarded := by
  simp [State.stampLost]

@[simp] theorem guarded_writeSrc (s : State) (src : Nat) : (s.writeSrc src).guarded = s.guarded := by
  simp [State.writeSrc]

@[simp] theorem guarded_firstTime (s : State) (partner : Option Nat) :
    (s.firstTime partner).guarded = s.guarded := by
  simp [State.firstTime]

end Sys2Proof.Machine
end

section
/-! What the operations leave: the GNSS receiver. They leave all that the invariant of every step speaks of, or
keep it. -/

namespace Sys2Proof.Machine

/-- A fold that answers a value beside the state. -/
theorem guarded_foldl_snd {α β : Type} {f : β × State → α → β × State}
    (hf : ∀ r a, (f r a).2.guarded = r.2.guarded) (l : List α) (r : β × State) :
    (l.foldl f r).2.guarded = r.2.guarded := by
  induction l generalizing r with
  | nil => rfl
  | cons a l ih => exact (ih (f r a)).trans (hf r a)

@[simp] theorem guarded_observe (s : State) (res : List (Fin 64 × ℚ)) (o : GnssSat) :
    (s.observe res o).guarded = s.guarded := by
  simp [State.observe]

@[simp] theorem guarded_setNotch (s : State) (b : Fin 2) (k : Fin 4) (n : Notch) :
    (s.setNotch b k n).guarded = s.guarded := by
  simp [State.setNotch]

@[simp] theorem guarded_dropNotch (s : State) (b : Fin 2) (k : Fin 4) : (s.dropNotch b k).guarded = s.guarded := by
  simp [State.dropNotch]

@[simp] theorem guarded_runNotch (s : State) (b : Fin 2) (bins : List Nat) (median : Nat) (k : Fin 4) :
    (s.runNotch b bins median k).guarded = s.guarded := by
  unfold State.runNotch
  dsimp only
  (repeat' split) <;> simp

@[simp] theorem guarded_judgeJam (s : State) (b : Fin 2) : (s.judgeJam b).guarded = s.guarded := by
  simp [State.judgeJam]

@[simp] theorem guarded_putBias (s : State) (i : Fin 2) : (s.putBias i).guarded = s.guarded := by
  simp [State.putBias]

@[simp] theorem guarded_faultBias (s : State) (input : Fin 2) (f ma : Nat) :
    (s.faultBias input f ma).guarded = s.guarded := by
  simp [State.faultBias]

@[simp] theorem guarded_startSurvey (s : State) : s.startSurvey.guarded = s.guarded := by
  simp [State.startSurvey]

@[simp] theorem guarded_positionEpoch (s : State) : s.positionEpoch.guarded = s.guarded := by
  unfold State.positionEpoch
  dsimp only
  split <;> simp

@[simp] theorem guarded_endSurvey (s : State) (p : Pos) (sigma : Nat) :
    (s.endSurvey p sigma).guarded = s.guarded := by
  simp [State.endSurvey]

@[simp] theorem guarded_surveyEpoch (s : State) (o : GnssObs) : (s.surveyEpoch o).guarded = s.guarded := by
  unfold State.surveyEpoch
  dsimp only
  split <;> [skip; split] <;> simp

@[simp] theorem guarded_checkCoords (s : State) (o : GnssObs) : (s.checkCoords o).guarded = s.guarded := by
  unfold State.checkCoords
  dsimp only
  split <;> simp

@[simp] theorem guarded_putMsg (s : State) (q n : Nat) (m : List Byte) :
    (s.putMsg q n m).2.guarded = s.guarded := by
  simp [State.putMsg]

@[simp] theorem guarded_countSent (s : State) (n : Nat) : (s.countSent n).guarded = s.guarded := by
  simp [State.countSent]

@[simp] theorem guarded_placeQueues (s : State) (x m : List Byte) : (s.placeQueues x m).2.guarded = s.guarded := by
  unfold State.placeQueues
  dsimp only
  split <;> split <;> simp

@[simp] theorem guarded_placeMsg (s : State) (x payload : List Byte) :
    (s.placeMsg x payload).guarded = s.guarded := by
  simp [State.placeMsg]

@[simp] theorem guarded_sendDatagram (s : State) (x : List Byte) (p : Fin 2) (n : Nat) (b : List Byte) :
    (s.sendDatagram x p n b).2.guarded = s.guarded := by
  unfold State.sendDatagram
  dsimp only
  split <;> [skip; split] <;> simp

@[simp] theorem guarded_sendDatagrams (s : State) (x : List Byte) (ms : List (List Byte × Bool)) :
    (s.sendDatagrams x ms).guarded = s.guarded := by
  unfold State.sendDatagrams
  dsimp only
  split
  · rw [guarded_countSent, guarded_foldl_snd]
    intro r p
    split <;> simp
  · rw [guarded_foldl_snd]
    intro r p
    split <;> simp

@[simp] theorem guarded_flushUdp (s : State) : s.flushUdp.guarded = s.guarded := by
  unfold State.flushUdp
  split
  · simp
  · split
    · rfl
    · rw [guarded_foldl (fun s d => guarded_sendDatagrams ..), guarded_modGnss]

@[simp] theorem guarded_msmEpoch (s : State) (x : List Byte) (o : GnssObs) (t : Nat) :
    (s.msmEpoch x o t).guarded = s.guarded := by
  simp [State.msmEpoch]

@[simp] theorem guarded_streamEpoch (s : State) (o : GnssObs) (last t : Nat) :
    (s.streamEpoch o last t).guarded = s.guarded := by
  unfold State.streamEpoch
  split
  · rfl
  · dsimp only
    split
    · rfl
    · rw [guarded_flushUdp]
      split <;> simp

@[simp] theorem guarded_showUtc (s : State) (u : Nat × Nat × Nat) : (s.showUtc u).guarded = s.guarded := by
  simp [State.showUtc]

@[simp] theorem guarded_takeUtc (s : State) (l : List (Fin 4 × Nat × Nat × Nat)) :
    (s.takeUtc l).guarded = s.guarded := by
  unfold State.takeUtc
  dsimp only
  split <;> [skip; split] <;> simp

@[simp] theorem guarded_servoEpoch (s : State) (o : GnssObs) : (s.servoEpoch o).guarded = s.guarded := by
  unfold State.servoEpoch
  dsimp only
  (repeat' split) <;> simp

end Sys2Proof.Machine
end

section
/-! What the operations leave: the Ethernet ports. They leave all that the invariant of every step speaks of, or
keep it. -/

namespace Sys2Proof.Machine

@[simp] theorem guarded_breakOff (s : State) (port : Fin 2) (n : Nat) :
    (s.breakOff port n).guarded = s.guarded := by
  simp [State.breakOff]

@[simp] theorem guarded_learnArp (s : State) (p : Fin 2) (ip mac : Nat) :
    (s.learnArp p ip mac).guarded = s.guarded := by
  simp [State.learnArp]

@[simp] theorem guarded_sendPtp (s : State) (p : Fin 2) (event : Bool) (m : List Byte) :
    (s.sendPtp p event m).guarded = s.guarded := by
  simp [State.sendPtp]

@[simp] theorem guarded_sendSync (s : State) (p : Fin 2) : (s.sendSync p).guarded = s.guarded := by
  simp [State.sendSync]

@[simp] theorem guarded_judgeMaster (s : State) (port : Fin 2) : (s.judgeMaster port).guarded = s.guarded := by
  unfold State.judgeMaster
  dsimp only
  split <;> simp

@[simp] theorem guarded_judgeMasters (s : State) : s.judgeMasters.guarded = s.guarded := by
  simp [State.judgeMasters]

@[simp] theorem guarded_masterBound (s : State) (p : Fin 2) : (s.masterBound p).2.guarded = s.guarded := by
  unfold State.masterBound
  split
  · split
    · split <;> simp
    · simp
  · simp

end Sys2Proof.Machine
end

section
/-! What the operations leave: the grant engine (R177 to R206). They leave all that the invariant of every step
speaks of, or keep it. -/

namespace Sys2Proof.Machine

theorem canvas_wf {g : Guard} {s : State} (h : Kept g s.guarded) (hg : g.fit) : s.canvas.wf :=
  ((fit_guarded s).mp (h.fit hg)).2.2

/-- A Canvas in canonical form is written. -/
theorem kept_setCanvas {g : Guard} {s : State} (h : Kept g s.guarded) {f : Canvas → Canvas}
    (hf : g.fit → (f s.canvas).wf) : Kept g (s.modCanvas f).guarded where
  pending := h.pending
  now := h.now
  fit := fun hg => (fit_guarded _).mpr
    ⟨((fit_guarded s).mp (h.fit hg)).1, ((fit_guarded s).mp (h.fit hg)).2.1, hf hg⟩

theorem freeGen_wf {c : Canvas} (h : c.wf) (r n : Nat) : (c.freeGen r n).2.wf := freeIf_wf h _ _

theorem markCell_wf {c d : Canvas} (h : c.wf) {r gen : Nat} {bad : List Nat} {m : Mark}
    (e : c.markCell r gen bad m = .inr d) : d.wf := by
  obtain ⟨-, e⟩ | ⟨-, e⟩ := ite_eq_iff.mp e
  · cases e
  · obtain ⟨-, e⟩ | ⟨-, e⟩ := ite_eq_iff.mp e
    · cases e
      exact setCell_wf h _ _
    · cases e

theorem phase1_wf (r gen : Nat) (bad : List Nat) (n : Nat) (ms : List Mark) (u : List (Nat × Cell)) {c : Canvas}
    (h : c.wf) : (c.phase1 r gen bad n ms u).canvas.wf := by
  induction n generalizing ms u c with
  | zero => exact h
  | succ n ih =>
    cases ms with
    | nil => exact h
    | cons m t =>
      unfold Canvas.phase1
      split
      · exact h
      · split
        · exact h
        · rename_i hd
          exact ih _ _ (markCell_wf h hd)

theorem phase2_wf (bad : List Nat) (n : Nat) (ms : List Mark) (u : List (Nat × Cell)) {c : Canvas} (h : c.wf) :
    (c.phase2 bad n ms u).canvas.wf := by
  induction n generalizing ms c with
  | zero => exact h
  | succ n ih =>
    cases ms with
    | nil => exact h
    | cons m t =>
      unfold Canvas.phase2
      split
      · exact h
      · exact ih _ (setCell_wf h _ _)

theorem rollback_wf {c : Canvas} (h : c.wf) (u : List (Nat × Cell)) : (c.rollback u).wf :=
  foldl_wf (fun _ _ hc => by
    split
    · exact hc
    · exact setCell_wf hc _ _) u h

theorem applyRest_wf {c : Canvas} (h : c.wf) : c.applyRest.wf := by
  unfold Canvas.applyRest
  show (List.foldl _ c c.holds).wf
  exact foldl_wf (fun c x hc => setFree_wf (by exact hc) _ _) _ h

theorem kept_if {g : Guard} {p : Prop} [Decidable p] {s t : State} (hs : Kept g s.guarded) (ht : Kept g t.guarded) :
    Kept g (if p then s else t).guarded := by
  split
  · exact hs
  · exact ht

theorem guarded_if {g : Guard} {p : Prop} [Decidable p] {s t : State} (hs : s.guarded = g) (ht : t.guarded = g) :
    (if p then s else t).guarded = g := by
  split
  · exact hs
  · exact ht

@[simp] theorem guarded_released (s : State) (r n why gen : Nat) :
    (s.released r n why gen).guarded = s.guarded := by
  simp [State.released]

@[simp] theorem kept_endParks {g : Guard} {s : State} (h : Kept g s.guarded) (r : CReport) (q : Nat) :
    Kept g (s.endParks r q).guarded := by
  refine kept_foldl (fun s x hs => ?_) _ h
  dsimp only
  split
  · rw [guarded_released]
    exact kept_modCanvas hs fun hc => freeGen_wf (c := s.canvas.dropHold x.owner) hc r.robot x.gen
  · exact hs

@[simp] theorem kept_releaseBeyond {g : Guard} {s : State} (h : Kept g s.guarded) (r gen : Nat)
    (gens set : List Nat) : Kept g (s.releaseBeyond r gen gens set).guarded := by
  unfold State.releaseBeyond
  dsimp only
  rw [guarded_released]
  exact kept_modCanvas h fun hc => freeIf_wf (by exact hc) _ _

@[simp] theorem kept_parkEnvelope {g : Guard} {s : State} (h : Kept g s.guarded) (r : Nat) (x : Grant)
    (gens set : List Nat) : Kept g (s.parkEnvelope r x gens set).guarded := by
  unfold State.parkEnvelope
  dsimp only
  rw [guarded_released]
  exact kept_modCanvas h fun hc => setFree_wf (foldl_wf (fun _ _ hc => setCell_wf hc _ _) _ hc) _ _

@[simp] theorem kept_standstill {g : Guard} {s : State} (h : Kept g s.guarded) (r : CReport) (prev : Option Nat)
    (q : Nat) : Kept g (s.standstill r prev q).guarded := by
  unfold State.standstill
  dsimp only
  split
  · exact h
  · split
    · exact kept_releaseBeyond h ..
    · exact kept_if (kept_parkEnvelope h ..) h
    · exact h

@[simp] theorem guarded_rebuiltCheck (s : State) : s.rebuiltCheck.guarded = s.guarded := by
  simp [State.rebuiltCheck]

@[simp] theorem kept_applyReport {g : Guard} {s : State} (h : Kept g s.guarded) (r : CReport) :
    Kept g (s.applyReport r).guarded := by
  unfold State.applyReport
  extract_lets x silence found s1 sq s2 s3 s4
  have h1 : Kept g s1.guarded := kept_modCanvas h fun hc => clearLost_wf hc r.robot
  have h2 : Kept g s2.guarded :=
    kept_if (kept_of_eq (guarded_emit ..) h1) (kept_if (kept_of_eq (guarded_emit ..) h1) h1)
  have h3 : Kept g s3.guarded := kept_of_eq (guarded_rebuiltCheck ..) h2
  have h4 : Kept g s4.guarded := kept_if (kept_of_eq (guarded_modFleet ..) h3) h3
  split
  · exact h4
  · extract_lets s5
    exact kept_endParks (kept_if (kept_standstill h4 ..) h4) _ _

@[simp] theorem guarded_finishReq (s : State) (q : BatchReq) (h : Desc) (w : Word) :
    (s.finishReq q h w).guarded = s.guarded := by
  unfold State.finishReq
  extract_lets s1 s2
  have h1 : s1.guarded = s.guarded := guarded_item ..
  have h2 : s2.guarded = s1.guarded := guarded_modCanvas _ rfl
  rw [← h1, ← h2]
  split
  · exact guarded_modCanvas _ ((apply_ite Canvas.cells ..).trans (ite_self _))
  · exact guarded_pushResult ..
  · rfl
  · rfl

@[simp] theorem guarded_refuseReq (s : State) (q : BatchReq) (h : Desc) (r : Refused) :
    (s.refuseReq q h r).guarded = s.guarded := by
  unfold State.refuseReq
  extract_lets w t
  have ht : t.guarded = s.guarded := by
    simp only [t]
    split
    · exact guarded_modCanvas _ rfl
    · rfl
  rw [guarded_emit, guarded_finishReq, ht]

@[simp] theorem guarded_refuseForm (s : State) (q : BatchReq) : (s.refuseForm q).guarded = s.guarded := by
  unfold State.refuseForm
  extract_lets d
  exact guarded_refuseReq s q _ _

@[simp] theorem guarded_dropInvalid (n : Nat) (s : State) : (s.dropInvalid n).guarded = s.guarded := by
  induction n generalizing s with
  | zero => rfl
  | succ n ih =>
    unfold State.dropInvalid
    split
    · split
      · exact (ih _).trans (guarded_refuseForm ..)
      · rfl
    · rfl

@[simp] theorem kept_nextReq {g : Guard} {s : State} (h : Kept g s.guarded) : Kept g s.nextReq.guarded := by
  have hd : Kept g (s.takePlaced.dropInvalid s.takePlaced.canvas.batch.length).guarded :=
    kept_of_eq (guarded_dropInvalid ..) (kept_takePlaced h)
  unfold State.nextReq
  split
  · exact h
  · dsimp only
    split
    · exact kept_of_eq (guarded_judgeWants ..) hd
    · exact hd

@[simp] theorem kept_acceptGrant {g : Guard} {s : State} (h : Kept g s.guarded) (q : BatchReq) (d : Desc) {c : Canvas}
    (hc : g.fit → c.wf) : Kept g (s.acceptGrant q d c).guarded := by
  unfold State.acceptGrant
  extract_lets set ends x hold c1 c2 pay queue s1 s2 s3 s4
  have h1 : Kept g s1.guarded := kept_setCanvas h hc
  have h4 : Kept g s4.guarded := by
    refine kept_of_eq ?_ h1
    exact (guarded_finishReq ..).trans ((guarded_item ..).trans (guarded_modPalette ..))
  exact kept_if (kept_of_eq (guarded_voidGrants ..) h4) h4

@[simp] theorem kept_failCommit {g : Guard} {s : State} (h : Kept g s.guarded) (q : BatchReq) (d : Desc) (k : Commit)
    (r : Refused) (found : Bool) : Kept g (s.failCommit q d k r found).guarded := by
  have hr : Kept g (s.modCanvas fun c => c.rollback k.undo).guarded := kept_modCanvas h fun hc => rollback_wf hc _
  unfold State.failCommit
  dsimp only
  rw [guarded_refuseReq]
  split
  · split
    · exact kept_canvasEcc hr _
    · exact hr
  · exact hr

@[simp] theorem kept_runPhase2 {g : Guard} {s : State} (h : Kept g s.guarded) (q : BatchReq) (d : Desc)
    (k0 k : Commit) (bad : List Nat) (n : Nat) {c : Canvas} (hc : g.fit → c.wf) : Kept g (s.runPhase2 q d k0 k bad n c).guarded := by
  have hp (hg : g.fit) : (c.phase2 bad n k.todo k.undo).canvas.wf := phase2_wf _ _ _ _ (hc hg)
  unfold State.runPhase2
  dsimp only
  split
  · exact kept_failCommit h ..
  · split
    · exact kept_acceptGrant h q d hp
    · exact kept_setCanvas h hp

@[simp] theorem kept_runCommit {g : Guard} {s : State} (h : Kept g s.guarded) (q : BatchReq) (k : Commit)
    (bad1 bad2 : List Nat) (n : Nat) : Kept g (s.runCommit q k bad1 bad2 n).guarded := by
  have hp (hg : g.fit) :
      (s.canvas.phase1 (descOf k.desc).who (descOf k.desc).gen bad1 n k.todo k.undo).canvas.wf :=
    phase1_wf _ _ _ _ _ _ (canvas_wf h hg)
  unfold State.runCommit
  dsimp only
  split
  · exact kept_failCommit h ..
  · split
    · exact kept_runPhase2 h _ _ _ _ _ _ (canvas_wf h)
    · split
      · exact kept_failCommit h ..
      · split
        · exact kept_setCanvas h hp
        · split
          · exact kept_failCommit h ..
          · exact kept_runPhase2 h _ _ _ _ _ _ hp

@[simp] theorem kept_runGrant {g : Guard} {s : State} (h : Kept g s.guarded) (q : BatchReq) (d : Desc) (b : List Byte)
    (bad1 bad2 : List Nat) (n : Nat) : Kept g (s.runGrant q d b bad1 bad2 n).guarded := by
  unfold State.runGrant
  split
  · exact kept_of_eq (guarded_refuseReq ..) h
  · exact kept_runCommit h ..

theorem kept_withDesc {g : Guard} {s : State} (h : Kept g s.guarded) (op : Nat) {f : State → BatchReq → Desc → State}
    (hf : ∀ q d, Kept g (f s q d).guarded) : Kept g (s.withDesc op f).guarded := by
  unfold State.withDesc
  split
  · exact h
  · split
    · exact h
    · split
      · exact kept_nextReq (kept_of_eq (guarded_refuseForm ..) h)
      · dsimp only
        split
        · exact kept_nextReq (kept_of_eq (guarded_refuseReq ..) h)
        · split
          · exact kept_nextReq (kept_of_eq (guarded_refuseReq ..) h)
          · exact kept_nextReq (hf _ _)

@[simp] theorem kept_blockEccs {g : Guard} {s : State} (h : Kept g s.guarded) (d : Desc) (bad : List (BitVec 21)) :
    Kept g (s.blockEccs d bad).guarded := kept_canvasEccs h _

@[simp] theorem guarded_blockDone (s : State) (q : BatchReq) (h : Desc) (cleared : Nat) :
    (s.blockDone q h cleared).guarded = s.guarded := by
  rw [State.blockDone, guarded_emit, guarded_finishReq]

@[simp] theorem guarded_ackGrant (s : State) (robot gen : Nat) : (s.ackGrant robot gen).guarded = s.guarded := by
  unfold State.ackGrant
  dsimp only
  split <;> [skip; split] <;> simp

theorem kept_probeRun {g : Guard} (l : List (Nat × Ecc)) {s : State} (h : Kept g s.guarded) :
    Kept g (probeRun l s).guarded := by
  induction l generalizing s with
  | nil => exact h
  | cons x l ih =>
    unfold probeRun
    exact ih (kept_of_eq (guarded_put ..) (kept_probe h _ _))

end Sys2Proof.Machine
end

section
/-! What the operations leave: the stroke engine (R216 to R229). They leave all that the invariant of every step
speaks of, or keep it. -/

namespace Sys2Proof.Machine

@[simp] theorem guarded_modStkChan (s : State) (ch : Nat) (f : Chan → Chan) :
    (s.modStkChan ch f).guarded = s.guarded := by
  simp [State.modStkChan]

@[simp] theorem guarded_stopChange (s : State) (r seq : Nat) : (s.stopChange r seq).guarded = s.guarded := by
  simp [State.stopChange]

@[simp] theorem guarded_stopStroke (s : State) (ch : Nat) (p : Profile) (seq : Nat) :
    (s.stopStroke ch p seq).guarded = s.guarded := by
  simp [State.stopStroke]

@[simp] theorem guarded_stkInput (s : State) (x : StkInput) : (s.stkInput x).guarded = s.guarded := by
  unfold State.stkInput
  dsimp only
  (repeat' split) <;> simp

@[simp] theorem guarded_finishStk (q : StkReq) (x : StkDone) :
    (State.finishStk q x).guarded = x.s.guarded := by
  unfold State.finishStk
  extract_lets w ok s1 s2 s3
  have h3 : s3.guarded = x.s.guarded := by
    simp only [s3]
    split <;> simp [s2, s1]
  exact guarded_if h3 ((guarded_emit ..).trans h3)

@[simp] theorem guarded_dropStk (n : Nat) (s : State) : (s.dropStk n).guarded = s.guarded := by
  induction n generalizing s with
  | zero => rfl
  | succ n ih =>
    unfold State.dropStk
    split
    · exact guarded_if ((ih _).trans (guarded_finishStk ..)) rfl
    · rfl

@[simp] theorem guarded_nextStk (s : State) : s.nextStk.guarded = s.guarded := guarded_dropStk ..

@[simp] theorem guarded_finishLoop (r : FabReq) (st : Nat) (s : State) :
    (s.finishLoop r st).guarded = s.guarded := by
  simp [State.finishLoop]

@[simp] theorem guarded_dropLoop (n : Nat) (s : State) : (s.dropLoop n).guarded = s.guarded := by
  induction n generalizing s with
  | zero => rfl
  | succ n ih =>
    unfold State.dropLoop
    split
    · exact guarded_if ((ih _).trans (guarded_finishLoop ..)) rfl
    · rfl

@[simp] theorem guarded_commitPlan (s : State) (ch : Nat) (pl : Plan) (kind : StrokeKind) (endSpeed : Int)
    (cmd arg : Nat) (target : Int) : (s.commitPlan ch pl kind endSpeed cmd arg target).s.guarded = s.guarded := by
  unfold State.commitPlan
  dsimp only
  split <;> simp

@[simp] theorem guarded_movePos (s : State) (ch : Nat) (p : Profile) (target : Int) (cmd arg : Nat) :
    (s.movePos ch p target cmd arg).s.guarded = s.guarded := guarded_commitPlan ..

@[simp] theorem guarded_moveSpeed (s : State) (ch : Nat) (p : Profile) (speed : Int) (arg : Nat) :
    (s.moveSpeed ch p speed arg).s.guarded = s.guarded := guarded_commitPlan ..

theorem kept_withMove {g : Guard} {s : State} (h : Kept g s.guarded) (ch : Nat) (c : Chan)
    {f : Profile → RouteDef → StkDone} (hf : ∀ p r, Kept g (f p r).s.guarded) :
    Kept g (s.withMove ch c f).s.guarded := by
  unfold State.withMove
  split
  · exact h
  · split
    · exact h
    · split
      · exact hf ..
      · split
        · exact h
        · exact hf ..

end Sys2Proof.Machine
end

section
/-! What the operations leave: the guidance engine (R230 to R243). They leave all that the invariant of every
step speaks of, or keep it. -/

namespace Sys2Proof.Machine

@[simp] theorem guarded_modLoop (s : State) (i : Nat) (f : LoopSt → LoopSt) :
    (s.modLoop i f).guarded = s.guarded := by
  simp [State.modLoop]

@[simp] theorem guarded_glazeLearn (s : State) (r : Nat) (l : LoopSt) (sRep vRep fbV fbK : Int) :
    (s.glazeLearn r l sRep vRep fbV fbK).guarded = s.guarded := by
  unfold State.glazeLearn
  dsimp only
  (repeat' split) <;> simp

@[simp] theorem kept_followErr {g : Guard} {s : State} (h : Kept g s.guarded) (r : Nat) (d : GDesc) (beyond : Bool)
    (t eS eY : Int) : Kept g (s.followErr r d beyond t eS eY).guarded := by
  unfold State.followErr
  refine kept_if (kept_of_eq (guarded_modLoop ..) h) ?_
  extract_lets t0 dur s1 x
  have h1 : Kept g s1.guarded := kept_of_eq (guarded_modLoop ..) h
  refine kept_if (kept_of_eq (guarded_modLoop ..) h) ?_
  split
  rename_i e
  refine kept_of_eq (guarded_emit ..) ?_
  split at e
  · cases e
    exact h1
  · cases e
    exact kept_raiseStop h1 ..

@[simp] theorem kept_computeReport {g : Guard} {s : State} (h : Kept g s.guarded) (x : GdlReport) (t : Int)
    (l : LoopSt) (d : GDesc) (held : Bool) : Kept g (s.computeReport x t l d held).guarded := by
  unfold State.computeReport
  extract_lets c rt off iY k fbK ff tk
  split
  extract_lets eS eV iS fbV tv s1 s2 s3 tr s4
  have h1 : Kept g s1.guarded := kept_if h (kept_of_eq (guarded_glazeLearn ..) h)
  have h2 : Kept g s2.guarded := kept_of_eq (guarded_modLoop ..) h1
  have h3 : Kept g s3.guarded := kept_of_eq (guarded_modGdl ..) h2
  have h4 : Kept g s4.guarded :=
    kept_if (kept_of_eq (guarded_emit ..) h3)
      (kept_if h3 (kept_of_eq ((guarded_item ..).trans (guarded_modGdl ..)) h3))
  exact kept_if (kept_of_eq (guarded_modLoop ..) h4) (kept_followErr h4 ..)

@[simp] theorem kept_takeReportIn {g : Guard} {s : State} (h : Kept g s.guarded) (x : GdlReport) :
    Kept g (s.takeReportIn x).guarded := by
  unfold State.takeReportIn
  extract_lets l
  refine kept_if h (kept_if (kept_of_eq (guarded_modGdl ..) h) ?_)
  split
  · exact h
  · exact kept_computeReport h ..

theorem guarded_releaseTrim_go (s : State) (r phase : Nat) (sent : Bool) :
    (State.releaseTrim.go r phase sent s).2.guarded = s.guarded := by
  unfold State.releaseTrim.go
  dsimp only
  split
  · simp
  · split
    · split
      · simp
      · split <;> simp
    · simp

@[simp] theorem guarded_releaseTrim (s : State) (r phase : Nat) (sent : Bool) :
    (s.releaseTrim r phase sent).2.guarded = s.guarded := by
  unfold State.releaseTrim
  split
  · split
    · rfl
    · exact guarded_releaseTrim_go ..
  · exact guarded_releaseTrim_go ..

@[simp] theorem guarded_onLoop (s : State) (loop : Nat) (ok : Bool) (f : LoopSt → LoopSt) :
    (s.onLoop loop ok f).2.guarded = s.guarded := by
  unfold State.onLoop
  split
  · rfl
  · split
    · rfl
    · exact guarded_modLoop ..

@[simp] theorem guarded_driveLoop (s : State) (d : Fin 8) (b : Bool) : (s.driveLoop d b).guarded = s.guarded := by
  simp [State.driveLoop]

end Sys2Proof.Machine
end

section
/-! What the operations leave: the duty ledgers. They leave all that the invariant of every step speaks of, or
keep it. -/

namespace Sys2Proof.Machine

@[simp] theorem guarded_recompute (s : State) (chain : Fin 2) : (s.recompute chain).guarded = s.guarded := by
  simp [State.recompute]

@[simp] theorem guarded_recomputeBoth (s : State) : s.recomputeBoth.guarded = s.guarded := by
  simp [State.recomputeBoth]

@[simp] theorem guarded_setRadio (s : State) (b : Option (List Byte)) : (s.setRadio b).guarded = s.guarded := by
  simp [State.setRadio]

@[simp] theorem guarded_retain (s : State) : s.retain.guarded = s.guarded := by
  simp [State.retain]

@[simp] theorem guarded_modLedger (s : State) (band : Fin 2) (f : Ledger → Ledger) :
    (s.modLedger band f).guarded = s.guarded := by
  simp [State.modLedger]

@[simp] theorem guarded_judgeClass (s : State) (band : Fin 2) (cls charge : Nat) :
    (s.judgeClass band cls charge).guarded = s.guarded := by
  unfold State.judgeClass
  dsimp only
  split <;> simp

@[simp] theorem guarded_judgeOver (s : State) (band : Fin 2) : (s.judgeOver band).guarded = s.guarded := by
  simp [State.judgeOver]

@[simp] theorem guarded_judgeBoth (s : State) (band : Fin 2) : (s.judgeBoth band).guarded = s.guarded := by
  simp [State.judgeBoth]

@[simp] theorem guarded_bucketBoundary (s : State) (band : Fin 2) :
    (s.bucketBoundary band).guarded = s.guarded := by
  simp [State.bucketBoundary]

@[simp] theorem guarded_radiate (s : State) (band : Fin 2) (at' dur : Nat) :
    (s.radiate band at' dur).guarded = s.guarded := by
  simp [State.radiate]

@[simp] theorem guarded_commitAt (s : State) (band : Fin 2) (cls at' dur carriers : Nat) (dbm : Int) :
    (s.commitAt band cls at' dur carriers dbm).2.guarded = s.guarded := by
  unfold State.commitAt
  dsimp only
  split <;> [skip; split] <;> simp

@[simp] theorem guarded_commitFrame (s : State) (band : Fin 2) (cls at' dur carriers : Nat) :
    (s.commitFrame band cls at' dur carriers).2.guarded = s.guarded := by
  simp [State.commitFrame]

@[simp] theorem guarded_lbtHold (s : State) (band : Fin 2) : (s.lbtHold band).guarded = s.guarded := by
  simp [State.lbtHold]

@[simp] theorem guarded_restoreLedger (s : State) (band : Fin 2) : (s.restoreLedger band).guarded = s.guarded := by
  simp [State.restoreLedger]

@[simp] theorem guarded_restoreLedgers (s : State) : s.restoreLedgers.guarded = s.guarded := by
  simp [State.restoreLedgers]

end Sys2Proof.Machine
end

section
/-! What the operations leave: frames of the air interface. They leave all that the invariant of every step
speaks of, or keep it. -/

namespace Sys2Proof.Machine

theorem guarded_of_snd {α : Type} {g : Guard} {r : α × State} {a : α} {t : State} (h : r.2.guarded = g)
    (e : r = (a, t)) : t.guarded = g := by
  subst e
  exact h

theorem guarded_of_snd_snd {α β : Type} {g : Guard} {r : α × β × State} {a : α} {b : β} {t : State}
    (h : r.2.2.guarded = g) (e : r = (a, b, t)) : t.guarded = g := by
  subst e
  exact h

theorem kept_of_snd {α : Type} {g : Guard} {r : α × State} {a : α} {t : State} (h : Kept g r.2.guarded)
    (e : r = (a, t)) : Kept g t.guarded := by
  subst e
  exact h

@[simp] theorem guarded_modStation (s : State) (chain : Fin 2) (i : Nat) (f : Station → Station) :
    (s.modStation chain i f).guarded = s.guarded := by
  simp [State.modStation]

@[simp] theorem guarded_commitSlot (s : State) (chain : Fin 2) (cls len carriers : Nat) :
    (s.commitSlot chain cls len carriers).2.2.guarded = s.guarded := by
  unfold State.commitSlot
  dsimp only
  split <;> [skip; split] <;> simp

@[simp] theorem guarded_onAirAt (s : State) (chain channel : Nat) (bytes : List Byte) :
    (s.onAirAt chain channel bytes).guarded = s.guarded := by
  simp [State.onAirAt]

@[simp] theorem guarded_sendBroadcast (s : State) (chain : Fin 2) (cls : Nat) (group : Nat) (level : Nat → Int)
    (payload : List Byte) : (s.sendBroadcast chain cls group level payload).guarded = s.guarded := by
  simp [State.sendBroadcast]

@[simp] theorem guarded_sendLoopback (s : State) (chain : Fin 2) (level : Nat → Int) :
    (s.sendLoopback chain level).guarded = s.guarded := by
  simp [State.sendLoopback]

@[simp] theorem guarded_dropLong (q i n : Nat) (s : State) : (State.dropLong q i n s).guarded = s.guarded := by
  induction n generalizing s with
  | zero => rfl
  | succ n ih =>
    unfold State.dropLong
    split
    · rfl
    · split
      · rfl
      · refine guarded_if ((ih _).trans ?_) rfl
        simp

@[simp] theorem guarded_takeDown (s : State) (q k : Nat) (ro : ReadOut) :
    (s.takeDown q k ro).2.guarded = s.guarded := by
  have hr := guarded_readOut s q k 1 ro
  unfold State.takeDown
  split <;> (rename_i e; rw [e] at hr; exact hr)

@[simp] theorem guarded_sendDown (s : State) (chain : Fin 2) (channel i carrier : Nat) (kind : TxKind) (air : Bool)
    (payload : List Byte) : (s.sendDown chain channel i carrier kind air payload).guarded = s.guarded := by
  simp [State.sendDown]

@[simp] theorem guarded_grantCrc (s : State) (q robot gen len : Nat) :
    (s.grantCrc q robot gen len).guarded = s.guarded := by
  unfold State.grantCrc
  extract_lets s1 s2
  have h1 : s1.guarded = s.guarded := guarded_modPalette ..
  have h2 : s2.guarded = s1.guarded := guarded_modCanvas _ rfl
  rw [guarded_crcDrop, h2, h1]

@[simp] theorem guarded_readChoice (s : State) (i q : Nat) (ro : ReadOut) (d : DownKind) :
    (s.readChoice i q ro d).2.guarded = s.guarded := by
  unfold State.readChoice
  dsimp only
  split
  · split <;> simp
  · split <;> simp
  · split <;> simp
  · rfl

@[simp] theorem guarded_sendChoice (s : State) (chain : Fin 2) (channel i carrier q : Nat) (phase : Option Nat)
    (ro : ReadOut) (air : Bool) (d : DownKind) :
    (s.sendChoice chain channel i carrier q phase ro air d).guarded = s.guarded := by
  unfold State.sendChoice
  extract_lets supersede s1
  have hs (t : State) : (supersede t).guarded = t.guarded := by
    simp only [supersede]
    split
    · exact guarded_if (guarded_releaseTrim ..) rfl
    · rfl
  split
  · split
    · rfl
    · extract_lets s2
      have h2 : s2.guarded = s1.guarded := guarded_modCanvas _ rfl
      rw [guarded_sendDown, h2, hs]
  · rw [guarded_sendDown, hs]
  · split
    rename_i k _ data s3 e1
    split
    rename_i trim s2 e2
    have h1 : s3.guarded = s.guarded := by
      split at e1
      · cases e1
        exact guarded_takeDown ..
      · cases e1
        rfl
    have h2 : s2.guarded = s3.guarded := by
      split at e2
      · exact guarded_of_snd (guarded_releaseTrim ..) e2
      · cases e2
        rfl
    rw [guarded_sendDown, h2, h1]
  · dsimp only
    rw [guarded_sendDown, guarded_takeDown]

@[simp] theorem guarded_downlink (s : State) (chain : Fin 2) (channel i carrier : Nat) (phase : Option Nat)
    (level : Int) (ro : ReadOut) :
    (s.downlink chain channel i carrier phase level ro).2.guarded = s.guarded := by
  unfold State.downlink
  extract_lets q lost s1
  have hl (t : State) : (lost t).guarded = t.guarded := by
    simp only [lost]
    split
    · exact guarded_if (guarded_releaseTrim ..) rfl
    · rfl
  have h1 : s1.guarded = s.guarded := guarded_dropLong ..
  split
  · exact hl s
  · split
    rename_i d s2 e
    have h2 : s2.guarded = s.guarded := by
      split at e
      · exact (guarded_of_snd (guarded_readChoice ..) e).trans h1
      · cases e
        exact h1
    split
    · exact (hl _).trans h2
    · extract_lets held s3
      have h3 : s3.guarded = s.guarded := guarded_if ((guarded_lbtHold ..).trans h2) h2
      split
      · exact (hl _).trans h3
      · split
        rename_i ok air s4 e4
        have h4 : s4.guarded = s.guarded := by
          split at e4
          · cases e4
            exact h3
          · exact (guarded_of_snd_snd (guarded_commitSlot ..) e4).trans h3
        exact guarded_if ((hl _).trans h4) ((guarded_sendChoice ..).trans h4)

end Sys2Proof.Machine
end

section
/-! What the operations leave: the drives. They leave all that the invariant of every step speaks of, or keep
it. -/

namespace Sys2Proof.Machine

@[simp] theorem guarded_modDrvCh (s : State) (d : Fin 8) (f : Drv → Drv) :
    (s.modDrvCh d f).guarded = s.guarded := by
  simp [State.modDrvCh]

@[simp] theorem guarded_calmLoops (s : State) (d : Fin 8) : (s.calmLoops d).guarded = s.guarded := by
  simp [State.calmLoops]

@[simp] theorem guarded_rest (s : State) (d : Fin 8) (st : DrvKind) : (s.rest d st).guarded = s.guarded := by
  simp [State.rest]

@[simp] theorem guarded_driveFault (s : State) (d : Fin 8) (cause : Nat) :
    (s.driveFault d cause).guarded = s.guarded := by
  simp [State.driveFault]

@[simp] theorem guarded_homingFail (s : State) (d : Fin 8) (why : Nat) :
    (s.homingFail d why).guarded = s.guarded := by
  simp [State.homingFail]

@[simp] theorem guarded_enterMode (s : State) (d : Fin 8) (mode : Nat) :
    (s.enterMode d mode).guarded = s.guarded := by
  unfold State.enterMode
  split <;> simp

@[simp] theorem guarded_takeEntry (s : State) (d : Fin 8) (e : List Byte) :
    (s.takeEntry d e).guarded = s.guarded := by
  simp [State.takeEntry]

@[simp] theorem guarded_startDrives (s : State) (b : List Byte) : (s.startDrives b).guarded = s.guarded := by
  simp [State.startDrives]

@[simp] theorem guarded_swapDrives (s : State) (b : List Byte) : (s.swapDrives b).guarded = s.guarded := by
  simp [State.swapDrives]

@[simp] theorem guarded_takeoverDrives (s : State) (rehome : Bool) :
    (s.takeoverDrives rehome).guarded = s.guarded := by
  simp [State.takeoverDrives]

@[simp] theorem guarded_releasePhase (s : State) (centre : Nat) (d : Fin 8) (b : Bool) :
    (s.releasePhase centre d b).guarded = s.guarded := by
  simp [State.releasePhase]

@[simp] theorem guarded_releaseDuty (s : State) (centre : Nat) (d : Fin 8) :
    (s.releaseDuty centre d).guarded = s.guarded := by
  simp [State.releaseDuty]

@[simp] theorem guarded_moveDrive (s : State) (t : Nat) (d : Fin 8) : (s.moveDrive t d).guarded = s.guarded := by
  simp [State.moveDrive]

@[simp] theorem guarded_stallCheck (s : State) (d : Fin 8) : (s.stallCheck d).guarded = s.guarded := by
  simp [State.stallCheck]

@[simp] theorem guarded_confirmOpen (s : State) (t : Nat) (d : Fin 8) :
    (s.confirmOpen t d).guarded = s.guarded := by
  simp [State.confirmOpen]

@[simp] theorem guarded_putBridge (s : State) (d : Fin 8) : (s.putBridge d).guarded = s.guarded := by
  simp [State.putBridge]

@[simp] theorem guarded_driveCentre (s : State) (centre : Nat) (ia ib : Int) (d : Fin 8) :
    (s.driveCentre centre ia ib d).guarded = s.guarded := by
  unfold State.driveCentre
  extract_lets t s1 s2 s3 before still s4 s5 s6 s7 s8 x lag s9
  have h2 : s2.guarded = s.guarded := (guarded_releaseDuty ..).trans (guarded_modDrvCh ..)
  have h3 : s3.guarded = s2.guarded := by
    simp only [s3]
    split
    · exact guarded_if (guarded_takeEntry ..) rfl
    · rfl
  have h6 : s6.guarded = s3.guarded :=
    (guarded_modDrvCh ..).trans ((guarded_modDrvCh ..).trans (guarded_moveDrive ..))
  have h7 : s7.guarded = s6.guarded := guarded_if ((guarded_modLoop ..).trans (guarded_modLoop ..)) rfl
  have h8 : s8.guarded = s7.guarded := guarded_stallCheck ..
  have h9 : s9.guarded = s8.guarded := guarded_if (guarded_driveFault ..) rfl
  rw [guarded_putBridge, guarded_confirmOpen, h9, h8, h7, h6, h3, h2]

@[simp] theorem guarded_limitTrip (s : State) (d : Fin 8) (far chatter : Bool) :
    (s.limitTrip d far chatter).guarded = s.guarded := by
  unfold State.limitTrip
  dsimp only
  split <;> simp

@[simp] theorem guarded_startHoming (s : State) (d : Fin 8) : (s.startHoming d).guarded = s.guarded := by
  simp [State.startHoming]

@[simp] theorem guarded_homeStep (s : State) (d : Fin 8) (n : Nat) (k : Stroke) :
    (s.homeStep d n k).guarded = s.guarded := by
  simp [State.homeStep]

theorem kept_takeQ51 {g : Guard} {s : State} (h : Kept g s.guarded) (ro : ReadOut) {f : State → List Byte → State}
    (hf : ∀ s b, Kept g s.guarded → Kept g (f s b).guarded) : Kept g (s.takeQ51 ro f).guarded := by
  have hr := guarded_readHead s 51 5 ro
  unfold State.takeQ51
  split
  · rename_i e
    rw [e] at hr
    exact hf _ _ (kept_of_eq hr h)
  · rename_i e
    rw [e] at hr
    exact kept_of_eq hr h

@[simp] theorem guarded_refuseDrive (s : State) (b : List Byte) : (s.refuseDrive b).guarded = s.guarded := by
  simp [State.refuseDrive]

theorem kept_driveCmd {g : Guard} {s : State} (h : Kept g s.guarded) (cmd : Nat) (ro : ReadOut)
    (refused : State → Drv → Nat → Bool) {f : State → Fin 8 → Nat → State}
    (hf : ∀ s d n, Kept g s.guarded → Kept g (f s d n).guarded) :
    Kept g (s.driveCmd cmd ro refused f).guarded := by
  unfold State.driveCmd
  split
  · exact h
  · split
    · exact h
    · refine kept_if h (kept_takeQ51 h ro fun s b hs => ?_)
      exact kept_if (kept_of_eq (guarded_refuseDrive ..) hs) (hf _ _ _ hs)

end Sys2Proof.Machine
end

section
/-! What the operations leave: the air interface. They leave all that the invariant of every step speaks of, or
keep it. -/

namespace Sys2Proof.Machine

@[simp] theorem guarded_startPlan (s : State) (p : List Byte) : (s.startPlan p).guarded = s.guarded := by
  simp [State.startPlan]

@[simp] theorem guarded_swapPlan (s : State) (p : List Byte) : (s.swapPlan p).guarded = s.guarded := by
  unfold State.swapPlan
  split <;> simp

@[simp] theorem guarded_planChange (s : State) : s.planChange.guarded = s.guarded := by
  unfold State.planChange
  split <;> simp

@[simp] theorem guarded_beginSuperframe (s : State) (start : Nat) :
    (s.beginSuperframe start).guarded = s.guarded := by
  simp [State.beginSuperframe]

@[simp] theorem guarded_slotBurst (s : State) : s.slotBurst.guarded = s.guarded := by
  unfold State.slotBurst
  dsimp only
  split <;> simp

@[simp] theorem guarded_endOpportunities (s : State) : s.endOpportunities.guarded = s.guarded := by
  simp [State.endOpportunities]

@[simp] theorem guarded_feedCorr (s : State) (chain : Fin 2) (ro : ReadOut) :
    (s.feedCorr chain ro).guarded = s.guarded := by
  have hr := guarded_readHead s 49 1 ro
  unfold State.feedCorr
  split
  · split
    · rename_i e
      rw [e] at hr
      exact (guarded_modAir ..).trans hr
    · rename_i e
      rw [e] at hr
      exact hr
  · rfl

@[simp] theorem guarded_skipCorr (chain : Fin 2) (ro : ReadOut) (n : Nat) (s : State) :
    (State.skipCorr chain ro n s).guarded = s.guarded := by
  induction n generalizing s with
  | zero => rfl
  | succ n ih =>
    unfold State.skipCorr
    exact guarded_if ((ih _).trans ((guarded_modAir ..).trans (guarded_feedCorr ..))) (guarded_feedCorr ..)

@[simp] theorem guarded_sendCorrection (s : State) (chain : Fin 2) (group : Nat) (level : Nat → Int) (ro : ReadOut)
    : (s.sendCorrection chain group level ro).guarded = s.guarded := by
  unfold State.sendCorrection
  extract_lets s1 p
  have h1 : s1.guarded = s.guarded := guarded_skipCorr ..
  split
  · exact h1
  · dsimp only
    rw [guarded_modAir, guarded_sendBroadcast, h1]

@[simp] theorem guarded_sendShared (chain : Fin 2) (group : Nat) (level : Nat → Int) (ros : Nat → ReadOut)
    (l : List Nat) (s : State) : (State.sendShared chain group level ros l s).guarded = s.guarded := by
  induction l generalizing s with
  | nil => rfl
  | cons i t ih =>
    unfold State.sendShared
    extract_lets ch c
    have hd := guarded_downlink s chain ch i c none (level c) (ros c)
    split
    · rename_i e
      rw [e] at hd
      exact hd
    · rename_i e
      rw [e] at hd
      exact (ih _).trans hd

@[simp] theorem guarded_slotFrames (s : State) (chain : Fin 2) (group : Nat) (level : Nat → Int)
    (ros : Nat → ReadOut) : (s.slotFrames chain group level ros).guarded = s.guarded := by
  unfold State.slotFrames
  split
  · exact guarded_sendLoopback ..
  · exact guarded_if (guarded_sendBroadcast ..) rfl
  · exact guarded_foldl (fun _ _ => guarded_downlink ..) _ _
  · exact guarded_if (guarded_sendShared ..) rfl
  · exact guarded_if (guarded_sendCorrection ..) rfl
  · rfl

@[simp] theorem guarded_sendDecision (s : State) : s.sendDecision.guarded = s.guarded := by
  simp [State.sendDecision]

@[simp] theorem guarded_crossBoundary (s : State) : s.crossBoundary.guarded = s.guarded := by
  simp [State.crossBoundary]

@[simp] theorem guarded_heardFrom (s : State) (chain : Fin 2) (i : Nat) (x : Rx) (new : Bool) :
    (s.heardFrom chain i x new).guarded = s.guarded := by
  simp [State.heardFrom]

@[simp] theorem guarded_unacked (s : State) (chain : Fin 2) (i : Nat) :
    (s.unacked chain i).guarded = s.guarded := by
  simp [State.unacked]

@[simp] theorem guarded_acknowledge (s : State) (chain : Fin 2) (i : Nat) (x : Rx) :
    (s.acknowledge chain i x).guarded = s.guarded := by
  simp [State.acknowledge]

@[simp] theorem guarded_deliverRx (s : State) (chain : Fin 2) (x : Rx) :
    (s.deliverRx chain x).guarded = s.guarded := by
  simp [State.deliverRx]

@[simp] theorem guarded_refuseRx (s : State) (chain : Fin 2) (x : Rx) :
    (s.refuseRx chain x).guarded = s.guarded := by
  simp [State.refuseRx]

@[simp] theorem guarded_makeKnown (s : State) (chain : Fin 2) (i : Nat) :
    (s.makeKnown chain i).guarded = s.guarded := by
  simp [State.makeKnown]

@[simp] theorem guarded_acceptRx (s : State) (chain : Fin 2) (x : Rx) :
    (s.acceptRx chain x).guarded = s.guarded := by
  simp [State.acceptRx]

@[simp] theorem guarded_dropBad (s : State) : s.dropBad.guarded = s.guarded := by
  simp [State.dropBad]

@[simp] theorem guarded_dropUnknown (s : State) : s.dropUnknown.guarded = s.guarded := by
  simp [State.dropUnknown]

@[simp] theorem guarded_dropSec (s : State) (chain : Fin 2) (channel i : Nat) :
    (s.dropSec chain channel i).guarded = s.guarded := by
  simp [State.dropSec]

@[simp] theorem guarded_takeFrame (s : State) (chain : Fin 2) (channel sfd rssi : Nat) (len : Nat) (m : Mpdu)
    (i : Option Nat) (ext : Nat) : (s.takeFrame chain channel sfd rssi len m i ext).guarded = s.guarded := by
  unfold State.takeFrame
  dsimp only
  (repeat' split) <;> simp

@[simp] theorem guarded_popRx (s : State) (type : Nat) : (s.popRx type).2.guarded = s.guarded := by
  unfold State.popRx
  split
  · exact guarded_modAir ..
  · rfl

@[simp] theorem guarded_selfStopped (s : State) (c : CReport) : (s.selfStopped c).guarded = s.guarded := by
  simp [State.selfStopped]

@[simp] theorem guarded_takeReport (s : State) (g : Option GdlReport) (c : CReport) :
    (s.takeReport g c).guarded = s.guarded := by
  unfold State.takeReport
  split <;> simp

@[simp] theorem guarded_assignDue (s : State) (chain : Fin 2) (i : Nat) :
    (s.assignDue chain i).guarded = s.guarded := by
  unfold State.assignDue
  split <;> simp

@[simp] theorem guarded_ackFrame (s : State) (k : TxKind) : (s.ackFrame k).guarded = s.guarded := by
  cases k with
  | grant r g => exact guarded_ackGrant ..
  | assign c i => exact guarded_modAir ..
  | other => rfl

@[simp] theorem guarded_immAck (s : State) (chain channel seq t : Nat) :
    (s.immAck chain channel seq t).guarded = s.guarded := by
  unfold State.immAck
  split
  · rfl
  · exact (guarded_ackFrame ..).trans ((guarded_logInput ..).trans (guarded_modAir ..))

@[simp] theorem guarded_takeForward (s : State) (h : Heard) : (s.takeForward h).guarded = s.guarded := by
  unfold State.takeForward
  refine guarded_if rfl ?_
  split
  · exact guarded_immAck ..
  · extract_lets chain a x e y s1
    have h1 : s1.guarded = s.guarded := guarded_modStation ..
    refine guarded_if (guarded_modAir ..) (guarded_if rfl ?_)
    rw [guarded_modAir, guarded_makeKnown, guarded_unacked, h1]

@[simp] theorem guarded_scrubEntry (s : State) (chain : Fin 2) (i : Nat) (m : Ecc) (extOk : Bool) :
    (s.scrubEntry chain i m extOk).guarded = s.guarded := by
  simp [State.scrubEntry]

@[simp] theorem guarded_repeatStop (s : State) (chain : Fin 2) (b : Burst) (t : Nat) :
    (s.repeatStop chain b t).guarded = s.guarded := by
  simp [State.repeatStop]

@[simp] theorem guarded_enterEcho (s : State) : s.enterEcho.guarded = s.guarded := by
  simp [State.enterEcho]

end Sys2Proof.Machine
end

section
/-! What the operations leave: the fabric. They leave all that the invariant of every step speaks of, or keep
it. -/

namespace Sys2Proof.Machine

@[simp] theorem guarded_modRegion (s : State) (n : Fin 4) (f : Region → Region) :
    (s.modRegion n f).guarded = s.guarded := by
  simp [State.modRegion]

@[simp] theorem guarded_setAdmission (s : State) (closed : Bool) : (s.setAdmission closed).guarded = s.guarded := by
  simp [State.setAdmission]

@[simp] theorem guarded_recause (s : State) : s.recause.guarded = s.guarded := by
  simp [State.recause]

@[simp] theorem guarded_closeLog (s : State) : s.closeLog.guarded = s.guarded := by
  simp [State.closeLog]

@[simp] theorem guarded_judgedLate (s : State) : s.judgedLate.guarded = s.guarded := by
  simp [State.judgedLate]

@[simp] theorem guarded_judgedOnTime (s : State) : s.judgedOnTime.guarded = s.guarded := by
  simp [State.judgedOnTime]

@[simp] theorem guarded_marginPlan (s : State) (n : Fin 4) : (s.marginPlan n).guarded = s.guarded := by
  simp [State.marginPlan]

@[simp] theorem guarded_watchPair (s : State) (p : Fin 4) : (s.watchPair p).guarded = s.guarded := by
  simp [State.watchPair]

@[simp] theorem guarded_watchPairs (s : State) : s.watchPairs.guarded = s.guarded := by
  simp [State.watchPairs]

@[simp] theorem guarded_setRail (s : State) (n : Fin 4) (mv : Nat) : (s.setRail n mv).guarded = s.guarded := by
  simp [State.setRail]

@[simp] theorem guarded_setRails (s : State) (goal : Vector Nat 4) : (s.setRails goal).guarded = s.guarded := by
  simp [State.setRails]

@[simp] theorem guarded_raiseRail (s : State) (n : Fin 4) : (s.raiseRail n).guarded = s.guarded := by
  simp [State.raiseRail]

@[simp] theorem guarded_driveSkew (s : State) (p : Fin 4) : (s.driveSkew p).guarded = s.guarded := by
  simp [State.driveSkew]

@[simp] theorem guarded_driveSkews (s : State) : s.driveSkews.guarded = s.guarded := by
  simp [State.driveSkews]

@[simp] theorem guarded_setSkew (s : State) (p : Fin 4) (b : Bool) : (s.setSkew p b).guarded = s.guarded := by
  simp [State.setSkew]

end Sys2Proof.Machine
end

section
/-! What the operations leave: the dispatcher (R144 to R153). They leave all that the invariant of every step
speaks of, or keep it. -/

namespace Sys2Proof.Machine

@[simp] theorem guarded_fill (s : State) (task slot : Nat) (w : Word) (spare : Nat) :
    (s.fill task slot w spare).2.guarded = s.guarded := by
  unfold State.fill
  dsimp only
  split <;> split <;> simp

@[simp] theorem guarded_numberRel (s : State) (r : Released) : (s.numberRel r).guarded = s.guarded := by
  simp [State.numberRel]

@[simp] theorem guarded_releaseTasks (s : State) : s.releaseTasks.guarded = s.guarded := by
  simp [State.releaseTasks]

@[simp] theorem guarded_tickTask (s : State) (i : Nat) : (s.tickTask i).guarded = s.guarded := by
  unfold State.tickTask
  extract_lets t
  refine guarded_if rfl ?_
  split
  · rename_i e
    exact guarded_of_snd (guarded_fill ..) e
  · rename_i e
    rw [guarded_emit]
    exact guarded_of_snd (guarded_fill ..) e

theorem guarded_accept {s t : State} {r : FabReq} (e : s.accept r = some t) : t.guarded = s.guarded := by
  unfold State.accept at e
  split at e
  · obtain ⟨-, e⟩ := Option.ite_none_right_eq_some.mp e
    cases e
    exact guarded_modCanvas _ rfl
  · obtain ⟨-, e⟩ := Option.ite_none_right_eq_some.mp e
    cases e
    exact guarded_modStk ..
  · obtain ⟨-, e⟩ := Option.ite_none_right_eq_some.mp e
    cases e
    exact guarded_modGdl ..
  · cases e
    exact guarded_modPalette ..
  · cases e
    exact guarded_modPalette ..

@[simp] theorem guarded_resultFault (s : State) (flow : Nat) : (s.resultFault flow).guarded = s.guarded := by
  simp [State.resultFault]

@[simp] theorem guarded_unhold (s : State) (kind : Nat) : (s.unhold kind).guarded = s.guarded := by
  unfold State.unhold
  dsimp only
  split <;> simp

/-- The bank of the task that is preempted becomes the shadow bank. -/
theorem entered_fit {x : Easel} (h : x.guarded.fit) {y : EaselGuard} (hr : y.rets = []) (hl : y.loops = [])
    (hs : y.shadow = if x.run = .running then some x.bank else x.shadow) (hc : y.scratch = x.scratch) : y.fit := by
  refine ⟨by simp [hr, hl], fun b' hb => ?_, hc ▸ h.2.2⟩
  rw [hs] at hb
  obtain ⟨-, e⟩ | ⟨-, e⟩ := ite_eq_iff.mp hb
  · cases e
    exact h.1
  · exact h.2.1 _ e

@[simp] theorem kept_enter {g : Guard} {s : State} (h : Kept g s.guarded) (k : Fin 8) (r : Released) :
    Kept g (s.enter k r).guarded := by
  unfold State.enter
  extract_lets t old b s1 s2 s3
  have h2 : Kept g s2.guarded := kept_of_eq (guarded_modDsp ..) (kept_if (kept_of_eq (guarded_trace ..) h) h)
  rw [guarded_trace]
  exact kept_modEasel h2 fun hf => entered_fit hf rfl rfl rfl rfl

@[simp] theorem guarded_block (s : State) (r : Released) (easel why : Nat) :
    (s.block r easel why).guarded = s.guarded := by
  simp [State.block]

@[simp] theorem kept_offerTask {g : Guard} {s : State} (h : Kept g s.guarded) (k : Fin 8) (r : Released) :
    Kept g (s.offerTask k r).guarded := by
  have hb (why : Nat) : Kept g (s.block r k why).guarded := kept_of_eq (guarded_block ..) h
  exact kept_if (kept_enter h ..) (kept_if (kept_if (kept_enter h ..) h) (kept_if (hb _) (kept_if (hb _) h)))

@[simp] theorem guarded_blockAll (s : State) (easel : Nat) (l : List (Released × Nat)) :
    (s.blockAll easel l).guarded = s.guarded := by
  simp [State.blockAll]

@[simp] theorem kept_decideBound {g : Guard} {s : State} (h : Kept g s.guarded) (k : Fin 8) :
    Kept g (s.decideBound k).guarded := by
  unfold State.decideBound
  extract_lets mine
  split
  extract_lets s1
  have h1 : Kept g s1.guarded := kept_of_eq (guarded_blockAll ..) h
  split
  · exact kept_offerTask h1 ..
  · exact h1

@[simp] theorem kept_decidePooled {g : Guard} {s : State} (h : Kept g s.guarded) :
    Kept g s.decidePooled.guarded := by
  unfold State.decidePooled
  split
  extract_lets s1
  have h1 : Kept g s1.guarded := kept_of_eq (guarded_blockAll ..) h
  split
  · exact h1
  · split
    · exact kept_enter h1 ..
    · refine kept_if h1 ?_
      split
      · exact kept_offerTask h1 ..
      · exact kept_of_eq (guarded_block ..) h1

@[simp] theorem kept_settleFaults {g : Guard} {s : State} (h : Kept g s.guarded) :
    Kept g s.settleFaults.guarded :=
  kept_foldl (fun _ k hs => kept_if (kept_settle hs k) hs) _ h

@[simp] theorem kept_reloadFlow {g : Guard} {s : State} (h : Kept g s.guarded) (c : Cartoon) (flow : Nat) :
    Kept g (s.reloadFlow c flow).guarded := by
  unfold State.reloadFlow
  extract_lets f base len
  refine kept_if (kept_modAtelier h fun hm => write_wf hm _ _) ?_
  extract_lets
  exact kept_modEasel h fun hf => ⟨hf.1, hf.2.1, memWrite_wf hf.2.2 _ _⟩

end Sys2Proof.Machine
end

section
/-! What the operations leave: the host port. They leave all that the invariant of every step speaks of, or keep
it. -/

namespace Sys2Proof.Machine

@[simp] theorem guarded_signal (s : State) (v : Nat) : (s.signal v).guarded = s.guarded := by
  simp [State.signal]

@[simp] theorem guarded_hostPut (s : State) (j : PortJob) (data : Option (List Byte)) :
    (s.hostPut j data).2.guarded = s.guarded := by
  unfold State.hostPut
  dsimp only
  (repeat' split) <;> simp

@[simp] theorem guarded_hostGet (s : State) (j : PortJob) (ro : ReadOut) :
    (s.hostGet j ro).2.2.guarded = s.guarded := by
  unfold State.hostGet
  split
  · rfl
  · split
    · rfl
    · exact guarded_getPacket ..

@[simp] theorem guarded_ringWrite (s : State) (n : Nat) (b : List Byte) :
    (s.ringWrite n b).guarded = s.guarded := by
  simp [State.ringWrite]

@[simp] theorem guarded_forceFree (s : State) (k : Fin 32) (cause : Nat) :
    (s.forceFree k cause).guarded = s.guarded := by
  simp [State.forceFree]

@[simp] theorem guarded_freeLocksOf (s : State) (mine : Nat → Bool) (cause : Nat) :
    (s.freeLocksOf mine cause).guarded = s.guarded := by
  simp [State.freeLocksOf]

@[simp] theorem guarded_modCh (s : State) (c : Fin 16) (f : Mbx → Mbx) : (s.modCh c f).guarded = s.guarded := by
  simp [State.modCh]

@[simp] theorem guarded_send (s : State) (c : Fin 16) (party src : Nat) (w : Word) :
    (s.send c party src w).2.guarded = s.guarded := by
  unfold State.send
  dsimp only
  split <;> [skip; split] <;> simp

@[simp] theorem guarded_take (s : State) (c : Fin 16) (party : Nat) : (s.take c party).2.2.guarded = s.guarded := by
  unfold State.take
  dsimp only
  split <;> simp

@[simp] theorem guarded_endChange (s : State) (party : Nat) (dead : Bool) :
    (s.endChange party dead).guarded = s.guarded := by
  simp [State.endChange]

@[simp] theorem guarded_easelEnds (s : State) (was : Bool) : (s.easelEnds was).guarded = s.guarded := by
  simp [State.easelEnds]

@[simp] theorem guarded_dpRefuse (s : State) (word data : Nat) : (s.dpRefuse word data).guarded = s.guarded := by
  simp [State.dpRefuse]

end Sys2Proof.Machine
end

section
/-! What the operations leave: Cartoons: start, swap and stop (R154 to R163). They leave all that the invariant
of every step speaks of, or keep it. -/

namespace Sys2Proof.Machine

/-- Easels are written, each keeping to the invariant. -/
theorem kept_easels {g : Guard} {s : State} (h : Kept g s.guarded) {v : Vector Easel 8}
    (hv : ∀ k : Fin 8, s.easels[k].guarded.fit → v[k].guarded.fit) :
    Kept g ({ s with easels := v } : State).guarded where
  pending := h.pending
  now := h.now
  fit := fun hg =>
    have ⟨he, hm, hc⟩ := (fit_guarded s).mp (h.fit hg)
    (fit_guarded _).mpr ⟨fun k => hv k (he k), hm, hc⟩

theorem memOf_wf (b : List Byte) (base : Nat) : Memory.wf (memOf b base) = true := memWrite_wf rfl _ _

theorem scratchImage_wf (c : Cartoon) (k : Nat) : Memory.wf (c.scratchImage k) = true := by
  unfold Cartoon.scratchImage
  split
  · exact memOf_wf ..
  · rfl

theorem atelierImage_wf (c : Cartoon) : Memory.wf c.atelierImage = true := by
  unfold Cartoon.atelierImage
  split
  · exact memOf_wf ..
  · rfl

/-- An Easel that starts cold. -/
theorem cold_fit {y : EaselGuard} (hr : y.rets = []) (hl : y.loops = []) (hs : y.shadow = none)
    (hc : Memory.wf y.scratch = true) : y.fit :=
  ⟨by simp [hr, hl], by simp [hs], hc⟩

@[simp] theorem guarded_result (s : State) (cmd identity : Nat) (v : Verdict) :
    (s.result cmd identity v).guarded = s.guarded := by
  simp [State.result]

@[simp] theorem guarded_refuse (s : State) (cmd code : Nat) : (s.refuse cmd code).guarded = s.guarded := by
  simp [State.refuse]

@[simp] theorem guarded_applyQueues (s : State) (b : Option (List Byte)) :
    (s.applyQueues b).guarded = s.guarded := by
  simp [State.applyQueues]

@[simp] theorem guarded_keepGlaze (s : State) (old new : List Byte) :
    (s.keepGlaze old new).guarded = s.guarded := by
  simp [State.keepGlaze]

@[simp] theorem guarded_startEpoch (s : State) (len : Nat) : (s.startEpoch len).guarded = s.guarded := by
  simp [State.startEpoch]

@[simp] theorem kept_coldStart {g : Guard} {s : State} (h : Kept g s.guarded) (c : Cartoon) (how : Nat) :
    Kept g (s.coldStart c how).guarded := by
  unfold State.coldStart
  extract_lets old c s1 s2 s3 s4 s5 s6 s7 s8 s9 s10
  have h1 : Kept g s1.guarded := kept_easels h fun k _ => by
    rw [Fin.getElem_fin, Vector.getElem_ofFn]
    exact cold_fit rfl rfl rfl (scratchImage_wf ..)
  have h2 : Kept g s2.guarded := kept_modAtelier h1 fun _ => atelierImage_wf c
  have h4 : Kept g s4.guarded := kept_of_eq ((guarded_startEpoch ..).trans (guarded_modDsp ..)) h2
  have h6 : Kept g s6.guarded := kept_canvasStart (kept_modCanvas (kept_modCanvas h4 fun hc => hc) fun hc => hc)
  have h9 : Kept g s9.guarded :=
    kept_of_eq ((guarded_startDrives ..).trans ((guarded_keepGlaze ..).trans (guarded_startPlan ..))) h6
  exact kept_of_eq ((guarded_easelEnds ..).trans ((guarded_emit ..).trans
    ((guarded_setRadio ..).trans (guarded_applyQueues ..)))) h9

@[simp] theorem kept_startCartoon {g : Guard} {s : State} (h : Kept g s.guarded) (cmd : Nat) (c : Cartoon)
    (how : Nat) : Kept g (s.startCartoon cmd c how).guarded := by
  unfold State.startCartoon
  split
  · exact kept_of_eq (guarded_result ..) h
  · exact kept_of_eq (guarded_result ..) (kept_coldStart (kept_of_eq (guarded_logInput ..) h) ..)

@[simp] theorem guarded_beginStop (s : State) (cmd role : Nat) : (s.beginStop cmd role).guarded = s.guarded := by
  simp [State.beginStop]

@[simp] theorem kept_judgeSwap {g : Guard} {s : State} (h : Kept g s.guarded) : Kept g s.judgeSwap.guarded := by
  unfold State.judgeSwap
  dsimp only
  (repeat' split) <;> simp [h]

@[simp] theorem kept_finishSwap {g : Guard} {s : State} (h : Kept g s.guarded) (old new : Cartoon) :
    Kept g (s.finishSwap old new).guarded := by
  unfold State.finishSwap
  extract_lets c s1 k s2 s3 s4 s5 s6 s7
  have h1 : Kept g s1.guarded := kept_easels h fun k hk => by
    rw [Fin.getElem_fin, Vector.getElem_ofFn]
    exact hk
  have h3 : Kept g s3.guarded := kept_of_eq ((guarded_modDsp ..).trans (guarded_modDsp ..)) h1
  have h6 : Kept g s6.guarded :=
    kept_of_eq ((guarded_swapDrives ..).trans ((guarded_keepGlaze ..).trans (guarded_swapPlan ..))) h3
  exact kept_of_eq ((guarded_emit ..).trans ((guarded_trace ..).trans
    ((guarded_setRadio ..).trans (guarded_applyQueues ..)))) h6

end Sys2Proof.Machine
end

section
/-! What the operations leave: resets. They leave all that the invariant of every step speaks of, or keep it. -/

namespace Sys2Proof.Machine

@[simp] theorem guarded_resign (s : State) : s.resign.guarded = s.guarded := by
  simp [State.resign]

@[simp] theorem guarded_holdOutputs (s : State) : s.holdOutputs.guarded = s.guarded := by
  simp [State.holdOutputs]

/-- What a reset clears keeps to the invariant; the queue and world time stay (R79). -/
@[simp] theorem kept_cleared {g : Guard} {s : State} (h : Kept g s.guarded) (x : ResetInfo) :
    Kept g (s.cleared x).guarded where
  pending := h.pending
  now := h.now
  fit := fun _ => (fit_guarded _).mpr ⟨sound_reset.1, sound_reset.2.1, sound_reset.2.2.1⟩

@[simp] theorem guarded_closeAtReset (s : State) : s.closeAtReset.guarded = s.guarded := by
  simp [State.closeAtReset]

@[simp] theorem kept_resetDevice {g : Guard} {s : State} (h : Kept g s.guarded) (kind cause : Nat) :
    Kept g (s.resetDevice kind cause).guarded := by
  unfold State.resetDevice
  extract_lets ci1 x s1
  have h1 : Kept g s1.guarded :=
    kept_if (kept_of_eq ((guarded_retain ..).trans ((guarded_resign ..).trans (guarded_closeAtReset ..))) h) h
  exact kept_of_eq (guarded_holdOutputs ..) (kept_cleared h1 x)

end Sys2Proof.Machine
end

section
/-! What the operations leave: the Portfolio. They leave all that the invariant of every step speaks of, or keep
it. -/

namespace Sys2Proof.Machine

@[simp] theorem guarded_respond (s : State) (frame : List Byte) : (s.respond frame).guarded = s.guarded := by
  simp [State.respond]

@[simp] theorem guarded_svcTouch (s : State) : s.svcTouch.guarded = s.guarded := by
  simp [State.svcTouch]

@[simp] theorem guarded_svcSession (s : State) (r : Nat) (f : State → Nat × List Byte × State)
    (hf : ∀ s : State, (f s).2.2.guarded = s.guarded) : (s.svcSession r f).2.2.guarded = s.guarded := by
  unfold State.svcSession
  split <;> simp [hf]

@[simp] theorem guarded_claim (s : State) (owner len : Nat) : (s.claim owner len).guarded = s.guarded := by
  simp [State.claim]

@[simp] theorem guarded_stagingFailed (s : State) : s.stagingFailed.guarded = s.guarded := by
  simp [State.stagingFailed]

@[simp] theorem guarded_staged (s : State) (source : Nat) : (s.staged source).guarded = s.guarded := by
  simp [State.staged]

@[simp] theorem guarded_takeShared (s : State) (bytes : List Byte) : (s.takeShared bytes).guarded = s.guarded := by
  simp [State.takeShared]

@[simp] theorem guarded_judgeClaim (s : State) : s.judgeClaim.guarded = s.guarded := by
  unfold State.judgeClaim
  split <;> simp

@[simp] theorem guarded_takeOutcome (s : State) (status : Nat) : (s.takeOutcome status).guarded = s.guarded := by
  simp [State.takeOutcome]

@[simp] theorem guarded_confirm (s : State) (role : Nat) : (s.confirm role).guarded = s.guarded := by
  simp [State.confirm]

end Sys2Proof.Machine
end

section
/-! What the operations leave: the twin: logs, snapshots and takeovers (R420 to R430). They leave all that the
invariant of every step speaks of, or keep it. -/

namespace Sys2Proof.Machine

@[simp] theorem guarded_applyArrival (s : State) (kind sel : Nat) (w : Word) (k : Option Packet) :
    (s.applyArrival kind sel w k).guarded = s.guarded := by
  unfold State.applyArrival
  dsimp only
  split <;> split <;> simp

@[simp] theorem kept_applyEntry {g : Guard} {s : State} (h : Kept g s.guarded) (e : Nat) (x : LogEntry) :
    Kept g (s.applyEntry e x).guarded := by
  cases x with
  | arrival kind sel w k => exact kept_of_eq (guarded_applyArrival ..) h
  | ack f => exact kept_of_eq (guarded_ackFrame ..) h
  | report r c => exact kept_of_eq (guarded_takeReport ..) h
  | fabric task flow op d t => exact kept_of_eq (guarded_modTwin ..) h
  | admission b => exact kept_modCanvas h fun hc => hc
  | stop x subsumed place => exact kept_applyStop h ..
  | release seq role place => exact kept_applyRelease h ..
  | hostGrant b => exact kept_modCanvas h fun hc => hc
  | load b => exact kept_of_eq (guarded_modDsp ..) h
  | start how =>
    dsimp only [State.applyEntry]
    split
    · exact kept_coldStart h ..
    · exact h
  | cartoonStop role => exact kept_of_eq (guarded_beginStop ..) h
  | swap n => exact kept_of_eq (guarded_modDsp ..) h
  | cancelSwap => exact kept_of_eq (guarded_modDsp ..) h
  | flowRelease f role => exact kept_of_eq (guarded_modDsp ..) h
  | correction m =>
    dsimp only [State.applyEntry]
    split
    · exact kept_of_eq (guarded_placeQueues ..) h
    · exact h
  | canvasError w => exact kept_modCanvas h fun hc => blockWord_wf hc w

@[simp] theorem kept_applyLog {g : Guard} {s : State} (h : Kept g s.guarded) (n : Nat) :
    Kept g (s.applyLog n).guarded := by
  unfold State.applyLog
  dsimp only
  exact kept_foldl (fun _ _ hs => kept_applyEntry hs _ _) _ (kept_of_eq (guarded_modTwin ..) h)

@[simp] theorem guarded_turnStages (s : State) : s.turnStages.guarded = s.guarded := by
  simp [State.turnStages]

@[simp] theorem kept_beginEpoch {g : Guard} {s : State} (h : Kept g s.guarded) (n : Nat) :
    Kept g (s.beginEpoch n).guarded := by
  unfold State.beginEpoch
  extract_lets keep s1 s2 s3
  have h2 : Kept g s2.guarded :=
    kept_of_eq ((guarded_turnStages ..).trans ((guarded_modEpoch ..).trans (guarded_modEv ..))) h
  have h3 : Kept g s3.guarded := kept_applyLog (kept_of_eq (guarded_modDsp ..) h2) n
  exact kept_if (kept_of_eq (guarded_releaseTasks ..) h3) h3

@[simp] theorem guarded_trimPhase (s : State) (r : Nat) (chain : Fin 2) :
    (s.trimPhase r chain).guarded = s.guarded := by
  simp [State.trimPhase]

@[simp] theorem guarded_follow (s : State) : s.follow.guarded = s.guarded := by
  simp [State.follow]

@[simp] theorem guarded_setTwin (s : State) (new : TwinState) : (s.setTwin new).guarded = s.guarded := by
  simp [State.setTwin]

@[simp] theorem guarded_isolate (s : State) : s.isolate.guarded = s.guarded := by
  simp [State.isolate]

@[simp] theorem guarded_dropSwitch (s : State) : s.dropSwitch.guarded = s.guarded := by
  simp [State.dropSwitch]

@[simp] theorem guarded_becomeSolo (s : State) : s.becomeSolo.guarded = s.guarded := by
  simp [State.becomeSolo]

@[simp] theorem kept_serveAfresh {g : Guard} {s : State} (h : Kept g s.guarded) (new : TwinState) :
    Kept g (s.serveAfresh new).guarded := by
  simp [State.serveAfresh, h]

@[simp] theorem guarded_setHeartbeat (s : State) (x : Nat) : (s.setHeartbeat x).guarded = s.guarded := by
  simp [State.setHeartbeat]

@[simp] theorem guarded_takeover (s : State) (new : TwinState) (cause : Nat) :
    (s.takeover new cause).guarded = s.guarded := by
  unfold State.takeover
  extract_lets s1 s2 s3 s4 s5
  have h1 : s1.guarded = s.guarded := (guarded_modAir ..).trans (guarded_modTwin ..)
  have h2 : s2.guarded = s1.guarded := (guarded_emit ..).trans (guarded_setTwin ..)
  have h3 : s3.guarded = s2.guarded := guarded_if (guarded_modTwin ..) rfl
  have h4 : s4.guarded = s3.guarded := guarded_modCanvas _ rfl
  have h5 : s5.guarded = s4.guarded := guarded_if rfl (guarded_enterHoldover ..)
  rw [guarded_restream, guarded_takeoverDrives, guarded_modHost, h5, h4, h3, h2, h1]

@[simp] theorem guarded_failTransfer (s : State) (cause : Nat) : (s.failTransfer cause).guarded = s.guarded := by
  simp [State.failTransfer]

@[simp] theorem guarded_nameSnapshot (s : State) : s.nameSnapshot.guarded = s.guarded := by
  simp [State.nameSnapshot]

@[simp] theorem guarded_setUpImage (s : State) (c : Cartoon) : (s.setUpImage c).guarded = s.guarded := by
  simp [State.setUpImage]

/-- The plane of a snapshot that keeps to the invariant is taken over whole (R428). -/
theorem kept_loadSnapshot {g : Guard} {s : State} (h : Kept g s.guarded) (e : Nat) {p : DetPlane}
    (hp : g.fit → bringsFit (.transferMsg (.snapshot e p))) : Kept g (s.loadSnapshot e p).guarded := by
  unfold State.loadSnapshot
  extract_lets c s1 s2 s3 s4
  have h1 : Kept g s1.guarded := by
    simp only [s1]
    split
    · exact kept_of_eq (guarded_setUpImage ..) h
    · exact h
  have h2 : Kept g s2.guarded := {
    pending := h1.pending
    now := h1.now
    fit := fun hg =>
      have ⟨he, hm, hc⟩ := hp hg
      (fit_guarded s2).mpr ⟨fun k => by
        simp only [s2, Fin.getElem_fin, Vector.getElem_ofFn]
        exact he k, hm, hc⟩ }
  refine kept_applyLog (kept_of_eq ?_ h2) e
  exact (guarded_modTwin ..).trans ((guarded_modEv ..).trans (guarded_modPalette ..))

@[simp] theorem guarded_mismatch (s : State) (n own peer : Nat) : (s.mismatch n own peer).guarded = s.guarded := by
  unfold State.mismatch
  extract_lets k s1
  have h1 : s1.guarded = s.guarded := (guarded_emit ..).trans (guarded_modTwin ..)
  refine guarded_if h1 ?_
  split
  · exact (guarded_setTwin ..).trans h1
  · exact (guarded_failTransfer ..).trans ((guarded_draw ..).trans h1)
  · exact h1

@[simp] theorem guarded_compareDigests (s : State) (n : Nat) : (s.compareDigests n).guarded = s.guarded := by
  unfold State.compareDigests
  split
  · extract_lets s1
    have h1 : s1.guarded = s.guarded := guarded_modTwin ..
    exact guarded_if ((guarded_modTwin ..).trans h1)
      (guarded_if ((guarded_modTwin ..).trans h1) ((guarded_mismatch ..).trans h1))
  · rfl

@[simp] theorem guarded_split (s : State) (was : Nat) : (s.split was).guarded = s.guarded := by
  simp [State.split]

@[simp] theorem guarded_sameSeat (s : State) (was : Nat) : (s.sameSeat was).guarded = s.guarded := by
  simp [State.sameSeat]

@[simp] theorem guarded_activePartner (s : State) (st : TwinState) (was : Nat) :
    (s.activePartner st was).guarded = s.guarded := by
  unfold State.activePartner
  split <;> simp

@[simp] theorem kept_partnerState {g : Guard} {s : State} (h : Kept g s.guarded) (st : TwinState) (was : Nat) :
    Kept g (s.partnerState st was).guarded := by
  unfold State.partnerState
  extract_lets serves
  split
  · exact kept_if h (kept_if (kept_of_eq (guarded_setTwin ..) h) (kept_if (kept_serveAfresh h _) h))
  · refine kept_if (kept_of_eq (guarded_split ..) h) (kept_if ?_ h)
    exact kept_of_eq ((guarded_nameSnapshot ..).trans (guarded_setTwin ..)) h
  · exact kept_of_eq (guarded_activePartner ..) h
  · exact kept_if (kept_of_eq (guarded_modTwin ..) h) (kept_if (kept_of_eq (guarded_takeover ..) h) h)
  · exact h
  · exact h

@[simp] theorem guarded_partnerLost (s : State) : s.partnerLost.guarded = s.guarded := by
  unfold State.partnerLost
  split <;> simp

@[simp] theorem guarded_twinRefuse (s : State) : s.twinRefuse.guarded = s.guarded := by
  simp [State.twinRefuse]

@[simp] theorem guarded_takeHealth (s : State) (h : Health) : (s.takeHealth h).guarded = s.guarded := by
  simp [State.takeHealth]

@[simp] theorem guarded_judgeAgreement (s : State) (th : Int) : (s.judgeAgreement th).guarded = s.guarded := by
  simp [State.judgeAgreement]

@[simp] theorem guarded_followTime (s : State) (th : Int) (st : TimeState) (u : Nat) (rate : Int) :
    (s.followTime th st u rate).guarded = s.guarded := by
  unfold State.followTime
  extract_lets s1 s2 beyond was s3
  have h1 : s1.guarded = s.guarded := rfl
  have h2 : s2.guarded = s1.guarded := guarded_setTime ..
  have h3 : s3.guarded = s2.guarded := guarded_modTmb ..
  exact guarded_if (h3.trans (h2.trans h1)) ((guarded_emit ..).trans (h3.trans (h2.trans h1)))

end Sys2Proof.Machine
end

section
/-! What the operations leave: power states. They leave all that the invariant of every step speaks of, or keep
it. -/

namespace Sys2Proof.Machine

@[simp] theorem guarded_setHold (s : State) : s.setHold.guarded = s.guarded := by
  simp [State.setHold]

@[simp] theorem guarded_setPower (s : State) (new : PowerState) (role : Nat) :
    (s.setPower new role).guarded = s.guarded := by
  simp [State.setPower]

@[simp] theorem guarded_requestPower (s : State) (want : PowerState) : (s.requestPower want).guarded = s.guarded := by
  unfold State.requestPower
  refine guarded_if rfl ?_
  split
  · exact guarded_emit ..
  · extract_lets s1
    have h1 : s1.guarded = s.guarded := guarded_touch ..
    exact guarded_if ((guarded_modPwr ..).trans h1) ((guarded_modPwr ..).trans h1)

@[simp] theorem guarded_sleepDrives (s : State) : s.sleepDrives.guarded = s.guarded := by
  simp [State.sleepDrives]

@[simp] theorem guarded_resumeAir (s : State) : s.resumeAir.guarded = s.guarded := by
  simp [State.resumeAir]

@[simp] theorem kept_deepWake {g : Guard} {s : State} (h : Kept g s.guarded) (src : Nat) :
    Kept g (s.deepWake src).guarded := by
  simp [State.deepWake, h]

@[simp] theorem guarded_closeAll (s : State) : s.closeAll.2.guarded = s.guarded := by
  simp [State.closeAll]

@[simp] theorem kept_raiseLatched {g : Guard} {s : State} (h : Kept g s.guarded) :
    Kept g s.raiseLatched.guarded := by
  simp [State.raiseLatched, h]

end Sys2Proof.Machine
end

section
/-! What the operations leave: an idle step (R80). They leave all that the invariant of every step speaks of, or
keep it. -/

namespace Sys2Proof.Machine

@[simp] theorem guarded_sendMarkers (s : State) : s.sendMarkers.guarded = s.guarded := by
  simp [State.sendMarkers]

@[simp] theorem guarded_heartbeatEdge (s : State) : s.heartbeatEdge.guarded = s.guarded := by
  simp [State.heartbeatEdge]

@[simp] theorem guarded_watchEgress (s : State) (port : Fin 2) : (s.watchEgress port).guarded = s.guarded := by
  simp [State.watchEgress]

/-- A step in which no command waits moves world time by 2 ns; all else the invariant speaks of stays (R80). -/
theorem guarded_tick (s : State) : s.tick.guarded = { s.guarded with now := s.now + 2 } := by
  have ha : s.advance.guarded = { s.guarded with now := s.now + 2 } := rfl
  rw [State.tick, guarded_judgeClaim, guarded_driveSkews, guarded_judgeMasters, guarded_sendMarkers,
    guarded_heartbeatEdge, guarded_watchEgress, guarded_watchEgress, ha]

end Sys2Proof.Machine
end

section
/-! What the operations leave: loads, stores and the debug window (R95, R109 to R122). They leave all that the
invariant of every step speaks of, or keep it. -/

namespace Sys2Proof.Machine

@[simp] theorem guarded_readDefined (s : State) (ok : Nat → Bool) (a : Nat) (bs : List Byte) :
    (s.readDefined ok a bs).2.guarded = s.guarded := by
  unfold State.readDefined
  split <;> simp

@[simp] theorem kept_atelierStore {g : Guard} {s : State} (h : Kept g s.guarded) (k : Fin 8) (task a : Nat)
    (bs : List Byte) : Kept g (s.atelierStore k task a bs).guarded :=
  kept_modAtelier h fun hm => write_wf hm a bs

@[simp] theorem guarded_scratchCorrected (s : State) (k : Fin 8) (ms : List Ecc) (ea : Nat) :
    (s.scratchCorrected k ms ea).guarded = s.guarded := by
  induction ms generalizing s ea with
  | nil => rfl
  | cons m ms ih =>
    exact (ih ..).trans (guarded_if ((guarded_emit ..).trans (guarded_modEasel s k rfl)) rfl)

@[simp] theorem guarded_atelierCorrected (s : State) (ms : List Ecc) (ea : Nat) :
    (s.atelierCorrected ms ea).guarded = s.guarded := by
  induction ms generalizing s ea with
  | nil => rfl
  | cons m ms ih => exact (ih ..).trans (guarded_if (guarded_emit ..) rfl)

@[simp] theorem kept_scratchStore {g : Guard} {s : State} (h : Kept g s.guarded) (k : Fin 8) (ea : Nat)
    (bs : List Byte) : Kept g (s.scratchStore k ea bs).guarded :=
  kept_modEasel h fun hf => ⟨hf.1, hf.2.1, memWrite_wf hf.2.2 _ _⟩

@[simp] theorem guarded_scratchLoad (s : State) (k : Fin 8) (ms : List Ecc) (ea len : Nat) :
    (s.scratchLoad k ms ea len).2.guarded = s.guarded :=
  (guarded_readDefined ..).trans (guarded_scratchCorrected ..)

@[simp] theorem guarded_atelierLoad (s : State) (k : Fin 8) (ms : List Ecc) (ea len : Nat) :
    (s.atelierLoad k ms ea len).2.guarded = s.guarded :=
  (guarded_readDefined ..).trans (guarded_atelierCorrected ..)

theorem kept_logged {g : Guard} {s t : State} (h : Kept g s.guarded) {k : Bank} {f : State → (Word × Word) × State}
    {r : Word × Word} (hf : Kept g (f s).2.guarded) (e : s.logged k f = some (r, t)) : Kept g t.guarded := by
  unfold State.logged at e
  split at e
  · split at e
    · cases e
      exact kept_of_eq (guarded_modTwin ..) h
    · cases e
  · cases e
    exact kept_of_eq (guarded_logInput ..) hf

@[simp] theorem kept_easelStop {g : Guard} {s : State} (h : Kept g s.guarded) (kind : StopArg) (i : Nat)
    (bad : List (BitVec 21)) : Kept g (s.easelStop kind i bad).2.guarded := by
  unfold State.easelStop
  dsimp only
  (repeat' split) <;> simp [h]

@[simp] theorem guarded_stopDone (s : State) (kind : StopArg) (i : Nat) (t : TaskCtx) (w : Word) :
    (s.stopDone kind i t w).guarded = s.guarded := by
  simp [State.stopDone]

@[simp] theorem guarded_request (s : State) (k : Fin 8) (t : TaskCtx) (op : AsyncOp) (v : Word) (task slot : Nat) :
    (s.request k t op v task slot).guarded = s.guarded := by
  simp [State.request]

@[simp] theorem guarded_atelierWord (s : State) (i : Nat) (m : Ecc) : (s.atelierWord i m).guarded = s.guarded := by
  unfold State.atelierWord
  split <;> simp

theorem kept_debugWrite {g : Guard} {s : State} (h : Kept g s.guarded) (k : Fin 8) {f : State → State}
    (hf : ∀ s, Kept g s.guarded → Kept g (f s).guarded) : Kept g (s.debugWrite k f).guarded :=
  kept_bar h fun s hs => kept_if (hf _ (kept_of_eq (guarded_touch s) hs)) (kept_of_eq (guarded_modEasel s k rfl) hs)

@[simp] theorem guarded_setBrk (s : State) (k : Fin 8) (brk : BitVec 2) (halt : Bool) :
    (s.setBrk k brk halt).guarded = s.guarded := guarded_modEasel s k rfl

@[simp] theorem guarded_memDataRead (s : State) (k : Fin 8) (m : Ecc) :
    (s.memDataRead k m).2.guarded = s.guarded := by
  unfold State.memDataRead
  dsimp only
  split
  · exact guarded_draw s
  · exact guarded_if (guarded_scratchCorrected ..) (guarded_imemCorrected ..)

end Sys2Proof.Machine
end

section
/-! What the operations leave: register writes. They leave all that the invariant of every step speaks of, or
keep it. -/

namespace Sys2Proof.Machine

@[simp] theorem kept_pairWritten {g : Guard} {s : State} (h : Kept g s.guarded) (was : Bool) :
    Kept g (s.pairWritten was).guarded := by
  simp [State.pairWritten, h]

@[simp] theorem kept_afterReg {g : Guard} {s : State} (h : Kept g s.guarded) (a was : Nat) :
    Kept g (s.afterReg a was).guarded := by
  simp [State.afterReg, h]

@[simp] theorem kept_storeReg {g : Guard} {s : State} (h : Kept g s.guarded) (a v : Nat) :
    Kept g (s.storeReg a v).guarded := by
  unfold State.storeReg
  split <;> simp [h]

theorem guarded_setOwn {s t : State} {a v : Nat} (e : s.setOwn a v = some t) : t.guarded = s.guarded := by
  unfold State.setOwn at e
  dsimp only at e
  split at e
  · cases e
    exact guarded_modFleet ..
  · cases e
    exact guarded_modTfc ..
  · cases e
    exact guarded_modDsp ..
  · cases e
    exact guarded_if (guarded_modTmb ..) ((guarded_writeSrc ..).trans (guarded_modTmb ..))
  · cases e
    exact guarded_modTmb ..
  · cases e
    exact guarded_modSec ..
  · cases e
    exact guarded_modPnt ..
  · cases e

theorem setWindow_stacks (b : Bank) (o : Nat) (w : Word) :
    (b.setWindow o w).rets = b.rets ∧ (b.setWindow o w).loops = b.loops := by
  unfold Bank.setWindow
  split
  · unfold Bank.wg
    split <;> exact ⟨rfl, rfl⟩
  · split <;> exact ⟨rfl, rfl⟩

theorem setWindow_fit {x : Easel} (h : x.guarded.fit) (o : Nat) (w : Word) :
    ({ x with bank := x.bank.setWindow o w } : Easel).guarded.fit := by
  obtain ⟨hr, hl⟩ := setWindow_stacks x.bank o w
  exact ⟨⟨(congrArg List.length hr).trans_le h.1.1, (congrArg List.length hl).trans_le h.1.2⟩, h.2⟩

@[simp] theorem kept_writeEasel {g : Guard} {s : State} (h : Kept g s.guarded) (k : Fin 8) (o : Nat) (w : Word) :
    Kept g (s.writeEasel k o w).guarded := by
  have hm {s : State} (hs : Kept g s.guarded) {f : Easel → Easel}
      (hf : (f s.easels[k]).guarded = s.easels[k].guarded) : Kept g (s.modEasel k f).guarded :=
    kept_of_eq (guarded_modEasel s k hf) hs
  unfold State.writeEasel
  split
  · exact hm h rfl
  · exact hm h rfl
  · exact hm h rfl
  · exact kept_debugWrite h k fun s hs => hm hs rfl
  · refine kept_if h (kept_debugWrite h k fun s hs => kept_if ?_ (hm hs rfl))
    exact kept_modEasel hs fun hf => setWindow_fit hf o w

@[simp] theorem guarded_dspKeyOther (s : State) (slot op : Nat) : (s.dspKeyOther slot op).guarded = s.guarded := by
  simp [State.dspKeyOther]

@[simp] theorem guarded_pfoKeyOther (s : State) (slot op : Nat) : (s.pfoKeyOther slot op).guarded = s.guarded := by
  simp [State.pfoKeyOther]

@[simp] theorem guarded_writeFree (s : State) (a v : Nat) : (s.writeFree a v).guarded = s.guarded := by
  unfold State.writeFree
  dsimp only
  (repeat' split) <;> simp

theorem kept_asRoleAny {g : Guard} {s : State} (h : Kept g s.guarded) (r : Nat) {f : State → State}
    (hf : ∀ s, Kept g s.guarded → Kept g (f s).guarded) : Kept g (s.asRoleAny r f).guarded :=
  kept_if (hf _ (kept_of_eq (guarded_touch s) h)) h

theorem guarded_setOwn_getD (s : State) (a v : Nat) : ((s.setOwn a v).getD s).guarded = s.guarded := by
  cases e : s.setOwn a v with
  | none => rfl
  | some t => exact guarded_setOwn e

@[simp] theorem kept_writeReg {g : Guard} {s : State} (h : Kept g s.guarded) (a v : Nat) :
    Kept g (s.writeReg a v).guarded := by
  unfold State.writeReg
  refine kept_if h (kept_if (kept_writeEasel h ..) ?_)
  split
  · exact kept_if h (kept_if (kept_storeReg h a v) (kept_asRoleAny h _ fun s hs => kept_storeReg hs a v))
  · split
    · exact kept_asRoleAny h _ fun s hs => kept_of_eq (guarded_setOwn_getD s a v) hs
    · exact kept_of_eq (guarded_writeFree ..) h

@[simp] theorem guarded_applySaved (s : State) (x : Nat × Nat) : (s.applySaved x).guarded = s.guarded := by
  unfold State.applySaved
  extract_lets a i w path
  clear_value a i w path
  split
  · exact guarded_setReg ..
  · split
    · rename_i e
      exact guarded_setOwn e
    · split
      · exact guarded_modTfc ..
      · exact guarded_modRfb ..
      · exact guarded_modRfb ..
      · exact guarded_modTmb ..
      · exact guarded_modHost ..
      · exact guarded_modEv ..
      · exact guarded_if (guarded_modLedger ..) rfl

@[simp] theorem guarded_applyConfig (s : State) (l : List (Nat × Nat)) : (s.applyConfig l).guarded = s.guarded :=
  guarded_foldl guarded_applySaved l s

@[simp] theorem guarded_beginSave (s : State) : s.beginSave.guarded = s.guarded := by
  simp [State.beginSave]

end Sys2Proof.Machine
end

section
/-! What the operations leave: the boot. They leave all that the invariant of every step speaks of, or keep it. -/

namespace Sys2Proof.Machine

@[simp] theorem guarded_restoreRetained (s : State) (valid : Bool) :
    (s.restoreRetained valid).guarded = s.guarded := (rfl)

@[simp] theorem guarded_restoreStations (s : State) : s.restoreStations.guarded = s.guarded := by
  simp [State.restoreStations]

@[simp] theorem guarded_retentionRecords (s : State) (valid : Bool) :
    (s.retentionRecords valid).guarded = s.guarded := by
  unfold State.retentionRecords
  split
  · exact guarded_emit ..
  · extract_lets s1
    have h1 : s1.guarded = s.guarded := by
      simp only [s1]
      split
      · exact guarded_emit ..
      · rfl
    exact guarded_if h1 ((guarded_of_recordless (recordless_pntGap ..)).trans ((guarded_modPnt ..).trans h1))

@[simp] theorem guarded_portfolioRecords (s : State) (reverted : Option Nat) :
    (s.portfolioRecords reverted).guarded = s.guarded := by
  unfold State.portfolioRecords
  dsimp only
  (repeat' split) <;> simp

@[simp] theorem guarded_bootTwin (s : State) : s.bootTwin.guarded = s.guarded := by
  simp [State.bootTwin]

@[simp] theorem guarded_setBooted (s : State) : s.setBooted.guarded = s.guarded := by
  simp [State.setBooted]

@[simp] theorem guarded_bootRom (s : State) (x : BootObs) (bank : Nat) (again valid : Bool) :
    (s.bootRom x bank again valid).guarded = s.guarded := by
  simp [State.bootRom]

@[simp] theorem guarded_bootRestore (s : State) (x : BootObs) (valid : Bool) :
    (s.bootRestore x valid).guarded = s.guarded := by
  unfold State.bootRestore
  extract_lets s1 s2
  have h1 : s1.guarded = s.guarded := (guarded_retentionRecords ..).trans (guarded_restoreRetained ..)
  have h2 : s2.guarded = s1.guarded := by
    simp only [s2]
    split
    · exact guarded_applyConfig ..
    · rfl
  rw [guarded_modTfc, guarded_restoreLedgers, h2, h1]

@[simp] theorem kept_bootFinish {g : Guard} {s : State} (h : Kept g s.guarded) (x : BootObs) (reverted : Option Nat)
    : Kept g (s.bootFinish x reverted).guarded := by
  unfold State.bootFinish
  extract_lets s1 s2 s3 s4
  have h1 : Kept g s1.guarded := kept_of_eq (guarded_firstTime ..) h
  have h2 : Kept g s2.guarded := kept_if (kept_of_eq (guarded_dropStaging ..) h1) h1
  have h4 : Kept g s4.guarded := kept_newIncarnation
    (kept_of_eq ((guarded_restoreStations ..).trans (guarded_portfolioRecords ..)) h2) _
  split
  · exact kept_of_eq (guarded_emit ..) h4
  · exact h4

@[simp] theorem kept_bootSet {g : Guard} {s : State} (h : Kept g s.guarded) (x : BootObs) (bank : Nat)
    (reverted : Option Nat) : Kept g (s.bootSet x bank reverted).guarded := by
  unfold State.bootSet
  extract_lets valid s1 s2
  have h2 : Kept g s2.guarded := kept_of_eq ((guarded_bootRestore ..).trans (guarded_bootRom ..)) h
  exact kept_of_eq ((guarded_bootTwin ..).trans (guarded_setBooted ..)) (kept_bootFinish h2 ..)

@[simp] theorem guarded_flashStored (s : State) (w : FlashWrite) : (s.flashStored w).guarded = s.guarded := by
  unfold State.flashStored
  split <;> simp

end Sys2Proof.Machine
end

section
/-! What a command keeps: the next states it answers. -/
namespace Sys2Proof.Machine

/-- Every next state that is answered has the queue and world time as they were, and keeps to the invariant. -/
def Keeps (g : Guard) (r : Res) : Prop := ∀ t, r = .next t → Kept g t.guarded

@[simp] theorem keeps_next (g : Guard) (t : State) : Keeps g (.next t) ↔ Kept g t.guarded := by
  refine ⟨fun h => h t rfl, fun h u e => ?_⟩
  cases e
  exact h

theorem keeps_if {g : Guard} {p : Prop} [Decidable p] {a b : Res} (ha : Keeps g a) (hb : Keeps g b) :
    Keeps g (if p then a else b) := by
  split
  · exact ha
  · exact hb

section
variable {g : Guard} {s : State} (h : Kept g s.guarded)
include h

theorem keeps_barRead {f : State → Nat × State} (hf : Kept g (f s).2.guarded) : Keeps g (s.barRead f) :=
  keeps_if ((keeps_next ..).mpr (kept_of_eq (guarded_put ..) hf))
    ((keeps_next ..).mpr (kept_of_eq (guarded_put ..) h))

theorem keeps_dpRead {f : State → Nat × State} (hf : Kept g (f s).2.guarded) : Keeps g (s.dpRead f) :=
  keeps_if ((keeps_next ..).mpr (kept_of_eq (guarded_put ..) hf))
    ((keeps_next ..).mpr (kept_of_eq (guarded_put ..) h))

theorem keeps_withStk (cmd : Nat) {f : State → StkReq → Chan → StkDone} (hf : ∀ q c, Kept g (f s q c).s.guarded) :
    Keeps g (s.withStk cmd f) := by
  unfold State.withStk
  rw [keeps_next]
  split
  · exact h
  · refine kept_if h ?_
    rw [guarded_nextStk, guarded_finishStk]
    split
    · exact hf ..
    · exact h

theorem keeps_withLoop (cmd : Nat) {f : State → Nat → Nat → Nat × State}
    (hf : ∀ l a, (f s l a).2.guarded = s.guarded) : Keeps g (s.withLoop cmd f) := by
  unfold State.withLoop
  rw [keeps_next]
  split
  · exact h
  · refine kept_if h ?_
    dsimp only
    rw [guarded_dropLoop, guarded_finishLoop]
    split
    · exact h
    · exact kept_of_eq (hf ..) h

theorem keeps_command (cmd r : Nat) (shared : Bool) {f : State → State}
    (hf : ∀ s, Kept g s.guarded → Kept g (f s).guarded) : Keeps g (s.command cmd r shared f) := by
  refine (keeps_next ..).mpr (kept_bar h fun s hs => ?_)
  have ht : Kept g s.touch.guarded := kept_of_eq (guarded_touch s) hs
  exact kept_if (kept_of_eq (guarded_refuse ..) hs) (kept_if (kept_of_eq (guarded_refuse ..) ht)
    (kept_if (kept_of_eq (guarded_refuse ..) ht) (hf _ ht)))

theorem keeps_svcRequest (type : Nat) (seq : BitVec 16) {f : State → Nat × List Byte × State}
    (hf : Kept g (f s).2.2.guarded) : Keeps g (s.svcRequest type seq f) :=
  (keeps_next ..).mpr (kept_if h (kept_if (kept_of_eq (guarded_respond ..) h)
    (kept_of_eq ((guarded_respond ..).trans (guarded_modPfo ..)) hf)))

theorem keeps_pfoCommand (ok : State → Bool) {f : State → State}
    (hf : ∀ s, Kept g s.guarded → Kept g (f s).guarded) : Keeps g (s.pfoCommand ok f) :=
  (keeps_next ..).mpr (kept_bar h fun s hs =>
    kept_if (hf _ (kept_of_eq (guarded_touch s) hs)) (kept_of_eq (guarded_modPfo ..) hs))

end

/-! ## The Easel's instructions -/

/-- The return and the loop stack. -/
def Bank.stacks (b : Bank) : List Nat × List LoopE := (b.rets, b.loops)

theorem fits_of_stacks {b c : Bank} (e : c.stacks = b.stacks) (h : b.fits) : c.fits := by
  simp only [Bank.stacks, Prod.mk.injEq] at e
  obtain ⟨er, el⟩ := e
  exact ⟨er ▸ h.1, el ▸ h.2⟩

@[simp] theorem stacks_setPc (b : Bank) (n : Nat) : ({ b with pc := n } : Bank).stacks = b.stacks := rfl

@[simp] theorem stacks_wg (b : Bank) (r : GReg) (w : Word) : (b.wg r w).stacks = b.stacks := by
  unfold Bank.wg
  split <;> rfl

@[simp] theorem stacks_wv (b : Bank) (r : VReg) (x : Lanes) : (b.wv r x).stacks = b.stacks := rfl

@[simp] theorem stacks_wa (b : Bank) (r : AReg) (x : Accs) : (b.wa r x).stacks = b.stacks := rfl

@[simp] theorem stacks_accessed (b : Bank) (a : GReg) (post : Bool) (off : BitVec 15) :
    (b.accessed a post off).stacks = b.stacks := by
  show (b.postInc a post off).stacks = b.stacks
  unfold Bank.postInc
  split
  · exact stacks_wg ..
  · rfl

theorem jumpTo_fits {b : Bank} (h : b.fits) (x : Nat) : (b.jumpTo x).fits :=
  ⟨h.1, (List.length_filter_le _ _).trans h.2⟩

section
variable {g : Guard} {s : State} (h : Kept g s.guarded)
include h

/-- An instruction whose own effect is on its bank alone. -/
theorem keeps_runLocal (e : At) (i : EInstr) {f : Bank → Bank} (hf : ∀ b, (f b).stacks = b.stacks) :
    Keeps g (s.runLocal e i f) :=
  (keeps_next ..).mpr (kept_runOn h e i
    (keeps_act h rfl (fun _ => fits_of_stacks (hf _)) fun _ hs => hs))

/-- An instruction that leaves the stacks. -/
theorem keeps_runOn (e : At) (i : EInstr) {x : EAct} (ha : ∀ b b' t, x.act s b = some (b', t) →
    Kept g t.guarded ∧ b'.stacks = b.stacks) (haf : ∀ s, Kept g s.guarded → Kept g (x.after s).guarded) :
    Keeps g (.next (s.runOn e i x)) :=
  (keeps_next ..).mpr (kept_runOn h e i {
    act := fun _ _ _ e => ⟨(ha _ _ _ e).1, fits_of_stacks (ha _ _ _ e).2⟩
    after := haf })

theorem keeps_runBranch (e : At) (op : BrOp) (a b : GReg) (off : BitVec 14) :
    Keeps g (s.runBranch e op a b off) := by
  refine (keeps_next ..).mpr (kept_runOn h e _ (keeps_act h rfl (fun _ hb => ?_) fun _ hs => hs))
  split
  · exact jumpTo_fits hb _
  · exact hb

theorem keeps_runSync (e : At) (i : EInstr) (d : GReg) {f : State → Bank → Word × State}
    (hf : ∀ b, Kept g (f s b).2.guarded) : Keeps g (s.runSync e i d f) := by
  refine keeps_runOn h e i (fun b b' t e => ?_) fun _ hs => hs
  cases e
  exact ⟨hf b, stacks_wg ..⟩

theorem keeps_runLogged (e : At) (i : EInstr) (d : GReg) {f : State → Bank → Word × State}
    {both : State → Bank → Word → State} (hf : ∀ b, Kept g (f s b).2.guarded)
    (hb : ∀ s b w, (both s b w).guarded = s.guarded) : Keeps g (s.runLogged e i d f both) := by
  refine keeps_runOn h e i (fun b b' t e => ?_) fun _ hs => hs
  dsimp only at e
  split at e
  · cases e
  · rename_i el
    cases e
    exact ⟨kept_of_eq (hb ..) (kept_logged h (hf b) el), stacks_wg ..⟩

theorem keeps_runAsync (e : At) (op : AsyncOp) (r : GReg) (task : BitVec 11) (slot : Fin 4) :
    Keeps g (s.runAsync e op r task slot) := by
  refine keeps_runOn h e _ (fun b b' t e => ?_) fun _ hs => hs
  cases e
  exact ⟨kept_of_eq (guarded_request ..) h, rfl⟩

end

end Sys2Proof.Machine
end

section
/-! What the commands keep: sessions, keys and the Pentimento (R460 to R484). -/

namespace Sys2Proof.Machine

theorem keeps_execSessionOpen {g : Guard} {s : State} (h : Kept g s.guarded) (role : Fin 4) (chal : Vector Byte 32)
    : Keeps g (execSessionOpen role chal s) := (keeps_next ..).mpr (kept_bar h fun s hs => by simp [hs])

theorem keeps_execSessionProve {g : Guard} {s : State} (h : Kept g s.guarded) : Keeps g (execSessionProve s) :=
  (keeps_next ..).mpr (kept_bar h fun s hs => by simp [hs])

theorem keeps_execSessionClose {g : Guard} {s : State} (h : Kept g s.guarded) : Keeps g (execSessionClose s) :=
  (keeps_next ..).mpr (kept_bar h fun s hs => by simp [hs])

theorem keeps_execSessionIdleTimeout {g : Guard} {s : State} (h : Kept g s.guarded) (svc : Bool) :
    Keeps g (execSessionIdleTimeout svc s) := by
  simp [execSessionIdleTimeout, h]

theorem keeps_execChallengeExpiry {g : Guard} {s : State} (h : Kept g s.guarded) (svc : Bool) :
    Keeps g (execChallengeExpiry svc s) := by
  simp [execChallengeExpiry, h]

theorem keeps_execSessionLockoutEnd {g : Guard} {s : State} (h : Kept g s.guarded) (svc : Bool) :
    Keeps g (execSessionLockoutEnd svc s) := by
  simp [execSessionLockoutEnd, h]

theorem keeps_execKeyDataWrite {g : Guard} {s : State} (h : Kept g s.guarded) (w : Word) :
    Keeps g (execKeyDataWrite w s) := (keeps_next ..).mpr (kept_bar h fun s hs => by simp [hs])

theorem keeps_execKeyCountRestart {g : Guard} {s : State} (h : Kept g s.guarded) :
    Keeps g (execKeyCountRestart s) := (keeps_next ..).mpr (kept_bar h fun s hs => by simp [hs])

theorem keeps_execKeyProgram {g : Guard} {s : State} (h : Kept g s.guarded) (role : Fin 4) :
    Keeps g (execKeyProgram role s) := by
  unfold execKeyProgram
  dsimp only
  (repeat' split) <;> simp [h]

theorem keeps_execBucketRefill {g : Guard} {s : State} (h : Kept g s.guarded) (code : BitVec 16) :
    Keeps g (execBucketRefill code s) := by
  simp [execBucketRefill, h]

theorem keeps_execPntRlWrite {g : Guard} {s : State} (h : Kept g s.guarded) (w : Word) :
    Keeps g (execPntRlWrite w s) := (keeps_next ..).mpr (kept_asRole h fun s hs => by simp [hs])

theorem keeps_execRlSettingsApply {g : Guard} {s : State} (h : Kept g s.guarded) :
    Keeps g (execRlSettingsApply s) := by
  simp [execRlSettingsApply, h]

theorem keeps_execPentimentoSlotWrite {g : Guard} {s : State} (h : Kept g s.guarded) (status : BitVec 4) :
    Keeps g (execPentimentoSlotWrite status s) := by
  unfold execPentimentoSlotWrite
  dsimp only
  (repeat' split) <;> simp [h]

theorem keeps_execPentimentoClear {g : Guard} {s : State} (h : Kept g s.guarded) (w : Word) :
    Keeps g (execPentimentoClear w s) := (keeps_next ..).mpr (kept_bar h fun s hs => by simp [hs])

theorem keeps_execPentimentoClearDone {g : Guard} {s : State} (h : Kept g s.guarded) :
    Keeps g (execPentimentoClearDone s) := by
  refine (keeps_next ..).mpr (kept_if h ?_)
  have hd (t : State) (r : Record) : (t.deliverOut r).guarded = t.guarded := guarded_of_recordless
      (recordless_deliverOut ..)
  dsimp only
  rw [hd, guarded_modPnt]
  exact kept_of_eq (guarded_of_recordless (recordless_makeRecord ..)) h

end Sys2Proof.Machine
end

section
/-! What the commands keep: stops and their release (R20 to R35). -/

namespace Sys2Proof.Machine

theorem keeps_execStopInputFall {g : Guard} {s : State} (h : Kept g s.guarded) (b : Bool) :
    Keeps g (execStopInputFall b s) := by
  simp [execStopInputFall, h]

theorem keeps_execStopInputRise {g : Guard} {s : State} (h : Kept g s.guarded) (b : Bool) :
    Keeps g (execStopInputRise b s) := by
  simp [execStopInputRise, h]

theorem keeps_execFleetStopWrite {g : Guard} {s : State} (h : Kept g s.guarded) (dp : Bool) (w : Word) :
    Keeps g (execFleetStopWrite dp w s) := by
  simp [execFleetStopWrite, h]

theorem keeps_execStopInputDiscrepancy {g : Guard} {s : State} (h : Kept g s.guarded) :
    Keeps g (execStopInputDiscrepancy s) := by
  rw [execStopInputDiscrepancy, keeps_next]
  split <;> simp [h]

theorem keeps_execDiscrepancyClear {g : Guard} {s : State} (h : Kept g s.guarded) :
    Keeps g (execDiscrepancyClear s) := by
  simp [execDiscrepancyClear, h]

theorem keeps_execStopReleaseWrite {g : Guard} {s : State} (h : Kept g s.guarded) (w : Word)
    (bad : List (BitVec 21)) : Keeps g (execStopReleaseWrite w bad s) := by
  simp [execStopReleaseWrite, h]

theorem keeps_execBootStopSelfRelease {g : Guard} {s : State} (h : Kept g s.guarded) :
    Keeps g (execBootStopSelfRelease s) := by
  rw [execBootStopSelfRelease, keeps_next]
  split <;> simp [h]

theorem keeps_execIncarnationStore {g : Guard} {s : State} (h : Kept g s.guarded) (status : BitVec 4) :
    Keeps g (execIncarnationStore status s) := by
  simp [execIncarnationStore, h]

theorem keeps_execIncarnationStoreRetry {g : Guard} {s : State} (h : Kept g s.guarded) (status : BitVec 4) :
    Keeps g (execIncarnationStoreRetry status s) := by
  rw [execIncarnationStoreRetry, keeps_next]
  split <;> simp [h]

theorem keeps_execRestartEnd {g : Guard} {s : State} (h : Kept g s.guarded) : Keeps g (execRestartEnd s) := by
  simp [execRestartEnd, h]

end Sys2Proof.Machine
end

section
/-! What the commands keep: the Palette (R374 to R378). -/

namespace Sys2Proof.Machine

theorem keeps_execPaletteFlushWrite {g : Guard} {s : State} (h : Kept g s.guarded) (w : Word) :
    Keeps g (execPaletteFlushWrite w s) := (keeps_next ..).mpr (kept_asRole h fun s hs => by simp [hs])

theorem keeps_execPaletteFlush {g : Guard} {s : State} (h : Kept g s.guarded) (q : Fin 64) :
    Keeps g (execPaletteFlush q s) := by
  rw [execPaletteFlush, keeps_next]
  split <;> simp [h]

theorem keeps_execFreeListRebuilt {g : Guard} {s : State} (h : Kept g s.guarded) :
    Keeps g (execFreeListRebuilt s) := by
  simp [execFreeListRebuilt, h]

theorem keeps_execPartialPacketDiscard {g : Guard} {s : State} (h : Kept g s.guarded) (q : Fin 64) :
    Keeps g (execPartialPacketDiscard q s) := by
  rw [execPartialPacketDiscard, keeps_next]
  split <;> simp [h]

theorem keeps_execPaletteRequestComplete {g : Guard} {s : State} (h : Kept g s.guarded) (ro : ReadOut) :
    Keeps g (execPaletteRequestComplete ro s) := by
  unfold execPaletteRequestComplete
  dsimp only
  (repeat' split) <;> simp [h]

end Sys2Proof.Machine
end

section
/-! What the commands keep: the time servo. -/

namespace Sys2Proof.Machine

/-- A commit of the time scale. -/
theorem guarded_tmb (s : State) (x : Tmb) : ({ s with tmb := x } : State).guarded = s.guarded := rfl

theorem keeps_execHoldoverUpdate {g : Guard} {s : State} (h : Kept g s.guarded) :
    Keeps g (execHoldoverUpdate s) := by
  simp [execHoldoverUpdate, h]

theorem keeps_execHoldoverEntry {g : Guard} {s : State} (h : Kept g s.guarded) : Keeps g (execHoldoverEntry s) := by
  simp [execHoldoverEntry, h]

theorem keeps_execTimeLocked {g : Guard} {s : State} (h : Kept g s.guarded) : Keeps g (execTimeLocked s) := by
  rw [execTimeLocked, keeps_next]
  split <;> simp [h]

theorem keeps_execTimeStep {g : Guard} {s : State} (h : Kept g s.guarded) : Keeps g (execTimeStep s) := by
  unfold execTimeStep
  dsimp only
  (repeat' split) <;> simp [h]

theorem keeps_execJumpAccepted {g : Guard} {s : State} (h : Kept g s.guarded) : Keeps g (execJumpAccepted s) := by
  rw [execJumpAccepted, keeps_next]
  split <;> simp [h]

theorem keeps_execTp0Edge {g : Guard} {s : State} (h : Kept g s.guarded) (staged : Bool) :
    Keeps g (execTp0Edge staged s) := by
  simp [execTp0Edge, h]

theorem keeps_execAutomaticCommit {g : Guard} {s : State} (h : Kept g s.guarded) :
    Keeps g (execAutomaticCommit s) :=
  (keeps_next ..).mpr (kept_if (kept_of_eq (guarded_tmb ..) h) h)

theorem keeps_execTmbRead {g : Guard} {s : State} (h : Kept g s.guarded) (now : Bool) (part : Fin 3) :
    Keeps g (execTmbRead now part s) := by
  simp [execTmbRead, h]

theorem keeps_execStampEdge {g : Guard} {s : State} (h : Kept g s.guarded) (source : Fin 25) :
    Keeps g (execStampEdge source s) := by
  simp [execStampEdge, h]

theorem keeps_execTimeSourceChange {g : Guard} {s : State} (h : Kept g s.guarded) :
    Keeps g (execTimeSourceChange s) := by
  rw [execTimeSourceChange, keeps_next]
  split
  · exact h
  · refine kept_if h ?_
    extract_lets s1 old s2 s3 s4 s5
    have h1 : Kept g s1.guarded := kept_of_eq (guarded_modServo ..) h
    have h3 : Kept g s3.guarded := kept_of_eq ((guarded_noSoln ..).trans (guarded_modTmb ..)) h1
    have h4 : Kept g s4.guarded := kept_if h3 (kept_of_eq (guarded_enterHoldover ..) h3)
    have h5 : Kept g s5.guarded := kept_if (kept_of_eq (guarded_tmb ..) h4) h4
    exact kept_if h1 (kept_of_eq (guarded_emit ..) h5)

theorem keeps_execTmbSetWrite {g : Guard} {s : State} (h : Kept g s.guarded) (v : BitVec 64) :
    Keeps g (execTmbSetWrite v s) :=
  (keeps_next ..).mpr (kept_asRoleAny h 2 fun _ hs =>
    kept_if (kept_of_eq (guarded_emit ..) (kept_stepTime hs _)) (kept_of_eq (guarded_modTmb ..) hs))

theorem keeps_execTmbFreeRateWrite {g : Guard} {s : State} (h : Kept g s.guarded) (w : Word) :
    Keeps g (execTmbFreeRateWrite w s) := by
  refine (keeps_next ..).mpr (kept_asRoleAny h 2 fun s hs => ?_)
  have ht (f : Tmb → Tmb) : Kept g (s.modTmb f).guarded := kept_of_eq (guarded_modTmb ..) hs
  exact kept_if (kept_of_eq (guarded_tmb ..) (ht _)) (ht _)

theorem keeps_execRtcUpdate {g : Guard} {s : State} (h : Kept g s.guarded) : Keeps g (execRtcUpdate s) := by
  simp [execRtcUpdate, h]

end Sys2Proof.Machine
end

section
/-! What the commands keep: the GNSS receiver. -/

namespace Sys2Proof.Machine

theorem keeps_execSvSlotAssigned {g : Guard} {s : State} (h : Kept g s.guarded) (view : List SvInView) :
    Keeps g (execSvSlotAssigned view s) := by
  rw [execSvSlotAssigned, keeps_next]
  split <;> simp [h]

theorem keeps_execSvSlotRelease {g : Guard} {s : State} (h : Kept g s.guarded) (slot : Fin 64) :
    Keeps g (execSvSlotRelease slot s) := by
  rw [execSvSlotRelease, keeps_next]
  split <;> simp [h]

theorem keeps_execSpectrumEstimate {g : Guard} {s : State} (h : Kept g s.guarded) (band : Fin 2) (agc floor : Int)
    (bins : List Nat) : Keeps g (execSpectrumEstimate band agc floor bins s) := by
  simp [execSpectrumEstimate, h]

theorem keeps_execNotchRelease {g : Guard} {s : State} (h : Kept g s.guarded) (band : Fin 2) (k : Fin 4) :
    Keeps g (execNotchRelease band k s) := by
  unfold execNotchRelease
  dsimp only
  (repeat' split) <;> simp [h]

theorem keeps_execAntennaFault {g : Guard} {s : State} (h : Kept g s.guarded) (input : Fin 2) (ma : BitVec 16) :
    Keeps g (execAntennaFault input ma s) := by
  simp [execAntennaFault, h]

theorem keeps_execBiasRetry {g : Guard} {s : State} (h : Kept g s.guarded) (input : Fin 2) (ma : BitVec 16) :
    Keeps g (execBiasRetry input ma s) := by
  simp [execBiasRetry, h]

theorem keeps_execSurveyRestart {g : Guard} {s : State} (h : Kept g s.guarded) (w : Word) :
    Keeps g (execSurveyRestart w s) := (keeps_next ..).mpr (kept_asRole h fun s hs => by simp [hs])

theorem keeps_execSurveySlow {g : Guard} {s : State} (h : Kept g s.guarded) : Keeps g (execSurveySlow s) := by
  simp [execSurveySlow, h]

theorem keeps_execFixedCoordWrite {g : Guard} {s : State} (h : Kept g s.guarded) (reg : Fin 4) (v : BitVec 64) :
    Keeps g (execFixedCoordWrite reg v s) := (keeps_next ..).mpr (kept_asRole h fun s hs => by simp [hs])

theorem keeps_execCoordMismatch {g : Guard} {s : State} (h : Kept g s.guarded) : Keeps g (execCoordMismatch s) := by
  rw [execCoordMismatch, keeps_next]
  split <;> simp [h]

theorem keeps_execCoordMismatchClear {g : Guard} {s : State} (h : Kept g s.guarded) :
    Keeps g (execCoordMismatchClear s) := by
  rw [execCoordMismatchClear, keeps_next]
  split <;> simp [h]

theorem keeps_execRtcmArpSend {g : Guard} {s : State} (h : Kept g s.guarded) : Keeps g (execRtcmArpSend s) := by
  rw [execRtcmArpSend, keeps_next]
  split <;> simp [h]

theorem keeps_execRtcmDescriptorSend {g : Guard} {s : State} (h : Kept g s.guarded) :
    Keeps g (execRtcmDescriptorSend s) := by
  rw [execRtcmDescriptorSend, keeps_next]
  split <;> simp [h]

theorem keeps_execMeasurementEpoch {g : Guard} {s : State} (h : Kept g s.guarded) (obs : GnssObs) :
    Keeps g (execMeasurementEpoch obs s) := by
  rw [execMeasurementEpoch, keeps_next]
  extract_lets p t last s1 res s2 soon due s3 s4 s5 s6
  have h1 : s1.guarded = s.guarded := guarded_modGnss ..
  have h2 : s2.guarded = s1.guarded := guarded_foldl (fun _ _ => guarded_observe ..) ..
  have h3 : s3.guarded = s2.guarded :=
    (guarded_checkCoords ..).trans ((guarded_surveyEpoch ..).trans (guarded_positionEpoch ..))
  have h4 : s4.guarded = s3.guarded :=
    (guarded_restream ..).trans ((guarded_servoEpoch ..).trans (guarded_takeUtc ..))
  have h5 : s5.guarded = s4.guarded := guarded_modServo ..
  have h6 : s6.guarded = s5.guarded := (guarded_streamEpoch ..).trans (guarded_modGnss ..)
  refine kept_if h (kept_of_eq ?_ h)
  rw [guarded_modGnss, h6, h5, h4, h3, h2, h1]

theorem keeps_execMeasurementRateChange {g : Guard} {s : State} (h : Kept g s.guarded) :
    Keeps g (execMeasurementRateChange s) := by
  simp [execMeasurementRateChange, h]

theorem keeps_execGnssDataSave {g : Guard} {s : State} (h : Kept g s.guarded) : Keeps g (execGnssDataSave s) := by
  simp [execGnssDataSave, h]

theorem keeps_execCaptureGo {g : Guard} {s : State} (h : Kept g s.guarded) (w : Word) :
    Keeps g (execCaptureGo w s) := (keeps_next ..).mpr (kept_bar h fun s hs => by simp [hs])

theorem keeps_execCaptureComplete {g : Guard} {s : State} (h : Kept g s.guarded) (samples : List Byte) :
    Keeps g (execCaptureComplete samples s) := by
  simp [execCaptureComplete, h]

theorem keeps_execCapDataRead {g : Guard} {s : State} (h : Kept g s.guarded) : Keeps g (execCapDataRead s) :=
  keeps_barRead h (by simp [h])

end Sys2Proof.Machine
end

section
/-! What the commands keep: the Ethernet ports. -/

namespace Sys2Proof.Machine

theorem keeps_execEthLink {g : Guard} {s : State} (h : Kept g s.guarded) (port : Fin 2) (up : Bool)
    (speed : BitVec 16) (part : Nat) : Keeps g (execEthLink port up speed part s) := by
  simp [execEthLink, h]

theorem keeps_execEthFrameSend {g : Guard} {s : State} (h : Kept g s.guarded) (port : Fin 2) (ro : ReadOut) :
    Keeps g (execEthFrameSend port ro s) := by
  refine (keeps_next ..).mpr (kept_if h ?_)
  have hr : Kept g (s.readHead (17 + port) 2 ro).2.guarded := kept_of_eq (guarded_readHead ..) h
  split
  · rename_i e
    have ht := kept_of_snd hr e
    exact kept_if (kept_of_eq (guarded_put ..) ht) (kept_of_eq (guarded_countBad ..) ht)
  · rename_i e
    exact kept_of_snd hr e

theorem keeps_execEthEgressDrop {g : Guard} {s : State} (h : Kept g s.guarded) (port : Fin 2) (ro : ReadOut) :
    Keeps g (execEthEgressDrop port ro s) := by
  rw [execEthEgressDrop, keeps_next]
  have hr : Kept g (s.readHead (17 + port) 2 ro).2.guarded := kept_of_eq (guarded_readHead ..) h
  split
  · refine kept_if h ?_
    split
    · rename_i e
      exact kept_of_eq (guarded_countBad ..) (kept_of_snd hr e)
    · rename_i e
      exact kept_of_snd hr e
  · exact h

theorem keeps_execEthFrameReceived {g : Guard} {s : State} (h : Kept g s.guarded) (port : Fin 2) (frame : List Byte)
    (fcsOk : Bool) : Keeps g (execEthFrameReceived port frame fcsOk s) := by
  simp [execEthFrameReceived, h]

theorem keeps_execArpRequest {g : Guard} {s : State} (h : Kept g s.guarded) (port : Fin 2) (senderMac : BitVec 48)
    (senderIp targetIp : BitVec 32) : Keeps g (execArpRequest port senderMac senderIp targetIp s) := by
  simp [execArpRequest, h]

theorem keeps_execPtpSyncSend {g : Guard} {s : State} (h : Kept g s.guarded) (port : Fin 2) :
    Keeps g (execPtpSyncSend port s) := by
  simp [execPtpSyncSend, h]

theorem keeps_execPtpAnnounceSend {g : Guard} {s : State} (h : Kept g s.guarded) (port : Fin 2) :
    Keeps g (execPtpAnnounceSend port s) := by
  simp [execPtpAnnounceSend, h]

theorem keeps_execPtpDelayReqReceived {g : Guard} {s : State} (h : Kept g s.guarded) (port : Fin 2) (m : PtpMsg) :
    Keeps g (execPtpDelayReqReceived port m s) := by
  simp [execPtpDelayReqReceived, h]

theorem keeps_execPtpAnnounceReceived {g : Guard} {s : State} (h : Kept g s.guarded) (port : Fin 2) (m : PtpMsg)
    (d : PtpData) : Keeps g (execPtpAnnounceReceived port m d s) := by
  simp [execPtpAnnounceReceived, h]

theorem keeps_execPtpSyncReceived {g : Guard} {s : State} (h : Kept g s.guarded) (port : Fin 2) (m : PtpMsg) :
    Keeps g (execPtpSyncReceived port m s) := by
  simp [execPtpSyncReceived, h]

theorem keeps_execPtpFollowUpReceived {g : Guard} {s : State} (h : Kept g s.guarded) (port : Fin 2) (m : PtpMsg) :
    Keeps g (execPtpFollowUpReceived port m s) := by
  rw [execPtpFollowUpReceived, keeps_next]
  split <;> simp [h]

theorem keeps_execPtpDelayReqSend {g : Guard} {s : State} (h : Kept g s.guarded) (port : Fin 2) :
    Keeps g (execPtpDelayReqSend port s) := by
  rw [execPtpDelayReqSend, keeps_next]
  split <;> simp [h]

theorem keeps_execPtpDelayRespReceived {g : Guard} {s : State} (h : Kept g s.guarded) (port : Fin 2) (m : PtpMsg)
    (requester : BitVec 80) (freq slew : Int) :
    Keeps g (execPtpDelayRespReceived port m requester freq slew s) := by
  rw [execPtpDelayRespReceived, keeps_next]
  split
  · split
    · refine kept_if h ?_
      extract_lets t4 d s1
      have h1 : Kept g s1.guarded := kept_of_eq (guarded_modPort ..) h
      exact kept_if h1 (kept_of_eq ((guarded_takeSoln ..).trans (guarded_masterBound ..)) h1)
    · exact h
  · exact h

end Sys2Proof.Machine
end

section
/-! What the commands keep: the grant engine (R177 to R206). -/

namespace Sys2Proof.Machine

theorem keeps_execGrant {g : Guard} {s : State} (h : Kept g s.guarded) (bad1 bad2 : List (BitVec 21))
    (upTo : Option Nat) : Keeps g (execGrant bad1 bad2 upTo s) := by
  rw [execGrant, keeps_next]
  split
  · exact kept_nextReq (kept_runCommit h ..)
  · exact kept_withDesc h 0 fun q d => kept_runGrant h ..

theorem keeps_execWithdraw {g : Guard} {s : State} (h : Kept g s.guarded) (bad : List (BitVec 21)) :
    Keeps g (execWithdraw bad s) := by
  refine (keeps_next ..).mpr (kept_withDesc h 1 fun q d => ?_)
  dsimp only
  split
  · exact kept_of_eq (guarded_refuseReq ..) h
  · rw [guarded_released, guarded_finishReq, guarded_modPalette]
    exact kept_modCanvas (kept_eccWhere h ..) fun hc => freeGen_wf (by exact hc) ..

theorem keeps_execBlock {g : Guard} {s : State} (h : Kept g s.guarded) (bad : List (BitVec 21)) :
    Keeps g (execBlock bad s) := by
  refine (keeps_next ..).mpr (kept_withDesc h 2 fun q d => ?_)
  refine kept_if (kept_of_eq (guarded_refuseReq ..) h) (kept_of_eq (guarded_blockDone ..) ?_)
  refine kept_modCanvas (kept_blockEccs h ..) fun hc => ?_
  dsimp only
  split
  · exact setFree_wf hc ..
  · exact setFree_wf hc ..

theorem keeps_execUnblock {g : Guard} {s : State} (h : Kept g s.guarded) (bad : List (BitVec 21)) :
    Keeps g (execUnblock bad s) := by
  refine (keeps_next ..).mpr (kept_withDesc h 3 fun q d => kept_of_eq (guarded_blockDone ..) ?_)
  refine kept_modCanvas (kept_blockEccs h ..) fun hc => freeIf_wf ?_ ..
  split
  · exact hc
  · exact hc

theorem keeps_execGrantBatch {g : Guard} {s : State} (h : Kept g s.guarded) : Keeps g (execGrantBatch s) :=
  (keeps_next ..).mpr (kept_if h (kept_nextReq (kept_modCanvas h fun hc => hc)))

theorem keeps_execCanvasSlotBoundary {g : Guard} {s : State} (h : Kept g s.guarded) :
    Keeps g (execCanvasSlotBoundary s) := by
  simp [execCanvasSlotBoundary, h]

theorem keeps_execReportHandling {g : Guard} {s : State} (h : Kept g s.guarded) (bad : List (BitVec 21)) :
    Keeps g (execReportHandling bad s) := by
  rw [execReportHandling, keeps_next]
  split
  · exact kept_nextReq (kept_applyReport (kept_eccWhere (kept_modCanvas h fun hc => hc) ..) _)
  · exact h

theorem keeps_execHostGrantGo {g : Guard} {s : State} (h : Kept g s.guarded) (w : Word) (data : Option (List Byte))
    : Keeps g (execHostGrantGo w data s) := (keeps_next ..).mpr (kept_asRole h fun s hs => by simp [hs])

theorem keeps_execGrantDelivered {g : Guard} {s : State} (h : Kept g s.guarded) : Keeps g (execGrantDelivered s) := by
  rw [execGrantDelivered, keeps_next]
  split
  · exact kept_of_eq (guarded_emit ..) (kept_modCanvas (kept_modCanvas h fun hc => hc) fun hc => hc)
  · exact h

theorem keeps_execGrantUndelivered {g : Guard} {s : State} (h : Kept g s.guarded) :
    Keeps g (execGrantUndelivered s) := by
  rw [execGrantUndelivered, keeps_next]
  split
  · exact kept_of_eq (guarded_emit ..) (kept_modCanvas (kept_modCanvas h fun hc => hc) fun hc => hc)
  · exact h

theorem keeps_execSweepComplete {g : Guard} {s : State} (h : Kept g s.guarded) (bad : List (BitVec 21)) :
    Keeps g (execSweepComplete bad s) := by
  rw [execSweepComplete, keeps_next]
  split
  · exact h
  · exact kept_modCanvas (kept_canvasEccs h _) fun hc => sweepColumn_wf (by exact hc) _

theorem keeps_execSweepLate {g : Guard} {s : State} (h : Kept g s.guarded) : Keeps g (execSweepLate s) := by
  rw [execSweepLate, keeps_next]
  split <;> simp [h]

theorem keeps_execRobotLost {g : Guard} {s : State} (h : Kept g s.guarded) (r : BitVec 8) (bad : List (BitVec 21)) :
    Keeps g (execRobotLost r bad s) := by
  rw [execRobotLost, keeps_next]
  split
  · refine kept_if h ?_
    extract_lets x s1 s2 s3
    have h1 : Kept g s1.guarded := kept_modCanvas h fun hc => hc
    split
    · refine kept_if (kept_nextReq h1) ?_
      have h3 : Kept g s3.guarded := kept_modCanvas (kept_eccWhere h1 ..) fun hc => hc
      exact kept_nextReq (kept_of_eq (guarded_emit ..) (kept_setLost h3 ..))
    · exact kept_nextReq h1
  · exact h

theorem keeps_execPersistRemainderApplied {g : Guard} {s : State} (h : Kept g s.guarded) :
    Keeps g (execPersistRemainderApplied s) :=
  (keeps_next ..).mpr (kept_modCanvas h fun hc => applyRest_wf hc)

theorem keeps_execCanvasScrub {g : Guard} {s : State} (h : Kept g s.guarded) (m : Ecc) :
    Keeps g (execCanvasScrub m s) := by
  unfold execCanvasScrub
  extract_lets w s1
  have h1 : Kept g s1.guarded := kept_modCanvas h fun hc => hc
  rw [keeps_next]
  cases m with
  | ok => exact h1
  | corrected => exact kept_modCanvas h1 fun hc => hc
  | uncorrectable => exact kept_of_eq (guarded_modTwin ..) (kept_canvasEcc h1 w)

theorem keeps_execDpCanvasProbe {g : Guard} {s : State} (h : Kept g s.guarded) (cell : BitVec 23) (m : Ecc) :
    Keeps g (execDpCanvasProbe cell m s) := keeps_dpRead h (by simp [h])

theorem keeps_execPcieCanvasRead {g : Guard} {s : State} (h : Kept g s.guarded) (addr n : Nat) (ms : List Ecc) :
    Keeps g (execPcieCanvasRead addr n ms s) := by
  refine (keeps_next ..).mpr (kept_if (kept_of_eq (guarded_put ..) h) (kept_if (kept_probeRun _ h) ?_))
  exact kept_foldl (fun _ _ hs => kept_of_eq (guarded_put ..) hs) _ h

end Sys2Proof.Machine
end

section
/-! What the commands keep: the stroke engine (R216 to R229). -/

namespace Sys2Proof.Machine

theorem kept_stkIf {g : Guard} {p : Prop} [Decidable p] {a b : StkDone} (ha : Kept g a.s.guarded)
    (hb : Kept g b.s.guarded) : Kept g (if p then a else b).s.guarded := by
  split
  · exact ha
  · exact hb

theorem keeps_execStrokeBatch {g : Guard} {s : State} (h : Kept g s.guarded) : Keeps g (execStrokeBatch s) := by
  simp [execStrokeBatch, h]

theorem keeps_execMovePos {g : Guard} {s : State} (h : Kept g s.guarded) : Keeps g (execMovePos s) :=
  keeps_withStk h 0 fun _ c => kept_withMove h _ c fun _ _ =>
    kept_stkIf h (kept_of_eq ((guarded_movePos ..).trans (guarded_modStkChan ..)) h)

theorem keeps_execMoveSpeed {g : Guard} {s : State} (h : Kept g s.guarded) : Keeps g (execMoveSpeed s) :=
  keeps_withStk h 1 fun _ c => kept_withMove h _ c fun _ _ =>
    kept_of_eq ((guarded_moveSpeed ..).trans (guarded_modStkChan ..)) h

theorem keeps_execStrokeStop {g : Guard} {s : State} (h : Kept g s.guarded) : Keeps g (execStrokeStop s) := by
  refine keeps_withStk h 2 fun q c => ?_
  split
  · exact kept_stkIf h (kept_of_eq (guarded_stopStroke ..) h)
  · exact h

theorem keeps_execResume {g : Guard} {s : State} (h : Kept g s.guarded) : Keeps g (execResume s) :=
  keeps_withStk h 3 fun _ c => kept_stkIf h (kept_withMove h _ c fun _ _ =>
    kept_stkIf h (kept_stkIf h (kept_of_eq ((guarded_movePos ..).trans (guarded_modStkChan ..)) h)))

theorem keeps_execCorridor {g : Guard} {s : State} (h : Kept g s.guarded) : Keeps g (execCorridor s) :=
  keeps_withStk h 4 fun _ c => kept_stkIf h (kept_withMove h _ c fun _ _ =>
    kept_stkIf h (kept_stkIf h (kept_stkIf h
      (kept_modAtelier (kept_of_eq (guarded_modStkChan ..) h) fun hm => write_wf (write_wf hm ..) ..))))

theorem keeps_execSetProfile {g : Guard} {s : State} (h : Kept g s.guarded) : Keeps g (execSetProfile s) := by
  refine keeps_withStk h 5 fun q c => ?_
  split
  · exact h
  · exact kept_of_eq (guarded_modStkChan ..) h

theorem keeps_execSetRoute {g : Guard} {s : State} (h : Kept g s.guarded) : Keeps g (execSetRoute s) :=
  keeps_withStk h 6 fun _ _ => kept_stkIf h (kept_stkIf h
    (kept_of_eq ((guarded_modStkChan ..).trans (guarded_draw s)) h))

theorem keeps_execSync {g : Guard} {s : State} (h : Kept g s.guarded) : Keeps g (execSync s) := by
  refine keeps_withStk h 7 fun q c => kept_stkIf h ?_
  split
  · exact h
  · exact kept_of_eq (guarded_modStkChan ..) h

end Sys2Proof.Machine
end

section
/-! What the commands keep: the guidance engine (R230 to R243). -/

namespace Sys2Proof.Machine

theorem guarded_sndIf {α : Type} {g : Guard} {p : Prop} [Decidable p] {a b : α × State} (ha : a.2.guarded = g)
    (hb : b.2.guarded = g) : (if p then a else b).2.guarded = g := by
  split
  · exact ha
  · exact hb

theorem keeps_execGuidanceReport {g : Guard} {s : State} (h : Kept g s.guarded) :
    Keeps g (execGuidanceReport s) := by
  rw [execGuidanceReport, keeps_next]
  split <;> simp [h]

theorem keeps_execLoopEnable {g : Guard} {s : State} (h : Kept g s.guarded) : Keeps g (execLoopEnable s) :=
  keeps_withLoop h 0 fun _ _ => guarded_sndIf rfl (guarded_sndIf rfl (guarded_modLoop ..))

theorem keeps_execLoopDisable {g : Guard} {s : State} (h : Kept g s.guarded) : Keeps g (execLoopDisable s) :=
  keeps_withLoop h _ fun l a => by simp

theorem keeps_execLoopReset {g : Guard} {s : State} (h : Kept g s.guarded) : Keeps g (execLoopReset s) :=
  keeps_withLoop h _ fun l a => by simp

theorem keeps_execGlazeClear {g : Guard} {s : State} (h : Kept g s.guarded) : Keeps g (execGlazeClear s) :=
  keeps_withLoop h 3 fun _ _ => guarded_sndIf rfl (guarded_modGdl ..)

theorem keeps_execLearn {g : Guard} {s : State} (h : Kept g s.guarded) : Keeps g (execLearn s) :=
  keeps_withLoop h _ fun l a => by simp

theorem keeps_execDriveLoopBlock {g : Guard} {s : State} (h : Kept g s.guarded) :
    Keeps g (execDriveLoopBlock s) := by
  simp [execDriveLoopBlock, h]

end Sys2Proof.Machine
end

section
/-! What the commands keep: the duty ledgers. -/

namespace Sys2Proof.Machine

theorem keeps_execLedgerBucketBoundary {g : Guard} {s : State} (h : Kept g s.guarded) (band : Fin 2) :
    Keeps g (execLedgerBucketBoundary band s) := by
  simp [execLedgerBucketBoundary, h]

theorem keeps_execLedgerSnapshot {g : Guard} {s : State} (h : Kept g s.guarded) (status : BitVec 4) :
    Keeps g (execLedgerSnapshot status s) := by
  unfold execLedgerSnapshot
  dsimp only
  (repeat' split) <;> simp [h]

theorem keeps_execLedgerSettingsWrite {g : Guard} {s : State} (h : Kept g s.guarded) (reg : LdgReg) (w : Word) :
    Keeps g (execLedgerSettingsWrite reg w s) := (keeps_next ..).mpr (kept_asRole h fun s hs => by simp [hs])

theorem keeps_execRfbPathWrite {g : Guard} {s : State} (h : Kept g s.guarded) (chain : Fin 2) (w : Word) :
    Keeps g (execRfbPathWrite chain w s) := (keeps_next ..).mpr (kept_asRole h fun s hs => by simp [hs])

end Sys2Proof.Machine
end

section
/-! What the commands keep: the drives. -/

namespace Sys2Proof.Machine

theorem keeps_execStallDetectionStart {g : Guard} {s : State} (h : Kept g s.guarded) :
    Keeps g (execStallDetectionStart s) := by
  rw [execStallDetectionStart, keeps_next]
  split <;> simp [h]

theorem keeps_execPwmPeriodCentre {g : Guard} {s : State} (h : Kept g s.guarded) (samples : Vector (BitVec 12) 16) :
    Keeps g (execPwmPeriodCentre samples s) := by
  simp [execPwmPeriodCentre, h]

theorem keeps_execStandstillEnter {g : Guard} {s : State} (h : Kept g s.guarded) (d : Fin 8) :
    Keeps g (execStandstillEnter d s) := by
  simp [execStandstillEnter, h]

theorem keeps_execStepEdge {g : Guard} {s : State} (h : Kept g s.guarded) (d : Fin 8) (up : Bool) :
    Keeps g (execStepEdge d up s) := by
  simp [execStepEdge, h]

theorem keeps_execFollowIdle {g : Guard} {s : State} (h : Kept g s.guarded) (d : Fin 8) :
    Keeps g (execFollowIdle d s) := by
  simp [execFollowIdle, h]

theorem keeps_execLimitInputChange {g : Guard} {s : State} (h : Kept g s.guarded) (d : Fin 8) (far level : Bool) :
    Keeps g (execLimitInputChange d far level s) := by
  simp [execLimitInputChange, h]

theorem keeps_execChatterEnd {g : Guard} {s : State} (h : Kept g s.guarded) (d : Fin 8) (far : Bool) :
    Keeps g (execChatterEnd d far s) := by
  simp [execChatterEnd, h]

theorem keeps_execHomingPhaseEnd {g : Guard} {s : State} (h : Kept g s.guarded) (d : Fin 8) :
    Keeps g (execHomingPhaseEnd d s) := by
  unfold execHomingPhaseEnd
  dsimp only
  (repeat' split) <;> simp [h]

theorem keeps_execDriveHome {g : Guard} {s : State} (h : Kept g s.guarded) (ro : ReadOut) :
    Keeps g (execDriveHome ro s) :=
  (keeps_next ..).mpr (kept_driveCmd h 1 ro _ fun _ _ _ hs => kept_of_eq (guarded_startHoming ..) hs)

theorem keeps_execDriveClear {g : Guard} {s : State} (h : Kept g s.guarded) (ro : ReadOut) :
    Keeps g (execDriveClear ro s) := by
  refine (keeps_next ..).mpr (kept_driveCmd h 2 ro _ fun s d _ hs => ?_)
  dsimp only
  rw [guarded_emit]
  exact kept_if (kept_of_eq ((guarded_modDrvCh ..).trans (guarded_rest ..)) hs) (kept_of_eq (guarded_rest ..) hs)

theorem keeps_execSetMode {g : Guard} {s : State} (h : Kept g s.guarded) (ro : ReadOut) :
    Keeps g (execSetMode ro s) :=
  (keeps_next ..).mpr (kept_driveCmd h 3 ro _ fun _ _ _ hs => kept_of_eq (guarded_enterMode ..) hs)

theorem keeps_execDrivePacketInvalid {g : Guard} {s : State} (h : Kept g s.guarded) (ro : ReadOut) :
    Keeps g (execDrivePacketInvalid ro s) := by
  rw [execDrivePacketInvalid, keeps_next]
  split
  · exact h
  · split
    · exact h
    · exact kept_takeQ51 h ro fun _ _ hs => kept_of_eq (guarded_refuseDrive ..) hs

end Sys2Proof.Machine
end

section
/-! What the commands keep: the air interface. -/

namespace Sys2Proof.Machine

theorem keeps_execPlanChange {g : Guard} {s : State} (h : Kept g s.guarded) : Keeps g (execPlanChange s) := by
  simp [execPlanChange, h]

theorem keeps_execSuperframeBoundary {g : Guard} {s : State} (h : Kept g s.guarded) :
    Keeps g (execSuperframeBoundary s) := by
  rw [execSuperframeBoundary, keeps_next]
  dsimp only
  split
  · exact h
  · have hb (f : Air → Air) (t : Nat) : Kept g ((s.modAir f).beginSuperframe t).guarded :=
      kept_of_eq ((guarded_beginSuperframe ..).trans (guarded_modAir ..)) h
    exact kept_if (kept_if h (kept_if h (hb _ _))) (kept_if (hb _ _) h)

theorem keeps_execRadioSlotBoundary {g : Guard} {s : State} (h : Kept g s.guarded) (ros : Vector ReadOut 7)
    (levels : Vector (BitVec 8) 5) : Keeps g (execRadioSlotBoundary ros levels s) := by
  rw [execRadioSlotBoundary, keeps_next]
  extract_lets s1 r level
  have h1 : Kept g s1.guarded := kept_if (kept_of_eq (guarded_crossBoundary ..) h) h
  split
  · exact h1
  · extract_lets start a s2 s3 i s4 s5
    have h3 : Kept g s3.guarded :=
      kept_of_eq ((guarded_slotBurst ..).trans ((guarded_planChange ..).trans (guarded_modAir ..))) h1
    have h4 : Kept g s4.guarded := kept_of_eq (guarded_slotFrames ..) h3
    have h5 : Kept g s5.guarded := kept_if (kept_of_eq (guarded_slotFrames ..) h4) h4
    exact kept_of_eq ((guarded_sendDecision ..).trans (guarded_endOpportunities ..)) h5

theorem keeps_execStationFrameReceived {g : Guard} {s : State} (h : Kept g s.guarded) (chain : Fin 2)
    (channel : Fin 16) (rssi : BitVec 8) (mpdu : List Byte) :
    Keeps g (execStationFrameReceived chain channel rssi mpdu s) := by
  unfold execStationFrameReceived
  dsimp only
  (repeat' split) <;> simp [h]

theorem keeps_execReportReceived {g : Guard} {s : State} (h : Kept g s.guarded) : Keeps g (execReportReceived s) := by
  rw [execReportReceived, keeps_next]
  have hr : Kept g (s.popRx 1).2.guarded := kept_of_eq (guarded_popRx ..) h
  split
  · rename_i e
    exact kept_of_snd hr e
  · rename_i x t e
    extract_lets s1
    have h1 : Kept g s1.guarded := kept_of_eq (guarded_deliverRx ..) (kept_of_snd hr e)
    split
    · exact h1
    · exact kept_of_eq ((guarded_takeReport ..).trans (guarded_logInput ..)) h1

theorem keeps_execUdataReceived {g : Guard} {s : State} (h : Kept g s.guarded) : Keeps g (execUdataReceived s) := by
  rw [execUdataReceived, keeps_next]
  have hr : Kept g (s.popRx 6).2.guarded := kept_of_eq (guarded_popRx ..) h
  split
  · rename_i e
    exact kept_of_snd hr e
  · rename_i e
    exact kept_of_eq (guarded_deliverRx ..) (kept_of_snd hr e)

theorem keeps_execJoinReceived {g : Guard} {s : State} (h : Kept g s.guarded) : Keeps g (execJoinReceived s) := by
  rw [execJoinReceived, keeps_next]
  have hr : Kept g (s.popRx 5).2.guarded := kept_of_eq (guarded_popRx ..) h
  split
  · rename_i e
    exact kept_of_snd hr e
  · rename_i x t et
    have ht : Kept g t.guarded := kept_of_snd hr et
    extract_lets chain s1
    have h1 : s1.guarded = t.guarded := guarded_modAir ..
    split
    · exact kept_if ht (kept_of_eq (guarded_emit ..) ht)
    · rename_i i how _
      extract_lets y e z learn s2 s3
      have hl (u : State) : (learn u).guarded = u.guarded :=
        guarded_if rfl ((guarded_emit ..).trans (guarded_modStation ..))
      have h2 : s2.guarded = t.guarded := (guarded_heardFrom ..).trans (hl t)
      have h3 : s3.guarded = s2.guarded := guarded_if (guarded_unacked ..) (guarded_acknowledge ..)
      refine kept_if (kept_if ht (kept_of_eq ?_ ht)) (kept_if (kept_of_eq ?_ ht) (kept_if ht (kept_if
        (kept_of_eq (guarded_refuseRx ..) ht) (kept_of_eq ?_ ht))))
      · rw [guarded_acknowledge, guarded_heardFrom, h1]
      · rw [guarded_put, guarded_heardFrom, hl]
      · rw [guarded_assignDue, guarded_deliverRx, h3, h2]

theorem keeps_execImmAckReceived {g : Guard} {s : State} (h : Kept g s.guarded) (chain : Fin 2) (channel : Fin 16)
    (seq : Byte) (t : Nat) : Keeps g (execImmAckReceived chain channel seq t s) := by
  simp [execImmAckReceived, h]

theorem keeps_execStationAged {g : Guard} {s : State} (h : Kept g s.guarded) (chain : Fin 2) (station : Fin 1024) :
    Keeps g (execStationAged chain station s) := by
  simp [execStationAged, h]

theorem keeps_execProvision {g : Guard} {s : State} (h : Kept g s.guarded) : Keeps g (execProvision s) :=
  (keeps_next ..).mpr (kept_asRole h fun s hs => by simp [hs])

theorem keeps_execStationClear {g : Guard} {s : State} (h : Kept g s.guarded) : Keeps g (execStationClear s) :=
  (keeps_next ..).mpr (kept_asRole h fun s hs => by simp [hs])

theorem keeps_execTombstone {g : Guard} {s : State} (h : Kept g s.guarded) : Keeps g (execTombstone s) :=
  (keeps_next ..).mpr (kept_asRole h fun s hs => by simp [hs])

theorem keeps_execStationScrub {g : Guard} {s : State} (h : Kept g s.guarded) (m24 mSub : Ecc) (ext24 extSub : Bool)
    : Keeps g (execStationScrub m24 mSub ext24 extSub s) := by
  simp [execStationScrub, h]

theorem keeps_execAirKeyCtlWrite {g : Guard} {s : State} (h : Kept g s.guarded) (w : Word) :
    Keeps g (execAirKeyCtlWrite w s) := (keeps_next ..).mpr (kept_asRole h fun s hs => by simp [hs])

theorem keeps_execAirKeyDataWrite {g : Guard} {s : State} (h : Kept g s.guarded) (w : Word) :
    Keeps g (execAirKeyDataWrite w s) := (keeps_next ..).mpr (kept_asRole h fun s hs => by simp [hs])

theorem keeps_execStopRepetition {g : Guard} {s : State} (h : Kept g s.guarded) (chain : Fin 2) :
    Keeps g (execStopRepetition chain s) := by
  rw [execStopRepetition, keeps_next]
  have he : Kept g s.endBurst.guarded := kept_of_eq (guarded_endBurst ..) h
  split
  · exact h
  · refine kept_if he ?_
    split
    · exact he
    · exact kept_if h (kept_of_eq (guarded_repeatStop ..) h)

theorem keeps_execEchoExit {g : Guard} {s : State} (h : Kept g s.guarded) : Keeps g (execEchoExit s) := by
  rw [execEchoExit, keeps_next]
  split <;> simp [h]

end Sys2Proof.Machine
end

section
/-! What the commands keep: the fabric. -/

namespace Sys2Proof.Machine

theorem keeps_execEpochDeadline {g : Guard} {s : State} (h : Kept g s.guarded) : Keeps g (execEpochDeadline s) := by
  simp [execEpochDeadline, h]

theorem keeps_execAdmitNReached {g : Guard} {s : State} (h : Kept g s.guarded) : Keeps g (execAdmitNReached s) := by
  simp [execAdmitNReached, h]

theorem keeps_execStopNReached {g : Guard} {s : State} (h : Kept g s.guarded) : Keeps g (execStopNReached s) := by
  simp [execStopNReached, h]

theorem keeps_execLatenessCleared {g : Guard} {s : State} (h : Kept g s.guarded) :
    Keeps g (execLatenessCleared s) := by
  simp [execLatenessCleared, h]

theorem keeps_execTfcPolicyWrite {g : Guard} {s : State} (h : Kept g s.guarded) (w : Word) :
    Keeps g (execTfcPolicyWrite w s) := (keeps_next ..).mpr (kept_asRole h fun s hs => by simp [hs])

theorem keeps_execDailySample {g : Guard} {s : State} (h : Kept g s.guarded) : Keeps g (execDailySample s) := by
  simp [execDailySample, h]

theorem keeps_execCapRefresh {g : Guard} {s : State} (h : Kept g s.guarded) : Keeps g (execCapRefresh s) := by
  simp [execCapRefresh, h]

theorem keeps_execMonitorWindowEnd {g : Guard} {s : State} (h : Kept g s.guarded) (n : Fin 4)
    (rates : Vector (BitVec 16) 16) (temps : Vector (BitVec 8) 4) (read : BitVec 12) :
    Keeps g (execMonitorWindowEnd n rates temps read s) := by
  simp [execMonitorWindowEnd, h]

theorem keeps_execChainExcluded {g : Guard} {s : State} (h : Kept g s.guarded) (n : Fin 4) (i : Fin 16) :
    Keeps g (execChainExcluded n i s) := by
  simp [execChainExcluded, h]

theorem keeps_execSensorExcluded {g : Guard} {s : State} (h : Kept g s.guarded) (n i : Fin 4) :
    Keeps g (execSensorExcluded n i s) := by
  rw [execSensorExcluded, keeps_next]
  split <;> simp [h]

theorem keeps_execReadySet {g : Guard} {s : State} (h : Kept g s.guarded) : Keeps g (execReadySet s) := by
  simp [execReadySet, h]

theorem keeps_execRailLower {g : Guard} {s : State} (h : Kept g s.guarded) (n : Fin 4) :
    Keeps g (execRailLower n s) := by
  simp [execRailLower, h]

theorem keeps_execAvsFault {g : Guard} {s : State} (h : Kept g s.guarded) (n : Fin 4) (nack : Bool)
    (status : BitVec 16) : Keeps g (execAvsFault n nack status s) := by
  simp [execAvsFault, h]

theorem keeps_execAvsRetry {g : Guard} {s : State} (h : Kept g s.guarded) (n : Fin 4) (nack : Bool)
    (read : BitVec 12) : Keeps g (execAvsRetry n nack read s) := by
  simp [execAvsRetry, h]

theorem keeps_execContractAtRisk {g : Guard} {s : State} (h : Kept g s.guarded) (n : Fin 4) :
    Keeps g (execContractAtRisk n s) := by
  simp [execContractAtRisk, h]

theorem keeps_execContractBreach {g : Guard} {s : State} (h : Kept g s.guarded) (n : Fin 4) :
    Keeps g (execContractBreach n s) := by
  simp [execContractBreach, h]

theorem keeps_execContractRestored {g : Guard} {s : State} (h : Kept g s.guarded) (n : Fin 4) :
    Keeps g (execContractRestored n s) := by
  simp [execContractRestored, h]

theorem keeps_execRegionSkew {g : Guard} {s : State} (h : Kept g s.guarded) (p : Fin 4) :
    Keeps g (execRegionSkew p s) := by
  rw [execRegionSkew, keeps_next]
  split <;> simp [h]

theorem keeps_execRegionSkewClear {g : Guard} {s : State} (h : Kept g s.guarded) (p : Fin 4) :
    Keeps g (execRegionSkewClear p s) := by
  rw [execRegionSkewClear, keeps_next]
  split <;> simp [h]

end Sys2Proof.Machine
end

section
/-! What the commands keep: the dispatcher (R144 to R153). -/

namespace Sys2Proof.Machine

theorem keeps_execTaskTick {g : Guard} {s : State} (h : Kept g s.guarded) : Keeps g (execTaskTick s) := by
  simp [execTaskTick, h]

theorem keeps_execFabricRequestDrain {g : Guard} {s : State} (h : Kept g s.guarded) (k : Fin 8) :
    Keeps g (execFabricRequestDrain k s) := by
  rw [execFabricRequestDrain, keeps_next]
  split
  · exact h
  · refine kept_if h ?_
    split
    · exact h
    · rename_i e
      refine kept_foldl (fun _ _ hs => kept_of_eq (guarded_drainHeld ..) hs) _ ?_
      exact kept_of_eq ((guarded_modEasel _ k rfl).trans (guarded_accept e)) h

theorem keeps_execContinuationResult {g : Guard} {s : State} (h : Kept g s.guarded) :
    Keeps g (execContinuationResult s) := by
  rw [execContinuationResult, keeps_next]
  split
  · exact h
  · extract_lets s1 t
    have h1 : Kept g s1.guarded := kept_of_eq (guarded_modDsp ..) h
    refine kept_if h1 (kept_if (kept_of_eq (guarded_emit ..) h1) ?_)
    split
    · rename_i e
      exact kept_of_snd (kept_of_eq (guarded_fill ..) h1) e
    · rename_i e
      exact kept_of_eq ((guarded_resultFault ..).trans (guarded_emit ..))
        (kept_of_snd (kept_of_eq (guarded_fill ..) h1) e)
    · rename_i e
      exact kept_of_eq ((guarded_resultFault ..).trans (guarded_emit ..))
        (kept_of_snd (kept_of_eq (guarded_fill ..) h1) e)

theorem keeps_execArrivalDrain {g : Guard} {s : State} (h : Kept g s.guarded) (k : Fin 6) :
    Keeps g (execArrivalDrain k s) := by
  unfold execArrivalDrain
  extract_lets kind
  rw [keeps_next]
  have hu : Kept g ((s.unhold kind).modDsp (·.unrouted)).guarded :=
    kept_of_eq ((guarded_modDsp ..).trans (guarded_unhold ..)) h
  split
  · refine kept_if h (kept_if (kept_of_eq (guarded_modDsp ..) h) ?_)
    split
    · exact hu
    · refine kept_if hu ?_
      split
      · rename_i e
        exact kept_of_eq ((guarded_unhold ..).trans (guarded_logInput ..))
          (kept_of_snd (kept_of_eq (guarded_fill ..) h) e)
      · rename_i e
        exact kept_of_eq (guarded_modDsp ..) (kept_of_snd (kept_of_eq (guarded_fill ..) h) e)
  · exact h

theorem keeps_execDispatchDecision {g : Guard} {s : State} (h : Kept g s.guarded) :
    Keeps g (execDispatchDecision s) := by
  refine (keeps_next ..).mpr (kept_if h ?_)
  have hf : Kept g s.settleFaults.guarded := kept_settleFaults h
  dsimp only
  split
  · exact hf
  · exact kept_if hf (kept_if (kept_decidePooled hf) (kept_foldl (fun _ k hs => kept_decideBound hs k) _ hf))

theorem keeps_execFlowReleaseWrite {g : Guard} {s : State} (h : Kept g s.guarded) (w : Word) :
    Keeps g (execFlowReleaseWrite w s) := (keeps_next ..).mpr (kept_asRole h fun s hs => by simp [hs])

theorem keeps_execFlowRestart {g : Guard} {s : State} (h : Kept g s.guarded) : Keeps g (execFlowRestart s) := by
  rw [execFlowRestart, keeps_next]
  split <;> simp [h]

theorem keeps_execTraceClear {g : Guard} {s : State} (h : Kept g s.guarded) (w : Word) :
    Keeps g (execTraceClear w s) := (keeps_next ..).mpr (kept_bar h fun s hs => by simp [hs])

theorem keeps_execDspKeyDataWrite {g : Guard} {s : State} (h : Kept g s.guarded) (w : Word) :
    Keeps g (execDspKeyDataWrite w s) := (keeps_next ..).mpr (kept_bar h fun s hs => by simp [hs])

theorem keeps_execDspKeyProgram {g : Guard} {s : State} (h : Kept g s.guarded) (slot : Fin 4) :
    Keeps g (execDspKeyProgram slot s) := by
  unfold execDspKeyProgram
  dsimp only
  (repeat' split) <;> simp [h]

theorem keeps_execDspKeyRevoke {g : Guard} {s : State} (h : Kept g s.guarded) (slot : Fin 4) :
    Keeps g (execDspKeyRevoke slot s) := by
  unfold execDspKeyRevoke
  dsimp only
  (repeat' split) <;> simp [h]

end Sys2Proof.Machine
end

section
/-! What the commands keep: the host port. -/

namespace Sys2Proof.Machine

theorem keeps_execHostPutGo {g : Guard} {s : State} (h : Kept g s.guarded) (w : Word) :
    Keeps g (execHostPutGo w s) := (keeps_next ..).mpr (kept_asRole h fun s hs => by simp [hs])

theorem keeps_execHostGetGo {g : Guard} {s : State} (h : Kept g s.guarded) (w : Word) :
    Keeps g (execHostGetGo w s) := (keeps_next ..).mpr (kept_asRole h fun s hs => by simp [hs])

theorem keeps_execHostPutDone {g : Guard} {s : State} (h : Kept g s.guarded) (data : Option (List Byte)) :
    Keeps g (execHostPutDone data s) := by
  rw [execHostPutDone, keeps_next]
  split <;> simp [h]

theorem keeps_execHostGetDone {g : Guard} {s : State} (h : Kept g s.guarded) (ro : ReadOut) :
    Keeps g (execHostGetDone ro s) := by
  rw [execHostGetDone, keeps_next]
  split <;> simp [h]

theorem keeps_execEvqEnable {g : Guard} {s : State} (h : Kept g s.guarded) (n : Fin 8) (w : Word) :
    Keeps g (execEvqEnable n w s) := (keeps_next ..).mpr (kept_asRole h fun s hs => by simp [hs])

theorem keeps_execEvqTailWrite {g : Guard} {s : State} (h : Kept g s.guarded) (n : Fin 8) (w : Word) :
    Keeps g (execEvqTailWrite n w s) := (keeps_next ..).mpr (kept_asRole h fun s hs => by simp [hs])

theorem keeps_execEvqRecordWrite {g : Guard} {s : State} (h : Kept g s.guarded) (n : Fin 8) (ro : ReadOut) :
    Keeps g (execEvqRecordWrite n ro s) := by
  rw [execEvqRecordWrite, keeps_next]
  have hr : Kept g (s.readHead (24 + n) 5 ro).2.guarded := kept_of_eq (guarded_readHead ..) h
  refine kept_if ?_ h
  split
  · rename_i e
    exact kept_of_eq (guarded_ringWrite ..) (kept_of_snd hr e)
  · rename_i e
    exact kept_of_snd hr e

theorem keeps_execEvqModerationTimer {g : Guard} {s : State} (h : Kept g s.guarded) (n : Fin 8) :
    Keeps g (execEvqModerationTimer n s) := by
  simp [execEvqModerationTimer, h]

theorem keeps_execHostLockRead {g : Guard} {s : State} (h : Kept g s.guarded) (k : Fin 32) (arb : Arb) :
    Keeps g (execHostLockRead k arb s) := keeps_barRead h (by simp [h])

theorem keeps_execHostLockWrite {g : Guard} {s : State} (h : Kept g s.guarded) (k : Fin 32) :
    Keeps g (execHostLockWrite k s) := (keeps_next ..).mpr (kept_bar h fun s hs => by simp [hs])

theorem keeps_execLockFreeWrite {g : Guard} {s : State} (h : Kept g s.guarded) (w : Word) :
    Keeps g (execLockFreeWrite w s) := (keeps_next ..).mpr (kept_asRole h fun s hs => by simp [hs])

theorem keeps_execDpLockRead {g : Guard} {s : State} (h : Kept g s.guarded) (k : Fin 32) (arb : Arb) :
    Keeps g (execDpLockRead k arb s) := by
  refine keeps_dpRead h ?_
  dsimp only
  split
  · exact kept_of_eq (guarded_modHost ..) h
  · exact h

theorem keeps_execDpLockWrite {g : Guard} {s : State} (h : Kept g s.guarded) (k : Fin 32) :
    Keeps g (execDpLockWrite k s) := by
  simp [execDpLockWrite, h]

theorem keeps_execHostMbxTx {g : Guard} {s : State} (h : Kept g s.guarded) (c : Fin 16) (w : Word) :
    Keeps g (execHostMbxTx c w s) := (keeps_next ..).mpr (kept_bar h fun s hs => by simp [hs])

theorem keeps_execHostMbxRx {g : Guard} {s : State} (h : Kept g s.guarded) (c : Fin 16) :
    Keeps g (execHostMbxRx c s) := keeps_barRead h (by simp [h])

theorem keeps_execDpMbxTake {g : Guard} {s : State} (h : Kept g s.guarded) (c : Fin 16) :
    Keeps g (execDpMbxTake c s) := keeps_dpRead h (by simp [h])

theorem keeps_execDpMbxSend {g : Guard} {s : State} (h : Kept g s.guarded) (c : Fin 16) (w : Word) :
    Keeps g (execDpMbxSend c w s) := by
  simp [execDpMbxSend, h]

theorem keeps_execDpMbxStatusRead {g : Guard} {s : State} (h : Kept g s.guarded) (c : Fin 16) :
    Keeps g (execDpMbxStatusRead c s) := keeps_dpRead h (by simp [h])

theorem keeps_execMailboxTimeout {g : Guard} {s : State} (h : Kept g s.guarded) (c : Fin 16) (toEnd1 : Bool) :
    Keeps g (execMailboxTimeout c toEnd1 s) := by
  rw [execMailboxTimeout, keeps_next]
  split <;> simp [h]

theorem keeps_execMbxHostUpWrite {g : Guard} {s : State} (h : Kept g s.guarded) (up : Bool) :
    Keeps g (execMbxHostUpWrite up s) := (keeps_next ..).mpr (kept_asRole h fun s hs => by simp [hs])

theorem keeps_execSupervisorMailboxAnswer {g : Guard} {s : State} (h : Kept g s.guarded) :
    Keeps g (execSupervisorMailboxAnswer s) := by
  simp [execSupervisorMailboxAnswer, h]

theorem keeps_execDpTimeRead {g : Guard} {s : State} (h : Kept g s.guarded) : Keeps g (execDpTimeRead s) :=
  keeps_dpRead h (by simp [h])

theorem keeps_execDpProbeCountRead {g : Guard} {s : State} (h : Kept g s.guarded) :
    Keeps g (execDpProbeCountRead s) := keeps_dpRead h (by simp [h])

theorem keeps_execDpWrite {g : Guard} {s : State} (h : Kept g s.guarded) (word : BitVec 24) (data : Word) :
    Keeps g (execDpWrite word data s) := by
  simp [execDpWrite, h]

theorem keeps_execDpEnWrite {g : Guard} {s : State} (h : Kept g s.guarded) (en : Bool) :
    Keeps g (execDpEnWrite en s) := (keeps_next ..).mpr (kept_asRole h fun s hs => by simp [hs])

end Sys2Proof.Machine
end

section
/-! What the commands keep: Cartoons: start, swap and stop (R154 to R163). -/

namespace Sys2Proof.Machine

theorem keeps_execLoad {g : Guard} {s : State} (h : Kept g s.guarded) : Keeps g (execLoad s) :=
  keeps_command h _ _ _ fun s hs => by simp [hs]

theorem keeps_execLoadComplete {g : Guard} {s : State} (h : Kept g s.guarded) (data : Option (List Byte)) :
    Keeps g (execLoadComplete data s) := by
  unfold execLoadComplete
  dsimp only
  (repeat' split) <;> simp [h]

theorem keeps_execStart {g : Guard} {s : State} (h : Kept g s.guarded) (stored : Bool) :
    Keeps g (execStart stored s) := by
  refine keeps_command h 2 1 true fun s hs => ?_
  have hr (code : Nat) : Kept g (s.refuse 2 code).guarded := kept_of_eq (guarded_refuse ..) hs
  refine kept_if (hr _) (kept_if ?_ ?_)
  · split
    · exact kept_startCartoon (kept_of_eq (guarded_logInput ..) hs) ..
    · exact kept_of_eq (guarded_result ..) hs
  · split
    · exact kept_startCartoon hs ..
    · exact hr _

theorem keeps_execStop {g : Guard} {s : State} (h : Kept g s.guarded) : Keeps g (execStop s) :=
  keeps_command h _ _ _ fun s hs => by simp [hs]

theorem keeps_execTestEnter {g : Guard} {s : State} (h : Kept g s.guarded) : Keeps g (execTestEnter s) := by
  refine keeps_command h 8 2 true fun s hs => ?_
  have hr (code : Nat) : Kept g (s.refuse 8 code).guarded := kept_of_eq (guarded_refuse ..) hs
  refine kept_if (hr _) ?_
  split
  · exact kept_startCartoon hs ..
  · exact hr _

theorem keeps_execTestExit {g : Guard} {s : State} (h : Kept g s.guarded) : Keeps g (execTestExit s) :=
  keeps_command h _ _ _ fun s hs => by simp [hs]

theorem keeps_execCartoonStopEffect {g : Guard} {s : State} (h : Kept g s.guarded) :
    Keeps g (execCartoonStopEffect s) := by
  simp [execCartoonStopEffect, h]

theorem keeps_execSwap {g : Guard} {s : State} (h : Kept g s.guarded) : Keeps g (execSwap s) := by
  refine keeps_command h 4 2 true fun s hs => ?_
  have hr (code : Nat) : Kept g (s.refuse 4 code).guarded := kept_of_eq (guarded_refuse ..) hs
  have hv (n : Nat) (v : Verdict) : Kept g (s.result 4 n v).guarded := kept_of_eq (guarded_result ..) hs
  dsimp only
  split
  · refine kept_if (hr _) (kept_if (hv _ _) ?_)
    split
    · exact hv _ _
    · split
      · exact hv _ _
      · split
        · exact hv _ _
        · exact kept_of_eq ((guarded_result ..).trans ((guarded_modDsp ..).trans (guarded_logInput ..))) hs
  · exact hr _

theorem keeps_execCancelSwap {g : Guard} {s : State} (h : Kept g s.guarded) : Keeps g (execCancelSwap s) :=
  keeps_command h _ _ _ fun s hs => by simp [hs]

theorem keeps_execSwapEpoch {g : Guard} {s : State} (h : Kept g s.guarded) : Keeps g (execSwapEpoch s) := by
  refine (keeps_next ..).mpr (kept_if h (kept_if (kept_judgeSwap h) (kept_if ?_ h)))
  split
  · exact kept_finishSwap h ..
  · exact h

theorem keeps_execStartupEnd {g : Guard} {s : State} (h : Kept g s.guarded) : Keeps g (execStartupEnd s) := by
  rw [execStartupEnd, keeps_next]
  split <;> simp [h]

theorem keeps_execStore {g : Guard} {s : State} (h : Kept g s.guarded) : Keeps g (execStore s) :=
  keeps_command h _ _ _ fun s hs => by simp [hs]

theorem keeps_execStoreComplete {g : Guard} {s : State} (h : Kept g s.guarded) (status : BitVec 4) :
    Keeps g (execStoreComplete status s) := by
  rw [execStoreComplete, keeps_next]
  split <;> simp [h]

theorem keeps_execEraseStored {g : Guard} {s : State} (h : Kept g s.guarded) (status : BitVec 4) :
    Keeps g (execEraseStored status s) := keeps_command h _ _ _ fun s hs => by simp [hs]

theorem keeps_execAutoload {g : Guard} {s : State} (h : Kept g s.guarded) : Keeps g (execAutoload s) := by
  unfold execAutoload
  dsimp only
  (repeat' split) <;> simp [h]

end Sys2Proof.Machine
end

section
/-! What the commands keep: resets. -/

namespace Sys2Proof.Machine

theorem keeps_execSkewReset {g : Guard} {s : State} (h : Kept g s.guarded) (p : Fin 4) :
    Keeps g (execSkewReset p s) := by
  simp [execSkewReset, h]

end Sys2Proof.Machine
end

section
/-! What the commands keep: the Portfolio. -/

namespace Sys2Proof.Machine

theorem kept_svcIf {g : Guard} {p : Prop} [Decidable p] {a b : Nat × List Byte × State} (ha : Kept g a.2.2.guarded)
    (hb : Kept g b.2.2.guarded) : Kept g (if p then a else b).2.2.guarded := by
  split
  · exact ha
  · exact hb

theorem kept_svcSession {g : Guard} {s : State} (h : Kept g s.guarded) (r : Nat) {f : State → Nat × List Byte × State}
    (hf : ∀ s, Kept g s.guarded → Kept g (f s).2.2.guarded) : Kept g (s.svcSession r f).2.2.guarded := by
  unfold State.svcSession
  split
  · exact hf _ (kept_of_eq (guarded_svcTouch s) h)
  · exact h

theorem keeps_execSvcRead {g : Guard} {s : State} (h : Kept g s.guarded) : Keeps g (execSvcRead s) := by
  rw [execSvcRead, keeps_next]
  split <;> simp [h]

theorem keeps_execSvcRequestInvalid {g : Guard} {s : State} (h : Kept g s.guarded) (crcBad : Bool) (seq : BitVec 16)
    (type : Byte) : Keeps g (execSvcRequestInvalid crcBad seq type s) := by
  unfold execSvcRequestInvalid
  extract_lets s1
  have h1 : Kept g s1.guarded := kept_if (kept_of_eq (guarded_modPfo ..) h) h
  exact keeps_svcRequest h1 _ _ h1

theorem keeps_execHello {g : Guard} {s : State} (h : Kept g s.guarded) (seq : BitVec 16) :
    Keeps g (execHello seq s) := keeps_svcRequest h _ _ (by simp [h])

theorem keeps_execSessOpen {g : Guard} {s : State} (h : Kept g s.guarded) (seq : BitVec 16) (role : Byte)
    (chal : Vector Byte 32) : Keeps g (execSessOpen seq role chal s) :=
  keeps_svcRequest h _ _ (kept_svcIf h (kept_svcIf h (kept_of_eq (guarded_openSession ..) h)))

theorem keeps_execSessProve {g : Guard} {s : State} (h : Kept g s.guarded) (seq : BitVec 16)
    (response : Vector Byte 32) : Keeps g (execSessProve seq response s) :=
  keeps_svcRequest h _ _ (kept_svcIf h (kept_of_eq (guarded_proveSession ..) h))

theorem keeps_execSessClose {g : Guard} {s : State} (h : Kept g s.guarded) (seq : BitVec 16) :
    Keeps g (execSessClose seq s) := keeps_svcRequest h _ _ (by simp [h])

theorem keeps_execStageBegin {g : Guard} {s : State} (h : Kept g s.guarded) (seq : BitVec 16) (len : BitVec 32)
    (flash : BitVec 4) : Keeps g (execStageBegin seq len flash s) :=
  keeps_svcRequest h _ _ (kept_svcSession h 2 fun _ hs => kept_svcIf hs (kept_svcIf (kept_of_eq (guarded_emit ..) hs)
    (kept_svcIf hs (kept_svcIf (kept_of_eq (guarded_stagingFailed ..) hs) (kept_of_eq (guarded_claim ..) hs)))))

theorem keeps_execStageData {g : Guard} {s : State} (h : Kept g s.guarded) (seq : BitVec 16) (off : BitVec 32)
    (data : List Byte) (flash : BitVec 4) : Keeps g (execStageData seq off data flash s) := by
  refine keeps_svcRequest h _ _ ?_
  extract_lets next p t t1 t2
  have ht : Kept g t.guarded := kept_of_eq (guarded_svcTouch s) h
  have h1 : Kept g t1.guarded := kept_of_eq (guarded_stagingFailed ..) ht
  have h2 : Kept g t2.guarded := kept_of_eq (guarded_modPfo ..) ht
  clear_value next t t1 t2
  exact kept_svcIf h (kept_svcIf h (kept_svcIf ht (kept_svcIf h1 h2)))

theorem keeps_execStageEnd {g : Guard} {s : State} (h : Kept g s.guarded) (seq : BitVec 16) (flash : BitVec 4) :
    Keeps g (execStageEnd seq flash s) := by
  refine keeps_svcRequest h _ _ ?_
  extract_lets t
  have ht : Kept g t.guarded := kept_of_eq (guarded_svcTouch s) h
  clear_value t
  exact kept_svcIf h (kept_svcIf (kept_of_eq (guarded_draw ..) ht) (kept_svcIf ht (kept_svcIf
    (kept_of_eq (guarded_stagingFailed ..) ht) (kept_of_eq (guarded_staged ..) ht))))

theorem keeps_execStageAbort {g : Guard} {s : State} (h : Kept g s.guarded) (seq : BitVec 16) :
    Keeps g (execStageAbort seq s) :=
  keeps_svcRequest h _ _ (kept_svcIf h (kept_of_eq ((guarded_dropStaging ..).trans (guarded_svcTouch s)) h))

theorem keeps_execStagingTimeout {g : Guard} {s : State} (h : Kept g s.guarded) :
    Keeps g (execStagingTimeout s) := by
  simp [execStagingTimeout, h]

/-- The answer is named first, so that its conditions are not evaluated. -/
theorem keeps_svcRequest_of_eq {g : Guard} {s : State} (h : Kept g s.guarded) (type : Nat) (seq : BitVec 16)
    {f : State → Nat × List Byte × State} (hf : ∀ u, f s = u → Kept g u.2.2.guarded) :
    Keeps g (s.svcRequest type seq f) :=
  keeps_svcRequest h _ _ (hf _ rfl)

theorem keeps_execConfirm {g : Guard} {s : State} (h : Kept g s.guarded) (seq : BitVec 16) (flash : BitVec 4) :
    Keeps g (execConfirm seq flash s) := by
  refine keeps_svcRequest_of_eq h _ _ fun u e => ?_
  have ht : Kept g s.svcTouch.guarded := kept_of_eq (guarded_svcTouch s) h
  dsimp only at e
  rw [← e]
  exact kept_svcIf h (kept_svcIf ht (kept_svcIf ht (kept_svcIf ht (kept_of_eq (guarded_confirm ..) ht))))

theorem keeps_execReboot {g : Guard} {s : State} (h : Kept g s.guarded) (seq : BitVec 16) :
    Keeps g (execReboot seq s) := by
  refine (keeps_next ..).mpr (kept_if ?_ (kept_resetDevice h ..))
  split
  · rename_i t e
    exact keeps_svcRequest (f := fun s => (3, [], s)) h _ _ h t e
  · exact h

theorem keeps_execPfoConfirm {g : Guard} {s : State} (h : Kept g s.guarded) (flash : BitVec 4) :
    Keeps g (execPfoConfirm flash s) := keeps_pfoCommand h _ fun s hs => by simp [hs]

theorem keeps_execShare {g : Guard} {s : State} (h : Kept g s.guarded) : Keeps g (execShare s) :=
  keeps_pfoCommand h _ fun s hs => by simp [hs]

theorem keeps_execPfoReboot {g : Guard} {s : State} (h : Kept g s.guarded) : Keeps g (execPfoReboot s) :=
  keeps_pfoCommand h _ fun s hs => by simp [hs]

theorem keeps_execPfoKeyDataWrite {g : Guard} {s : State} (h : Kept g s.guarded) (w : Word) :
    Keeps g (execPfoKeyDataWrite w s) := (keeps_next ..).mpr (kept_bar h fun s hs => by simp [hs])

theorem keeps_execPfoKeyProgram {g : Guard} {s : State} (h : Kept g s.guarded) (slot : Fin 4) :
    Keeps g (execPfoKeyProgram slot s) := by
  unfold execPfoKeyProgram
  dsimp only
  (repeat' split) <;> simp [h]

theorem keeps_execPfoKeyRevoke {g : Guard} {s : State} (h : Kept g s.guarded) (slot : Fin 4) :
    Keeps g (execPfoKeyRevoke slot s) := by
  unfold execPfoKeyRevoke
  dsimp only
  (repeat' split) <;> simp [h]

theorem keeps_execPortfolioExamination {g : Guard} {s : State} (h : Kept g s.guarded) (flash : Option (Fin 8)) :
    Keeps g (execPortfolioExamination flash s) := by
  unfold execPortfolioExamination
  dsimp only
  (repeat' split) <;> simp [h]

theorem keeps_execAttemptsClear {g : Guard} {s : State} (h : Kept g s.guarded) : Keeps g (execAttemptsClear s) := by
  simp [execAttemptsClear, h]

end Sys2Proof.Machine
end

section
/-! What the commands keep: the twin: logs, snapshots and takeovers (R420 to R430). -/

namespace Sys2Proof.Machine

theorem keeps_execEpochBoundary {g : Guard} {s : State} (h : Kept g s.guarded) : Keeps g (execEpochBoundary s) := by
  refine (keeps_next ..).mpr (kept_if h ?_)
  split
  · exact kept_beginEpoch h _
  · exact h

theorem keeps_execOutputPhase {g : Guard} {s : State} (h : Kept g s.guarded) (kind : Fin 3) (index : Nat) :
    Keeps g (execOutputPhase kind index s) := by
  unfold execOutputPhase
  rw [keeps_next]
  split
  · exact kept_if (kept_of_eq ((guarded_trimPhase ..).trans (guarded_trimPhase ..)) h) h
  · split
    · exact kept_of_eq (guarded_releaseDuty ..) h
    · exact h
  · exact h

theorem keeps_execTwinSnapshot {g : Guard} {s : State} (h : Kept g s.guarded) : Keeps g (execTwinSnapshot s) := by
  refine (keeps_next ..).mpr (kept_if ?_ h)
  rw [guarded_modTwin, guarded_put]
  split
  · exact kept_if h (kept_of_eq (guarded_put ..) h)
  · exact h

/-- What a snapshot brings keeps to the invariant (R428). -/
theorem keeps_execTransferMsg {g : Guard} {s : State} (h : Kept g s.guarded) (p : TransferPart)
    (hp : g.fit → bringsFit (.transferMsg p)) : Keeps g (execTransferMsg p s) := by
  refine (keeps_next ..).mpr (kept_if h ?_)
  cases p with
  | image c => exact kept_if (kept_of_eq (guarded_modTwin ..) h) h
  | snapshot e x => exact kept_if (kept_loadSnapshot h e hp) h
  | portfolio b => exact kept_of_eq (guarded_modPfo ..) h
  | outcome st => exact kept_of_eq (guarded_takeOutcome ..) h

theorem keeps_execTransferTimeout {g : Guard} {s : State} (h : Kept g s.guarded) (cause : Fin 10) :
    Keeps g (execTransferTimeout cause s) := by
  simp [execTransferTimeout, h]

theorem keeps_execTransferRetry {g : Guard} {s : State} (h : Kept g s.guarded) : Keeps g (execTransferRetry s) := by
  rw [execTransferRetry, keeps_next]
  split <;> simp [h]

theorem keeps_execTwinCaughtUp {g : Guard} {s : State} (h : Kept g s.guarded) : Keeps g (execTwinCaughtUp s) := by
  rw [execTwinCaughtUp, keeps_next]
  split <;> simp [h]

theorem keeps_execLogMsg {g : Guard} {s : State} (h : Kept g s.guarded) (e : Nat) (x : LogEntry) :
    Keeps g (execLogMsg e x s) := by
  simp [execLogMsg, h]

theorem keeps_execLogCloseMsg {g : Guard} {s : State} (h : Kept g s.guarded) (e : Nat) :
    Keeps g (execLogCloseMsg e s) := by
  simp [execLogCloseMsg, h]

theorem keeps_execLogAckMsg {g : Guard} {s : State} (h : Kept g s.guarded) (e : Nat) :
    Keeps g (execLogAckMsg e s) := by
  simp [execLogAckMsg, h]

theorem keeps_execLogAckTimeout {g : Guard} {s : State} (h : Kept g s.guarded) : Keeps g (execLogAckTimeout s) := by
  simp [execLogAckTimeout, h]

theorem keeps_execLogCloseTimeout {g : Guard} {s : State} (h : Kept g s.guarded) :
    Keeps g (execLogCloseTimeout s) := by
  simp [execLogCloseTimeout, h]

theorem keeps_execDigestSend {g : Guard} {s : State} (h : Kept g s.guarded) : Keeps g (execDigestSend s) := by
  rw [execDigestSend, keeps_next]
  split <;> simp [h]

theorem keeps_execDigestMsg {g : Guard} {s : State} (h : Kept g s.guarded) (e d : Nat) :
    Keeps g (execDigestMsg e d s) := by
  simp [execDigestMsg, h]

theorem keeps_execDigestTimeout {g : Guard} {s : State} (h : Kept g s.guarded) : Keeps g (execDigestTimeout s) := by
  rw [execDigestTimeout, keeps_next]
  split <;> simp [h]

theorem keeps_execStateMsg {g : Guard} {s : State} (h : Kept g s.guarded) (st : TwinState) (seatB : Bool)
    (inc : BitVec 16) (run : BitVec 64) : Keeps g (execStateMsg st seatB inc run s) := by
  unfold execStateMsg
  dsimp only
  (repeat' split) <;> simp [h]

theorem keeps_execResignMsg {g : Guard} {s : State} (h : Kept g s.guarded) : Keeps g (execResignMsg s) := by
  have hi : Kept g s.isolate.guarded := kept_of_eq (guarded_isolate s) h
  refine (keeps_next ..).mpr (kept_if h ?_)
  split
  · exact kept_if hi (kept_of_eq (guarded_takeover ..) h)
  · exact hi
  · exact h

theorem keeps_execResetMsg {g : Guard} {s : State} (h : Kept g s.guarded) : Keeps g (execResetMsg s) := by
  simp [execResetMsg, h]

theorem keeps_execTwinLinkUp {g : Guard} {s : State} (h : Kept g s.guarded) : Keeps g (execTwinLinkUp s) := by
  simp [execTwinLinkUp, h]

theorem keeps_execTwinLinkDown {g : Guard} {s : State} (h : Kept g s.guarded) : Keeps g (execTwinLinkDown s) := by
  unfold execTwinLinkDown
  dsimp only
  (repeat' split) <;> simp [h]

theorem keeps_execTwinLaneLost {g : Guard} {s : State} (h : Kept g s.guarded) : Keeps g (execTwinLaneLost s) := by
  simp [execTwinLaneLost, h]

theorem keeps_execHeartbeatPresent {g : Guard} {s : State} (h : Kept g s.guarded) :
    Keeps g (execHeartbeatPresent s) := by
  simp [execHeartbeatPresent, h]

theorem keeps_execHeartbeatLost {g : Guard} {s : State} (h : Kept g s.guarded) : Keeps g (execHeartbeatLost s) := by
  simp [execHeartbeatLost, h]

theorem keeps_execListenExpiry {g : Guard} {s : State} (h : Kept g s.guarded) (heard : Bool) :
    Keeps g (execListenExpiry heard s) := by
  simp [execListenExpiry, h]

theorem keeps_execHeartbeatService {g : Guard} {s : State} (h : Kept g s.guarded) :
    Keeps g (execHeartbeatService s) := by
  simp [execHeartbeatService, h]

theorem keeps_execHeartbeatOutStopped {g : Guard} {s : State} (h : Kept g s.guarded) :
    Keeps g (execHeartbeatOutStopped s) := by
  rw [execHeartbeatOutStopped, keeps_next]
  split <;> simp [h]

theorem keeps_execSwitch {g : Guard} {s : State} (h : Kept g s.guarded) : Keeps g (execSwitch s) := by
  refine (keeps_next ..).mpr (kept_bar h fun s hs => kept_if (kept_of_eq (guarded_twinRefuse s) hs) ?_)
  have ht : Kept g s.touch.guarded := kept_of_eq (guarded_touch s) hs
  dsimp only
  split
  · exact kept_if (kept_of_eq (guarded_modTwin ..) ht) (kept_of_eq (guarded_twinRefuse ..) ht)
  · exact kept_of_eq (guarded_twinRefuse ..) ht

theorem keeps_execSwitchover {g : Guard} {s : State} (h : Kept g s.guarded) : Keeps g (execSwitchover s) := by
  rw [execSwitchover, keeps_next]
  split <;> simp [h]

theorem keeps_execResync {g : Guard} {s : State} (h : Kept g s.guarded) : Keeps g (execResync s) :=
  (keeps_next ..).mpr (kept_bar h fun s hs => by simp [hs])

theorem keeps_execIsolate {g : Guard} {s : State} (h : Kept g s.guarded) : Keeps g (execIsolate s) :=
  (keeps_next ..).mpr (kept_bar h fun s hs => by simp [hs])

theorem keeps_execFaultedTimeout {g : Guard} {s : State} (h : Kept g s.guarded) :
    Keeps g (execFaultedTimeout s) := by
  simp [execFaultedTimeout, h]

theorem keeps_execStandbyHealthReport {g : Guard} {s : State} (h : Kept g s.guarded) (o : HealthObs) :
    Keeps g (execStandbyHealthReport o s) := by
  simp [execStandbyHealthReport, h]

theorem keeps_execHealthMsg {g : Guard} {s : State} (h : Kept g s.guarded) (x : Health) :
    Keeps g (execHealthMsg x s) :=
  (keeps_next ..).mpr (kept_if (kept_of_eq (guarded_takeHealth ..) h) h)

theorem keeps_execStopRelay {g : Guard} {s : State} (h : Kept g s.guarded) (x : Stop) (subsumed : Bool)
    (b : Option Burst) : Keeps g (execStopRelay x subsumed b s) := by
  refine (keeps_next ..).mpr (kept_if h (kept_if (kept_raiseStop h ..) (kept_if h (kept_if ?_ (kept_if h ?_)))))
  · split
    · exact kept_of_eq (guarded_startBurst ..) h
    · exact h
  · exact kept_stopEffects (kept_of_eq ((guarded_emit ..).trans (guarded_modFleet ..)) h) x

theorem keeps_execReleaseRelay {g : Guard} {s : State} (h : Kept g s.guarded) (seq : BitVec 16) (role : Fin 6) :
    Keeps g (execReleaseRelay seq role s) := by
  rw [execReleaseRelay, keeps_next]
  split <;> simp [h]

theorem keeps_execLedgerMsg {g : Guard} {s : State} (h : Kept g s.guarded) (slot allow : Nat) :
    Keeps g (execLedgerMsg slot allow s) := by
  simp [execLedgerMsg, h]

theorem keeps_execForwardMsg {g : Guard} {s : State} (h : Kept g s.guarded) (x : Heard) :
    Keeps g (execForwardMsg x s) :=
  (keeps_next ..).mpr (kept_if (kept_of_eq (guarded_takeForward ..) h) h)

theorem keeps_execTimeMsg {g : Guard} {s : State} (h : Kept g s.guarded) (t1 t3 t4 : Nat) (st : Fin 4)
    (u : BitVec 24) (rate : Int) : Keeps g (execTimeMsg t1 t3 t4 st u rate s) := by
  simp [execTimeMsg, h]

end Sys2Proof.Machine
end

section
/-! What the commands keep: power states. -/

namespace Sys2Proof.Machine

theorem keeps_execPwrReqRun {g : Guard} {s : State} (h : Kept g s.guarded) : Keeps g (execPwrReqRun s) := by
  simp [execPwrReqRun, h]

theorem keeps_execPwrReqQuiet {g : Guard} {s : State} (h : Kept g s.guarded) : Keeps g (execPwrReqQuiet s) := by
  simp [execPwrReqQuiet, h]

theorem keeps_execPwrReqSleep {g : Guard} {s : State} (h : Kept g s.guarded) : Keeps g (execPwrReqSleep s) := by
  simp [execPwrReqSleep, h]

theorem keeps_execPwrReqDeep {g : Guard} {s : State} (h : Kept g s.guarded) : Keeps g (execPwrReqDeep s) := by
  simp [execPwrReqDeep, h]

theorem keeps_execPwrReqInvalid {g : Guard} {s : State} (h : Kept g s.guarded) (v : Fin 4) :
    Keeps g (execPwrReqInvalid v s) := by
  simp [execPwrReqInvalid, h]

theorem keeps_execPwrSoft {g : Guard} {s : State} (h : Kept g s.guarded) : Keeps g (execPwrSoft s) := by
  simp [execPwrSoft, h]

theorem keeps_execQuietEntry {g : Guard} {s : State} (h : Kept g s.guarded) : Keeps g (execQuietEntry s) := by
  rw [execQuietEntry, keeps_next]
  split <;> simp [h]

theorem keeps_execQuietExit {g : Guard} {s : State} (h : Kept g s.guarded) : Keeps g (execQuietExit s) := by
  rw [execQuietExit, keeps_next]
  split <;> simp [h]

theorem keeps_execSleepEntry {g : Guard} {s : State} (h : Kept g s.guarded) : Keeps g (execSleepEntry s) := by
  rw [execSleepEntry, keeps_next]
  split <;> simp [h]

theorem keeps_execSleepWake {g : Guard} {s : State} (h : Kept g s.guarded) : Keeps g (execSleepWake s) := by
  unfold execSleepWake
  dsimp only
  (repeat' split) <;> simp [h]

theorem keeps_execDeepEntry {g : Guard} {s : State} (h : Kept g s.guarded) : Keeps g (execDeepEntry s) := by
  rw [execDeepEntry, keeps_next]
  split <;> simp [h]

theorem keeps_execDeepWake {g : Guard} {s : State} (h : Kept g s.guarded) (resetN : Bool) :
    Keeps g (execDeepWake resetN s) := by
  simp [execDeepWake, h]

theorem keeps_execSupplyDipStart {g : Guard} {s : State} (h : Kept g s.guarded) :
    Keeps g (execSupplyDipStart s) := by
  simp [execSupplyDipStart, h]

theorem keeps_execSupplyDipEnd {g : Guard} {s : State} (h : Kept g s.guarded) : Keeps g (execSupplyDipEnd s) := by
  simp [execSupplyDipEnd, h]

theorem keeps_execCmp1Trip {g : Guard} {s : State} (h : Kept g s.guarded) : Keeps g (execCmp1Trip s) := by
  simp [execCmp1Trip, h]

theorem keeps_execTamper {g : Guard} {s : State} (h : Kept g s.guarded) : Keeps g (execTamper s) := by
  simp [execTamper, h]

theorem keeps_execTamperCleared {g : Guard} {s : State} (h : Kept g s.guarded) : Keeps g (execTamperCleared s) := by
  simp [execTamperCleared, h]

theorem keeps_execResetNLow {g : Guard} {s : State} (h : Kept g s.guarded) : Keeps g (execResetNLow s) := by
  simp [execResetNLow, h]

theorem keeps_execWatchdogExpiry {g : Guard} {s : State} (h : Kept g s.guarded) :
    Keeps g (execWatchdogExpiry s) := by
  simp [execWatchdogExpiry, h]

theorem keeps_execWatchdogService {g : Guard} {s : State} (h : Kept g s.guarded) :
    Keeps g (execWatchdogService s) := by
  simp [execWatchdogService, h]

theorem keeps_execCi1PowerRegained {g : Guard} {s : State} (h : Kept g s.guarded) :
    Keeps g (execCi1PowerRegained s) := by
  simp [execCi1PowerRegained, h]

theorem keeps_execReferenceAccepted {g : Guard} {s : State} (h : Kept g s.guarded) :
    Keeps g (execReferenceAccepted s) := by
  simp [execReferenceAccepted, h]

theorem keeps_execReferenceLost {g : Guard} {s : State} (h : Kept g s.guarded) : Keeps g (execReferenceLost s) := by
  simp [execReferenceLost, h]

theorem keeps_execPwrCmpCfgWrite {g : Guard} {s : State} (h : Kept g s.guarded) (w : Word) :
    Keeps g (execPwrCmpCfgWrite w s) := by
  simp [execPwrCmpCfgWrite, h]

theorem keeps_execPcieReset {g : Guard} {s : State} (h : Kept g s.guarded) (kind : PcieReset) :
    Keeps g (execPcieReset kind s) := by
  unfold execPcieReset
  dsimp only
  (repeat' split) <;> simp [h]

theorem keeps_execPcieLinkReturn {g : Guard} {s : State} (h : Kept g s.guarded) (speed width : Nat)
    (busMaster : Bool) : Keeps g (execPcieLinkReturn speed width busMaster s) := by
  simp [execPcieLinkReturn, h]

end Sys2Proof.Machine
end

section
/-! What the commands keep: loads, stores and the debug window (R95, R109 to R122). -/

namespace Sys2Proof.Machine

section
variable {g : Guard} {s : State} (h : Kept g s.guarded)
include h

/-- A load: its data register is written, and its corrected words are counted. -/
theorem keeps_load (e : At) (i : EInstr) {x : EAct} {f : Bank → Bank × State}
    (ha : ∀ b, x.act s b = some (f b)) (hs : ∀ b, (f b).2.guarded = s.guarded)
    (hb : ∀ b, (f b).1.stacks = b.stacks) (haf : x.after = id) : Keeps g (.next (s.runOn e i x)) := by
  refine keeps_runOn h e i (fun b b' t eq => ?_) fun _ hs => haf ▸ hs
  rw [ha, Option.some.injEq] at eq
  exact ⟨kept_of_eq (by rw [← hs b, eq]) h, by rw [← hb b, eq]⟩

/-- A store: the memory takes its bytes. -/
theorem keeps_store (e : At) (i : EInstr) {x : EAct} {f : Bank → Bank} {m : Bank → State}
    (ha : ∀ b, x.act s b = some (f b, m b)) (hs : ∀ b, Kept g (m b).guarded)
    (hb : ∀ b, (f b).stacks = b.stacks) (haf : x.after = id) : Keeps g (.next (s.runOn e i x)) := by
  refine keeps_runOn h e i (fun b b' t eq => ?_) fun _ hs => haf ▸ hs
  rw [ha, Option.some.injEq, Prod.mk.injEq] at eq
  obtain ⟨rfl, rfl⟩ := eq
  exact ⟨hs b, hb b⟩

end

theorem keeps_execAdd {g : Guard} {s : State} (h : Kept g s.guarded) (e : At) (d a b : GReg) :
    Keeps g (execAdd e d a b s) := keeps_runLocal h _ _ fun b => by simp

theorem keeps_execSub {g : Guard} {s : State} (h : Kept g s.guarded) (e : At) (d a b : GReg) :
    Keeps g (execSub e d a b s) := keeps_runLocal h _ _ fun b => by simp

theorem keeps_execAnd {g : Guard} {s : State} (h : Kept g s.guarded) (e : At) (d a b : GReg) :
    Keeps g (execAnd e d a b s) := keeps_runLocal h _ _ fun b => by simp

theorem keeps_execOr {g : Guard} {s : State} (h : Kept g s.guarded) (e : At) (d a b : GReg) :
    Keeps g (execOr e d a b s) := keeps_runLocal h _ _ fun b => by simp

theorem keeps_execXor {g : Guard} {s : State} (h : Kept g s.guarded) (e : At) (d a b : GReg) :
    Keeps g (execXor e d a b s) := keeps_runLocal h _ _ fun b => by simp

theorem keeps_execSll {g : Guard} {s : State} (h : Kept g s.guarded) (e : At) (d a b : GReg) :
    Keeps g (execSll e d a b s) := keeps_runLocal h _ _ fun b => by simp

theorem keeps_execSrl {g : Guard} {s : State} (h : Kept g s.guarded) (e : At) (d a b : GReg) :
    Keeps g (execSrl e d a b s) := keeps_runLocal h _ _ fun b => by simp

theorem keeps_execSra {g : Guard} {s : State} (h : Kept g s.guarded) (e : At) (d a b : GReg) :
    Keeps g (execSra e d a b s) := keeps_runLocal h _ _ fun b => by simp

theorem keeps_execSlt {g : Guard} {s : State} (h : Kept g s.guarded) (e : At) (d a b : GReg) :
    Keeps g (execSlt e d a b s) := keeps_runLocal h _ _ fun b => by simp

theorem keeps_execSltu {g : Guard} {s : State} (h : Kept g s.guarded) (e : At) (d a b : GReg) :
    Keeps g (execSltu e d a b s) := keeps_runLocal h _ _ fun b => by simp

theorem keeps_execMin {g : Guard} {s : State} (h : Kept g s.guarded) (e : At) (d a b : GReg) :
    Keeps g (execMin e d a b s) := keeps_runLocal h _ _ fun b => by simp

theorem keeps_execMax {g : Guard} {s : State} (h : Kept g s.guarded) (e : At) (d a b : GReg) :
    Keeps g (execMax e d a b s) := keeps_runLocal h _ _ fun b => by simp

theorem keeps_execAdds {g : Guard} {s : State} (h : Kept g s.guarded) (e : At) (d a b : GReg) :
    Keeps g (execAdds e d a b s) := keeps_runLocal h _ _ fun b => by simp

theorem keeps_execSubs {g : Guard} {s : State} (h : Kept g s.guarded) (e : At) (d a b : GReg) :
    Keeps g (execSubs e d a b s) := keeps_runLocal h _ _ fun b => by simp

theorem keeps_execClz {g : Guard} {s : State} (h : Kept g s.guarded) (e : At) (d a : GReg) :
    Keeps g (execClz e d a s) := keeps_runLocal h _ _ fun b => by simp

theorem keeps_execAddi {g : Guard} {s : State} (h : Kept g s.guarded) (e : At) (d a : GReg) (imm : BitVec 16) :
    Keeps g (execAddi e d a imm s) := keeps_runLocal h _ _ fun b => by simp

theorem keeps_execAndi {g : Guard} {s : State} (h : Kept g s.guarded) (e : At) (d a : GReg) (imm : BitVec 16) :
    Keeps g (execAndi e d a imm s) := keeps_runLocal h _ _ fun b => by simp

theorem keeps_execOri {g : Guard} {s : State} (h : Kept g s.guarded) (e : At) (d a : GReg) (imm : BitVec 16) :
    Keeps g (execOri e d a imm s) := keeps_runLocal h _ _ fun b => by simp

theorem keeps_execXori {g : Guard} {s : State} (h : Kept g s.guarded) (e : At) (d a : GReg) (imm : BitVec 16) :
    Keeps g (execXori e d a imm s) := keeps_runLocal h _ _ fun b => by simp

theorem keeps_execSlti {g : Guard} {s : State} (h : Kept g s.guarded) (e : At) (d a : GReg) (imm : BitVec 16) :
    Keeps g (execSlti e d a imm s) := keeps_runLocal h _ _ fun b => by simp

theorem keeps_execSltiu {g : Guard} {s : State} (h : Kept g s.guarded) (e : At) (d a : GReg) (imm : BitVec 16) :
    Keeps g (execSltiu e d a imm s) := keeps_runLocal h _ _ fun b => by simp

theorem keeps_execLi {g : Guard} {s : State} (h : Kept g s.guarded) (e : At) (d : GReg) (imm : BitVec 16) :
    Keeps g (execLi e d imm s) := keeps_runLocal h _ _ fun b => by simp

theorem keeps_execLui {g : Guard} {s : State} (h : Kept g s.guarded) (e : At) (d : GReg) (imm : BitVec 16) :
    Keeps g (execLui e d imm s) := keeps_runLocal h _ _ fun b => by simp

theorem keeps_execSlli {g : Guard} {s : State} (h : Kept g s.guarded) (e : At) (d a : GReg) (n : Fin 32) :
    Keeps g (execSlli e d a n s) := keeps_runLocal h _ _ fun b => by simp

theorem keeps_execSrli {g : Guard} {s : State} (h : Kept g s.guarded) (e : At) (d a : GReg) (n : Fin 32) :
    Keeps g (execSrli e d a n s) := keeps_runLocal h _ _ fun b => by simp

theorem keeps_execSrai {g : Guard} {s : State} (h : Kept g s.guarded) (e : At) (d a : GReg) (n : Fin 32) :
    Keeps g (execSrai e d a n s) := keeps_runLocal h _ _ fun b => by simp

theorem keeps_execExt {g : Guard} {s : State} (h : Kept g s.guarded) (e : At) (d a : GReg) (pos len1 : Fin 32) :
    Keeps g (execExt e d a pos len1 s) := keeps_runLocal h _ _ fun b => by simp

theorem keeps_execExts {g : Guard} {s : State} (h : Kept g s.guarded) (e : At) (d a : GReg) (pos len1 : Fin 32) :
    Keeps g (execExts e d a pos len1 s) := keeps_runLocal h _ _ fun b => by simp

theorem keeps_execIns {g : Guard} {s : State} (h : Kept g s.guarded) (e : At) (d a : GReg) (pos len1 : Fin 32) :
    Keeps g (execIns e d a pos len1 s) := keeps_runLocal h _ _ fun b => by simp

theorem keeps_execMul {g : Guard} {s : State} (h : Kept g s.guarded) (e : At) (d a b : GReg) :
    Keeps g (execMul e d a b s) := keeps_runLocal h _ _ fun b => by simp

theorem keeps_execMulh {g : Guard} {s : State} (h : Kept g s.guarded) (e : At) (d a b : GReg) :
    Keeps g (execMulh e d a b s) := keeps_runLocal h _ _ fun b => by simp

theorem keeps_execMulhu {g : Guard} {s : State} (h : Kept g s.guarded) (e : At) (d a b : GReg) :
    Keeps g (execMulhu e d a b s) := keeps_runLocal h _ _ fun b => by simp

theorem keeps_execDiv {g : Guard} {s : State} (h : Kept g s.guarded) (e : At) (d a b : GReg) :
    Keeps g (execDiv e d a b s) := keeps_runLocal h _ _ fun b => by simp

theorem keeps_execDivu {g : Guard} {s : State} (h : Kept g s.guarded) (e : At) (d a b : GReg) :
    Keeps g (execDivu e d a b s) := keeps_runLocal h _ _ fun b => by simp

theorem keeps_execRem {g : Guard} {s : State} (h : Kept g s.guarded) (e : At) (d a b : GReg) :
    Keeps g (execRem e d a b s) := keeps_runLocal h _ _ fun b => by simp

theorem keeps_execRemu {g : Guard} {s : State} (h : Kept g s.guarded) (e : At) (d a b : GReg) :
    Keeps g (execRemu e d a b s) := keeps_runLocal h _ _ fun b => by simp

theorem keeps_execLd {g : Guard} {s : State} (h : Kept g s.guarded) (e : At) (m : Ecc) (t a : GReg) (post : Bool)
    (off : BitVec 15) : Keeps g (execLd e m t a post off s) :=
  keeps_load h e _ (fun _ => rfl) (fun _ => guarded_scratchLoad ..) (fun _ => by simp) rfl

theorem keeps_execSt {g : Guard} {s : State} (h : Kept g s.guarded) (e : At) (m : Ecc) (t a : GReg) (post : Bool)
    (off : BitVec 15) : Keeps g (execSt e m t a post off s) :=
  keeps_store h e _ (fun _ => rfl) (fun _ => kept_scratchStore h ..) (fun _ => stacks_accessed ..) rfl

theorem keeps_execVld {g : Guard} {s : State} (h : Kept g s.guarded) (e : At) (m : Vector Ecc 8) (v : VReg) (a : GReg)
    (post : Bool) (off : BitVec 15) : Keeps g (execVld e m v a post off s) :=
  keeps_load h e _ (fun _ => rfl) (fun _ => guarded_scratchLoad ..) (fun _ => by simp) rfl

theorem keeps_execVst {g : Guard} {s : State} (h : Kept g s.guarded) (e : At) (m : Ecc) (v : VReg) (a : GReg)
    (post : Bool) (off : BitVec 15) : Keeps g (execVst e m v a post off s) :=
  keeps_store h e _ (fun _ => rfl) (fun _ => kept_scratchStore h ..) (fun _ => stacks_accessed ..) rfl

theorem keeps_execLda {g : Guard} {s : State} (h : Kept g s.guarded) (e : At) (m : Ecc) (t a : GReg) (post : Bool)
    (off : BitVec 15) : Keeps g (execLda e m t a post off s) :=
  keeps_load h e _ (fun _ => rfl) (fun _ => guarded_atelierLoad ..) (fun _ => by simp) rfl

theorem keeps_execSta {g : Guard} {s : State} (h : Kept g s.guarded) (e : At) (m : Ecc) (t a : GReg) (post : Bool)
    (off : BitVec 15) : Keeps g (execSta e m t a post off s) :=
  keeps_store h e _ (fun _ => rfl) (fun _ => kept_atelierStore h ..) (fun _ => stacks_accessed ..) rfl

theorem keeps_execVlda {g : Guard} {s : State} (h : Kept g s.guarded) (e : At) (m : Vector Ecc 8) (v : VReg)
    (a : GReg) (post : Bool) (off : BitVec 15) : Keeps g (execVlda e m v a post off s) :=
  keeps_load h e _ (fun _ => rfl) (fun _ => guarded_atelierLoad ..) (fun _ => by simp) rfl

theorem keeps_execVsta {g : Guard} {s : State} (h : Kept g s.guarded) (e : At) (m : Ecc) (v : VReg) (a : GReg)
    (post : Bool) (off : BitVec 15) : Keeps g (execVsta e m v a post off s) :=
  keeps_store h e _ (fun _ => rfl) (fun _ => kept_atelierStore h ..) (fun _ => stacks_accessed ..) rfl

theorem keeps_execVadd {g : Guard} {s : State} (h : Kept g s.guarded) (e : At) (vd va vb : VReg) :
    Keeps g (execVadd e vd va vb s) := keeps_runLocal h _ _ fun b => by simp

theorem keeps_execVsub {g : Guard} {s : State} (h : Kept g s.guarded) (e : At) (vd va vb : VReg) :
    Keeps g (execVsub e vd va vb s) := keeps_runLocal h _ _ fun b => by simp

theorem keeps_execVand {g : Guard} {s : State} (h : Kept g s.guarded) (e : At) (vd va vb : VReg) :
    Keeps g (execVand e vd va vb s) := keeps_runLocal h _ _ fun b => by simp

theorem keeps_execVor {g : Guard} {s : State} (h : Kept g s.guarded) (e : At) (vd va vb : VReg) :
    Keeps g (execVor e vd va vb s) := keeps_runLocal h _ _ fun b => by simp

theorem keeps_execVxor {g : Guard} {s : State} (h : Kept g s.guarded) (e : At) (vd va vb : VReg) :
    Keeps g (execVxor e vd va vb s) := keeps_runLocal h _ _ fun b => by simp

theorem keeps_execVadds {g : Guard} {s : State} (h : Kept g s.guarded) (e : At) (vd va vb : VReg) :
    Keeps g (execVadds e vd va vb s) := keeps_runLocal h _ _ fun b => by simp

theorem keeps_execVsubs {g : Guard} {s : State} (h : Kept g s.guarded) (e : At) (vd va vb : VReg) :
    Keeps g (execVsubs e vd va vb s) := keeps_runLocal h _ _ fun b => by simp

theorem keeps_execVmin {g : Guard} {s : State} (h : Kept g s.guarded) (e : At) (vd va vb : VReg) :
    Keeps g (execVmin e vd va vb s) := keeps_runLocal h _ _ fun b => by simp

theorem keeps_execVmax {g : Guard} {s : State} (h : Kept g s.guarded) (e : At) (vd va vb : VReg) :
    Keeps g (execVmax e vd va vb s) := keeps_runLocal h _ _ fun b => by simp

theorem keeps_execVceq {g : Guard} {s : State} (h : Kept g s.guarded) (e : At) (vd va vb : VReg) :
    Keeps g (execVceq e vd va vb s) := keeps_runLocal h _ _ fun b => by simp

theorem keeps_execVclt {g : Guard} {s : State} (h : Kept g s.guarded) (e : At) (vd va vb : VReg) :
    Keeps g (execVclt e vd va vb s) := keeps_runLocal h _ _ fun b => by simp

theorem keeps_execVcltu {g : Guard} {s : State} (h : Kept g s.guarded) (e : At) (vd va vb : VReg) :
    Keeps g (execVcltu e vd va vb s) := keeps_runLocal h _ _ fun b => by simp

theorem keeps_execVsel {g : Guard} {s : State} (h : Kept g s.guarded) (e : At) (vd va vb vc : VReg) :
    Keeps g (execVsel e vd va vb vc s) := keeps_runLocal h _ _ fun b => by simp

theorem keeps_execVabs {g : Guard} {s : State} (h : Kept g s.guarded) (e : At) (vd va : VReg) :
    Keeps g (execVabs e vd va s) := keeps_runLocal h _ _ fun b => by simp

theorem keeps_execVslli {g : Guard} {s : State} (h : Kept g s.guarded) (e : At) (vd va : VReg) (n : Fin 32) :
    Keeps g (execVslli e vd va n s) := keeps_runLocal h _ _ fun b => by simp

theorem keeps_execVsrli {g : Guard} {s : State} (h : Kept g s.guarded) (e : At) (vd va : VReg) (n : Fin 32) :
    Keeps g (execVsrli e vd va n s) := keeps_runLocal h _ _ fun b => by simp

theorem keeps_execVsrai {g : Guard} {s : State} (h : Kept g s.guarded) (e : At) (vd va : VReg) (n : Fin 32) :
    Keeps g (execVsrai e vd va n s) := keeps_runLocal h _ _ fun b => by simp

theorem keeps_execVbcast {g : Guard} {s : State} (h : Kept g s.guarded) (e : At) (v : VReg) (r : GReg) :
    Keeps g (execVbcast e v r s) := keeps_runLocal h _ _ fun b => by simp

theorem keeps_execVext {g : Guard} {s : State} (h : Kept g s.guarded) (e : At) (r : GReg) (v : VReg) (lane : Fin 8)
    : Keeps g (execVext e r v lane s) := keeps_runLocal h _ _ fun b => by simp

theorem keeps_execVins {g : Guard} {s : State} (h : Kept g s.guarded) (e : At) (v : VReg) (r : GReg) (lane : Fin 8)
    : Keeps g (execVins e v r lane s) := keeps_runLocal h _ _ fun b => by simp

theorem keeps_execVmul {g : Guard} {s : State} (h : Kept g s.guarded) (e : At) (vd va vb : VReg) :
    Keeps g (execVmul e vd va vb s) := keeps_runLocal h _ _ fun b => by simp

theorem keeps_execVmulh {g : Guard} {s : State} (h : Kept g s.guarded) (e : At) (vd va vb : VReg) :
    Keeps g (execVmulh e vd va vb s) := keeps_runLocal h _ _ fun b => by simp

theorem keeps_execVmac {g : Guard} {s : State} (h : Kept g s.guarded) (e : At) (acc : AReg) (va vb : VReg) :
    Keeps g (execVmac e acc va vb s) := keeps_runLocal h _ _ fun b => by simp

theorem keeps_execVmsu {g : Guard} {s : State} (h : Kept g s.guarded) (e : At) (acc : AReg) (va vb : VReg) :
    Keeps g (execVmsu e acc va vb s) := keeps_runLocal h _ _ fun b => by simp

theorem keeps_execAmov {g : Guard} {s : State} (h : Kept g s.guarded) (e : At) (v : VReg) (acc : AReg) (sh : Fin 64)
    : Keeps g (execAmov e v acc sh s) := keeps_runLocal h _ _ fun b => by simp

theorem keeps_execAmovr {g : Guard} {s : State} (h : Kept g s.guarded) (e : At) (v : VReg) (acc : AReg)
    (sh : Fin 64) : Keeps g (execAmovr e v acc sh s) := keeps_runLocal h _ _ fun b => by simp

theorem keeps_execAmovl {g : Guard} {s : State} (h : Kept g s.guarded) (e : At) (v : VReg) (acc : AReg) :
    Keeps g (execAmovl e v acc s) := keeps_runLocal h _ _ fun b => by simp

theorem keeps_execAmovh {g : Guard} {s : State} (h : Kept g s.guarded) (e : At) (v : VReg) (acc : AReg) :
    Keeps g (execAmovh e v acc s) := keeps_runLocal h _ _ fun b => by simp

theorem keeps_execAclr {g : Guard} {s : State} (h : Kept g s.guarded) (e : At) (acc : AReg) :
    Keeps g (execAclr e acc s) := keeps_runLocal h _ _ fun b => by simp

theorem keeps_execAld {g : Guard} {s : State} (h : Kept g s.guarded) (e : At) (acc : AReg) (v : VReg) (sh : Fin 32)
    : Keeps g (execAld e acc v sh s) := keeps_runLocal h _ _ fun b => by simp

theorem keeps_execBeq {g : Guard} {s : State} (h : Kept g s.guarded) (e : At) (a b : GReg) (off : BitVec 14) :
    Keeps g (execBeq e a b off s) := keeps_runBranch h _ _ _ _ _

theorem keeps_execBne {g : Guard} {s : State} (h : Kept g s.guarded) (e : At) (a b : GReg) (off : BitVec 14) :
    Keeps g (execBne e a b off s) := keeps_runBranch h _ _ _ _ _

theorem keeps_execBlt {g : Guard} {s : State} (h : Kept g s.guarded) (e : At) (a b : GReg) (off : BitVec 14) :
    Keeps g (execBlt e a b off s) := keeps_runBranch h _ _ _ _ _

theorem keeps_execBge {g : Guard} {s : State} (h : Kept g s.guarded) (e : At) (a b : GReg) (off : BitVec 14) :
    Keeps g (execBge e a b off s) := keeps_runBranch h _ _ _ _ _

theorem keeps_execBltu {g : Guard} {s : State} (h : Kept g s.guarded) (e : At) (a b : GReg) (off : BitVec 14) :
    Keeps g (execBltu e a b off s) := keeps_runBranch h _ _ _ _ _

theorem keeps_execBgeu {g : Guard} {s : State} (h : Kept g s.guarded) (e : At) (a b : GReg) (off : BitVec 14) :
    Keeps g (execBgeu e a b off s) := keeps_runBranch h _ _ _ _ _

theorem keeps_execJmp {g : Guard} {s : State} (h : Kept g s.guarded) (e : At) (off : BitVec 14) :
    Keeps g (execJmp e off s) :=
  (keeps_next ..).mpr (kept_runOn h e _ (keeps_act h rfl (fun _ hb => jumpTo_fits hb _) fun _ hs => hs))

/-- A ninth call faults, so that eight returns at most are kept (R81). -/
theorem keeps_execCall {g : Guard} {s : State} (h : Kept g s.guarded) (e : At) (target : BitVec 14) :
    Keeps g (execCall e target s) := by
  refine (keeps_next ..).mpr (kept_runOn h e _ (keeps_act h rfl (fun hf hb => ⟨?_, hb.2⟩) fun _ hs => hs))
  have hr : (s.easels[e.k].bank).rets.length < 8 := by
    by_contra hn
    exact absurd ((if_pos (not_lt.mp hn)).symm.trans hf) (by simp)
  exact hr

theorem keeps_execRet {g : Guard} {s : State} (h : Kept g s.guarded) (e : At) : Keeps g (execRet e s) := by
  refine (keeps_next ..).mpr (kept_runOn h e _ (keeps_act h rfl (fun _ hb => ?_) fun _ hs => hs))
  split
  · rename_i hr
    refine ⟨?_, hb.2⟩
    have := hb.1
    rw [hr, List.length_cons] at this
    exact Nat.le_of_succ_le this
  · exact hb

theorem keeps_execEndI {g : Guard} {s : State} (h : Kept g s.guarded) (e : At) : Keeps g (execEndI e s) :=
  (keeps_next ..).mpr (kept_runOn h e _ (keeps_act h rfl (fun _ hb => hb) fun _ hs => kept_endTask hs e.k))

theorem keeps_execBreakI {g : Guard} {s : State} (h : Kept g s.guarded) (e : At) : Keeps g (execBreakI e s) :=
  (keeps_next ..).mpr (kept_runOn h e _ (keeps_act h rfl (fun _ hb => hb) fun _ hs =>
    kept_of_eq (guarded_haltEasel ..) hs))

theorem keeps_execLidx {g : Guard} {s : State} (h : Kept g s.guarded) (e : At) (d : GReg) :
    Keeps g (execLidx e d s) := keeps_runLocal h _ _ fun b => by simp

/-- A fifth loop faults, so that four loops at most are kept (R113). -/
theorem keeps_execLoop {g : Guard} {s : State} (h : Kept g s.guarded) (e : At) (c : GReg) (bound : BitVec 16)
    (last : BitVec 14) : Keeps g (execLoop e c bound last s) := by
  refine (keeps_next ..).mpr (kept_runOn h e _ (keeps_act h rfl (fun hf hb => ?_) fun _ hs => hs))
  have hl : (s.easels[e.k].bank).loops.length < 4 := by
    by_contra hn
    exact absurd ((if_pos (not_lt.mp hn)).symm.trans hf) (by simp)
  split
  · exact hb
  · exact ⟨hb.1, hl⟩

theorem keeps_execFcprb {g : Guard} {s : State} (h : Kept g s.guarded) (e : At) (m : Ecc) (d r : GReg) :
    Keeps g (execFcprb e m d r s) := by
  refine keeps_runSync h _ _ _ fun b => ?_
  split
  · exact kept_probe h ..
  · exact h

theorem keeps_execFcprbv {g : Guard} {s : State} (h : Kept g s.guarded) (e : At) (m : Vector Ecc 8) (v : VReg)
    (r : GReg) : Keeps g (execFcprbv e m v r s) := by
  refine keeps_runOn h e _ (fun b b' t eq => ?_) fun _ hs => hs
  have hp : Kept g (if fieldOf (b.rg r) 23 9 = 0 then s.probes ((probeCells (b.rg r)).zip m.toList)
      else ([], s)).2.guarded := by
    split
    · exact kept_probes h _
    · exact h
  dsimp only at eq
  generalize (if fieldOf (b.rg r) 23 9 = 0 then s.probes ((probeCells (b.rg r)).zip m.toList)
    else ([], s)) = p at hp eq
  cases eq
  exact ⟨hp, rfl⟩

theorem keeps_execFlock {g : Guard} {s : State} (h : Kept g s.guarded) (e : At) (arb : Arb) (d : GReg) (n : Fin 32)
    : Keeps g (execFlock e arb d n s) := keeps_runLogged h _ _ _ (fun b => by simp [h]) fun _ _ _ => by simp

theorem keeps_execFunlock {g : Guard} {s : State} (h : Kept g s.guarded) (e : At) (d : GReg) (n : Fin 32) :
    Keeps g (execFunlock e d n s) := keeps_runLogged h _ _ _ (fun b => by simp [h]) fun _ _ _ => by simp

theorem keeps_execFmbs {g : Guard} {s : State} (h : Kept g s.guarded) (e : At) (d r : GReg) (ch : Fin 16) :
    Keeps g (execFmbs e d r ch s) := keeps_runLogged h _ _ _ (fun b => by simp [h]) fun _ _ _ => by simp

theorem keeps_execFmbr {g : Guard} {s : State} (h : Kept g s.guarded) (e : At) (d t : GReg) (ch : Fin 16) :
    Keeps g (execFmbr e d t ch s) := by
  refine keeps_runOn h e _ (fun b b' u eq => ?_) fun _ hs => hs
  dsimp only at eq
  split at eq
  · cases eq
  · rename_i el
    cases eq
    refine ⟨kept_logged h (kept_of_eq (guarded_take ..) h) el, ?_⟩
    exact (stacks_wg ..).trans (stacks_wg ..)

theorem keeps_execFemit {g : Guard} {s : State} (h : Kept g s.guarded) (e : At) (d r : GReg) (sev : Fin 4)
    (n : Fin 64) : Keeps g (execFemit e d r sev n s) := by
  refine keeps_runSync h _ _ _ fun b => ?_
  dsimp only
  split
  · exact kept_of_eq ((guarded_hold ..).trans (guarded_draw s)) h
  · exact kept_of_eq ((guarded_modEv ..).trans ((guarded_programEvent ..).trans (guarded_modEv ..))) h

theorem keeps_execFtime {g : Guard} {s : State} (h : Kept g s.guarded) (e : At) (d t : GReg) :
    Keeps g (execFtime e d t s) := by
  refine keeps_runOn h e _ (fun b b' u eq => ?_) fun _ hs => hs
  cases eq
  exact ⟨h, (stacks_wg ..).trans (stacks_wg ..)⟩

theorem keeps_execFstamp {g : Guard} {s : State} (h : Kept g s.guarded) (e : At) (d : GReg) :
    Keeps g (execFstamp e d s) := keeps_runSync h _ _ _ fun b => by simp [h]

theorem keeps_execFstop {g : Guard} {s : State} (h : Kept g s.guarded) (e : At) (d r : GReg) (kind : StopArg)
    (bad : List (BitVec 21)) : Keeps g (execFstop e d r kind bad s) :=
  keeps_runLogged h _ _ _ (fun b => by simp [h]) fun _ _ _ => by simp

theorem keeps_execFsrel {g : Guard} {s : State} (h : Kept g s.guarded) (e : At) (d r : GReg)
    (bad : List (BitVec 21)) : Keeps g (execFsrel e d r bad s) :=
  keeps_runLogged h _ _ _ (fun b => by simp [h]) fun _ _ _ => by simp

theorem keeps_execFpcnt {g : Guard} {s : State} (h : Kept g s.guarded) (e : At) (d : GReg) (q : Fin 64) :
    Keeps g (execFpcnt e d q s) := keeps_runLogged h _ _ _ (fun b => by simp [h]) fun _ _ _ => by simp

theorem keeps_execFgrant {g : Guard} {s : State} (h : Kept g s.guarded) (e : At) (r : GReg) (task : BitVec 11)
    (slot : Fin 4) : Keeps g (execFgrant e r task slot s) := keeps_runAsync h _ _ _ _ _

theorem keeps_execFstk {g : Guard} {s : State} (h : Kept g s.guarded) (e : At) (r : GReg) (task : BitVec 11)
    (slot : Fin 4) : Keeps g (execFstk e r task slot s) := keeps_runAsync h _ _ _ _ _

theorem keeps_execFloop {g : Guard} {s : State} (h : Kept g s.guarded) (e : At) (r : GReg) (task : BitVec 11)
    (slot : Fin 4) : Keeps g (execFloop e r task slot s) := keeps_runAsync h _ _ _ _ _

theorem keeps_execFpput {g : Guard} {s : State} (h : Kept g s.guarded) (e : At) (r : GReg) (task : BitVec 11)
    (slot : Fin 4) : Keeps g (execFpput e r task slot s) := keeps_runAsync h _ _ _ _ _

theorem keeps_execFpget {g : Guard} {s : State} (h : Kept g s.guarded) (e : At) (r : GReg) (task : BitVec 11)
    (slot : Fin 4) : Keeps g (execFpget e r task slot s) := keeps_runAsync h _ _ _ _ _

theorem keeps_execIllegalInstruction {g : Guard} {s : State} (h : Kept g s.guarded) (e : At) :
    Keeps g (execIllegalInstruction e s) := by
  simp [execIllegalInstruction, h]

theorem keeps_execEaselScrub {g : Guard} {s : State} (h : Kept g s.guarded) (k : Fin 8) (m : Ecc) :
    Keeps g (execEaselScrub k m s) := by
  unfold execEaselScrub
  extract_lets x scr i s1
  have h1 : Kept g s1.guarded := kept_of_eq (guarded_modEasel s k rfl) h
  have hc {f : Easel → Easel} (hf : (f s1.easels[k]).guarded = s1.easels[k].guarded) (d : EvDef) (a b c : Nat) :
      Kept g ((s1.modEasel k f).emit d a b c).guarded :=
    kept_of_eq ((guarded_emit ..).trans (guarded_modEasel s1 k hf)) h1
  clear_value s1
  refine (keeps_next ..).mpr (kept_if h ?_)
  cases m with
  | ok => exact h1
  | corrected => exact hc (by split <;> rfl) _ _ _ _
  | uncorrectable => exact hc (by split <;> rfl) _ _ _ _

theorem keeps_execAtelierScrub {g : Guard} {s : State} (h : Kept g s.guarded) (ms : Vector Ecc 8) :
    Keeps g (execAtelierScrub ms s) := by
  simp [execAtelierScrub, h]

theorem keeps_execEasHalt {g : Guard} {s : State} (h : Kept g s.guarded) (k : Fin 8) (brk : BitVec 2) :
    Keeps g (execEasHalt k brk s) := (keeps_next ..).mpr (kept_debugWrite h _ fun s hs => by simp [hs])

theorem keeps_execEasResume {g : Guard} {s : State} (h : Kept g s.guarded) (k : Fin 8) (brk : BitVec 2) :
    Keeps g (execEasResume k brk s) :=
  (keeps_next ..).mpr (kept_debugWrite h k fun s hs =>
    kept_of_eq ((guarded_modEasel _ k rfl).trans (guarded_setBrk s ..)) hs)

theorem keeps_execEasStep {g : Guard} {s : State} (h : Kept g s.guarded) (k : Fin 8) (brk : BitVec 2) :
    Keeps g (execEasStep k brk s) :=
  (keeps_next ..).mpr (kept_debugWrite h k fun s hs =>
    kept_if (kept_of_eq ((guarded_modEasel _ k rfl).trans (guarded_setBrk s ..)) hs)
      (kept_of_eq ((guarded_haltEasel ..).trans (guarded_setBrk s ..)) hs))

theorem keeps_execBreakpointHit {g : Guard} {s : State} (h : Kept g s.guarded) (k : Fin 8) :
    Keeps g (execBreakpointHit k s) := by
  rw [execBreakpointHit, keeps_next]
  split
  · exact kept_if (kept_of_eq ((guarded_haltEasel ..).trans (guarded_modEasel s k rfl)) h) h
  · exact h

theorem keeps_execEasMemDataRead {g : Guard} {s : State} (h : Kept g s.guarded) (k : Fin 8) (m : Ecc) :
    Keeps g (execEasMemDataRead k m s) := by
  refine keeps_barRead h (kept_of_eq (guarded_modEasel _ k rfl) ?_)
  split
  · exact kept_of_eq (guarded_memDataRead ..) h
  · exact h

theorem writeMem_fit {x : Easel} (h : x.guarded.fit) (w : Word) : (x.writeMem w).nextWord.guarded.fit := by
  unfold Easel.writeMem
  split
  · exact ⟨h.1, h.2.1, memWrite_wf h.2.2 _ _⟩
  · exact h

theorem keeps_execEasMemDataWrite {g : Guard} {s : State} (h : Kept g s.guarded) (k : Fin 8) (w : Word) :
    Keeps g (execEasMemDataWrite k w s) :=
  (keeps_next ..).mpr (kept_debugWrite h k fun _ hs => kept_modEasel hs fun hf => writeMem_fit hf w)

end Sys2Proof.Machine
end

section
/-! What the commands keep: register writes. -/

namespace Sys2Proof.Machine

theorem keeps_execRegisterWrite {g : Guard} {s : State} (h : Kept g s.guarded) (addr : BitVec 24) (len : Fin 9)
    (v : BitVec 64) : Keeps g (execRegisterWrite addr len v s) := by
  simp [execRegisterWrite, h]

theorem keeps_execConfigSave {g : Guard} {s : State} (h : Kept g s.guarded) : Keeps g (execConfigSave s) := by
  unfold execConfigSave
  dsimp only
  (repeat' split) <;> simp [h]

theorem keeps_execConfigSaveDone {g : Guard} {s : State} (h : Kept g s.guarded) (status : BitVec 4) :
    Keeps g (execConfigSaveDone status s) := by
  simp [execConfigSaveDone, h]

end Sys2Proof.Machine
end

section
/-! What the commands keep: the boot. -/

namespace Sys2Proof.Machine

theorem keeps_execBoot {g : Guard} {s : State} (h : Kept g s.guarded) (x : BootObs) : Keeps g (execBoot x s) := by
  unfold execBoot
  dsimp only
  (repeat' split) <;> simp [h]

theorem keeps_execFlashOperationDone {g : Guard} {s : State} (h : Kept g s.guarded) (status : BitVec 4) :
    Keeps g (execFlashOperationDone status s) := by
  rw [execFlashOperationDone, keeps_next]
  split <;> simp [h]

end Sys2Proof.Machine
end

section
/-! What the commands keep: register reads (R6 to R8). -/

namespace Sys2Proof.Machine

/-! ### Register reads (R6 to R8) -/

@[simp] theorem guarded_show (s : State) (v : Nat) : (s.show v).2.guarded = s.guarded := rfl

@[simp] theorem guarded_latched (s : State) (v : Nat) : (s.latched v).2.guarded = s.guarded := rfl

@[simp] theorem guarded_logBuffer (s : State) : s.logBuffer.2.guarded = s.guarded := by
  unfold State.logBuffer
  split <;> simp

@[simp] theorem guarded_readGctl (s : State) (o : Nat) : (s.readGctl o).2.guarded = s.guarded := rfl

@[simp] theorem guarded_readTfc (s : State) (o : Nat) : (s.readTfc o).2.guarded = s.guarded := by
  unfold State.readTfc
  split <;> rfl

@[simp] theorem guarded_readEasel (s : State) (k : Fin 8) (o : Nat) : (s.readEasel k o).2.guarded = s.guarded := by
  unfold State.readEasel
  dsimp only
  split
  case h_4 | h_11 => exact guarded_modEasel s k rfl
  case h_13 =>
    split
    · exact (guarded_modEasel _ k rfl).trans (guarded_memDataRead ..)
    · exact guarded_modEasel s k rfl
  all_goals rfl

@[simp] theorem guarded_readDsp (s : State) (o : Nat) : (s.readDsp o).2.guarded = s.guarded := by
  unfold State.readDsp
  dsimp only
  (repeat' split) <;> simp

@[simp] theorem guarded_readCnv (s : State) (o : Nat) : (s.readCnv o).2.guarded = s.guarded := by
  unfold State.readCnv
  split <;> rfl

@[simp] theorem guarded_readStk (s : State) (o : Nat) : (s.readStk o).2.guarded = s.guarded := by
  unfold State.readStk
  split <;> rfl

@[simp] theorem guarded_readGdl (s : State) (o : Nat) : (s.readGdl o).2.guarded = s.guarded := by
  unfold State.readGdl
  split <;> rfl

@[simp] theorem guarded_readAir (s : State) (o : Nat) : (s.readAir o).2.guarded = s.guarded := by
  unfold State.readAir
  split <;> rfl

@[simp] theorem guarded_readRfb (s : State) (o : Nat) : (s.readRfb o).2.guarded = s.guarded := by
  unfold State.readRfb
  dsimp only
  split <;> rfl

@[simp] theorem guarded_readGns (s : State) (o : Nat) : (s.readGns o).2.guarded = s.guarded := by
  unfold State.readGns
  dsimp only
  (repeat' split) <;> simp

@[simp] theorem guarded_readTmb (s : State) (o : Nat) : (s.readTmb o).2.guarded = s.guarded := by
  unfold State.readTmb
  dsimp only
  split <;> rfl

@[simp] theorem guarded_readEth (s : State) (o : Nat) : (s.readEth o).2.guarded = s.guarded := by
  unfold State.readEth
  dsimp only
  (repeat' split) <;> simp

@[simp] theorem guarded_readPal (s : State) (o : Nat) : (s.readPal o).2.guarded = s.guarded := by
  unfold State.readPal
  split <;> rfl

@[simp] theorem guarded_readEvq (s : State) (n o : Nat) : (s.readEvq n o).2.guarded = s.guarded := by
  unfold State.readEvq
  split <;> rfl

@[simp] theorem guarded_readMbx (s : State) (c : Fin 16) (o : Nat) : (s.readMbx c o).2.guarded = s.guarded := by
  unfold State.readMbx
  split <;> simp

@[simp] theorem guarded_readHst (s : State) (o : Nat) : (s.readHst o).2.guarded = s.guarded := by
  unfold State.readHst
  dsimp only
  (repeat' split) <;> simp

@[simp] theorem guarded_readTwn (s : State) (o : Nat) : (s.readTwn o).2.guarded = s.guarded := by
  unfold State.readTwn
  split <;> simp

@[simp] theorem guarded_readPsg (s : State) (o : Nat) : (s.readPsg o).2.guarded = s.guarded := by
  unfold State.readPsg
  dsimp only
  split <;> rfl

@[simp] theorem guarded_readSec (s : State) (o : Nat) : (s.readSec o).2.guarded = s.guarded := rfl

@[simp] theorem guarded_readPnt (s : State) (o : Nat) : (s.readPnt o).2.guarded = s.guarded := by
  unfold State.readPnt
  split <;> simp

@[simp] theorem guarded_readPfo (s : State) (o : Nat) : (s.readPfo o).2.guarded = s.guarded := by
  unfold State.readPfo
  split <;> rfl

@[simp] theorem guarded_readPwr (s : State) (o : Nat) : (s.readPwr o).2.guarded = s.guarded := by
  unfold State.readPwr
  split <;> rfl

@[simp] theorem guarded_readReg (s : State) (a : Nat) : (s.readReg a).2.guarded = s.guarded := by
  unfold State.readReg
  dsimp only
  split
  · rfl
  · split <;> simp

@[simp] theorem guarded_readBytes (n a len : Nat) (s : State) :
    (State.readBytes n a len s).2.guarded = s.guarded := by
  induction n generalizing a len s with
  | zero => rfl
  | succ n ih =>
    unfold State.readBytes
    split
    · rfl
    · exact (ih ..).trans (guarded_readReg ..)

theorem keeps_execRcRegisterRead {g : Guard} {s : State} (h : Kept g s.guarded) (addr : BitVec 24) (len : Fin 9) :
    Keeps g (execRcRegisterRead addr len s) :=
  (keeps_next ..).mpr (kept_of_eq ((guarded_put ..).trans (guarded_readBytes ..)) h)

end Sys2Proof.Machine
end

section
/-! Every step keeps to the invariant, takes the front command and moves the clock only when idle (R80, R81,
R113, R428). -/

namespace Sys2Proof.Machine

/-- Every command keeps to the invariant, and leaves the queue and world time (R80). -/
theorem exec_keeps {g : Guard} {s : State} (h : Kept g s.guarded) (c : Instr) (hc : g.fit → bringsFit c) :
    Keeps g (exec c s) := by
  unfold exec
  cases c with
  | stopInputFall => exact keeps_execStopInputFall h _
  | fleetStopWrite => exact keeps_execFleetStopWrite h _ _
  | stopInputDiscrepancy => exact keeps_execStopInputDiscrepancy h
  | discrepancyClear => exact keeps_execDiscrepancyClear h
  | stopReleaseWrite => exact keeps_execStopReleaseWrite h _ _
  | bootStopSelfRelease => exact keeps_execBootStopSelfRelease h
  | incarnationStore => exact keeps_execIncarnationStore h _
  | incarnationStoreRetry => exact keeps_execIncarnationStoreRetry h _
  | restartEnd => exact keeps_execRestartEnd h
  | epochBoundary => exact keeps_execEpochBoundary h
  | taskTick => exact keeps_execTaskTick h
  | epochDeadline => exact keeps_execEpochDeadline h
  | admitNReached => exact keeps_execAdmitNReached h
  | stopNReached => exact keeps_execStopNReached h
  | latenessCleared => exact keeps_execLatenessCleared h
  | outputPhase => exact keeps_execOutputPhase h _ _
  | tfcPolicyWrite => exact keeps_execTfcPolicyWrite h _
  | monitorWindowEnd => exact keeps_execMonitorWindowEnd h _ _ _ _
  | chainExcluded => exact keeps_execChainExcluded h _ _
  | sensorExcluded => exact keeps_execSensorExcluded h _ _
  | readySet => exact keeps_execReadySet h
  | railLower => exact keeps_execRailLower h _
  | avsFault => exact keeps_execAvsFault h _ _ _
  | avsRetry => exact keeps_execAvsRetry h _ _ _
  | contractAtRisk => exact keeps_execContractAtRisk h _
  | contractBreach => exact keeps_execContractBreach h _
  | contractRestored => exact keeps_execContractRestored h _
  | regionSkew => exact keeps_execRegionSkew h _
  | regionSkewClear => exact keeps_execRegionSkewClear h _
  | skewReset => exact keeps_execSkewReset h _
  | dailySample => exact keeps_execDailySample h
  | capRefresh => exact keeps_execCapRefresh h
  | add => exact keeps_execAdd h _ _ _ _
  | sub => exact keeps_execSub h _ _ _ _
  | and => exact keeps_execAnd h _ _ _ _
  | or => exact keeps_execOr h _ _ _ _
  | xor => exact keeps_execXor h _ _ _ _
  | sll => exact keeps_execSll h _ _ _ _
  | srl => exact keeps_execSrl h _ _ _ _
  | sra => exact keeps_execSra h _ _ _ _
  | slt => exact keeps_execSlt h _ _ _ _
  | sltu => exact keeps_execSltu h _ _ _ _
  | min => exact keeps_execMin h _ _ _ _
  | max => exact keeps_execMax h _ _ _ _
  | adds => exact keeps_execAdds h _ _ _ _
  | subs => exact keeps_execSubs h _ _ _ _
  | clz => exact keeps_execClz h _ _ _
  | addi => exact keeps_execAddi h _ _ _ _
  | andi => exact keeps_execAndi h _ _ _ _
  | ori => exact keeps_execOri h _ _ _ _
  | xori => exact keeps_execXori h _ _ _ _
  | slti => exact keeps_execSlti h _ _ _ _
  | sltiu => exact keeps_execSltiu h _ _ _ _
  | li => exact keeps_execLi h _ _ _
  | lui => exact keeps_execLui h _ _ _
  | slli => exact keeps_execSlli h _ _ _ _
  | srli => exact keeps_execSrli h _ _ _ _
  | srai => exact keeps_execSrai h _ _ _ _
  | ext => exact keeps_execExt h _ _ _ _ _
  | exts => exact keeps_execExts h _ _ _ _ _
  | ins => exact keeps_execIns h _ _ _ _ _
  | mul => exact keeps_execMul h _ _ _ _
  | mulh => exact keeps_execMulh h _ _ _ _
  | mulhu => exact keeps_execMulhu h _ _ _ _
  | div => exact keeps_execDiv h _ _ _ _
  | divu => exact keeps_execDivu h _ _ _ _
  | rem => exact keeps_execRem h _ _ _ _
  | remu => exact keeps_execRemu h _ _ _ _
  | ld => exact keeps_execLd h _ _ _ _ _ _
  | st => exact keeps_execSt h _ _ _ _ _ _
  | vld => exact keeps_execVld h _ _ _ _ _ _
  | vst => exact keeps_execVst h _ _ _ _ _ _
  | lda => exact keeps_execLda h _ _ _ _ _ _
  | sta => exact keeps_execSta h _ _ _ _ _ _
  | vlda => exact keeps_execVlda h _ _ _ _ _ _
  | vsta => exact keeps_execVsta h _ _ _ _ _ _
  | vadd => exact keeps_execVadd h _ _ _ _
  | vsub => exact keeps_execVsub h _ _ _ _
  | vand => exact keeps_execVand h _ _ _ _
  | vor => exact keeps_execVor h _ _ _ _
  | vxor => exact keeps_execVxor h _ _ _ _
  | vadds => exact keeps_execVadds h _ _ _ _
  | vsubs => exact keeps_execVsubs h _ _ _ _
  | vmin => exact keeps_execVmin h _ _ _ _
  | vmax => exact keeps_execVmax h _ _ _ _
  | vceq => exact keeps_execVceq h _ _ _ _
  | vclt => exact keeps_execVclt h _ _ _ _
  | vcltu => exact keeps_execVcltu h _ _ _ _
  | vsel => exact keeps_execVsel h _ _ _ _ _
  | vabs => exact keeps_execVabs h _ _ _
  | vslli => exact keeps_execVslli h _ _ _ _
  | vsrli => exact keeps_execVsrli h _ _ _ _
  | vsrai => exact keeps_execVsrai h _ _ _ _
  | vbcast => exact keeps_execVbcast h _ _ _
  | vext => exact keeps_execVext h _ _ _ _
  | vins => exact keeps_execVins h _ _ _ _
  | vmul => exact keeps_execVmul h _ _ _ _
  | vmulh => exact keeps_execVmulh h _ _ _ _
  | vmac => exact keeps_execVmac h _ _ _ _
  | vmsu => exact keeps_execVmsu h _ _ _ _
  | amov => exact keeps_execAmov h _ _ _ _
  | amovr => exact keeps_execAmovr h _ _ _ _
  | amovl => exact keeps_execAmovl h _ _ _
  | amovh => exact keeps_execAmovh h _ _ _
  | aclr => exact keeps_execAclr h _ _
  | ald => exact keeps_execAld h _ _ _ _
  | beq => exact keeps_execBeq h _ _ _ _
  | bne => exact keeps_execBne h _ _ _ _
  | blt => exact keeps_execBlt h _ _ _ _
  | bge => exact keeps_execBge h _ _ _ _
  | bltu => exact keeps_execBltu h _ _ _ _
  | bgeu => exact keeps_execBgeu h _ _ _ _
  | jmp => exact keeps_execJmp h _ _
  | call => exact keeps_execCall h _ _
  | endI => exact keeps_execEndI h _
  | ret => exact keeps_execRet h _
  | breakI => exact keeps_execBreakI h _
  | lidx => exact keeps_execLidx h _ _
  | loop => exact keeps_execLoop h _ _ _ _
  | fcprb => exact keeps_execFcprb h _ _ _ _
  | fcprbv => exact keeps_execFcprbv h _ _ _ _
  | flock => exact keeps_execFlock h _ _ _ _
  | funlock => exact keeps_execFunlock h _ _ _
  | fmbs => exact keeps_execFmbs h _ _ _ _
  | fmbr => exact keeps_execFmbr h _ _ _ _
  | femit => exact keeps_execFemit h _ _ _ _ _
  | ftime => exact keeps_execFtime h _ _ _
  | fstamp => exact keeps_execFstamp h _ _
  | fstop => exact keeps_execFstop h _ _ _ _ _
  | fsrel => exact keeps_execFsrel h _ _ _ _
  | fpcnt => exact keeps_execFpcnt h _ _ _
  | fgrant => exact keeps_execFgrant h _ _ _ _
  | fstk => exact keeps_execFstk h _ _ _ _
  | floop => exact keeps_execFloop h _ _ _ _
  | fpput => exact keeps_execFpput h _ _ _ _
  | fpget => exact keeps_execFpget h _ _ _ _
  | fabricRequestDrain => exact keeps_execFabricRequestDrain h _
  | paletteRequestComplete => exact keeps_execPaletteRequestComplete h _
  | continuationResult => exact keeps_execContinuationResult h
  | dispatchDecision => exact keeps_execDispatchDecision h
  | easelScrub => exact keeps_execEaselScrub h _ _
  | atelierScrub => exact keeps_execAtelierScrub h _
  | easHalt => exact keeps_execEasHalt h _ _
  | easResume => exact keeps_execEasResume h _ _
  | easStep => exact keeps_execEasStep h _ _
  | breakpointHit => exact keeps_execBreakpointHit h _
  | easMemDataRead => exact keeps_execEasMemDataRead h _ _
  | easMemDataWrite => exact keeps_execEasMemDataWrite h _ _
  | load => exact keeps_execLoad h
  | loadComplete => exact keeps_execLoadComplete h _
  | start => exact keeps_execStart h _
  | stop => exact keeps_execStop h
  | cartoonStopEffect => exact keeps_execCartoonStopEffect h
  | swap => exact keeps_execSwap h
  | cancelSwap => exact keeps_execCancelSwap h
  | swapEpoch => exact keeps_execSwapEpoch h
  | store => exact keeps_execStore h
  | storeComplete => exact keeps_execStoreComplete h _
  | eraseStored => exact keeps_execEraseStored h _
  | testEnter => exact keeps_execTestEnter h
  | testExit => exact keeps_execTestExit h
  | autoload => exact keeps_execAutoload h
  | startupEnd => exact keeps_execStartupEnd h
  | arrivalDrain => exact keeps_execArrivalDrain h _
  | flowReleaseWrite => exact keeps_execFlowReleaseWrite h _
  | flowRestart => exact keeps_execFlowRestart h
  | traceClear => exact keeps_execTraceClear h _
  | dspKeyDataWrite => exact keeps_execDspKeyDataWrite h _
  | dspKeyProgram => exact keeps_execDspKeyProgram h _
  | dspKeyRevoke => exact keeps_execDspKeyRevoke h _
  | canvasSlotBoundary => exact keeps_execCanvasSlotBoundary h
  | sweepComplete => exact keeps_execSweepComplete h _
  | sweepLate => exact keeps_execSweepLate h
  | grantBatch => exact keeps_execGrantBatch h
  | reportHandling => exact keeps_execReportHandling h _
  | grant => exact keeps_execGrant h _ _ _
  | withdraw => exact keeps_execWithdraw h _
  | block => exact keeps_execBlock h _
  | unblock => exact keeps_execUnblock h _
  | hostGrantGo => exact keeps_execHostGrantGo h _ _
  | grantDelivered => exact keeps_execGrantDelivered h
  | grantUndelivered => exact keeps_execGrantUndelivered h
  | robotLost => exact keeps_execRobotLost h _ _
  | persistRemainderApplied => exact keeps_execPersistRemainderApplied h
  | canvasScrub => exact keeps_execCanvasScrub h _
  | strokeBatch => exact keeps_execStrokeBatch h
  | movePos => exact keeps_execMovePos h
  | moveSpeed => exact keeps_execMoveSpeed h
  | strokeStop => exact keeps_execStrokeStop h
  | resume => exact keeps_execResume h
  | corridor => exact keeps_execCorridor h
  | setProfile => exact keeps_execSetProfile h
  | setRoute => exact keeps_execSetRoute h
  | sync => exact keeps_execSync h
  | guidanceReport => exact keeps_execGuidanceReport h
  | loopEnable => exact keeps_execLoopEnable h
  | loopDisable => exact keeps_execLoopDisable h
  | loopReset => exact keeps_execLoopReset h
  | glazeClear => exact keeps_execGlazeClear h
  | learn => exact keeps_execLearn h
  | driveLoopBlock => exact keeps_execDriveLoopBlock h
  | radioSlotBoundary => exact keeps_execRadioSlotBoundary h _ _
  | superframeBoundary => exact keeps_execSuperframeBoundary h
  | stationFrameReceived => exact keeps_execStationFrameReceived h _ _ _ _
  | reportReceived => exact keeps_execReportReceived h
  | joinReceived => exact keeps_execJoinReceived h
  | udataReceived => exact keeps_execUdataReceived h
  | immAckReceived => exact keeps_execImmAckReceived h _ _ _ _
  | stationAged => exact keeps_execStationAged h _ _
  | provision => exact keeps_execProvision h
  | stationClear => exact keeps_execStationClear h
  | tombstone => exact keeps_execTombstone h
  | stationScrub => exact keeps_execStationScrub h _ _ _ _
  | airKeyCtlWrite => exact keeps_execAirKeyCtlWrite h _
  | airKeyDataWrite => exact keeps_execAirKeyDataWrite h _
  | planChange => exact keeps_execPlanChange h
  | stopRepetition => exact keeps_execStopRepetition h _
  | echoExit => exact keeps_execEchoExit h
  | ledgerBucketBoundary => exact keeps_execLedgerBucketBoundary h _
  | ledgerSnapshot => exact keeps_execLedgerSnapshot h _
  | ledgerSettingsWrite => exact keeps_execLedgerSettingsWrite h _ _
  | rfbPathWrite => exact keeps_execRfbPathWrite h _ _
  | measurementEpoch => exact keeps_execMeasurementEpoch h _
  | timeLocked => exact keeps_execTimeLocked h
  | holdoverEntry => exact keeps_execHoldoverEntry h
  | holdoverUpdate => exact keeps_execHoldoverUpdate h
  | jumpAccepted => exact keeps_execJumpAccepted h
  | timeStep => exact keeps_execTimeStep h
  | measurementRateChange => exact keeps_execMeasurementRateChange h
  | rtcmArpSend => exact keeps_execRtcmArpSend h
  | rtcmDescriptorSend => exact keeps_execRtcmDescriptorSend h
  | spectrumEstimate => exact keeps_execSpectrumEstimate h _ _ _ _
  | notchRelease => exact keeps_execNotchRelease h _ _
  | antennaFault => exact keeps_execAntennaFault h _ _
  | biasRetry => exact keeps_execBiasRetry h _ _
  | surveyRestart => exact keeps_execSurveyRestart h _
  | surveySlow => exact keeps_execSurveySlow h
  | coordMismatch => exact keeps_execCoordMismatch h
  | coordMismatchClear => exact keeps_execCoordMismatchClear h
  | fixedCoordWrite => exact keeps_execFixedCoordWrite h _ _
  | svSlotRelease => exact keeps_execSvSlotRelease h _
  | gnssDataSave => exact keeps_execGnssDataSave h
  | captureGo => exact keeps_execCaptureGo h _
  | captureComplete => exact keeps_execCaptureComplete h _
  | capDataRead => exact keeps_execCapDataRead h
  | tp0Edge => exact keeps_execTp0Edge h _
  | automaticCommit => exact keeps_execAutomaticCommit h
  | tmbRead => exact keeps_execTmbRead h _ _
  | stampEdge => exact keeps_execStampEdge h _
  | timeSourceChange => exact keeps_execTimeSourceChange h
  | tmbSetWrite => exact keeps_execTmbSetWrite h _
  | tmbFreeRateWrite => exact keeps_execTmbFreeRateWrite h _
  | rtcUpdate => exact keeps_execRtcUpdate h
  | ethLink => exact keeps_execEthLink h _ _ _ _
  | ethEgressDrop => exact keeps_execEthEgressDrop h _ _
  | ethFrameReceived => exact keeps_execEthFrameReceived h _ _ _
  | ethFrameSend => exact keeps_execEthFrameSend h _ _
  | arpRequest => exact keeps_execArpRequest h _ _ _ _
  | ptpSyncSend => exact keeps_execPtpSyncSend h _
  | ptpAnnounceSend => exact keeps_execPtpAnnounceSend h _
  | ptpDelayReqSend => exact keeps_execPtpDelayReqSend h _
  | ptpSyncReceived => exact keeps_execPtpSyncReceived h _ _
  | ptpFollowUpReceived => exact keeps_execPtpFollowUpReceived h _ _
  | ptpDelayReqReceived => exact keeps_execPtpDelayReqReceived h _ _
  | ptpDelayRespReceived => exact keeps_execPtpDelayRespReceived h _ _ _ _ _
  | ptpAnnounceReceived => exact keeps_execPtpAnnounceReceived h _ _ _
  | timeMsg => exact keeps_execTimeMsg h _ _ _ _ _ _
  | hostPutGo => exact keeps_execHostPutGo h _
  | hostPutDone => exact keeps_execHostPutDone h _
  | hostGetGo => exact keeps_execHostGetGo h _
  | hostGetDone => exact keeps_execHostGetDone h _
  | paletteFlushWrite => exact keeps_execPaletteFlushWrite h _
  | paletteFlush => exact keeps_execPaletteFlush h _
  | freeListRebuilt => exact keeps_execFreeListRebuilt h
  | partialPacketDiscard => exact keeps_execPartialPacketDiscard h _
  | pcieReset => exact keeps_execPcieReset h _
  | pcieLinkReturn => exact keeps_execPcieLinkReturn h _ _ _
  | pcieCanvasRead => exact keeps_execPcieCanvasRead h _ _ _
  | evqEnable => exact keeps_execEvqEnable h _ _
  | evqRecordWrite => exact keeps_execEvqRecordWrite h _ _
  | evqModerationTimer => exact keeps_execEvqModerationTimer h _
  | evqTailWrite => exact keeps_execEvqTailWrite h _ _
  | dpTimeRead => exact keeps_execDpTimeRead h
  | dpProbeCountRead => exact keeps_execDpProbeCountRead h
  | dpCanvasProbe => exact keeps_execDpCanvasProbe h _ _
  | dpLockRead => exact keeps_execDpLockRead h _ _
  | dpLockWrite => exact keeps_execDpLockWrite h _
  | dpMbxTake => exact keeps_execDpMbxTake h _
  | dpMbxSend => exact keeps_execDpMbxSend h _ _
  | dpMbxStatusRead => exact keeps_execDpMbxStatusRead h _
  | dpWrite => exact keeps_execDpWrite h _ _
  | dpEnWrite => exact keeps_execDpEnWrite h _
  | hostLockRead => exact keeps_execHostLockRead h _ _
  | hostLockWrite => exact keeps_execHostLockWrite h _
  | lockFreeWrite => exact keeps_execLockFreeWrite h _
  | hostMbxTx => exact keeps_execHostMbxTx h _ _
  | hostMbxRx => exact keeps_execHostMbxRx h _
  | mailboxTimeout => exact keeps_execMailboxTimeout h _ _
  | mbxHostUpWrite => exact keeps_execMbxHostUpWrite h _
  | twinLinkUp => exact keeps_execTwinLinkUp h
  | twinLinkDown => exact keeps_execTwinLinkDown h
  | twinLaneLost => exact keeps_execTwinLaneLost h
  | heartbeatPresent => exact keeps_execHeartbeatPresent h
  | heartbeatLost => exact keeps_execHeartbeatLost h
  | logMsg => exact keeps_execLogMsg h _ _
  | logCloseMsg => exact keeps_execLogCloseMsg h _
  | logAckMsg => exact keeps_execLogAckMsg h _
  | logAckTimeout => exact keeps_execLogAckTimeout h
  | logCloseTimeout => exact keeps_execLogCloseTimeout h
  | digestSend => exact keeps_execDigestSend h
  | digestMsg => exact keeps_execDigestMsg h _ _
  | digestTimeout => exact keeps_execDigestTimeout h
  | ledgerMsg => exact keeps_execLedgerMsg h _ _
  | stateMsg => exact keeps_execStateMsg h _ _ _ _
  | resignMsg => exact keeps_execResignMsg h
  | forwardMsg => exact keeps_execForwardMsg h _
  | transferMsg => exact keeps_execTransferMsg h _ hc
  | healthMsg => exact keeps_execHealthMsg h _
  | resetMsg => exact keeps_execResetMsg h
  | stopRelay => exact keeps_execStopRelay h _ _ _
  | releaseRelay => exact keeps_execReleaseRelay h _ _
  | twinSnapshot => exact keeps_execTwinSnapshot h
  | twinCaughtUp => exact keeps_execTwinCaughtUp h
  | transferTimeout => exact keeps_execTransferTimeout h _
  | transferRetry => exact keeps_execTransferRetry h
  | faultedTimeout => exact keeps_execFaultedTimeout h
  | listenExpiry => exact keeps_execListenExpiry h _
  | switch => exact keeps_execSwitch h
  | switchover => exact keeps_execSwitchover h
  | resync => exact keeps_execResync h
  | isolate => exact keeps_execIsolate h
  | standbyHealthReport => exact keeps_execStandbyHealthReport h _
  | pwmPeriodCentre => exact keeps_execPwmPeriodCentre h _
  | standstillEnter => exact keeps_execStandstillEnter h _
  | stepEdge => exact keeps_execStepEdge h _ _
  | followIdle => exact keeps_execFollowIdle h _
  | limitInputChange => exact keeps_execLimitInputChange h _ _ _
  | chatterEnd => exact keeps_execChatterEnd h _ _
  | homingPhaseEnd => exact keeps_execHomingPhaseEnd h _
  | driveHome => exact keeps_execDriveHome h _
  | driveClear => exact keeps_execDriveClear h _
  | setMode => exact keeps_execSetMode h _
  | stallDetectionStart => exact keeps_execStallDetectionStart h
  | sessionOpen => exact keeps_execSessionOpen h _ _
  | sessionProve => exact keeps_execSessionProve h
  | sessionClose => exact keeps_execSessionClose h
  | sessionIdleTimeout => exact keeps_execSessionIdleTimeout h _
  | challengeExpiry => exact keeps_execChallengeExpiry h _
  | sessionLockoutEnd => exact keeps_execSessionLockoutEnd h _
  | keyDataWrite => exact keeps_execKeyDataWrite h _
  | keyCountRestart => exact keeps_execKeyCountRestart h
  | keyProgram => exact keeps_execKeyProgram h _
  | bucketRefill => exact keeps_execBucketRefill h _
  | pntRlWrite => exact keeps_execPntRlWrite h _
  | rlSettingsApply => exact keeps_execRlSettingsApply h
  | pentimentoSlotWrite => exact keeps_execPentimentoSlotWrite h _
  | pentimentoClear => exact keeps_execPentimentoClear h _
  | pentimentoClearDone => exact keeps_execPentimentoClearDone h
  | svcRead => exact keeps_execSvcRead h
  | hello => exact keeps_execHello h _
  | sessOpen => exact keeps_execSessOpen h _ _ _
  | sessProve => exact keeps_execSessProve h _ _
  | sessClose => exact keeps_execSessClose h _
  | stageBegin => exact keeps_execStageBegin h _ _ _
  | stageData => exact keeps_execStageData h _ _ _ _
  | stageEnd => exact keeps_execStageEnd h _ _
  | stageAbort => exact keeps_execStageAbort h _
  | stagingTimeout => exact keeps_execStagingTimeout h
  | confirm => exact keeps_execConfirm h _ _
  | reboot => exact keeps_execReboot h _
  | pfoConfirm => exact keeps_execPfoConfirm h _
  | share => exact keeps_execShare h
  | pfoReboot => exact keeps_execPfoReboot h
  | pfoKeyDataWrite => exact keeps_execPfoKeyDataWrite h _
  | pfoKeyProgram => exact keeps_execPfoKeyProgram h _
  | pfoKeyRevoke => exact keeps_execPfoKeyRevoke h _
  | portfolioExamination => exact keeps_execPortfolioExamination h _
  | attemptsClear => exact keeps_execAttemptsClear h
  | pwrReqRun => exact keeps_execPwrReqRun h
  | pwrReqQuiet => exact keeps_execPwrReqQuiet h
  | pwrReqSleep => exact keeps_execPwrReqSleep h
  | pwrReqDeep => exact keeps_execPwrReqDeep h
  | pwrReqInvalid => exact keeps_execPwrReqInvalid h _
  | pwrSoft => exact keeps_execPwrSoft h
  | quietEntry => exact keeps_execQuietEntry h
  | quietExit => exact keeps_execQuietExit h
  | sleepEntry => exact keeps_execSleepEntry h
  | sleepWake => exact keeps_execSleepWake h
  | deepEntry => exact keeps_execDeepEntry h
  | deepWake => exact keeps_execDeepWake h _
  | supplyDipStart => exact keeps_execSupplyDipStart h
  | supplyDipEnd => exact keeps_execSupplyDipEnd h
  | cmp1Trip => exact keeps_execCmp1Trip h
  | tamper => exact keeps_execTamper h
  | resetNLow => exact keeps_execResetNLow h
  | watchdogExpiry => exact keeps_execWatchdogExpiry h
  | ci1PowerRegained => exact keeps_execCi1PowerRegained h
  | boot => exact keeps_execBoot h _
  | referenceAccepted => exact keeps_execReferenceAccepted h
  | referenceLost => exact keeps_execReferenceLost h
  | pwrCmpCfgWrite => exact keeps_execPwrCmpCfgWrite h _
  | configSave => exact keeps_execConfigSave h
  | configSaveDone => exact keeps_execConfigSaveDone h _
  | flashOperationDone => exact keeps_execFlashOperationDone h _
  | registerWrite => exact keeps_execRegisterWrite h _ _ _
  | illegalInstruction => exact keeps_execIllegalInstruction h _
  | rcRegisterRead => exact keeps_execRcRegisterRead h _ _
  | stopInputRise => exact keeps_execStopInputRise h _
  | tamperCleared => exact keeps_execTamperCleared h
  | svSlotAssigned => exact keeps_execSvSlotAssigned h _
  | watchdogService => exact keeps_execWatchdogService h
  | heartbeatService => exact keeps_execHeartbeatService h
  | heartbeatOutStopped => exact keeps_execHeartbeatOutStopped h
  | supervisorMailboxAnswer => exact keeps_execSupervisorMailboxAnswer h
  | svcRequestInvalid => exact keeps_execSvcRequestInvalid h _ _ _
  | drivePacketInvalid => exact keeps_execDrivePacketInvalid h _

theorem sound_iff (s : State) : Sound s ↔ s.guarded.fit ∧ ∀ c ∈ s.pending, bringsFit c := by
  rw [fit_guarded]
  simp only [Sound, and_assoc]

/-- A guard that is not fit: what is kept of it is the queue and world time alone. -/
def Guard.unfit (g : Guard) : Guard := { g with atelier := [(0, 0)] }

theorem not_fit_unfit (g : Guard) : ¬ g.unfit.fit := fun h =>
  absurd h.2.1 (by simp [Guard.unfit, Memory.wf, tblWf, tblWfFrom, zeroByte])

theorem kept_unfit (s : State) : Kept s.guarded.unfit s.guarded :=
  ⟨rfl, rfl, fun h => absurd h (not_fit_unfit _)⟩

/-- Whatever a command brings, it leaves the queue and world time. -/
theorem exec_queue_clock {s t : State} {c : Instr} (e : exec c s = .next t) :
    t.pending = s.pending ∧ t.now = s.now :=
  have k := exec_keeps (kept_unfit s) c (fun h => absurd h (not_fit_unfit _)) t e
  ⟨k.pending, k.now⟩

theorem sound_exec {s t : State} {c : Instr} (hs : Sound s) (hc : bringsFit c) (e : exec c s = .next t) :
    Sound t := by
  obtain ⟨hf, hp⟩ := (sound_iff s).mp hs
  have k := exec_keeps (Kept.refl s.guarded) c (fun _ => hc) t e
  refine (sound_iff t).mpr ⟨k.fit hf, ?_⟩
  rw [show t.pending = s.pending from k.pending]
  exact hp

theorem sound_tick {s : State} (hs : Sound s) (he : s.pending = []) : Sound s.tick := by
  obtain ⟨hf, -⟩ := (sound_iff s).mp hs
  have hp : s.tick.pending = s.pending := congrArg Guard.pending (guarded_tick s)
  refine (sound_iff _).mpr ⟨by rw [guarded_tick]; exact hf, ?_⟩
  simp [hp, he]

/-- Settles O59, from what each command keeps (`exec_keeps`) and what an idle step does (`guarded_tick`). -/
theorem stacksMemoriesQueueAndClockThroughEveryStep : Obligations.StacksMemoriesQueueAndClockThroughEveryStep := by
  intro s t e
  unfold step at e
  split at e
  · rename_i he
    cases e
    have g := guarded_tick s
    refine ⟨fun hs => sound_tick hs he, ?_, ?_⟩
    · rw [show s.tick.pending = s.pending from congrArg Guard.pending g, he]
      rfl
    · rw [if_pos he]
      exact congrArg Guard.now g
  · rename_i c rest hq
    obtain ⟨hp, hn⟩ := exec_queue_clock e
    refine ⟨fun ⟨he, hm, hc, hb⟩ => ?_, ?_, ?_⟩
    · rw [hq, List.forall_mem_cons] at hb
      exact sound_exec (s := { s with pending := rest }) ⟨he, hm, hc, hb.2⟩ hb.1 e
    · rw [hp, hq]
      rfl
    · rw [hn, if_neg (by simp [hq])]
      rfl

end Sys2Proof.Machine
end

section
/-! The values of the local instructions (Tables 4-3 to 4-8) as numbers: comparisons, limits, shifts, fields, products,
quotients and accumulation. -/

namespace Sys2Proof.Machine

/-! ## Comparisons and limits -/

theorem ofFlag_slt (x y : Word) : ofFlag (x.slt y) = if x.toInt < y.toInt then 1 else 0 := by
  simp [ofFlag, BitVec.slt]

theorem ofFlag_ult (x y : Word) : ofFlag (x.ult y) = if x.toNat < y.toNat then 1 else 0 := by
  simp [ofFlag, BitVec.ult]

theorem ofInt_min_toInt (x y : Word) :
    (if x.slt y then x else y) = BitVec.ofInt 32 (min x.toInt y.toInt) := by
  simp only [BitVec.slt_iff_toInt_lt]
  split_ifs with h
  · rw [min_eq_left h.le, BitVec.ofInt_toInt]
  · rw [min_eq_right (not_lt.mp h), BitVec.ofInt_toInt]

theorem ofInt_max_toInt (x y : Word) :
    (if x.slt y then y else x) = BitVec.ofInt 32 (max x.toInt y.toInt) := by
  simp only [BitVec.slt_iff_toInt_lt]
  split_ifs with h
  · rw [max_eq_right h.le, BitVec.ofInt_toInt]
  · rw [max_eq_left (not_lt.mp h), BitVec.ofInt_toInt]

/-- `sat32` limits an exact result to the signed range of a word (R102). -/
theorem sat32_eq_limit32 (i : Int) : sat32 i = limit32 i := by
  unfold sat32 limit32 clampS
  split_ifs with low high
  · rw [show max (-((2 ^ (32 - 1) : Nat) : Int)) (min i (((2 ^ (32 - 1) : Nat) : Int) - 1)) = -2147483648 by omega]
    rfl
  · rw [show max (-((2 ^ (32 - 1) : Nat) : Int)) (min i (((2 ^ (32 - 1) : Nat) : Int) - 1)) = 2147483647 by omega]
    rfl
  · rw [show max (-((2 ^ (32 - 1) : Nat) : Int)) (min i (((2 ^ (32 - 1) : Nat) : Int) - 1)) = i by omega]

theorem sat64_eq (i : Int) : sat64 i = BitVec.ofInt 64 (max (-(2 ^ 63)) (min (2 ^ 63 - 1) i)) := by
  rw [sat64, clampS, min_comm]
  rfl

/-! ## Leading zeros -/

theorem clzVal_eq {x : Word} {n : Nat} (hn : n ≤ 32) (above : x.toNat < 2 ^ (32 - n))
    (top : n < 32 → 2 ^ (31 - n) ≤ x.toNat) : clzVal x = BitVec.ofNat 32 n := by
  unfold clzVal
  rcases hn.lt_or_eq with h | rfl
  · have hx : x.toNat ≠ 0 := fun h0 => by
      have := top h
      have := Nat.two_pow_pos (31 - n)
      omega
    have hlog : Nat.log2 x.toNat = 31 - n :=
      (Nat.log2_eq_iff hx).mpr ⟨top h, by rwa [show 31 - n + 1 = 32 - n by omega]⟩
    rw [if_neg fun h0 => hx (by rw [h0]; rfl), hlog, show 31 - (31 - n) = n by omega]
  · rw [if_pos (BitVec.eq_of_toNat_eq (by simpa using above))]

/-! ## Fields (R103) -/

theorem getLsbD_maskOf {len : Nat} (h : len ≤ 32) (i : Nat) : (maskOf len).getLsbD i = decide (i < len) := by
  rw [maskOf, BitVec.getLsbD_ofNat, Nat.testBit_two_pow_sub_one]
  by_cases hi : i < len
  · simp [hi, show i < 32 by omega]
  · simp [hi]

theorem fieldVal_ext {d x w : Word} {pos len1 : Fin 32}
    (h : ∀ i < 32, w.getLsbD i = (decide (i ≤ len1.val) && x.getLsbD (pos + i))) :
    fieldVal .ext d x pos (len1 + 1 : Nat) = w := by
  refine BitVec.eq_of_getLsbD_eq fun i hi => ?_
  rw [h i hi, fieldVal, BitVec.getLsbD_and, getLsbD_maskOf (by omega), BitVec.getLsbD_ushiftRight, Bool.and_comm,
    decide_eq_decide.mpr Nat.lt_succ_iff]

/-- A field's two's complement value is the sign extension of its bits. -/
theorem ofInt_signedOf (len n : Nat) : BitVec.ofInt 32 (signedOf len n) = (BitVec.ofNat len n).signExtend 32 := by
  rw [BitVec.signExtend, BitVec.toInt_eq_toNat_cond, BitVec.toNat_ofNat]
  unfold signedOf
  dsimp only
  rcases len with _ | k
  · simp [Nat.mod_one]
  · rw [Nat.add_sub_cancel]
    congr 1
    have : 2 ^ (k + 1) = 2 * 2 ^ k := Nat.pow_succ'
    split_ifs <;> omega

theorem fieldVal_exts {d x w : Word} {pos len1 : Fin 32}
    (h : ∀ i < 32, w.getLsbD i = x.getLsbD (pos + min i len1)) :
    fieldVal .exts d x pos (len1 + 1 : Nat) = w := by
  refine BitVec.eq_of_getLsbD_eq fun i hi => ?_
  rw [h i hi, fieldVal, ofInt_signedOf, BitVec.getLsbD_signExtend]
  have bits : ∀ j ≤ len1.val, (BitVec.ofNat (len1 + 1) (x >>> pos.val).toNat).getLsbD j = x.getLsbD (pos + j) := by
    intro j hj
    rw [BitVec.getLsbD_ofNat, decide_eq_true (by omega), Bool.true_and, BitVec.testBit_toNat,
      BitVec.getLsbD_ushiftRight]
  rw [decide_eq_true hi, Bool.true_and, BitVec.msb_eq_getLsbD_last, Nat.add_sub_cancel]
  split_ifs with hlt
  · rw [bits i (by omega), min_eq_left (by omega)]
  · rw [bits len1.val le_rfl, min_eq_right (by omega)]

theorem fieldVal_ins {d x w : Word} {pos len1 : Fin 32}
    (h : ∀ i < 32, w.getLsbD i = if pos.val ≤ i ∧ i ≤ pos + len1 then x.getLsbD (i - pos) else d.getLsbD i) :
    fieldVal .ins d x pos (len1 + 1 : Nat) = w := by
  refine BitVec.eq_of_getLsbD_eq fun i hi => ?_
  have mask : (maskOf (len1 + 1) <<< pos.val).getLsbD i = decide (pos.val ≤ i ∧ i ≤ pos + len1) := by
    rw [BitVec.getLsbD_shiftLeft, getLsbD_maskOf (by omega), Bool.eq_iff_iff]
    simp only [Bool.and_eq_true, Bool.not_eq_true', decide_eq_true_eq, decide_eq_false_iff_not]
    omega
  rw [h i hi, fieldVal, BitVec.getLsbD_or, BitVec.getLsbD_and, BitVec.getLsbD_and, BitVec.getLsbD_not, mask]
  split_ifs with inside
  · simp [BitVec.getLsbD_shiftLeft, inside, hi, -BitVec.getLsbD_eq_getElem]
  · simp [inside, hi]

/-! ## Products and quotients (R104) -/

theorem mulVal_mul (x y : Word) : mulVal .mul x y = BitVec.ofNat 32 (x.toNat * y.toNat) :=
  BitVec.eq_of_toNat_eq (by simp [mulVal])

/-- Of the quotients of two words only the greatest negative one by −1 leaves the range of a word, and wraps to the
dividend. -/
theorem divVal_div (x y : Word) : divVal .div x y =
    if y = 0 then 0xFFFFFFFF#32 else if x = 0x80000000#32 ∧ y = 0xFFFFFFFF#32 then 0x80000000#32
    else BitVec.ofInt 32 (x.toInt.tdiv y.toInt) := by
  unfold divVal
  dsimp only
  split_ifs with _ wraps
  · rfl
  · rw [wraps.1, wraps.2]
    rfl
  · rfl

theorem divVal_rem (x y : Word) : divVal .rem x y =
    if y = 0 then x else if x = 0x80000000#32 ∧ y = 0xFFFFFFFF#32 then 0
    else BitVec.ofInt 32 (x.toInt - y.toInt * x.toInt.tdiv y.toInt) := by
  unfold divVal
  dsimp only
  split_ifs with _ wraps
  · rfl
  · rw [wraps.1, wraps.2]
    rfl
  · rw [Int.tmod_def]

theorem divVal_remu (x y : Word) : divVal .remu x y =
    if y = 0 then x else BitVec.ofNat 32 (x.toNat - y.toNat * (x.toNat / y.toNat)) := by
  unfold divVal
  dsimp only
  rw [Nat.mod_eq_sub]

/-! ## Accumulators (R107, R108) -/

/-- Half of the last place can only raise an accumulator, so that only the upper limit acts. -/
theorem amovVal_amovr (z : Word64) (sh : Fin 64) : amovVal .amovr z sh = if sh = 0 then limit32 z.toInt
    else limit32 (min (2 ^ 63 - 1) (z.toInt + 2 ^ (sh.val - 1)) / 2 ^ sh.val) := by
  unfold amovVal
  dsimp only
  by_cases h : sh = 0
  · subst h
    exact sat32_eq_limit32 _
  · rw [if_neg h, if_neg (Fin.val_ne_zero_iff.mpr h), sat32_eq_limit32]
    have low := BitVec.le_toInt z
    have half : (0 : Int) < 2 ^ (sh.val - 1) := by positivity
    have clamp : clampS 64 (z.toInt + ((2 ^ (sh.val - 1) : Nat) : Int)) =
        min (2 ^ 63 - 1) (z.toInt + 2 ^ (sh.val - 1)) := by
      unfold clampS
      push_cast
      omega
    rw [clamp, sar]
    push_cast
    rfl

theorem ahalfVal_amovl (z : Word64) : ahalfVal .amovl z = BitVec.ofNat 32 z.toNat := rfl

theorem ahalfVal_amovh (z : Word64) : ahalfVal .amovh z = BitVec.ofNat 32 (z.toNat / 2 ^ 32) :=
  BitVec.eq_of_toNat_eq (by simp [ahalfVal, Nat.shiftRight_eq_div_pow])

theorem aldVal_eq (x : Word) (n : Nat) : aldVal x n = BitVec.ofInt 64 (x.toInt * 2 ^ n) := by
  rw [aldVal, BitVec.signExtend, BitVec.shiftLeft_eq_mul_twoPow, BitVec.ofInt_mul, ← Nat.cast_ofNat (R := Int),
    ← Nat.cast_pow, BitVec.ofInt_natCast,
    show BitVec.twoPow 64 n = BitVec.ofNat 64 (2 ^ n) from BitVec.eq_of_toNat_eq (by simp)]

end Sys2Proof.Machine
end

section
/-! The scalar, lane and accumulator instructions (R101 to R108), as O7 to O11 state them: each is one value written to
one register. -/

namespace Sys2Proof.Machine

section
variable {c : Instr} {i : EInstr} {s : State} {e : At}

/-- An instruction that computes a value for a general register gives that value. -/
theorem givesG_of_value {d : GReg} {w : Word} {f : Bank → Word}
    (hc : exec c s = s.runLocal e i fun k => k.wg d (f k)) (hw : f (s.bank e.k) = w) : GivesG c i s e d w := by
  intro hr
  rw [hc]
  exact runLocal_wroteG (by rw [hw]) hr

/-- An instruction that computes the lanes of a vector register gives those lanes. -/
theorem givesV_of_lanes {d : VReg} {w : Fin 8 → Word} {f : Bank → Lanes}
    (hc : exec c s = s.runLocal e i fun k => k.wv d (f k)) (hw : ∀ j : Fin 8, (f (s.bank e.k))[j] = w j) :
    GivesV c i s e d w := by
  intro hr
  rw [hc, ← funext hw]
  exact runLocal_wroteV rfl hr

/-- An instruction that computes the lanes of an accumulator gives those lanes. -/
theorem givesA_of_lanes {d : AReg} {w : Fin 8 → Word64} {f : Bank → Accs}
    (hc : exec c s = s.runLocal e i fun k => k.wa d (f k)) (hw : ∀ j : Fin 8, (f (s.bank e.k))[j] = w j) :
    GivesA c i s e d w := by
  intro hr
  rw [hc, ← funext hw]
  exact runLocal_wroteA rfl hr

end

@[simp] theorem getElem_lanes2 {α β γ : Type} (f : α → β → γ) (x : Vector α 8) (y : Vector β 8) (j : Fin 8) :
    (lanes2 f x y)[j] = f x[j] y[j] := by
  simp [lanes2]

/-- Settles O7: each value of Table 4-3 is the one its instruction writes. -/
theorem scalarRegisterInstructions : Obligations.ScalarRegisterInstructions := by
  refine ⟨fun e d a b s x y hx hy => ?_, fun e d a s n hn above top =>
    givesG_of_value rfl (clzVal_eq hn above top)⟩
  subst hx hy
  exact ⟨givesG_of_value rfl rfl, givesG_of_value rfl rfl, givesG_of_value rfl rfl, givesG_of_value rfl rfl,
    givesG_of_value rfl rfl, givesG_of_value rfl rfl, givesG_of_value rfl rfl, givesG_of_value rfl rfl,
    givesG_of_value rfl (ofFlag_slt ..), givesG_of_value rfl (ofFlag_ult ..),
    givesG_of_value rfl (ofInt_min_toInt ..), givesG_of_value rfl (ofInt_max_toInt ..),
    givesG_of_value rfl (sat32_eq_limit32 _), givesG_of_value rfl (sat32_eq_limit32 _)⟩

theorem toInt_signExtend_imm (imm : BitVec 16) : (sextImm imm).toInt = imm.toInt :=
  BitVec.toInt_signExtend_of_le (by decide)

/-- The immediate of LUI in the upper half of the word. -/
theorem zextImm_shiftLeft (imm : BitVec 16) : zextImm imm <<< 16 = imm ++ 0#16 := by
  refine BitVec.eq_of_toNat_eq ?_
  have low := imm.isLt
  have append : (imm ++ 0#16 : BitVec (16 + 16)).toNat = imm.toNat * 2 ^ 16 := by
    rw [BitVec.toNat_append, Nat.shiftLeft_eq]
    exact Nat.or_zero _
  refine Eq.trans ?_ append.symm
  simp [zextImm, Nat.shiftLeft_eq]
  omega

/-- Settles O8: each value of Table 4-4 is the one its instruction writes, the fields bit by bit. -/
theorem immediateInstructions : Obligations.ImmediateInstructions := by
  refine ⟨fun e d a imm s x hx => ?_, fun e d a n s x hx => ?_, fun e d a pos len1 s x y w hx hy => ?_⟩
  · subst hx
    exact ⟨givesG_of_value rfl rfl, givesG_of_value rfl rfl, givesG_of_value rfl rfl, givesG_of_value rfl rfl,
      givesG_of_value rfl ((ofFlag_slt ..).trans (by rw [toInt_signExtend_imm])),
      givesG_of_value rfl (ofFlag_ult ..), givesG_of_value rfl rfl, givesG_of_value rfl (zextImm_shiftLeft imm)⟩
  · subst hx
    exact ⟨givesG_of_value rfl rfl, givesG_of_value rfl rfl, givesG_of_value rfl rfl⟩
  · subst hx hy
    exact ⟨fun h => givesG_of_value rfl (fieldVal_ext h), fun h => givesG_of_value rfl (fieldVal_exts h),
      fun h => givesG_of_value rfl (fieldVal_ins h)⟩

/-- Settles O9: the products, quotients and remainders of Table 4-5. -/
theorem multiplyAndDivide : Obligations.MultiplyAndDivide := by
  intro e d a b s x y hx hy
  subst hx hy
  exact ⟨givesG_of_value rfl (mulVal_mul ..), givesG_of_value rfl rfl, givesG_of_value rfl rfl,
    givesG_of_value rfl (divVal_div ..), givesG_of_value rfl rfl, givesG_of_value rfl (divVal_rem ..),
    givesG_of_value rfl (divVal_remu ..)⟩

/-- Settles O10: each lane of the value of Table 4-6 is its function of the lanes of the sources. -/
theorem laneInstructions : Obligations.LaneInstructions := by
  refine ⟨fun e vd va vb s x y hx hy => ?_, fun e vd va n s x hx => ?_⟩
  · subst hx hy
    refine ⟨?_, ?_, ?_, ?_, ?_, ?_, ?_, ?_, ?_, ?_, ?_, ?_, fun vc z hz => ?_⟩
    · exact givesV_of_lanes rfl fun j => getElem_lanes2 ..
    · exact givesV_of_lanes rfl fun j => getElem_lanes2 ..
    · exact givesV_of_lanes rfl fun j => getElem_lanes2 ..
    · exact givesV_of_lanes rfl fun j => getElem_lanes2 ..
    · exact givesV_of_lanes rfl fun j => getElem_lanes2 ..
    · exact givesV_of_lanes rfl fun j => (getElem_lanes2 ..).trans (sat32_eq_limit32 _)
    · exact givesV_of_lanes rfl fun j => (getElem_lanes2 ..).trans (sat32_eq_limit32 _)
    · exact givesV_of_lanes rfl fun j => (getElem_lanes2 ..).trans (ofInt_min_toInt ..)
    · exact givesV_of_lanes rfl fun j => (getElem_lanes2 ..).trans (ofInt_max_toInt ..)
    · exact givesV_of_lanes rfl fun j => (getElem_lanes2 ..).trans (by simp [laneVal, ones])
    · exact givesV_of_lanes rfl fun j => (getElem_lanes2 ..).trans (by simp [laneVal, ones, BitVec.slt])
    · exact givesV_of_lanes rfl fun j => (getElem_lanes2 ..).trans (by simp [laneVal, ones, BitVec.ult])
    · subst hz
      exact givesV_of_lanes rfl fun j => by simp
  · subst hx
    refine ⟨givesV_of_lanes rfl fun j => ?_, givesV_of_lanes rfl fun j => ?_, givesV_of_lanes rfl fun j => ?_,
      givesV_of_lanes rfl fun j => ?_⟩
    · simp [sat32_eq_limit32]
    · simp [shVal]
    · simp [shVal]
    · simp [shVal]

/-- Settles O11: each lane moved, multiplied, accumulated or read out is the value of Tables 4-7 and 4-8. -/
theorem vectorMovesAndAccumulators : Obligations.VectorMovesAndAccumulators := by
  refine ⟨fun e v g lane s => ?_, fun e vd va vb acc s x y z hx hy hz => ?_, fun e v acc sh n s z hz => ?_⟩
  · refine ⟨givesV_of_lanes rfl fun j => ?_, givesG_of_value rfl rfl, givesV_of_lanes rfl fun j => ?_⟩
    · simp
    · by_cases h : j = lane
      · simp [h]
      · have : lane.val ≠ j.val := fun hv => h (Fin.ext hv.symm)
        simp [h, this]
  · subst hx hy hz
    refine ⟨?_, ?_, ?_, ?_⟩
    · exact givesV_of_lanes rfl fun j => getElem_lanes2 ..
    · exact givesV_of_lanes rfl fun j => getElem_lanes2 ..
    · exact givesA_of_lanes rfl fun j => by simp [macVal, sat64_eq]
    · exact givesA_of_lanes rfl fun j => by simp [macVal, sat64_eq]
  · subst hz
    refine ⟨givesV_of_lanes rfl fun j => ?_, givesV_of_lanes rfl fun j => ?_, givesV_of_lanes rfl fun j => ?_,
      givesV_of_lanes rfl fun j => ?_, givesA_of_lanes rfl fun j => ?_, givesA_of_lanes rfl fun j => ?_⟩
    · simp [amovVal, sat32_eq_limit32, sar]
    · simp [amovVal_amovr]
    · simp [ahalfVal_amovl]
    · simp [ahalfVal_amovh]
    · simp [zeroAccs]
    · simp [aldVal_eq]

end Sys2Proof.Machine
end

section
/-! Branches, jumps, calls and returns (R112, R115, R116), as O14 and O16 state them. -/

namespace Sys2Proof.Machine

/-! ## Conditions (Table 4-10) -/

theorem brTaken_bne (x y : Word) : brTaken .bne x y = decide (x ≠ y) := by
  rw [Bool.eq_iff_iff]
  simp [brTaken]

theorem brTaken_bge (x y : Word) : brTaken .bge x y = decide (y.toInt ≤ x.toInt) := by
  rw [Bool.eq_iff_iff]
  simp [brTaken, BitVec.slt]

theorem brTaken_bgeu (x y : Word) : brTaken .bgeu x y = decide (y.toNat ≤ x.toNat) := by
  rw [Bool.eq_iff_iff]
  simp [brTaken, BitVec.ult]

/-! ## Transfers -/

/-- A control instruction, taken or not, where its Easel is ready for it and it touches its bank alone: its stacks and
index are the new bank's, and its registers. -/
theorem runOn_transfer {s : State} {e : At} {i : EInstr} {x : EAct} {b' : Bank} {taken : Bool}
    (hr : Ready s e i taken) (hc : isControl i = true) (ht : x.taken (s.bank e.k) = taken)
    (hf : x.fault s (s.bank e.k) = none) (ha : x.act s (s.bank e.k) = some (b', s)) (hx : x.after = id) :
    ∃ t, Host.Outcome.next (s.runOn e i x) = (.next t : Res) ∧
      (t.bank e.k).pc = b'.pc % 16384 ∧ (t.bank e.k).loops = b'.loops ∧ (t.bank e.k).rets = b'.rets ∧
      (t.bank e.k).g = b'.g ∧ (t.bank e.k).v = b'.v ∧ (t.bank e.k).a = b'.a ∧ KeptOutside s t e.k := by
  subst ht
  have h := runOn_ready (x := x) hr hf ha hx
  obtain ⟨hp, hl⟩ := finish_pc (s.bank e.k) b' i (x.taken (s.bank e.k)) (not_atLoopEnd hr.2.2.2 hc)
  obtain ⟨hg, hv, hacc, hs, -, -⟩ := finish_regs (s.bank e.k) b' i (x.taken (s.bank e.k))
  refine ⟨_, rfl, ?_⟩
  rw [State.bank, h.bank]
  exact ⟨hp, hl, hs, hg, hv, hacc, h.kept⟩

/-- The target of a legal branch is an index (R112). -/
theorem branch_target {b : Bank} {op : BrOp} {x y : GReg} {off : BitVec 14} {taken : Bool}
    (h : b.faultOf (.br op x y off) none taken = none) : (b.pc + off.toNat) % 16384 = b.pc + off.toNat := by
  have legal := illegal_of_faultOf h
  simp only [Bank.illegal, Bool.or_eq_false_iff, decide_eq_false_iff_not] at legal
  exact Nat.mod_eq_of_lt (by omega)

/-- The target of a legal jump is an index (R112). -/
theorem jmp_target {b : Bank} {off : BitVec 14} {taken : Bool} (h : b.faultOf (.jmp off) none taken = none) :
    (b.pc + off.toNat) % 16384 = b.pc + off.toNat := by
  have legal := illegal_of_faultOf h
  simp only [Bank.illegal, Bool.or_eq_false_iff, decide_eq_false_iff_not] at legal
  exact Nat.mod_eq_of_lt (by omega)

/-- A branch goes to its target where its condition holds, and on to the next index otherwise. -/
theorem runBranch_goes {s : State} {e : At} {op : BrOp} {a b : GReg} {off : BitVec 14} {taken : Bool}
    (hr : Ready s e (.br op a b off) taken) (ht : brTaken op ((s.bank e.k).rg a) ((s.bank e.k).rg b) = taken) :
    ∃ t, s.runBranch e op a b off = .next t ∧
      (t.bank e.k).pc = (if taken then (s.bank e.k).pc + off.toNat else ((s.bank e.k).pc + 1) % 16384) ∧
      (t.bank e.k).loops = (if taken then ((s.bank e.k).jumpTo ((s.bank e.k).pc + off.toNat)).loops
        else (s.bank e.k).loops) ∧
      (t.bank e.k).rets = (s.bank e.k).rets ∧ (t.bank e.k).g = (s.bank e.k).g ∧ (t.bank e.k).v = (s.bank e.k).v ∧
      (t.bank e.k).a = (s.bank e.k).a ∧ KeptOutside s t e.k := by
  obtain ⟨t, h, hp, hl, hs, hg, hv, hacc, hk⟩ := runOn_transfer (x :=
    { taken := fun k => brTaken op (k.rg a) (k.rg b)
      act := fun s k =>
        some (if brTaken op (k.rg a) (k.rg b) then k.jumpTo (k.pc + off.toNat) else { k with pc := k.pc + 1 }, s) })
    hr rfl ht rfl rfl rfl
  rw [ht] at hp hl hs hg hv hacc
  refine ⟨t, h, ?_⟩
  cases taken
  · exact ⟨hp, hl, hs, hg, hv, hacc, hk⟩
  · exact ⟨hp.trans (branch_target hr.2.2.2), hl, hs, hg, hv, hacc, hk⟩

/-- Settles O14: the six conditions of Table 4-10, the jump, and the call with its bound. -/
theorem branchesJumpsAndCalls : Obligations.BranchesJumpsAndCalls := by
  refine ⟨fun e a b off s x y hx hy op c taken hm hr => ?_, fun e off s hr => ?_,
    fun e target s hr => ⟨fun h => ?_, fun h => ?_⟩⟩
  · subst hx hy
    simp only [List.mem_cons, Prod.mk.injEq, List.not_mem_nil, or_false] at hm
    rcases hm with ⟨rfl, rfl, rfl⟩ | ⟨rfl, rfl, rfl⟩ | ⟨rfl, rfl, rfl⟩ | ⟨rfl, rfl, rfl⟩ | ⟨rfl, rfl, rfl⟩ |
      ⟨rfl, rfl, rfl⟩
    · exact runBranch_goes hr rfl
    · exact runBranch_goes hr (brTaken_bne ..)
    · exact runBranch_goes hr rfl
    · exact runBranch_goes hr (brTaken_bge ..)
    · exact runBranch_goes hr rfl
    · exact runBranch_goes hr (brTaken_bgeu ..)
  · obtain ⟨t, h, hp, hl, hs, hg, hv, hacc, hk⟩ := runOn_transfer (x :=
      { act := fun s k => some (k.jumpTo (k.pc + off.toNat), s) }) hr rfl rfl rfl rfl rfl
    exact ⟨t, h, hp.trans (jmp_target hr.2.2.2), hl, hs, hg, hv, hacc, hk⟩
  · obtain ⟨t, ht, hp, hl, hs, hg, hv, hacc, hk⟩ := runOn_transfer (x :=
      { fault := fun _ k => if 8 ≤ k.rets.length then some (4, 0) else none
        act := fun s k => some ({ k with rets := (k.pc + 1) % 16384 :: k.rets, pc := target.toNat }, s) }) hr rfl rfl
      (if_neg (Nat.not_le.mpr h)) rfl rfl
    exact ⟨t, ht, hp.trans (Nat.mod_eq_of_lt target.isLt), hs, hl, hg, hv, hacc, hk⟩
  · exact ⟨_, rfl, runOn_faultExit hr (if_pos h)⟩

/-! ## The return stack -/

theorem run_of_issues {s : State} {k : Fin 8} (h : s.issues k = true) : s.easels[k].run = .running := by
  simp only [State.issues, Bool.and_eq_true, beq_iff_eq] at h
  exact h.1.1.2

/-- An Easel that ran an instruction without a fault runs on. -/
theorem runOn_running {s : State} {e : At} {i : EInstr} {x : EAct} {b' : Bank}
    (hr : Ready s e i (x.taken (s.bank e.k))) (hf : x.fault s (s.bank e.k) = none)
    (ha : x.act s (s.bank e.k) = some (b', s)) (hx : x.after = id) : (s.runOn e i x).easels[e.k].run = .running :=
  (run_of_still (runOn_ready hr hf ha hx).still).trans (run_of_issues hr.1)

/-- Settles O16: RET faults exactly on an empty stack or under an open loop, and END leaves the stacks of the bank it
restores, or none. -/
theorem returnStackFaults : Obligations.ReturnStackFaults := by
  refine fun e s => ⟨fun hr => ⟨_, rfl, fun h => runOn_faultExit hr (if_pos h), fun hs hl => ?_⟩, fun hr => ?_⟩
  · exact runOn_running hr (if_neg (by simp [hs, hl])) rfl rfl
  · obtain ⟨u, hu, hs⟩ := endI_ends hr
    refine ⟨_, hu, ?_⟩
    rw [State.bank, bank_stepped, ← hs]
    cases h : u.easels[e.k].shadow with
    | none =>
      obtain ⟨-, loops, rets⟩ := endTask_idle h
      exact ⟨rets, loops⟩
    | some b =>
      obtain ⟨-, restored, -⟩ := endTask_restores h
      rw [restored]
      exact ⟨rfl, rfl⟩

end Sys2Proof.Machine
end

section
/-! The asynchronous fabric operations (R122, R123), as O19 states them. -/

namespace Sys2Proof.Machine

/-- The operations whose value is a descriptor's address. -/
def takesDescriptor (op : AsyncOp) : Prop := op = .fgrant ∨ op = .fpput ∨ op = .fpget

theorem asyncFault_descriptor {op : AsyncOp} (h : takesDescriptor op) (v fifo : Nat) : asyncFault op v fifo =
    if v % 32 ≠ 0 then some (6, lo32 v) else if !inAtelier v 32 then some (7, lo32 v)
    else if 8 ≤ fifo then some (10, 0) else none := by
  rcases h with rfl | rfl | rfl <;> simp [asyncFault]

theorem asyncFault_plain {op : AsyncOp} (h : ¬takesDescriptor op) (v fifo : Nat) :
    asyncFault op v fifo = if 8 ≤ fifo then some (10, 0) else none := by
  cases op <;> simp [asyncFault, takesDescriptor] at h ⊢

theorem inAtelier_iff (v n : Nat) : inAtelier v n = true ↔ 0x1000000 ≤ v ∧ v + n ≤ 0x1400000 := by
  simp only [inAtelier, Bool.and_eq_true, decide_eq_true_eq]
  exact Iff.rfl

/-- Where a descriptor's address is good, the FIFO alone decides (R122). -/
theorem asyncFault_good {op : AsyncOp} {v : Nat}
    (h : takesDescriptor op → v % 32 = 0 ∧ 0x1000000 ≤ v ∧ v + 32 ≤ 0x1400000) (fifo : Nat) :
    asyncFault op v fifo = if 8 ≤ fifo then some (10, 0) else none := by
  by_cases hd : takesDescriptor op
  · obtain ⟨aligned, inside⟩ := h hd
    rw [asyncFault_descriptor hd, if_neg (by simp [aligned]), if_neg (by simp [(inAtelier_iff v 32).mpr inside])]
  · exact asyncFault_plain hd v fifo

theorem asyncFault_misaligned {op : AsyncOp} {v : Nat} (hd : takesDescriptor op) (h : v % 32 ≠ 0) (fifo : Nat) :
    asyncFault op v fifo = some (6, lo32 v) := by
  rw [asyncFault_descriptor hd, if_pos h]

theorem asyncFault_outside {op : AsyncOp} {v : Nat} (hd : takesDescriptor op) (ha : v % 32 = 0)
    (h : v < 0x1000000 ∨ 0x1400000 < v + 32) (fifo : Nat) : asyncFault op v fifo = some (7, lo32 v) := by
  have outside : ¬ inAtelier v 32 = true := by
    rw [inAtelier_iff]
    omega
  rw [asyncFault_descriptor hd, if_neg (by simp [ha]), if_pos (by simpa using outside)]

/-- The act of an asynchronous operation (R122). -/
def asyncAct (e : At) (op : AsyncOp) (r : GReg) (task : BitVec 11) (slot : Fin 4) : EAct :=
  { fault := fun s k => asyncFault op (k.rg r).toNat s.easels[e.k].fifo.length
    act := fun s k => some ({ k with pc := k.pc + 1 }, s.request e.k k.task op (k.rg r) task.toNat slot) }

theorem runAsync_eq (s : State) (e : At) (op : AsyncOp) (r : GReg) (task : BitVec 11) (slot : Fin 4) :
    s.runAsync e op r task slot = .next (s.runOn e (.async op r task slot) (asyncAct e op r task slot)) := rfl

theorem pushReq_fifo (s : State) (k : Fin 8) (x : FabReq) :
    (s.pushReq k x).easels[k].fifo = s.easels[k].fifo ++ [x] := by
  rw [State.pushReq, easels_modEasel_self]

/-- An operation whose output is not held joins its Easel's FIFO. -/
theorem runAsync_joins {s : State} {e : At} {op : AsyncOp} {r : GReg} {task : BitVec 11} {slot : Fin 4}
    (hr : Ready s e (.async op r task slot)) (free : s.holding (s.bank e.k).task = false)
    (hf : asyncFault op ((s.bank e.k).rg r).toNat s.easels[e.k].fifo.length = none) :
    ∃ t x, s.runAsync e op r task slot = .next t ∧ t.easels[e.k].fifo = s.easels[e.k].fifo ++ [x] ∧ x.op = op ∧
      x.value = (s.bank e.k).rg r ∧ x.task = task.toNat ∧ x.slot = slot.val ∧ x.flow = (s.bank e.k).task.flow ∧
      (t.bank e.k).g = (s.bank e.k).g ∧ OnlyRecords s { t with easels := s.easels } := by
  let x : FabReq :=
    { op := op, value := (s.bank e.k).rg r, task := task.toNat, slot := slot, flow := (s.bank e.k).task.flow
      issuer := (s.bank e.k).task.task, urgent := (s.bank e.k).task.urgent, level := (s.bank e.k).task.level
      epoch := (s.bank e.k).task.epoch }
  have h := runOn_ready (s' := s.pushReq e.k x) (b' := { s.bank e.k with pc := (s.bank e.k).pc + 1 })
    (x := asyncAct e op r task slot) hr hf (by
      simp only [asyncAct, State.request, free, Bool.false_eq_true, if_false]
      rfl) rfl
  obtain ⟨hg, -⟩ := finish_regs (s.bank e.k) { s.bank e.k with pc := (s.bank e.k).pc + 1 } (.async op r task slot) false
  refine ⟨_, x, runAsync_eq .., h.kept.2.2.2.2.2.2.1.trans (pushReq_fifo ..), rfl, rfl, rfl, rfl, rfl, ?_,
    h.records.easels s.easels⟩
  rw [State.bank, h.bank]
  exact hg

/-- Settles O19: a good value joins a FIFO with room, and the faults come in the order of R122. -/
theorem asynchronousFabricOperations : Obligations.AsynchronousFabricOperations := by
  intro e r task slot s op c v hm hv hr free desc
  have hc : exec c s = s.runAsync e op r task slot := by
    simp only [List.mem_cons, Prod.mk.injEq, List.not_mem_nil, or_false] at hm
    rcases hm with ⟨rfl, rfl⟩ | ⟨rfl, rfl⟩ | ⟨rfl, rfl⟩ | ⟨rfl, rfl⟩ | ⟨rfl, rfl⟩ <;> rfl
  subst hv
  rw [hc]
  have faults : ∀ {code : Nat} {addr : Word},
      asyncFault op ((s.bank e.k).rg r).toNat s.easels[e.k].fifo.length = some (code, addr) →
      ∃ t, s.runAsync e op r task slot = .next t ∧ t.easels[e.k].faultCode = code ∧
        t.easels[e.k].run = .faultExit := fun h =>
    ⟨_, runAsync_eq .., (runOn_faultExit (x := asyncAct e op r task slot) hr h).symm⟩
  refine ⟨fun good room => ?_, fun hd h => ?_, fun hd ha h => ?_, fun good full => ?_⟩
  · exact runAsync_joins hr free ((asyncFault_good good _).trans (if_neg (Nat.not_le.mpr room)))
  · exact faults (asyncFault_misaligned hd h _)
  · exact faults (asyncFault_outside hd ha h _)
  · exact faults ((asyncFault_good good _).trans (if_pos full))

end Sys2Proof.Machine
end

section
/-! Memory accesses of an Easel (R109 to R111, Table 4-9): the bank after an access, the bytes of a load, the marks of a
store, and the faults of an address. -/

namespace Sys2Proof.Machine

/-! ## Registers of a bank -/

/-- Reading a general register after a write: a write to g0 is discarded (Table 3-1). -/
theorem rg_wg (b : Bank) (d r : GReg) (w : Word) : (b.wg d w).rg r = if r = d ∧ r ≠ 0 then w else b.rg r := by
  unfold Bank.rg Bank.wg
  by_cases hr : r = 0
  · simp [hr]
  · by_cases hrd : r = d
    · subst hrd
      simp [hr]
    · have hne : (d : Nat) ≠ r := fun h => hrd (Fin.ext h.symm)
      rw [if_neg hr, if_neg hr, if_neg (fun h => hrd h.1 : ¬(r = d ∧ r ≠ 0))]
      split
      · rfl
      · simp [hne]

theorem rg_wg_self (b : Bank) {d : GReg} (h : d ≠ 0) (w : Word) : (b.wg d w).rg d = w := by
  rw [rg_wg, if_pos ⟨rfl, h⟩]

theorem rg_wg_other (b : Bank) {d r : GReg} (h : r ≠ d ∨ r = 0) (w : Word) : (b.wg d w).rg r = b.rg r := by
  rw [rg_wg, if_neg fun hd => h.elim (fun h => h hd.1) hd.2]

theorem rv_wv_self (b : Bank) (d : VReg) (x : Lanes) : (b.wv d x).rv d = x := by simp [Bank.rv, Bank.wv]

theorem rv_wv_other (b : Bank) {d r : VReg} (h : r ≠ d) (x : Lanes) : (b.wv d x).rv r = b.rv r := by
  have hne : (d : Nat) ≠ r := fun hd => h (Fin.ext hd.symm)
  simp [Bank.rv, Bank.wv, hne]

/-- What of a bank a write to a general register leaves. -/
def Bank.course (b : Bank) : Vector Lanes 16 × Vector Accs 4 × List Nat × TaskCtx × List LoopE × Nat :=
  (b.v, b.a, b.rets, b.task, b.loops, b.pc)

theorem course_wg (b : Bank) (d : GReg) (w : Word) : (b.wg d w).course = b.course := by
  unfold Bank.wg
  split <;> rfl

theorem rg_of_g {b c : Bank} (h : c.g = b.g) (r : GReg) : c.rg r = b.rg r := by rw [Bank.rg, Bank.rg, h]

theorem rv_of_v {b c : Bank} (h : c.v = b.v) (r : VReg) : c.rv r = b.rv r := by rw [Bank.rv, Bank.rv, h]

/-- An instruction that goes on at the next index and leaves the stacks and the task. -/
theorem finish_next {b c : Bank} (i : EInstr) (hr : c.rets = b.rets) (ht : c.task = b.task) (hl : c.loops = b.loops)
    (hp : c.pc = b.pc + 1) : WentOn b (b.finish c i false) := by
  have h := finish_wentOn (c := c) i hr ht hl
  rwa [← hp] at h

/-- The base update, and what it leaves (R110). -/
theorem accessed_rg (b : Bank) (a : GReg) (post : Bool) (off : BitVec 15) (r : GReg) : (b.accessed a post off).rg r =
    if post = true ∧ r = a ∧ r ≠ 0 then b.rg a + off.signExtend 32 else b.rg r := by
  have h : (b.accessed a post off).rg r = (b.postInc a post off).rg r := rfl
  rw [h, Bank.postInc]
  cases post
  · simp
  · simp only [if_true, true_and, rg_wg, sextOff]

theorem accessed_course (b : Bank) (a : GReg) (post : Bool) (off : BitVec 15) :
    (b.accessed a post off).course = ({ b with pc := b.pc + 1 } : Bank).course := by
  unfold Bank.accessed Bank.postInc
  cases post
  · rfl
  · have h := course_wg b a (b.rg a + sextOff off)
    simp only [Bank.course, Prod.mk.injEq] at h ⊢
    obtain ⟨hv, ha, hr, ht, hl, -⟩ := h
    exact ⟨hv, ha, hr, ht, hl, trivial⟩

/-! ## The bank after an access -/

/-- The general registers after an access whose base is `a`, but for a register that is loaded. -/
def baseMoved (b : Bank) (a : GReg) (post : Bool) (off : BitVec 15) (r : GReg) : Word :=
  if post = true ∧ r = a ∧ r ≠ 0 then b.rg a + off.signExtend 32 else b.rg r

section
variable (b : Bank) (i : EInstr) (a : GReg) (post : Bool) (off : BitVec 15)

/-- A bank whose stacks and task are those of the access goes on at the next index. -/
theorem finish_accessed {c : Bank} (h : c.course = (b.accessed a post off).course) :
    (b.finish c i false).v = b.v ∧ (b.finish c i false).a = b.a ∧ WentOn b (b.finish c i false) := by
  have hc := h.trans (accessed_course b a post off)
  simp only [Bank.course, Prod.mk.injEq] at hc
  obtain ⟨hv, ha, hr, ht, hl, hp⟩ := hc
  obtain ⟨-, fv, fa, -⟩ := finish_regs b c i false
  exact ⟨fv.trans hv, fa.trans ha, finish_next i hr ht hl hp⟩

/-- A load into a general register. -/
theorem finish_loadG (t : GReg) (w : Word) :
    let c := b.finish ((b.accessed a post off).wg t w) i false
    (t ≠ 0 → c.rg t = w) ∧ (∀ r, r ≠ t ∨ r = 0 → c.rg r = baseMoved b a post off r) ∧
    c.v = b.v ∧ c.a = b.a ∧ WentOn b c := by
  obtain ⟨fg, -⟩ := finish_regs b ((b.accessed a post off).wg t w) i false
  refine ⟨fun ht => (rg_of_g fg t).trans (rg_wg_self _ ht w), fun r hr => ?_,
    finish_accessed b i a post off (course_wg ..)⟩
  rw [rg_of_g fg, rg_wg_other _ hr, accessed_rg, baseMoved]

/-- A load into a vector register. -/
theorem finish_loadV (v : VReg) (x : Lanes) :
    let c := b.finish ((b.accessed a post off).wv v x) i false
    c.rv v = x ∧ (∀ r, r ≠ v → c.rv r = b.rv r) ∧ (∀ r, c.rg r = baseMoved b a post off r) ∧
    c.a = b.a ∧ WentOn b c := by
  have hc := accessed_course b a post off
  simp only [Bank.course, Prod.mk.injEq] at hc
  obtain ⟨hv, ha, hr, ht, hl, hp⟩ := hc
  obtain ⟨fg, fv, fa, -⟩ := finish_regs b ((b.accessed a post off).wv v x) i false
  refine ⟨(rv_of_v fv v).trans (rv_wv_self ..), fun r hrv => ?_, fun r => ?_, fa.trans ha, finish_next i hr ht hl hp⟩
  · rw [rv_of_v fv, rv_wv_other _ hrv, rv_of_v hv]
  · exact (rg_of_g fg r).trans (accessed_rg b a post off r)

/-- A store writes no register but the base. -/
theorem finish_store :
    let c := b.finish (b.accessed a post off) i false
    (∀ r, c.rg r = baseMoved b a post off r) ∧ c.v = b.v ∧ c.a = b.a ∧ WentOn b c := by
  obtain ⟨fg, -⟩ := finish_regs b (b.accessed a post off) i false
  exact ⟨fun r => (rg_of_g fg r).trans (accessed_rg b a post off r), finish_accessed b i a post off rfl⟩

end

/-! ## What an access leaves of the state -/

theorem Issued.setDraws {s t : State} {k : Fin 8} {b : Bank} (h : Issued s t k b) (n : Nat) :
    Issued { s with draws := n } { t with draws := n } k b where
  bank := h.bank
  still := h.still
  others := h.others
  records := by
    have h2 := congrArg (fun u : State => { u with draws := n }) h.records
    exact h2

theorem Issued.setAtelier {s t : State} {k : Fin 8} {b : Bank} (h : Issued s t k b) (x : Atelier) :
    Issued { s with atelier := x } { t with atelier := x } k b where
  bank := h.bank
  still := h.still
  others := h.others
  records := by
    have h2 := congrArg (fun u : State => { u with atelier := x }) h.records
    exact h2

theorem issued_scratchCorrected (k : Fin 8) (ms : List Ecc) (s : State) (ea : Nat) :
    Issued s (s.scratchCorrected k ms ea) k s.easels[k].bank := by
  induction ms generalizing s ea with
  | nil => exact Issued.refl s k
  | cons m ms ih =>
    rw [State.scratchCorrected]
    split
    · have h := issued_modEmit s k (fun x => { x with scrCorr := satAdd 16 x.scrCorr 1 }) evEccCorrected k 1 ea 0 rfl rfl
      exact h.trans ((ih ..).of_bank h.bank)
    · exact ih ..

theorem issued_atelierCorrected (k : Fin 8) (ms : List Ecc) (s : State) (ea : Nat) :
    Issued s (s.atelierCorrected ms ea) k s.easels[k].bank := by
  induction ms generalizing s ea with
  | nil => exact Issued.refl s k
  | cons m ms ih =>
    rw [State.atelierCorrected]
    split
    · have h := issued_emit s k evEccCorrected 8 2 ea 0
      exact h.trans ((ih ..).of_bank h.bank)
    · exact ih ..

/-! ## Words with a defined content -/

theorem readDefined_state (s : State) (ok : Nat → Bool) (a : Nat) (bs : List Byte) :
    ∃ n, (s.readDefined ok a bs).2 = { s with draws := n } := by
  unfold State.readDefined
  split
  · exact ⟨s.draws, rfl⟩
  · exact ⟨s.draws + 1, rfl⟩

/-- The bytes of a word with a defined content are those of memory. -/
theorem readDefined_word (s : State) {ok : Nat → Bool} {a j : Nat} {bs : List Byte} (h : ok (a / 4 + j) = true)
    (hj : 4 * j + 4 ≤ bs.length) : bytesAt (s.readDefined ok a bs).1 (4 * j) 4 = bytesAt bs (4 * j) 4 := by
  unfold State.readDefined
  split
  · rfl
  · unfold bytesAt
    dsimp only
    have same : (((List.range bs.length).map fun i => if ok (a / 4 + i / 4) = true then bs.getD i 0
        else (toLE bs.length s.draw.1).getD i 0).drop (4 * j)).take 4 = (bs.drop (4 * j)).take 4 := by
      refine List.ext_getElem (by simp) fun i hi hi' => ?_
      simp only [List.length_take, List.length_drop] at hi'
      have word : (4 * j + i) / 4 = j := by omega
      simp [word, h, show 4 * j + i < bs.length by omega]
    rw [same]

theorem bytesAt_memBytes (m : Tbl Byte) {a off n len : Nat} (h : off + n ≤ len) :
    bytesAt (memBytes m a len) off n = memBytes m (a + off) n := by
  have same : ((memBytes m a len).drop off).take n = memBytes m (a + off) n := by
    refine List.ext_getElem (by simp [memBytes]; omega) fun i hi hi' => ?_
    simp [memBytes, Nat.add_assoc]
  simp only [bytesAt, same]
  simp [memBytes]

theorem length_memBytes (m : Tbl Byte) (a len : Nat) : (memBytes m a len).length = len := by simp [memBytes]

/-- A word of a load with a defined content is the word of memory. -/
theorem readDefined_memWord (s : State) {ok : Nat → Bool} (m : Tbl Byte) {a j len : Nat} (h : ok (a / 4 + j) = true)
    (hj : 4 * j + 4 ≤ len) :
    BitVec.ofNat 32 (leAt (s.readDefined ok a (memBytes m a len)).1 (4 * j) 4) = memWord m (a + 4 * j) := by
  rw [leAt, readDefined_word s h (by rwa [length_memBytes]), bytesAt_memBytes m hj, memWord]

theorem length_readDefined (s : State) (ok : Nat → Bool) (a : Nat) (bs : List Byte) :
    (s.readDefined ok a bs).1.length = bs.length := by
  unfold State.readDefined
  split
  · rfl
  · simp

/-! ## Faults of an address -/

theorem accessFault_none {ea len code : Nat} {inside bad : Bool} (ha : ea % len = 0) (hi : inside = true)
    (hb : bad = false) : accessFault ea len inside bad code = none := by
  simp [accessFault, ha, hi, hb]

theorem poisoned_iff (p : Tbl Bool) (a len : Nat) :
    poisoned p a len = false ↔ ∀ i < len / 4, tblGet noMark p (a / 4 + i) = false := by
  simp [poisoned]

theorem contains_uncorrectable {n : Nat} {ms : Vector Ecc n} (h : ∀ i : Fin n, ms[i] ≠ .uncorrectable) :
    ms.toList.contains .uncorrectable = false := by
  rw [List.contains_eq_mem, decide_eq_false_iff_not]
  intro hm
  obtain ⟨i, hi, he⟩ := List.getElem_of_mem hm
  exact h ⟨i, by simpa using hi⟩ (by simpa using he)

end Sys2Proof.Machine
end

section
/-! Scratch and the Atelier, as O12 and O13 state them (R109 to R111, Tables 3-6 and 4-9). -/

namespace Sys2Proof.Machine

/-! ## Loads -/

section
variable {s : State} {e : At} {i : EInstr} {a : GReg} {post : Bool} {off : BitVec 15}
  {fault : State → Bank → Option (Nat × Word)}

/-- A load of bytes into a general register; what reads them leaves all but records and free values. -/
theorem runOn_loadG {t : GReg} {load : State → Bank → List Byte × State} (hr : Ready s e i)
    (hf : fault s (s.bank e.k) = none)
    (hs : Issued s { (load s (s.bank e.k)).2 with draws := s.draws } e.k (s.bank e.k)) :
    ∃ u, Host.Outcome.next (s.runOn e i
        { fault := fault
          act := fun s b =>
            let (bs, s) := load s b
            some ((b.accessed a post off).wg t (wordOf bs), s) }) = (.next u : Res) ∧
      (t ≠ 0 → (u.bank e.k).rg t = wordOf (load s (s.bank e.k)).1) ∧
      (∀ r, r ≠ t ∨ r = 0 → (u.bank e.k).rg r = baseMoved (s.bank e.k) a post off r) ∧
      (u.bank e.k).v = (s.bank e.k).v ∧ (u.bank e.k).a = (s.bank e.k).a ∧ WentOn (s.bank e.k) (u.bank e.k) ∧
      KeptOutside s { u with draws := s.draws } e.k := by
  have h := hs.trans ((runOn_ready
    (b' := ((s.bank e.k).accessed a post off).wg t (wordOf (load s (s.bank e.k)).1))
    (x := { fault := fault
            act := fun s b =>
              let (bs, s) := load s b
              some ((b.accessed a post off).wg t (wordOf bs), s) }) hr hf rfl rfl).setDraws s.draws)
  obtain ⟨ht, hg, hv, hacc, hw⟩ := finish_loadG (s.bank e.k) i a post off t (wordOf (load s (s.bank e.k)).1)
  rw [← h.bank] at ht hg hv hacc hw
  exact ⟨_, rfl, ht, hg, hv, hacc, hw, h.kept⟩

/-- A load of bytes into a vector register. -/
theorem runOn_loadV {v : VReg} {load : State → Bank → List Byte × State} (hr : Ready s e i)
    (hf : fault s (s.bank e.k) = none)
    (hs : Issued s { (load s (s.bank e.k)).2 with draws := s.draws } e.k (s.bank e.k)) :
    ∃ u, Host.Outcome.next (s.runOn e i
        { fault := fault
          act := fun s b =>
            let (bs, s) := load s b
            some ((b.accessed a post off).wv v (lanesOfBytes bs), s) }) = (.next u : Res) ∧
      (u.bank e.k).rv v = lanesOfBytes (load s (s.bank e.k)).1 ∧
      (∀ r, r ≠ v → (u.bank e.k).rv r = (s.bank e.k).rv r) ∧
      (∀ r, (u.bank e.k).rg r = baseMoved (s.bank e.k) a post off r) ∧
      (u.bank e.k).a = (s.bank e.k).a ∧ WentOn (s.bank e.k) (u.bank e.k) ∧
      KeptOutside s { u with draws := s.draws } e.k := by
  have h := hs.trans ((runOn_ready
    (b' := ((s.bank e.k).accessed a post off).wv v (lanesOfBytes (load s (s.bank e.k)).1))
    (x := { fault := fault
            act := fun s b =>
              let (bs, s) := load s b
              some ((b.accessed a post off).wv v (lanesOfBytes bs), s) }) hr hf rfl rfl).setDraws s.draws)
  obtain ⟨hd, hv, hg, hacc, hw⟩ := finish_loadV (s.bank e.k) i a post off v (lanesOfBytes (load s (s.bank e.k)).1)
  rw [← h.bank] at hd hv hg hacc hw
  exact ⟨_, rfl, hd, hv, hg, hacc, hw, h.kept⟩

/-- A store: the registers but for the base are as before, and the rest is what the store made of it. -/
theorem runOn_store {store : State → Bank → State} (hr : Ready s e i) (hf : fault s (s.bank e.k) = none) :
    ∃ u, Host.Outcome.next (s.runOn e i
        { fault := fault, act := fun s b => some (b.accessed a post off, store s b) }) = (.next u : Res) ∧
      Issued (store s (s.bank e.k)) u e.k (u.bank e.k) ∧
      (∀ r, (u.bank e.k).rg r = baseMoved (s.bank e.k) a post off r) ∧
      (u.bank e.k).v = (s.bank e.k).v ∧ (u.bank e.k).a = (s.bank e.k).a ∧ WentOn (s.bank e.k) (u.bank e.k) := by
  have h := runOn_ready (b' := (s.bank e.k).accessed a post off) (s' := store s (s.bank e.k))
    (x := { fault := fault, act := fun s b => some (b.accessed a post off, store s b) }) hr hf rfl rfl
  obtain ⟨hg, hv, hacc, hw⟩ := finish_store (s.bank e.k) i a post off
  rw [← h.bank] at hg hv hacc hw
  exact ⟨_, rfl, h.of_bank h.bank.symm, hg, hv, hacc, hw⟩

end

theorem scratchLoad_issued (s : State) (k : Fin 8) (ms : List Ecc) (ea len : Nat) :
    Issued s { (s.scratchLoad k ms ea len).2 with draws := s.draws } k s.easels[k].bank := by
  obtain ⟨n, h⟩ := readDefined_state (s.scratchCorrected k ms ea) s.easels[k].defined ea (s.scratchBytes k ea len)
  rw [State.scratchLoad, h]
  exact (issued_scratchCorrected k ms s ea).setDraws s.draws

theorem atelierLoad_issued (s : State) (k : Fin 8) (ms : List Ecc) (ea len : Nat) :
    Issued s { (s.atelierLoad k ms ea len).2 with draws := s.draws } k s.easels[k].bank := by
  obtain ⟨n, h⟩ := readDefined_state (s.atelierCorrected ms ea) (s.atelier.defined k) (ea - atlBase)
    (s.atelier.bytes ea len)
  rw [State.atelierLoad, h]
  exact (issued_atelierCorrected k ms s ea).setDraws s.draws

/-- A word loaded alone, where it has a defined content. -/
theorem wordOf_readDefined (s : State) {ok : Nat → Bool} (m : Tbl Byte) {a : Nat} (h : ok (a / 4) = true) :
    wordOf (s.readDefined ok a (memBytes m a 4)).1 = memWord m a := by
  have whole := bytesAt_whole (s.readDefined ok a (memBytes m a 4)).1
  rw [length_readDefined, length_memBytes] at whole
  have word := readDefined_memWord s m (j := 0) (len := 4) (a := a) (ok := ok) h (by omega)
  rwa [leAt, Nat.mul_zero, whole] at word

/-- A lane of a load of 256 bits, where its word has a defined content. -/
theorem lanesOfBytes_readDefined (s : State) {ok : Nat → Bool} (m : Tbl Byte) {a : Nat} {i : Fin 8}
    (h : ok (a / 4 + i) = true) : (lanesOfBytes (s.readDefined ok a (memBytes m a 32)).1)[i] = memWord m (a + 4 * i) := by
  rw [← readDefined_memWord s m h (len := 32) (by omega)]
  simp [lanesOfBytes]

/-! ## Faults -/

theorem scratchFault_none {s : State} {k : Fin 8} {len ea : Nat} {load : Bool} {ms : List Ecc} (ha : ea % len = 0)
    (hi : ea + len ≤ 0x20000)
    (hb : load = true → ms.contains .uncorrectable = false ∧ poisoned s.easels[k].scrPoison ea len = false) :
    s.scratchFault k len load ms ea = none := by
  refine accessFault_none ha (decide_eq_true hi) ?_
  cases load
  · rfl
  · obtain ⟨hm, hp⟩ := hb rfl
    rw [hm, hp]
    rfl

theorem atelierFault_none {s : State} {len ea : Nat} {load : Bool} {ms : List Ecc} (ha : ea % len = 0)
    (lo : 0x1000000 ≤ ea) (hi : ea + len ≤ 0x1400000)
    (hb : load = true → ms.contains .uncorrectable = false ∧ poisoned s.atelier.poison (ea - atlBase) len = false) :
    s.atelierFault len load ms ea = none := by
  refine accessFault_none ha ((inAtelier_iff ea len).mpr ⟨lo, hi⟩) ?_
  cases load
  · rfl
  · obtain ⟨hm, hp⟩ := hb rfl
    rw [hm, hp]
    rfl

theorem contains_single {m : Ecc} (h : m ≠ .uncorrectable) : [m].contains .uncorrectable = false := by
  simp [Ne.symm h]

theorem poisoned_word {p : Tbl Bool} {a : Nat} (h : tblGet noMark p (a / 4) = false) : poisoned p a 4 = false := by
  rw [poisoned_iff]
  intro i hi
  obtain rfl : i = 0 := by omega
  exact h

/-- A fault of an access leaves registers and scratch, and shows the address. -/
theorem runOn_accessFault {s : State} {e : At} {i : EInstr} {x : EAct} {code : Nat} {addr : Word} (hr : Ready s e i)
    (hf : x.fault s (s.bank e.k) = some (code, addr)) :
    (s.runOn e i x).easels[e.k].run = .faultExit ∧ (s.runOn e i x).easels[e.k].faultCode = code ∧
    (s.runOn e i x).easels[e.k].faultAddr = addr ∧
    (s.runOn e i x).easels[e.k].scratch = s.easels[e.k].scratch ∧
    ((s.runOn e i x).bank e.k).g = (s.bank e.k).g := by
  have hc := issued_fetchCorrected s e s.easels[e.k]
  obtain ⟨-, -, -, hscratch, -⟩ := hc.kept
  rw [runOn_faults hr hf, State.bank]
  obtain ⟨f, h, st, he⟩ := easelFault_easel (s.fetchCorrected e s.easels[e.k]) e.k code addr
  rw [he]
  refine ⟨rfl, rfl, rfl, hscratch, ?_⟩
  have hg := congrArg Bank.g hc.bank
  exact hg

/-! ## Stores into scratch -/

theorem tblGet_marks (t : Tbl Bool) (a n w : Nat) :
    tblGet noMark ((List.range n).foldl (fun t i => tblPut noMark t (a + i) true) t) w =
      (tblGet noMark t w || (decide (a ≤ w) && decide (w < a + n))) := by
  induction n with
  | zero => simp
  | succ n ih =>
    rw [List.range_succ, List.foldl_append, List.foldl_cons, List.foldl_nil]
    by_cases h : w = a + n
    · rw [h, tblGet_put_of_ne (by simp [noMark])]
      simp
    · rw [tblGet_put_ne h, ih]
      congr 2
      rw [decide_eq_decide]
      omega

/-- Words that are written have a defined content from then on (R84). -/
theorem defined_define (x : Easel) (a len w : Nat) : ({ x with scrKnown := x.define a len } : Easel).defined w =
    (x.defined w || (decide (a / 4 ≤ w) && decide (w < a / 4 + len / 4))) := by
  unfold Easel.defined Easel.define
  cases x.scrKnown with
  | none => rfl
  | some t => exact tblGet_marks t (a / 4) (len / 4) w

theorem defined_of_known {x y : Easel} (h : x.scrKnown = y.scrKnown) (w : Nat) : x.defined w = y.defined w := by
  rw [Easel.defined, Easel.defined, h]

/-- What a store of bytes into scratch leaves and changes. -/
structure ScratchStored (s u : State) (k : Fin 8) (ea : Nat) (bs : List Byte) : Prop where
  scratch : u.easels[k].scratch = memWrite s.easels[k].scratch ea bs
  outside : ∀ x, x < ea ∨ ea + bs.length ≤ x →
    tblGet zeroByte u.easels[k].scratch x = tblGet zeroByte s.easels[k].scratch x
  defined : ∀ w, u.easels[k].defined w =
    (s.easels[k].defined w || (decide (ea / 4 ≤ w) && decide (w < ea / 4 + bs.length / 4)))
  others : ∀ j, j ≠ k → u.easels[j] = s.easels[j]
  records : OnlyRecords s { u with easels := s.easels }

theorem scratchStored_of_issued {s u : State} {k : Fin 8} {ea : Nat} {bs : List Byte} {b : Bank}
    (h : Issued (s.scratchStore k ea bs) u k b) : ScratchStored s u k ea bs := by
  obtain ⟨-, -, -, hscratch, -, -, -, -, hknown, -⟩ := h.kept
  have own := easels_modEasel_self s k fun x =>
    { x with scratch := memWrite x.scratch ea bs
             scrKnown := x.define ea bs.length
             scrPoison := clearPoison x.scrPoison ea bs.length }
  have stored : u.easels[k].scratch = memWrite s.easels[k].scratch ea bs :=
    hscratch.trans (congrArg Easel.scratch own)
  refine ⟨stored, fun x hx => ?_, fun w => ?_, fun j hj => (h.others j hj).trans (easels_modEasel_ne s _ hj),
    h.records.easels s.easels⟩
  · rw [stored]
    exact tblGet_putList_ne hx
  · rw [← defined_define]
    exact defined_of_known (hknown.trans (congrArg Easel.scrKnown own)) w

theorem length_bytesOfLanes (x : Lanes) : (bytesOfLanes x).length = 32 := by
  simp [bytesOfLanes, length_toLE]

/-- Settles O12: loads, stores and their faults in scratch. -/
theorem scratchAccesses : Obligations.ScratchAccesses := by
  refine ⟨fun e m t a post off s ea hea => ⟨fun hr hm ha hi hp => ?_, fun hr ha hi => ?_⟩,
    fun e m ms v a post off s ea hea => ⟨fun hr hm ha hi hp => ?_, fun hr ha hi => ?_⟩,
    fun e m t a post off s ea hea hr h => ?_⟩
  all_goals subst hea
  · obtain ⟨u, hu, ht, rest⟩ := runOn_loadG (t := t) (a := a) (post := post) (off := off)
      (fault := fun s b => s.scratchFault e.k 4 true [m] (b.ea a post off))
      (load := fun s b => s.scratchLoad e.k [m] (b.ea a post off) 4) hr
      (scratchFault_none ha hi fun _ => ⟨contains_single hm, poisoned_word hp⟩) (scratchLoad_issued ..)
    exact ⟨u, hu, fun h0 hd => (ht h0).trans (wordOf_readDefined _ _ hd), rest⟩
  · obtain ⟨u, hu, h, hg, hv, hacc, hw⟩ := runOn_store (a := a) (post := post) (off := off)
      (fault := fun s b => s.scratchFault e.k 4 false [m] (b.ea a post off))
      (store := fun s b => s.scratchStore e.k (b.ea a post off) (toLE 4 (b.rg t).toNat)) hr
      (scratchFault_none ha hi nofun)
    obtain ⟨stored, outside, defined, others, records⟩ := scratchStored_of_issued h
    rw [length_toLE] at outside defined
    refine ⟨u, hu, stored, outside, fun w => ?_, hg, hv, hacc, hw, others, records⟩
    rw [defined w, Bool.eq_iff_iff]
    simp only [Bool.or_eq_true, Bool.and_eq_true, decide_eq_true_eq, beq_iff_eq]
    exact or_congr_right (by omega)
  · obtain ⟨u, hu, hd, rest⟩ := runOn_loadV (v := v) (a := a) (post := post) (off := off)
      (fault := fun s b => s.scratchFault e.k 32 true ms.toList (b.ea a post off))
      (load := fun s b => s.scratchLoad e.k ms.toList (b.ea a post off) 32) hr
      (scratchFault_none ha hi fun _ => ⟨contains_uncorrectable hm, (poisoned_iff ..).mpr hp⟩) (scratchLoad_issued ..)
    exact ⟨u, hu, fun i hi => (congrArg (·[i]) hd).trans (lanesOfBytes_readDefined _ _ hi), rest⟩
  · obtain ⟨u, hu, h, hg, hv, hacc, hw⟩ := runOn_store (a := a) (post := post) (off := off)
      (fault := fun s b => s.scratchFault e.k 32 false [m] (b.ea a post off))
      (store := fun s b => s.scratchStore e.k (b.ea a post off) (bytesOfLanes (b.rv v))) hr
      (scratchFault_none ha hi nofun)
    obtain ⟨stored, outside, defined, others, records⟩ := scratchStored_of_issued h
    rw [length_bytesOfLanes] at outside defined
    exact ⟨u, hu, stored, outside, defined, hg, hv, hacc, hw, others, records⟩
  · have faults : s.scratchFault e.k 4 false [m] ((s.bank e.k).ea a post off) =
        some (if (s.bank e.k).ea a post off % 4 ≠ 0 then 6 else 7, lo32 ((s.bank e.k).ea a post off)) := by
      unfold State.scratchFault accessFault
      by_cases ha : (s.bank e.k).ea a post off % 4 ≠ 0
      · rw [if_pos ha, if_pos ha]
      · have outside : inScratch ((s.bank e.k).ea a post off) 4 = false := by
          exact decide_eq_false (Nat.not_le.mpr (h.resolve_left ha))
        rw [if_neg ha, if_neg ha, outside]
        rfl
    exact ⟨_, rfl, runOn_accessFault hr faults⟩

/-! ## Stores into the Atelier -/

/-- What a task's store of bytes into the Atelier leaves and changes. -/
structure AtelierStored (s u : State) (k : Fin 8) (ea : Nat) (bs : List Byte) : Prop where
  atelier : u.atelier = { s.atelier.write ea bs with writers := u.atelier.writers }
  writers : ∀ w, w ∈ u.atelier.writers ↔ w ∈ s.atelier.writers ∨
    ∃ i < bs.length / 4, w = (k.val, (s.bank k).task.task, (ea - 0x1000000) / 4 + i)
  outside : ∀ x, x < ea - 0x1000000 ∨ ea - 0x1000000 + bs.length ≤ x →
    tblGet zeroByte u.atelier.mem x = tblGet zeroByte s.atelier.mem x
  kept : KeptOutside s { u with atelier := s.atelier } k

theorem mem_append_new {α : Type} [BEq α] [LawfulBEq α] (l m : List α) (w : α) :
    w ∈ l ++ m.filter (fun x => !l.contains x) ↔ w ∈ l ∨ w ∈ m := by
  simp only [List.mem_append, List.mem_filter, List.contains_eq_mem, Bool.not_eq_true', decide_eq_false_iff_not]
  tauto

theorem atelierStored_of_issued {s u : State} {k : Fin 8} {ea : Nat} {bs : List Byte} {b : Bank}
    (h : Issued (s.atelierStore k (s.bank k).task.task ea bs) u k b) : AtelierStored s u k ea bs := by
  have hu : u.atelier = (s.atelierStore k (s.bank k).task.task ea bs).atelier := (congrArg State.atelier h.records :)
  have kept := (h.setAtelier s.atelier).kept
  refine ⟨?_, fun w => ?_, fun x hx => ?_, kept⟩
  · rw [hu]
    rfl
  · rw [hu, State.atelierStore, modAtelier_atelier, mem_append_new, List.mem_map]
    simp only [List.mem_range, eq_comm (a := w)]
    rfl
  · rw [hu]
    exact tblGet_putList_ne hx

/-- A word of the Atelier some bytes on. -/
theorem atelierWord_add (t : Atelier) {ea : Nat} (h : 0x1000000 ≤ ea) (j : Nat) :
    t.word (ea + j) = memWord t.mem (ea - 0x1000000 + j) := by
  rw [Atelier.word, show ea + j - atlBase = ea - 0x1000000 + j from Nat.sub_add_comm h]

/-- Settles O13: loads and stores in the Atelier. -/
theorem atelierAccesses : Obligations.AtelierAccesses := by
  refine ⟨fun e m t a post off s ea hea ha lo hi => ⟨fun hr hm hp => ?_, fun hr => ?_⟩,
    fun e m ms v a post off s ea hea ha lo hi => ⟨fun hr hm hp => ?_, fun hr => ?_⟩⟩
  all_goals subst hea
  · obtain ⟨u, hu, ht, rest⟩ := runOn_loadG (t := t) (a := a) (post := post) (off := off)
      (fault := fun s b => s.atelierFault 4 true [m] (b.ea a post off))
      (load := fun s b => s.atelierLoad e.k [m] (b.ea a post off) 4) hr
      (atelierFault_none ha lo hi fun _ => ⟨contains_single hm, poisoned_word hp⟩) (atelierLoad_issued ..)
    exact ⟨u, hu, fun h0 hd => (ht h0).trans (wordOf_readDefined _ _ hd), rest⟩
  · obtain ⟨u, hu, h, hg, hv, hacc, hw⟩ := runOn_store (a := a) (post := post) (off := off)
      (fault := fun s b => s.atelierFault 4 false [m] (b.ea a post off))
      (store := fun s b => s.atelierStore e.k b.task.task (b.ea a post off) (toLE 4 (b.rg t).toNat)) hr
      (atelierFault_none ha lo hi nofun)
    obtain ⟨stored, writers, outside, kept⟩ := atelierStored_of_issued h
    rw [length_toLE] at writers outside
    refine ⟨u, hu, stored, fun w => (writers w).trans (or_congr_right ?_), outside, hg, hv, hacc, hw, kept⟩
    simp
  · obtain ⟨u, hu, hd, rest⟩ := runOn_loadV (v := v) (a := a) (post := post) (off := off)
      (fault := fun s b => s.atelierFault 32 true ms.toList (b.ea a post off))
      (load := fun s b => s.atelierLoad e.k ms.toList (b.ea a post off) 32) hr
      (atelierFault_none ha lo hi fun _ => ⟨contains_uncorrectable hm, (poisoned_iff ..).mpr hp⟩)
      (atelierLoad_issued ..)
    exact ⟨u, hu, fun i hi => (congrArg (·[i]) hd).trans
      ((lanesOfBytes_readDefined _ _ hi).trans (atelierWord_add _ lo _).symm), rest⟩
  · obtain ⟨u, hu, h, hg, hv, hacc, hw⟩ := runOn_store (a := a) (post := post) (off := off)
      (fault := fun s b => s.atelierFault 32 false [m] (b.ea a post off))
      (store := fun s b => s.atelierStore e.k b.task.task (b.ea a post off) (bytesOfLanes (b.rv v))) hr
      (atelierFault_none ha lo hi nofun)
    obtain ⟨stored, writers, outside, kept⟩ := atelierStored_of_issued h
    rw [length_bytesOfLanes] at writers outside
    exact ⟨u, hu, stored, writers, outside, hg, hv, hacc, hw, kept⟩

end Sys2Proof.Machine
end

section
/-! Making a record, step by step: what each step keeps, the record keeps. So the output trace only grows (R473 to
R480). -/

namespace Sys2Proof.Machine

/-! ## What the steps of a record keep, a record keeps -/

/-- A relation that the steps of giving a record to its users keep. -/
structure StagingSteps (R : State → State → Prop) : Prop where
  refl (s : State) : R s s
  trans {s t u : State} (h : R s t) (h' : R t u) : R s u
  stage (s : State) (n : Nat) (r : Record) : R s (s.stageEvq n r)
  arrive (s : State) (r : Record) : R s (s.arriveRec r)
  log (s : State) (f : Pnt → Pnt) : R s (s.modPnt f)

/-- A relation that the steps of making a record keep. -/
structure RecordSteps (R : State → State → Prop) : Prop extends StagingSteps R where
  losses (s : State) (f : HostIf → HostIf) : R s (s.modHost f)
  make (s : State) (code sev : Nat) (link : Bool) (t a b c d : Nat) : R s (s.makeRecord code sev link t a b c d).2
  bucket (s : State) (n : Nat) (k : Bucket) : R s (s.modEv fun e => e.setBucket n k)

theorem rel_ite {R : State → State → Prop} {p : Prop} [Decidable p] {s t u : State} (ht : R s t) (hu : R s u) :
    R s (if p then t else u) := by
  split
  · exact ht
  · exact hu

namespace StagingSteps

variable {R : State → State → Prop} (steps : StagingSteps R)
include steps

theorem foldl {α : Type} {f : State → α → State} (h : ∀ s a, R s (f s a)) (l : List α) (s : State) :
    R s (l.foldl f s) := by
  induction l generalizing s with
  | nil => exact steps.refl s
  | cons a l ih => exact steps.trans (h s a) (ih _)

theorem stageAll (s : State) (r : Record) (also : Nat) : R s (s.stageAll r also) :=
  steps.foldl (fun s n => rel_ite (steps.stage s n r) (steps.refl s)) (List.range 8) s

theorem deliverOut (s : State) (r : Record) (also : Nat) : R s (s.deliverOut r also) :=
  steps.trans (steps.stageAll s r also) (steps.arrive _ r)

theorem stagePnt (s : State) (r : Record) : R s (s.stagePnt r) := by
  rw [State.stagePnt]
  exact rel_ite (steps.log ..) (rel_ite (steps.log ..) (steps.log ..))

theorem deliver (s : State) (r : Record) (also : Nat) : R s (s.deliver r also) := by
  rw [State.deliver]
  exact steps.trans (steps.deliverOut s r also) (rel_ite (steps.stagePnt ..) (steps.refl _))

end StagingSteps

namespace RecordSteps

variable {R : State → State → Prop} (steps : RecordSteps R)
include steps

theorem evqLost (s : State) (n : Nat) : R s (s.evqLost n) := by
  rw [State.evqLost]
  refine rel_ite ?_ (steps.refl s)
  exact steps.trans (steps.make ..) (steps.trans (steps.losses ..) (steps.deliver ..))

theorem pntGap (s : State) : R s s.pntGap := by
  rw [State.pntGap]
  refine rel_ite ?_ (steps.refl s)
  exact steps.trans (steps.make ..) (steps.trans (steps.log ..) (steps.trans (steps.stagePnt ..) (steps.deliverOut ..)))

theorem beforeRecord (s : State) (code sev : Nat) : R s (s.beforeRecord code sev) := by
  rw [State.beforeRecord]
  exact steps.trans (steps.foldl (fun s n => rel_ite (steps.evqLost s n) (steps.refl s)) (List.range 8) s)
    (rel_ite (steps.pntGap _) (steps.refl _))

theorem recordNow (s : State) (code sev : Nat) (link : Bool) (t a b c d : Nat) :
    R s (s.recordNow code sev link t a b c d) := by
  rw [State.recordNow]
  exact steps.trans (steps.beforeRecord s code sev) (steps.trans (steps.make ..) (steps.deliver ..))

theorem refill (s : State) (code : Nat) (link : Bool) : R s (s.refill code link) := by
  rw [State.refill]
  exact rel_ite (steps.refl s) (rel_ite (steps.bucket ..) (steps.trans (steps.bucket ..) (steps.recordNow ..)))

theorem emitLimited (s : State) (code sev : Nat) (link : Bool) (t a b c d : Nat) :
    R s (s.emitLimited code sev link t a b c d).2 := by
  refine steps.trans (steps.refill s code link) ?_
  rw [State.emitLimited]
  generalize s.refill code link = u
  rw [apply_ite Prod.snd]
  dsimp only
  exact rel_ite (steps.bucket u code _) (steps.trans (steps.bucket u code _) (steps.recordNow ..))

theorem emitAt (s : State) (code sev : Nat) (link : Bool) (t a b c d : Nat) :
    R s (s.emitAt code sev link t a b c d).2 := by
  rw [State.emitAt, apply_ite Prod.snd]
  dsimp only
  exact rel_ite (steps.emitLimited s code sev link t a b c d) (steps.recordNow s code sev link t a b c d)

theorem emit (s : State) (e : EvDef) (a b c d : Nat) : R s (s.emit e a b c d) :=
  steps.emitAt s e.code e.severity e.linkPlane (s.recTime e.linkPlane) a b c d

end RecordSteps

/-! ## The trace grows -/

theorem ev_stageEvq (s : State) (n : Nat) (r : Record) : (s.stageEvq n r).ev = s.ev := by
  unfold State.stageEvq
  dsimp only
  split <;> rfl

/-- What stages a record leaves the event logic alone. -/
theorem ev_staging : StagingSteps fun s t => t.ev = s.ev where
  refl _ := rfl
  trans h h' := h'.trans h
  stage := ev_stageEvq
  arrive _ _ := rfl
  log _ _ := rfl

theorem out_item (e : Ev) (kind key : Nat) (body : List Byte) : (e.item kind key body).out = e.out := by
  unfold Ev.item
  split <;> rfl

/-- A record goes to the front of the output trace. -/
theorem out_makeRecord (s : State) (code sev : Nat) (link : Bool) (t a b c d : Nat) :
    (s.makeRecord code sev link t a b c d).2.ev.out =
      .record (s.makeRecord code sev link t a b c d).1 :: s.ev.out := by
  unfold State.makeRecord Ev.takeSeq
  cases link
  · exact congrArg _ (out_item ..)
  · rfl

/-- All that has left the device stays in its trace. -/
def Shows (s t : State) : Prop := s.ev.out <:+ t.ev.out

theorem Shows.trans {s t u : State} (h : Shows s t) (h' : Shows t u) : Shows s u := List.IsSuffix.trans h h'

theorem shows_of_ev {s t : State} (h : t.ev = s.ev) : Shows s t := by
  rw [Shows, h]

theorem shows_steps : RecordSteps Shows where
  refl _ := List.suffix_refl _
  trans := Shows.trans
  stage s n r := shows_of_ev (ev_stageEvq s n r)
  arrive _ _ := List.suffix_refl _
  log _ _ := List.suffix_refl _
  losses _ _ := List.suffix_refl _
  make s code sev link t a b c d := by
    rw [Shows, out_makeRecord]
    exact List.suffix_cons ..
  bucket _ _ _ := List.suffix_refl _

/-- The record made is in the trace, with its code, severity, time and parameters. -/
theorem recordNow_record (s : State) (code sev : Nat) (link : Bool) (t a b c d : Nat) : ∃ x : Record,
    .record x ∈ (s.recordNow code sev link t a b c d).ev.out ∧ x.code = code ∧ x.severity = sev ∧
    x.linkPlane = link ∧ x.time = t ∧ x.p0 = BitVec.ofNat 32 a ∧ x.p1 = BitVec.ofNat 32 b ∧
    x.p2 = BitVec.ofNat 32 c ∧ x.p3 = BitVec.ofNat 32 d := by
  refine ⟨((s.beforeRecord code sev).makeRecord code sev link t a b c d).1, ?_, rfl, rfl, rfl, rfl, rfl, rfl, rfl, rfl⟩
  rw [State.recordNow, ev_staging.deliver, out_makeRecord]
  exact List.mem_cons_self ..

/-- Where the bucket of a code has a token and none is due, the occurrence becomes a record (R475). -/
theorem emitAt_made {s : State} {code : Nat} {link : Bool} (token : (s.ev.bucket code).tokens ≠ 0)
    (due : (s.ev.bucket code).due (s.recTime link) = 0) (sev t a b c d : Nat) :
    ∃ u : State, s.emitAt code sev link t a b c d = (true, u.recordNow code sev link t a b c d) := by
  rw [State.emitAt]
  by_cases limited : hasBucket code = true
  · have full : s.refill code link = s := if_pos due
    rw [if_pos limited, State.emitLimited, full, if_neg token]
    exact ⟨_, rfl⟩
  · rw [if_neg limited]
    exact ⟨s, rfl⟩

/-! ## The issue of an instruction -/

theorem shows_imemCorrected (s : State) (k : Fin 8) (m : Ecc) (i : Nat) : Shows s (s.imemCorrected k m i) := by
  unfold State.imemCorrected
  split
  · exact shows_steps.emit (s.modEasel k _) ..
  · exact List.suffix_refl _

theorem shows_fetchCorrected (s : State) (e : At) (x : Easel) : Shows s (s.fetchCorrected e x) := by
  unfold State.fetchCorrected
  dsimp only
  split
  · exact (shows_imemCorrected ..).trans (shows_imemCorrected ..)
  · exact shows_imemCorrected ..

theorem shows_stepped (s : State) (k : Fin 8) (step : Bool) : Shows s (s.stepped k step) := by
  unfold State.stepped
  split
  · exact shows_steps.emit (s.modEasel k _) ..
  · exact List.suffix_refl _

/-- What an instruction's own effect has shown stays in the trace over its issue. -/
theorem runOn_shows {s : State} {e : At} {i : EInstr} {x : EAct} {b' : Bank} {s' : State}
    (hr : Ready s e i (x.taken (s.bank e.k))) (hf : x.fault s (s.bank e.k) = none)
    (ha : x.act s (s.bank e.k) = some (b', s')) (hx : x.after = id) : Shows s' (s.runOn e i x) := by
  obtain ⟨h1, h2, h3, h4⟩ := hr
  unfold State.bank at *
  unfold State.runOn
  simp only [h1, h2, h3, hf, h4, ha, hx, Bool.not_true, Bool.false_eq_true, if_false, not_true_eq_false, id_eq, ne_eq]
  have fetched := shows_fetchCorrected s' e s.easels[e.k]
  exact fetched.trans (shows_stepped ((s'.fetchCorrected e s.easels[e.k]).modEasel e.k _) ..)

end Sys2Proof.Machine
end

section
/-! Synchronous fabric operations: what each writes into its Easel's bank, and the reads and times as O17 states them
(R117, R119, R120, R174, R175, R206). -/

namespace Sys2Proof.Machine

/-! ## The bank after an operation -/

/-- An operation that writes one general register and goes on. -/
theorem finish_wroteG {b c : Bank} {d : GReg} {w : Word} (i : EInstr) (hg : c.g = (b.wg d w).g)
    (hc : c.course = ({ b with pc := b.pc + 1 } : Bank).course) : WroteG b (b.finish c i false) d w := by
  simp only [Bank.course, Prod.mk.injEq] at hc
  obtain ⟨hv, ha, hr, ht, hl, hp⟩ := hc
  obtain ⟨fg, fv, fa, -⟩ := finish_regs b c i false
  refine ⟨fun r => ?_, fv.trans hv, fa.trans ha, finish_next i hr ht hl hp⟩
  rw [rg_of_g (fg.trans hg), rg_wg]

/-- An operation that writes one vector register and goes on. -/
theorem finish_wroteV (b : Bank) (d : VReg) (x : Lanes) (i : EInstr) :
    WroteV b (b.finish { b.wv d x with pc := b.pc + 1 } i false) d (fun j => x[j]) := by
  obtain ⟨fg, fv, fa, -⟩ := finish_regs b { b.wv d x with pc := b.pc + 1 } i false
  refine ⟨fun j => ?_, fun r hr => ?_, fg, fa, finish_next i rfl rfl rfl rfl⟩
  · rw [rv_of_v fv, show Bank.rv { b.wv d x with pc := b.pc + 1 } d = x from rv_wv_self ..]
  · exact (rv_of_v fv r).trans (rv_wv_other b hr x)

theorem wg_next_course (b : Bank) (d : GReg) (w : Word) (n : Nat) :
    ({ b.wg d w with pc := b.pc + 1, fabIdx := n } : Bank).course = ({ b with pc := b.pc + 1 } : Bank).course := by
  have h := course_wg b d w
  simp only [Bank.course, Prod.mk.injEq] at h ⊢
  obtain ⟨hv, ha, hr, ht, hl, -⟩ := h
  exact ⟨hv, ha, hr, ht, hl, trivial⟩

theorem finish_wg_wroteG (b : Bank) (d : GReg) (w : Word) (n : Nat) (i : EInstr) :
    WroteG b (b.finish { b.wg d w with pc := b.pc + 1, fabIdx := n } i false) d w :=
  finish_wroteG i rfl (wg_next_course b d w n)

/-- Records alone leave the Easels. -/
theorem issued_of_records {s t : State} (h : OnlyRecords s t) (k : Fin 8) : Issued s t k (s.bank k) := by
  have easels : t.easels = s.easels := (congrArg State.easels h :)
  refine ⟨by rw [easels]; rfl, by rw [easels], fun j _ => by rw [easels], ?_⟩
  have h2 := h.easels s.easels
  exact h2

/-- A unit that is no standby acts, and logs the result (R118, R419). -/
theorem logged_acts {s : State} (hs : s.standby = false) (k : Bank) (f : State → (Word × Word) × State) :
    s.logged k f = some ((f s).1,
      (f s).2.logInput (.fabric k.task.task k.task.flow k.fabIdx (f s).1.1 (f s).1.2)) := by
  rw [State.logged, if_neg (ne_true_of_eq_false hs)]

/-- A standby takes the logged result of its key (R422). -/
theorem logged_standby {s : State} (hs : s.standby = true) {k : Bank} {x : FabResult}
    (hx : (s.twin.fabric.find? fun x => x.task == k.task.task && x.flow == k.task.flow && x.op == k.fabIdx) = some x)
    (f : State → (Word × Word) × State) :
    s.logged k f = some ((x.d, x.t), s.modTwin fun y => { y with fabric := y.fabric.erase x }) := by
  rw [State.logged, if_pos hs, hx]

section
variable {s : State} {e : At} {i : EInstr} {d : GReg}

/-- An operation of the unit alone writes its value, and the rest is what it made of it. -/
theorem runSync_writes {f : State → Bank → Word × State} (hr : Ready s e i) : ∃ t, s.runSync e i d f = .next t ∧
    WroteG (s.bank e.k) (t.bank e.k) d (f s (s.bank e.k)).1 ∧ Issued (f s (s.bank e.k)).2 t e.k (t.bank e.k) ∧
    Shows (f s (s.bank e.k)).2 t := by
  let x : EAct := {
    act := fun s k =>
    let (w, s) := f s k
    some ({ k.wg d w with pc := k.pc + 1 }, s) }
  have ha : x.act s (s.bank e.k) =
    some ({ (s.bank e.k).wg d (f s (s.bank e.k)).1 with pc := (s.bank e.k).pc + 1 }, (f s (s.bank e.k)).2) := rfl
  have h := runOn_ready (x := x) hr rfl ha rfl
  refine ⟨s.runOn e i x, rfl, ?_, h.of_bank h.bank.symm, runOn_shows hr rfl ha rfl⟩
  have bank : (s.runOn e i x).bank e.k = _ := h.bank
  rw [bank]
  exact finish_wg_wroteG _ d _ ((s.bank e.k).wg d (f s (s.bank e.k)).1).fabIdx i

/-- An operation that only reads gives its value. -/
theorem givesG_of_read {c : Instr} {f : State → Bank → Word × State} {w : Word}
    (hc : exec c s = s.runSync e i d f) (hf : f s (s.bank e.k) = (w, s)) : GivesG c i s e d w := by
  intro hr
  obtain ⟨t, ht, wrote, issued, -⟩ := runSync_writes (d := d) (f := f) hr
  rw [hf] at wrote issued
  exact ⟨t, hc.trans ht, wrote, issued.kept⟩

/-- A logged operation writes the result that the unit takes, and the rest is what was made of it (R118). -/
theorem runLogged_writes {f : State → Bank → Word × State} {both : State → Bank → Word → State} {w y : Word} {s' : State}
    (hl : s.logged (s.bank e.k) (fun u => (((f u (s.bank e.k)).1, 0), (f u (s.bank e.k)).2)) = some ((w, y), s'))
    (hr : Ready s e i) : ∃ t, s.runLogged e i d f both = .next t ∧
    WroteG (s.bank e.k) (t.bank e.k) d w ∧ Issued (both s' (s.bank e.k) w) t e.k (t.bank e.k) := by
  let x : EAct := {
    act := fun s k =>
      match s.logged k (fun s => let (w, s) := f s k; ((w, 0), s)) with
      | none => none
      | some ((w, _), s) => some ({ k.wg d w with pc := k.pc + 1, fabIdx := k.fabIdx + 1 }, both s k w) }
  have result : s.logged (s.bank e.k) (fun u => let (w, u) := f u (s.bank e.k); ((w, 0), u)) = some ((w, y), s') := hl
  have acts : x.act s (s.bank e.k) = some ({ (s.bank e.k).wg d w with
      pc := (s.bank e.k).pc + 1, fabIdx := (s.bank e.k).fabIdx + 1 }, both s' (s.bank e.k) w) := by
    show (match s.logged (s.bank e.k) (fun u => let (w, u) := f u (s.bank e.k); ((w, 0), u)) with
      | none => none
      | some ((w, _), u) => some ({ (s.bank e.k).wg d w with
          pc := (s.bank e.k).pc + 1, fabIdx := (s.bank e.k).fabIdx + 1 }, both u (s.bank e.k) w)) = _
    rw [result]
  have h := runOn_ready (x := x) hr rfl acts rfl
  refine ⟨s.runOn e i x, rfl, ?_, h.of_bank h.bank.symm⟩
  have bank : (s.runOn e i x).bank e.k = _ := h.bank
  rw [bank]
  exact finish_wg_wroteG _ d _ ((s.bank e.k).fabIdx + 1) i

end

theorem logInput_records (s : State) (x : LogEntry) : OnlyRecords s (s.logInput x) := by
  unfold State.logInput
  split <;> rfl

/-- A logged operation of a unit that is no standby writes its value, and the rest is what it made of it. -/
theorem runLogged_acts {s : State} {e : At} {i : EInstr} {d : GReg} {f : State → Bank → Word × State}
    (hs : s.standby = false) (hr : Ready s e i) : ∃ t, s.runLogged e i d f = .next t ∧
    WroteG (s.bank e.k) (t.bank e.k) d (f s (s.bank e.k)).1 ∧ Issued (f s (s.bank e.k)).2 t e.k (t.bank e.k) := by
  obtain ⟨t, ht, wrote, issued⟩ := runLogged_writes (d := d) (f := f) (both := fun s _ _ => s) (logged_acts hs _ _) hr
  exact ⟨t, ht, wrote, (issued_of_records (logInput_records _ _) e.k).trans issued⟩

/-! ## Probes (R174, R175, R206) -/

theorem probe_read {m : Ecc} (h : m ≠ .uncorrectable) (s : State) (i : Nat) : s.probe i m =
    (presented true (m == .corrected) (ageOf s.canvas.now (i % 128)) (s.canvas.cell i).word, s) := by
  cases m
  · rfl
  · rfl
  · exact absurd rfl h

theorem probes_read (s : State) {l : List (Nat × Ecc)} {i c : Nat} {m : Ecc} (hi : l[i]? = some (c, m))
    (h : wordFind l (c / 4) = .ok) : (s.probes l).1.getD i 0 =
      presented true false (ageOf s.canvas.now (c % 128)) (s.canvas.cell c).word := by
  simp only [State.probes, List.getD_eq_getElem?_getD, List.getElem?_map, hi, Option.map_some, Option.getD_some, h]
  rfl

/-- Every cell of an uncorrectable word shows VALID 0. -/
theorem probes_bad (s : State) {l : List (Nat × Ecc)} {i c : Nat} {m : Ecc} (hi : l[i]? = some (c, m))
    (h : wordFind l (c / 4) = .uncorrectable) : (s.probes l).1.getD i 0 =
      presented false false (ageOf s.canvas.now (c % 128)) 0xC003 := by
  simp only [State.probes, List.getD_eq_getElem?_getD, List.getElem?_map, hi, Option.map_some, Option.getD_some, h]

theorem wordFind_clean {l : List (Nat × Ecc)} (h : ∀ x ∈ l, x.2 = .ok) (w : Nat) : wordFind l w = .ok := by
  have none : ∀ m : Ecc, m ≠ .ok → ¬ (l.any fun x => x.1 / 4 == w && x.2 == m) = true := by
    intro m hm ha
    obtain ⟨x, hx, hxm⟩ := List.any_eq_true.mp ha
    simp only [Bool.and_eq_true, beq_iff_eq] at hxm
    exact hm (hxm.2.symm.trans (h x hx))
  rw [wordFind, if_neg (none .uncorrectable (by decide)), if_neg (none .corrected (by decide))]

theorem wordFind_bad {l : List (Nat × Ecc)} {c : Nat} (h : (c, Ecc.uncorrectable) ∈ l) :
    wordFind l (c / 4) = .uncorrectable :=
  if_pos (List.any_eq_true.mpr ⟨_, h, by simp⟩)

/-- A probe without an uncorrectable word changes nothing. -/
theorem probes_clean (s : State) {l : List (Nat × Ecc)} (h : ∀ x ∈ l, x.2 = .ok) : s.probes l = ((s.probes l).1, s) := by
  have none : (l.map fun x => x.1 / 4).filter (fun w => wordFind l w == .uncorrectable) = [] := by
    simp [wordFind_clean h]
  refine Prod.ext rfl ?_
  simp only [State.probes, none]
  rfl

/-- Cell `i` of the eight that FCPRBV reads. -/
def probeCell (w : Word) (i : Nat) : Nat := 128 * fieldOf w 7 16 + (fieldOf w 0 7 + i) % 128

theorem probeCell_slot (w : Word) (i : Nat) : probeCell w i % 128 = (fieldOf w 0 7 + i) % 128 := by
  unfold probeCell
  omega

theorem zip_probeCells (w : Word) (ms : Vector Ecc 8) (i : Fin 8) :
    ((probeCells w).zip ms.toList)[i.val]? = some (probeCell w i, ms[i]) := by
  rw [List.getElem?_eq_some_iff]
  refine ⟨by simp [probeCells], ?_⟩
  simp [probeCells, probeCell]

/-- FCPRBV writes the eight words it read. -/
theorem fcprbv_writes {s : State} {e : At} {v : VReg} {r : GReg} {ms : Vector Ecc 8} {ws : List Word} {s' : State}
    (hr : Ready s e (.fcprbv v r))
    (h : (if fieldOf ((s.bank e.k).rg r) 23 9 = 0 then s.probes ((probeCells ((s.bank e.k).rg r)).zip ms.toList)
      else ([], s)) = (ws, s')) :
    ∃ t, exec (.fcprbv e ms v r) s = .next t ∧ WroteV (s.bank e.k) (t.bank e.k) v (fun i => ws.getD i 0) ∧
      Issued s' t e.k (t.bank e.k) := by
  let x : EAct := {
    act := fun s k =>
    let (ws, s) := if fieldOf (k.rg r) 23 9 = 0 then
        s.probes ((probeCells (k.rg r)).zip ms.toList) else ([], s)
    some ({ k.wv v (Vector.ofFn fun i => ws.getD i 0) with pc := k.pc + 1 }, s) }
  have hi := runOn_ready (x := x)
    (b' := { (s.bank e.k).wv v (Vector.ofFn fun i => ws.getD i 0) with pc := (s.bank e.k).pc + 1 }) (s' := s')
    hr rfl (by simp only [x, h]) rfl
  have wrote := finish_wroteV (s.bank e.k) v (Vector.ofFn fun i => ws.getD i 0) (.fcprbv v r)
  refine ⟨s.runOn e _ x, rfl, ?_, hi.of_bank hi.bank.symm⟩
  have bank : (s.runOn e _ x).bank e.k = _ := hi.bank
  rw [bank]
  simpa using wrote

end Sys2Proof.Machine
end

section
/-! The fabric's reads, times and events, statement by statement (O17). -/

namespace Sys2Proof.Machine

section
variable (s : State) (e : At)

theorem fcprb_outside {d r : GReg} (m : Ecc) (h : fieldOf ((s.bank e.k).rg r) 23 9 ≠ 0) :
    GivesG (.fcprb e m d r) (.fcprb d r) s e d 0 :=
  givesG_of_read rfl (if_neg h)

theorem fcprb_reads {d r : GReg} {m : Ecc} (h : fieldOf ((s.bank e.k).rg r) 23 9 = 0) (hm : m ≠ .uncorrectable) :
    GivesG (.fcprb e m d r) (.fcprb d r) s e d
      (presented true (m == .corrected) (ageOf s.canvas.now (((s.bank e.k).rg r).toNat % 128))
        (s.canvas.cell ((s.bank e.k).rg r).toNat).word) :=
  givesG_of_read rfl ((if_pos h).trans (probe_read hm s _))

theorem fcprbv_outside {v : VReg} {r : GReg} (h : fieldOf ((s.bank e.k).rg r) 23 9 ≠ 0) (ms : Vector Ecc 8) :
    GivesV (.fcprbv e ms v r) (.fcprbv v r) s e v (fun _ => 0) := by
  intro hr
  obtain ⟨t, ht, wrote, issued⟩ := fcprbv_writes (ms := ms) hr (if_neg h)
  exact ⟨t, ht, wrote, issued.kept⟩

theorem fcprbv_reads {v : VReg} {r : GReg} (h : fieldOf ((s.bank e.k).rg r) 23 9 = 0) :
    GivesV (.fcprbv e (Vector.replicate 8 .ok) v r) (.fcprbv v r) s e v (fun i =>
      presented true false (ageOf s.canvas.now ((fieldOf ((s.bank e.k).rg r) 0 7 + i) % 128))
        (s.canvas.cell (probeCell ((s.bank e.k).rg r) i)).word) := by
  intro hr
  have clean : ∀ x ∈ (probeCells ((s.bank e.k).rg r)).zip (Vector.replicate 8 Ecc.ok).toList, x.2 = .ok := by
    intro x hx
    have hm := (List.of_mem_zip hx).2
    simpa using hm
  obtain ⟨t, ht, wrote, issued⟩ := fcprbv_writes (ms := Vector.replicate 8 .ok) hr
    ((if_pos h).trans (probes_clean s clean))
  refine ⟨t, ht, ?_, issued.kept⟩
  convert wrote using 2 with i
  rw [probes_read s (zip_probeCells _ _ i) (wordFind_clean clean _), probeCell_slot]

theorem fcprbv_bad {v : VReg} {r : GReg} {ms : Vector Ecc 8} (h : fieldOf ((s.bank e.k).rg r) 23 9 = 0)
    (hr : Ready s e (.fcprbv v r)) {i : Fin 8} (hm : ms[i] = .uncorrectable) :
    ∃ t, exec (.fcprbv e ms v r) s = .next t ∧ ((t.bank e.k).rv v)[i] =
      presented false false (ageOf s.canvas.now ((fieldOf ((s.bank e.k).rg r) 0 7 + i) % 128)) 0xC003 := by
  obtain ⟨t, ht, wrote, -⟩ := fcprbv_writes (ms := ms) hr ((if_pos h).trans (Prod.mk.eta).symm)
  have here := zip_probeCells ((s.bank e.k).rg r) ms i
  rw [hm] at here
  have reads := (wrote.1 i).trans (probes_bad s here (wordFind_bad (List.mem_of_getElem? here)))
  rw [probeCell_slot] at reads
  exact ⟨t, ht, reads⟩

/-- FTIME writes t after d. -/
theorem ftime_writes {d t : GReg} (hr : Ready s e (.ftime d t)) : ∃ u, exec (.ftime e d t) s = .next u ∧
    (∀ r, (u.bank e.k).rg r = if r = 0 then 0 else if r = t then hi32 s.epoch.nominal
      else if r = d then lo32 s.epoch.nominal else (s.bank e.k).rg r) ∧
    (u.bank e.k).v = (s.bank e.k).v ∧ (u.bank e.k).a = (s.bank e.k).a ∧ KeptOutside s u e.k := by
  let b := ((s.bank e.k).wg d (lo32 s.epoch.nominal)).wg t (hi32 s.epoch.nominal)
  let x : EAct := {
    act := fun s k => some ({ (k.wg d (lo32 s.epoch.nominal)).wg t (hi32 s.epoch.nominal) with pc := k.pc + 1 }, s) }
  have h := runOn_ready (x := x) (b' := { b with pc := (s.bank e.k).pc + 1 }) hr rfl rfl rfl
  have bank : (s.runOn e _ x).bank e.k = _ := h.bank
  obtain ⟨fg, fv, fa, -⟩ := finish_regs (s.bank e.k) { b with pc := (s.bank e.k).pc + 1 } (.ftime d t) false
  have hv : b.v = (s.bank e.k).v ∧ b.a = (s.bank e.k).a := by
    have h1 := course_wg (s.bank e.k) d (lo32 s.epoch.nominal)
    have h2 := course_wg ((s.bank e.k).wg d (lo32 s.epoch.nominal)) t (hi32 s.epoch.nominal)
    have h3 := h2.trans h1
    simp only [Bank.course, Prod.mk.injEq] at h3
    exact ⟨h3.1, h3.2.1⟩
  refine ⟨s.runOn e _ x, rfl, fun r => ?_, ?_, ?_, h.kept⟩
  · rw [bank, rg_of_g fg, show Bank.rg { b with pc := (s.bank e.k).pc + 1 } r = b.rg r from rfl, rg_wg, rg_wg]
    by_cases h0 : r = 0
    · simp [h0, Bank.rg]
    · simp [h0]
  · rw [bank]
    exact fv.trans hv.1
  · rw [bank]
    exact fa.trans hv.2

theorem fpcnt_reads {d : GReg} (q : Fin 64) (h : s.standby = false) : GivesG (.fpcnt e d q) (.fpcnt d q) s e d
    (pack [(16, 16, min 0xFFFF (s.palette.q q).used), (0, 16, min 0xFFFF (s.palette.count q))]) := by
  intro hr
  obtain ⟨t, ht, wrote, issued⟩ := runLogged_acts (d := d)
    (f := fun s _ => (pack [(16, 16, min 0xFFFF (s.palette.q q).used), (0, 16, min 0xFFFF (s.palette.count q))], s))
    h hr
  exact ⟨t, ht, wrote, issued.kept⟩

end

/-! ## FEMIT (R120) -/

/-- FEMIT's occurrence of the program event of `code`, and whether it is suppressed. -/
def State.femit (s : State) (k : Bank) (r : GReg) (sev : Fin 4) (code : Nat) : Bool × State :=
  (s.modEv fun x => { x with forEpoch := some k.task.epoch }).programEvent code sev s.epoch.nominal
    (k.rg r).toNat (k.rg (Fin.ofNat 32 (r + 1))).toNat (k.rg (Fin.ofNat 32 (r + 2))).toNat
    (k.rg (Fin.ofNat 32 (r + 3))).toNat

theorem femit_records (s : State) (k : Bank) (r : GReg) (sev : Fin 4) (code : Nat) :
    OnlyRecords s (s.femit k r sev code).2 := by
  unfold OnlyRecords State.femit State.programEvent
  exact (recordless_emitAt ..).trans (recordless_modEv ..)

theorem femit_made {s : State} {code : Nat} (token : (s.ev.bucket code).tokens ≠ 0)
    (due : (s.ev.bucket code).due s.epoch.nominal = 0) (k : Bank) (r : GReg) (sev : Fin 4) :
    (s.femit k r sev code).1 = false ∧ ∃ x : Record, .record x ∈ (s.femit k r sev code).2.ev.out ∧
      x.code = code ∧ x.severity = sev ∧ x.linkPlane = false ∧ x.time = s.epoch.nominal ∧ x.p0 = k.rg r ∧
      x.p1 = k.rg (Fin.ofNat 32 (r + 1)) ∧ x.p2 = k.rg (Fin.ofNat 32 (r + 2)) ∧
      x.p3 = k.rg (Fin.ofNat 32 (r + 3)) := by
  let s0 := s.modEv fun x => { x with forEpoch := some k.task.epoch }
  obtain ⟨u, hu⟩ := emitAt_made (s := s0) (link := false) token due sev s.epoch.nominal (k.rg r).toNat
    (k.rg (Fin.ofNat 32 (r + 1))).toNat (k.rg (Fin.ofNat 32 (r + 2))).toNat (k.rg (Fin.ofNat 32 (r + 3))).toNat
  have made : s.femit k r sev code = (false, u.recordNow code sev false s.epoch.nominal (k.rg r).toNat
      (k.rg (Fin.ofNat 32 (r + 1))).toNat (k.rg (Fin.ofNat 32 (r + 2))).toNat
      (k.rg (Fin.ofNat 32 (r + 3))).toNat) := by
    unfold State.femit State.programEvent
    rw [hu]
    rfl
  obtain ⟨x, hx, number, severity, plane, time, p0, p1, p2, p3⟩ := recordNow_record u code sev false
    s.epoch.nominal (k.rg r).toNat (k.rg (Fin.ofNat 32 (r + 1))).toNat (k.rg (Fin.ofNat 32 (r + 2))).toNat
    (k.rg (Fin.ofNat 32 (r + 3))).toNat
  rw [BitVec.ofNat_toNat, BitVec.setWidth_eq] at p0 p1 p2 p3
  generalize u.recordNow code sev false s.epoch.nominal _ _ _ _ = v at made hx
  rw [made]
  exact ⟨rfl, x, hx, number, severity, plane, time, p0, p1, p2, p3⟩

theorem femit_writes {s : State} {e : At} {d r : GReg} {sev : Fin 4} {n : Fin 64}
    (hr : Ready s e (.femit d r sev n)) (hold : s.holding (s.bank e.k).task = false) :
    ∃ u, exec (.femit e d r sev n) s = .next u ∧ KeptOutside s u e.k ∧
      WroteG (s.bank e.k) (u.bank e.k) d (lo32 (bit (s.femit (s.bank e.k) r sev (0x20C0 + n)).1)) ∧
      Shows (s.femit (s.bank e.k) r sev (0x20C0 + n)).2 u := by
  let f : State → Bank → Word × State := fun s k =>
    let p (i : Nat) : Word := k.rg (Fin.ofNat 32 (r + i))
    if s.holding k.task then
      let (x, s) := s.draw
      (lo32 (x % 2), s.hold k.task (.event (0x20C0 + n) sev k.task.epoch s.epoch.nominal (p 0) (p 1) (p 2) (p 3)))
    else
      let s := s.modEv fun x => { x with forEpoch := some k.task.epoch }
      let (sup, s) := s.programEvent (0x20C0 + n) sev s.epoch.nominal (p 0).toNat (p 1).toNat (p 2).toNat (p 3).toNat
      (lo32 (bit sup), s.modEv fun x => { x with forEpoch := none })
  have now : f s (s.bank e.k) = (lo32 (bit (s.femit (s.bank e.k) r sev (0x20C0 + n)).1),
      (s.femit (s.bank e.k) r sev (0x20C0 + n)).2.modEv fun x => { x with forEpoch := none }) := by
    have self : (Fin.ofNat 32 (r.val + 0) : GReg) = r := Fin.ext (Nat.mod_eq_of_lt r.isLt)
    simp only [f, hold, self]
    rfl
  obtain ⟨t, ht, wrote, issued, shows⟩ := runSync_writes (d := d) (f := f) hr
  rw [now] at wrote issued shows
  have records : OnlyRecords s ((s.femit (s.bank e.k) r sev (0x20C0 + n)).2.modEv fun x => { x with forEpoch := none }) :=
    (recordless_modEv ..).trans (femit_records s _ r sev _)
  exact ⟨t, ht, ((issued_of_records records e.k).trans issued).kept, wrote, shows⟩

/-- Settles O17, instruction by instruction. -/
theorem fabricReadsAndTimes : Obligations.FabricReadsAndTimes := by
  refine ⟨?_, ?_, ?_, ?_, ?_⟩
  · rintro e m d r s w rfl
    exact ⟨fun h => fcprb_outside s e m h, fun h hm => fcprb_reads s e h hm⟩
  · rintro e v r s w rfl
    exact ⟨fun h ms => fcprbv_outside s e h ms, fun h => fcprbv_reads s e h,
      fun h hr ms hm => fcprbv_bad s e h hr hm⟩
  · exact fun e d t s hr => ftime_writes s e hr
  · exact fun e d q s => ⟨givesG_of_read (f := fun s _ => (lo32 s.time, s)) rfl rfl, fpcnt_reads s e q⟩
  · intro e d r sev n s _ hr hold
    obtain ⟨u, hu, kept, wrote, shows⟩ := femit_writes hr hold
    refine ⟨u, hu, kept, fun hd => ?_, fun token due => ?_, fun token due => ?_⟩
    · rw [wrote.1, if_pos ⟨rfl, hd⟩]
      cases (s.femit (s.bank e.k) r sev (0x20C0 + n)).1
      · exact .inl rfl
      · exact .inr rfl
    · by_cases hd : d = 0
      · exact .inr hd
      · rw [wrote.1, if_pos ⟨rfl, hd⟩, (femit_made token due _ r sev).1]
        exact .inl rfl
    · obtain ⟨-, x, hx, rest⟩ := femit_made token due (s.bank e.k) r sev
      exact ⟨x, shows.subset hx, rest⟩

end Sys2Proof.Machine
end

section
/-! Locks, mailboxes, stops and releases of an Easel, and a standby's logged results (O18). -/

namespace Sys2Proof.Machine

/-! ## What an issue keeps of the unit -/

theorem Issued.fleet {s t : State} {k : Fin 8} {b : Bank} (h : Issued s t k b) : t.fleet = s.fleet :=
  (congrArg State.fleet h.records :)

theorem Issued.twin {s t : State} {k : Fin 8} {b : Bank} (h : Issued s t k b) : t.twin = s.twin :=
  (congrArg State.twin h.records :)

theorem Issued.locks {s t : State} {k : Fin 8} {b : Bank} (h : Issued s t k b) : t.host.locks = s.host.locks :=
  (congrArg (·.host.locks) h.records :)

theorem Issued.mbx {s t : State} {k : Fin 8} {b : Bank} (h : Issued s t k b) : t.host.mbx = s.host.mbx :=
  (congrArg (·.host.mbx) h.records :)

theorem rg_zero (b : Bank) : b.rg 0 = 0 := rfl

/-- The register an operation wrote; g0 reads 0 all the same (Table 3-1). -/
theorem WroteG.rg_self {b c : Bank} {d : GReg} {w : Word} (h : WroteG b c d w) : c.rg d = if d = 0 then 0 else w := by
  rw [h.1]
  by_cases hd : d = 0
  · simp [hd, rg_zero]
  · simp [hd]

theorem WroteG.rg_of_ne {b c : Bank} {d : GReg} {w : Word} (h : WroteG b c d w) (hd : d ≠ 0) : c.rg d = w := by
  rw [h.rg_self, if_neg hd]

theorem WroteG.rg_eq_zero {b c : Bank} {d : GReg} {w : Word} (h : WroteG b c d w) (hw : w = 0) : c.rg d = 0 := by
  rw [h.rg_self, hw, ite_self]

/-! ## Locks (R399 to R401) -/

theorem holder_setHolder (h : HostIf) (k : Fin 32) (p : Nat) (j : Fin 32) :
    (h.setHolder k p).holder j = if j = k then p else h.holder j := by
  by_cases hj : j = k
  · simp [HostIf.holder, HostIf.setHolder, hj]
  · have hne : (k : Nat) ≠ j := fun hk => hj (Fin.ext hk.symm)
    simp [HostIf.holder, HostIf.setHolder, hj, hne]

theorem holder_of_locks {h h' : HostIf} (e : h'.locks = h.locks) (k : Fin 32) : h'.holder k = h.holder k := by
  rw [HostIf.holder, HostIf.holder, e]

theorem acquire_open {h : HostIf} {k : Fin 32} {p : Nat} (f : h.holder k = 15 ∨ h.holder k = p) :
    h.acquire k p .chosen = (0, h.setHolder k p) := if_pos f

theorem acquire_busy {h : HostIf} {k : Fin 32} {p : Nat} (f : ¬ (h.holder k = 15 ∨ h.holder k = p)) :
    h.acquire k p .chosen = (1, h) := if_neg f

theorem acquire_tie (h : HostIf) (k : Fin 32) (p : Nat) {arb : Arb} (ha : arb ≠ .chosen) :
    (h.acquire k p arb).1 = 2 ∧ (h.acquire k p arb).2.locks = h.locks := by
  cases arb
  case chosen => exact absurd rfl ha
  all_goals exact ⟨rfl, rfl⟩

section
variable {s : State} {e : At} {d : GReg} {n : Fin 32}

theorem flock_acts (arb : Arb) (hs : s.standby = false) (hr : Ready s e (.flock d n)) :
    ∃ t, exec (.flock e arb d n) s = .next t ∧
      WroteG (s.bank e.k) (t.bank e.k) d (lo32 (s.host.acquire n e.k arb).1) ∧
      t.host.locks = (s.host.acquire n e.k arb).2.locks ∧ t.host.mbx = (s.host.acquire n e.k arb).2.mbx := by
  obtain ⟨t, ht, wrote, issued⟩ := runLogged_acts (d := d) (f := fun s _ =>
    let (r, h) := s.host.acquire n e.k arb
    (lo32 r, s.modHost fun _ => h)) hs hr
  exact ⟨t, ht, wrote, issued.locks, issued.mbx⟩

theorem flock_takes (hs : s.standby = false) (hr : Ready s e (.flock d n)) :
    ∃ t, exec (.flock e .chosen d n) s = .next t ∧
      (t.bank e.k).rg d = (if d = 0 ∨ s.host.holder n = 15 ∨ s.host.holder n = e.k then 0 else 1) ∧
      t.host.holder n = (if s.host.holder n = 15 then e.k.val else s.host.holder n) ∧
      (∀ j, j ≠ n → t.host.holder j = s.host.holder j) ∧ t.host.mbx = s.host.mbx := by
  obtain ⟨t, ht, wrote, locks, mbx⟩ := flock_acts .chosen hs hr
  have holders := holder_of_locks locks
  refine ⟨t, ht, ?_⟩
  by_cases free : s.host.holder n = 15 ∨ s.host.holder n = e.k
  · rw [acquire_open free] at wrote holders mbx
    simp only [holder_setHolder] at holders
    refine ⟨(wrote.rg_eq_zero rfl).trans (if_pos (.inr free)).symm, ?_,
      fun j hj => by rw [holders, if_neg hj], mbx⟩
    rw [holders, if_pos rfl]
    split
    · rfl
    · exact (free.resolve_left ‹_›).symm
  · rw [acquire_busy free] at wrote holders mbx
    obtain ⟨taken, other⟩ := not_or.mp free
    refine ⟨by rw [wrote.rg_self]; simp only [taken, other, or_false]; rfl, ?_, fun j _ => holders j, mbx⟩
    rw [holders, if_neg taken]

theorem flock_ties (hs : s.standby = false) (hr : Ready s e (.flock d n)) {arb : Arb} (ha : arb ≠ .chosen) :
    ∃ t, exec (.flock e arb d n) s = .next t ∧ (d ≠ 0 → (t.bank e.k).rg d = 2) ∧ t.host.locks = s.host.locks := by
  obtain ⟨t, ht, wrote, locks, -⟩ := flock_acts arb hs hr
  obtain ⟨two, kept⟩ := acquire_tie s.host n e.k ha
  refine ⟨t, ht, fun hd => ?_, locks.trans kept⟩
  rw [wrote.rg_of_ne hd, two]
  rfl

theorem funlock_frees (hs : s.standby = false) (hr : Ready s e (.funlock d n)) :
    ∃ t, exec (.funlock e d n) s = .next t ∧
      (t.bank e.k).rg d = (if d = 0 ∨ s.host.holder n = e.k then 0 else 1) ∧
      t.host.holder n = (if s.host.holder n = e.k then 15 else s.host.holder n) ∧
      (∀ j, j ≠ n → t.host.holder j = s.host.holder j) ∧ t.host.mbx = s.host.mbx := by
  obtain ⟨t, ht, wrote, issued⟩ := runLogged_acts (d := d) (f := fun s _ =>
    let (held, h) := s.host.release n e.k
    (lo32 (bit !held), s.modHost fun _ => h)) hs hr
  have holders := holder_of_locks issued.locks
  have mbx := issued.mbx
  simp only [modHost_host] at holders mbx
  refine ⟨t, ht, ?_⟩
  by_cases mine : s.host.holder n = e.k
  · have freed : s.host.release n e.k = (true, s.host.setHolder n 15) := if_pos mine
    simp only [freed, holder_setHolder] at wrote holders mbx
    refine ⟨(wrote.rg_eq_zero rfl).trans (if_pos (.inr mine)).symm, ?_,
      fun j hj => by rw [holders, if_neg hj], mbx⟩
    rw [holders, if_pos rfl, if_pos mine]
  · have other : s.host.release n e.k = (false, { s.host with foreign := satAdd 16 s.host.foreign 1 }) := if_neg mine
    simp only [other] at wrote holders mbx
    refine ⟨by rw [wrote.rg_self]; simp only [mine, or_false]; rfl, ?_, fun j _ => holders j, mbx⟩
    rw [if_neg mine]
    exact holders n

end

/-! ## Mailboxes (R404, R405) -/

theorem mbx_signal (s : State) (v : Nat) : (s.signal v).host = s.host := put_host ..

theorem ch_modCh (s : State) (c : Fin 16) (f : Mbx → Mbx) : (s.modCh c f).host.ch c = f (s.host.ch c) := by
  simp [State.modCh, HostIf.modCh, HostIf.ch]

theorem outbound_setOutbound (m : Mbx) (p : Nat) (q : MbxQueue) : (m.setOutbound p q).outbound p = q := by
  unfold Mbx.setOutbound Mbx.outbound
  split <;> simp [*]

theorem inbound_setInbound (m : Mbx) (p : Nat) (q : MbxQueue) : (m.setInbound p q).inbound p = q := by
  unfold Mbx.setInbound Mbx.inbound
  split <;> simp [*]

/-- A send queues its word where no end is dead and the queue is not full (R404). -/
theorem send_cases (s : State) (c : Fin 16) (p src : Nat) (w : Word) :
    (s.send c p src w).2.host.locks = s.host.locks ∧
    if (s.host.ch c).has p = false ∨ s.endDead p = true ∨ s.endDead ((s.host.ch c).peer p) = true then
      s.send c p src w = (2, s)
    else if 16 ≤ ((s.host.ch c).outbound p).words.length then s.send c p src w = (1, s)
    else (s.send c p src w).1 = 0 ∧ (((s.send c p src w).2.host.ch c).outbound p).words =
      ((s.host.ch c).outbound p).words ++ [{ word := w, source := src, sentAt := s.now }] := by
  unfold State.send
  dsimp only
  by_cases dead : (s.host.ch c).has p = false ∨ s.endDead p = true ∨ s.endDead ((s.host.ch c).peer p) = true
  · have hd : (!(s.host.ch c).has p || s.endDead p || s.endDead ((s.host.ch c).peer p)) = true := by
      simpa [or_assoc] using dead
    simp [hd, dead]
  · have hd : ¬ (!(s.host.ch c).has p || s.endDead p || s.endDead ((s.host.ch c).peer p)) = true := by
      simpa [or_assoc] using dead
    rw [if_neg hd, if_neg dead]
    by_cases full : 16 ≤ ((s.host.ch c).outbound p).words.length
    · simp [full]
    · rw [if_neg full, if_neg full]
      simp only [apply_ite State.host, mbx_signal, ite_self, ch_modCh, outbound_setOutbound]
      exact ⟨rfl, trivial, trivial⟩

theorem fmbs_sends {s : State} {e : At} {d r : GReg} {c : Fin 16} (hs : s.standby = false)
    (hr : Ready s e (.fmbs d r c)) :
    ∃ t, exec (.fmbs e d r c) s = .next t ∧ t.host.locks = s.host.locks ∧
      (if (s.host.ch c).has 1 = false ∨ s.endDead 1 = true ∨ s.endDead ((s.host.ch c).peer 1) = true then
        (d ≠ 0 → (t.bank e.k).rg d = 2) ∧ t.host.mbx = s.host.mbx
       else if 16 ≤ ((s.host.ch c).outbound 1).words.length then
        (d ≠ 0 → (t.bank e.k).rg d = 1) ∧ t.host.mbx = s.host.mbx
       else (t.bank e.k).rg d = 0 ∧ ((t.host.ch c).outbound 1).words = ((s.host.ch c).outbound 1).words ++
        [{ word := (s.bank e.k).rg r, source := e.k, sentAt := s.now }]) := by
  obtain ⟨t, ht, wrote, issued⟩ := runLogged_acts (d := d) (f := fun s k =>
    let (x, s) := s.send c 1 e.k (k.rg r)
    (lo32 x, s)) hs hr
  obtain ⟨locks, sent⟩ := send_cases s c 1 e.k ((s.bank e.k).rg r)
  have mbx := issued.mbx
  dsimp only at wrote mbx
  refine ⟨t, ht, issued.locks.trans locks, ?_⟩
  split at sent
  · rw [sent] at wrote mbx
    rw [if_pos ‹_›]
    exact ⟨wrote.rg_of_ne, mbx⟩
  · rw [if_neg ‹_›]
    split at sent
    · rw [sent] at wrote mbx
      rw [if_pos ‹_›]
      exact ⟨wrote.rg_of_ne, mbx⟩
    · rw [if_neg ‹_›]
      obtain ⟨ok, queued⟩ := sent
      refine ⟨?_, ?_⟩
      · exact wrote.rg_eq_zero (congrArg lo32 ok)
      · rw [HostIf.ch, mbx]
        exact queued

theorem take_some {s : State} {c : Fin 16} {p : Nat} {x : MbxWord} {rest : List MbxWord}
    (h : ((s.host.ch c).inbound p).words = x :: rest) (has : (s.host.ch c).has p = true) :
    ∃ u, s.take c p = (x.word, x.source, u) ∧ ((u.host.ch c).inbound p).words = rest := by
  simp only [State.take, h, has]
  exact ⟨_, rfl, by rw [ch_modCh, inbound_setInbound]⟩

theorem take_none {s : State} {c : Fin 16} {p : Nat} (h : ((s.host.ch c).inbound p).words = []) :
    s.take c p = (0, 15, s) := by
  simp only [State.take, h]

/-- FMBR writes the result that the unit takes into d and t (R405). -/
theorem fmbr_writes {s : State} {e : At} {d t : GReg} {c : Fin 16} {w y : Word} {s' : State}
    (hl : s.logged (s.bank e.k) (fun u =>
      (((u.take c 1).1, pack [(31, 1, bit ((u.host.ch c).has 1 && ((u.host.ch c).inbound 1).words ≠ [])),
        (0, 4, (u.take c 1).2.1)]), (u.take c 1).2.2)) = some ((w, y), s'))
    (hr : Ready s e (.fmbr d t c)) : ∃ u, exec (.fmbr e d t c) s = .next u ∧
      (∀ r, (u.bank e.k).rg r = (((s.bank e.k).wg d w).wg t y).rg r) ∧ Issued s' u e.k (u.bank e.k) := by
  let x : EAct := {
    act := fun s k =>
      match s.logged k (fun s =>
          let got := (s.host.ch c).has 1 && ((s.host.ch c).inbound 1).words ≠ []
          let (w, src, s) := s.take c 1
          ((w, pack [(31, 1, bit got), (0, 4, src)]), s)) with
      | none => none
      | some ((w, x), s) => some ({ (k.wg d w).wg t x with pc := k.pc + 1, fabIdx := k.fabIdx + 1 }, s) }
  let b' : Bank := { ((s.bank e.k).wg d w).wg t y with pc := (s.bank e.k).pc + 1, fabIdx := (s.bank e.k).fabIdx + 1 }
  have result : s.logged (s.bank e.k) (fun u =>
      let got := (u.host.ch c).has 1 && ((u.host.ch c).inbound 1).words ≠ []
      let (w, src, u) := u.take c 1
      ((w, pack [(31, 1, bit got), (0, 4, src)]), u)) = some ((w, y), s') := hl
  have acts : x.act s (s.bank e.k) = some (b', s') := by
    show (match s.logged (s.bank e.k) (fun u =>
          let got := (u.host.ch c).has 1 && ((u.host.ch c).inbound 1).words ≠ []
          let (w, src, u) := u.take c 1
          ((w, pack [(31, 1, bit got), (0, 4, src)]), u)) with
      | none => none
      | some ((w, y), u) => some ({ ((s.bank e.k).wg d w).wg t y with
          pc := (s.bank e.k).pc + 1, fabIdx := (s.bank e.k).fabIdx + 1 }, u)) = _
    rw [result]
  have h := runOn_ready (x := x) hr rfl acts rfl
  have bank : (s.runOn e _ x).bank e.k = _ := h.bank
  obtain ⟨fg, -⟩ := finish_regs (s.bank e.k) b' (.fmbr d t c) false
  refine ⟨s.runOn e _ x, rfl, fun r => ?_, h.of_bank h.bank.symm⟩
  rw [bank]
  exact rg_of_g fg r

theorem fmbr_takes {s : State} {e : At} {d t : GReg} {c : Fin 16} (hs : s.standby = false) (hdt : d ≠ t)
    (hr : Ready s e (.fmbr d t c)) {x : MbxWord} {rest : List MbxWord}
    (hx : ((s.host.ch c).inbound 1).words = x :: rest) (has : (s.host.ch c).has 1 = true) :
    ∃ u, exec (.fmbr e d t c) s = .next u ∧ ((u.host.ch c).inbound 1).words = rest ∧
      (d ≠ 0 → (u.bank e.k).rg d = x.word) ∧ (t ≠ 0 → (u.bank e.k).rg t = pack [(31, 1, 1), (0, 4, x.source)]) := by
  obtain ⟨s', took, left⟩ := take_some hx has
  obtain ⟨u, hu, wrote, issued⟩ := fmbr_writes (logged_acts hs _ _) hr
  rw [took] at wrote issued
  have mbx := ((issued_of_records (logInput_records _ _) e.k).trans issued).mbx
  refine ⟨u, hu, ?_, fun hd => ?_, fun ht => ?_⟩
  · rw [HostIf.ch, mbx]
    exact left
  · rw [wrote, rg_wg_other _ (.inl hdt), rg_wg_self _ hd]
  · rw [wrote, rg_wg_self _ ht]
    simp [has, hx, bit]

theorem fmbr_empty {s : State} {e : At} {d t : GReg} {c : Fin 16} (hs : s.standby = false) (hdt : d ≠ t)
    (hr : Ready s e (.fmbr d t c)) (hx : ((s.host.ch c).inbound 1).words = []) :
    ∃ u, exec (.fmbr e d t c) s = .next u ∧ u.host.mbx = s.host.mbx ∧
      (d ≠ 0 → (u.bank e.k).rg d = 0) ∧ (t ≠ 0 → (u.bank e.k).rg t = 15) := by
  obtain ⟨u, hu, wrote, issued⟩ := fmbr_writes (logged_acts hs _ _) hr
  rw [take_none hx] at wrote issued
  refine ⟨u, hu, ((issued_of_records (logInput_records _ _) e.k).trans issued).mbx, fun hd => ?_, fun ht => ?_⟩
  · rw [wrote, rg_wg_other _ (.inl hdt), rg_wg_self _ hd]
  · rw [wrote, rg_wg_self _ ht]
    simp [hx, bit]
    rfl

/-! ## Stops (R121) -/

/-- A subsumed stop is recorded and raises none (R26). -/
theorem raiseStop_of_subsumes {s : State} {kind : StopKind} {source index : Nat} {squares : List Nat}
    (h : s.fleet.subsumes (s.nextStop kind source index squares) = true) :
    ∃ u, s.raiseStop kind source index squares = (true, 0, u) ∧ u.fleet = { s.fleet with lastSource := source } := by
  have sub : (s.modFleet fun f => { f with lastSource := source }).fleet.subsumes
      (s.nextStop kind source index squares) = true := h
  refine ⟨_, if_pos sub, ?_⟩
  rw [emit_fleet, logInput_fleet, modFleet_fleet]

/-- Any other stop joins the active ones with the next sequence number (R25). -/
theorem raiseStop_of_not_subsumes {s : State} {kind : StopKind} {source index : Nat} {squares : List Nat}
    (h : s.fleet.subsumes (s.nextStop kind source index squares) = false) :
    ∃ u, s.raiseStop kind source index squares = (false, nextSeq s.fleet.lastSeq, u) ∧
      u.fleet.lastSource = source ∧ u.fleet.stops = s.fleet.stops ++ [s.nextStop kind source index squares] := by
  have alone : ¬ (s.modFleet fun f => { f with lastSource := source }).fleet.subsumes
      (s.nextStop kind source index squares) = true := ne_true_of_eq_false h
  refine ⟨_, if_neg alone, ?_⟩
  rw [apply_ite State.fleet, put_fleet, ite_self, startBurst_fleet]
  dsimp only
  rw [stopEffects_fleet, emit_fleet, logInput_fleet, modFleet_fleet]
  exact ⟨rfl, rfl⟩

/-- No stop joins under a FLEET stop. -/
theorem fleetActive_of_not_subsumes {f : Fleet} {x : Stop} (h : f.subsumes x = false) : f.fleetActive = false :=
  (Bool.or_eq_false_iff.mp h).1

/-- The stop that FSTOP raises of an index. -/
def stopKind : StopArg → StopKind
  | .zone => .zone
  | .robot => .robot

theorem stopKind_eq_ite (k : StopArg) : stopKind k = if k = .zone then StopKind.zone else .robot := by cases k <;> rfl

/-- What FSTOP's stop of an index does: it is subsumed, or it joins with the next sequence number. -/
def StopRaised (s t : State) (kind : StopKind) (index : Nat) (w : Word) : Prop :=
  t.fleet.lastSource = 3 ∧
  ((t.fleet.stops = s.fleet.stops ∧ w = 0x40000000#32) ∨
   (s.fleet.fleetActive = false ∧ ∃ x, t.fleet.stops = s.fleet.stops ++ [x] ∧ x.source = 3 ∧ x.index = index ∧
      x.kind = kind ∧ x.seq = nextSeq s.fleet.lastSeq ∧ w = pack [(30, 2, 0), (0, 16, x.seq)]))

theorem stopRaised_raiseStop (s : State) (kind : StopKind) (index : Nat) (squares : List Nat) :
    StopRaised s (s.raiseStop kind 3 index squares).2.2 kind index
      (pack [(30, 2, bit (s.raiseStop kind 3 index squares).1), (0, 16, (s.raiseStop kind 3 index squares).2.1)]) := by
  cases sub : s.fleet.subsumes (s.nextStop kind 3 index squares) with
  | true =>
    obtain ⟨u, raised, fleet⟩ := raiseStop_of_subsumes sub
    rw [raised]
    dsimp only
    exact ⟨by rw [fleet], .inl ⟨by rw [fleet], by decide⟩⟩
  | false =>
    obtain ⟨u, raised, source, stops⟩ := raiseStop_of_not_subsumes sub
    rw [raised]
    exact ⟨source, .inr ⟨fleetActive_of_not_subsumes sub, _, stops, rfl, rfl, rfl, rfl, rfl⟩⟩

theorem easelStop_refused {s : State} {kind : StopArg} {n : Nat} (h : s.stopIndexOk kind n = false)
    (bad : List (BitVec 21)) : s.easelStop kind n bad = (0x80000000#32, s) := by
  unfold State.easelStop
  rw [h, if_pos (by decide)]
  rfl

theorem easelStop_raises {s : State} {kind : StopArg} {n : Nat} (h : s.stopIndexOk kind n = true)
    (bad : List (BitVec 21)) : StopRaised s (s.easelStop kind n bad).2 (stopKind kind) n (s.easelStop kind n bad).1 := by
  unfold State.easelStop
  rw [h, if_neg (by decide)]
  cases kind with
  | robot => exact stopRaised_raiseStop s .robot n []
  | zone =>
    have raised := stopRaised_raiseStop (s.eccWhere bad (inSquares (zoneSquares (s.section 0x15) n))) .zone n
      (zoneSquares (s.section 0x15) n)
    rw [StopRaised, eccWhere_fleet] at raised
    exact raised

theorem item_records (s : State) (kind key : Nat) (body : List Byte) : OnlyRecords s (s.item kind key body) := rfl

theorem inEpoch_records {f : State → State} (h : ∀ s, OnlyRecords s (f s)) (s : State) (n : Nat) :
    OnlyRecords s (s.inEpoch n f) := h (s.modEv fun e => { e with forEpoch := some n })

theorem stopDone_records (s : State) (kind : StopArg) (i : Nat) (t : TaskCtx) (w : Word) :
    OnlyRecords s (s.stopDone kind i t w) :=
  inEpoch_records (fun u => by
    have refused : OnlyRecords u (if fieldOf w 30 2 = 2 then u.emit evEaselStopRefused t.flow (stopCode kind) i t.task
        else u) := by
      split
      · exact recordless_emit u ..
      · rfl
    exact OnlyRecords.trans refused (item_records _ 7 t.flow _)) s t.epoch

theorem seq_word (n : Nat) : (pack [(30, 2, 0), (0, 16, n)]).toNat = n % 65536 := by
  simp only [pack, packNat, BitVec.toNat_ofNat]
  omega

section
variable {s : State} {e : At} {d r : GReg} {kind : StopArg}

theorem fstop_acts (bad : List (BitVec 21)) (hs : s.standby = false) (hr : Ready s e (.fstop d r kind)) :
    ∃ t, exec (.fstop e d r kind bad) s = .next t ∧
      WroteG (s.bank e.k) (t.bank e.k) d (s.easelStop kind ((s.bank e.k).rg r).toNat bad).1 ∧
      t.fleet = (s.easelStop kind ((s.bank e.k).rg r).toNat bad).2.fleet := by
  obtain ⟨t, ht, wrote, issued⟩ := runLogged_writes (d := d)
    (f := fun s k => s.easelStop kind (k.rg r).toNat bad)
    (both := fun s k w => s.stopDone kind (k.rg r).toNat k.task w) (logged_acts hs _ _) hr
  have done := (issued_of_records (stopDone_records _ kind _ _ _) e.k).trans issued
  have logged := (issued_of_records (logInput_records _ _) e.k).trans done
  exact ⟨t, ht, wrote, logged.fleet⟩

theorem fstop_refused (bad : List (BitVec 21)) (hs : s.standby = false) (hr : Ready s e (.fstop d r kind))
    (h : s.stopIndexOk kind ((s.bank e.k).rg r).toNat = false) :
    ∃ t, exec (.fstop e d r kind bad) s = .next t ∧ (d ≠ 0 → (t.bank e.k).rg d = 0x80000000#32) ∧
      t.fleet = s.fleet := by
  obtain ⟨t, ht, wrote, fleet⟩ := fstop_acts bad hs hr
  rw [easelStop_refused h] at wrote fleet
  exact ⟨t, ht, wrote.rg_of_ne, fleet⟩

theorem fstop_raises (bad : List (BitVec 21)) (hs : s.standby = false) (hr : Ready s e (.fstop d r kind))
    (h : s.stopIndexOk kind ((s.bank e.k).rg r).toNat = true) :
    ∃ t, exec (.fstop e d r kind bad) s = .next t ∧ t.fleet.lastSource = 3 ∧
      ((t.fleet.stops = s.fleet.stops ∧ (d ≠ 0 → (t.bank e.k).rg d = 0x40000000#32)) ∨
       (s.fleet.fleetActive = false ∧ ∃ x, t.fleet.stops = s.fleet.stops ++ [x] ∧ x.source = 3 ∧
          x.index = ((s.bank e.k).rg r).toNat ∧ x.kind = stopKind kind ∧ x.seq = nextSeq s.fleet.lastSeq ∧
          (d ≠ 0 → ((t.bank e.k).rg d).toNat = x.seq % 65536))) := by
  obtain ⟨t, ht, wrote, fleet⟩ := fstop_acts bad hs hr
  obtain ⟨source, raised⟩ := easelStop_raises h bad
  rw [← fleet] at source raised
  refine ⟨t, ht, source, ?_⟩
  rcases raised with ⟨stops, word⟩ | ⟨active, x, stops, hsource, hindex, hkind, hseq, word⟩
  · exact .inl ⟨stops, fun hd => (wrote.rg_of_ne hd).trans word⟩
  · refine .inr ⟨active, x, stops, hsource, hindex, hkind, hseq, fun hd => ?_⟩
    rw [wrote.rg_of_ne hd, word, seq_word]

end

/-! ## Releases (R121) -/

/-- Whether an active FLEET stop has this sequence number. -/
def State.fleetStop (s : State) (q : Nat) : Bool := s.fleet.stops.any fun x => x.seq == q && x.kind == .fleet

theorem fleetStop_of_mem {s : State} {q : Nat} {x : Stop} (hx : x ∈ s.fleet.stops) (hq : x.seq = q)
    (hk : x.kind = .fleet) : s.fleetStop q = true :=
  List.any_eq_true.mpr ⟨x, hx, by simp [hq, hk]⟩

theorem fleetStop_eq_false {s : State} {q : Nat} (h : ∀ x ∈ s.fleet.stops, x.seq = q → x.kind ≠ .fleet) :
    s.fleetStop q = false := by
  refine List.any_eq_false.mpr fun x hx => ?_
  simpa using h x hx

/-- A judged release that a code refuses leaves the stops (R29). -/
theorem judgeRelease_code {s : State} {q role code : Nat} {code1 : Bool}
    (h : (if code1 then 1 else s.releaseCode q) = code) (hc : code ≠ 0) (bad : List (BitVec 21)) :
    s.judgeRelease q role code1 bad = (code, s.refuseRelease q code role) := by
  rw [State.judgeRelease, h]
  split
  · exact absurd rfl hc
  · rfl

section
variable {s : State} {e : At} {d r : GReg} {q : Nat}

theorem fsrel_acts (bad : List (BitVec 21)) (hs : s.standby = false) (hr : Ready s e (.fsrel d r))
    (hq : q = fieldOf ((s.bank e.k).rg r) 0 16) :
    ∃ t, exec (.fsrel e d r bad) s = .next t ∧
      WroteG (s.bank e.k) (t.bank e.k) d (lo32 (s.judgeRelease q 0 (s.fleetStop q) bad).1) ∧
      t.fleet = (s.judgeRelease q 0 (s.fleetStop q) bad).2.fleet := by
  subst hq
  obtain ⟨t, ht, wrote, issued⟩ := runLogged_writes (d := d)
    (f := fun s k =>
      let seq := fieldOf (k.rg r) 0 16
      let fleet := s.fleet.stops.any fun x => x.seq == seq && x.kind == .fleet
      let (code, s) := s.judgeRelease seq 0 fleet bad
      (lo32 code, s))
    (both := fun s k w => s.inEpoch k.task.epoch fun s =>
      s.item 7 k.task.flow (toLE 1 0 ++ toLE 4 (fieldOf (k.rg r) 0 16) ++ toLE 4 w.toNat))
    (logged_acts hs _ _) hr
  have done := (issued_of_records (inEpoch_records (fun s => item_records s ..) _ _) e.k).trans issued
  have logged := (issued_of_records (logInput_records _ _) e.k).trans done
  exact ⟨t, ht, wrote, logged.fleet⟩

/-- A release that a code refuses gives the code and releases nothing. -/
theorem fsrel_refused (bad : List (BitVec 21)) (hs : s.standby = false) (hr : Ready s e (.fsrel d r))
    (hq : q = fieldOf ((s.bank e.k).rg r) 0 16) {code : Nat}
    (h : (if s.fleetStop q then 1 else s.releaseCode q) = code) (hc : code ≠ 0) :
    ∃ t, exec (.fsrel e d r bad) s = .next t ∧ (d ≠ 0 → (t.bank e.k).rg d = lo32 code) ∧
      t.fleet.stops = s.fleet.stops := by
  obtain ⟨t, ht, wrote, fleet⟩ := fsrel_acts bad hs hr hq
  rw [judgeRelease_code h hc] at wrote fleet
  exact ⟨t, ht, wrote.rg_of_ne, by rw [fleet, refuseRelease_fleet]⟩

theorem fsrel_releases (bad : List (BitVec 21)) (hs : s.standby = false) (hr : Ready s e (.fsrel d r))
    (hq : q = fieldOf ((s.bank e.k).rg r) 0 16) {x : Stop} (hx : s.fleet.stops.find? (·.seq == q) = some x)
    (hk : ∀ y ∈ s.fleet.stops, y.seq = q → y.kind ≠ .fleet) (may : MayRelease s x) :
    ∃ t, exec (.fsrel e d r bad) s = .next t ∧ (d ≠ 0 → (t.bank e.k).rg d = 0) ∧
      t.fleet.stops = s.fleet.stops.filter fun y => y.seq != q := by
  obtain ⟨t, ht, wrote, fleet⟩ := fsrel_acts bad hs hr hq
  have code : s.releaseCode q = 0 := (releaseCode_eq_zero_iff hx).mpr may
  have released : s.judgeRelease q 0 (s.fleetStop q) bad =
      (0, (s.eccWhere bad (inSquares x.squares)).releaseStop x 0) := by
    simp only [State.judgeRelease, fleetStop_eq_false hk, Bool.false_eq_true, if_false, code, hx]
  have seq : x.seq = q := by simpa using List.find?_some hx
  rw [released] at wrote fleet
  refine ⟨t, ht, wrote.rg_of_ne, ?_⟩
  rw [fleet, releaseStop_fleet, eccWhere_fleet, seq]

end

/-! ## A standby takes the logged result (R118, R422) -/

/-- The operation wrote its logged result, which is used up, and took, sent and raised nothing. -/
def TookLogged (s t : State) (k : Fin 8) (d : GReg) (x : FabResult) : Prop :=
  (d ≠ 0 → (t.bank k).rg d = x.d) ∧ t.twin.fabric = s.twin.fabric.erase x ∧ t.host.locks = s.host.locks ∧
  t.host.mbx = s.host.mbx ∧ t.fleet = s.fleet

theorem tookLogged_of_issued {s t : State} {e : At} {x : FabResult} {d : GReg} {b : Bank} (hd : d ≠ 0 → (t.bank e.k).rg d = x.d)
    (h : Issued (s.modTwin fun y => { y with fabric := y.fabric.erase x }) t e.k b) : TookLogged s t e.k d x :=
  ⟨hd, congrArg Twin.fabric h.twin, h.locks, h.mbx, h.fleet⟩

section
variable {s : State} {e : At} {x : FabResult} (hs : s.standby = true)
  (hx : (s.twin.fabric.find? fun x => x.task == (s.bank e.k).task.task && x.flow == (s.bank e.k).task.flow &&
    x.op == (s.bank e.k).fabIdx) = some x)
include hs hx

theorem runLogged_takes {c : Res} {i : EInstr} {d : GReg}
    (hc : ∃ f both, c = s.runLogged e i d f both ∧ ∀ u b w, OnlyRecords u (both u b w)) (hr : Ready s e i) :
    ∃ t, c = .next t ∧ TookLogged s t e.k d x := by
  obtain ⟨f, both, hf, records⟩ := hc
  obtain ⟨t, ht, wrote, issued⟩ := runLogged_writes (d := d) (f := f) (both := both) (logged_standby hs hx _) hr
  exact ⟨t, hf.trans ht, tookLogged_of_issued wrote.rg_of_ne ((issued_of_records (records ..) e.k).trans issued)⟩

theorem fmbr_takesLogged {d : GReg} {c : Fin 16} (hr : Ready s e (.fmbr d 0 c)) :
    ∃ t, exec (.fmbr e d 0 c) s = .next t ∧ TookLogged s t e.k d x := by
  obtain ⟨t, ht, wrote, issued⟩ := fmbr_writes (logged_standby hs hx _) hr
  refine ⟨t, ht, tookLogged_of_issued (fun hd => ?_) issued⟩
  rw [wrote, rg_wg_other _ (.inl hd), rg_wg_self _ hd]

end

/-- Settles O18, operation by operation; a standby's are one argument. -/
theorem fabricLocksMailboxesAndStops : Obligations.FabricLocksMailboxesAndStops := by
  refine ⟨?_, ?_, ?_, ?_, ?_, ?_⟩
  · exact fun e d n s hs => ⟨flock_takes hs, fun hr arb ha => flock_ties hs hr ha, funlock_frees hs⟩
  · exact fun e d r c s hs hr => fmbs_sends hs hr
  · exact fun e d t c s hs hdt hr =>
      ⟨fun x rest hx has => fmbr_takes hs hdt hr hx has, fmbr_empty hs hdt hr⟩
  · rintro e d r kind bad s n rfl hs hr
    refine ⟨fstop_refused bad hs hr, fun ok => ?_⟩
    rw [← stopKind_eq_ite]
    exact fstop_raises bad hs hr ok
  · intro e d r bad s n hn hs hr
    refine ⟨fun x hx hq hk => ?_, fun unknown => ?_, fun x hx hk may => fsrel_releases bad hs hr hn hx hk may⟩
    · exact fsrel_refused bad hs hr hn (code := 1) (if_pos (fleetStop_of_mem hx hq hk)) (by decide)
    · have none : s.fleetStop n = false := fleetStop_eq_false fun x hx hq => absurd hq (unknown x hx)
      have code : s.releaseCode n = 2 := releaseCode_unknown (List.find?_eq_none.mpr (by simpa using unknown))
      exact fsrel_refused bad hs hr hn (code := 2) (by rw [none, code]; rfl) (by decide)
  · intro e x s hs hx d r n c kind q arb bad i cmd hm hr
    simp only [List.mem_cons, Prod.mk.injEq, List.not_mem_nil, or_false] at hm
    rcases hm with ⟨rfl, rfl⟩ | ⟨rfl, rfl⟩ | ⟨rfl, rfl⟩ | ⟨rfl, rfl⟩ | ⟨rfl, rfl⟩ | ⟨rfl, rfl⟩ | ⟨rfl, rfl⟩
    · exact runLogged_takes (c := execFlock e arb d n s) hs hx ⟨_, _, rfl, fun _ _ _ => rfl⟩ hr
    · exact runLogged_takes (c := execFunlock e d n s) hs hx ⟨_, _, rfl, fun _ _ _ => rfl⟩ hr
    · exact runLogged_takes (c := execFmbs e d r c s) hs hx ⟨_, _, rfl, fun _ _ _ => rfl⟩ hr
    · exact fmbr_takesLogged hs hx hr
    · exact runLogged_takes (c := execFstop e d r kind bad s) hs hx
        ⟨_, _, rfl, fun u b w => stopDone_records u kind _ _ w⟩ hr
    · exact runLogged_takes (c := execFsrel e d r bad s) hs hx
        ⟨_, _, rfl, fun u b w => inEpoch_records (fun s => item_records s ..) u _⟩ hr
    · exact runLogged_takes (c := execFpcnt e d q s) hs hx ⟨_, _, rfl, fun _ _ _ => rfl⟩ hr

end Sys2Proof.Machine
end

section
/-! Put and get requests of Easels at the Palette (O44; R124, R375, R377, Tables 4-13 and 4-14). -/

namespace Sys2Proof.Machine

/-! ## What a queue's change leaves of the Palette -/

@[simp] theorem jobs_modQ (p : Palette) (q : Nat) (f : PQueue → PQueue) : (p.modQ q f).jobs = p.jobs := by
  unfold Palette.modQ
  split <;> rfl

theorem q_modQ {p : Palette} {q : Nat} (h : q < 64) (f : PQueue → PQueue) : (p.modQ q f).q q = f (p.q q) := by
  simp [Palette.modQ, Palette.q, h, List.getD_eq_getElem?_getD]

theorem jobs_tryPut (p : Palette) (q : Nat) (k : Packet) : (p.tryPut q k).2.jobs = p.jobs := by
  unfold Palette.tryPut
  split
  · exact jobs_modQ ..
  · exact jobs_modQ ..

theorem jobs_offer (p : Palette) (q : Nat) (k : Packet) : (p.offer q k).2.jobs = p.jobs := by
  unfold Palette.offer
  split
  · rfl
  · exact jobs_tryPut ..

/-! ## A record leaves the requests and the results -/

/-- The requests of Easels and the results that wait are as they were. -/
def KeepsWork (s t : State) : Prop := t.palette.jobs = s.palette.jobs ∧ t.dsp.results = s.dsp.results

theorem KeepsWork.trans {s t u : State} (h : KeepsWork s t) (h' : KeepsWork t u) : KeepsWork s u :=
  ⟨h'.1.trans h.1, h'.2.trans h.2⟩

theorem keepsWork_modPalette (s : State) {f : Palette → Palette} (h : (f s.palette).jobs = s.palette.jobs) :
    KeepsWork s (s.modPalette f) := ⟨h, rfl⟩

theorem keepsWork_arrive (s : State) (kind sel : Nat) (w : Word) :
    KeepsWork s (s.modDsp fun d => (d.arrive kind sel w).2) :=
  ⟨rfl, (congrArg Dsp.results (quiet_arrive s.dsp kind sel w) :)⟩

theorem keepsWork_stageEvq (s : State) (n : Nat) (r : Record) : KeepsWork s (s.stageEvq n r) := by
  have offered : KeepsWork s (s.modPalette fun _ => (s.palette.offer (24 + n) { level := 0, bytes := r.bytes 0 }).2) :=
    keepsWork_modPalette s (jobs_offer ..)
  unfold State.stageEvq
  exact rel_ite offered (offered.trans ⟨rfl, rfl⟩)

theorem keepsWork_steps : RecordSteps KeepsWork where
  refl _ := ⟨rfl, rfl⟩
  trans := KeepsWork.trans
  stage := keepsWork_stageEvq
  arrive s r := keepsWork_arrive s 6 r.code _
  log _ _ := ⟨rfl, rfl⟩
  losses _ _ := ⟨rfl, rfl⟩
  make _ _ _ _ _ _ _ _ _ := ⟨rfl, rfl⟩
  bucket _ _ _ := ⟨rfl, rfl⟩

/-! ## Puts (R375) -/

theorem keepsWork_arrivalFor (s : State) (q : Nat) (k : Packet) : KeepsWork s (s.arrivalFor q k) := by
  unfold State.arrivalFor
  split
  · exact keepsWork_arrive ..
  · exact ⟨rfl, rfl⟩

theorem arrivalFor_palette (s : State) (q : Nat) (k : Packet) : (s.arrivalFor q k).palette = s.palette := by
  unfold State.arrivalFor
  split <;> rfl

theorem arrivalFor_atelier (s : State) (q : Nat) (k : Packet) : (s.arrivalFor q k).atelier = s.atelier := by
  unfold State.arrivalFor
  split <;> rfl

theorem putPacket_refused {s : State} {q : Nat} {k : Packet} (h : s.palette.admits q k.cells = false) :
    ∃ u, s.putPacket q k = (false, u) ∧ KeepsWork s u ∧ u.atelier = s.atelier := by
  have refused : s.palette.tryPut q k = (false, s.palette.modQ q fun x => { x with full := satAdd 8 x.full 1 }) :=
    if_neg (ne_true_of_eq_false h)
  refine ⟨s.modPalette fun _ => s.palette.modQ q fun x => { x with full := satAdd 8 x.full 1 },
    by rw [State.putPacket, refused]; rfl, keepsWork_modPalette s ?_, rfl⟩
  exact jobs_modQ ..

/-- An admitted packet goes to the end of its queue. -/
theorem putPacket_admitted {s : State} {q : Nat} {k : Packet} (hq : q < 64) (h : s.palette.admits q k.cells = true) :
    ∃ u, s.putPacket q k = (true, u) ∧ KeepsWork s u ∧ u.atelier = s.atelier ∧
      (u.palette.q q).packets = (s.palette.q q).packets ++ [k] := by
  have stored : s.palette.tryPut q k = (true, s.palette.store q k) := if_pos h
  refine ⟨(s.modPalette fun _ => s.palette.store q k).arrivalFor q k, by rw [State.putPacket, stored]; rfl, ?_, ?_, ?_⟩
  · exact (keepsWork_modPalette s (jobs_modQ ..)).trans (keepsWork_arrivalFor ..)
  · rw [arrivalFor_atelier]
    rfl
  · rw [arrivalFor_palette, modPalette_palette, Palette.store, q_modQ hq]

/-! ## Gets (R376, R377) -/

theorem keepsWork_linkFault (s : State) (q : Nat) : KeepsWork s (s.linkFault q) := ⟨jobs_modQ .., rfl⟩

theorem keepsWork_crcDrop (s : State) (q len reader : Nat) : KeepsWork s (s.crcDrop q len reader) :=
  (keepsWork_modPalette s (jobs_modQ ..)).trans (keepsWork_steps.emit ..)

/-- The packet at an index leaves its queue. -/
theorem keepsWork_erase (s : State) (q i n : Nat) : KeepsWork s (s.modPalette fun p =>
    { p.modQ q (fun x => { x with packets := x.packets.eraseIdx i, headSince := none }) with linkCorr := n }) :=
  keepsWork_modPalette s (jobs_modQ ..)

theorem keepsWork_readOut (s : State) (q i reader : Nat) (ro : ReadOut) : KeepsWork s (s.readOut q i reader ro).2 := by
  unfold State.readOut
  split
  · exact ⟨rfl, rfl⟩
  · split
    · exact keepsWork_linkFault s q
    · dsimp only
      rw [apply_ite Prod.snd]
      exact rel_ite (keepsWork_erase s q i _) ((keepsWork_erase s q i _).trans (keepsWork_crcDrop ..))

theorem keepsWork_readHead (s : State) (q reader : Nat) (ro : ReadOut) : KeepsWork s (s.readHead q reader ro).2 := by
  unfold State.readHead
  split
  · exact keepsWork_readOut ..
  · exact ⟨rfl, rfl⟩

theorem readHead_packet {s : State} {q : Nat} {k : Packet} (h : (s.palette.q q).head = some k) (reader : Nat) :
    ∃ u, s.readHead q reader { crcOk := true, link := .ok } = (.packet k, u) ∧ u.atelier = s.atelier := by
  obtain ⟨i, hi, hk⟩ := Option.bind_eq_some_iff.mp h
  simp only [State.readHead, hi, State.readOut, hk]
  exact ⟨_, rfl, rfl⟩

theorem keepsWork_getPacket (s : State) (q cap reader : Nat) (ro : ReadOut) :
    KeepsWork s (s.getPacket q cap reader ro).2.2 := by
  have read := keepsWork_readHead s q reader ro
  unfold State.getPacket
  split
  · exact ⟨rfl, rfl⟩
  · split
    · exact ⟨rfl, rfl⟩
    · split <;> rename_i hread <;> rwa [hread] at read

theorem getPacket_empty {s : State} {q : Nat} (h : (s.palette.q q).head = none) (cap reader : Nat) (ro : ReadOut) :
    s.getPacket q cap reader ro = (palWord 1 0 0, [], s) := by
  simp only [State.getPacket, h]

theorem getPacket_fits {s : State} {q cap : Nat} {k : Packet} (h : (s.palette.q q).head = some k)
    (fits : k.bytes.length ≤ cap) (reader : Nat) :
    ∃ u, s.getPacket q cap reader { crcOk := true, link := .ok } = (palWord 0 k.level k.bytes.length, k.bytes, u) ∧
      u.atelier = s.atelier := by
  obtain ⟨u, read, atelier⟩ := readHead_packet h reader
  refine ⟨u, ?_, atelier⟩
  simp only [State.getPacket, h, if_neg (Nat.not_lt.mpr fits), read]

/-! ## A request's descriptor is judged (Table 4-14) -/

section
variable {s : State} {a : Nat}

theorem easelPut_invalid (h : s.palDescOk true a = false) : s.easelPut a = (3, palWord 3 0 0, s) := by
  unfold State.easelPut
  rw [if_pos (by simp [h])]

theorem easelPut_closed (h : s.palDescOk true a = true)
    (hq : s.palette.easelPut (fieldOf (s.atelier.word a) 0 6) = false) : s.easelPut a = (2, palWord 2 0 0, s) := by
  unfold State.easelPut
  rw [if_neg (by simp [h]), if_pos (by simp [hq])]

/-- The packet that a put's descriptor names. -/
def State.putBytes (s : State) (a : Nat) : Packet :=
  { level := fieldOf (s.atelier.word a) 8 3, bytes := s.atelier.bytes (a + 32) (fieldOf (s.atelier.word a) 16 16) }

theorem putBytes_cells (s : State) (a : Nat) : (s.putBytes a).cells = cellsFor (fieldOf (s.atelier.word a) 16 16) :=
  congrArg cellsFor (length_memBytes ..)

theorem easelPut_judged (h : s.palDescOk true a = true)
    (hq : s.palette.easelPut (fieldOf (s.atelier.word a) 0 6) = true) {ok : Bool} {u : State}
    (hp : s.putPacket (fieldOf (s.atelier.word a) 0 6) (s.putBytes a) = (ok, u)) :
    s.easelPut a = if ok then (0, palWord 0 0 (s.putBytes a).cells, u) else (1, palWord 1 0 0, u) := by
  unfold State.easelPut
  rw [if_neg (by simp [h]), if_neg (by simp [hq])]
  exact congrArg (fun x : Bool × State => if x.1 then (0, palWord 0 0 (s.putBytes a).cells, x.2)
    else (1, palWord 1 0 0, x.2)) hp

theorem queue_lt (w : Word) : fieldOf w 0 6 < 64 := Nat.mod_lt _ (by decide)

theorem easelPut_keeps (s : State) (a : Nat) : KeepsWork s (s.easelPut a).2.2 ∧ (s.easelPut a).2.2.atelier = s.atelier := by
  cases valid : s.palDescOk true a with
  | false =>
    rw [easelPut_invalid valid]
    exact ⟨⟨rfl, rfl⟩, rfl⟩
  | true =>
    cases isOpen : s.palette.easelPut (fieldOf (s.atelier.word a) 0 6) with
    | false =>
      rw [easelPut_closed valid isOpen]
      exact ⟨⟨rfl, rfl⟩, rfl⟩
    | true =>
      cases admitted : s.palette.admits (fieldOf (s.atelier.word a) 0 6) (s.putBytes a).cells with
      | false =>
        obtain ⟨u, put, keeps, atelier⟩ := putPacket_refused admitted
        rw [easelPut_judged valid isOpen put]
        exact ⟨keeps, atelier⟩
      | true =>
        obtain ⟨u, put, keeps, atelier, -⟩ := putPacket_admitted (queue_lt _) admitted
        rw [easelPut_judged valid isOpen put]
        exact ⟨keeps, atelier⟩

theorem easelGet_invalid (h : s.palDescOk false a = false) (ro : ReadOut) :
    s.easelGet a ro = (3, palWord 3 0 0, s) := by
  unfold State.easelGet
  rw [if_pos (by simp [h])]

theorem easelGet_closed (h : s.palDescOk false a = true)
    (hq : s.palette.easelGet (fieldOf (s.atelier.word a) 0 6) = false) (ro : ReadOut) :
    s.easelGet a ro = (2, palWord 2 0 0, s) := by
  unfold State.easelGet
  rw [if_neg (by simp [h]), if_pos (by simp [hq])]

theorem easelGet_judged (h : s.palDescOk false a = true)
    (hq : s.palette.easelGet (fieldOf (s.atelier.word a) 0 6) = true) {ro : ReadOut} {w : Word} {bs : List Byte} {u : State}
    (hg : s.getPacket (fieldOf (s.atelier.word a) 0 6) (fieldOf (s.atelier.word a) 16 16) 0 ro = (w, bs, u)) :
    s.easelGet a ro = (fieldOf w 28 4, w, u.modAtelier fun t => if bs = [] then t else t.write (a + 32) bs) := by
  unfold State.easelGet
  rw [if_neg (by simp [h]), if_neg (by simp [hq]), hg]

theorem easelGet_keeps (s : State) (a : Nat) (ro : ReadOut) : KeepsWork s (s.easelGet a ro).2.2 := by
  cases valid : s.palDescOk false a with
  | false =>
    rw [easelGet_invalid valid]
    exact ⟨rfl, rfl⟩
  | true =>
    cases isOpen : s.palette.easelGet (fieldOf (s.atelier.word a) 0 6) with
    | false =>
      rw [easelGet_closed valid isOpen]
      exact ⟨rfl, rfl⟩
    | true =>
      rw [easelGet_judged valid isOpen rfl]
      exact (keepsWork_getPacket ..).trans ⟨rfl, rfl⟩

end

/-! ## The request is answered (R124) -/

/-- A refusal is recorded, the request is digested, and the result goes to the dispatcher. -/
def State.answer (s : State) (j : PalJob) (q st : Nat) (w : Word) : State :=
  let u := if st = 2 ∨ st = 3 then s.emit evPaletteRequestRefused j.flow q st (bit (!j.put)) else s
  let k := u.atelier.bytes (j.addr + 32) (fieldOf w 0 16)
  (u.item (if j.put then 5 else 6) q
    (if j.put then u.putItem j.addr st else toLE 4 w.toNat ++ toLE 4 (crc32 k))).pushResult
    (if j.put then 3 else 4) j.task j.slot w

/-- The result of a request: its stage by the sub-op of Table 4-12. -/
def resultOf (j : PalJob) (w : Word) : StageResult :=
  { stage := if j.put then 3 else 4, task := j.task, slot := j.slot, word := w }

/-- The requests but the oldest, which is under way. -/
def State.startJob (s : State) (rest : List PalJob) : State := s.modPalette fun p => { p with jobs := rest }

section
variable {s : State} {j : PalJob} {rest : List PalJob}

theorem answer_keeps (s : State) (j : PalJob) (q st : Nat) (w : Word) :
    (s.answer j q st w).palette.jobs = s.palette.jobs ∧ (s.answer j q st w).atelier = s.atelier ∧
    (s.answer j q st w).dsp.results = s.dsp.results ++ [resultOf j w] := by
  let u := if st = 2 ∨ st = 3 then s.emit evPaletteRequestRefused j.flow q st (bit (!j.put)) else s
  have keeps : KeepsWork s u := rel_ite (keepsWork_steps.emit ..) ⟨rfl, rfl⟩
  have atelier : u.atelier = s.atelier := by
    simp only [u, apply_ite State.atelier, emit_atelier, ite_self]
  exact ⟨keeps.1, atelier, congrArg (· ++ [resultOf j w]) keeps.2⟩

theorem complete_put (hj : s.palette.jobs = j :: rest) (hp : j.put = true) (hr : s.palette.rebuilds = [])
    {st : Nat} {w : Word} {u : State} (hu : (s.startJob rest).easelPut j.addr = (st, w, u)) (ro : ReadOut) :
    exec (.paletteRequestComplete ro) s = .next (u.answer j (fieldOf (s.atelier.word j.addr) 0 6) st w) := by
  change execPaletteRequestComplete ro s = _
  unfold execPaletteRequestComplete State.startJob at *
  simp only [hj, hp, hr, ne_eq, not_true_eq_false, decide_false, Bool.and_false, Bool.false_eq_true, if_false, if_true, hu]
  simp only [State.answer, hp, if_true]

theorem complete_get (hj : s.palette.jobs = j :: rest) (hp : j.put = false)
    {ro : ReadOut} {st : Nat} {w : Word} {u : State} (hu : (s.startJob rest).easelGet j.addr ro = (st, w, u)) :
    exec (.paletteRequestComplete ro) s = .next (u.answer j (fieldOf (s.atelier.word j.addr) 0 6) st w) := by
  change execPaletteRequestComplete ro s = _
  unfold execPaletteRequestComplete State.startJob at *
  simp only [hj, hp, Bool.false_and, Bool.false_eq_true, if_false, hu]
  simp only [State.answer, hp, Bool.false_eq_true, if_false]

/-- A put leaves the Atelier, and yields the word of its judgement. -/
theorem put_answers (hj : s.palette.jobs = j :: rest) (hp : j.put = true) (hr : s.palette.rebuilds = [])
    (ro : ReadOut) : ∃ t, exec (.paletteRequestComplete ro) s = .next t ∧ t.palette.jobs = rest ∧
      t.atelier = s.atelier ∧
      t.dsp.results = s.dsp.results ++ [resultOf j ((s.startJob rest).easelPut j.addr).2.1] := by
  obtain ⟨keeps, same⟩ := easelPut_keeps (s.startJob rest) j.addr
  obtain ⟨jobs, atelier, results⟩ := answer_keeps ((s.startJob rest).easelPut j.addr).2.2 j
    (fieldOf (s.atelier.word j.addr) 0 6) ((s.startJob rest).easelPut j.addr).1 ((s.startJob rest).easelPut j.addr).2.1
  exact ⟨_, complete_put hj hp hr rfl ro, jobs.trans keeps.1, atelier.trans same, results.trans (congrArg (· ++ _) keeps.2)⟩

/-- A get yields the word of its judgement, and the Atelier is as that left it. -/
theorem get_answers (hj : s.palette.jobs = j :: rest) (hp : j.put = false) (ro : ReadOut) :
    ∃ t, exec (.paletteRequestComplete ro) s = .next t ∧ t.palette.jobs = rest ∧
      t.atelier = ((s.startJob rest).easelGet j.addr ro).2.2.atelier ∧
      t.dsp.results = s.dsp.results ++ [resultOf j ((s.startJob rest).easelGet j.addr ro).2.1] := by
  have keeps := easelGet_keeps (s.startJob rest) j.addr ro
  obtain ⟨jobs, atelier, results⟩ := answer_keeps ((s.startJob rest).easelGet j.addr ro).2.2 j
    (fieldOf (s.atelier.word j.addr) 0 6) ((s.startJob rest).easelGet j.addr ro).1
    ((s.startJob rest).easelGet j.addr ro).2.1
  exact ⟨_, complete_get hj hp rfl, jobs.trans keeps.1, atelier, results.trans (congrArg (· ++ _) keeps.2)⟩

/-- An admitted put stores its bytes and yields the cells used. -/
theorem put_completes (hj : s.palette.jobs = j :: rest) (hp : j.put = true) (hr : s.palette.rebuilds = [])
    (valid : s.palDescOk true j.addr = true)
    (isOpen : s.palette.easelPut (fieldOf (s.atelier.word j.addr) 0 6) = true)
    (admitted : s.palette.admits (fieldOf (s.atelier.word j.addr) 0 6)
      (cellsFor (fieldOf (s.atelier.word j.addr) 16 16)) = true) (ro : ReadOut) :
    ∃ t, exec (.paletteRequestComplete ro) s = .next t ∧ t.palette.jobs = rest ∧
      (t.palette.q (fieldOf (s.atelier.word j.addr) 0 6)).packets =
        (s.palette.q (fieldOf (s.atelier.word j.addr) 0 6)).packets ++ [s.putBytes j.addr] ∧
      t.dsp.results = s.dsp.results ++
        [resultOf j (palWord 0 0 (cellsFor (fieldOf (s.atelier.word j.addr) 16 16)))] ∧
      t.atelier = s.atelier := by
  rw [← putBytes_cells] at admitted ⊢
  obtain ⟨u, put, -, -, packets⟩ :=
    putPacket_admitted (s := s.startJob rest) (queue_lt (s.atelier.word j.addr)) admitted
  have judged := easelPut_judged (s := s.startJob rest) valid isOpen put
  have done := complete_put hj hp hr judged ro
  obtain ⟨t, ht, jobs, atelier, results⟩ := put_answers hj hp hr ro
  obtain rfl := Host.Outcome.next.inj (done.symm.trans ht)
  rw [judged] at results
  exact ⟨_, ht, jobs, packets, results, atelier⟩

/-- A get whose head packet fits stores the packet behind the descriptor and yields its length. -/
theorem get_completes {k : Packet} (hj : s.palette.jobs = j :: rest) (hp : j.put = false)
    (valid : s.palDescOk false j.addr = true)
    (isOpen : s.palette.easelGet (fieldOf (s.atelier.word j.addr) 0 6) = true)
    (head : (s.palette.q (fieldOf (s.atelier.word j.addr) 0 6)).head = some k) (nonempty : 1 ≤ k.bytes.length)
    (fits : k.bytes.length ≤ fieldOf (s.atelier.word j.addr) 16 16) :
    ∃ t, exec (.paletteRequestComplete { crcOk := true, link := .ok }) s = .next t ∧
      t.palette.jobs = rest ∧ t.atelier = s.atelier.write (j.addr + 32) k.bytes ∧
      t.dsp.results = s.dsp.results ++ [resultOf j (palWord 0 k.level k.bytes.length)] := by
  obtain ⟨u, got, atelier⟩ := getPacket_fits (s := s.startJob rest) head fits 0
  have stored := easelGet_judged (s := s.startJob rest) valid isOpen got
  obtain ⟨t, ht, jobs, written, results⟩ := get_answers hj hp { crcOk := true, link := .ok }
  rw [stored] at written results
  refine ⟨t, ht, jobs, written.trans ?_, results⟩
  have some : k.bytes ≠ [] := List.ne_nil_of_length_pos nonempty
  rw [modAtelier_atelier, if_neg some, atelier]
  rfl

/-- What a put that is refused yields. -/
theorem put_refused (hj : s.palette.jobs = j :: rest) (hp : j.put = true) (hr : s.palette.rebuilds = [])
    (ro : ReadOut) : ∃ t, exec (.paletteRequestComplete ro) s = .next t ∧ t.palette.jobs = rest ∧
      t.atelier = s.atelier ∧
      (s.palDescOk true j.addr = false → t.dsp.results = s.dsp.results ++ [resultOf j (palWord 3 0 0)]) ∧
      (s.palDescOk true j.addr = true → s.palette.easelPut (fieldOf (s.atelier.word j.addr) 0 6) = false →
        t.dsp.results = s.dsp.results ++ [resultOf j (palWord 2 0 0)]) ∧
      (s.palDescOk true j.addr = true → s.palette.easelPut (fieldOf (s.atelier.word j.addr) 0 6) = true →
        s.palette.admits (fieldOf (s.atelier.word j.addr) 0 6)
          (cellsFor (fieldOf (s.atelier.word j.addr) 16 16)) = false →
        t.dsp.results = s.dsp.results ++ [resultOf j (palWord 1 0 0)]) := by
  obtain ⟨t, ht, jobs, atelier, results⟩ := put_answers hj hp hr ro
  refine ⟨t, ht, jobs, atelier, fun invalid => ?_, fun valid closed => ?_, fun valid isOpen full => ?_⟩
  · rwa [easelPut_invalid (s := s.startJob rest) invalid] at results
  · rwa [easelPut_closed (s := s.startJob rest) valid closed] at results
  · rw [← putBytes_cells] at full
    obtain ⟨u, put, -⟩ := putPacket_refused (s := s.startJob rest) full
    rwa [easelPut_judged (s := s.startJob rest) valid isOpen put] at results

/-- What a get that is refused, or meets an empty queue, yields. -/
theorem get_refused (hj : s.palette.jobs = j :: rest) (hp : j.put = false) (ro : ReadOut) :
    ∃ t, exec (.paletteRequestComplete ro) s = .next t ∧ t.palette.jobs = rest ∧
      (s.palDescOk false j.addr = false → t.atelier = s.atelier ∧
        t.dsp.results = s.dsp.results ++ [resultOf j (palWord 3 0 0)]) ∧
      (s.palDescOk false j.addr = true → s.palette.easelGet (fieldOf (s.atelier.word j.addr) 0 6) = false →
        t.atelier = s.atelier ∧ t.dsp.results = s.dsp.results ++ [resultOf j (palWord 2 0 0)]) ∧
      (s.palDescOk false j.addr = true → s.palette.easelGet (fieldOf (s.atelier.word j.addr) 0 6) = true →
        (s.palette.q (fieldOf (s.atelier.word j.addr) 0 6)).head = none →
        t.atelier = s.atelier ∧ t.dsp.results = s.dsp.results ++ [resultOf j (palWord 1 0 0)]) := by
  obtain ⟨t, ht, jobs, atelier, results⟩ := get_answers hj hp ro
  refine ⟨t, ht, jobs, fun invalid => ?_, fun valid closed => ?_, fun valid isOpen empty => ?_⟩
  · rw [easelGet_invalid (s := s.startJob rest) invalid] at atelier results
    exact ⟨atelier, results⟩
  · rw [easelGet_closed (s := s.startJob rest) valid closed] at atelier results
    exact ⟨atelier, results⟩
  · rw [easelGet_judged (s := s.startJob rest) valid isOpen (getPacket_empty (s := s.startJob rest) empty ..)] at atelier results
    exact ⟨atelier, results⟩

theorem complete_none (h : s.palette.jobs = []) (ro : ReadOut) : exec (.paletteRequestComplete ro) s = .next s := by
  change execPaletteRequestComplete ro s = _
  rw [execPaletteRequestComplete, h]

end

/-- Settles O44: puts and gets, with the refusals of each. -/
theorem easelPaletteRequests : Obligations.EaselPaletteRequests := by
  refine ⟨?_, ?_, ?_, ?_⟩
  · intro j rest ro s hj hp hr valid isOpen admitted
    obtain ⟨t, ht, jobs, packets, results, atelier⟩ := put_completes hj hp hr valid isOpen admitted ro
    refine ⟨t, ht, jobs, packets, ?_, atelier⟩
    rw [results, resultOf, hp, if_pos rfl]
  · intro j rest k s hj hp valid isOpen head nonempty fits
    obtain ⟨t, ht, jobs, atelier, results⟩ := get_completes hj hp valid isOpen head nonempty fits
    refine ⟨t, ht, jobs, atelier, ?_⟩
    rw [results, resultOf, hp, if_neg Bool.false_ne_true]
  · rintro j rest ro q stage s hj hr rfl rfl
    cases hp : j.put with
    | true =>
      obtain ⟨t, ht, jobs, atelier, invalid, closed, full⟩ := put_refused hj hp hr ro
      simp only [resultOf, hp] at invalid closed full
      exact ⟨t, ht, jobs, fun h => ⟨atelier, invalid h⟩, fun h ho _ => ⟨atelier, closed h (ho rfl)⟩,
        fun h _ ho ha => ⟨atelier, full h ho ha⟩, fun _ => nofun⟩
    | false =>
      obtain ⟨t, ht, jobs, invalid, closed, empty⟩ := get_refused hj hp ro
      simp only [resultOf, hp] at invalid closed empty
      exact ⟨t, ht, jobs, invalid, fun h _ ho => closed h (ho rfl), fun _ => nofun, fun h _ ho hh => empty h ho hh⟩
  · exact fun ro s h => complete_none h ro

end Sys2Proof.Machine
end

section
/-! The stop of a Cartoon (R143, R158), which O23 misstates: a STOP restarts the idle time of its session (R471) before
the stop takes the session's role, and with an idle time of 0 a session whose last use lies ahead of world time so
ends at once. The idle time is 600 s at reset and is written as 1 s to 3600 s, so no run reaches such a state. -/

namespace Sys2Proof.Machine

/-- What a command of the dispatcher does where the unit takes it. -/
theorem command_taken {s : State} {rank : Nat} {shared : Bool} (h : s.takes rank shared) (cmd : Nat)
    (f : State → State) : s.command cmd rank shared f = .next (f s.touch) := by
  obtain ⟨ha, hr, hserves, hb⟩ := h
  have hb' : s.touch.dsp.isBusy = false := hb
  have hshut : ¬ (shared && s.touch.rbit rTwnCfg 0 && !s.touch.serving) = true := by
    simp only [Bool.and_eq_true, Bool.not_eq_true']
    rintro ⟨⟨hs, hp⟩, hn⟩
    exact Bool.false_ne_true (hn.symm.trans (hserves hs hp))
  rw [State.command, bar_awake ha, if_neg (by omega), if_neg hshut, if_neg (by simp [hb'])]

/-- A STOP records the role that its session has once the command has restarted its idle time. -/
theorem stop_taken {s : State} (h : s.takes 1 true) (hl : s.dsp.live = true) (hf : s.fleet.fleetActive = true) :
    ∃ t, exec .stop s = .next t ∧ t.dsp.stopRole = s.touch.pcieRole := by
  have hc : (s.touch.dsp.live && s.touch.fleet.fleetActive) = true := by
    rw [show s.touch.dsp = s.dsp from rfl, show s.touch.fleet = s.fleet from rfl, hl, hf, Bool.and_self]
  refine ⟨s.touch.beginStop 3 s.touch.pcieRole, ?_, rfl⟩
  change execStop s = _
  rw [execStop, command_taken h, if_pos hc]

/-- A Cartoon runs in SOLO under the FLEET stop of a boot, with the session of `lapsing`. -/
def lapsingLive : State :=
  (lapsing.modDsp fun d => { d with mode := .running }).modTwin fun t => { t with state := .solo }

theorem lapsingLive_takes : lapsingLive.takes 1 true := by
  have ha : lapsingLive.awake = true := by decide
  have hs : lapsingLive.serving = true := by decide
  have hb : lapsingLive.dsp.isBusy = false := by decide
  exact ⟨ha, lapsing_pcieRole.ge, fun _ _ => hs, hb⟩

/-- Refutes O23: a STOP that is taken records the role 0 that its session has once the command has restarted its idle
time, not the 1 it had before. -/
theorem not_cartoonCommands : ¬ Obligations.CartoonCommands := by
  rintro ⟨-, -, hrole1, -⟩
  have hl : lapsingLive.dsp.live = true := by decide
  have hf : lapsingLive.fleet.fleetActive = true := by decide
  obtain ⟨-, -, hstop, -⟩ := hrole1 lapsingLive lapsingLive_takes
  obtain ⟨t, ht, -, hrole, -⟩ := hstop hl hf
  obtain ⟨t', ht', hrole'⟩ := stop_taken lapsingLive_takes hl hf
  obtain rfl : t = t' := Host.Outcome.next.inj (ht.symm.trans ht')
  have e : lapsingLive.pcieRole = lapsingLive.touch.pcieRole := hrole.symm.trans hrole'
  rw [show lapsingLive.pcieRole = 1 from lapsing_pcieRole,
    show lapsingLive.touch.pcieRole = 0 from lapsing_touch_pcieRole] at e
  exact absurd e (by decide)

end Sys2Proof.Machine
end

section
/-! Cells of the Canvas: what a write, a blocking of FREE cells and a word found uncorrectable leave of the others
(R168, R171, R206). -/

namespace Sys2Proof.Machine

/-- A fold over any kind of state leaves what each of its steps leaves. -/
theorem foldl_leaves {σ α β : Type} (p : σ → β) {f : σ → α → σ} (h : ∀ x a, p (f x a) = p x) (l : List α) (x : σ) :
    p (l.foldl f x) = p x := by
  induction l generalizing x with
  | nil => rfl
  | cons a l ih => rw [List.foldl_cons, ih, h]

/-! ## All but the cells -/

/-- The Canvas with its cells set aside. -/
def Canvas.offCells (c : Canvas) : Canvas := { c with cells := [] }

section
variable {c d : Canvas} (h : d.offCells = c.offCells)
include h

theorem used_of_offCells : d.used = c.used := by
  have hn : d.n = c.n := (congrArg Canvas.n h :)
  have hm : d.map = c.map := (congrArg Canvas.map h :)
  funext q
  rw [Canvas.used, Canvas.used, hn, hm]

theorem robots_of_offCells : d.robots = c.robots := (congrArg Canvas.robots h :)
theorem batch_of_offCells : d.batch = c.batch := (congrArg Canvas.batch h :)

end

@[simp] theorem offCells_setCell (c : Canvas) (i : Nat) (v : Cell) : (c.setCell i v).offCells = c.offCells := by
  unfold Canvas.setCell
  split <;> rfl

@[simp] theorem offCells_setFree (c : Canvas) (v : Nat → Cell) (is : List Nat) :
    (c.setFree v is).2.offCells = c.offCells :=
  foldl_leaves (fun x : Nat × Canvas => x.2.offCells)
    (fun x i => by split <;> [exact offCells_setCell ..; rfl]) is (0, c)

@[simp] theorem offCells_freeIf (c : Canvas) (p : Cell → Bool) (is : List Nat) :
    (c.freeIf p is).2.offCells = c.offCells :=
  foldl_leaves (fun x : Nat × Canvas => x.2.offCells)
    (fun x i => by split <;> [exact offCells_setCell ..; rfl]) is (0, c)

@[simp] theorem offCells_blockWord (c : Canvas) (w : Nat) : (c.blockWord w).offCells = c.offCells :=
  foldl_leaves Canvas.offCells (fun _ _ => offCells_setCell ..) _ c

theorem setFree_robots (c : Canvas) (v : Nat → Cell) (is : List Nat) : (c.setFree v is).2.robots = c.robots :=
  robots_of_offCells (offCells_setFree ..)

theorem setFree_batch (c : Canvas) (v : Nat → Cell) (is : List Nat) : (c.setFree v is).2.batch = c.batch :=
  batch_of_offCells (offCells_setFree ..)

/-! ## One cell -/

theorem cell_of_used {c : Canvas} {i : Nat} (h : c.used (i / 128) = true) : c.cell i = tblGet cellDefault c.cells i :=
  if_pos h

/-- A cell of an unmapped square is no FREE one. -/
theorem used_of_free {c : Canvas} {i : Nat} (h : (c.cell i).state = .free) : c.used (i / 128) = true := by
  by_contra hu
  rw [Canvas.cell, if_neg hu] at h
  cases h

theorem cell_setCell_ne (c : Canvas) {i j : Nat} (v : Cell) (h : j ≠ i) : (c.setCell i v).cell j = c.cell j := by
  rw [Canvas.cell, Canvas.cell, used_of_offCells (offCells_setCell c i v)]
  refine congrArg (ite _ · _) ?_
  unfold Canvas.setCell
  split
  · exact tblGet_put_ne h
  · rfl

theorem setCell_of_used {c : Canvas} {i : Nat} (h : c.used (i / 128) = true) (v : Cell) :
    c.setCell i v = { c with cells := tblPut cellDefault c.cells i v } := if_pos h

theorem cell_setCell {c : Canvas} {i : Nat} (h : c.used (i / 128) = true) (v : Cell) :
    (c.setCell i v).cell i = tblGet cellDefault (tblPut cellDefault c.cells i v) i := by
  rw [cell_of_used (by rwa [used_of_offCells (offCells_setCell c i v)]), setCell_of_used h]

/-- A value other than FREE is read back, in any table. -/
theorem cell_setCell_occupied {c : Canvas} {i : Nat} (h : c.used (i / 128) = true) {v : Cell} (hv : v.state ≠ .free) :
    (c.setCell i v).cell i = v := by
  rw [cell_setCell h]
  exact tblGet_put_of_ne (fun e => hv (congrArg Cell.state e)) _

theorem cell_setCell_self {c : Canvas} (hc : c.wf) {i : Nat} (h : c.used (i / 128) = true) (v : Cell) :
    (c.setCell i v).cell i = v := by
  rw [cell_setCell h]
  exact tblGet_put_self hc i v

/-! ## Blocking the FREE cells of a list -/

/-- A FREE cell takes a value. -/
def Canvas.fill (v : Nat → Cell) (x : Nat × Canvas) (i : Nat) : Nat × Canvas :=
  if (x.2.cell i).state == .free then (x.1 + 1, x.2.setCell i (v i)) else x

theorem setFree_eq (c : Canvas) (v : Nat → Cell) (is : List Nat) :
    c.setFree v is = is.foldl (Canvas.fill v) (0, c) := rfl

theorem cell_fill (v : Nat → Cell) (x : Nat × Canvas) (j : Nat) {i : Nat} (h : (x.2.cell i).state ≠ .free) :
    (Canvas.fill v x j).2.cell i = x.2.cell i := by
  unfold Canvas.fill
  split
  · rename_i hj
    exact cell_setCell_ne _ _ (by rintro rfl; exact h (by simpa using hj))
  · rfl

theorem cell_fill_self {v : Nat → Cell} {i : Nat} (hv : (v i).state ≠ .free) (x : Nat × Canvas) :
    ((Canvas.fill v x i).2.cell i).state ≠ .free := by
  unfold Canvas.fill
  split
  · rename_i hi
    rw [cell_setCell_occupied (used_of_free (by simpa using hi)) hv]
    exact hv
  · rename_i hi
    simpa using hi

theorem cell_fills (v : Nat → Cell) (is : List Nat) (x : Nat × Canvas) {i : Nat} (h : (x.2.cell i).state ≠ .free) :
    (is.foldl (Canvas.fill v) x).2.cell i = x.2.cell i := by
  induction is generalizing x with
  | nil => rfl
  | cons j is ih =>
    have kept := cell_fill v x j h
    rw [List.foldl_cons, ih _ (by rwa [kept]), kept]

/-- A cell that is not FREE stays as it was. -/
theorem cell_setFree {c : Canvas} (v : Nat → Cell) (is : List Nat) {i : Nat} (h : (c.cell i).state ≠ .free) :
    (c.setFree v is).2.cell i = c.cell i :=
  cell_fills v is (0, c) h

/-- No cell of the list stays FREE. -/
theorem cell_setFree_mem (c : Canvas) {v : Nat → Cell} {is : List Nat} {i : Nat} (hi : i ∈ is)
    (hv : (v i).state ≠ .free) : ((c.setFree v is).2.cell i).state ≠ .free := by
  rw [setFree_eq]
  obtain ⟨before, after, rfl⟩ := List.append_of_mem hi
  rw [List.foldl_append, List.foldl_cons]
  generalize before.foldl (Canvas.fill v) (0, c) = x
  have filled := cell_fill_self hv x
  rwa [cell_fills v after _ filled]

/-! ## The places of the store (R202) -/

/-- Squares that all fit are all taken. -/
theorem takeFit_all {stored : List Nat} {l : List (Nat × Bool)} (h : (takeFit stored l).2 = []) :
    (takeFit stored l).1 = l := by
  induction l generalizing stored with
  | nil => rfl
  | cons x l ih =>
    obtain ⟨q, m⟩ := x
    rw [takeFit] at h ⊢
    split at h
    · rw [if_pos ‹_›]
      exact congrArg ((q, m) :: ·) (ih h)
    · cases h

theorem mem_cellsOf {qs : List Nat} {q j : Nat} (hq : q ∈ qs) (hj : j < 128) : q * 128 + j ∈ cellsOf qs :=
  List.mem_flatMap.mpr ⟨q, hq, List.mem_map.mpr ⟨j, List.mem_range.mpr hj, rfl⟩⟩

section
variable (c : Canvas) (o : HoldOwner) (reason index : Nat) (qs : List Nat) (p : Nat → Bool)

theorem blockSquares_cell {i : Nat} (h : (c.cell i).state ≠ .free) :
    (c.blockSquares o reason index qs p).2.2.cell i = c.cell i := by
  unfold Canvas.blockSquares
  exact cell_setFree _ _ (by exact h)

theorem blockSquares_robots : (c.blockSquares o reason index qs p).2.2.robots = c.robots := by
  unfold Canvas.blockSquares
  exact setFree_robots ..

theorem blockSquares_batch : (c.blockSquares o reason index qs p).2.2.batch = c.batch := by
  unfold Canvas.blockSquares
  exact setFree_batch ..

/-- Where the squares fit, none of their cells that pass the test stays FREE. -/
theorem blockSquares_blocks (hf : c.fits qs = true) {q j : Nat} (hq : q ∈ qs) (hj : j < 128)
    (hp : p (q * 128 + j) = true) :
    ((c.blockSquares o reason index qs p).2.2.cell (q * 128 + j)).state ≠ .free := by
  have all : (takeFit c.stored (qs.map fun q => (q, false))).1 = qs.map fun q => (q, false) :=
    takeFit_all (eq_of_beq hf)
  unfold Canvas.blockSquares
  refine cell_setFree_mem _ (List.mem_filter.mpr ⟨mem_cellsOf ?_ hj, hp⟩) nofun
  rw [all, List.map_map]
  simpa using hq

end

/-! ## A word found uncorrectable (R206) -/

/-- Each cell of the word whose square is used reads BLOCKED ECC. -/
theorem blockWord_cell {c : Canvas} {w j : Nat} (hj : j < 4) (hu : c.used ((4 * w + j) / 128) = true) :
    (c.blockWord w).cell (4 * w + j) = Cell.blocked 3 := by
  unfold Canvas.blockWord
  obtain ⟨before, after, split⟩ := List.append_of_mem (List.mem_range.mpr hj)
  have hn := List.nodup_range (n := 4)
  rw [split] at hn ⊢
  have later : j ∉ after := (List.nodup_cons.mp hn.of_append_right).1
  rw [List.foldl_append, List.foldl_cons]
  generalize hd : before.foldl (fun c j => c.setCell (4 * w + j) (Cell.blocked 3)) c = d
  have same : d.offCells = c.offCells := hd ▸ foldl_leaves Canvas.offCells (fun _ _ => offCells_setCell ..) _ c
  have blocked : (d.setCell (4 * w + j) (Cell.blocked 3)).cell (4 * w + j) = Cell.blocked 3 :=
    cell_setCell_occupied (by rwa [used_of_offCells same]) (by decide)
  have stays (l : List Nat) (h : j ∉ l) (e : Canvas) :
      (l.foldl (fun c j => c.setCell (4 * w + j) (Cell.blocked 3)) e).cell (4 * w + j) = e.cell (4 * w + j) := by
    induction l generalizing e with
    | nil => rfl
    | cons i l ih =>
      rw [List.mem_cons, not_or] at h
      rw [List.foldl_cons, ih h.2, cell_setCell_ne _ _ (by omega)]
  rw [stays after later, blocked]

/-- A word is found uncorrectable: all the Canvas but the word's cells and the count is as before. -/
theorem canvasEcc_canvas (s : State) (w : Nat) :
    (s.canvasEcc w).canvas = { s.canvas.blockWord w with eccUncorr := satAdd 16 s.canvas.eccUncorr 1 } := by
  have sent : (s.logInput (.canvasError w)).canvas = s.canvas := by
    unfold State.logInput
    split <;> rfl
  have count : (s.canvas.blockWord w).eccUncorr = s.canvas.eccUncorr :=
    (congrArg Canvas.eccUncorr (offCells_blockWord s.canvas w) :)
  rw [State.canvasEcc, emit_canvas, modCanvas_canvas, sent]

end Sys2Proof.Machine
end

section
/-! Between two requests of a batch: what stands behind the queue of requests stays as it was in a unit that is no
standby (R177, R196, R458). -/

namespace Sys2Proof.Machine

/-- The Canvas with the queue of requests, its counts and the answers set aside. -/
def Canvas.offQueue (c : Canvas) : Canvas :=
  { c with
    batch := []
    batchDone := 0
    commit := none
    accepted := 0
    refused := 0
    hostBusy := false
    hostResult := 0
    conflictNew := false
    conflict := (0, 0) }

section
variable {c d : Canvas} (h : d.offQueue = c.offQueue)
include h

theorem cells_of_offQueue : d.cells = c.cells := (congrArg Canvas.cells h :)
theorem robots_of_offQueue : d.robots = c.robots := (congrArg Canvas.robots h :)
theorem reports_of_offQueue : d.reports = c.reports := (congrArg Canvas.reports h :)
theorem due_of_offQueue : d.due = c.due := (congrArg Canvas.due h :)
theorem tA_of_offQueue : d.tA = c.tA := (congrArg Canvas.tA h :)

theorem cell_of_offQueue : d.cell = c.cell := by
  have hn : d.n = c.n := (congrArg Canvas.n h :)
  have hm : d.map = c.map := (congrArg Canvas.map h :)
  funext i
  rw [Canvas.cell, Canvas.cell, Canvas.used, Canvas.used, hn, hm, cells_of_offQueue h]

end

/-! ## Refusals -/

theorem finishReq_offQueue (s : State) (q : BatchReq) (h : Desc) (w : Word) :
    (s.finishReq q h w).canvas.offQueue = s.canvas.offQueue := by
  unfold State.finishReq
  cases q with
  | host d =>
    exact (apply_ite Canvas.offQueue ..).trans (ite_self _)
  | _ => rfl

theorem finishReq_batch (s : State) (q : BatchReq) (h : Desc) (w : Word) :
    (s.finishReq q h w).canvas.batch = s.canvas.batch.drop 1 := by
  unfold State.finishReq
  cases q with
  | host d =>
    exact (apply_ite Canvas.batch ..).trans (ite_self _)
  | _ => rfl

/-- The cell of a conflict or fault is shown (R187). -/
def State.showConflict (s : State) (r : Refused) : State :=
  match r.cell with
  | some i => s.modCanvas fun c => { c with conflictNew := true, conflict := (r.code, i) }
  | none => s

theorem refuseReq_eq (s : State) (q : BatchReq) (h : Desc) (r : Refused) :
    s.refuseReq q h r = ((s.showConflict r).finishReq q h (resultWord r.code r.bank r.state r.detail h.gen)).emit
      evGrantRefused h.who h.gen h.tag (resultWord r.code r.bank r.state r.detail h.gen).toNat := rfl

theorem showConflict_offQueue (s : State) (r : Refused) : (s.showConflict r).canvas.offQueue = s.canvas.offQueue := by
  unfold State.showConflict
  split <;> rfl

theorem showConflict_batch (s : State) (r : Refused) : (s.showConflict r).canvas.batch = s.canvas.batch := by
  unfold State.showConflict
  split <;> rfl

theorem refuseReq_offQueue (s : State) (q : BatchReq) (h : Desc) (r : Refused) :
    (s.refuseReq q h r).canvas.offQueue = s.canvas.offQueue := by
  rw [refuseReq_eq, emit_canvas, finishReq_offQueue, showConflict_offQueue]

theorem refuseReq_batch (s : State) (q : BatchReq) (h : Desc) (r : Refused) :
    (s.refuseReq q h r).canvas.batch = s.canvas.batch.drop 1 := by
  rw [refuseReq_eq, emit_canvas, finishReq_batch, showConflict_batch]

theorem refuseForm_offQueue (s : State) (q : BatchReq) : (s.refuseForm q).canvas.offQueue = s.canvas.offQueue := by
  unfold State.refuseForm
  exact refuseReq_offQueue s q _ _

theorem refuseForm_batch (s : State) (q : BatchReq) : (s.refuseForm q).canvas.batch = s.canvas.batch.drop 1 := by
  unfold State.refuseForm
  exact refuseReq_batch s q _ _

/-- A request at the head that no operation takes is refused, and the next is looked at. -/
theorem dropInvalid_succ (s : State) (n : Nat) :
    s.dropInvalid (n + 1) = s ∨ ∃ q, s.dropInvalid (n + 1) = (s.refuseForm q).dropInvalid n := by
  rw [State.dropInvalid]
  split
  · split
    · exact .inr ⟨_, rfl⟩
    · exact .inl rfl
  · exact .inl rfl

theorem dropInvalid_offQueue (n : Nat) (s : State) : (s.dropInvalid n).canvas.offQueue = s.canvas.offQueue := by
  induction n generalizing s with
  | zero => rfl
  | succ n ih =>
    obtain h | ⟨q, h⟩ := dropInvalid_succ s n
    · rw [h]
    · rw [h, ih, refuseForm_offQueue]

/-- Requests leave the batch at its head alone. -/
theorem dropInvalid_batch (n : Nat) (s : State) : (s.dropInvalid n).canvas.batch <:+ s.canvas.batch := by
  induction n generalizing s with
  | zero => exact List.suffix_refl _
  | succ n ih =>
    obtain h | ⟨q, h⟩ := dropInvalid_succ s n
    · rw [h]
    · rw [h]
      refine (ih _).trans ?_
      rw [refuseForm_batch]
      exact List.drop_suffix ..

/-! ## The wants of gates -/

theorem judgeWant_canvas (now epoch : Nat) (s : State) (d : Fin 8) : (s.judgeWant now epoch d).canvas = s.canvas := by
  unfold State.judgeWant
  dsimp only
  split
  · rfl
  · split <;> rfl

theorem judgeWants_canvas (s : State) (now epoch : Nat) : (s.judgeWants now epoch).canvas = s.canvas :=
  foldl_keeps State.canvas _ (judgeWant_canvas now epoch) _ s

/-! ## The next request -/

/-- A grant in its commit stands at the head until it ends. -/
theorem nextReq_commit {s : State} (h : s.canvas.commit.isSome = true) : s.nextReq = s := if_pos h

/-- The Canvas between two requests is as the refusals leave it. -/
theorem nextReq_canvas {s : State} (h : s.canvas.commit = none) :
    s.nextReq.canvas = (s.takePlaced.dropInvalid s.takePlaced.canvas.batch.length).canvas := by
  unfold State.nextReq
  rw [if_neg (by simp [h])]
  dsimp only
  split
  · exact judgeWants_canvas ..
  · rfl

/-- Only a standby has stops waiting for their place. -/
theorem takePlaced_own {s : State} (h : s.standby = false) : s.takePlaced = s := by
  unfold State.takePlaced
  rw [h]
  rfl

section
variable {s : State} (h : s.standby = false)
include h

theorem nextReq_drops :
    s.nextReq.canvas = s.canvas ∨ s.nextReq.canvas = (s.dropInvalid s.canvas.batch.length).canvas := by
  cases hc : s.canvas.commit with
  | some k =>
    exact .inl (congrArg State.canvas (nextReq_commit (by rw [hc]; rfl)))
  | none => exact .inr (by rw [nextReq_canvas hc, takePlaced_own h])

theorem nextReq_offQueue : s.nextReq.canvas.offQueue = s.canvas.offQueue := by
  obtain e | e := nextReq_drops h
  · rw [e]
  · rw [e, dropInvalid_offQueue]

theorem nextReq_batch : s.nextReq.canvas.batch <:+ s.canvas.batch := by
  obtain e | e := nextReq_drops h
  · rw [e]
  · rw [e]
    exact dropInvalid_batch ..

end

/-! ## Internal operations are not refused -/

/-- A report or a loss. -/
def BatchReq.internal : BatchReq → Bool
  | .report _ | .lost _ _ => true
  | .host _ | .easel _ => false

theorem headOp_internal {s : State} {q : BatchReq} {rest : List BatchReq} (hc : s.canvas.commit = none)
    (hb : s.canvas.batch = q :: rest) (hq : q.internal = true) : s.headOp = 5 := by
  rw [State.headOp, hc, hb]
  cases q with
  | report r => rfl
  | lost r m => rfl
  | host d => cases hq
  | easel r => cases hq

theorem dropInvalid_internal {s : State} (hc : s.canvas.commit = none) (h : ∀ q ∈ s.canvas.batch, q.internal = true)
    (n : Nat) : s.dropInvalid n = s := by
  cases n with
  | zero => rfl
  | succ n =>
    rw [State.dropInvalid]
    split
    · rename_i head
      split
      · rename_i q rest hb
        rw [headOp_internal hc hb (h q (by rw [hb]; exact List.mem_cons_self))] at head
        cases head
      · rfl
    · rfl

theorem nextReq_internal {s : State} (hs : s.standby = false) (h : ∀ q ∈ s.canvas.batch, q.internal = true) :
    s.nextReq.canvas = s.canvas := by
  cases hc : s.canvas.commit with
  | some k => rw [nextReq_commit (by rw [hc]; rfl)]
  | none => rw [nextReq_canvas hc, takePlaced_own hs, dropInvalid_internal hc h]

end Sys2Proof.Machine
end

section
/-! What a report tells of its robot stays, whatever stops a standby then takes (R177, R196, R199, R424). -/

namespace Sys2Proof.Machine

/-- The robot has reported in the incarnation, at this time last, and is not lost. -/
structure RobotHeard (t : Tbl CRobot) (r time : Nat) : Prop where
  last : (tblGet robotDefault t r).lastReport = some time
  reported : (tblGet robotDefault t r).reported = true
  joined : (tblGet robotDefault t r).joined = true
  found : (tblGet robotDefault t r).lost = false

theorem ne_robotDefault {x : CRobot} (h : x.joined = true) (r : Nat) : x ≠ robotDefault r := by
  rintro rfl
  exact Bool.false_ne_true h

theorem heard_put {x : CRobot} {r time : Nat} (hl : x.lastReport = some time) (hr : x.reported = true)
    (hj : x.joined = true) (hf : x.lost = false) (t : Tbl CRobot) : RobotHeard (tblPut robotDefault t r x) r time := by
  have e := tblGet_put_of_ne (ne_robotDefault hj r) t
  exact ⟨by rw [e, hl], by rw [e, hr], by rw [e, hj], by rw [e, hf]⟩

/-- Another state of the robot's standstill leaves it. -/
theorem heard_stand {t : Tbl CRobot} {r time : Nat} (h : RobotHeard t r time) (i : Nat) (x : Stand) :
    RobotHeard (tblMod robotDefault t i fun y => { y with stand := x }) r time := by
  obtain ⟨hl, hr, hj, hf⟩ := h
  by_cases hi : r = i
  · subst hi
    exact heard_put (x := { tblGet robotDefault t r with stand := x }) hl hr hj hf t
  · have e : tblGet robotDefault (tblMod robotDefault t i fun y => { y with stand := x }) r = tblGet robotDefault t r :=
      tblGet_put_ne hi
    exact ⟨by rw [e, hl], by rw [e, hr], by rw [e, hj], by rw [e, hf]⟩

/-- The requests that wait are as they were, and what reports have told stays. -/
structure Canvas.Heeds (c d : Canvas) : Prop where
  batch : d.batch = c.batch
  heard : ∀ {r time : Nat}, RobotHeard c.robots r time → RobotHeard d.robots r time

namespace Canvas.Heeds

variable {b c d : Canvas}

theorem trans (h : b.Heeds c) (h' : c.Heeds d) : b.Heeds d :=
  ⟨h'.batch.trans h.batch, fun x => h'.heard (h.heard x)⟩

theorem of_eq (hb : d.batch = c.batch) (hr : d.robots = c.robots) : c.Heeds d :=
  ⟨hb, fun x => by rwa [hr]⟩

theorem refl (c : Canvas) : c.Heeds c := of_eq rfl rfl

theorem of_offCells (h : d.offCells = c.offCells) : c.Heeds d := of_eq (batch_of_offCells h) (robots_of_offCells h)

theorem freeIf (h : c.Heeds d) (p : Cell → Bool) (is : List Nat) : c.Heeds (d.freeIf p is).2 :=
  h.trans (of_offCells (offCells_freeIf ..))

theorem setFree (h : c.Heeds d) (v : Nat → Cell) (is : List Nat) : c.Heeds (d.setFree v is).2 :=
  h.trans (of_offCells (offCells_setFree ..))

theorem setCells (h : c.Heeds d) (v : Cell) (is : List Nat) : c.Heeds (is.foldl (fun c i => c.setCell i v) d) :=
  h.trans (of_offCells (foldl_leaves offCells (fun _ _ => offCells_setCell ..) is d))

theorem dropHold (c : Canvas) (o : HoldOwner) : c.Heeds (c.dropHold o) := of_eq rfl rfl

theorem stand (h : c.Heeds d) (r : Nat) (x : Stand) : c.Heeds (d.modRobot r fun y => { y with stand := x }) :=
  h.trans ⟨rfl, fun k => heard_stand k r x⟩

end Canvas.Heeds

/-- The same of the Canvas of two states. -/
def Heeds (s t : State) : Prop := s.canvas.Heeds t.canvas

theorem Heeds.trans {s t u : State} (h : Heeds s t) (h' : Heeds t u) : Heeds s u := Canvas.Heeds.trans h h'

theorem Heeds.refl (s : State) : Heeds s s := Canvas.Heeds.refl _

theorem heeds_of_canvas {s t : State} (h : t.canvas = s.canvas) : Heeds s t :=
  Canvas.Heeds.of_eq (by rw [h]) (by rw [h])

theorem heeds_modCanvas (s : State) {f : Canvas → Canvas} (h : s.canvas.Heeds (f s.canvas)) :
    Heeds s (s.modCanvas f) := h

theorem heeds_modFleet (s : State) (f : Fleet → Fleet) : Heeds s (s.modFleet f) := heeds_of_canvas rfl
theorem heeds_modStk (s : State) (f : Stk → Stk) : Heeds s (s.modStk f) := heeds_of_canvas rfl
theorem heeds_modAir (s : State) (f : Air → Air) : Heeds s (s.modAir f) := heeds_of_canvas rfl
theorem heeds_modDsp (s : State) (f : Dsp → Dsp) : Heeds s (s.modDsp f) := heeds_of_canvas rfl
theorem heeds_modTwin (s : State) (f : Twin → Twin) : Heeds s (s.modTwin f) := heeds_of_canvas rfl

theorem heeds_emit (s : State) (e : EvDef) (a b c d : Nat) : Heeds s (s.emit e a b c d) :=
  heeds_of_canvas (emit_canvas ..)

theorem heeds_foldl {α : Type} {f : State → α → State} (h : ∀ s a, Heeds s (f s a)) (l : List α) (s : State) :
    Heeds s (l.foldl f s) := by
  induction l generalizing s with
  | nil => exact Heeds.refl _
  | cons a l ih => exact (h s a).trans (ih _)

/-! ## Stops (R27, R197, R204) -/

/-- Voiding begins the releases of a robot's standstill anew. -/
def standsRestarted (t : Tbl CRobot) (mine : Nat → Bool) (rs : List Nat) : Tbl CRobot :=
  rs.foldl (fun t r => if mine r then tblMod robotDefault t r fun x => { x with stand := .none } else t) t

theorem heard_standsRestarted {t : Tbl CRobot} {r time : Nat} (h : RobotHeard t r time) (mine : Nat → Bool)
    (rs : List Nat) : RobotHeard (standsRestarted t mine rs) r time := by
  unfold standsRestarted
  induction rs generalizing t with
  | nil => exact h
  | cons i rs ih =>
    refine ih ?_
    beta_reduce
    split
    · exact heard_stand h i .none
    · exact h

theorem heeds_voidGrants (s : State) (mine : Nat → Bool) (seq : Nat) : Heeds s (s.voidGrants mine seq) := by
  unfold State.voidGrants
  dsimp only
  refine Heeds.trans ?_ (heeds_foldl (fun s g => rel_ite (heeds_emit ..) (Heeds.refl s)) _ _)
  exact ⟨rfl, fun x => heard_standsRestarted x mine _⟩

theorem heeds_stopDrive (q : Nat) (s : State) (d : Fin 8) : Heeds s (s.stopDrive q d) := by
  unfold State.stopDrive
  exact rel_ite (Heeds.refl s) (heeds_of_canvas rfl)

theorem heeds_persistCheck (s : State) (left cause index : Nat) : Heeds s (s.persistCheck left cause index) := by
  unfold State.persistCheck
  refine rel_ite (Heeds.refl s) ((heeds_modCanvas s ?_).trans (heeds_emit ..))
  exact Canvas.Heeds.of_eq rfl rfl

theorem heeds_blockZone (s : State) (x : Stop) : Heeds s (s.blockZone x) := by
  unfold State.blockZone
  refine Heeds.trans ?_ (heeds_persistCheck ..)
  exact heeds_modCanvas s (Canvas.Heeds.of_eq (blockSquares_batch ..) (blockSquares_robots ..))

/-- What a stop does to the fleet, to grants, to error counts and to the inputs of strokes. -/
def State.stopTaken (s : State) (x : Stop) : State :=
  let s := s.modFleet fun f =>
    { f with stops := f.stops ++ [x], lastSeq := x.seq, framesSent := f.framesSent + 1 }
  let s := (s.voidGrants x.covers x.seq).clearErrors x
  let e := s.logEpoch
  s.modStk fun k => { k with inputs := k.inputs ++ (x.robotList.map fun r => (e, StkInput.stop r x.seq)) }

theorem stopEffects_eq (s : State) (x : Stop) : s.stopEffects x =
    match x.kind with
    | .fleet =>
      (List.finRange 8).foldl (State.stopDrive x.seq) ((s.stopTaken x).modAir fun a => { a with stopShown := true })
    | .zone => (s.stopTaken x).blockZone x
    | .robot => s.stopTaken x := rfl

theorem heeds_clearErrors (s : State) (x : Stop) : Heeds s (s.clearErrors x) := heeds_of_canvas rfl

theorem heeds_stopTaken (s : State) (x : Stop) : Heeds s (s.stopTaken x) := by
  unfold State.stopTaken
  refine Heeds.trans ?_ (heeds_modStk ..)
  refine Heeds.trans ?_ (heeds_clearErrors ..)
  exact (heeds_modFleet s _).trans (heeds_voidGrants ..)

theorem heeds_stopEffects (s : State) (x : Stop) : Heeds s (s.stopEffects x) := by
  have taken := heeds_stopTaken s x
  rw [stopEffects_eq]
  split
  · exact taken.trans ((heeds_modAir ..).trans (heeds_foldl (heeds_stopDrive x.seq) _ _))
  · exact taken.trans (heeds_blockZone ..)
  · exact taken

theorem heeds_applyStop (s : State) (x : Stop) (subsumed : Bool) : Heeds s (s.applyStop x subsumed) := by
  unfold State.applyStop
  have raised (p1 : Nat) := (heeds_modFleet s fun f => { f with lastSource := x.source }).trans
    (heeds_emit _ evStopRaised x.kind.code p1 x.source x.index)
  exact rel_ite (raised _) ((raised _).trans (heeds_stopEffects ..))

theorem heeds_unblockZone (c : Canvas) (seq : Nat) : c.Heeds (c.unblockZone seq) := by
  unfold Canvas.unblockZone
  split
  · exact Canvas.Heeds.refl c
  · exact (Canvas.Heeds.dropHold c _).freeIf _ _

theorem heeds_zoneFreed (s : State) (x : Stop) : Heeds s (s.zoneFreed x) := by
  unfold State.zoneFreed
  exact rel_ite (heeds_modCanvas s (heeds_unblockZone ..)) (Heeds.refl s)

theorem heeds_testEnded (s : State) (x : Stop) (role : Nat) : Heeds s (s.testEnded x role) := by
  unfold State.testEnded
  exact rel_ite (heeds_modDsp ..) (Heeds.refl s)

theorem heeds_stopOver (s : State) (x : Stop) (role : Nat) : Heeds s (s.stopOver x role) :=
  (heeds_modFleet s _).trans (heeds_emit ..)

theorem heeds_applyRelease (s : State) (seq role : Nat) : Heeds s (s.applyRelease seq role) := by
  unfold State.applyRelease
  split
  · rw [endStop_eq]
    exact (heeds_stopOver ..).trans ((heeds_zoneFreed ..).trans (heeds_testEnded ..))
  · exact Heeds.refl s

theorem heeds_takePlaced (s : State) : Heeds s s.takePlaced := by
  unfold State.takePlaced
  refine rel_ite (Heeds.refl s) ((heeds_modTwin s _).trans (heeds_foldl (fun s x => ?_) _ _))
  split
  · exact heeds_applyStop ..
  · exact heeds_applyRelease ..
  · exact Heeds.refl s

/-! ## The next request -/

/-- A batch that has come to its end stays so. -/
theorem nextReq_empty {s : State} (h : s.canvas.batch = []) : s.nextReq.canvas.batch = [] := by
  cases hc : s.canvas.commit with
  | some k => rwa [nextReq_commit (by rw [hc]; rfl)]
  | none =>
    have hb : s.takePlaced.canvas.batch = [] := (heeds_takePlaced s).batch.trans h
    rw [nextReq_canvas hc, hb]
    exact hb

theorem nextReq_heard {s : State} {r time : Nat} (h : RobotHeard s.canvas.robots r time) :
    RobotHeard s.nextReq.canvas.robots r time := by
  cases hc : s.canvas.commit with
  | some k => rwa [nextReq_commit (by rw [hc]; rfl)]
  | none =>
    rw [nextReq_canvas hc, robots_of_offQueue (dropInvalid_offQueue ..)]
    exact (heeds_takePlaced s).heard h

/-! ## A report (R190, R199, R201) -/

theorem heeds_canvasEcc (s : State) (w : Nat) : Heeds s (s.canvasEcc w) := by
  rw [Heeds, canvasEcc_canvas]
  exact (Canvas.Heeds.of_offCells (offCells_blockWord ..)).trans (Canvas.Heeds.of_eq rfl rfl)

theorem heeds_eccWhere (s : State) (bad : List (BitVec 21)) (p : Nat → Bool) : Heeds s (s.eccWhere bad p) :=
  heeds_foldl heeds_canvasEcc _ s

theorem heeds_clearLost (c : Canvas) (r : Nat) : c.Heeds (c.clearLost r) := by
  unfold Canvas.clearLost
  split
  · exact Canvas.Heeds.refl c
  · exact (Canvas.Heeds.dropHold c _).freeIf _ _

theorem heeds_released (s : State) (r n why gen : Nat) : Heeds s (s.released r n why gen) := heeds_emit ..

theorem heeds_endParks (s : State) (r : CReport) (q : Nat) : Heeds s (s.endParks r q) := by
  refine heeds_foldl (fun s x => rel_ite ?_ (Heeds.refl s)) _ s
  refine Heeds.trans ?_ (heeds_released ..)
  have freed : s.canvas.Heeds ((s.canvas.dropHold x.owner).freeGen r.robot x.gen).2 :=
    (Canvas.Heeds.dropHold s.canvas x.owner).freeIf _ _
  exact heeds_modCanvas s (freed.trans (Canvas.Heeds.of_eq rfl rfl))

theorem heeds_releaseBeyond (s : State) (r gen : Nat) (gens set : List Nat) :
    Heeds s (s.releaseBeyond r gen gens set) := by
  unfold State.releaseBeyond
  dsimp only
  refine Heeds.trans ?_ (heeds_released ..)
  have kept : s.canvas.Heeds { s.canvas with holds := s.canvas.holds.filterMap (Hold.keepIn r set) } :=
    Canvas.Heeds.of_eq rfl rfl
  exact heeds_modCanvas s ((kept.freeIf _ _).stand r _)

theorem heeds_parkEnvelope (s : State) (r : Nat) (g : Grant) (gens set : List Nat) :
    Heeds s (s.parkEnvelope r g gens set) := by
  unfold State.parkEnvelope
  refine Heeds.trans ?_ (heeds_released ..)
  refine heeds_modCanvas s (Canvas.Heeds.stand ?_ r .parked)
  exact ((Canvas.Heeds.refl s.canvas).setCells _ _).setFree _ _ |>.trans (Canvas.Heeds.of_eq rfl rfl)

theorem heeds_standstill (s : State) (r : CReport) (prev : Option Nat) (q : Nat) :
    Heeds s (s.standstill r prev q) := by
  unfold State.standstill
  dsimp only
  split
  · exact Heeds.refl s
  · split
    · exact heeds_releaseBeyond ..
    · exact rel_ite (heeds_parkEnvelope ..) (Heeds.refl s)
    · exact Heeds.refl s

theorem heeds_rebuiltCheck (s : State) : Heeds s s.rebuiltCheck := by
  unfold State.rebuiltCheck
  exact rel_ite ((heeds_modFleet s _).trans (heeds_emit ..)) (Heeds.refl s)

/-- A report that is applied leaves its robot heard, and the requests behind it as they were. -/
theorem applyReport_heard (s : State) (r : CReport) :
    RobotHeard (s.applyReport r).canvas.robots r.robot r.time ∧ (s.applyReport r).canvas.batch = s.canvas.batch := by
  unfold State.applyReport
  extract_lets x silence found s1 sq s2 s3 s4
  have h1 : RobotHeard s1.canvas.robots r.robot r.time := heard_put rfl rfl rfl rfl _
  have b1 : s1.canvas.batch = s.canvas.batch := (heeds_clearLost s.canvas r.robot).batch
  have h2 : Heeds s1 s2 := rel_ite (heeds_emit ..) (rel_ite (heeds_emit ..) (Heeds.refl s1))
  have h3 : Heeds s1 s3 := h2.trans (heeds_rebuiltCheck s2)
  have h4 : Heeds s1 s4 := h3.trans (rel_ite (heeds_modFleet ..) (Heeds.refl s3))
  have told {u : State} (h : Heeds s1 u) :
      RobotHeard u.canvas.robots r.robot r.time ∧ u.canvas.batch = s.canvas.batch :=
    ⟨h.heard h1, h.batch.trans b1⟩
  split
  · exact told h4
  · extract_lets s5
    have h5 : Heeds s4 s5 := rel_ite (heeds_standstill ..) (Heeds.refl s4)
    exact told (h4.trans (h5.trans (heeds_endParks ..)))

end Sys2Proof.Machine
end

section
/-! Boundaries, sweeps and batches of the Canvas (R171 to R173, R177). -/

namespace Sys2Proof.Machine

/-! ## Slot boundaries (R171, R172) -/

/-- Columns that the boundaries up to number `k` pass. -/
def Canvas.passed (c : Canvas) (k : Nat) : List Nat := (List.range (min 128 (k - c.k))).map fun i => (c.k + i) % 128

theorem gateRecords_canvas (s : State) (d p3 : Nat) (l : List (Nat × Nat)) :
    (l.foldl (fun s p => s.emit evGateNotOpen d p.1 p.2 p3) s).canvas = s.canvas := by
  induction l generalizing s with
  | nil => rfl
  | cons a l ih => rw [List.foldl_cons, ih, emit_canvas]

theorem gateNotOpen_canvas (now : Nat) (s : State) (d : Fin 8) : (s.gateNotOpen now d).canvas = s.canvas := by
  simp only [State.gateNotOpen, apply_ite State.canvas, gateRecords_canvas, ite_self]

theorem gatesNotOpen_canvas (s : State) (now : Nat) : (s.gatesNotOpen now).canvas = s.canvas :=
  foldl_keeps State.canvas _ (gateNotOpen_canvas now) _ s

/-- The Canvas once these boundaries have taken effect at a time. -/
def Canvas.passBy (c : Canvas) (k t : Nat) : Canvas :=
  { c with
    k := max c.k k
    cells := c.cells.filter fun x => !(c.passed k).contains (x.1 % 128)
    sweeps := (c.sweeps.filter fun w => !(c.passed k).contains w.column) ++
      (c.passed k).map fun col => { column := col, nominal := t, late := false } }

theorem passColumns_canvas (s : State) (k t : Nat) : (s.passColumns k t).canvas = s.canvas.passBy k t := by
  unfold State.passColumns
  dsimp only
  split
  · rfl
  · rw [gatesNotOpen_canvas, judgeWants_canvas]
    rfl

theorem passed_next (c : Canvas) : c.passed (c.k + 1) = [c.now] := by
  rw [Canvas.passed, Nat.add_sub_cancel_left]
  rfl

/-- The cells of the columns passed read as FREE. -/
theorem passBy_cell (c : Canvas) (k t : Nat) {i : Nat} (hu : c.used (i / 128) = true) :
    (c.passBy k t).cell i = if i % 128 ∈ c.passed k then Cell.free else c.cell i := by
  have cells := tblGet_filter cellDefault (fun i => !(c.passed k).contains (i % 128)) c.cells i
  rw [cell_of_used (c := c.passBy k t) hu, cell_of_used hu]
  refine cells.trans ?_
  by_cases h : i % 128 ∈ c.passed k
  · rw [if_pos h, if_neg (by simpa using h)]
    rfl
  · rw [if_neg h, if_pos (by simpa using h)]

theorem cell_of_unused {c : Canvas} {i : Nat} (h : c.used (i / 128) = false) : c.cell i = Cell.blocked 4 :=
  if_neg (by rw [h]; exact Bool.false_ne_true)

theorem passBy_other (c : Canvas) (k t : Nat) {i : Nat} (hi : i % 128 ∉ c.passed k) :
    (c.passBy k t).cell i = c.cell i := by
  cases hu : c.used (i / 128) with
  | false => rw [cell_of_unused hu, cell_of_unused (c := c.passBy k t) hu]
  | true => rw [passBy_cell c k t hu, if_neg hi]

theorem canvasSlotBoundary_passes {s : State} (hp : s.canvas.period ≠ 0) (hc : s.canvas.commit = none)
    (ht : (s.canvas.k + 1) * s.canvas.periodNs ≤ s.time) :
    exec .canvasSlotBoundary s = .next (s.passColumns (s.canvas.k + 1) ((s.canvas.k + 1) * s.canvas.periodNs)) := by
  change execCanvasSlotBoundary s = _
  rw [execCanvasSlotBoundary]
  exact congrArg _ (if_neg (by rw [hc]; simp [hp]; exact ht))

theorem canvasSlotBoundary_waits {s : State}
    (h : s.canvas.commit.isSome = true ∨ s.time < (s.canvas.k + 1) * s.canvas.periodNs) :
    exec .canvasSlotBoundary s = .next s := by
  change execCanvasSlotBoundary s = _
  rw [execCanvasSlotBoundary]
  exact congrArg _ (if_pos (by tauto))

theorem canvasSlotBoundary_frees {s : State} (hp : s.canvas.period ≠ 0) (hc : s.canvas.commit = none)
    (ht : (s.canvas.k + 1) * s.canvas.periodNs ≤ s.time) :
    ∃ t, exec .canvasSlotBoundary s = .next t ∧ t.canvas.k = s.canvas.k + 1 ∧
      (∀ q, s.canvas.used q = true → t.canvas.cell (q * 128 + s.canvas.now) = Cell.free) ∧
      (∀ i, i % 128 ≠ s.canvas.now → t.canvas.cell i = s.canvas.cell i) := by
  have column : s.canvas.now < 128 := Nat.mod_lt _ (by decide)
  refine ⟨_, canvasSlotBoundary_passes hp hc ht, ?_, fun q hq => ?_, fun i hi => ?_⟩
  · rw [passColumns_canvas]
    exact max_eq_right (Nat.le_succ _)
  · have square : (q * 128 + s.canvas.now) / 128 = q := by omega
    rw [passColumns_canvas, passBy_cell _ _ _ (by rwa [square]), passed_next, if_pos]
    exact List.mem_singleton.mpr (by omega)
  · rw [passColumns_canvas, passBy_other _ _ _ (by rwa [passed_next, List.mem_singleton])]

/-! ## Sweeps (R172, R173) -/

/-- A well-formed table with the entries that fail a test left out. -/
theorem tblGet_filter_wf {α : Type} [DecidableEq α] {d : Nat → α} {t : Tbl α} {lo : Nat}
    (h : tblWfFrom d lo t = true) (p : Nat × α → Bool) (k : Nat) :
    tblGet d (t.filter p) k = if p (k, tblGet d t k) then tblGet d t k else d k := by
  induction t generalizing lo with
  | nil => exact (ite_self _).symm
  | cons x t ih =>
    obtain ⟨j, v⟩ := x
    simp only [tblWfFrom, Bool.and_eq_true, decide_eq_true_eq] at h
    obtain ⟨-, ht⟩ := h
    rw [List.filter_cons, tblGet]
    by_cases hk : k = j
    · subst hk
      rw [if_pos rfl]
      split
      · exact if_pos rfl
      · rw [ih ht, tblGet_of_lt ht (Nat.lt_succ_self k), ite_self]
    · rw [if_neg hk, ← ih ht]
      split
      · rw [tblGet, if_neg hk]
      · rfl

/-- A sweep leaves a block set while it ran. -/
def Canvas.swept (c : Canvas) (col : Nat) : Canvas :=
  { c with cells := c.cells.filter fun x => x.1 % 128 ≠ col || (x.2.state == .blocked && decide (0x80 ≤ x.2.who)) }

theorem sweepColumn_eq (c : Canvas) (col : Nat) : c.sweepColumn col =
    c.stored.foldl (fun d q => d.setCell (q * 128 + col) (c.background q)) (c.swept col) := rfl

section
variable {c : Canvas} (hc : c.wf) {col : Nat}
include hc

theorem swept_cell {i : Nat} (hu : c.used (i / 128) = true) : (c.swept col).cell i =
    if i % 128 ≠ col ∨ ((c.cell i).state = .blocked ∧ 0x80 ≤ (c.cell i).who) then c.cell i else Cell.free := by
  rw [cell_of_used hu, Canvas.cell, if_pos (by exact hu)]
  refine (tblGet_filter_wf hc _ i).trans ?_
  simp only [ne_eq, Bool.or_eq_true, Bool.and_eq_true, decide_eq_true_eq, beq_iff_eq]
  rfl

/-- The squares of the store, written in the column. -/
theorem sweepStore_cell (hcol : col < 128) (v : Nat → Cell) (qs : List Nat) {q : Nat} (hu : c.used q = true) :
    (qs.foldl (fun d q => d.setCell (q * 128 + col) (v q)) c).cell (q * 128 + col) =
      if q ∈ qs then v q else c.cell (q * 128 + col) := by
  induction qs generalizing c with
  | nil => simp
  | cons a qs ih =>
    have used : (c.setCell (a * 128 + col) (v a)).used q = true := by rwa [used_of_offCells (offCells_setCell ..)]
    rw [List.foldl_cons, ih (setCell_wf hc _ _) used]
    by_cases hq : q ∈ qs
    · rw [if_pos hq, if_pos (List.mem_cons_of_mem _ hq)]
    · by_cases ha : q = a
      · subst ha
        have square : (q * 128 + col) / 128 = q := by omega
        rw [if_neg hq, if_pos List.mem_cons_self, cell_setCell_self hc (by rwa [square])]
      · rw [if_neg hq, if_neg (by simp [ha, hq]), cell_setCell_ne _ _ (by omega)]

theorem sweepColumn_cell (hcol : col < 128) {q : Nat} (hu : c.used q = true) :
    (c.sweepColumn col).cell (q * 128 + col) =
      if q ∈ c.stored then c.background q
      else if (c.cell (q * 128 + col)).state = .blocked ∧ 0x80 ≤ (c.cell (q * 128 + col)).who
        then c.cell (q * 128 + col)
      else Cell.free := by
  have wf : (c.swept col).wf := tblFilter_wfFrom hc _
  have square : (q * 128 + col) / 128 = q := by omega
  have column : (q * 128 + col) % 128 = col := by omega
  rw [sweepColumn_eq, sweepStore_cell wf hcol _ _ hu, swept_cell hc (by rwa [square])]
  simp only [column, ne_eq, not_true_eq_false, false_or]

/-- A sweep writes its own column only. -/
theorem sweepColumn_other {i : Nat} (hi : i % 128 ≠ col) (hcol : col < 128) :
    (c.sweepColumn col).cell i = c.cell i := by
  have stays (qs : List Nat) (d : Canvas) :
      (qs.foldl (fun d q => d.setCell (q * 128 + col) (c.background q)) d).cell i = d.cell i :=
    foldl_leaves (fun d : Canvas => d.cell i) (fun d q => cell_setCell_ne d _ (by omega)) qs d
  rw [sweepColumn_eq, stays]
  cases hu : c.used (i / 128) with
  | true => rw [swept_cell hc hu, if_pos (.inl hi)]
  | false =>
    rw [cell_of_unused hu, cell_of_unused (c := c.swept col) hu]

end

theorem sweepComplete_sweeps {s : State} {x : Sweep} {rest : List Sweep} (h : s.canvas.sweeps = x :: rest) :
    exec (.sweepComplete []) s =
      .next (s.modCanvas fun c => ({ c with sweeps := rest } : Canvas).sweepColumn x.column) := by
  change execSweepComplete [] s = _
  rw [execSweepComplete, h]
  rfl

theorem sweepColumn_sweeps (c : Canvas) (col : Nat) : (c.sweepColumn col).sweeps = c.sweeps := by
  have same := foldl_leaves Canvas.offCells (fun _ _ => offCells_setCell ..) c.stored (c.swept col)
    (f := fun d q => d.setCell (q * 128 + col) (c.background q))
  exact (congrArg Canvas.sweeps same :)

theorem sweepComplete_writes {s : State} {x : Sweep} {rest : List Sweep} (h : s.canvas.sweeps = x :: rest)
    (hx : x.column < 128) (hc : s.canvas.wf) :
    ∃ t, exec (.sweepComplete []) s = .next t ∧ t.canvas.sweeps = rest ∧
      (∀ i, i % 128 ≠ x.column → t.canvas.cell i = s.canvas.cell i) ∧
      (∀ q, s.canvas.used q = true → t.canvas.cell (q * 128 + x.column) =
        if q ∈ s.canvas.stored then s.canvas.background q
        else if (s.canvas.cell (q * 128 + x.column)).state = .blocked ∧
          0x80 ≤ (s.canvas.cell (q * 128 + x.column)).who then s.canvas.cell (q * 128 + x.column)
        else Cell.free) := by
  have wf : ({ s.canvas with sweeps := rest } : Canvas).wf := hc
  refine ⟨_, sweepComplete_sweeps h, ?_, fun i hi => ?_, fun q hq => ?_⟩
  · rw [modCanvas_canvas, sweepColumn_sweeps]
  · rw [modCanvas_canvas]
    exact sweepColumn_other wf hi hx
  · rw [modCanvas_canvas]
    exact sweepColumn_cell wf hx hq

theorem sweepLate_logs {s : State} {x : Sweep}
    (h : s.canvas.sweeps.find? (fun x => !x.late && decide (x.nominal + 8 * ms ≤ s.time)) = some x) :
    ∃ t, exec .sweepLate s = .next t ∧
      t.canvas.sweeps = s.canvas.sweeps.map (fun y => if y = x then { y with late := true } else y) ∧
      Logged t evSweepLate x.column ((s.time - x.nominal) / ms) 0 0 := by
  change ∃ t, execSweepLate s = _ ∧ _
  rw [execSweepLate, h]
  exact ⟨_, rfl, by rw [emit_canvas]; rfl, _, rfl⟩

theorem sweepLate_idle {s : State} (h : ∀ x ∈ s.canvas.sweeps, x.late = true ∨ s.time < x.nominal + 8 * ms) :
    exec .sweepLate s = .next s := by
  have none : s.canvas.sweeps.find? (fun x => !x.late && decide (x.nominal + 8 * ms ≤ s.time)) = none := by
    refine List.find?_eq_none.mpr fun x hx hl => ?_
    simp only [Bool.and_eq_true, Bool.not_eq_true', decide_eq_true_eq] at hl
    obtain hlate | htime := h x hx
    · exact Bool.false_ne_true (hl.1.symm.trans hlate)
    · omega
  change execSweepLate s = _
  rw [execSweepLate, none]

/-! ## Batches (R177) -/

/-- The host's request of an earlier epoch. -/
def State.hostDue (s : State) : List BatchReq :=
  match s.canvas.hostReq with
  | some (e, d) => if e < s.epoch.n then [BatchReq.host d] else []
  | none => []

/-- Reports of earlier epochs with the losses among them, in order of time. -/
def State.internals (s : State) : List BatchReq :=
  ({ s.canvas with tA := s.epoch.nominal }).losses.foldl (fun l x => insertLoss x l)
    ((s.canvas.reports.filter fun (r : CReport) => decide (r.epoch < s.epoch.n)).map BatchReq.report)

/-- The Canvas as a batch begins. -/
def State.batchBegun (s : State) : Canvas :=
  let c := s.canvas
  let c := { c with
    tA := s.epoch.nominal
    kA := if c.period = 0 then c.k else s.epoch.nominal / c.periodNs }
  let c := { c with
    batch := s.internals ++ s.hostDue ++ (sortReqs c.due).map BatchReq.easel
    reports := c.reports.filter fun r => !decide (r.epoch < s.epoch.n)
    due := []
    hostReq := if s.hostDue = [] then c.hostReq else none
    batchEpoch := s.epoch.n
    batchDone := 0 }
  c.retire

theorem grantBatch_begins {s : State} (hb : s.canvas.batch = []) (hr : s.batchReady = true) :
    exec .grantBatch s = .next (s.modCanvas fun _ => s.batchBegun).nextReq := by
  change execGrantBatch s = _
  rw [execGrantBatch]
  exact congrArg _ (if_neg (by rw [hb, hr]; decide))

theorem grantBatch_waits {s : State} (h : s.canvas.batch ≠ []) : exec .grantBatch s = .next s := by
  change execGrantBatch s = _
  rw [execGrantBatch]
  exact congrArg _ (if_pos (by simp [h]))

theorem mem_insertLoss {x : Nat × Nat} {l : List BatchReq} {q : BatchReq} (h : q ∈ insertLoss x l) :
    q ∈ l ∨ q = .lost x.2 x.1 := by
  induction l with
  | nil => exact .inr (List.mem_singleton.mp h)
  | cons a l ih =>
    cases a with
    | report r =>
      rw [insertLoss] at h
      split at h
      · obtain rfl | h := List.mem_cons.mp h
        · exact .inl List.mem_cons_self
        · exact (ih h).imp (List.mem_cons_of_mem _) id
      · exact (List.mem_cons.mp h).symm
    | _ =>
      rw [insertLoss] at h
      · obtain rfl | h := List.mem_cons.mp h
        · exact .inl List.mem_cons_self
        · exact (ih h).imp (List.mem_cons_of_mem _) id
      · nofun

theorem insertLoss_internal {x : Nat × Nat} {l : List BatchReq} (h : ∀ q ∈ l, q.internal = true) :
    ∀ q ∈ insertLoss x l, q.internal = true := by
  intro q hq
  obtain hq | rfl := mem_insertLoss hq
  · exact h q hq
  · rfl

theorem internals_internal (s : State) : ∀ q ∈ s.internals, q.internal = true := by
  unfold State.internals
  refine List.foldlRecOn (motive := fun l : List BatchReq => ∀ q ∈ l, q.internal = true) _ _ (fun q hq => ?_)
    fun l hl x _ => insertLoss_internal hl
  obtain ⟨r, -, rfl⟩ := List.mem_map.mp hq
  rfl

theorem grantBatch_takes {s : State} (hb : s.canvas.batch = []) (hr : s.batchReady = true) (hs : s.standby = false) :
    ∃ t pre, exec .grantBatch s = .next t ∧ t.canvas.tA = s.epoch.nominal ∧ t.canvas.due = [] ∧
      t.canvas.cells = s.canvas.cells ∧
      t.canvas.reports = s.canvas.reports.filter (fun (r : CReport) => !decide (r.epoch < s.epoch.n)) ∧
      pre ++ t.canvas.batch = s.internals ++ s.hostDue ++ (sortReqs s.canvas.due).map BatchReq.easel ∧
      (s.hostDue = [] → s.canvas.due = [] → pre = []) := by
  have own : (s.modCanvas fun _ => s.batchBegun).standby = false := hs
  have kept : (s.modCanvas fun _ => s.batchBegun).nextReq.canvas.offQueue = s.batchBegun.offQueue :=
    nextReq_offQueue own
  obtain ⟨pre, hpre⟩ := nextReq_batch own
  refine ⟨_, pre, grantBatch_begins hb hr, (tA_of_offQueue kept).trans rfl, (due_of_offQueue kept).trans rfl,
    (cells_of_offQueue kept).trans rfl, (reports_of_offQueue kept).trans rfl, hpre, fun hh hd => ?_⟩
  have batch : s.batchBegun.batch = s.internals := by
    have : s.batchBegun.batch = s.internals ++ s.hostDue ++ (sortReqs s.canvas.due).map BatchReq.easel := rfl
    rw [this, hh, hd]
    simp [sortReqs]
  have whole := nextReq_internal own (by rw [modCanvas_canvas, batch]; exact internals_internal s)
  rw [whole] at hpre
  exact List.self_eq_append_left.mp hpre.symm

end Sys2Proof.Machine
end

section
/-! Reports, the host's request, outcomes and lost robots (R177, R179, R192, R195, R200). -/

namespace Sys2Proof.Machine

/-! ## Reports and the host's request -/

/-- The report at the head is applied, and the batch goes on. -/
theorem reportHandling_applies {s : State} {r : CReport} {rest : List BatchReq}
    (h : s.canvas.batch = .report r :: rest) (bad : List (BitVec 21)) :
    exec (.reportHandling bad) s = .next ((((s.modCanvas (·.popReq)).eccWhere bad
      ((s.modCanvas (·.popReq)).canvas.reportReads r.robot)).applyReport r).nextReq) := by
  change execReportHandling bad s = _
  rw [execReportHandling, h]

theorem reportHandling_hears {s : State} {r : CReport} {rest : List BatchReq}
    (h : s.canvas.batch = .report r :: rest) (bad : List (BitVec 21)) :
    ∃ t, exec (.reportHandling bad) s = .next t ∧ (rest = [] → t.canvas.batch = []) ∧
      RobotHeard t.canvas.robots r.robot r.time := by
  refine ⟨_, reportHandling_applies h bad, ?_⟩
  generalize hp : (s.modCanvas (·.popReq)).canvas.reportReads r.robot = reads
  obtain ⟨heard, batch⟩ := applyReport_heard ((s.modCanvas (·.popReq)).eccWhere bad reads) r
  have popped : (s.modCanvas (·.popReq)).canvas.batch = rest := by
    rw [modCanvas_canvas]
    exact congrArg (List.drop 1) h
  refine ⟨fun e => nextReq_empty ?_, nextReq_heard heard⟩
  rw [batch, (heeds_eccWhere (s.modCanvas (·.popReq)) bad reads).batch, popped, e]

/-- A request that the host grant port takes: it waits for the batch of its epoch (R179, R195). -/
def State.hostAsked (s : State) (d : List Byte) : State :=
  let e := s.logEpoch + bit (decide (128 ≤ s.canvas.incoming.length))
  (s.logAt e (.hostGrant d)).modCanvas fun c => { c with hostReq := some (e, d), hostBusy := true }

/-- A request to a unit that does not serve is answered 15. -/
def State.hostRefused (s : State) (d : List Byte) : State :=
  s.modCanvas fun c => { c with
    hostResult := resultWord 15 0 0 0 (leAt d 2 2)
    refused := satAdd 10 c.refused 1 }

theorem hostAsked_canvas {s : State} (h : s.canvas.incoming.length < 128) (d : List Byte) :
    (s.hostAsked d).canvas = { s.canvas with hostReq := some (s.logEpoch, d), hostBusy := true } := by
  have logged (e : Nat) (x : LogEntry) : (s.logAt e x).canvas = s.canvas := by
    unfold State.logAt
    split <;> rfl
  unfold State.hostAsked
  rw [decide_eq_false (Nat.not_le.mpr h)]
  exact congrArg (fun c : Canvas => { c with hostReq := some (s.logEpoch, d), hostBusy := true }) (logged _ _)

section
variable {w : Word} {d : List Byte} {s : State} (ha : s.awake = true) (hr : 1 ≤ s.pcieRole) (hw : flagOf w 0 = true)
include ha hr hw

theorem hostGrantGo_eq : exec (.hostGrantGo w (some d)) s = .next (if s.canvas.hostBusy = true then s.touch
    else if s.serving = false then s.touch.hostRefused d else s.touch.hostAsked d) := by
  change execHostGrantGo w (some d) s = _
  rw [execHostGrantGo, asRole_open ha hr, hw, Bool.not_true, Bool.false_or, Option.getD_some]
  simp only [Bool.not_eq_true']
  rfl

theorem hostGrantGo_busy (hb : s.canvas.hostBusy = true) : exec (.hostGrantGo w (some d)) s = .next s.touch := by
  rw [hostGrantGo_eq ha hr hw, if_pos hb]

theorem hostGrantGo_taken (hb : s.canvas.hostBusy = false) (hs : s.serving = true)
    (hn : s.canvas.incoming.length < 128) :
    ∃ t, exec (.hostGrantGo w (some d)) s = .next t ∧
      t.canvas = { s.canvas with hostReq := some (s.logEpoch, d), hostBusy := true } := by
  rw [hostGrantGo_eq ha hr hw, if_neg (ne_true_of_eq_false hb), if_neg (by rw [hs]; decide)]
  exact ⟨_, rfl, hostAsked_canvas (s := s.touch) hn d⟩

theorem hostGrantGo_shut (hb : s.canvas.hostBusy = false) (hs : s.serving = false) :
    ∃ t, exec (.hostGrantGo w (some d)) s = .next t ∧
      t.canvas.hostResult = resultWord 15 0 0 0 (leAt d 2 2) ∧ t.canvas.hostReq = s.canvas.hostReq := by
  rw [hostGrantGo_eq ha hr hw, if_neg (ne_true_of_eq_false hb), if_pos hs]
  exact ⟨_, rfl, rfl, rfl⟩

end

/-! ## Outcomes (R192) -/

/-- A grant's outcome is recorded: its record keeps the state, or is freed where it has ended. -/
def Canvas.settle (c : Canvas) (g : Grant) (x : GrantState) : Canvas :=
  ({ c with grants := c.grants.map fun y => if y = g then { y with state := x, due := none } else y } : Canvas).retire

theorem mem_settle {c : Canvas} {g : Grant} {x : GrantState} {y : Grant} (h : y ∈ (c.settle g x).grants) :
    (y ∈ c.grants ∧ y ≠ g) ∨ y = { g with state := x, due := none } := by
  obtain ⟨z, hz, rfl⟩ := List.mem_map.mp (List.mem_filter.mp h).1
  split
  · rename_i e
    exact .inr (by rw [e])
  · rename_i e
    exact .inl ⟨hz, e⟩

theorem not_mem_settle (c : Canvas) {g : Grant} (h : g.due ≠ none) (x : GrantState) : g ∉ (c.settle g x).grants := by
  intro hg
  obtain ⟨-, h'⟩ | e := mem_settle hg
  · exact h' rfl
  · exact h (congrArg Grant.due e)

theorem settle_grants (c : Canvas) (g : Grant) (x : GrantState) :
    ∀ y ∈ (c.settle g x).grants, y ∈ c.grants ∨ y = { g with state := x, due := none } :=
  fun _ hy => (mem_settle hy).imp_left And.left

/-- Delivery of an earlier epoch is due. -/
def Grant.deliveredBefore (g : Grant) (n : Nat) : Bool :=
  match g.due with
  | some (.delivered, e) => decide (e < n)
  | _ => false

/-- The cause of an end without delivery that is due from an earlier epoch. -/
def Grant.undeliveredBefore (g : Grant) (n : Nat) : Option (Grant × Nat) :=
  match g.due with
  | some (.undelivered c, e) => if e < n then some (g, c) else none
  | _ => none

theorem grantDelivered_eq (s : State) : exec .grantDelivered s =
    .next (match s.canvas.grants.find? (·.deliveredBefore s.epoch.n) with
      | some g => (s.modCanvas (·.settle g .delivered)).emit evGrantDelivered g.robot g.gen g.tag g.frames
      | none => s) := rfl

theorem grantUndelivered_eq (s : State) : exec .grantUndelivered s =
    .next (match s.canvas.grants.findSome? (·.undeliveredBefore s.epoch.n) with
      | some (g, cause) => (s.modCanvas (·.settle g .undelivered)).emit evGrantUndelivered g.robot g.gen g.tag cause
      | none => s) := rfl

theorem deliveredBefore_of_none {g : Grant} (h : g.due = none) (n : Nat) : g.deliveredBefore n = false := by
  rw [Grant.deliveredBefore, h]

theorem undeliveredBefore_of_none {g : Grant} (h : g.due = none) (n : Nat) : g.undeliveredBefore n = none := by
  rw [Grant.undeliveredBefore, h]

theorem find_delivered_none {l : List Grant} (h : ∀ g ∈ l, g.due = none) (n : Nat) :
    l.find? (·.deliveredBefore n) = none :=
  List.find?_eq_none.mpr fun g hg => ne_true_of_eq_false (deliveredBefore_of_none (h g hg) n)

theorem find_undelivered_none {l : List Grant} (h : ∀ g ∈ l, g.due = none) (n : Nat) :
    l.findSome? (·.undeliveredBefore n) = none :=
  List.findSome?_eq_none_iff.mpr fun g hg => undeliveredBefore_of_none (h g hg) n

theorem outcomes_idle {s : State} (h : ∀ g ∈ s.canvas.grants, g.due = none) :
    exec .grantDelivered s = .next s ∧ exec .grantUndelivered s = .next s := by
  rw [grantDelivered_eq, grantUndelivered_eq, find_delivered_none h, find_undelivered_none h]
  exact ⟨rfl, rfl⟩

section
variable {s : State} {pre post : List Grant} {g : Grant} {e cause : Nat} (hg : s.canvas.grants = pre ++ g :: post)
  (hp : ∀ x ∈ pre, x.due = none) (he : e < s.epoch.n)
include hg hp he

/-- The first grant with an outcome due has it recorded. -/
theorem grantDelivered_records (hd : g.due = some (.delivered, e)) : ∃ t, exec .grantDelivered s = .next t ∧
    g ∉ t.canvas.grants ∧
    (∀ x ∈ t.canvas.grants, x ∈ s.canvas.grants ∨ x = { g with state := .delivered, due := none }) ∧
    Logged t evGrantDelivered g.robot g.gen g.tag g.frames := by
  have due : g.deliveredBefore s.epoch.n = true := by
    rw [Grant.deliveredBefore, hd]
    exact decide_eq_true he
  have found : s.canvas.grants.find? (·.deliveredBefore s.epoch.n) = some g := by
    rw [hg, List.find?_append, find_delivered_none hp, Option.none_or, List.find?_cons_of_pos (by exact due)]
  rw [grantDelivered_eq, found]
  refine ⟨_, rfl, ?_, ?_, _, rfl⟩ <;> rw [emit_canvas, modCanvas_canvas]
  · exact not_mem_settle _ (by rw [hd]; nofun) _
  · exact settle_grants _ _ _

theorem grantUndelivered_records (hd : g.due = some (.undelivered cause, e)) :
    ∃ t, exec .grantUndelivered s = .next t ∧ g ∉ t.canvas.grants ∧
    (∀ x ∈ t.canvas.grants, x ∈ s.canvas.grants ∨ x = { g with state := .undelivered, due := none }) ∧
    Logged t evGrantUndelivered g.robot g.gen g.tag cause := by
  have due : g.undeliveredBefore s.epoch.n = some (g, cause) := by
    rw [Grant.undeliveredBefore, hd]
    exact if_pos he
  have found : s.canvas.grants.findSome? (·.undeliveredBefore s.epoch.n) = some (g, cause) := by
    rw [hg, List.findSome?_append, find_undelivered_none hp, Option.none_or, List.findSome?_cons, due]
  rw [grantUndelivered_eq, found]
  refine ⟨_, rfl, ?_, ?_, _, rfl⟩ <;> rw [emit_canvas, modCanvas_canvas]
  · exact not_mem_settle _ (by rw [hd]; nofun) _
  · exact settle_grants _ _ _

end

/-! ## Lost robots (R200) -/

/-- The robot at the head is marked lost, out of the batch. -/
def State.markLost (s : State) (i : Nat) : State :=
  (s.modCanvas (·.popReq)).modCanvas fun c => c.modRobot i fun x => { x with lost := true }

theorem markLost_robot (s : State) (i : Nat) : (s.markLost i).canvas.robot i = { s.canvas.robot i with lost := true } :=
  tblGet_put_of_ne (fun e => Bool.false_ne_true (congrArg CRobot.lost e).symm) _

/-- The rings of squares rest on the links alone. -/
theorem hopRings_of_links {c d : Canvas} (h : d.links = c.links) (n : Nat) (seen ring : List Nat) :
    hopRings d n seen ring = hopRings c n seen ring := by
  induction n generalizing seen ring with
  | zero => rfl
  | succ n ih =>
    rw [hopRings, hopRings, h, ih]

theorem within_of_links {c d : Canvas} (h : d.links = c.links) (q n : Nat) : d.within q n = c.within q n := by
  rw [Canvas.within, Canvas.within, hopRings_of_links h]

theorem markLost_squares (s : State) (i : Nat) : (s.markLost i).lostSquares i = s.lostSquares i := by
  have links : (s.markLost i).canvas.links = s.canvas.links := rfl
  unfold State.lostSquares
  rw [markLost_robot]
  simp only [within_of_links links]
  rfl

theorem persistCheck_cell (s : State) (left cause index : Nat) :
    (s.persistCheck left cause index).canvas.cell = s.canvas.cell := by
  unfold State.persistCheck
  split
  · rfl
  · rw [emit_canvas]
    rfl

theorem persistCheck_robots (s : State) (left cause index : Nat) :
    (s.persistCheck left cause index).canvas.robots = s.canvas.robots := by
  unfold State.persistCheck
  split
  · rfl
  · rw [emit_canvas]
    rfl

theorem persistCheck_twin (s : State) (left cause index : Nat) : (s.persistCheck left cause index).twin = s.twin := by
  unfold State.persistCheck
  split
  · rfl
  · rw [emit_twin]
    rfl

theorem standby_of_twin {s t : State} (h : t.twin = s.twin) : t.standby = s.standby := by
  rw [State.standby, State.standby, h]

section
variable (s : State) (i : Nat) (p : Nat → Bool)

theorem setLost_twin : (s.setLost i p).2.twin = s.twin := by
  unfold State.setLost
  split
  · rfl
  · exact persistCheck_twin ..

theorem setLost_robots : (s.setLost i p).2.canvas.robots = s.canvas.robots := by
  unfold State.setLost
  split
  · rfl
  · exact (persistCheck_robots ..).trans (blockSquares_robots ..)

theorem setLost_cell {j : Nat} (h : (s.canvas.cell j).state ≠ .free) :
    (s.setLost i p).2.canvas.cell j = s.canvas.cell j := by
  unfold State.setLost
  split
  · rfl
  · exact (congrFun (persistCheck_cell ..) j).trans (blockSquares_cell _ _ _ _ _ _ h)

theorem setLost_blocks (hf : s.canvas.fits (s.lostSquares i) = true) {q j : Nat} (hq : q ∈ s.lostSquares i)
    (hj : j < 128) (hp : p (q * 128 + j) = true) : ((s.setLost i p).2.canvas.cell (q * 128 + j)).state ≠ .free := by
  unfold State.setLost
  split
  · rename_i none
    rw [none] at hq
    exact absurd hq List.not_mem_nil
  · dsimp only
    rw [persistCheck_cell]
    exact blockSquares_blocks _ _ _ _ _ _ hf hq hj hp

end

/-- The loss at the head takes effect, and the batch goes on. -/
theorem robotLost_marks {r : BitVec 8} {t0 m : Nat} {rest : List BatchReq} {s : State}
    (hb : s.canvas.batch = .lost r.toNat m :: rest) (hr : (s.canvas.robot r.toNat).lastReport = some t0)
    (hl : (s.canvas.robot r.toNat).lost = false) (hm : t0 + s.canvas.lostTime * 10 * ms = m) :
    ∃ p1 p2 p3, exec (.robotLost r []) s = .next
      ((((s.markLost r.toNat).setLost r.toNat s.canvas.mine).2.emit evRobotLost r.toNat p1 p2 p3).nextReq) := by
  have popped : (s.modCanvas (·.popReq)).canvas.lostTime = s.canvas.lostTime := rfl
  have stands :
      ((s.canvas.robot r.toNat).lost || t0 + (s.modCanvas (·.popReq)).canvas.lostTime * 10 * ms != m) = false := by
    rw [hl, popped, hm, Bool.false_or, bne_self_eq_false]
  change ∃ p1 p2 p3, execRobotLost r [] s = _
  rw [execRobotLost, hb]
  dsimp only
  rw [if_neg (not_not_intro rfl), hr]
  dsimp only
  rw [if_neg (ne_true_of_eq_false stands)]
  exact ⟨_, _, _, rfl⟩

theorem robotLost_blocks {r : BitVec 8} {t0 m : Nat} {rest : List BatchReq} {s : State}
    (hb : s.canvas.batch = .lost r.toNat m :: rest) (hs : s.standby = false)
    (hr : (s.canvas.robot r.toNat).lastReport = some t0) (hl : (s.canvas.robot r.toNat).lost = false)
    (hm : t0 + s.canvas.lostTime * 10 * ms = m) :
    ∃ t, exec (.robotLost r []) s = .next t ∧ (t.canvas.robot r.toNat).lost = true ∧
      (s.canvas.fits (s.lostSquares r.toNat) = true → ∀ q ∈ s.lostSquares r.toNat, ∀ j < 128,
        s.canvas.mine (q * 128 + j) = true → (t.canvas.cell (q * 128 + j)).state ≠ .free) ∧
      (∀ i, (s.canvas.cell i).state ≠ .free → t.canvas.cell i = s.canvas.cell i) := by
  obtain ⟨p1, p2, p3, ht⟩ := robotLost_marks hb hr hl hm
  generalize hu : ((s.markLost r.toNat).setLost r.toNat s.canvas.mine).2 = u at ht
  have own : (u.emit evRobotLost r.toNat p1 p2 p3).standby = false := by
    rw [standby_of_twin ((emit_twin ..).trans ((congrArg State.twin hu.symm).trans (setLost_twin ..)))]
    exact hs
  have kept := nextReq_offQueue own
  rw [emit_canvas] at kept
  have cells := cell_of_offQueue kept
  refine ⟨_, ht, ?_, fun hf q hq j hj hp => ?_, fun i hi => ?_⟩
  · have robots : u.canvas.robots = (s.markLost r.toNat).canvas.robots := hu ▸ setLost_robots ..
    rw [Canvas.robot, robots_of_offQueue kept, robots]
    exact congrArg CRobot.lost (markLost_robot s r.toNat)
  · rw [cells, ← hu]
    exact setLost_blocks _ _ _ (by rwa [markLost_squares]) (by rwa [markLost_squares]) hj hp
  · rw [cells, ← hu]
    exact setLost_cell _ _ _ hi

end Sys2Proof.Machine
end

section
/-! The persistent remainder, the scrub and the probes of the Canvas (R174, R202, R206, R207, R387), and what O26
states of the Canvas over time. -/

namespace Sys2Proof.Machine

/-! ## The remainder (R202) -/

/-- One hold's remainder is applied as places allow. -/
def Canvas.applyHold (c : Canvas) (h : Hold) : Canvas :=
  let (ok, rest) := takeFit c.stored (h.rest.map fun q => (q, false))
  let c := { c with holds := c.holds.map fun (y : Hold) =>
    if y.owner = h.owner then { y with squares := y.squares ++ ok, rest := rest } else y }
  let v : Cell := match h.owner with
    | .lost _ => Cell.blocked 1
    | .zone _ => Cell.blocked 2
    | .block n => Cell.blocked n
    | .park r g => { state := .held, halo := false, gen := g % 16, who := r }
  (c.setFree (fun _ => v) (cellsOf (ok.map (·.1)))).2

theorem persistRemainderApplied_eq (s : State) : exec .persistRemainderApplied s = .next (s.modCanvas fun c =>
    { c.holds.foldl Canvas.applyHold c with
      persistFull := (c.holds.foldl Canvas.applyHold c).holds.any fun h => h.rest != [] }) := rfl

/-- Where no hold has a remainder there is nothing to apply. -/
theorem applyHold_whole {c : Canvas} (hc : ∀ y ∈ c.holds, y.rest = []) {h : Hold} (hh : h.rest = []) :
    c.applyHold h = c := by
  have same : (c.holds.map fun (y : Hold) =>
      if y.owner = h.owner then { y with squares := y.squares ++ [], rest := [] } else y) = c.holds := by
    refine (List.map_congr_left fun y hy => ?_).trans (List.map_id _)
    split
    · rw [List.append_nil, ← hc y hy]
      rfl
    · rfl
  unfold Canvas.applyHold
  rw [hh, List.map_nil, takeFit]
  dsimp only
  rw [same]
  rfl

theorem applyHolds_whole {c : Canvas} (hc : ∀ y ∈ c.holds, y.rest = []) (l : List Hold) (hl : ∀ h ∈ l, h.rest = []) :
    l.foldl Canvas.applyHold c = c := by
  induction l with
  | nil => rfl
  | cons h l ih =>
    rw [List.foldl_cons, applyHold_whole hc (hl h List.mem_cons_self)]
    exact ih fun x hx => hl x (List.mem_cons_of_mem _ hx)

theorem persistRemainderApplied_applies (s : State) : ∃ t, exec .persistRemainderApplied s = .next t ∧
    (t.canvas.persistFull = true ↔ ∃ h ∈ t.canvas.holds, h.rest ≠ []) ∧
    ((∀ h ∈ s.canvas.holds, h.rest = []) → t.canvas = { s.canvas with persistFull := false }) := by
  refine ⟨_, persistRemainderApplied_eq s, ?_, fun h => ?_⟩
  · rw [modCanvas_canvas]
    simp only [List.any_eq_true, bne_iff_ne]
  · have none : (s.canvas.holds.any fun h => h.rest != []) = false :=
      List.any_eq_false.mpr fun x hx => by simp [h x hx]
    rw [modCanvas_canvas, applyHolds_whole h _ h, none]

/-! ## The scrub (R207) -/

/-- The scrub goes on to the next word. -/
def State.scrubOn (s : State) : State := s.modCanvas fun c => { c with scrubAt := (c.scrubAt + 1) % 2 ^ 21 }

theorem cell_eccUncorr (c : Canvas) (n : Nat) : ({ c with eccUncorr := n } : Canvas).cell = c.cell := rfl

theorem canvasScrub_corrected (s : State) : ∃ t, exec (.canvasScrub .corrected) s = .next t ∧
    t.canvas.eccCorr = satAdd 16 s.canvas.eccCorr 1 ∧ t.canvas.cells = s.canvas.cells := ⟨_, rfl, rfl, rfl⟩

theorem canvasScrub_uncorrectable (s : State) : ∃ t, exec (.canvasScrub .uncorrectable) s = .next t ∧
    t.canvas.eccUncorr = satAdd 16 s.canvas.eccUncorr 1 ∧
    ∀ j < 4, s.canvas.used ((4 * s.canvas.scrubAt + j) / 128) = true →
      t.canvas.cell (4 * s.canvas.scrubAt + j) = Cell.blocked 3 := by
  refine ⟨(s.scrubOn.canvasEcc s.canvas.scrubAt).modTwin fun t => { t with eccAt := some s.now }, rfl, ?_,
    fun j hj hu => ?_⟩
  · rw [modTwin_canvas, canvasEcc_canvas]
    rfl
  · rw [modTwin_canvas, canvasEcc_canvas, cell_eccUncorr]
    exact blockWord_cell (c := s.scrubOn.canvas) hj hu

/-! ## Probes (R174) -/

theorem emit_dpProbes (s : State) (e : EvDef) (a b c d : Nat) :
    (s.emit e a b c d).host.dpProbes = s.host.dpProbes := (congrArg HostIf.dpProbes (emit_host s e a b c d) :)

theorem emit_dpInvalid (s : State) (e : EvDef) (a b c d : Nat) :
    (s.emit e a b c d).host.dpInvalid = s.host.dpInvalid := (congrArg HostIf.dpInvalid (emit_host s e a b c d) :)

theorem logInput_host (s : State) (x : LogEntry) : (s.logInput x).host = s.host := by
  unfold State.logInput
  split <;> rfl

/-- A word found uncorrectable leaves the counts of probes. -/
theorem canvasEcc_dpProbes (s : State) (w : Nat) : (s.canvasEcc w).host.dpProbes = s.host.dpProbes := by
  rw [State.canvasEcc, emit_dpProbes, modCanvas_host, logInput_host]

theorem canvasEcc_dpInvalid (s : State) (w : Nat) : (s.canvasEcc w).host.dpInvalid = s.host.dpInvalid := by
  rw [State.canvasEcc, emit_dpInvalid, modCanvas_host, logInput_host]

/-- A presented word shows its validity in bit 31. -/
theorem flagOf_presented (valid corr : Bool) (age cell : Nat) : flagOf (presented valid corr age cell) 31 = valid := by
  have value : (presented valid corr age cell).toNat / 2 ^ 31 % 2 = bit valid % 2 := by
    simp only [presented, pack, packNat, BitVec.toNat_ofNat]
    omega
  rw [flagOf, fieldOf, bitsOf]
  exact (congrArg (· == 1) value).trans (by cases valid <;> rfl)

theorem probe_uncorrectable (s : State) (i : Nat) : s.probe i .uncorrectable =
    (presented false false (ageOf s.canvas.now (i % 128)) 0xC003, s.canvasEcc (i / 4)) := rfl

theorem probe_ok (s : State) (i : Nat) {m : Ecc} (h : m ≠ .uncorrectable) :
    s.probe i m = (presented true (m == .corrected) (ageOf s.canvas.now (i % 128)) (s.canvas.cell i).word, s) := by
  unfold State.probe
  cases m with
  | uncorrectable => exact absurd rfl h
  | ok => rfl
  | corrected => rfl

/-- A probe by the direct port is counted (Table 12-9). -/
def HostIf.probed (h : HostIf) (valid : Bool) : HostIf :=
  { h with
    dpProbes := satAdd 16 h.dpProbes 1
    dpInvalid := if valid then h.dpInvalid else satAdd 16 h.dpInvalid 1 }

theorem probed_dpProbes (h : HostIf) (valid : Bool) : (h.probed valid).dpProbes = satAdd 16 h.dpProbes 1 := rfl

theorem probed_dpInvalid (h : HostIf) : (h.probed false).dpInvalid = satAdd 16 h.dpInvalid 1 := rfl

theorem dpCanvasProbe_eq {s : State} (hd : s.dpUp = true) (cell : BitVec 23) (m : Ecc) :
    exec (.dpCanvasProbe cell m) s = .next (((s.probe cell.toNat m).2.modHost
      (·.probed (flagOf (s.probe cell.toNat m).1 31))).put (.busRead (s.probe cell.toNat m).1.toNat)) := if_pos hd

theorem dpCanvasProbe_uncorrectable {s : State} (hd : s.dpUp = true) (cell : BitVec 23) :
    exec (.dpCanvasProbe cell .uncorrectable) s =
      .next (((s.canvasEcc (cell.toNat / 4)).modHost (·.probed false)).put
        (.busRead (presented false false (ageOf s.canvas.now (cell.toNat % 128)) 0xC003).toNat)) := by
  have h := dpCanvasProbe_eq hd cell .uncorrectable
  rw [probe_uncorrectable, flagOf_presented] at h
  exact h

theorem dpCanvasProbe_ok {s : State} (hd : s.dpUp = true) (cell : BitVec 23) {m : Ecc} (hm : m ≠ .uncorrectable) :
    exec (.dpCanvasProbe cell m) s = .next ((s.modHost (·.probed true)).put (.busRead (presented true (m == .corrected)
      (ageOf s.canvas.now (cell.toNat % 128)) (s.canvas.cell cell.toNat).word).toNat)) := by
  have h := dpCanvasProbe_eq hd cell m
  rw [probe_ok s _ hm, flagOf_presented] at h
  exact h

theorem dpCanvasProbe_shows {s : State} (hd : s.dpUp = true) (cell : BitVec 23) (m : Ecc) :
    ∃ t, exec (.dpCanvasProbe cell m) s = .next t ∧ t.host.dpProbes = satAdd 16 s.host.dpProbes 1 ∧
    (m ≠ .uncorrectable → t.canvas = s.canvas ∧ t.ev.out = .busRead (presented true (m == .corrected)
      (ageOf s.canvas.now (cell.toNat % 128)) (s.canvas.cell cell.toNat).word).toNat :: s.ev.out) ∧
    (m = .uncorrectable → t.host.dpInvalid = satAdd 16 s.host.dpInvalid 1 ∧ t.ev.out.head? = some (.busRead
      (presented false false (ageOf s.canvas.now (cell.toNat % 128)) 0xC003).toNat)) := by
  by_cases h : m = .uncorrectable
  · subst h
    refine ⟨_, dpCanvasProbe_uncorrectable hd cell, ?_, (absurd rfl ·), fun _ => ⟨?_, ?_⟩⟩
    · rw [put_host, modHost_host, probed_dpProbes, canvasEcc_dpProbes]
    · rw [put_host, modHost_host, probed_dpInvalid, canvasEcc_dpInvalid]
    · rw [put_out, List.head?_cons]
  · exact ⟨_, dpCanvasProbe_ok hd cell h, rfl, fun _ => ⟨rfl, rfl⟩, (absurd · h)⟩

/-- Words that read without an error are shown in turn. -/
theorem probeRun_ok (s : State) (l : List Nat) : probeRun (l.map fun i => (i, .ok)) s =
    s.modEv fun e => { e with out := (l.map fun i => .busRead (presented true false
      (ageOf s.canvas.now (i % 128)) (s.canvas.cell i).word).toNat).reverse ++ e.out } := by
  induction l generalizing s with
  | nil => rfl
  | cons i l ih =>
    rw [List.map_cons, probeRun, probe_ok s i (m := .ok) (by decide)]
    dsimp only
    rw [ih]
    simp only [List.map_cons, List.reverse_cons, List.append_assoc]
    rfl

/-- Where the port is down each word reads 0. -/
theorem zeroReads_out {α : Type} (s : State) (l : List α) :
    (l.foldl (fun s _ => s.put (.busRead 0)) s).ev.out = List.replicate l.length (.busRead 0) ++ s.ev.out := by
  induction l generalizing s with
  | nil => rfl
  | cons a l ih =>
    rw [List.foldl_cons, ih, List.length_cons, List.replicate_succ', List.append_assoc]
    rfl

theorem pcieCanvasRead_shows {n : Nat} (hn : n ≤ 16) (cell : BitVec 23) (s : State) :
    (s.dpUp = true → ∃ t, exec (.pcieCanvasRead (0x2000000 + 4 * cell.toNat) n []) s = .next t ∧
      t.canvas = s.canvas ∧ t.ev.out =
        ((List.range n).map fun j => .busRead (presented true false (ageOf s.canvas.now ((cell.toNat + j) % 128))
          (s.canvas.cell (cell.toNat + j)).word).toNat).reverse ++ s.ev.out) ∧
    (s.dpUp = false → ∃ t, exec (.pcieCanvasRead (0x2000000 + 4 * cell.toNat) n []) s = .next t ∧
      t.ev.out = List.replicate n (.busRead 0) ++ s.ev.out) := by
  have covered : ((List.range n).map fun j =>
      ((0x2000000 + 4 * cell.toNat - 0x2000000) / 4 + j, ([] : List Ecc).getD j .ok)) =
      ((List.range n).map fun j => cell.toNat + j).map fun i => (i, .ok) := by
    rw [List.map_map]
    refine List.map_congr_left fun j _ => ?_
    rw [Nat.add_sub_cancel_left, Nat.mul_div_cancel_left _ (by decide)]
    rfl
  refine ⟨fun hd => ?_, fun hd => ?_⟩
  · change ∃ t, execPcieCanvasRead _ _ _ s = _ ∧ _
    rw [execPcieCanvasRead, if_neg (by omega), if_pos hd, covered, probeRun_ok, List.map_map]
    exact ⟨_, rfl, rfl, rfl⟩
  · change ∃ t, execPcieCanvasRead _ _ _ s = _ ∧ _
    rw [execPcieCanvasRead, if_neg (by omega), if_neg (ne_true_of_eq_false hd)]
    refine ⟨_, rfl, ?_⟩
    rw [zeroReads_out, List.length_range]

theorem pcieCanvasRead_long {n : Nat} (hn : 16 < n) (addr : Nat) (ms : List Ecc) (s : State) :
    exec (.pcieCanvasRead addr n ms) s = .next (s.put .unsupported) := by
  change execPcieCanvasRead addr n ms s = _
  rw [execPcieCanvasRead, if_pos hn]

/-! ## The obligation -/

/-- Settles O26: boundaries, sweeps, batches, reports, outcomes, losses, the remainder, the scrub and the probes. -/
theorem canvasTimeReportsAndProbes : Obligations.CanvasTimeReportsAndProbes := by
  refine ⟨fun s => ⟨canvasSlotBoundary_frees, canvasSlotBoundary_waits⟩, fun x rest s => sweepComplete_writes,
    fun s => ⟨fun x => sweepLate_logs, sweepLate_idle⟩, ?_, fun s => grantBatch_waits, ?_, ?_, ?_,
    fun s => outcomes_idle, fun r t0 m rest s => robotLost_blocks, persistRemainderApplied_applies, ?_,
    fun cell m s hd => dpCanvasProbe_shows hd cell m, fun cell n s hn => pcieCanvasRead_shows hn cell s,
    fun addr n ms s hn => pcieCanvasRead_long hn addr ms s⟩
  · rintro host s hb hr hs rfl
    exact grantBatch_takes hb hr hs
  · intro r rest bad s hb
    obtain ⟨t, ht, ended, heard⟩ := reportHandling_hears hb bad
    exact ⟨t, ht, ended, heard.last, heard.reported, heard.joined, heard.found⟩
  · exact fun w d s ha hr hw => ⟨hostGrantGo_busy ha hr hw, hostGrantGo_taken ha hr hw, hostGrantGo_shut ha hr hw⟩
  · exact fun pre post g e cause s hg hp he => ⟨grantDelivered_records hg hp he, grantUndelivered_records hg hp he⟩
  · exact fun s => ⟨rfl, canvasScrub_corrected s, canvasScrub_uncorrectable s⟩

end Sys2Proof.Machine
end

section
/-! The commit of a grant that is cut short (R182, R183, R206), which O25 misstates: its last clause takes any table of
cells, also one that lists a cell twice. A cell that the undo log frees loses its first entry, and the second one, of
another robot, then shows. The cells of every run are in canonical form (`Canvas.wf`, as the first clause of O25
demands), where a cell has one entry, so no run reaches such a state. -/

namespace Sys2Proof.Machine

/-- A commit that fails for no word found by the command at hand gives its cells back and is refused. -/
theorem failCommit_restores (s : State) (q : BatchReq) (h : Desc) (k : Commit) (r : Refused) :
    s.failCommit q h k r false = (s.modCanvas fun c => c.rollback k.undo).refuseReq q h r := by
  unfold State.failCommit
  cases r.cell <;> rfl

theorem finishReq_twin (s : State) (q : BatchReq) (h : Desc) (w : Word) : (s.finishReq q h w).twin = s.twin := by
  unfold State.finishReq
  cases q <;> rfl

theorem showConflict_twin (s : State) (r : Refused) : (s.showConflict r).twin = s.twin := by
  unfold State.showConflict
  split <;> rfl

theorem refuseReq_twin (s : State) (q : BatchReq) (h : Desc) (r : Refused) : (s.refuseReq q h r).twin = s.twin := by
  rw [refuseReq_eq, emit_twin, finishReq_twin, showConflict_twin]

section
variable {s : State} {k : Commit} {q : BatchReq} {rest : List BatchReq} (hk : s.canvas.commit = some k)
  (hb : s.canvas.batch = q :: rest)
include hk hb

/-- A commit one of whose words was found uncorrectable meanwhile is refused with code 2. -/
theorem grant_cutShort (hx : ∃ x ∈ k.undo, s.canvas.cell x.1 = Cell.blocked 3) (bad1 bad2 : List (BitVec 21))
    (upTo : Option Nat) :
    ∃ r : Refused, r.code = 2 ∧ exec (.grant bad1 bad2 upTo) s =
      .next ((s.modCanvas fun c => c.rollback k.undo).refuseReq q (descOf k.desc) r).nextReq := by
  have found : (k.undo.find? fun x => s.canvas.cell x.1 == Cell.blocked 3).isSome = true := by
    obtain ⟨x, hx, blocked⟩ := hx
    exact List.find?_isSome.mpr ⟨x, hx, beq_iff_eq.mpr blocked⟩
  obtain ⟨x, hx⟩ := Option.isSome_iff_exists.mp found
  change ∃ r : Refused, r.code = 2 ∧ execGrant bad1 bad2 upTo s = _
  rw [execGrant, hk, hb]
  dsimp only
  rw [State.runCommit, hx]
  dsimp only
  rw [failCommit_restores]
  exact ⟨_, rfl, rfl⟩

/-- Its cells are those that the undo log gives back. -/
theorem grant_cutShort_cells (hs : s.standby = false) (hx : ∃ x ∈ k.undo, s.canvas.cell x.1 = Cell.blocked 3)
    (bad1 bad2 : List (BitVec 21)) (upTo : Option Nat) :
    ∃ t, exec (.grant bad1 bad2 upTo) s = .next t ∧ t.canvas.cell = (s.canvas.rollback k.undo).cell := by
  obtain ⟨r, -, ht⟩ := grant_cutShort hk hb hx bad1 bad2 upTo
  refine ⟨_, ht, ?_⟩
  have own := (standby_of_twin (refuseReq_twin (s.modCanvas fun c => c.rollback k.undo) q (descOf k.desc) r)).trans hs
  rw [cell_of_offQueue (nextReq_offQueue own), cell_of_offQueue (refuseReq_offQueue ..), modCanvas_canvas]

end

/-! ## A cell listed twice -/

/-- A cell HELD by a robot. -/
def heldCell (r : Nat) : Cell := { Cell.free with
  state := .held
  who := r }

/-- The commit of a grant that has marked cells 5 and 6, both FREE before. -/
def freshCommit : Commit := { desc := [], todo := [], undo := [(5, Cell.free), (6, Cell.free)], second := true }

/-- Of the one square used, cell 5 is listed twice, for robots 1 and 2, and the word of cell 6 was found uncorrectable
during the commit. -/
def listedTwice : State := State.reset.modCanvas fun c => { c with
  n := 1
  map := List.replicate 14 0 ++ [1, 0]
  batch := [.host []]
  commit := some freshCommit
  cells := [(5, heldCell 1), (5, heldCell 2), (6, Cell.blocked 3)] }

theorem listedTwice_cell : listedTwice.canvas.cell 5 = heldCell 1 := by decide

theorem listedTwice_rollback : (listedTwice.canvas.rollback freshCommit.undo).cell 5 = heldCell 2 := by decide

/-- Refutes O25: the GRANT of `listedTwice` ends and turns cell 5 from HELD by robot 1 into HELD by robot 2. -/
theorem not_grantsHoldWholeOrNotAtAll : ¬ Obligations.GrantsHoldWholeOrNotAtAll := by
  rintro ⟨-, -, keepsHolder⟩
  have blocked : ∃ x ∈ freshCommit.undo, listedTwice.canvas.cell x.1 = Cell.blocked 3 := by decide
  have fresh : ∀ x ∈ freshCommit.undo, x.2.state ≠ .held := by decide
  obtain ⟨t, ht, cells⟩ :=
    grant_cutShort_cells (s := listedTwice) (k := freshCommit) rfl rfl (by decide) blocked [] [] none
  have after : t.canvas.cell 5 = heldCell 2 := by rw [cells, listedTwice_rollback]
  have same := keepsHolder [] [] none _ listedTwice t (.inl rfl)
    (fun k hk x hx held => absurd held (fresh x (by obtain rfl := Option.some.inj hk; exact hx))) ht 5
    (by rw [listedTwice_cell]; rfl) (by rw [after]; rfl)
  rw [after, listedTwice_cell] at same
  exact absurd same (by decide)

end Sys2Proof.Machine
end
